-- ==== Sys2Proof/Word.lean ====
section
/-!
DEFINITION. Words of the model: octets and the fixed-width words that the spec numbers bit by bit
(R3). Counts, instants, lengths and indices are plain naturals.
-/
namespace Sys2Proof

/-- One octet. -/
abbrev Byte := BitVec 8

/-- A unit identifier (R10). -/
abbrev Uid := BitVec 16

/-- A 32-bit word of a ring or a time wire. -/
abbrev Word32 := BitVec 32

end Sys2Proof
end

