-- ==== Sys2Proof/Syntax.lean ====
section
/-!
DEFINITION. The commands of the block: one constructor per row of spec/opcode_table.json, in its
order, and the operand records they carry. Every command's first operand is `dt`, the interpolator
steps of 6.25 ps elapsed since the command before it (log entries 2 and 7).
-/
namespace Sys2Proof

/-- What the hub reads of a Proros frame that carries a request (R619, R627, R628, R634).
`tagOk` says that the frame's tag equals the HMAC of R633 (log entry 10). -/
structure PortHdr where
  ether : Nat
  version : Nat
  payloadLen : Nat
  actualLen : Nat
  dest : Nat
  source : Nat
  session : Nat
  seq : Nat
  tagOk : Bool
  deriving DecidableEq, Repr

/-- Where a request comes from: the management port, or on-chip firmware over VC1 (R654, R694). -/
inductive Req where
  | port (h : PortHdr)
  | chip (uid : Nat)
  deriving DecidableEq, Repr

/-- The scan of one engine in a frame report (R369): engine number within the die, its PROGRESS word and RESIDENT
byte. -/
structure EngineReport where
  engine : Nat
  progress : Nat
  resident : Nat
  deriving DecidableEq, Repr

/-- What goes through the test access port up to an Update-IR (R738, R739): the opcode, and the 28 cells that a scan of
the data register under the instruction before it has shifted in, if there was one. -/
structure JtagScan where
  opcode : Nat
  cells : Option Nat
  deriving DecidableEq, Repr

/-- What the scan and the sensors of a runner's frame report show (R56, R344, R377, R544); its counts, its sink fill
and its clock bits are the runner's own. -/
structure FrameRep where
  /-- HEARTBEAT of clusters 0–7; none where the tap did not answer. -/
  beats : List (Option Nat)
  engines : List EngineReport
  /-- Binding octets read since the previous report: slot of the die, 128 octets (R377). -/
  bindings : List (Nat × List Byte)
  diodes : List Int
  droops : List Nat
  /-- Shakeout progress count (R344). -/
  progress : Nat
  deriving DecidableEq, Repr

/-- The rising edge of TICK_IN as the receiver sees it (R134). -/
structure TickEdge where
  /-- Length of the high pulse in ns. -/
  highNs : Nat
  deriving DecidableEq, Repr

/-- A capture as it lands in a buffer slot: 64 header octets and the body (R476). -/
structure CaptureMsg where
  bar : Nat
  slot : Nat
  header : List Byte
  body : List Byte
  /-- What a fault of the bar changes in its result: word, mask (R482). -/
  upset : List (Nat × Nat)
  deriving DecidableEq, Repr

/-- A PMBus read: the word, and whether it was acknowledged with a matching PEC (R548, R549). -/
structure PmbusWord where
  rail : Nat
  command : Nat
  ok : Bool
  word : Nat
  deriving DecidableEq, Repr

/-- What D3 reads of strap and fuses (R596, R599): first conversion, the 8 repeats, and the words
that needed correction; `fuseBad` is a word that cannot be corrected. -/
structure OptionRead where
  strapMv : Nat
  repeats : List Nat
  fuseCorrected : List Nat
  fuseBad : Bool
  deriving DecidableEq, Repr

/-- A Proros SESSION frame with SESSION 0 (R631): its header and the payload octets. -/
structure Hello where
  hdr : PortHdr
  payload : List Byte
  deriving DecidableEq, Repr

/-- The outcome of the SUSPECT or admission self-test (R437, R438). -/
structure SelfTest where
  probeFails : Nat
  untested : Nat
  portsFailed : Nat
  marchErrors : Nat
  deriving DecidableEq, Repr

/-- The commands of the block, one per row of the table. -/
inductive Instr where
  -- frame reports and the tick
  | frameTick (dt : Nat) (beatA beatR : Bool)
  | frameReport (dt : Nat) (die : Nat) (rep : FrameRep)
  | reportEvaluation (dt : Nat)
  | hbMiss (dt : Nat) (cluster : Nat)
  | hangEngine (dt : Nat) (uid : Nat) (engine : Nat)
  | runnerSilent (dt : Nat) (die : Nat)
  | tapSilent (dt : Nat) (cluster : Nat)
  | sensorFail (dt : Nat) (cluster : Nat)
  | commHoldSet (dt : Nat) (die : Nat)
  | commHoldClear (dt : Nat) (die : Nat)
  | jobAdmission (dt : Nat)
  | slotJobCheck (dt : Nat) (slot : Nat)
  | samplingSlot (dt : Nat) (slot : Nat)
  | commitQueueFreeze (dt : Nat)
  -- scheduled actions
  | schedQuench (dt : Nat) (req : Req) (entry time flags : Nat)
  | schedPodQuench (dt : Nat) (req : Req) (entry time flags : Nat)
  | schedStep (dt : Nat) (req : Req) (entry time flags : Nat)
  | schedResume (dt : Nat) (req : Req) (entry time flags : Nat)
  | schedFrameLen (dt : Nat) (req : Req) (entry time flags : Nat)
  | schedTimeStep (dt : Nat) (req : Req) (entry time flags : Nat)
  | schedRoleSwap (dt : Nat) (req : Req) (entry time flags : Nat)
  | schedEmpty (dt : Nat) (req : Req) (entry : Nat)
  | frameLenChange (dt : Nat) (entry : Nat)
  | timeStepApply (dt : Nat) (entry : Nat)
  | roleSwapDue (dt : Nat) (entry : Nat)
  -- takeover
  | lockstepFault (dt : Nat) (core : Nat)
  | tbuClockGoodLost (dt : Nat)
  | takeoverSwitch (dt : Nat)
  | takeoverOldReset (dt : Nat)
  | runnerActiveCast (dt : Nat)
  | takeoverNotify (dt : Nat)
  -- quench commands and casts
  | quCmdArm (dt : Nat) (req : Req)
  | quCmdCancel (dt : Nat) (req : Req)
  | quCmdStep (dt : Nat) (req : Req)
  | quCmdResume (dt : Nat) (req : Req)
  | quCmdPeek (dt : Nat) (req : Req)
  | castReceive (dt : Nat) (target : Nat) (cast : List Byte)
  | castResponse (dt : Nat) (response : List Byte)
  | castRetry (dt : Nat) (castId : Nat)
  | castUnresponsive (dt : Nat) (castId : Nat)
  | quenchDecision (dt : Nat)
  | holdReceive (dt : Nat) (target : Nat) (word : Word32)
  | cutTaken (dt : Nat)
  | quenchMembership (dt : Nat)
  | cutOrderReceive (dt : Nat) (port : Nat) (msg : List Byte)
  | cutWithdrawReceive (dt : Nat) (port : Nat) (msg : List Byte)
  | cutAckReceive (dt : Nat) (port : Nat) (msg : List Byte)
  | orderCopySend (dt : Nat)
  | cutAckSend (dt : Nat)
  | podCutSummary (dt : Nat)
  | stepSelectLate (dt : Nat)
  | stepStart (dt : Nat)
  | netRefreeze (dt : Nat)
  | stepPoll (dt : Nat) (cluster : Nat)
  | stepOverrun (dt : Nat) (cluster : Nat)
  | resumeAtTime (dt : Nat)
  | quCancelLate (dt : Nat) (entry : Nat)
  -- shakeout
  | soStart (dt : Nat) (req : Req)
  | soStartRef (dt : Nat) (req : Req)
  | soAbort (dt : Nat) (req : Req)
  | soFettleReserve (dt : Nat) (req : Req)
  | soAck (dt : Nat) (req : Req) (image : Nat)
  | soRecordRead (dt : Nat) (req : Req) (ownOk mirrorOk : Bool)
  | soHeaderRead (dt : Nat) (req : Req)
  | reserveWrite (dt : Nat) (req : Req) (idx sub value : Nat)
  | debugReadComplete (dt : Nat) (die uid type off : Nat) (status : Nat) (data : List Byte)
      (secureLines : List Nat)
  | debugReadTimeout (dt : Nat) (die uid type off : Nat)
  | recordWriteComplete (dt : Nat) (die uid type sub : Nat) (ownOk mirrorOk : Bool)
  | ladleWriteTimeout (dt : Nat) (die uid type : Nat)
  | sealPartReport (dt : Nat) (die tier : Nat)
  | sealResult (dt : Nat) (sum : Nat)
  | soRunnerLost (dt : Nat) (die : Nat)
  | shakeoutClose (dt : Nat)
  | reserveFettleDone (dt : Nat)
  -- hang procedure and contexts
  | hangWaitClear (dt : Nat)
  | hangCollect (dt : Nat)
  | contextRemove (dt : Nat) (req : Req) (ctx : Nat)
  | removeCastIssue (dt : Nat)
  | contextCastReceive (dt : Nat) (target : Nat) (cast : List Byte) (status : Nat) (uid engine : Nat)
  | removeCountComplete (dt : Nat) (castId : Nat)
  | drainElapsed (dt : Nat) (castId : Nat)
  | replayResponse (dt : Nat) (castId status uid engine : Nat)
  | replayStall (dt : Nat)
  | replayTimeout (dt : Nat)
  | contextFettleDone (dt : Nat) (ctx die : Nat)
  -- unit resets and recovery
  | unitResetPulse (dt : Nat) (req : Req) (uid part : Nat) (attested : Bool)
  | unitResetHold (dt : Nat) (req : Req) (uid part : Nat) (attested : Bool)
  | unitResetRelease (dt : Nat) (req : Req) (uid part : Nat) (attested : Bool)
  | unitResetAssert (dt : Nat)
  | unitResetReleaseDue (dt : Nat)
  | unitResetDone (dt : Nat)
  | l2Failed (dt : Nat)
  | recoveryLevel (dt : Nat) (req : Req) (value : Nat)
  | l3PhaseEnd (dt : Nat)
  | l3Failed (dt : Nat)
  | beaconReceive (dt : Nat) (port : Nat) (beacon : List Byte)
  | runnerNoTick (dt : Nat) (die : Nat)
  -- fault management
  | stepMark (dt : Nat) (w0 w1 w2 : Word32)
  | jobViewExpire (dt : Nat)
  | suspectEnter (dt : Nat)
  | suspectDump (dt : Nat)
  | selfTestEnd (dt : Nat) (results : SelfTest)
  | suspectCleared (dt : Nat)
  | suspectCmdClear (dt : Nat) (req : Req)
  | expel (dt : Nat) (req : Req) (order : List Byte)
  | expelRelease (dt : Nat) (req : Req) (order : List Byte)
  | expelPortFence (dt : Nat)
  | expelCut (dt : Nat)
  | expelCollect (dt : Nat)
  -- admission
  | admBegin (dt : Nat) (req : Req)
  | admServe (dt : Nat) (req : Req)
  | admAbort (dt : Nat) (req : Req)
  | admOpenReceive (dt : Nat) (die : Nat) (record : List Byte)
  | admRecordReceive (dt : Nat) (die : Nat) (record : List Byte)
  | admEndReceive (dt : Nat) (record : List Byte)
  | admStall (dt : Nat)
  | admSealResult (dt : Nat) (sum : Nat)
  | admFettleDone (dt : Nat)
  | admServeDone (dt : Nat) (complete : Bool) (sum bytes records : Nat)
  -- test bar
  | captureReceive (dt : Nat) (capture : CaptureMsg)
  | barComputeDone (dt : Nat) (bar : Nat) (upset : List (Nat × Nat))
  | captureTimeout (dt : Nat) (bar slot : Nat)
  | barSelfCheckDone (dt : Nat) (bar : Nat) (pass : Bool)
  | sdcStormClear (dt : Nat)
  | tbEventAck (dt : Nat) (req : Req) (seq : Nat)
  | tbQuarantineClear (dt : Nat) (req : Req) (idx : Nat)
  | tbProbeLoad (dt : Nat) (req : Req) (kernel : List Byte)
  | probeRunBar (dt : Nat) (req : Req) (kernel uid engine : Nat)
  | probeRunEngine (dt : Nat) (req : Req) (kernel uid engine : Nat)
  | probeOpDone (dt : Nat) (header : List Byte) (engineResult : List Nat) (upset : List (Nat × Nat))
  -- trace
  | traceLineReceive (dt : Nat) (die : Nat) (line : List Byte)
  | traceSwitchIssue (dt : Nat)
  -- PMBus
  | pmbusTransactionDone (dt : Nat) (read : PmbusWord)
  | pmbAlert (dt : Nat) (addr : Nat) (status : Nat)
  -- time base
  | tbNowRead (dt : Nat) (req : Req)
  | markCycle (dt : Nat) (core : Nat)
  | markReceive (dt : Nat) (uid : Nat) (msg : List Nat)
  | loadReceive (dt : Nat) (uid : Nat) (msg : List Nat)
  | stepMsgReceive (dt : Nat) (uid : Nat) (msg : List Nat)
  | calReqReceive (dt : Nat) (uid : Nat) (msg : List Nat)
  | calEchoLaunch (dt : Nat) (uid : Nat)
  | calEchoReceive (dt : Nat) (core : Nat) (msg : List Nat)
  | calSetReceive (dt : Nat) (uid : Nat) (msg : List Nat)
  | calEchoTimeout (dt : Nat) (core : Nat)
  | replicaFlywheel (dt : Nat) (uid : Nat)
  | replicaLost (dt : Nat) (uid : Nat)
  | refclkLost (dt : Nat)
  | refclkBack (dt : Nat)
  | tickOutDue (dt : Nat)
  | tickInEdge (dt : Nat) (edge : TickEdge)
  | tickInMissing (dt : Nat) (toggled level : Bool)
  -- pod time
  | syncSend (dt : Nat) (port : Nat)
  | syncReceive (dt : Nat) (port : Nat) (msg : List Byte)
  | gmDeclare (dt : Nat)
  | upstreamReselect (dt : Nat)
  | upstreamLost (dt : Nat)
  | gmLost (dt : Nat)
  | linkTrained (dt : Nat) (port : Nat)
  | loopMeasureDone (dt : Nat) (port : Nat) (halves : List Nat)
  | discardWindowEnd (dt : Nat)
  | asymTimeout (dt : Nat)
  | asymRetry (dt : Nat)
  | servoRestart (dt : Nat) (req : Req) (value : Nat)
  | timeQuery (dt : Nat) (req : Req)
  | timeAnswer (dt : Nat) (t1 t2 t3 t4 : Nat)
  | txtsStamp (dt : Nat) (id : Nat)
  | txtsQueuePop (dt : Nat) (req : Req)
  -- reset and start-up
  | porAssert (dt : Nat)
  | porRelease (dt : Nat)
  | warmReset (dt : Nat)
  | resetNShort (dt : Nat)
  | warmResetRelease (dt : Nat)
  | domainRelease (dt : Nat) (n : Nat)
  | d8Wave (dt : Nat) (w : Nat)
  | clockLost (dt : Nat) (domain die : Nat)
  | clockLostInService (dt : Nat) (domain die : Nat)
  | clockTimeout (dt : Nat) (domain die : Nat)
  | selfCheckDone (dt : Nat) (core : Nat) (pass : Bool)
  | optionLoadingEnd (dt : Nat) (read : OptionRead)
  | fwBoot (dt : Nat) (core : Nat)
  | stormRelease (dt : Nat) (req : Req) (value : Nat)
  | persistWriteDone (dt : Nat) (ok : Bool)
  -- management port
  | stage (dt : Nat) (req : Req) (idx sub off : Nat) (bytes : List Byte)
  | commit (dt : Nat) (req : Req) (indivisible notify : Bool)
  | blkOpen (dt : Nat) (req : Req) (idx sub dir off len : Nat)
  | blkData (dt : Nat) (req : Req) (block off : Nat) (bytes : List Byte)
  | blkClose (dt : Nat) (req : Req) (block crc : Nat)
  | blkDataResend (dt : Nat) (block seq : Nat)
  | blkTimeout (dt : Nat) (block : Nat)
  | notifyAck (dt : Nat) (session seq : Nat)
  | notifyResend (dt : Nat) (session seq : Nat)
  | claimSend (dt : Nat)
  | offerAssign (dt : Nat) (serial node count : Nat)
  | offerRevoke (dt : Nat) (serial : Nat)
  | sessionHello (dt : Nat) (hello : Hello)
  | sessionClose (dt : Nat) (session : Nat) (byPeer : Bool)
  | sessionTimeout (dt : Nat) (session : Nat)
  | plcaInactive (dt : Nat)
  | plcaReturn (dt : Nat)
  | registerWrite (dt : Nat) (req : Req) (idx sub off : Nat) (bytes : List Byte)
  | fwUpdate (dt : Nat) (req : Req) (image : List Byte)
  | fwUpdateApply (dt : Nat) (req : Req) (value : Nat)
  | fwUpdateStandbyReady (dt : Nat)
  | fwUpdateOldReady (dt : Nat)
  | fwUpdateTimeout (dt : Nat)
  -- lifecycle and authorization
  | lcRequest (dt : Nat) (req : Req) (request : List Byte)
  | lcFettleDone (dt : Nat) (area : Nat) (ok : Bool)
  | authChallenge (dt : Nat) (req : Req)
  | authToken (dt : Nat) (req : Req) (token : List Byte)
  | authEnded (dt : Nat) (session : Nat)
  | mgrKeysWrite (dt : Nat) (req : Req) (i : Nat) (key : List Byte)
  -- log
  | logAck (dt : Nat) (req : Req) (seq : Nat)
  | logRead (dt : Nat) (req : Req)
  -- tap ring
  | ringResponse (dt : Nat) (die : Nat) (words : List Nat) (secureLines : List Nat)
  | ringTimeout (dt : Nat) (die tag : Nat)
  -- pins
  | quenchIn (dt : Nat)
  | quenchInArm (dt : Nat)
  | quenchInDeferred (dt : Nat)
  | quenchInEntryFree (dt : Nat)
  | inputStuck (dt : Nat)
  | jtagUpdateIr (dt : Nat) (scan : JtagScan)
  | jtagTestReset (dt : Nat)
  -- host events
  | chillEntry (dt : Nat) (half : Nat)
  | chillExit (dt : Nat) (half : Nat)
  | linkDown (dt : Nat) (port : Nat)
  | traceStallTimeout (dt : Nat) (core : Nat)
  | optionWriteDone (dt : Nat) (ok : Bool)
  deriving DecidableEq, Repr

end Sys2Proof
end

