-- ==== Sys2Proof/Decode.lean ====
section
/-!
DEFINITION. The command that a word spells. The table of commands gives no row any bits: commands
reach the block as frames, casts, timers and pins, and each command's own meaning reads the octets
that the spec lays out. So no word spells a command (log entry 14).
-/
namespace Sys2Proof

/-- The command whose bits are `w`: none, as no row of the table has bits. -/
def decodeTableWord (_nbits _w : Nat) : Option Instr := none

end Sys2Proof
end

