-- ==== Sys2Proof/Machine/Formats.lean ====
section
/-!
DEFINITION. Octet orders (R4, R5), check sums, and the bit-field helpers every format uses.
-/
namespace Sys2Proof.Machine

/-- `v` in `n` octets, most significant first (R4). -/
def be : Nat → Nat → List Byte
  | 0, _ => []
  | n + 1, v => BitVec.ofNat 8 (v / 256 ^ n) :: be n v

/-- `v` in `n` octets, least significant first (R5). -/
def le : Nat → Nat → List Byte
  | 0, _ => []
  | n + 1, v => BitVec.ofNat 8 v :: le n (v / 256)

/-- The natural that octets spell, most significant first. -/
def ofBe (l : List Byte) : Nat := l.foldl (fun a b => a * 256 + b.toNat) 0

/-- The natural that octets spell, least significant first. -/
def ofLe (l : List Byte) : Nat := l.foldr (fun b a => a * 256 + b.toNat) 0

/-- `len` octets from `off`. -/
def slice (l : List Byte) (off len : Nat) : List Byte := (l.drop off).take len

/-- The big-endian field of `len` octets at `off`. -/
def fieldBe (l : List Byte) (off len : Nat) : Nat := ofBe (slice l off len)

/-- The little-endian field of `len` octets at `off`. -/
def fieldLe (l : List Byte) (off len : Nat) : Nat := ofLe (slice l off len)

/-- `n` zero octets. -/
def zeros (n : Nat) : List Byte := List.replicate n 0

/-- Cut or zero-pad to exactly `n` octets. -/
def fit (n : Nat) (l : List Byte) : List Byte := (l ++ zeros n).take n

/-- Two's complement of `v` in `bits` bits. -/
def ofSigned (bits : Nat) (v : Int) : Nat := (v % (2 ^ bits : Nat)).toNat

/-- The signed value of the low `bits` bits of `v`. -/
def toSigned (bits v : Nat) : Int :=
  let m := v % 2 ^ bits
  if m < 2 ^ (bits - 1) then (m : Int) else (m : Int) - (2 ^ bits : Nat)

/-- A Boolean as a bit. -/
def bit (b : Bool) : Nat := if b then 1 else 0

/-- Bit `i` of `v`. -/
def bitOf (v i : Nat) : Bool := v.testBit i

/-- One octet into a reflected CRC register. -/
def crcReflStep (poly : Nat) : Nat → Nat → Nat
  | 0, c => c
  | k + 1, c => crcReflStep poly k (if c % 2 = 1 then Nat.xor (c / 2) poly else c / 2)

/-- CRC-32C of octets (R61): reflected, polynomial 0x1EDC6F41, preset and inverted. -/
def crc32c (l : List Byte) : Nat :=
  Nat.xor (l.foldl (fun c b => crcReflStep 0x82F63B78 8 (Nat.xor c b.toNat)) 0xFFFFFFFF) 0xFFFFFFFF

/-- One octet into an unreflected 16-bit CRC register. -/
def crc16Step (poly : Nat) : Nat → Nat → Nat
  | 0, c => c
  | k + 1, c =>
    crc16Step poly k (if c ≥ 32768 then Nat.xor ((2 * c) % 65536) poly else 2 * c)

/-- CRC-16 with a given polynomial and preset, most significant bit first. -/
def crc16 (poly preset : Nat) (l : List Byte) : Nat :=
  l.foldl (fun c b => crc16Step poly 8 (Nat.xor c (b.toNat * 256))) preset

/-- 32-bit words as octets, each least significant byte first (R61, R103). -/
def wordsLe (ws : List Nat) : List Byte := ws.flatMap (le 4)

/-- A UID of a non-core unit (R10). -/
def unitUid (die code : Nat) : Nat := 0x8000 + die * 2048 + code

/-- Serial-number order modulo 2³²: `a` is later than `b` (R601). -/
def serialLater32 (a b : Nat) : Bool :=
  let d := (a + 2 ^ 32 - b % 2 ^ 32) % 2 ^ 32
  0 < d && d < 2 ^ 31

/-- `a / b` rounded up. -/
def ceilDiv (a b : Nat) : Nat := (a + b - 1) / b

/-- The first multiple of `m` at or after `a`. -/
def roundUp (a m : Nat) : Nat := if m = 0 then a else ceilDiv a m * m

/-- An integer quotient rounded to nearest, ties away from zero. -/
def divRound (a : Int) (b : Nat) : Int :=
  if a ≥ 0 then (((2 * a.toNat + b) / (2 * b) : Nat) : Int)
  else -((((2 * (-a).toNat + b) / (2 * b) : Nat)) : Int)

/-- Clamp to an interval. -/
def clampInt (lo hi v : Int) : Int := if v < lo then lo else if hi < v then hi else v

end Sys2Proof.Machine
end

