-- ==== Sys2Proof/Machine/BarMath.lean ====
section
/-!
DEFINITION. The arithmetic of a test bar: the formats, exact products, the rounding tree, scales and
the accumulation of a tile (R463, R465–R467), and the layout of a capture's body (R477).
-/
namespace Sys2Proof.Machine

/-! ## Numbers (R467) -/

/-- An exact number: a NaN, an infinity, or (−1)^neg × m × 2^e. -/
inductive Fp where
  | nan
  | inf (neg : Bool)
  | fin (neg : Bool) (m : Nat) (e : Int)
  deriving DecidableEq, Repr

/-- +0. -/
def fpZero : Fp := .fin false 0 0

/-- The exact product: a NaN from a NaN, or from an infinity and a zero. -/
def fpMul : Fp → Fp → Fp
  | .nan, _ | _, .nan => .nan
  | .inf a, .inf b => .inf (a != b)
  | .inf a, .fin b m _ | .fin b m _, .inf a => if m = 0 then .nan else .inf (a != b)
  | .fin a m e, .fin b n f => .fin (a != b) (m * n) (e + f)

/-- The exact sum: infinities of opposite signs give a NaN; a zero sum is −0 only from two negative
zeros. -/
def fpAdd : Fp → Fp → Fp
  | .nan, _ | _, .nan => .nan
  | .inf a, .inf b => if a = b then .inf a else .nan
  | .inf a, .fin _ _ _ | .fin _ _ _, .inf a => .inf a
  | .fin a m e, .fin b n f =>
    if m = 0 ∧ n = 0 then .fin (a && b) 0 0
    else
      let g := if e ≤ f then e else f
      let x : Int := (m * 2 ^ (e - g).toNat : Nat)
      let y : Int := (n * 2 ^ (f - g).toNat : Nat)
      let z := (if a then -x else x) + (if b then -y else y)
      if z = 0 then fpZero else .fin (decide (z < 0)) z.natAbs g

/-- A natural without its `k` low bits, rounded to nearest, ties to even. -/
def shiftRound (m k : Nat) : Nat :=
  let q := m / 2 ^ k
  let r := m % 2 ^ k
  if 2 * r < 2 ^ k ∨ (2 * r = 2 ^ k ∧ q % 2 = 0) ∨ k = 0 then q else q + 1

/-- Round to binary32, to nearest, ties to even, subnormals kept (R467). -/
def rne : Fp → Fp
  | .nan => .nan
  | .inf a => .inf a
  | .fin a m e =>
    if m = 0 then .fin a 0 0
    else
      let bits : Int := (Nat.log2 m : Nat) + 1
      let low : Int := if e + bits - 24 < -149 then -149 else e + bits - 24
      let n := if e < low then shiftRound m (low - e).toNat else m * 2 ^ (e - low).toNat
      let top := if n = 2 ^ 24 then low + 1 else low
      if 104 < top then .inf a else .fin a n low

/-- A number of FP32, BF16, FP16 or a minifloat with infinities: `eb` exponent and `mb` fraction bits. -/
def fpIeee (eb mb v : Nat) : Fp :=
  let neg := v.testBit (eb + mb)
  let x := v / 2 ^ mb % 2 ^ eb
  let f := v % 2 ^ mb
  let bias : Int := (2 ^ (eb - 1) : Nat) - 1
  if x = 2 ^ eb - 1 then (if f = 0 then .inf neg else .nan)
  else if x = 0 then .fin neg f (1 - bias - mb)
  else .fin neg (f + 2 ^ mb) (x - bias - mb)

/-- A number of a format without infinities, every encoding finite. -/
def fpFinite (eb mb : Nat) (bias : Int) (v : Nat) : Fp :=
  let neg := v.testBit (eb + mb)
  let x := v / 2 ^ mb % 2 ^ eb
  let f := v % 2 ^ mb
  if x = 0 then .fin neg f (1 - bias - mb) else .fin neg (f + 2 ^ mb) (x - bias - mb)

/-- An FP32 word as it is written: every NaN is 0x7FC0_0000 (R467). -/
def fpWord : Fp → Nat
  | .nan => 0x7FC00000
  | .inf a => bit a * 2 ^ 31 + 0x7F800000
  | .fin a m e =>
    let s := bit a * 2 ^ 31
    if m = 0 then s
    else
      let k := 23 - Nat.log2 m
      let up : Nat := if (k : Int) ≤ e + 149 then k else (e + 149).toNat
      let n := m * 2 ^ up
      let x := e - up
      if n < 2 ^ 23 then s + n else s + ((x + 150).toNat * 2 ^ 23) + (n - 2 ^ 23)

/-! ## Formats -/

/-- Bits of an element. -/
def formatBits (c : Nat) : Nat := [8, 8, 6, 6, 4, 8, 16, 16, 8].getD c 8

/-- A format with E8M0 scales. -/
def formatMx (c : Nat) : Bool := decide (c ≤ 5)

/-- The value of an element's bits. MXINT8 and INT8 elements are two's complement. -/
def element (c v : Nat) : Fp :=
  match c with
  | 0 => if v % 128 = 127 then .nan else fpFinite 4 3 7 v
  | 1 => fpIeee 5 2 v
  | 2 => fpFinite 3 2 3 v
  | 3 => fpFinite 2 3 1 v
  | 4 => fpFinite 2 1 1 v
  | 6 => fpIeee 8 7 v
  | 7 => fpIeee 5 10 v
  | _ =>
    let x := toSigned 8 v
    .fin (decide (x < 0)) x.natAbs (if c = 5 then -6 else 0)

/-- K lies in the format's range. -/
def depthOk (c k : Nat) : Bool :=
  if c ≤ 5 then decide (32 ≤ k) && decide (k ≤ 1024) && k % 32 = 0
  else if c ≤ 7 then decide (16 ≤ k) && decide (k ≤ 512) && k % 16 = 0
  else c = 8 && decide (16 ≤ k) && decide (k ≤ 1024) && k % 16 = 0

/-! ## A tile (R465, R466, R477) -/

/-- Octets of a vector of K elements, padded (R477). -/
def vectorBytes (c k : Nat) : Nat := roundUp (ceilDiv (formatBits c * k) 8) 8

/-- Octets of the A vectors, B vectors and scales. -/
def operandBytes (c k : Nat) : Nat := 32 * vectorBytes c k + if formatMx c then k else 0

/-- The operands of a tile: format, depth, C_IN as words (empty: none), A, B and scales as placed. -/
structure Tile where
  format : Nat
  k : Nat
  cIn : List Nat
  a : List Byte
  b : List Byte
  scales : List Byte
  deriving DecidableEq, Repr

/-- 256 words of four octets each, least significant first. -/
def wordsOfLe (l : List Byte) : List Nat := (List.range 256).map fun i => fieldLe l (4 * i) 4

/-- 256 words of four octets each, most significant first. -/
def wordsOfBe (l : List Byte) : List Nat := (List.range 256).map fun i => fieldBe l (4 * i) 4

/-- The elements of vector `i` of a block of 16 vectors. -/
def vector (c k : Nat) (block : List Byte) (i : Nat) : List Nat :=
  let n := ofLe (slice block (i * vectorBytes c k) (vectorBytes c k))
  (List.range k).map fun j => n / 2 ^ (formatBits c * j) % 2 ^ formatBits c

/-- The scale of block `m` of vector `i`; B's scales follow A's. -/
def Tile.scale (t : Tile) (second : Bool) (i m : Nat) : Nat :=
  fieldLe t.scales ((bit second * 16 + i) * (t.k / 32) + m) 1

/-- Pairs of a list summed and rounded. -/
def pairSums : List Fp → List Fp
  | x :: y :: l => rne (fpAdd x y) :: pairSums l
  | l => l

/-- One step of 16 products through the tree, the scale and the accumulation (R465). -/
def tileStep (mx : Bool) (xa xb : Nat) (ps : List Fp) (acc : Fp) : Fp :=
  let ps := if mx ∧ (xa = 255 ∨ xb = 255) then ps.map fun _ => Fp.nan else ps
  let q := (pairSums (pairSums (pairSums (pairSums ps)))).headD fpZero
  let q := if mx then rne (fpMul q (.fin false 1 ((xa : Int) + xb - 254))) else q
  rne (fpAdd acc q)

/-- One element of a floating-point tile. -/
def Tile.floatElement (t : Tile) (ra rb : List Nat) (i j : Nat) : Nat :=
  let mx := formatMx t.format
  fpWord ((List.range (t.k / 16)).foldl (fun acc s =>
    let ps := (List.range 16).map fun u =>
      fpMul (element t.format (ra.getD (16 * s + u) 0)) (element t.format (rb.getD (16 * s + u) 0))
    tileStep mx (t.scale false i (s / 2)) (t.scale true j (s / 2)) ps acc)
    (fpIeee 8 23 (t.cIn.getD (16 * i + j) 0)))

/-- One element of an INT8 tile (R466). -/
def Tile.intElement (t : Tile) (ra rb : List Nat) (i j : Nat) : Nat :=
  let sum : Int := (List.zipWith (fun x y => toSigned 8 x * toSigned 8 y) ra rb).foldl (· + ·) 0
  ofSigned 32 (t.cIn.getD (16 * i + j) 0 + sum)

/-- The result of a tile: 256 words in row-major order (R465, R466). -/
def Tile.result (t : Tile) : List Nat :=
  let va := (List.range 16).map (vector t.format t.k t.a)
  let vb := (List.range 16).map (vector t.format t.k t.b)
  (List.range 256).map fun n =>
    let i := n / 16
    let j := n % 16
    let ra := va.getD i []
    let rb := vb.getD j []
    if t.format = 8 then t.intElement ra rb i j else t.floatElement ra rb i j

/-- The tile of octets that hold A, B and scales one after the other. -/
def tileOf (format k : Nat) (cIn : List Nat) (l : List Byte) : Tile :=
  let n := 16 * vectorBytes format k
  { format := format, k := k, cIn := cIn, a := l.take n, b := slice l n n, scales := l.drop (2 * n) }

/-- A result in which a fault of the bar has changed words. -/
def disturbed (upset : List (Nat × Nat)) (r : List Nat) : List Nat :=
  upset.foldl (fun r x => r.set x.1 (Nat.xor (r.getD x.1 0) x.2)) r

/-- Words in which two results differ. -/
def differing (a b : List Nat) : List Nat :=
  (List.range 256).filter fun i => a.getD i 0 ≠ b.getD i 0

end Sys2Proof.Machine
end

