-- ==== Sys2Proof/Machine/LogCodes.lean ====
section
/-!
DEFINITION. Log codes (R714): block in bits [15:8], position in the row in bits [7:0]; and the
abort codes of R652.
-/
namespace Sys2Proof.Machine

/-! ## Abort codes (R652) -/
namespace Abort
def ok : Nat := 0x00
def badOpcode : Nat := 0x01
def badLength : Nat := 0x02
def blockUnknown : Nat := 0x03
def blkCrc : Nat := 0x04
def timeout : Nat := 0x05
def hubTakeover : Nat := 0x06
def sessionLimit : Nat := 0x07
def objectUnknown : Nat := 0x10
def subindexUnknown : Nat := 0x11
def readOnly : Nat := 0x12
def writeOnly : Nat := 0x13
def notStaged : Nat := 0x14
def level : Nat := 0x15
def notAuthorized : Nat := 0x16
def valueRange : Nat := 0x17
def tooLarge : Nat := 0x18
def stageFull : Nat := 0x19
def noChangeSet : Nat := 0x1A
def booting : Nat := 0x1B
def busy : Nat := 0x20
def late : Nat := 0x21
def misaligned : Nat := 0x22
def conflict : Nat := 0x23
def notManager : Nat := 0x24
def tableFull : Nat := 0x25
def unitUnknown : Nat := 0x26
def notQuenched : Nat := 0x27
def fenced : Nat := 0x28
def notLocked : Nat := 0x29
def activeCore : Nat := 0x2A
def notIdleAttested : Nat := 0x2B
def imageUnknown : Nat := 0x30
def recordUnknown : Nat := 0x31
def recordCorrupt : Nat := 0x32
def notTarget : Nat := 0x40
def replayed : Nat := 0x41
def expired : Nat := 0x42
def quorum : Nat := 0x43
def signature : Nat := 0x44
def rollback : Nat := 0x45
def standbyNotReady : Nat := 0x46
def fwNotVerified : Nat := 0x47
end Abort

/-! ## Log codes (R714) -/
namespace Code
/-- HUB_TAKEOVER -/
def hubTakeover : Nat := 0x0201
/-- TAKEOVER_UNREADY -/
def takeoverUnready : Nat := 0x0202
/-- STANDBY_LOST -/
def standbyLost : Nat := 0x0203
/-- FW_WATCHDOG -/
def fwWatchdog : Nat := 0x0204
/-- RING_CRC -/
def ringCrc : Nat := 0x0205
/-- REFCLK_LOST -/
def refclkLost : Nat := 0x0301
/-- REFCLK_BACK -/
def refclkBack : Nat := 0x0302
/-- CAL_JUMP -/
def calJump : Nat := 0x0303
/-- CAL_NO_ECHO -/
def calNoEcho : Nat := 0x0304
/-- REPLICA_RELOAD -/
def replicaReload : Nat := 0x0305
/-- REPLICA_LOST -/
def replicaLost : Nat := 0x0306
/-- TIME_LOAD -/
def timeLoad : Nat := 0x0307
/-- TICK_IN_FAST -/
def tickInFast : Nat := 0x0308
/-- TICK_IN_MISSING -/
def tickInMissing : Nat := 0x0309
/-- TICK_IN_PHASE -/
def tickInPhase : Nat := 0x030A
/-- TICK_IN_QUALIFIED -/
def tickInQualified : Nat := 0x030B
/-- UPSTREAM_LOST -/
def upstreamLost : Nat := 0x0401
/-- GM_LOST -/
def gmLost : Nat := 0x0402
/-- TIME_LOCKED -/
def timeLocked : Nat := 0x0403
/-- TIME_SLEW -/
def timeSlew : Nat := 0x0404
/-- GM_CHANGE -/
def gmChange : Nat := 0x0405
/-- PATH_CHANGE -/
def pathChange : Nat := 0x0406
/-- ASYM_RESOLVED -/
def asymResolved : Nat := 0x0407
/-- ASYM_UNRESOLVED -/
def asymUnresolved : Nat := 0x0408
/-- COMMIT_FAILED -/
def commitFailed : Nat := 0x0501
/-- SCHED_LATE -/
def schedLate : Nat := 0x0502
/-- CAST_UNRESPONSIVE -/
def castUnresponsive : Nat := 0x0601
/-- QU_POSTPONED -/
def quPostponed : Nat := 0x0602
/-- QU_STOP_MISSED -/
def quStopMissed : Nat := 0x0603
/-- QU_EMPTY_CUT -/
def quEmptyCut : Nat := 0x0604
/-- POD_ORDER_LATE -/
def podOrderLate : Nat := 0x0605
/-- POD_TABLE_FULL -/
def podTableFull : Nat := 0x0606
/-- QU_SUPERSEDED -/
def quSuperseded : Nat := 0x0607
/-- POD_CUT_BUSY -/
def podCutBusy : Nat := 0x0608
/-- POD_CUT_SUMMARY -/
def podCutSummary : Nat := 0x0609
/-- STEP_SELECT_LATE -/
def stepSelectLate : Nat := 0x060A
/-- STEP_SHORT -/
def stepShort : Nat := 0x060B
/-- STEP_OVERRUN -/
def stepOverrun : Nat := 0x060C
/-- QU_RELEASE_SHORT -/
def quReleaseShort : Nat := 0x060D
/-- QU_CANCEL_LATE -/
def quCancelLate : Nat := 0x060E
/-- QUENCH_IN -/
def quenchIn : Nat := 0x060F
/-- INPUT_STUCK -/
def inputStuck : Nat := 0x0610
/-- SO_ABORTED -/
def soAborted : Nat := 0x0701
/-- SO_TRUNCATED -/
def soTruncated : Nat := 0x0702
/-- SO_RECORD_LOST -/
def soRecordLost : Nat := 0x0703
/-- SO_IMAGE_OVERWRITTEN -/
def soImageOverwritten : Nat := 0x0704
/-- SO_RUNNER_LOST -/
def soRunnerLost : Nat := 0x0705
/-- SO_SEAL_MISMATCH -/
def soSealMismatch : Nat := 0x0706
/-- SO_DONE -/
def soDone : Nat := 0x0707
/-- SO_LADLE_DISPLACED -/
def soLadleDisplaced : Nat := 0x0708
/-- HB_MISS -/
def hbMiss : Nat := 0x0801
/-- HANG_ENGINE -/
def hangEngine : Nat := 0x0802
/-- RUNNER_SILENT -/
def runnerSilent : Nat := 0x0803
/-- TAP_SILENT -/
def tapSilent : Nat := 0x0804
/-- SUSPECTS_WIDE -/
def suspectsWide : Nat := 0x0805
/-- HANG_QUEUE_FULL -/
def hangQueueFull : Nat := 0x0806
/-- HANG_DEFERRED -/
def hangDeferred : Nat := 0x0807
/-- HANG_NO_CUT -/
def hangNoCut : Nat := 0x0808
/-- REMOVE_STALLED -/
def removeStalled : Nat := 0x0809
/-- CTX_REMOVED -/
def ctxRemoved : Nat := 0x080A
/-- REPLAY_TIMEOUT -/
def replayTimeout : Nat := 0x080B
/-- HANG_NOT_REPRODUCED -/
def hangNotReproduced : Nat := 0x080C
/-- UNIT_RESET_UNWRAPPED -/
def unitResetUnwrapped : Nat := 0x080D
/-- L2_FAILED -/
def l2Failed : Nat := 0x080E
/-- L3_DONE -/
def l3Done : Nat := 0x080F
/-- L3_FAILED -/
def l3Failed : Nat := 0x0810
/-- ESCALATION_HELD -/
def escalationHeld : Nat := 0x0811
/-- HANG_END -/
def hangEnd : Nat := 0x0812
/-- STEP_MARK_BAD -/
def stepMarkBad : Nat := 0x0901
/-- SUSPECT_ENTERED -/
def suspectEntered : Nat := 0x0902
/-- SUSPECT_NO_DUMP -/
def suspectNoDump : Nat := 0x0903
/-- SUSPECT_REPORT -/
def suspectReport : Nat := 0x0904
/-- SUSPECT_CLEARED -/
def suspectCleared : Nat := 0x0905
/-- EXPEL_REFUSED -/
def expelRefused : Nat := 0x0906
/-- EXPEL_FENCED -/
def expelFenced : Nat := 0x0907
/-- EXPEL_NO_CUT -/
def expelNoCut : Nat := 0x0908
/-- FENCE_RELEASED -/
def fenceReleased : Nat := 0x0909
/-- ADM_VERIFIED -/
def admVerified : Nat := 0x090A
/-- ADM_DONE -/
def admDone : Nat := 0x090B
/-- ADM_FAILED -/
def admFailed : Nat := 0x090C
/-- ADM_RECORD_CRC -/
def admRecordCrc : Nat := 0x090D
/-- SDC -/
def sdc : Nat := 0x0A01
/-- TB_INCONCLUSIVE -/
def tbInconclusive : Nat := 0x0A02
/-- TESTBAR_FAULT -/
def testbarFault : Nat := 0x0A03
/-- SDC_STORM -/
def sdcStorm : Nat := 0x0A04
/-- TB_CAPTURE_CRC -/
def tbCaptureCrc : Nat := 0x0A05
/-- TB_EVENT_DISPLACED -/
def tbEventDisplaced : Nat := 0x0A06
/-- TB_EXPECT_FAIL -/
def tbExpectFail : Nat := 0x0A07
/-- SENSOR_FAIL -/
def sensorFail : Nat := 0x0C01
/-- PMBUS_NAK -/
def pmbusNak : Nat := 0x0C02
/-- RAIL_FAULT -/
def railFault : Nat := 0x0C03
/-- PW_LEVEL -/
def pwLevel : Nat := 0x0C04
/-- CLOCK_LOST -/
def clockLost : Nat := 0x0D01
/-- CLOCK_TIMEOUT -/
def clockTimeout : Nat := 0x0D02
/-- SELF_CHECK_FAIL -/
def selfCheckFail : Nat := 0x0D03
/-- BOOT_FALLBACK -/
def bootFallback : Nat := 0x0D04
/-- BOOT_NO_IMAGE -/
def bootNoImage : Nat := 0x0D05
/-- STRAP_CHANGED -/
def strapChanged : Nat := 0x0D06
/-- FUSE_CORRECTED -/
def fuseCorrected : Nat := 0x0D07
/-- FUSE_ERROR -/
def fuseError : Nat := 0x0D08
/-- OPTION_COPY_BAD -/
def optionCopyBad : Nat := 0x0D09
/-- OPTIONS_DEFAULT -/
def optionsDefault : Nat := 0x0D0A
/-- OPTION_UNKNOWN -/
def optionUnknown : Nat := 0x0D0B
/-- OPTION_RANGE -/
def optionRange : Nat := 0x0D0C
/-- STORM_HOLD -/
def stormHold : Nat := 0x0D0D
/-- STORM_RELEASED -/
def stormReleased : Nat := 0x0D0E
/-- PERSIST_DEFAULT -/
def persistDefault : Nat := 0x0D0F
/-- CLAIM_UNANSWERED -/
def claimUnanswered : Nat := 0x0E01
/-- NODE_ASSIGNED -/
def nodeAssigned : Nat := 0x0E02
/-- NODE_REVOKED -/
def nodeRevoked : Nat := 0x0E03
/-- FW_UPDATE_DONE -/
def fwUpdateDone : Nat := 0x0E04
/-- FW_UPDATE_FAILED -/
def fwUpdateFailed : Nat := 0x0E05
/-- KEYS_MISMATCH -/
def keysMismatch : Nat := 0x0F01
/-- LC_CHANGE -/
def lcChange : Nat := 0x0F02
/-- LC_FETTLED -/
def lcFettled : Nat := 0x0F03
/-- FETTLE_FAIL -/
def fettleFail : Nat := 0x0F04
/-- AUTH_GRANTED -/
def authGranted : Nat := 0x0F05
/-- AUTH_ENDED -/
def authEnded : Nat := 0x0F06
end Code

end Sys2Proof.Machine
end

