-- ==== Sys2Proof/Config.lean ====
section
/-!
DEFINITION. What the spec fixes for every part of this issue, and the values it leaves open.
An `opaque` constant here has no body: nothing can be proved of its value.
-/
namespace Sys2Proof.Config

/-! ## Open values -/

/-- A free value: the n-th value that the spec leaves open in a run (log entry 9). -/
opaque freeValue : Nat → Nat
/-- What the DCO's frequency departs by in holdover, before the bound of R94 (log entry 8). -/
opaque freeDrift : Nat → Int
/-- Departure of the backup oscillator from its nominal rate, in thousandths, before the bound of R578. -/
opaque backupDeviation : Int
/-- SHA-384 of the octets (R661); uninterpreted (log entry 10). -/
opaque sha384 : List Byte → List Byte
/-- ECDSA P-384: public key, signed octets, signature (R661); uninterpreted (log entry 10). -/
opaque ecdsaVerify : List Byte → List Byte → List Byte → Bool
/-- The device key's signature over the octets (R631); uninterpreted (log entry 10). -/
opaque deviceSign : List Byte → List Byte
/-- A 97-octet string is a valid P-384 point (R665); uninterpreted (log entry 10). -/
opaque validPoint : List Byte → Bool
/-- The ephemeral public key that the hub draws with the n-th free value (R631). -/
opaque ephemeralKey : Nat → List Byte
/-- HKDF of R633 over the peer's key, the hub's ephemeral draw, both nonces and the SESSION ID. -/
opaque sessionKeys : List Byte → Nat → List Byte → List Byte → Nat → List Byte
/-- HMAC-SHA-256, first 16 octets, of a frame under a key (R633). -/
opaque frameTag : List Byte → List Byte → List Byte
/-- The vendor lifecycle key in the boot ROM (R661). -/
opaque vendorLifecycleKey : List Byte
/-- Vendor firmware key 0 or 1 in the boot ROM (R661). -/
opaque vendorFirmwareKey : Nat → List Byte
/-- CODE of a NOTIFY that no log record stands behind (log entry 16): 0 an entry's final status
(R241), 1 a change set applied (R218). -/
opaque notifyCode : Nat → Nat
/-- Operand octets of the built-in probe set of an issue (R489): probe number, operand number. -/
opaque builtInOperand : Nat → Nat → List Byte

/-! ## Fixed figures -/

/-- Interpolator steps in one nanosecond: 6.25 ps each (R88). -/
def stepsPerNs : Nat := 160
/-- Interpolator steps in one sync wave of 64 ns (R33, R89). -/
def stepsPerWave : Nat := 10240
/-- Interpolator steps in one REFCLK cycle of 6.4 ns (R88). -/
def stepsPerRefclk : Nat := 1024
/-- A PNS is held to 2⁻⁴⁸ ns (R89). -/
def fracScale : Nat := 2 ^ 48
/-- The limit of RATE, 200 ppm (R90). -/
def rateLimit : Int := 219902326
/-- 0.1 ppm in units of RATE (R94). -/
def driftLimit : Int := 109951
/-- The largest slew in one wave, 2⁻⁶ ns in units of 2⁻⁴⁸ ns (R91). -/
def slewPerWave : Nat := 2 ^ 42
/-- Clock-good needs 4,096 REFCLK cycles of lock (chapter 13). -/
def clockGoodCycles : Nat := 4096
/-- The time limit of clock-good after its gap (R587). -/
def clockTimeoutCycles : Nat := 1048576
/-- ID_VENDOR (R697). -/
def idVendor : Nat := 0x4B525650
/-- ID_ISSUE (R1). -/
def idIssue : Nat := 1
/-- Size of the log store in octets (R706). -/
def logStoreBytes : Nat := 262144
/-- Dies on the perimeter, in ascending order (chapter 01). -/
def perimeterDies : List Nat := [0, 1, 2, 3, 4, 7, 8, 11, 12, 13, 14, 15]

end Sys2Proof.Config
end

