-- ==== Sys2Proof/Machine/State.lean ====
section
/-!
DEFINITION. The state of the block as plain data: every register, table, buffer and flag that the
spec gives it, the queue of waiting commands, and the state after reset.
-/
namespace Sys2Proof.Machine

/-! ## Sparse tables -/

/-- A sparse table: keys strictly rising, no entry at its default (log entry 13 for bytes). -/
abbrev Tab (α : Type) := List (Nat × α)

/-! ## What a command sends (log entry 11) -/

/-- The kinds of message that leave the block or a unit of it. -/
inductive EmitKind where
  | tickWave | permit | stepWire | cast | hold | castResponse | laneOne | laneTwo | laneZero | laneThree
  | beacon | timeWire | calEcho | tickOut
  | sync | loop | cutOrder | cutWithdraw | cutAck | timeAnswer
  | result | notify | session | claim | blkData
  | ringRequest | ringResponse | mirror | flashWrite | flashCommand | pmbus | pmbusStop | jtag
  | stackWrite | busRead | runnerCast | admStream | captureOrder | contextCast
  | governorGrant | unitReset | probeOp
  deriving DecidableEq, Repr

/-- One message: its kind, its destination (a port, a session, a die or a UID, as the kind says), its octets. -/
structure Emit where
  kind : EmitKind
  dest : Nat
  data : List Byte
  deriving DecidableEq, Repr

/-! ## Fuses (16 R697, R743; 15 R661, R686) -/

/-- The fused values of the device. -/
structure Fuses where
  serial : Nat
  deviceKey : List Byte
  /-- Blown bits of the 64-bit anti-rollback field (R686). -/
  rollback : Nat
  key0Revoked : Bool
  /-- The wire trim of each optical port's counter, in 2⁻¹⁶ ns (R163). -/
  wireTrim : List Int
  deriving DecidableEq, Repr

/-! ## The host as the hub sees it (01) -/

/-- A row record of SPARE_MAP (R20), with the columns that have failed. -/
structure SpareRow where
  map : List Nat
  sparesLeft : Nat
  /-- 0 normal, 1 change pending, 2 row routed around, 3 cluster routed around. -/
  rowState : Nat
  pendingLogical : Nat
  pendingPhysical : Nat
  failed : List Nat
  deriving DecidableEq, Repr

/-- A row as it leaves manufacture (chapter 01, Rows, spares and route-around). -/
def SpareRow.fresh : SpareRow := ⟨List.range 32, 2, 0, 0xFF, 0xFF, []⟩

/-- Topology, health, chill. -/
structure Topo where
  /-- Rows that differ from `SpareRow.fresh`, keyed by row 0–511. -/
  rows : Tab SpareRow
  generation : Nat
  changedAt : Nat
  /-- UNIT_HEALTH, keyed by die × 2,048 + unit code (R23); default 0. -/
  health : Tab Nat
  /-- Bit die × 2 + half: that half is chilled (R25). -/
  chilled : BitVec 32
  deriving DecidableEq, Repr

/-! ## The hub cores (02) -/

/-- What a hub core's management processor is doing. -/
inductive ProcState where
  | inReset | selfCheck | bootRom | running | halted | failed
  deriving DecidableEq, Repr

/-- One hub core. -/
structure HubCore where
  proc : ProcState
  /-- Firmware heartbeat register (R54) and its value at the previous tick (R55). -/
  heartbeat : Nat
  heartbeatPrev : Nat
  lockstepFault : Bool
  /-- TBU clock-good (R92) and whether the TBU outputs are gated off (R74). -/
  clockGood : Bool
  gated : Bool
  heldInReset : Bool
  /-- Consecutive frames within 0.5 ns of the active PNS (R70). -/
  closeFrames : Nat
  /-- In the running frame the PNS has been seen outside ±0.5 ns of the active core's (R70). -/
  strayed : Bool
  /-- Unacknowledged mirror writes older than 1 µs (R70, log entry 147). -/
  mirrorStale : Bool
  selfCheckPassed : Option Bool
  fwSlot : Nat
  fwVersion : Nat
  /-- The slot that its next boot takes, where a restart or an update names one (R78, R81, R657). -/
  wantSlot : Option Nat
  /-- Its boot ROM holds: neither slot held a valid image (R593). -/
  noImage : Bool
  deriving DecidableEq, Repr

/-- Why a takeover starts (chapter 02, Takeover). -/
inductive TakeoverTrigger where
  | heartbeat | lockstep | clockGood | roleSwap
  deriving DecidableEq, Repr

/-! ## Clocks (03) -/

/-- A PNS counter: value in 2⁻⁴⁸ ns at the instant `since` of elapsed steps (R89). -/
structure Clock where
  acc : Nat
  since : Nat
  rate : Int
  /-- Departure of the DCO from its last locked frequency, in units of RATE (R94). -/
  drift : Int
  /-- Slew still to deliver, in 2⁻⁴⁸ ns (R91). -/
  slew : Int
  counting : Bool
  deriving DecidableEq, Repr

/-- TICK_IN as one core qualifies it (R133–R143). -/
structure TickIn where
  state : Nat
  /-- Stamp of the last accepted edge, in 2⁻¹⁶ ns, if there is one; it moves with a step or a load. -/
  lastAccepted : Option Int
  /-- Elapsed steps at that edge (R178). -/
  acceptedAt : Option Nat
  goodCount : Nat
  outliers : Nat
  fastCount : Nat
  deriving DecidableEq, Repr

/-- The TBUs and the board time pins. -/
structure TimeBase where
  active : Clock
  standby : Clock
  refclkPresent : Bool
  /-- Elapsed steps at which DCO holdover began (R93). -/
  dcoSince : Option Nat
  taiSeconds : Nat
  /-- TB_FRAC latches per requester: sessions by id, chip requesters by 65,536 + UID (R97). -/
  fracLatch : Tab Nat
  tickOutMode : Nat
  /-- PNS of the commit tick of the latest mode change, and the mode before that tick (R131); none once a step or a
  load has moved the count. -/
  tickOutOld : Option (Nat × Nat)
  /-- Elapsed steps at the latest rise of TICK_OUT (R129, R130). -/
  tickOutLast : Option Nat
  tickInMode : Nat
  tickInDelayPs : Int
  /-- What the active core and the standby core hold of the input (R133). -/
  tickIn : TickIn
  tickInStandby : TickIn
  deriving DecidableEq, Repr

/-- State of a replica (R117). -/
inductive ReplicaState where
  | cold | tracking | flywheel
  deriving DecidableEq, Repr

/-- A CAL_REQ that waits for its echo (R109): its source core, SEQ and FWD_CORR, and its arrival in
elapsed steps and, unless COLD, in the replica's PNS in 2⁻¹⁶ ns. -/
structure EchoDue where
  core : Nat
  seq : Nat
  corr : Nat
  arrived : Nat
  arrivedPns : Option Nat
  deriving DecidableEq, Repr

/-- A replica of the PNS (R115–R117). -/
structure Replica where
  state : ReplicaState
  clock : Clock
  /-- D for wire 0 and wire 1, in 2⁻¹⁶ ns, when set (R107, R111). -/
  d0 : Option Nat
  d1 : Option Nat
  largeErrors : Nat
  /-- Elapsed steps at the latest accepted MARK or LOAD. -/
  lastMark : Nat
  lastErr : Int
  /-- Steps registered and not yet applied: APPLY, DELTA (R125). -/
  steps : List (Nat × Int)
  /-- APPLY and DELTA of the steps already applied, so that each applies once (R125, R126). -/
  applied : List (Nat × Int)
  /-- Echoes to launch, oldest first (R109). -/
  echo : List EchoDue
  /-- SRC of a new active core whose first MARK after W is still to come (R147). -/
  firstOfSource : Option Nat
  /-- Last PNS before COLD since the unit's reset, for untimed stamps (R121). -/
  lastPns : Nat
  deriving DecidableEq, Repr

/-- A replica that has just left reset (R117). -/
def Replica.fresh : Replica :=
  ⟨.cold, ⟨0, 0, 0, 0, 0, false⟩, none, none, 0, 0, 0, [], [], [], none, 0⟩

/-- What a hub core holds of one replica's calibration on its wire (R108–R114). -/
structure CalTarget where
  /-- D last sent in a CAL_SET since the replica left reset. -/
  dSet : Option Int
  measures : List Int
  /-- Measurements wanted: 1, 3 when cold, 8 after a jump. -/
  wanted : Nat
  failedRounds : Nat
  /-- The state that its latest echo reported; none after a round without an echo. -/
  reported : Option ReplicaState
  deriving DecidableEq, Repr

/-- A calibration target never measured. -/
def CalTarget.fresh : CalTarget := ⟨none, [], 3, 0, some .cold⟩

/-- An outstanding CAL_REQ (R110, R114). -/
structure CalReq where
  target : Nat
  seq : Nat
  /-- Launch instant in elapsed steps, and in the source's PNS in 2⁻¹⁶ ns. -/
  launch : Nat
  t1 : Nat
  cycle : Nat
  repeated : Bool
  deriving DecidableEq, Repr

/-- One time wire and its source (R98–R114). -/
structure Wire where
  sourcing : Bool
  /-- Elapsed steps of the first wave of mark cycle 0 (R99). -/
  start : Nat
  /-- Next mark cycle to send. -/
  cycle : Nat
  loadsLeft : Nat
  /-- CAL_SETs waiting: target, D (R111, R112). -/
  setQueue : List (Nat × Int)
  reqs : List CalReq
  /-- Cycle of the last CAL_REQ (R109). -/
  lastReq : Option Nat
  /-- UID that the round-robin served last (R113). -/
  roundRobin : Nat
  /-- Keyed by UID; default `CalTarget.fresh`. -/
  targets : Tab CalTarget
  /-- Requests to repeat, each in the next free slot B (R114). -/
  repeatReq : List Nat
  deriving DecidableEq, Repr

/-- A wire that its source does not drive. -/
def Wire.idle : Wire := ⟨false, 0, 0, 0, [], [], none, 0, [], []⟩

/-! ## Frame, change sets, scheduled actions (05) -/

/-- Who stages and requests: a session by id, or an on-chip requester by UID (R211, R694). -/
inductive Requester where
  | session (id : Nat)
  | chip (uid : Nat)
  deriving DecidableEq, Repr

/-- One staged value: index, subindex, octets in Proros order. -/
structure Staged where
  idx : Nat
  sub : Nat
  bytes : List Byte
  deriving DecidableEq, Repr

/-- An open change set (R211). -/
structure ChangeSet where
  writer : Requester
  values : List Staged
  deriving DecidableEq, Repr

/-- A committed group that waits for its tick (R213–R216). -/
structure CommitGroup where
  writer : Requester
  /-- Groups of one COMMIT share it. -/
  setId : Nat
  values : List Staged
  /-- FRAME_NUMBER of the first tick at which the group is eligible (R215). -/
  eligible : Nat
  isLast : Bool
  notify : Bool
  deriving DecidableEq, Repr

/-- Frame tick and commit state. -/
structure Frame where
  lenNs : Nat
  lenNext : Nat
  lenAt : Nat
  /-- FRAME_NUMBER: the number of the latest tick (R205). -/
  number : Nat
  ticked : Bool
  /-- The next due frame boundary in PNS (R204). -/
  nextTick : Nat
  /-- The boundary that opened the frame now running. -/
  opened : Nat
  carryCount : Nat
  /-- Work of a slot class carried over from the frame before (R209). -/
  carried : Bool
  frozen : Bool
  sets : List ChangeSet
  groups : List CommitGroup
  nextSetId : Nat
  deriving DecidableEq, Repr

/-- One entry of SCHED_TABLE (R224–R229). -/
structure SchedEntry where
  action : Nat
  time : Nat
  flags : Nat
  status : Nat
  param : Nat
  /-- QU_SET as it stood at acceptance (R228). -/
  selection : BitVec 160
  /-- SUBMAP and STEP_NET details fixed at acceptance; secure slots left out (R288). -/
  stepNet : Bool
  /-- Where the entry comes from when REMOTE: pod order number. -/
  podOrder : Nat
  /-- The entry was later than first requested (R234, R229). -/
  late : Bool
  /-- SCHED_PARAM as it stood at acceptance (R228). -/
  taken : Nat
  deriving DecidableEq, Repr

/-- A FREE entry (R229). -/
def SchedEntry.free : SchedEntry := ⟨0, 0, 0, 0, 0, 0, false, 0, false, 0⟩

/-! ## Reset and start-up (13) -/

/-- The backup record of R578 apart from MAGIC and CRC, which `valid` carries. -/
structure Backup where
  valid : Bool
  nodeId : Nat
  cause : Nat
  resetCount : Nat
  msAtWrite : Nat
  gaps : List Nat
  ring : List Nat
  head : Nat
  fill : Nat
  lastWords : List Byte
  /-- Elapsed steps at which MS_NOW read 0. -/
  msBase : Nat
  deriving DecidableEq, Repr

/-- A record started afresh (R582). -/
def Backup.afresh : Backup := ⟨false, 0, 0, 0, 0, List.replicate 10 4096, List.replicate 16 0, 0, 0, List.replicate 64 0, 0⟩

/-- A copy of the option block in flash (R600). -/
structure OptionCopy where
  valid : Bool
  generation : Nat
  entries : List Staged
  deriving DecidableEq, Repr

/-- A copy of the persistent-record area (R603). -/
structure PersistCopy where
  valid : Bool
  generation : Nat
  fenceState : Nat
  fenceSeq : Nat
  logCeil : Nat
  imageCeil : Nat
  eventCeil : Nat
  quarantine : BitVec 69632
  deriving DecidableEq, Repr

/-- The QSPI flash, as the records that its areas hold. -/
structure Flash where
  option0 : OptionCopy
  option1 : OptionCopy
  /-- Copy that D3 or the latest write used last (R602). -/
  optionUsed : Nat
  /-- RWP values written and not yet persisted, and whether a write is in progress (R602, R692). -/
  optionWriting : Option OptionCopy
  optionDirty : Bool
  persist0 : PersistCopy
  persist1 : PersistCopy
  persistUsed : Nat
  persistWriting : Option PersistCopy
  persistDirty : Bool
  /-- Elapsed steps at which the persistent write started. -/
  persistSince : Nat
  /-- Elapsed steps until which QSPI_CS_N is held high, and before which no flash access starts (R86, R606). -/
  selectHigh : Nat
  readyAt : Nat
  /-- Firmware slots A and B: the octets they hold (R655). -/
  slotA : List Byte
  slotB : List Byte
  deriving DecidableEq, Repr

/-- A counter of R745. -/
structure Counter where
  /-- The next value to issue. -/
  next : Nat
  ceiling : Nat
  persisted : Nat
  deriving DecidableEq, Repr

/-- The reset controller. -/
structure Reset where
  porAsserted : Bool
  resetNLow : Bool
  /-- RESET_N was accepted while POR was asserted: the two count once (R577). -/
  overlapPin : Bool
  /-- A warm reset had been counted when POR overlapped it, so that POR is not counted again (R577). -/
  counted : Bool
  /-- RST_PHASE (R589). -/
  phase : Nat
  holdReason : Nat
  /-- Domains released, bit n for Dn. -/
  released : BitVec 10
  /-- Waves of D8 released (R585). -/
  d8Waves : Nat
  /-- Elapsed steps of the releases that gaps and clocks run from: D0–D9 (D8: its latest wave), then the
  release of the reset source and the end of option loading (R583). -/
  times : List Nat
  /-- Elapsed steps at which POR asserted, and at the loss of a clock in service. -/
  porAt : Nat
  lostAt : Nat
  /-- D3 has ended and D4's gap runs (R583). -/
  optionsDone : Bool
  /-- D3 is running since D3 was released. -/
  loading : Bool
  /-- The sequence follows POR (R598). -/
  fromPor : Bool
  /-- Lost dies: bit die (R587), and the first domain they are held from. -/
  lostDies : BitVec 16
  lostFrom : Tab Nat
  /-- Clock losses in service: bit die × 10 + domain (R588). -/
  clockHeld : BitVec 160
  clockLostCount : Nat
  resetIgnored : Nat
  stormRecent : Nat
  stormLimit : Nat
  gaps : List Nat
  /-- Gaps in force for D4–D9 in this sequence (R584). -/
  gapsNow : List Nat
  strapCode : Nat
  strapMv : Nat
  strapAmbiguous : Bool
  /-- Role bit and tick-source bit in force since POR (R598). -/
  roleBit : Bool
  tickSourceBit : Bool
  deriving DecidableEq, Repr

/-! ## Management port, sessions, blocks (14) -/

/-- A log record (R707); `seq` 0 while LOG_SEQ waits (R745). -/
structure LogRec where
  seq : Nat
  code : Nat
  flags : Nat
  pns : Nat
  detail : List Byte
  deriving DecidableEq, Repr

/-- A NOTIFY sent and not yet acknowledged (R650). -/
structure Unacked where
  seq : Nat
  record : LogRec
  gap : Bool
  /-- Elapsed steps of the first send, and sends so far. -/
  firstSent : Nat
  sends : Nat
  deriving DecidableEq, Repr

/-- An authorization token in force (R678–R680). -/
structure Token where
  scope : Nat
  expiry : Nat
  deriving DecidableEq, Repr

/-- A session (R631–R651). -/
structure Session where
  id : Nat
  node : Nat
  signer : Nat
  /-- Level given by its HELLO (R635, R666). -/
  baseLevel : Nat
  notifyWanted : Bool
  keys : List Byte
  /-- Highest SEQUENCE accepted and how many times it advanced (R636, R639). -/
  highSeq : Nat
  advances : Nat
  /-- SEQUENCE of the hub's latest frame (R637). -/
  hubSeq : Nat
  /-- The last 16 results: SEQUENCE, FLAGS, RESULT payload (R639). -/
  results : List (Nat × Nat × List Byte)
  /-- Elapsed steps at the last valid frame (R636). -/
  lastFrame : Nat
  challenge : Option (List Byte)
  token : Option Token
  queue : List LogRec
  unacked : List Unacked
  gap : Bool
  deriving DecidableEq, Repr

/-- A BLK_DATA frame of the hub not yet acknowledged (R644). -/
structure BlkSent where
  seq : Nat
  offset : Nat
  sentAt : Nat
  resends : Nat
  deriving DecidableEq, Repr

/-- An open block transfer (R644–R647). -/
structure Block where
  id : Nat
  requester : Requester
  idx : Nat
  sub : Nat
  write : Bool
  offset : Nat
  total : Nat
  openSeq : Nat
  /-- Read: the octets to send, as at BLK_OPEN (R646). Write: the octets received. -/
  bytes : List Byte
  /-- The image whose record a read of more than 64 KiB reads in place, or 0 (R361, R646). -/
  image : Nat
  /-- Write: which frames have arrived, by offset. Read: next offset to send. -/
  done : List Nat
  sent : List BlkSent
  lastFrame : Nat
  deriving DecidableEq, Repr

/-- The management port. -/
structure Port where
  claimState : Nat
  tagFails : Nat
  replayDrops : Nat
  notifyDrops : Nat
  plcaActive : Bool
  /-- Elapsed steps at the start of the endpoint and of the latest CLAIM (R622). -/
  claimSince : Nat
  claimLast : Option Nat
  claimLogged : Bool
  sessions : List Session
  nextSession : Nat
  blocks : List Block
  nextBlock : Nat
  deriving DecidableEq, Repr

/-- Firmware update (R655–R659). -/
structure FwUpdate where
  state : Nat
  reason : Nat
  stagedVersion : Nat
  bootSlot : Nat
  /-- Slot that holds the verified image, and its header fields (R686). -/
  newSlot : Nat
  newRollback : Nat
  newRevoke : Bool
  /-- Elapsed steps at APPLY or at the release of the old core (R658). -/
  since : Nat
  deriving DecidableEq, Repr

/-! ## Lifecycle (15) -/

/-- One key store (R662). -/
structure KeyStore where
  valid : Bool
  lcState : Nat
  ownerKey : List Byte
  transitions : Nat
  fettlePending : Bool
  /-- Up to two digests of MGR_KEYS. -/
  digests : List (List Byte)
  deriving DecidableEq, Repr

/-- Lifecycle and keys. -/
structure Lifecycle where
  storeA : KeyStore
  storeB : KeyStore
  mgrKeys : List (List Byte)
  /-- LC_FETTLE and LC_FETTLE_FAIL. -/
  fettle : Nat
  fettleFail : BitVec 16
  /-- Stores still to fettle: bits as LC_FETTLE_FAIL. -/
  fettleLeft : BitVec 16
  /-- A change to RETURNED or BLANK holds cores stopped and ports fenced (R676). -/
  jobRemoved : Bool
  deriving DecidableEq, Repr

/-! ## Log store (16) -/

/-- The log store and its flash mirror. -/
structure LogStore where
  records : List LogRec
  /-- Records that wait for a LOG_SEQ (R745): the record and whether its NOTIFY is asked for. -/
  waiting : List (LogRec × Bool)
  drops : Nat
  readFrom : Nat
  head : Nat
  /-- What POR leaves of the records: the flash copy with the higher LOG_SEQ (R710). -/
  mirror : List LogRec
  deriving DecidableEq, Repr

/-! ## Pod time (04) -/

/-- The latest SYNC of a time port, as an offer (R150). -/
structure Offer where
  holdover : Bool
  asymUnresolved : Bool
  tickRef : Bool
  pathId : Nat
  hops : Nat
  priority : Nat
  gmId : Nat
  senderId : Nat
  upstreamId : Nat
  gmCount : Nat
  errorBound : Nat
  /-- FRAME_NUMBER at which it arrived, and at which its GM_COUNT last advanced, if it has. -/
  at_ : Nat
  advancedAt : Option Nat
  deriving DecidableEq, Repr

/-- A stamp of a time port: PNS in 2⁻¹⁶ ns, none while the runner's replica is COLD (R148), and how many time steps
the hub had executed when it was taken (R174). -/
structure PortStamp where
  at_ : Option Nat
  steps : Nat
  deriving DecidableEq, Repr

/-- One time port (R159). -/
structure TimePort where
  generation : Nat
  /-- SEQ of the latest SYNC sent, when one has been. -/
  seq : Option Nat
  /-- Transmit stamps of the last 64 SYNCs, newest first (R167). -/
  txStamps : List (Nat × PortStamp)
  /-- SEQ and stamp of the latest SYNC received. -/
  lastRx : Option (Nat × PortStamp)
  offer : Option Offer
  /-- Frames for which this port's offer has ranked above the upstream's (R155). -/
  betterFrames : Nat
  ownLoop : Option Nat
  /-- The peer's LOOP_DELAY_PS, 0xFFFF_FFFF unknown. -/
  peerLoop : Nat
  measuring : Bool
  /-- LOOP_ASK is set in this port's SYNCs; the peer's value has been seen unknown since (R188). -/
  asking : Bool
  peerWasUnknown : Bool
  /-- SYNC_CRC of the port (R161). -/
  syncCrc : Nat
  deriving DecidableEq, Repr

/-- A time port never used. -/
def TimePort.fresh : TimePort := ⟨0, none, [], none, none, 0, none, 0xFFFFFFFF, false, false, false, 0⟩

/-- The servo of R175–R191. Offsets are in ns, frequencies in ppb, both exact. -/
structure Servo where
  kp : Nat
  ki : Nat
  /-- 0 FREE, 1 ACQUIRING, 2 LOCKED, 3 HOLDOVER. -/
  state : Nat
  integral : Rat
  freqPpb : Int
  offsetPs : Int
  /-- Elapsed steps at the previous accepted sample. -/
  lastSample : Option Nat
  goodRun : Nat
  outliers : Nat
  /-- Holdover reasons set, most recent first (R183). -/
  reasons : List Nat
  /-- Growth of the error bound in this HOLDOVER, in ps × steps, and since when it runs on (R184). -/
  growth : Nat
  growthSince : Nat
  asym : Rat
  /-- X while asymmetry is unresolved (R190). -/
  unresolved : Option Rat
  /-- FRAME_NUMBER of the path change whose discard window runs (R187). -/
  windowFrom : Option Nat
  /-- FRAME_NUMBER at which the window ended, while the decision is open (R189, R190). -/
  windowEnded : Option Nat
  /-- Raw samples gathered after the window or in a retry: θ before A, and round trip. -/
  samples : List (Rat × Rat)
  /-- Corrected samples gathered for the exit of another reason (R181). -/
  exitSamples : List Rat
  lastAccepted : Rat
  /-- The last offset accepted before the path change (R190). -/
  beforePath : Rat
  slewLeft : Rat
  /-- The last reason other than SLEW has cleared, and the resumed offset waits for its samples (R181). -/
  resuming : Bool
  /-- FRAME_NUMBER of the latest retry of the loopback (R191). -/
  retryAt : Nat
  /-- A retry of R191 is being measured. -/
  retrying : Bool
  deriving DecidableEq, Repr

/-- The pod time tree at this hub. -/
structure Pod where
  role : Nat
  gmPriority : Nat
  gmId : Nat
  hops : Nat
  pathId : Nat
  upstream : Option Nat
  gmCount : Nat
  tickRef : Bool
  /-- The upstream's ERROR_BOUND_PS in force (R184), and the grandmaster that it refers to (R185). -/
  upBound : Nat
  boundOf : Nat
  /-- PATH_ID and GM_ID last seen from the upstream (R186). -/
  seenPath : Nat
  seenGm : Nat
  /-- FRAME_NUMBER of the latest acceptable SYNC of the upstream, and of its GM_COUNT's last change. -/
  heardAt : Nat
  gmChangedAt : Nat
  /-- FRAME_NUMBER from which a candidate counts its 16 frames (R153). -/
  candidateSince : Option Nat
  portMask : BitVec 48
  syncRate : Nat
  ports : Tab TimePort
  servo : Servo
  /-- The standby core's own servo, whose output moves nothing (R73). -/
  shadow : Servo
  asymLimitPs : Nat
  taiResidual : Int
  txts : List (Nat × Nat)
  txtsOverflow : Nat
  /-- APPLYs of the time steps executed, newest first, in 2⁻¹⁶ ns (R174). -/
  stepsDone : List Nat
  /-- Time steps executed so far (R174). -/
  stepCount : Nat
  /-- Instants within the frame of the next SYNC to send, per port: k counter. -/
  syncIndex : Tab Nat
  deriving DecidableEq, Repr

/-! ## Pins (17) -/

/-- Pins that the hub drives or filters. -/
structure Pins where
  /-- Filtered level of QUENCH_IN_N: true is high (R727). -/
  quenchHigh : Bool
  quenchArmed : Bool
  /-- Elapsed steps since the filtered level has been as it is. -/
  quenchSince : Nat
  /-- An emergency stop waits: deferred, or for a table entry (R729, R730). -/
  quenchWaiting : Bool
  /-- Stops counted since the latest record, and the PNS of the earliest of them (R732). -/
  quenchCount : Nat
  quenchFirst : Nat
  quenchLogFrame : Option Nat
  stuckReported : Bool
  /-- An accepted stop keeps the hub's own STEPs and RESUMEs back (R731). -/
  stopHolds : Bool
  /-- JTAG instruction in force (R740). -/
  jtagIr : Nat
  /-- The pins are under control of the test access port. -/
  jtagOwns : Bool
  /-- The boundary register, cell 0 nearest TDO (R739). -/
  boundary : BitVec 28
  deriving DecidableEq, Repr

/-! ## Casts, taps, runners, network groups (01, 02, 06) -/

/-- A cast of R249; bulk fields that one KIND uses are in its own words. -/
structure Cast where
  id : Nat
  kind : Nat
  retry : Bool
  stepNet : Bool
  pod : Bool
  act : Nat
  deadline : Nat
  wave : Nat
  lane : Nat
  cycles : Nat
  targets : BitVec 160
  deriving DecidableEq, Repr

/-- What a cast was issued for. -/
inductive CastUse where
  | entry (n : Nat)
  | cancelEntry (n : Nat)
  | removeSilent
  | traceSwitch
  | traceFettle
  deriving DecidableEq, Repr

/-- A cast that the hub holds open (R254). -/
structure OpenCast where
  cast : Cast
  use : CastUse
  /-- Elapsed steps at issue. -/
  issued : Nat
  retries : Nat
  /-- Answers: target → status + 1; a target with no entry has not answered (R252). -/
  answers : Tab Nat
  /-- The low 32 bits of replica PNS in each answer. -/
  stamps : Tab Nat
  /-- The retries have ended, or every target has answered (R254). -/
  ended : Bool
  /-- Lane sum, once decided (R258). -/
  count : Option Nat
  /-- Lane contributions made by targets, which the reduction sums (R33). -/
  laneSum : Nat
  deriving DecidableEq, Repr

/-- A cast as a target remembers it (R253). -/
structure Remembered where
  id : Nat
  status : Nat
  stamp : Nat
  /-- Elapsed steps at which it was answered. -/
  at_ : Nat
  deriving DecidableEq, Repr

/-- What a tap has armed to release (R45). -/
inductive ReleaseArm where
  | none
  | release (castId at_ : Nat)
  | step (castId at_ cycles : Nat)
  deriving DecidableEq, Repr

/-- A cluster tap (R38–R51) with the per-cluster state that the hub relies on (R2). -/
structure Tap where
  coreSelect : BitVec 136
  stopAt : Nat
  releaseAt : Nat
  stepCount : Nat
  coreClock : BitVec 136
  /-- Armed stop: its CAST_ID (R261). -/
  stopArm : Option Nat
  releaseArm : ReleaseArm
  lateArm : Bool
  compareClash : Bool
  stepRunning : Bool
  /-- A stop or release latched in chill (R48, R273). -/
  latchedStop : Bool
  latchedRelease : Bool
  heartbeat : Nat
  /-- PROGRESS words, keyed by slot × 4 + engine; default 0 (R39, R50). -/
  progress : Tab Nat
  inReset : Bool
  /-- Slots that the running step has released, which its end stops again (R44). -/
  stepSlots : BitVec 136
  /-- The step that runs ends at this elapsed step; cycles that chill has put off, in elapsed steps
  (R44, R25). -/
  stepEnds : Nat
  stepLeft : Nat
  /-- Casts remembered (R253). -/
  remembered : List Remembered
  /-- Slots that stood still before chill stopped cclk, so that they stay stopped after it. -/
  stoppedSlots : BitVec 136
  /-- Slots whose ARCH carried the secure bit when it was last read (R40), and slots that have stood still
  since that read. -/
  secure : BitVec 136
  secureKnown : BitVec 136
  /-- Frame permit: credit handed on, hold, ticks missed (R554). -/
  credit : Nat
  commHold : Bool
  permitMissed : Nat
  /-- Context epochs that this cluster checks (R389): keyed by context, default 0. -/
  epochs : Tab Nat
  /-- TRACE_CTRL: pending and active copies of slots that differ from the copy of the default
  objects (R528, log entry 19), and the boundary of an armed switch. -/
  tracePending : Tab (List Byte)
  traceActive : Tab (List Byte)
  traceSwitchAt : Option Nat
  /-- Slots whose trace unit drops packets after a stall of 20 µs (R504, R505). -/
  dropping : BitVec 136
  deriving DecidableEq, Repr

/-- A tap right after D4 and D8 have released its cluster (R39): every slot runs. -/
def Tap.fresh : Tap :=
  { coreSelect := BitVec.allOnes 136, stopAt := 0, releaseAt := 0, stepCount := 0, coreClock := 0
    stopArm := none, releaseArm := .none, lateArm := false, compareClash := false
    stepRunning := false, latchedStop := false, latchedRelease := false, heartbeat := 0
    progress := [], inReset := true, stepSlots := 0, stepEnds := 0, stepLeft := 0, remembered := [], stoppedSlots := 0, secure := 0, secureKnown := 0, credit := 64
    commHold := false, permitMissed := 0, epochs := [], tracePending := [], traceActive := []
    traceSwitchAt := none, dropping := 0 }

/-- Kinds of tap-ring request of a runner. -/
inductive RingUse where
  | peek (uid : Nat) | tier0 (item : Nat) | debugFallback (key : Nat) | coreSelect
  | bindings (engine : Nat) | traceCtrl
  deriving DecidableEq, Repr

/-- A transaction on a tap ring (R59, R65). -/
structure RingTxn where
  die : Nat
  tap : Nat
  write : Bool
  window : Nat
  slot : Nat
  tag : Nat
  len : Nat
  offset : Nat
  data : List Nat
  use : RingUse
  issued : Nat
  reissued : Bool
  deriving DecidableEq, Repr

/-- A runner (02). -/
structure Runner where
  /-- Freeze of its trace class and sink: armed CAST_ID and instant, frozen (R257, R267). -/
  freezeArm : Option (Nat × Nat)
  thawArm : Option (Nat × Nat)
  frozen : Bool
  inReset : Bool
  /-- Fenced by the missing tick (R424). -/
  fenced : Bool
  remembered : List Remembered
  /-- Active core's UID as the runner knows it (R74). -/
  activeUid : Nat
  /-- No frame report is owed: that of the latest tick has arrived, or no tick has come since the runner left reset;
  and consecutive reports missed (R56, R372). -/
  reported : Bool
  missed : Nat
  /-- RUNNER_SILENT has been declared of the silence that lasts (R372). -/
  silent : Bool
  /-- PNS of the latest frame report. -/
  lastReport : Nat
  untimed : Bool
  /-- Counters of its frame reports: RING_CRC, MARK_CRC, PERMIT_MISS. -/
  ringCrc : Nat
  markCrc : Nat
  permitMiss : Nat
  deriving DecidableEq, Repr

/-- A runner that has left reset (R117). -/
def Runner.fresh : Runner :=
  ⟨none, none, false, true, false, [], 0x8100, true, 0, false, 0, true, 0, 0, 0⟩

/-- A runner after its own reset or the device's: the counts of its records run since POR (chapter 07, type 0x15). -/
def Runner.restarted (r : Runner) : Runner :=
  { Runner.fresh with ringCrc := r.ringCrc, markCrc := r.markCrc, permitMiss := r.permitMiss }

/-- A network group (R32). -/
structure NetGroup where
  freezeArm : Option (Nat × Nat)
  thawArm : Option (Nat × Nat)
  /-- T of the freeze in force (R267). -/
  frozenAt : Option Nat
  remembered : List Remembered
  epochs : Tab Nat
  deriving DecidableEq, Repr

/-- A network group that carries traffic. -/
def NetGroup.fresh : NetGroup := ⟨none, none, none, [], []⟩

/-- An optical port of the package (01, R269). -/
structure OptPort where
  linkUp : Bool
  /-- Fenced to job traffic (R424, R445, R676). -/
  fenced : Bool
  /-- Freeze record: T, d_rx when known (R269). -/
  frozen : Option Nat
  dRx : Option Nat
  coarse : Bool
  deriving DecidableEq, Repr

/-- A port that has not trained. -/
def OptPort.fresh : OptPort := ⟨false, false, none, none, false⟩

/-- The host-side units that hold hub state. -/
structure Units where
  taps : Tab Tap
  runners : Tab Runner
  groups : Tab NetGroup
  ports : Tab OptPort
  /-- Replicas keyed by UID of tap, runner or hub core (R108). -/
  replicas : Tab Replica
  ring : List RingTxn
  /-- Transactions that wait for a place on their ring (R65), in the order of R68. -/
  ringQueue : List RingTxn
  deriving DecidableEq, Repr

/-- Where a peek result stands (R300). -/
structure PeekData where
  uid : Nat
  window : Nat
  status : Nat
  flags : Nat
  seq : Nat
  readPns : Nat
  data : List Byte
  deriving DecidableEq, Repr

/-- A quench, step or resume in hand: the entry that the sequencer carries (R256, R290, R294). -/
structure InHand where
  entry : Nat
  action : Nat
  /-- T, moved by postponement (R258). -/
  time : Nat
  castId : Nat
  targets : BitVec 160
  postponed : Nat
  decided : Bool
  /-- QU_STATE before the entry (R303). -/
  before : Nat
  pod : Bool
  /-- Emergency quench: proceeds whatever QU_MODE holds (R728). -/
  emergency : Bool
  taken : Bool
  membershipListed : Bool
  cancelled : Bool
  stepCycles : Nat
  stepNet : Bool
  /-- CORE_SELECT writes of R289 still to complete. -/
  selecting : Nat
  /-- Targets that acted at TIME. -/
  actors : BitVec 160
  deriving DecidableEq, Repr

/-- Quench state (06). -/
structure Quench where
  set : BitVec 160
  time : Nat
  state : Nat
  cutId : Nat
  cutPns : Nat
  cutFlags : BitVec 8
  postponeCount : Nat
  armExpected : Nat
  armCount : Nat
  podInCut : Nat
  podOut : Nat
  podClustersOut : Nat
  orderSeq : Nat
  mode : Nat
  notInCut : BitVec 128
  notInCutOther : BitVec 32
  stepCycles : Nat
  stepNet : Bool
  stepExcluded : Nat
  resumeTime : Nat
  peekUid : Nat
  peekWindow : Nat
  peekOffset : Nat
  peekLength : Nat
  peek : Option PeekData
  peekSeq : Nat
  peekOut : Bool
  castCounter : Nat
  casts : List OpenCast
  hand : Option InHand
  /-- A quench from its T until its membership is final (R262). -/
  closing : Option InHand
  /-- Entries cancelled after their decision, from their TIME until QU_CANCEL_LATE (R304). -/
  lateCancels : List InHand
  /-- The networks of a step freeze again: when (PNS), and which groups (R291). -/
  refreeze : Option (Nat × BitVec 160)
  /-- Members of the cut in force, in QU_SET numbering. -/
  members : BitVec 160
  /-- Clusters whose step still runs (R292). -/
  stepping : BitVec 128
  /-- Overrun already logged (R292). -/
  overrun : BitVec 128
  /-- PNS from which each stepped tap's 100 µs count: TIME, or its chill exit. -/
  stepFrom : Tab Nat
  deriving DecidableEq, Repr

/-- The pod cut that passes through this node (R275–R285). -/
structure PodCut where
  /-- ORDER_SEQ and KIND pairs accepted already (R278). -/
  seen : List (Nat × Nat)
  /-- Copies still to send: message octets without COPY, next copy, PNS at which it is due. -/
  copies : List (List Byte × Nat × Nat)
  /-- The order in progress: sequence, T, issue instant. -/
  order : Option (Nat × Nat × Nat)
  sumIn : Nat
  sumOut : Nat
  sumClusters : Nat
  ackSent : Bool
  summarised : Bool
  /-- Outcome of this package for the order: none while it is open. -/
  ownIn : Option Bool
  deriving DecidableEq, Repr

/-! ## Shakeout (07) -/

/-- A record of an image (R354); the CRC is computed when it is read. -/
structure Rec where
  uid : Nat
  type : Nat
  tier : Nat
  coding : Nat
  /-- 0 COLLECTED, 1 UNREACHABLE, 2 NOT_COLLECTED. -/
  state : Nat
  sub : Nat
  payloadLen : Nat
  stored : List Byte
  reason : Nat
  flags : Nat
  readPnsLo : Nat
  deriving DecidableEq, Repr

/-- A tier 1 or tier 2 record in the reserve, and which copies hold it (R330). -/
structure StoredRec where
  die : Nat
  record : Rec
  own : Bool
  mirror : Bool
  deriving DecidableEq, Repr

/-- What a pair of quarters or halves holds (R319). -/
structure Area where
  /-- Image that wrote it; 0 none. -/
  image : Nat
  /-- The header block, once written (R323). -/
  header : List Byte
  records : List StoredRec
  deriving DecidableEq, Repr

/-- One entry of the section table (R353). -/
structure Section where
  tier : Nat
  die : Nat
  state : Nat
  count : Nat
  storedBytes : Nat
  part : Nat
  deriving DecidableEq, Repr

/-- An image header with its section table and tier 0 records (R352–R353). -/
structure Image where
  id : Nat
  base : Nat
  cutId : Nat
  tiers : Nat
  tiersDone : Nat
  result : BitVec 8
  ref : Bool
  live : Bool
  dumpSecure : Bool
  untimed : Bool
  cutPns : Nat
  startPns : Nat
  endPns : Nat
  sealT0 : Nat
  sealT1 : Nat
  sealT2 : Nat
  cutFlags : Nat
  trigger : Nat
  activeUid : Nat
  unreachable : Nat
  excluded : Nat
  lost : Nat
  scope : BitVec 128
  sections : List Section
  tier0 : List Rec
  closed : Bool
  deriving DecidableEq, Repr

/-- What the runner of a die has read of one cluster for tier 0: windows and PEEK heads, the ring
status of each PEEK, the reason that makes CORE_STATUS unreachable (0 none), and the runner's replica when the last
read of the CLUSTER and of the CORE_STATUS record completed (R354). -/
structure Tier0Cluster where
  windows : Tab (List Byte)
  peeks : Tab (List Byte)
  peekStatus : Tab Nat
  reason : Nat
  clusterLo : Option Nat
  statusLo : Option Nat
  deriving DecidableEq, Repr

/-- A cluster of which nothing has been read. -/
def Tier0Cluster.fresh : Tier0Cluster := ⟨[], [], [], 0, none, none⟩

/-- A debug-class read outstanding (R328): unit, record type, byte offset, elapsed steps at issue. -/
structure BulkRead where
  uid : Nat
  type : Nat
  off : Nat
  issued : Nat
  deriving DecidableEq, Repr

/-- A tier 1 or tier 2 record in collection: the ranges read, keyed by offset, its secure lines,
whether a range came over the tap ring, whether one was chilled, and the runner's replica when the last read
completed (R354). -/
structure PartRec where
  uid : Nat
  type : Nat
  got : Tab (List Byte)
  secure : List Nat
  ring : Bool
  chilled : Bool
  readLo : Nat
  /-- It is to end with this state and reason, once tier 2 is admitted again (R334). -/
  ending : Option (Nat × Nat)
  deriving DecidableEq, Repr

/-- A record being written: the word sum of its decoded payload, elapsed steps at issue, its offset in its quarter
or half (R329, R330, R348). -/
structure Writing where
  record : Rec
  sum : Nat
  since : Nat
  offset : Nat
  deriving DecidableEq, Repr

/-- The collection of one die (R327–R345). -/
structure DieWork where
  /-- Next tier 0 ring read of this die, in the runner's own order. -/
  cursor : Nat
  clusters : Tab Tier0Cluster
  tier0Built : Bool
  /-- Taps failed in this shakeout (R339), and those whose CORE_CLOCK read ended without a value (R342). -/
  failedTaps : BitVec 8
  clockless : BitVec 8
  /-- Slots after a bulk timeout: cluster × 136 + slot (R338). -/
  ringSlots : BitVec 1088
  /-- Tier, record and byte offset of the next debug-class read. -/
  bulkTier : Nat
  bulkRec : Nat
  bulkOff : Nat
  out : List BulkRead
  parts : List PartRec
  /-- Records being written, and where the next tier 1 and tier 2 records go (R330). -/
  writing : List Writing
  place1 : Nat
  place2 : Nat
  /-- Seal parts of tiers 0, 1 and 2. -/
  sums : List Nat
  /-- Tiers whose part has been reported. -/
  reported : BitVec 3
  lost : Bool
  /-- Progress as the frame reports showed it last, and frames without advance (R344). -/
  progress : Nat
  still : Nat
  deriving DecidableEq, Repr

/-- A die's collection as START leaves it. -/
def DieWork.fresh : DieWork :=
  { cursor := 0, clusters := [], tier0Built := false, failedTaps := 0, clockless := 0, ringSlots := 0
    bulkTier := 1, bulkRec := 0, bulkOff := 0, out := [], parts := [], writing := [], place1 := 1183744
    place2 := 4096, sums := [0, 0, 0]
    reported := 0, lost := false, progress := 0, still := 0 }

/-- A seal reduction that the hub has named (R349, R350). -/
structure SealWave where
  tier : Nat
  /-- PNS at which the lane-0 wave begins. -/
  wave : Nat
  repeated : Bool
  deriving DecidableEq, Repr

/-- A shakeout in progress. -/
structure Shakeout where
  slot : Nat
  ref : Bool
  /-- Requested tiers not truncated, and tiers whose space has been checked, as bit masks. -/
  tiers : Nat
  opened : Nat
  aborting : Bool
  dies : Tab DieWork
  /-- The spare map's rows as committed at START (R310, log entry 152). -/
  rows : Tab SpareRow
  /-- CORE_CLOCK of each cluster in scope as read at START (R342); absent where the read failed. -/
  stopped : Tab Nat
  frozen : BitVec 16
  /-- Clusters that a unit reset has taken since START (R343). -/
  resets : BitVec 128
  sealWave : Option SealWave
  sealed : List Nat
  deriving DecidableEq, Repr

/-- Fettling of a reserve area as the governor's job (R362, R674). -/
inductive FettleJob where
  | refQuarters | latestQuarters | tier2Halves
  deriving DecidableEq, Repr

/-- Shakeout objects, Ladle and reserve. -/
structure Dump where
  tiers : Nat
  scope : BitVec 128
  status : Nat
  result : Nat
  bytesRead : Nat
  bytesStored : Nat
  refImage : Nat
  imageId : Nat
  select : Nat
  recordKey : List Byte
  unreachable : BitVec 17536
  /-- SO_SEAL and header counts of the latest image. -/
  sealSum : Nat
  unreachableCount : Nat
  excludedLines : Nat
  /-- The Ladle's 4 slots (R360). -/
  slots : List (Option Image)
  refArea : Area
  latestArea : Area
  tier2Area : Area
  reserveBase : Nat
  reserveBaseT2 : Nat
  reserveSize : Nat
  reserveSizeT2 : Nat
  tier2Reserve : Bool
  running : Option Shakeout
  fettle : List FettleJob
  /-- A shakeout of a procedure waits for an IMAGE_ID (R745): its trigger, tiers, scope. -/
  waiting : Option (Nat × Nat × BitVec 128)
  deriving DecidableEq, Repr

/-! ## A takeover, and both hub cores (02) -/

/-- A takeover in progress (R74). -/
structure Takeover where
  trigger : TakeoverTrigger
  /-- S in PNS, and W in elapsed steps: a wave of the sync network (R74). -/
  start : Nat
  switchAt : Nat
  /-- 0 before W, 1 after W, 2 after W + 0.5 µs, 3 after W + 2 µs. -/
  phase : Nat
  shadowReady : Bool
  /-- PNS step measured at W, in picoseconds (R76). -/
  stepPs : Int
  /-- Session and staged objects lost at W, that the NOTIFY lists (R221). -/
  lostObjects : List Nat
  /-- What the mirrors hold at S (R71, R77): the Ladle's slots, the shakeout in progress, the next
  LOG_SEQ, how many records waited for one, and the newest record's. -/
  ladle : List (Option Image)
  shakeout : Option Shakeout
  logNext : Nat
  logWaiting : Nat
  logHead : Nat
  deriving DecidableEq, Repr

/-- Both hub cores and which is active. -/
structure Hub where
  hubA : HubCore
  riser : HubCore
  /-- HUB_ACTIVE: the riser is active (R52). -/
  riserActive : Bool
  /-- Pin ownership bit: the riser owns the pins (R82, R83). -/
  riserOwns : Bool
  /-- The keepers hold the pins through a reset (R610), and since W until this elapsed step (R85). -/
  keeperHolds : Bool
  keeperUntil : Nat
  takeover : Option Takeover
  deriving DecidableEq, Repr

/-! ## Hang detection and recovery (08) -/

/-- The scan of one engine as the hub holds it (R369). -/
structure EngineScan where
  progress : Nat
  resident : Nat
  /-- CORE_CLOCK bit 1 and half not chilled at that scan. -/
  live : Bool
  stall : Nat
  hung : Bool
  deriving DecidableEq, Repr

/-- What a frame report holds until it is evaluated (R56, R369): the HEARTBEAT of each tap, none where the tap did not
answer, and each engine with whether its CORE_CLOCK bit was 1 and its half not chilled. -/
structure ScanRep where
  beats : List (Option Nat)
  engines : List (EngineReport × Bool)
  /-- The readings of the sensors (R544). -/
  diodes : List Int
  droops : List Nat
  deriving DecidableEq, Repr

/-- An engine never scanned. -/
def EngineScan.fresh : EngineScan := ⟨0, 0, false, 0, false⟩

/-- The heartbeat watch of one cluster (R365, R366). -/
structure BeatWatch where
  miss : Nat
  beaten : Bool
  last : Nat
  changedFrame : Nat
  tapSilentFrames : Nat
  unobserved : Bool
  deriving DecidableEq, Repr

/-- A cluster never heard. -/
def BeatWatch.fresh : BeatWatch := ⟨0, false, 0, 0, 0, false⟩

/-- Kinds of verdict (R374): the TRIGGER codes of 0x3121.02. -/
inductive VerdictKind where
  | engineHung | hbMiss | runnerSilent | tapSilent | removeUnresponsive | l2Failed | faultManager
  | unitResetRequest
  deriving DecidableEq, Repr

/-- A verdict that waits or runs (R378): kind, unit, engine number, frame in which it was evaluated. -/
structure Verdict where
  kind : VerdictKind
  uid : Nat
  engine : Nat
  frame : Nat
  pns : Nat
  deriving DecidableEq, Repr

/-- A suspect (0x3130). -/
structure Suspect where
  ctx : Nat
  epoch : Nat
  /-- 0 PENDING, 1 INNOCENT, 2 CULPRIT, 3 NOT_REPLAYED. -/
  verdict : Nat
  /-- The hung engine that holds it: UID and engine; none for a suspect of a hung CCP. -/
  avoid : Option (Nat × Nat)
  deriving DecidableEq, Repr

/-- The hang procedure (R378–R402). -/
structure Procedure where
  /-- PROC_STATE. -/
  state : Nat
  level : Nat
  trigger : Nat
  targetUid : Nat
  targetEngine : Nat
  startPns : Nat
  endPns : Nat
  result : Nat
  imageId : Nat
  l3Phase : Nat
  scope : BitVec 128
  startFrame : Nat
  /-- SCHED_TABLE entry of its quench or resume, when it has one. -/
  entry : Option Nat
  /-- A cut in force was used, so it neither quenches nor resumes (R380). -/
  usesCut : Bool
  /-- No cut: tier 0 only (R381). -/
  noCut : Bool
  /-- Binding reads of R376 outstanding; a cache that held nothing made the suspects unknown. -/
  reading : Nat
  unknown : Bool
  /-- Engines found hung: UID, engine (R370). -/
  engines : List (Nat × Nat)
  /-- Clusters whose unit reset the procedure has still to start (R374). -/
  resets : List Nat
  /-- It escalated to L2 without a cut, so it re-admits nothing itself (R376). -/
  noReadmit : Bool
  /-- A unit reset of the procedure has failed (R409). -/
  routed : Bool
  /-- PNS at which collection may start (R382). -/
  collectAt : Nat
  /-- A RESUME of its own waits under R731. -/
  resumeWaits : Bool
  queue : List Verdict
  suspects : List Suspect
  culpritKind : Nat
  culpritCtx : Nat
  culpritUid : Nat
  culpritEngine : Nat
  culpritPns : Nat
  deriving DecidableEq, Repr

/-- A removal in the queue of R388. -/
structure Removal where
  ctx : Nat
  hold : Bool
  /-- Started by the hub, not by CONTEXT_REMOVE. -/
  byHub : Bool
  deriving DecidableEq, Repr

/-- Kinds of context cast (R384). -/
inductive CtxKind where
  | remove | readmit | replay
  deriving DecidableEq, Repr

/-- A context cast held open (R385). -/
structure CtxCast where
  id : Nat
  kind : CtxKind
  hold : Bool
  contexts : List Nat
  epochs : List Nat
  targets : BitVec 160
  avoidUid : Nat
  avoidEngine : Nat
  issued : Nat
  retries : Nat
  answers : Tab Nat
  /-- What the targets have added on lane 1 (R385). -/
  laneCount : Nat
  /-- Targets whose removal completes when their reset asserts (R393). -/
  stalled : BitVec 160
  counted : Bool
  /-- PNS at which DRAIN_NS has elapsed, once the count is complete (R394). -/
  drainAt : Option Nat
  deriving DecidableEq, Repr

/-- A replay in progress (R397–R399). -/
structure Replay where
  castId : Nat
  ctx : Nat
  acted : Bool
  uid : Nat
  engine : Nat
  frames : Nat
  stall : Nat
  lastProgress : Nat
  /-- First full frame after ACTED. -/
  fromFrame : Nat
  deriving DecidableEq, Repr

/-- The latest unit reset (0x3011) and the one in progress. -/
structure UnitReset where
  state : Nat
  uid : Nat
  mode : Nat
  errCompletions : Nat
  donePns : Nat
  /-- Elapsed steps of the acceptance instant U; none while removals of R405 wait. -/
  since : Option Nat
  active : Bool
  /-- Started by the hub, and the second try of a runner (R409). -/
  byHub : Bool
  retried : Bool
  /-- The hub's own unit resets that wait for their turn: UID, TRIGGER. -/
  queue : List (Nat × Nat)
  /-- Contexts whose removal is to be issued before the reset starts (R405). -/
  waitFor : List Nat
  /-- Contexts of the cluster, re-admitted once it is back in service (R405). -/
  contexts : List Nat
  /-- Elapsed steps at which reset asserted. -/
  assertedAt : Nat
  releasedAt : Nat
  /-- Contexts to re-admit at the next step boundary (R405). -/
  readmit : List Nat
  deriving DecidableEq, Repr

/-- Detection, procedure, removals, resets. -/
structure Hang where
  hbLimit : Nat
  progLimit : Nat
  /-- Limits in force for evaluation in the frame running (R371). -/
  hbLimitNow : Nat
  progLimitNow : Nat
  replayLimit : Nat
  drainNs : Nat
  ceiling : Nat
  beats : Tab BeatWatch
  /-- Keyed by die × 4,352 + cluster × 544 + slot × 4 + e. -/
  engines : Tab EngineScan
  /-- Binding cache: keyed by die × 1,088 + cluster × 136 + slot; the 128 octets (R377). -/
  bindings : Tab (List Byte)
  /-- FRAME_NUMBER of the latest evaluation (R378). -/
  evalFrame : Nat
  /-- Frames whose reports are still to be evaluated, oldest first (R209, R210). -/
  evalDue : List Nat
  /-- Frame reports received and not evaluated: FRAME_NUMBER, die, report. -/
  reports : List (Nat × Nat × ScanRep)
  proc : Procedure
  /-- CONTEXT_STATE: epoch + 256 × state, keyed by context; default 0. -/
  contexts : Tab Nat
  queue : List Removal
  /-- Hub removals that wait for places (R388), and removals held aside (R748). -/
  overflow : List Removal
  aside : List Removal
  casts : List CtxCast
  replay : Option Replay
  /-- FETTLING contexts: dies that have still to report, keyed by context. -/
  fettling : Tab Nat
  reset : UnitReset
  /-- Device recovery: elapsed steps at which the phase began (R412). -/
  l3Since : Nat
  l3Failed : Bool
  beaconSeq : Nat
  localBeacon : Nat
  /-- Beacons seen: ORIGIN_ID, BEACON_SEQ, elapsed steps (R421). -/
  seenBeacons : List (Nat × Nat × Nat)
  deriving DecidableEq, Repr

/-! ## Fault management and admission (09) -/

/-- Step mark, liveness, SUSPECT, expulsion. -/
structure Fault9 where
  stepMark : Nat
  markPhase : Nat
  markPns : Nat
  jobView : Nat
  /-- FRAME_NUMBER at the latest write of JOB_VIEW (R433). -/
  jobViewAt : Nat
  disagree : Nat
  disagreeLimit : Nat
  suspectState : Nat
  suspectPns : Nat
  /-- IMAGE_ID of the tier 0 of SUSPECT; 0 none. -/
  suspectImage : Nat
  /-- Frames agreed since REPORTED (R440). -/
  agreeFrames : Nat
  selftestResult : Nat
  probeFails : Nat
  portsFailed : BitVec 48
  marchErrors : Nat
  enginesUntested : Nat
  /-- Elapsed steps at the start of the self-test, and whether its march waits for a shakeout that
  collects tier 1 (R437, R439). -/
  testSince : Nat
  marchWaits : Bool
  fenceState : Nat
  fenceSeq : Nat
  fencePns : Nat
  /-- Expulsion in progress: 0 none, 1 ports, 2 cut, 3 collection waits, 4 image; E, REASON, cut instant. -/
  expelPhase : Nat
  expelAt : Nat
  expelReason : Nat
  expelCutAt : Nat
  expelEntry : Option Nat
  expelNoCut : Bool
  expelImage : Nat
  deriving DecidableEq, Repr

/-- A stream record of R454. -/
structure StreamRec where
  type : Nat
  sub : Nat
  payload : List Byte
  crcOk : Bool
  deriving DecidableEq, Repr

/-- Spare admission (R449–R459). -/
structure Admission where
  partner : Nat
  ports : BitVec 48
  layout : List Byte
  source : List Byte
  atStep : Nat
  state : Nat
  bytes : Nat
  records : Nat
  crcErrors : Nat
  sealWanted : Nat
  sealGot : Nat
  reason : Nat
  shortTotal : Nat
  shortDies : BitVec 16
  shortDieCores : Nat
  shortReserve : Nat
  /-- An ADM_OPEN with matching serials has arrived (R456). -/
  opened : Bool
  /-- FRAME_NUMBER of the latest record. -/
  lastFrame : Nat
  /-- Sums of the words that each die's runner wrote, and their mirrors, keyed by the partner die (R24). -/
  sums : Tab Nat
  mirrors : Tab Nat
  endCount : Nat
  /-- Lane-3 wave named, and whether it is the second (R457). -/
  wave : Option Nat
  second : Bool
  /-- Entry of its QUENCH. -/
  entry : Option Nat
  /-- Anything written, so that FAILED passes through FETTLING. -/
  written : Bool
  /-- The reason that FAILED will read once FETTLING is over (R457). -/
  why : Nat
  /-- Destination ranges written: die, address, length. -/
  regions : List (Nat × Nat × Nat)
  /-- Records of ADM_SOURCE served so far. -/
  served : Nat
  serveSeal : Nat
  deriving DecidableEq, Repr

/-! ## Test bar (10) -/

/-- An order outstanding for a buffer slot of a bar (R473). -/
structure BarOrder where
  /-- Bar: 0 Hub A, 1 riser. -/
  bar : Nat
  slot : Nat
  orderId : Nat
  inject : Bool
  uid : Nat
  engine : Nat
  logical : Nat
  deadline : Nat
  stepMark : Nat
  /-- Built-in probe number when injected. -/
  probe : Option Nat
  /-- The round in which it was issued. -/
  round : Nat
  deriving DecidableEq, Repr

/-- A capture that has arrived (R476, R477). -/
structure Capture where
  orderId : Nat
  status : Nat
  format : Nat
  uid : Nat
  engine : Nat
  cInPresent : Bool
  secure : Bool
  untimed : Bool
  injected : Bool
  k : Nat
  ctx : Nat
  epoch : Nat
  instrAddr : Nat
  issuePns : Nat
  body : List Byte
  deriving DecidableEq, Repr

/-- A mismatch under second computation (R482). -/
structure Recheck where
  order : BarOrder
  capture : Capture
  first : List Nat
  secondBar : Nat
  /-- The same bar computes again after its self-check. -/
  sameBar : Bool
  selfCheckPassed : Option Bool
  deriving DecidableEq, Repr

/-- An event record (R487, R488). -/
structure BarEvent where
  kind : Nat
  format : Nat
  flags : Nat
  seq : Nat
  uid : Nat
  engine : Nat
  logical : Nat
  k : Nat
  ctx : Nat
  epoch : Nat
  stepMark : Nat
  issuePns : Nat
  detectPns : Nat
  instrAddr : Nat
  mismatches : Nat
  firstBad : Nat
  barFirst : Nat
  barSecond : Nat
  body : List Byte
  operandLen : Nat
  deriving DecidableEq, Repr

/-- A probe kernel held (R491). -/
structure Kernel where
  id : Nat
  bytes : List Byte
  deriving DecidableEq, Repr

/-- The latest probe run (R493). -/
structure ProbeRun where
  kernel : Nat
  seq : Nat
  uid : Nat
  engine : Nat
  onEngine : Bool
  status : Nat
  opsRun : Nat
  firstBad : Nat
  endPns : Nat
  /-- Entries: CRC of the bar's result, OUTCOME. -/
  ops : List (Nat × Nat)
  /-- Previous results of bar and engine, for chained ops. -/
  prevBar : List Nat
  prevEngine : List Nat
  deriving DecidableEq, Repr

/-- What happened to an engine in the rounds (R480). -/
structure EngineVisit where
  /-- Visited, compared in this round and in the one before. -/
  visited : Bool
  compared : Bool
  missedBefore : Bool
  answer : Nat
  deriving DecidableEq, Repr

/-- An engine never visited. -/
def EngineVisit.fresh : EngineVisit := ⟨false, false, false, 0⟩

/-- Test-bar sampling and events. -/
structure Bar where
  rate : Nat
  standby : Nat
  waitNs : Nat
  seed : Nat
  formats : Nat
  round : Nat
  position : Nat
  coverageMs : Nat
  unsampled : Nat
  /-- State of Hub A's and the riser's bar: 0 OK, 1 SELF_CHECK, 2 FAULT, 3 IN_RESET. -/
  stateA : Nat
  stateR : Nat
  compared : Nat
  /-- Sampling credit in tiles, held exact (R471). -/
  credit : Rat
  seedNow : Nat
  roundStart : Nat
  orderCounter : Nat
  /-- The latest slot served: FRAME_NUMBER × 16 + slot (R471). -/
  slotDone : Nat
  /-- Bar that receives the next capture when shared (R496). -/
  nextBar : Nat
  orders : List BarOrder
  rechecks : List Recheck
  /-- What goes first in the next granted slots: engine, and probe number 0–8 or 9 for a SNOOP
  (R480, R482, R489). -/
  first : List (Nat × Nat)
  /-- Probes of every engine (R490): the next one, as rotation index × 9 + probe number. -/
  sweep : Option Nat
  visits : Tab EngineVisit
  events : List BarEvent
  /-- Events that wait for an EVENT_SEQ (R745). -/
  eventsWaiting : List BarEvent
  eventSelect : Nat
  eventLast : Nat
  quarantine : BitVec 69632
  storm : Bool
  /-- FRAME_NUMBERs of recent quarantines, and of the latest confirmed SDC (R486). -/
  quarantinedAt : List Nat
  lastSdc : Nat
  kernels : List Kernel
  run : Option ProbeRun
  runSeq : Nat
  deriving DecidableEq, Repr

/-! ## Trace (11) -/

/-- A die's trace sink (R525–R527). -/
structure Sink where
  writeOffset : Nat
  wraps : Nat
  full : Bool
  frozen : Bool
  linesWritten : Nat
  linesDiscarded : Nat
  lost : Nat
  resetPns : Nat
  freezePns : Nat
  /-- Lines that arrived while the sink was frozen, oldest first (R538). -/
  heldLines : List (List Byte)
  /-- Write offset at the runner's last frame report (R538). -/
  reportedOffset : Nat
  /-- The header block last written (R527); empty before the first. -/
  header : List Byte
  deriving DecidableEq, Repr

/-- A sink after the buffer's reset at PNS 0 (R525). -/
def Sink.fresh : Sink := ⟨4096, 0, false, false, 0, 0, 0, 0, 0, [], 4096, []⟩

/-- Trace configuration and progress. -/
structure Trace where
  enable : BitVec 16384
  stall : BitVec 16384
  mode : Nat
  interval : Nat
  /-- Range sets 0–15 as 64 octets each, and range maps of dies 0–15 as 512 octets each, in Proros order. -/
  rangeSets : Tab (List Byte)
  rangeMaps : Tab (List Byte)
  base : Nat
  size : Nat
  policy : Nat
  appliedFrame : Nat
  switchPending : Bool
  lostPackets : Nat
  ovfCores : BitVec 16384
  sinkDiscards : Nat
  stallTimeouts : Nat
  sinks : Tab Sink
  /-- Taps of the change in progress, and those to retry (R530). -/
  changed : BitVec 128
  retry : BitVec 128
  /-- Boundary B of the switch issued. -/
  switchAt : Option Nat
  /-- Scopes in the pending copies: bit 0 TRACE_PRIV, bit 1 TRACE_SECURE (R536). -/
  scopes : Nat
  /-- Trace is to be fettled after the switch that disables it (R533, R675). -/
  fettleAfter : Bool
  deriving DecidableEq, Repr

/-! ## Power (12) -/

/-- The sensor record of a die (R546 and its table). Diodes in 1/16 °C. -/
structure DieSensors where
  diode : List Int
  droopMin : List Nat
  diodeFail : BitVec 8
  stale : Bool
  droopTrip : Bool
  scale : Nat
  /-- Consecutive invalid readings per cluster (R545). -/
  invalid : List Nat
  /-- Ticks at or above T_CRIT with credit 0 per cluster, and below T_HOT for the die (R563). -/
  hotTicks : List Nat
  coolTicks : Nat
  /-- A report has brought DROOP_MIN since the previous tick (R560). -/
  droopNew : Bool
  deriving DecidableEq, Repr

/-- A die before its first report. -/
def DieSensors.fresh : DieSensors :=
  ⟨List.replicate 8 0, List.replicate 4 0, 0, false, false, 8, List.replicate 8 0,
   List.replicate 8 0, 0, false⟩

/-- A rail record (R550 and its table). -/
structure Rail where
  address : Nat
  page : Nat
  role : Nat
  status : Nat
  voutMv : Nat
  ioutDa : Nat
  pinW : Nat
  temp : Int
  /-- VOUT_MODE exponent when it is LINEAR16, once read. -/
  exponent : Option Int
  unsupported : Bool
  /-- Elapsed steps of its last complete sweep. -/
  sweptAt : Nat
  /-- The transaction in progress has been retried once (R549). -/
  retried : Bool
  nak : Bool
  statusWord : Nat
  deriving DecidableEq, Repr

/-- A rail of the map with nothing read. -/
def Rail.fresh : Rail := ⟨0, 0, 0, 0, 0, 0, 0, 0, none, false, 0, false, false, 0⟩

/-- The power governor. -/
structure Power where
  budget : Nat
  full : Nat
  hubCap : Nat
  thin : Int
  hot : Int
  crit : Int
  floor : Nat
  droopMv : Nat
  priority : List Nat
  ageLimit : Nat
  credits : Tab Nat
  permitFrame : Nat
  k : Nat
  dies : Tab DieSensors
  rails : Tab Rail
  pmbKhz : Nat
  emergency : Nat
  cause : BitVec 8
  holdDies : BitVec 16
  /-- The readings that PW_MEASURED_W sums are fresher than the last tick (R559). -/
  freshReading : Bool
  /-- Sweep position (R548): 0–15 the VOUT_MODE of that rail, 16–31 the sweep of rail n − 16, and the
  command within the rail. -/
  sweepRail : Nat
  sweepCommand : Nat
  /-- The transaction in progress was cut off and is issued again in the next frame (R86, R740). -/
  pmbReissue : Bool
  railFault : Bool
  admitted : BitVec 4
  /-- Slots of the frame granted to SAMPLING, bit per slot. -/
  grantedSlots : Nat
  /-- Slot 2 of the period in PNS, and the hub's credit still unspent, in 1/160 nJ (R565). -/
  periodStart : Nat
  credit : Int
  ages : List Nat
  starved : List Nat
  deriving DecidableEq, Repr

/-! ## Memory -/

/-- Stacked memory as the hub writes it: addresses strictly rising, no listed octet zero. -/
abbrev Mem := List Host.Cell

/-! ## The state -/

/-- A queue of commands waits in front of everything the spec gives the block. -/
structure State where
  /-- Commands waiting, first in, first out. -/
  pending : List Instr
  /-- Elapsed interpolator steps of 6.25 ps (log entry 2). -/
  elapsed : Nat
  /-- What the latest command sent (log entry 11). -/
  emitted : List Emit
  /-- Index of the next free value (log entry 9). -/
  freeCount : Nat
  fuses : Fuses
  topo : Topo
  hub : Hub
  tb : TimeBase
  /-- Time wires of Hub A and of the riser. -/
  wireA : Wire
  wireR : Wire
  pod : Pod
  frame : Frame
  /-- Entries 0–31 of SCHED_TABLE; default FREE. -/
  sched : Tab SchedEntry
  units : Units
  qu : Quench
  podCut : PodCut
  dump : Dump
  hang : Hang
  fm : Fault9
  adm : Admission
  bar : Bar
  trace : Trace
  power : Power
  rst : Reset
  backup : Backup
  flash : Flash
  logSeq : Counter
  imageIds : Counter
  eventSeqs : Counter
  log : LogStore
  port : Port
  fw : FwUpdate
  lc : Lifecycle
  pins : Pins
  /-- Stacked memory written by the sinks: die × 2³⁷ + offset → octet (R526, log entry 13). -/
  dram : Mem
  deriving DecidableEq, Repr

/-! ## Reset values (R695, chapter 16, and the home chapters' Default columns) -/

/-- Health entries apart, the topology as manufacture left it (R20, R23). -/
def Topo.fresh : Topo := ⟨[], 0, 0, [], 0⟩

/-- A hub core under reset. -/
def HubCore.fresh : HubCore :=
  { proc := .inReset, heartbeat := 0, heartbeatPrev := 0, lockstepFault := false
    clockGood := false, gated := false, heldInReset := false, closeFrames := 0
    strayed := false, mirrorStale := false, selfCheckPassed := none, fwSlot := 0, fwVersion := 0
    wantSlot := none, noImage := false }

/-- Both cores under POR; the pins are Hub A's (R83). -/
def Hub.fresh : Hub := ⟨HubCore.fresh, HubCore.fresh, false, false, false, 0, none⟩

/-- A counter that does not run. -/
def Clock.fresh : Clock := ⟨0, 0, 0, 0, 0, false⟩

/-- TICK_IN after POR: qualifying (R139); it reads 0 while R133 leaves the input unused. -/
def TickIn.fresh : TickIn := ⟨1, none, none, 0, 0, 0⟩

/-- The time base after POR (R144–R146). -/
def TimeBase.fresh : TimeBase :=
  { active := Clock.fresh, standby := Clock.fresh, refclkPresent := true, dcoSince := none
    taiSeconds := 0, fracLatch := [], tickOutMode := 0, tickOutOld := none
    tickOutLast := none, tickInMode := 0, tickInDelayPs := 0
    tickIn := TickIn.fresh, tickInStandby := TickIn.fresh }

/-- The servo after POR (R176, R179, R698). -/
def Servo.fresh : Servo :=
  { kp := 0x20000000, ki := 0x01000000, state := 0, integral := 0, freqPpb := 0, offsetPs := 0
    lastSample := none, goodRun := 0, outliers := 0, reasons := [], growth := 0
    growthSince := 0, asym := 0, unresolved := none, windowFrom := none
    windowEnded := none, samples := [], exitSamples := [], lastAccepted := 0, beforePath := 0
    slewLeft := 0, resuming := false, retryAt := 0
    retrying := false }

/-- Pod time after POR (R194, R698). -/
def Pod.fresh : Pod :=
  { role := 0, gmPriority := 128, gmId := 0, hops := 0xFF, pathId := 0, upstream := none
    gmCount := 0, tickRef := false, upBound := 0xFFFFFFFF, boundOf := 0, seenPath := 0, seenGm := 0, heardAt := 0, gmChangedAt := 0
    candidateSince := none, portMask := BitVec.allOnes 48, syncRate := 2500, ports := []
    servo := Servo.fresh, shadow := Servo.fresh, asymLimitPs := 2000, taiResidual := 0, txts := [], txtsOverflow := 0
    stepsDone := [], stepCount := 0, syncIndex := [] }

/-- Frame state after POR (R202, R205). -/
def Frame.fresh : Frame :=
  { lenNs := 400000, lenNext := 0, lenAt := 0, number := 0, ticked := false, nextTick := 0
    opened := 0, carryCount := 0, carried := false, frozen := false, sets := [], groups := []
    nextSetId := 0 }

/-- Taps, runners, groups and ports in reset. -/
def Units.fresh : Units := ⟨[], [], [], [], [], [], []⟩

/-- Quench objects after reset (R306, R700). -/
def Quench.fresh : Quench :=
  { set := BitVec.allOnes 160, time := 0, state := 0, cutId := 0, cutPns := 0, cutFlags := 0
    postponeCount := 0, armExpected := 0, armCount := 0, podInCut := 0, podOut := 0
    podClustersOut := 0, orderSeq := 0, mode := 0, notInCut := 0, notInCutOther := 0
    stepCycles := 1, stepNet := false, stepExcluded := 0, resumeTime := 0, peekUid := 0
    peekWindow := 0x43, peekOffset := 0, peekLength := 256, peek := none, peekSeq := 0
    peekOut := false, castCounter := 0, casts := [], hand := none, closing := none, lateCancels := [], refreeze := none, members := 0, stepping := 0
    overrun := 0, stepFrom := [] }

/-- No pod cut. -/
def PodCut.fresh : PodCut := ⟨[], [], none, 0, 0, 0, false, false, none⟩

/-- An area that holds no image. -/
def Area.empty : Area := ⟨0, [], []⟩

/-- Shakeout objects after POR (R364, R700). -/
def Dump.fresh : Dump :=
  { tiers := 3, scope := BitVec.allOnes 128, status := 0, result := 0, bytesRead := 0
    bytesStored := 0, refImage := 0, imageId := 0, select := 0
    recordKey := List.replicate 8 0, unreachable := 0, sealSum := 0, unreachableCount := 0
    excludedLines := 0, slots := [none, none, none, none], refArea := Area.empty
    latestArea := Area.empty, tier2Area := Area.empty, reserveBase := 0x1DC5600000
    reserveBaseT2 := 0x1D65600000, reserveSize := 0x08000000, reserveSizeT2 := 0x60000000
    tier2Reserve := false, running := none, fettle := [], waiting := none }

/-- No procedure has run (R426). -/
def Procedure.fresh : Procedure :=
  { state := 0, level := 0, trigger := 0, targetUid := 0, targetEngine := 0, startPns := 0
    endPns := 0, result := 0, imageId := 0, l3Phase := 0, scope := 0, startFrame := 0
    entry := none, usesCut := false, noCut := false, reading := 0, unknown := false
    engines := [], resets := [], noReadmit := false, routed := false, collectAt := 0
    resumeWaits := false, queue := [], suspects := [], culpritKind := 0, culpritCtx := 0
    culpritUid := 0, culpritEngine := 0, culpritPns := 0 }

/-- No unit reset has run. -/
def UnitReset.fresh : UnitReset :=
  { state := 0, uid := 0, mode := 0, errCompletions := 0, donePns := 0, since := none
    active := false, byHub := false, retried := false, queue := [], waitFor := [], contexts := []
    assertedAt := 0, releasedAt := 0, readmit := [] }

/-- Detection and recovery after POR (R426, R699). -/
def Hang.fresh : Hang :=
  { hbLimit := 4, progLimit := 8, hbLimitNow := 4, progLimitNow := 8, replayLimit := 256
    drainNs := 20000, ceiling := 2, beats := [], engines := [], bindings := []
    evalFrame := 0, evalDue := [], reports := [], proc := Procedure.fresh, contexts := [], queue := [], overflow := []
    aside := [], casts := [], replay := none, fettling := [], reset := UnitReset.fresh
    l3Since := 0, l3Failed := false, beaconSeq := 0, localBeacon := 0, seenBeacons := [] }

/-- Fault management after POR (R429, R461, R705). -/
def Fault9.fresh : Fault9 :=
  { stepMark := 0, markPhase := 1, markPns := 0, jobView := 0, jobViewAt := 0, disagree := 0
    disagreeLimit := 16, suspectState := 0, suspectPns := 0, suspectImage := 0
    agreeFrames := 0, selftestResult := 0, probeFails := 0, portsFailed := 0, marchErrors := 0
    enginesUntested := 0, testSince := 0, marchWaits := false, fenceState := 0, fenceSeq := 0, fencePns := 0, expelPhase := 0
    expelAt := 0, expelReason := 0, expelCutAt := 0, expelEntry := none, expelNoCut := false
    expelImage := 0 }

/-- Admission after POR (R461, R705). -/
def Admission.fresh : Admission :=
  { partner := 0, ports := BitVec.allOnes 48, layout := List.replicate 52 0
    source := [0, 0], atStep := 0, state := 0, bytes := 0, records := 0, crcErrors := 0
    sealWanted := 0, sealGot := 0, reason := 0, shortTotal := 0, shortDies := 0
    shortDieCores := 0, shortReserve := 0, opened := false, lastFrame := 0, sums := [], mirrors := []
    endCount := 0, wave := none, second := false, entry := none, written := false, why := 0, regions := [], served := 0
    serveSeal := 0 }

/-- The test bar after POR (R497, R702). -/
def Bar.fresh : Bar :=
  { rate := 1200, standby := 1, waitNs := 20000, seed := 0, formats := 0x01FF, round := 0
    position := 0, coverageMs := 0, unsampled := 0, stateA := 0, stateR := 0, compared := 0
    credit := 0, seedNow := 0, roundStart := 0, orderCounter := 0, slotDone := 0, nextBar := 0, orders := []
    rechecks := [], first := [], sweep := none, visits := [], events := [], eventsWaiting := []
    eventSelect := 0, eventLast := 0, quarantine := 0, storm := false, quarantinedAt := []
    lastSdc := 0, kernels := [], run := none, runSeq := 0 }

/-- Trace after POR (R540, R701). -/
def Trace.fresh : Trace :=
  { enable := 0, stall := 0, mode := 0, interval := 4096, rangeSets := [], rangeMaps := []
    base := 0x1D25600000, size := 0x40000000, policy := 0, appliedFrame := 0
    switchPending := false, lostPackets := 0, ovfCores := 0, sinkDiscards := 0
    stallTimeouts := 0, sinks := [], changed := 0, retry := 0
    switchAt := none, scopes := 0, fettleAfter := false }

/-- The governor after POR (R572, R703). -/
def Power.fresh : Power :=
  { budget := 16000, full := 110, hubCap := 18, thin := 1520, hot := 1680, crit := 1840
    floor := 32, droopMv := 690, priority := [0, 1, 2, 3], ageLimit := 64, credits := []
    permitFrame := 0, k := 0x8000, dies := [], rails := [], pmbKhz := 400, emergency := 0
    cause := 0, holdDies := 0, freshReading := false, sweepRail := 0, sweepCommand := 0, pmbReissue := false
    railFault := false, admitted := 0, grantedSlots := 0, periodStart := 0
    credit := 0, ages := [0, 0, 0, 0], starved := [0, 0, 0, 0] }

/-- The reset controller under POR (R574, R589). -/
def Reset.fresh : Reset :=
  { porAsserted := true, resetNLow := false, overlapPin := false, counted := false, phase := 0
    holdReason := 0, released := 0, d8Waves := 0, times := List.replicate 12 0, porAt := 0, lostAt := 0
    optionsDone := false, loading := false, fromPor := true
    lostDies := 0, lostFrom := [], clockHeld := 0, clockLostCount := 0, resetIgnored := 0
    stormRecent := 0, stormLimit := 16, gaps := List.replicate 10 4096
    gapsNow := List.replicate 10 4096, strapCode := 0, strapMv := 0, strapAmbiguous := false
    roleBit := false, tickSourceBit := false }

/-- A copy of the option block that is not valid. -/
def OptionCopy.none : OptionCopy := ⟨false, 0, []⟩

/-- A copy of the persistent area that is not valid. -/
def PersistCopy.none : PersistCopy := ⟨false, 0, 0, 0, 0, 0, 0, 0⟩

/-- A blank flash (log entry 6). -/
def Flash.blank : Flash :=
  { option0 := OptionCopy.none, option1 := OptionCopy.none, optionUsed := 0
    optionWriting := none, optionDirty := false, persist0 := PersistCopy.none
    persist1 := PersistCopy.none, persistUsed := 0, persistWriting := none
    persistDirty := false, persistSince := 0, selectHigh := 0, readyAt := 0, slotA := [], slotB := [] }

/-- A counter before D3 has resumed it (R745). -/
def Counter.fresh : Counter := ⟨0, 0, 0⟩

/-- An empty log store. -/
def LogStore.fresh : LogStore := ⟨[], [], 0, 0, 0, []⟩

/-- The management port after POR (R626, R660). -/
def Port.fresh : Port :=
  { claimState := 0, tagFails := 0, replayDrops := 0, notifyDrops := 0, plcaActive := false
    claimSince := 0, claimLast := none, claimLogged := false, sessions := []
    nextSession := 1, blocks := [], nextBlock := 1 }

/-- No update (R660). -/
def FwUpdate.fresh : FwUpdate := ⟨0, 0, 0, 0xFF, 0, 0, false, 0⟩

/-- A key store as manufacture leaves it (R744). -/
def KeyStore.blank : KeyStore := ⟨true, 0, [], 0, false, []⟩

/-- Lifecycle as manufacture leaves it (R744). -/
def Lifecycle.blank : Lifecycle :=
  ⟨KeyStore.blank, KeyStore.blank, [[], [], [], [], []], 0, 0, 0, false⟩

/-- Pins under POR (R610); QUENCH_IN_N disarmed (R727). -/
def Pins.fresh : Pins := ⟨true, false, 0, false, 0, 0, none, false, false, 0x3F, false, 0⟩

/-- The block right after reset: under power-on reset, supply good, no domain released (log entry 6). -/
def State.reset : State :=
  { pending := [], elapsed := 0, emitted := [], freeCount := 0
    fuses := ⟨1, List.replicate 97 0, 0, false, []⟩, topo := Topo.fresh, hub := Hub.fresh, tb := TimeBase.fresh
    wireA := Wire.idle, wireR := Wire.idle, pod := Pod.fresh, frame := Frame.fresh, sched := []
    units := Units.fresh, qu := Quench.fresh, podCut := PodCut.fresh, dump := Dump.fresh
    hang := Hang.fresh, fm := Fault9.fresh, adm := Admission.fresh, bar := Bar.fresh
    trace := Trace.fresh, power := Power.fresh, rst := Reset.fresh, backup := Backup.afresh
    flash := Flash.blank, logSeq := Counter.fresh, imageIds := Counter.fresh
    eventSeqs := Counter.fresh, log := LogStore.fresh, port := Port.fresh, fw := FwUpdate.fresh
    lc := Lifecycle.blank, pins := Pins.fresh, dram := [] }

/-! ## Outcomes other than a next state -/

/-- Why the block would stop with a fault. No command raises one: the spec names no fault of the
block's own, and every failure it describes is a state, a record or an abort code. -/
inductive Fault where
  /-- Never raised. Safe: nothing follows from it. -/
  | none
  deriving DecidableEq, Repr

/-- Why a command is refused by the model. -/
inductive Refusal where
  /-- Raised by an arm of `exec` that has no meaning yet. Safe: the block would go on. -/
  | notModelled (mnemonic : String)
  deriving DecidableEq, Repr

end Sys2Proof.Machine
end

