-- ==== Sys2Proof/Machine/Ops.lean ====
section
/-!
DEFINITION. The named operations that the meanings share: sparse tables, stacked memory, elapsed
time and clocks, messages, unit health, frames of the management port, the log, counters,
sessions and the persistent records.
-/
namespace Sys2Proof.Machine

/-! ## Sparse tables -/

/-- The entry of key `k`, if one is listed. -/
def Tab.find {α : Type} : Tab α → Nat → Option α
  | [], _ => none
  | (j, w) :: t, k => if j = k then some w else Tab.find t k

/-- The value of key `k`, with default `d`. -/
def Tab.at {α : Type} (t : Tab α) (k : Nat) (d : α) : α := (Tab.find t k).getD d

/-- List `v` under key `k`, keys rising. -/
def Tab.put {α : Type} : Tab α → Nat → α → Tab α
  | [], k, v => [(k, v)]
  | (j, w) :: t, k, v =>
    if k < j then (k, v) :: (j, w) :: t
    else if k = j then (k, v) :: t
    else (j, w) :: Tab.put t k v

/-- Unlist key `k`. -/
def Tab.del {α : Type} : Tab α → Nat → Tab α
  | [], _ => []
  | (j, w) :: t, k => if j = k then t else (j, w) :: Tab.del t k

/-- Set key `k` to `v`; a value equal to the default is not listed. -/
def Tab.set {α : Type} [DecidableEq α] (t : Tab α) (k : Nat) (d v : α) : Tab α :=
  if v = d then Tab.del t k else Tab.put t k v

/-- Change the value of key `k`. -/
def Tab.mod {α : Type} [DecidableEq α] (t : Tab α) (k : Nat) (d : α) (f : α → α) : Tab α :=
  Tab.set t k d (f (Tab.at t k d))

/-- Keys strictly rising from `lo`. -/
def Tab.sortedFrom {α : Type} : Nat → Tab α → Bool
  | _, [] => true
  | lo, (k, _) :: t => decide (lo ≤ k) && Tab.sortedFrom (k + 1) t

/-- The keys listed. -/
def Tab.keys {α : Type} (t : Tab α) : List Nat := t.map Prod.fst

/-! ## Stacked memory (log entry 13) -/

/-- The octet at an address; an unlisted address reads 0. -/
def Mem.read (m : Mem) (a : Nat) : Byte := Tab.at m a 0

/-- Write one octet; writing 0 unlists the address. -/
def Mem.write (m : Mem) (a : Nat) (b : Byte) : Mem := Tab.set m a 0 b

/-- Write octets at consecutive addresses. -/
def Mem.writeBytes (m : Mem) (a : Nat) : List Byte → Mem
  | [] => m
  | b :: l => Mem.writeBytes (Mem.write m a b) (a + 1) l

/-- The canonical form: addresses strictly rising, no octet 0 listed. -/
abbrev Mem.wf (m : Mem) : Prop := Tab.sortedFrom 0 m = true ∧ ∀ c ∈ m, c.2 ≠ 0

/-- The address of an octet of the stack of a die. -/
def stackAddr (die off : Nat) : Nat := die * 2 ^ 37 + off

/-! ## Clocks (R89–R91, log entry 7) -/

/-- The part of the slew that `el` steps deliver (R91). -/
def Clock.slewed (c : Clock) (el : Nat) : Int :=
  let lim : Int := ((el / Config.stepsPerWave * Config.slewPerWave : Nat) : Int)
  clampInt (-lim) lim c.slew

/-- The count at elapsed step `now`, in 2⁻⁴⁸ ns (R89). -/
def Clock.read (c : Clock) (now : Nat) : Nat :=
  if c.counting then
    let el := now - c.since
    let run : Int := ((el : Int) * (2 ^ 54 + (c.rate + c.drift) * 2 ^ 14)) / 10240
    ((c.acc : Int) + run + c.slewed el).toNat
  else c.acc

/-- The same clock with its count brought up to `now`. -/
def Clock.settle (c : Clock) (now : Nat) : Clock :=
  if c.counting then
    { c with acc := c.read now, since := now, slew := c.slew - c.slewed (now - c.since) }
  else { c with since := now }

/-- Whole nanoseconds. -/
def Clock.ns (c : Clock) (now : Nat) : Nat := c.read now / Config.fracScale

/-- Units of 2⁻¹⁶ ns. -/
def Clock.ns16 (c : Clock) (now : Nat) : Nat := c.read now / 2 ^ 32

/-- Adopt a RATE, clamped (R90). -/
def Clock.setRate (c : Clock) (now : Nat) (r : Int) : Clock :=
  { c.settle now with rate := clampInt (-Config.rateLimit) Config.rateLimit r }

/-- Add a signed amount of 2⁻⁴⁸ ns outright. -/
def Clock.addFrac (c : Clock) (now : Nat) (d : Int) : Clock :=
  let c := c.settle now
  { c with acc := ((c.acc : Int) + d).toNat }

/-- Set the count outright, in 2⁻⁴⁸ ns; a slew in progress ends. -/
def Clock.load (c : Clock) (now acc : Nat) : Clock := { c with acc := acc, since := now, slew := 0 }

/-- Slew by `d` more 2⁻⁴⁸ ns. -/
def Clock.addSlew (c : Clock) (now : Nat) (d : Int) : Clock :=
  let c := c.settle now
  { c with slew := c.slew + d }

/-! ## Elapsed time and messages (log entries 2 and 11) -/

/-- Start of a command: `dt` steps have elapsed, and nothing has been sent yet. -/
def State.begin (s : State) (dt : Nat) : State :=
  { s with elapsed := s.elapsed + dt, emitted := [] }

/-- Steps since `t` in nanoseconds. -/
def State.nsSince (s : State) (t : Nat) : Nat := (s.elapsed - t) / Config.stepsPerNs

/-- PNS of the active TBU, whole ns. -/
def State.pns (s : State) : Nat := s.tb.active.ns s.elapsed

/-- PNS of the active TBU in 2⁻¹⁶ ns. -/
def State.pns16 (s : State) : Nat := s.tb.active.ns16 s.elapsed

/-- Send a message. -/
def State.emit (s : State) (kind : EmitKind) (dest : Nat) (data : List Byte) : State :=
  { s with emitted := s.emitted ++ [⟨kind, dest, data⟩] }

/-- Send one message to each destination. -/
def State.emitAll (s : State) (kind : EmitKind) (dests : List Nat) (data : List Byte) : State :=
  { s with emitted := s.emitted ++ dests.map fun d => ⟨kind, d, data⟩ }

/-- Use up one free value (log entry 9). -/
def State.drawn (s : State) : State := { s with freeCount := s.freeCount + 1 }

/-- The free value that the next draw gives. -/
def State.freeNow (s : State) : Nat := Config.freeValue s.freeCount

/-- 16 random octets of the next draw (R621, R631, R677). -/
def State.random16 (s : State) : List Byte := be 16 (State.freeNow s)

/-! ## Hub cores -/

/-- UID of a hub core: 0 Hub A, 1 riser (R36). -/
def coreUid (core : Nat) : Nat := if core = 0 then 0x8100 else 0xF901

/-- Number of the active core (R52). -/
def State.activeCore (s : State) : Nat := bit s.hub.riserActive

/-- Number of the standby core. -/
def State.standbyCore (s : State) : Nat := bit (!s.hub.riserActive)

/-- A hub core by number. -/
def Hub.core (h : Hub) (n : Nat) : HubCore := if n = 0 then h.hubA else h.riser

/-- Change a hub core. -/
def Hub.modCore (h : Hub) (n : Nat) (f : HubCore → HubCore) : Hub :=
  if n = 0 then { h with hubA := f h.hubA } else { h with riser := f h.riser }

/-- Change a hub core of the state. -/
def State.modCore (s : State) (n : Nat) (f : HubCore → HubCore) : State :=
  { s with hub := s.hub.modCore n f }

/-- UID of the active core. -/
def State.activeUid (s : State) : Nat := coreUid s.activeCore

/-! ## Unit health (R23) -/

/-- UNIT_HEALTH of a non-core UID. -/
def State.health (s : State) (uid : Nat) : Nat := Tab.at s.topo.health (uid - 0x8000) 0

/-- Set UNIT_HEALTH of a non-core UID. -/
def State.setHealth (s : State) (uid v : Nat) : State :=
  { s with topo := { s.topo with health := Tab.set s.topo.health (uid - 0x8000) 0 v } }

/-! ## Persistent records (R602–R604) -/

/-- The contents that a write of the persistent area carries now (R603). -/
def State.persistImage (s : State) (gen : Nat) : PersistCopy :=
  { valid := true, generation := gen, fenceState := s.fm.fenceState, fenceSeq := s.fm.fenceSeq
    logCeil := s.logSeq.ceiling, imageCeil := s.imageIds.ceiling, eventCeil := s.eventSeqs.ceiling
    quarantine := s.bar.quarantine }

/-- The copy of the persistent area that the latest read or write used. -/
def Flash.persistNow (f : Flash) : PersistCopy := if f.persistUsed = 0 then f.persist0 else f.persist1

/-- A change of a persistent record: start a write, or let the next write carry it (R604, log
entry 15). -/
def State.persist (s : State) : State :=
  match s.flash.persistWriting with
  | none =>
    { s with flash := { s.flash with
        persistWriting := some (s.persistImage ((s.flash.persistNow.generation + 1) % 2 ^ 32))
        persistSince := s.elapsed, persistDirty := false } }
  | some _ => { s with flash := { s.flash with persistDirty := true } }

/-- The copy of the option block that D3 or the latest write used. -/
def Flash.optionNow (f : Flash) : OptionCopy := if f.optionUsed = 0 then f.option0 else f.option1

/-! ## Counters (R745) -/

/-- The persisted ceiling permits the next value. -/
def Counter.ready (c : Counter) : Bool := decide (c.next < c.persisted)

/-- The ceiling after `next` has moved: raised by `step` when `next` is within `near` of it. -/
def Counter.raised (c : Counter) (near step : Nat) : Counter :=
  if c.next + near ≥ c.ceiling then { c with ceiling := c.ceiling + step } else c

/-- Issue a value. -/
def Counter.issued (c : Counter) (near step : Nat) : Counter :=
  Counter.raised { c with next := c.next + 1 } near step

/-! ## Frames of the management port (R618, R620, R627) -/

/-- The hub is addressed (R626). -/
def State.addressed (s : State) : Bool := s.port.claimState = 2

/-- The node that SOURCE names while the hub has, or has not, an address (R618). -/
def State.node (s : State) : Nat := if s.addressed then s.backup.nodeId else 254

/-- Ethernet address of a node (R618, R620). -/
def State.mac (s : State) (node : Nat) : List Byte :=
  if node = 255 then List.replicate 6 0xFF
  else if node = 254 then be 1 2 ++ be 5 (s.fuses.serial % 2 ^ 40)
  else be 5 0x024B525000 ++ be 1 (if node ≤ 15 then node else 0)

/-- A Proros header (R627). -/
def prorosHeader (op flags seq src dst session len ref : Nat) : List Byte :=
  be 1 (0x10 + op) ++ be 1 flags ++ be 2 seq ++ be 1 src ++ be 1 dst ++ be 2 session ++ be 2 len ++
    be 2 ref ++ zeros 4

/-- Pad the three parts to the Ethernet minimum (R627). -/
def padFrame (l : List Byte) : List Byte := if l.length < 46 then fit 46 l else l

/-- An Ethernet frame for a node: addresses, EtherType 0x88B5, header, payload and tag. -/
def State.frameFor (s : State) (dst : Nat) (body : List Byte) : List Byte :=
  s.mac dst ++ s.mac s.node ++ be 2 0x88B5 ++ padFrame body

/-! ## Sessions -/

/-- The session of an id. -/
def Port.session (p : Port) (id : Nat) : Option Session := p.sessions.find? fun x => x.id = id

/-- Replace a session by id. -/
def Port.putSession (p : Port) (x : Session) : Port :=
  { p with sessions := p.sessions.map fun y => if y.id = x.id then x else y }

/-- The level that a session holds (R635, R693). -/
def Session.level (x : Session) : Nat := if x.token.isSome then Nat.max 2 x.baseLevel else x.baseLevel

/-- Hub-to-peer key: octets 32–63 of the derived keys (R633). -/
def Session.sendKey (x : Session) : List Byte := slice x.keys 32 32

/-- Tagged octets of a frame that the hub sends in a session (R633). -/
def State.sealed (s : State) (x : Session) (op flags seq ref : Nat) (payload : List Byte) : List Byte :=
  let hp := prorosHeader op flags seq s.node x.node x.id payload.length ref ++ payload
  s.frameFor x.node (hp ++ Config.frameTag x.sendKey hp)

/-- Send a frame in a session under the next hub SEQUENCE (R637). -/
def State.sendIn (s : State) (kind : EmitKind) (x : Session) (op flags ref : Nat)
    (payload : List Byte) : State :=
  let seq := (x.hubSeq + 1) % 65536
  let s := s.emit kind x.id (s.sealed x op flags seq ref payload)
  { s with port := s.port.putSession { x with hubSeq := seq } }

/-! ## Scopes (R666, R681) -/

/-- LC_STATE in force: both stores are written together (R662). -/
def State.lcState (s : State) : Nat := s.lc.storeA.lcState

/-- Every scope stands in BLANK and RETURNED (R666). -/
def State.allScopes (s : State) : Bool := s.lcState = 0 || s.lcState = 3

/-- The owner key in force (R661). -/
def State.ownerKey (s : State) : List Byte := if s.allScopes then Config.vendorLifecycleKey else s.lc.storeA.ownerKey

/-- The scopes in force on the hub (R681). -/
def State.hubScopes (s : State) : Nat :=
  if s.allScopes then 0x1F
  else s.port.sessions.foldl (fun a x => a ||| ((x.token.map Token.scope).getD 0)) 0

/-- A session holds a scope itself (R681). -/
def State.sessionScope (s : State) (x : Session) (b : Nat) : Bool :=
  s.allScopes || bitOf ((x.token.map Token.scope).getD 0) b

/-! ## The log (R431, R706–R713, R745) -/

/-- Octets that a record takes in the store (R707). -/
def LogRec.size (r : LogRec) : Nat := roundUp (20 + r.detail.length) 8

/-- URGENT without ACKED (R709). -/
def LogRec.pinned (r : LogRec) : Bool := bitOf r.flags 0 && !bitOf r.flags 2

/-- URGENT. -/
def LogRec.urgent (r : LogRec) : Bool := bitOf r.flags 0

/-- Detail as it is shown (R713). -/
def LogRec.shown (r : LogRec) (priv : Bool) : List Byte :=
  if bitOf r.flags 1 && !priv then zeros r.detail.length else r.detail

/-- The layout that R649 and R707 share, under the FLAGS octet that goes with it. -/
def LogRec.under (r : LogRec) (flags : Nat) (priv : Bool) : List Byte :=
  be 4 r.seq ++ be 2 r.code ++ be 1 flags ++ be 1 0 ++ be 8 r.pns ++ be 2 r.detail.length ++
    zeros 2 ++ r.shown priv

/-- The log record without padding (R707). -/
def LogRec.octets (r : LogRec) (priv : Bool) : List Byte := r.under r.flags priv

/-- The NOTIFY payload of a record: of its FLAGS only URGENT; bits 7..1 are reserved there and are
sent as 0 (R649, R6). -/
def LogRec.notice (r : LogRec) (priv : Bool) : List Byte := r.under (bit r.urgent) priv

/-- The record padded to a multiple of 8 octets (R707). -/
def LogRec.stored (r : LogRec) (priv : Bool) : List Byte := fit r.size (r.octets priv)

/-- Overwrite records that are not pinned, oldest first, until `need` octets are covered (R709). -/
def evict : List LogRec → Nat → List LogRec
  | [], _ => []
  | r :: l, need =>
    if need = 0 then r :: l
    else if r.pinned then r :: evict l need
    else evict l (need - r.size)

/-- Octets of the records. -/
def logBytes (l : List LogRec) : Nat := (l.map LogRec.size).sum

/-- Store a numbered record, or drop it (R709). -/
def LogStore.add (g : LogStore) (r : LogRec) : LogStore :=
  let need := logBytes g.records + r.size - Config.logStoreBytes
  if logBytes (g.records.filter fun x => !x.pinned) < need then
    { g with drops := Nat.min (g.drops + 1) (2 ^ 32 - 1), head := r.seq }
  else { g with records := evict g.records need ++ [r], head := r.seq }

/-- READ_PRIV is in force (R713). -/
def State.readPriv (s : State) : Bool := bitOf s.hubScopes 2

/-- Send queued NOTIFYs of one session while fewer than 8 are unacknowledged (R651). -/
def State.pumpSession (s : State) (id : Nat) : Nat → State
  | 0 => s
  | n + 1 =>
    match s.port.session id with
    | none => s
    | some x =>
      match x.queue with
      | [] => s
      | r :: rest =>
        if x.unacked.length < 8 then
          let seq := (x.hubSeq + 1) % 65536
          let s := s.emit .notify id (s.sealed x 8 (16 * bit x.gap) seq 0 (r.notice s.readPriv))
          let x := { x with hubSeq := seq, gap := false, queue := rest
                            unacked := x.unacked ++ [⟨seq, r, x.gap, s.elapsed, 1⟩] }
          State.pumpSession { s with port := s.port.putSession x } id n
        else s

/-- A session takes the NOTIFY of a record, or counts it as dropped (R650, R651). -/
def State.queueNotify (s : State) (r : LogRec) (x : Session) : State :=
  if x.notifyWanted && decide (1 ≤ x.level) then
    if x.queue.length < 64 then
      State.pumpSession { s with port := s.port.putSession { x with queue := x.queue ++ [r] } } x.id 8
    else
      { s with port := { s.port.putSession { x with gap := true } with
                          notifyDrops := Nat.min (s.port.notifyDrops + 1) (2 ^ 32 - 1) } }
  else s

/-- Send the NOTIFY of a record to every session that wants it (R650). -/
def State.notifyAll (s : State) (r : LogRec) : State :=
  (s.port.sessions.map Session.id).foldl
    (fun s id => match s.port.session id with | some x => s.queueNotify r x | none => s) s

/-- Number a record, store it, and send its NOTIFY when it has one. -/
def State.numberRecord (s : State) (r : LogRec) (notify : Bool) : State :=
  let r := { r with seq := s.logSeq.next }
  let c := s.logSeq.issued 16384 65536
  let raised := c.ceiling ≠ s.logSeq.ceiling
  let s := { s with log := s.log.add r, logSeq := c }
  let s := if raised then s.persist else s
  if notify then s.notifyAll r else s

/-- LAST_WORDS written by `writer` (R581). -/
def lastWordsRecord (prev : List Byte) (pns writer code : Nat) (detail : List Byte) : List Byte :=
  let b := le 4 (fieldLe prev 0 4 + 1) ++ le 8 pns ++ le 2 writer ++ le 2 code ++ fit 44 detail
  b ++ le 4 (crc32c b)

/-- Write LAST_WORDS (R581). -/
def State.writeLastWords (s : State) (writer code : Nat) (detail : List Byte) : State :=
  let pns := if s.tb.active.counting then s.pns else 0
  { s with backup := { s.backup with
      lastWords := lastWordsRecord s.backup.lastWords pns writer code detail } }

/-- Log an event (R431, R707, R745): urgent events are announced, hold ALERT_N low and write
LAST_WORDS. -/
def State.note (s : State) (code : Nat) (detail : List Byte) (urgent notify : Bool) : State :=
  let r : LogRec := ⟨0, code, bit urgent + 8 * bit (!s.tb.active.counting), s.pns, detail⟩
  let s := if urgent then s.writeLastWords s.activeUid code detail else s
  if s.logSeq.ready && s.log.waiting.isEmpty then s.numberRecord r (urgent || notify)
  else { s with log := { s.log with waiting := s.log.waiting ++ [(r, urgent || notify)] } }

/-- An event that the log alone shows. -/
def State.logged (s : State) (code : Nat) (detail : List Byte) : State := s.note code detail false false

/-- An event with a NOTIFY. -/
def State.told (s : State) (code : Nat) (detail : List Byte) : State := s.note code detail false true

/-- An urgent event. -/
def State.urged (s : State) (code : Nat) (detail : List Byte) : State := s.note code detail true true

/-- Records that waited take their LOG_SEQ while the ceiling permits (R745). -/
def State.drainLog (s : State) : Nat → State
  | 0 => s
  | n + 1 =>
    match s.log.waiting with
    | [] => s
    | (r, notify) :: rest =>
      if s.logSeq.ready then
        State.drainLog (State.numberRecord { s with log := { s.log with waiting := rest } } r notify) n
      else s

/-! ## Closing a session (R636, R680) -/

/-- Log AUTH_ENDED when a token ends (R680). -/
def State.endToken (s : State) (x : Session) : State :=
  match x.token with
  | none => s
  | some t => s.logged Code.authEnded (be 2 x.id ++ be 2 t.scope)

/-- Every token ends (R680). -/
def State.endTokens (s : State) : State :=
  s.port.sessions.foldl (fun s x =>
    State.endToken { s with port := s.port.putSession { x with token := none } } x) s

/-- Close a session: its change set, its transfers and its token go with it. -/
def State.closeSession (s : State) (id : Nat) : State :=
  match s.port.session id with
  | none => s
  | some x =>
    let s := { s with
      port := { s.port with
        sessions := s.port.sessions.filter fun y => y.id ≠ id
        blocks := s.port.blocks.filter fun b => b.requester ≠ Requester.session id }
      frame := { s.frame with sets := s.frame.sets.filter fun c => c.writer ≠ Requester.session id }
      tb := { s.tb with fracLatch := Tab.del s.tb.fracLatch id } }
    s.endToken x

/-- Close every session. -/
def State.closeAll (s : State) : State :=
  (s.port.sessions.map Session.id).foldl State.closeSession s

/-! ## Small helpers -/

/-- Saturating increment of a 32-bit counter (log entry 17). -/
def inc32 (n : Nat) : Nat := Nat.min (n + 1) (2 ^ 32 - 1)

/-- Saturating addition to a 64-bit counter (log entry 17). -/
def add64 (n k : Nat) : Nat := Nat.min (n + k) (2 ^ 64 - 1)

/-- Numbers below `n` whose bit is set in `b`. -/
def bitsSet (n : Nat) (b : Nat) : List Nat := (List.range n).filter fun i => b.testBit i

/-- Set or clear bit `i` of a bit vector. -/
def setBit {w : Nat} (v : BitVec w) (i : Nat) (b : Bool) : BitVec w :=
  if b then v ||| BitVec.ofNat w (2 ^ i) else v &&& ~~~(BitVec.ofNat w (2 ^ i))

/-- Replace element `i` of a list. -/
def setAt {α : Type} (l : List α) (i : Nat) (v : α) : List α := l.set i v

/-- Apply a state function for each element of a list. -/
def State.each {α : Type} (s : State) (l : List α) (f : State → α → State) : State := l.foldl f s

/-- The command's outcome: it always answers a next state. -/
def done (s : State) : Host.Outcome State Fault Refusal := .next s

/-- Run `f` when `c` holds; otherwise only time passes (log entry 3). -/
def State.onlyIf (s : State) (c : Bool) (f : State → State) : State := if c then f s else s

end Sys2Proof.Machine
end

