-- ==== Sys2Proof/Machine/Dict.lean ====
section
/-!
DEFINITION. The object dictionary as a table (R688–R706): every object's type, access code and
levels, and the checks of R746 up to the value.
-/
namespace Sys2Proof.Machine

/-- Types of values (R690). -/
inductive ObjType where
  | uint (octets : Nat)
  | int (octets : Nat)
  | bool
  | bitmap (bits : Nat)
  | bytes (n : Nat)
  | str
  | blob
  deriving DecidableEq, Repr

/-- Access codes (R691). -/
inductive ObjAccess where
  | ro | rw | wo | st | rwp
  deriving DecidableEq, Repr

/-- A row: index, first and last subindex, type, access, level to read and level to write. -/
structure ObjRow where
  idx : Nat
  lo : Nat
  hi : Nat
  type : ObjType
  access : ObjAccess
  readLevel : Nat
  writeLevel : Nat
  deriving DecidableEq, Repr

/-- Octets of a value of fixed size; 0 for STR and BLOB. -/
def ObjType.size : ObjType → Nat
  | .uint n => n
  | .int n => n
  | .bool => 1
  | .bitmap b => (b + 7) / 8
  | .bytes n => n
  | .str => 0
  | .blob => 0

/-- Objects 0x1000–0x1031 (R697). -/
def identityObjects : List ObjRow :=
  [ ⟨0x1000, 0x00, 0x00, .uint 4, .ro, 0, 0⟩
  , ⟨0x1001, 0x00, 0x00, .str, .ro, 0, 0⟩
  , ⟨0x1002, 0x00, 0x00, .uint 2, .ro, 0, 0⟩
  , ⟨0x1003, 0x00, 0x00, .uint 8, .ro, 0, 0⟩
  , ⟨0x1008, 0x00, 0x00, .uint 1, .ro, 0, 0⟩
  , ⟨0x1009, 0x00, 0x00, .uint 1, .ro, 0, 0⟩
  , ⟨0x1010, 0x00, 0x00, .uint 1, .ro, 0, 0⟩
  , ⟨0x1011, 0x00, 0x00, .uint 1, .ro, 0, 0⟩
  , ⟨0x1011, 0x01, 0x01, .uint 1, .ro, 1, 1⟩
  , ⟨0x1011, 0x02, 0x04, .uint 4, .ro, 1, 1⟩
  , ⟨0x1011, 0x05, 0x05, .bool, .ro, 1, 1⟩
  , ⟨0x1018, 0x00, 0x00, .uint 1, .ro, 0, 0⟩
  , ⟨0x1019, 0x00, 0x00, .uint 2, .ro, 0, 0⟩
  , ⟨0x101A, 0x00, 0x00, .bool, .ro, 0, 0⟩
  , ⟨0x1020, 0x00, 0x00, .uint 4, .ro, 0, 0⟩
  , ⟨0x1021, 0x00, 0x00, .uint 1, .ro, 0, 0⟩
  , ⟨0x1022, 0x00, 0x00, .blob, .ro, 1, 1⟩
  , ⟨0x1030, 0x00, 0x00, .uint 1, .ro, 0, 0⟩
  , ⟨0x1031, 0x00, 0x00, .uint 4, .ro, 0, 0⟩ ]

/-- Objects 0x2000–0x2050 (R698). -/
def timeObjects : List ObjRow :=
  [ ⟨0x2000, 0x00, 0x00, .uint 8, .ro, 0, 0⟩
  , ⟨0x2001, 0x00, 0x00, .uint 2, .ro, 0, 0⟩
  , ⟨0x2002, 0x00, 0x00, .uint 8, .rw, 0, 1⟩
  , ⟨0x2010, 0x00, 0x00, .uint 1, .ro, 0, 0⟩
  , ⟨0x2010, 0x01, 0x02, .uint 4, .st, 1, 2⟩
  , ⟨0x2010, 0x03, 0x03, .uint 1, .ro, 0, 0⟩
  , ⟨0x2010, 0x04, 0x05, .int 4, .ro, 1, 1⟩
  , ⟨0x2010, 0x06, 0x06, .uint 4, .ro, 1, 1⟩
  , ⟨0x2010, 0x07, 0x07, .uint 1, .st, 1, 1⟩
  , ⟨0x2010, 0x08, 0x08, .int 4, .st, 1, 1⟩
  , ⟨0x2010, 0x09, 0x09, .uint 1, .ro, 1, 1⟩
  , ⟨0x2010, 0x0A, 0x0A, .uint 1, .wo, 2, 2⟩
  , ⟨0x2010, 0x0B, 0x0B, .uint 1, .rwp, 1, 2⟩
  , ⟨0x2010, 0x0C, 0x0C, .uint 1, .ro, 1, 1⟩
  , ⟨0x2010, 0x0D, 0x0D, .int 4, .rw, 1, 1⟩
  , ⟨0x2010, 0x0E, 0x0E, .uint 1, .ro, 1, 1⟩
  , ⟨0x2010, 0x0F, 0x0F, .uint 8, .ro, 1, 1⟩
  , ⟨0x2010, 0x10, 0x10, .uint 2, .ro, 1, 1⟩
  , ⟨0x2010, 0x11, 0x11, .int 4, .ro, 1, 1⟩
  , ⟨0x2010, 0x12, 0x12, .uint 1, .ro, 1, 1⟩
  , ⟨0x2010, 0x13, 0x13, .bitmap 48, .st, 1, 1⟩
  , ⟨0x2012, 0x00, 0x00, .uint 2, .ro, 1, 1⟩
  , ⟨0x2013, 0x00, 0x00, .uint 4, .st, 1, 1⟩
  , ⟨0x2020, 0x00, 0x00, .uint 2, .st, 1, 1⟩
  , ⟨0x2030, 0x00, 0x00, .uint 1, .ro, 1, 1⟩
  , ⟨0x2030, 0x01, 0x10, .bytes 10, .ro, 1, 1⟩
  , ⟨0x2031, 0x00, 0x00, .uint 4, .ro, 1, 1⟩
  , ⟨0x2040, 0x00, 0x00, .uint 4, .st, 1, 1⟩
  , ⟨0x2040, 0x01, 0x01, .uint 4, .ro, 1, 1⟩
  , ⟨0x2040, 0x02, 0x02, .uint 8, .ro, 1, 1⟩
  , ⟨0x2041, 0x00, 0x00, .uint 8, .ro, 0, 0⟩
  , ⟨0x2041, 0x01, 0x01, .uint 2, .ro, 1, 1⟩
  , ⟨0x2041, 0x02, 0x02, .uint 4, .ro, 1, 1⟩
  , ⟨0x2042, 0x00, 0x00, .uint 1, .st, 1, 1⟩
  , ⟨0x2050, 0x00, 0x00, .uint 1, .ro, 1, 1⟩
  , ⟨0x2050, 0x01, 0x20, .bytes 11, .rw, 1, 1⟩
  , ⟨0x2050, 0x21, 0x40, .uint 8, .rw, 1, 1⟩ ]

/-- Objects 0x3000–0x3131 (R699). -/
def recoveryObjects : List ObjRow :=
  [ ⟨0x3000, 0x00, 0x00, .uint 1, .ro, 0, 0⟩
  , ⟨0x3000, 0x01, 0x0A, .uint 2, .rwp, 1, 2⟩
  , ⟨0x3000, 0x0B, 0x0B, .uint 1, .ro, 0, 0⟩
  , ⟨0x3000, 0x0C, 0x0C, .uint 4, .ro, 0, 0⟩
  , ⟨0x3000, 0x0D, 0x0D, .uint 1, .ro, 0, 0⟩
  , ⟨0x3010, 0x00, 0x00, .bytes 3, .wo, 1, 1⟩
  , ⟨0x3011, 0x00, 0x00, .uint 1, .ro, 1, 1⟩
  , ⟨0x3011, 0x01, 0x01, .uint 2, .ro, 1, 1⟩
  , ⟨0x3011, 0x02, 0x02, .uint 1, .ro, 1, 1⟩
  , ⟨0x3011, 0x03, 0x03, .uint 4, .ro, 1, 1⟩
  , ⟨0x3011, 0x04, 0x04, .uint 8, .ro, 1, 1⟩
  , ⟨0x3020, 0x00, 0x00, .uint 1, .rwp, 1, 2⟩
  , ⟨0x3020, 0x01, 0x01, .uint 1, .wo, 2, 2⟩
  , ⟨0x3020, 0x02, 0x02, .uint 4, .ro, 0, 0⟩
  , ⟨0x3020, 0x03, 0x03, .uint 1, .ro, 0, 0⟩
  , ⟨0x3100, 0x00, 0x00, .uint 1, .st, 1, 1⟩
  , ⟨0x3101, 0x00, 0x00, .uint 1, .st, 1, 1⟩
  , ⟨0x3101, 0x01, 0x01, .uint 2, .st, 1, 1⟩
  , ⟨0x3102, 0x00, 0x00, .uint 4, .st, 1, 1⟩
  , ⟨0x3110, 0x00, 0x00, .uint 2, .wo, 1, 1⟩
  , ⟨0x3111, 0x00, 0x00, .bytes 8192, .ro, 1, 1⟩
  , ⟨0x3120, 0x00, 0x00, .uint 1, .wo, 1, 1⟩
  , ⟨0x3120, 0x01, 0x01, .uint 1, .st, 1, 1⟩
  , ⟨0x3121, 0x00, 0x02, .uint 1, .ro, 1, 1⟩
  , ⟨0x3121, 0x03, 0x03, .uint 2, .ro, 1, 1⟩
  , ⟨0x3121, 0x04, 0x05, .uint 8, .ro, 1, 1⟩
  , ⟨0x3121, 0x06, 0x06, .uint 1, .ro, 1, 1⟩
  , ⟨0x3121, 0x07, 0x07, .uint 4, .ro, 1, 1⟩
  , ⟨0x3121, 0x08, 0x09, .uint 1, .ro, 1, 1⟩
  , ⟨0x3130, 0x00, 0x00, .uint 1, .ro, 1, 1⟩
  , ⟨0x3130, 0x01, 0x40, .uint 4, .ro, 1, 1⟩
  , ⟨0x3131, 0x00, 0x00, .uint 1, .ro, 1, 1⟩
  , ⟨0x3131, 0x01, 0x01, .uint 2, .ro, 1, 1⟩
  , ⟨0x3131, 0x02, 0x02, .bytes 3, .ro, 1, 1⟩
  , ⟨0x3131, 0x03, 0x03, .uint 8, .ro, 1, 1⟩ ]

/-- Objects 0x4100–0x4121 (R700). -/
def quenchObjects : List ObjRow :=
  [ ⟨0x4100, 0x00, 0x00, .bitmap 160, .rw, 1, 1⟩
  , ⟨0x4101, 0x00, 0x00, .uint 8, .rw, 1, 1⟩
  , ⟨0x4102, 0x00, 0x00, .uint 1, .wo, 1, 1⟩
  , ⟨0x4103, 0x00, 0x00, .uint 1, .ro, 1, 1⟩
  , ⟨0x4103, 0x01, 0x01, .uint 4, .ro, 1, 1⟩
  , ⟨0x4103, 0x02, 0x02, .uint 8, .ro, 1, 1⟩
  , ⟨0x4103, 0x03, 0x06, .uint 1, .ro, 1, 1⟩
  , ⟨0x4103, 0x07, 0x07, .bitmap 128, .ro, 1, 1⟩
  , ⟨0x4103, 0x08, 0x0A, .uint 4, .ro, 1, 1⟩
  , ⟨0x4103, 0x0B, 0x0B, .uint 2, .ro, 1, 1⟩
  , ⟨0x4104, 0x00, 0x00, .uint 1, .st, 1, 1⟩
  , ⟨0x4105, 0x00, 0x00, .bitmap 128, .ro, 1, 1⟩
  , ⟨0x4105, 0x01, 0x01, .bitmap 32, .ro, 1, 1⟩
  , ⟨0x4110, 0x00, 0x00, .uint 2, .rw, 1, 1⟩
  , ⟨0x4110, 0x01, 0x01, .bool, .rw, 1, 1⟩
  , ⟨0x4110, 0x02, 0x02, .uint 2, .ro, 1, 1⟩
  , ⟨0x4111, 0x00, 0x00, .uint 8, .rw, 1, 1⟩
  , ⟨0x4120, 0x00, 0x00, .uint 1, .ro, 0, 0⟩
  , ⟨0x4120, 0x01, 0x01, .uint 2, .rw, 1, 1⟩
  , ⟨0x4120, 0x02, 0x02, .uint 1, .rw, 1, 1⟩
  , ⟨0x4120, 0x03, 0x03, .uint 4, .rw, 1, 1⟩
  , ⟨0x4120, 0x04, 0x04, .uint 2, .rw, 1, 1⟩
  , ⟨0x4121, 0x00, 0x00, .blob, .ro, 1, 1⟩ ]

/-- Objects 0x4200–0x4211 (R700). -/
def shakeoutObjects : List ObjRow :=
  [ ⟨0x4200, 0x00, 0x00, .uint 1, .rw, 1, 1⟩
  , ⟨0x4200, 0x01, 0x01, .bitmap 128, .rw, 1, 1⟩
  , ⟨0x4201, 0x00, 0x00, .uint 1, .wo, 1, 1⟩
  , ⟨0x4202, 0x00, 0x01, .uint 1, .ro, 1, 1⟩
  , ⟨0x4202, 0x02, 0x03, .uint 8, .ro, 1, 1⟩
  , ⟨0x4202, 0x04, 0x06, .uint 4, .ro, 1, 1⟩
  , ⟨0x4203, 0x00, 0x00, .uint 4, .ro, 1, 1⟩
  , ⟨0x4203, 0x01, 0x01, .uint 4, .rw, 1, 1⟩
  , ⟨0x4203, 0x02, 0x02, .blob, .ro, 1, 1⟩
  , ⟨0x4203, 0x03, 0x03, .bytes 8, .rw, 1, 1⟩
  , ⟨0x4203, 0x04, 0x04, .blob, .ro, 1, 1⟩
  , ⟨0x4203, 0x05, 0x05, .bytes 16, .ro, 1, 1⟩
  , ⟨0x4204, 0x00, 0x01, .uint 8, .rwp, 1, 2⟩
  , ⟨0x4205, 0x00, 0x01, .uint 8, .rwp, 1, 2⟩
  , ⟨0x4205, 0x02, 0x02, .bool, .rwp, 1, 2⟩
  , ⟨0x4206, 0x00, 0x00, .uint 8, .ro, 1, 1⟩
  , ⟨0x4210, 0x00, 0x00, .bitmap 17536, .ro, 1, 1⟩
  , ⟨0x4211, 0x00, 0x00, .uint 4, .wo, 1, 1⟩ ]

/-- Objects 0x5000–0x5030 (R701). -/
def traceObjects : List ObjRow :=
  [ ⟨0x5000, 0x00, 0x00, .bitmap 16384, .st, 1, 1⟩
  , ⟨0x5000, 0x01, 0x01, .uint 8, .ro, 1, 1⟩
  , ⟨0x5000, 0x02, 0x02, .bool, .ro, 1, 1⟩
  , ⟨0x5001, 0x00, 0x00, .uint 1, .st, 1, 1⟩
  , ⟨0x5002, 0x00, 0x00, .bitmap 16384, .st, 1, 1⟩
  , ⟨0x5003, 0x00, 0x00, .uint 2, .st, 1, 1⟩
  , ⟨0x5010, 0x00, 0x00, .uint 1, .ro, 0, 0⟩
  , ⟨0x5010, 0x01, 0x10, .bytes 64, .st, 1, 1⟩
  , ⟨0x5010, 0x11, 0x20, .bytes 512, .st, 1, 1⟩
  , ⟨0x5020, 0x00, 0x00, .uint 8, .st, 1, 1⟩
  , ⟨0x5020, 0x01, 0x01, .bytes 128, .ro, 1, 1⟩
  , ⟨0x5020, 0x02, 0x02, .bytes 64, .ro, 1, 1⟩
  , ⟨0x5021, 0x00, 0x00, .uint 8, .st, 1, 1⟩
  , ⟨0x5022, 0x00, 0x00, .uint 1, .st, 1, 1⟩
  , ⟨0x5022, 0x01, 0x01, .bitmap 16, .ro, 1, 1⟩
  , ⟨0x5030, 0x00, 0x00, .uint 8, .ro, 1, 1⟩
  , ⟨0x5030, 0x01, 0x01, .bitmap 16384, .ro, 1, 1⟩
  , ⟨0x5030, 0x02, 0x02, .uint 8, .ro, 1, 1⟩
  , ⟨0x5030, 0x03, 0x03, .uint 4, .ro, 1, 1⟩ ]

/-- Objects 0x6000–0x6022 (R702). -/
def testBarObjects : List ObjRow :=
  [ ⟨0x6000, 0x00, 0x00, .uint 2, .st, 1, 1⟩
  , ⟨0x6000, 0x01, 0x01, .uint 1, .st, 1, 1⟩
  , ⟨0x6000, 0x02, 0x02, .uint 4, .st, 1, 1⟩
  , ⟨0x6000, 0x03, 0x03, .uint 4, .ro, 1, 1⟩
  , ⟨0x6000, 0x04, 0x04, .uint 2, .ro, 1, 1⟩
  , ⟨0x6000, 0x05, 0x06, .uint 4, .ro, 1, 1⟩
  , ⟨0x6000, 0x07, 0x07, .uint 1, .ro, 1, 1⟩
  , ⟨0x6000, 0x08, 0x08, .uint 8, .ro, 1, 1⟩
  , ⟨0x6001, 0x00, 0x00, .uint 8, .st, 1, 1⟩
  , ⟨0x6002, 0x00, 0x00, .uint 2, .st, 1, 1⟩
  , ⟨0x6010, 0x00, 0x00, .uint 1, .ro, 1, 1⟩
  , ⟨0x6010, 0x01, 0x01, .uint 4, .rw, 1, 1⟩
  , ⟨0x6010, 0x02, 0x02, .blob, .ro, 1, 1⟩
  , ⟨0x6010, 0x03, 0x03, .uint 4, .wo, 1, 1⟩
  , ⟨0x6010, 0x04, 0x04, .uint 4, .ro, 1, 1⟩
  , ⟨0x6011, 0x00, 0x00, .bitmap 69632, .ro, 1, 1⟩
  , ⟨0x6011, 0x01, 0x01, .uint 4, .wo, 2, 2⟩
  , ⟨0x6011, 0x02, 0x02, .uint 2, .ro, 1, 1⟩
  , ⟨0x6011, 0x03, 0x03, .bool, .ro, 1, 1⟩
  , ⟨0x6020, 0x00, 0x00, .blob, .wo, 1, 1⟩
  , ⟨0x6020, 0x01, 0x01, .bytes 16, .ro, 1, 1⟩
  , ⟨0x6021, 0x00, 0x00, .bytes 8, .wo, 1, 1⟩
  , ⟨0x6022, 0x00, 0x00, .blob, .ro, 1, 1⟩ ]

/-- Objects 0x7000–0x8020 (R703). -/
def powerObjects : List ObjRow :=
  [ ⟨0x7000, 0x00, 0x01, .uint 2, .st, 1, 1⟩
  , ⟨0x7000, 0x02, 0x02, .uint 1, .st, 1, 1⟩
  , ⟨0x7000, 0x03, 0x05, .int 2, .st, 1, 1⟩
  , ⟨0x7000, 0x06, 0x06, .uint 1, .st, 1, 1⟩
  , ⟨0x7000, 0x07, 0x07, .uint 2, .st, 1, 1⟩
  , ⟨0x7001, 0x00, 0x00, .bytes 128, .ro, 1, 1⟩
  , ⟨0x7001, 0x01, 0x01, .uint 8, .ro, 1, 1⟩
  , ⟨0x7001, 0x02, 0x03, .uint 2, .ro, 1, 1⟩
  , ⟨0x7010, 0x00, 0x00, .uint 1, .ro, 0, 0⟩
  , ⟨0x7010, 0x01, 0x10, .bytes 28, .ro, 1, 1⟩
  , ⟨0x7010, 0x11, 0x11, .bytes 192, .ro, 1, 1⟩
  , ⟨0x7010, 0x12, 0x12, .bytes 48, .rwp, 1, 2⟩
  , ⟨0x7010, 0x13, 0x13, .uint 2, .rwp, 1, 2⟩
  , ⟨0x7020, 0x00, 0x00, .bytes 4, .st, 1, 1⟩
  , ⟨0x7020, 0x01, 0x01, .uint 1, .ro, 1, 1⟩
  , ⟨0x7020, 0x02, 0x02, .bytes 16, .ro, 1, 1⟩
  , ⟨0x7020, 0x03, 0x03, .uint 2, .st, 1, 1⟩
  , ⟨0x7030, 0x00, 0x01, .uint 1, .ro, 1, 1⟩
  , ⟨0x7030, 0x02, 0x02, .bitmap 16, .ro, 1, 1⟩
  , ⟨0x8000, 0x00, 0x00, .uint 2, .ro, 1, 1⟩
  , ⟨0x8010, 0x00, 0x00, .blob, .ro, 1, 1⟩
  , ⟨0x8011, 0x00, 0x00, .bitmap 640, .ro, 1, 1⟩
  , ⟨0x8020, 0x00, 0x00, .bytes 32768, .ro, 1, 1⟩ ]

/-- Objects 0x9000–0x9002 (R706). -/
def logObjects : List ObjRow :=
  [ ⟨0x9000, 0x00, 0x01, .uint 4, .ro, 1, 1⟩
  , ⟨0x9000, 0x02, 0x02, .uint 2, .ro, 1, 1⟩
  , ⟨0x9000, 0x03, 0x04, .uint 4, .ro, 1, 1⟩
  , ⟨0x9001, 0x00, 0x00, .blob, .ro, 1, 1⟩
  , ⟨0x9001, 0x01, 0x01, .uint 4, .rw, 1, 1⟩
  , ⟨0x9002, 0x00, 0x00, .uint 4, .wo, 1, 1⟩ ]

/-- Objects 0xA000–0xA031 (R704). -/
def securityObjects : List ObjRow :=
  [ ⟨0xA000, 0x00, 0x00, .uint 1, .ro, 0, 0⟩
  , ⟨0xA000, 0x01, 0x01, .uint 1, .ro, 1, 1⟩
  , ⟨0xA000, 0x02, 0x02, .bitmap 16, .ro, 1, 1⟩
  , ⟨0xA000, 0x03, 0x04, .blob, .ro, 0, 0⟩
  , ⟨0xA000, 0x05, 0x05, .uint 2, .ro, 1, 1⟩
  , ⟨0xA001, 0x00, 0x00, .blob, .wo, 0, 0⟩
  , ⟨0xA010, 0x00, 0x00, .bytes 16, .ro, 0, 0⟩
  , ⟨0xA011, 0x00, 0x00, .blob, .wo, 0, 0⟩
  , ⟨0xA012, 0x00, 0x00, .uint 2, .ro, 0, 0⟩
  , ⟨0xA012, 0x01, 0x01, .uint 8, .ro, 0, 0⟩
  , ⟨0xA012, 0x02, 0x02, .uint 2, .ro, 0, 0⟩
  , ⟨0xA020, 0x00, 0x00, .uint 1, .ro, 0, 0⟩
  , ⟨0xA020, 0x01, 0x05, .blob, .rwp, 1, 3⟩
  , ⟨0xA030, 0x00, 0x00, .blob, .wo, 2, 2⟩
  , ⟨0xA030, 0x01, 0x01, .uint 1, .ro, 1, 1⟩
  , ⟨0xA030, 0x02, 0x02, .uint 1, .wo, 2, 2⟩
  , ⟨0xA030, 0x03, 0x03, .uint 1, .rwp, 1, 2⟩
  , ⟨0xA030, 0x04, 0x04, .uint 4, .ro, 1, 1⟩
  , ⟨0xA030, 0x05, 0x05, .uint 1, .ro, 1, 1⟩
  , ⟨0xA031, 0x00, 0x00, .uint 1, .ro, 0, 0⟩
  , ⟨0xA031, 0x01, 0x01, .bool, .ro, 0, 0⟩ ]

/-- Objects 0xB000–0xB030 (R705). -/
def faultMgmtObjects : List ObjRow :=
  [ ⟨0xB000, 0x00, 0x00, .uint 1, .wo, 1, 1⟩
  , ⟨0xB000, 0x01, 0x01, .uint 8, .rw, 1, 1⟩
  , ⟨0xB000, 0x02, 0x02, .bitmap 48, .rw, 1, 1⟩
  , ⟨0xB000, 0x03, 0x04, .blob, .rw, 1, 1⟩
  , ⟨0xB000, 0x05, 0x05, .uint 4, .rw, 1, 1⟩
  , ⟨0xB001, 0x00, 0x00, .uint 1, .ro, 1, 1⟩
  , ⟨0xB001, 0x01, 0x01, .uint 8, .ro, 1, 1⟩
  , ⟨0xB001, 0x02, 0x03, .uint 4, .ro, 1, 1⟩
  , ⟨0xB001, 0x04, 0x05, .uint 8, .ro, 1, 1⟩
  , ⟨0xB002, 0x00, 0x00, .uint 1, .ro, 1, 1⟩
  , ⟨0xB002, 0x01, 0x01, .uint 2, .ro, 1, 1⟩
  , ⟨0xB002, 0x02, 0x02, .bitmap 16, .ro, 1, 1⟩
  , ⟨0xB002, 0x03, 0x03, .uint 2, .ro, 1, 1⟩
  , ⟨0xB002, 0x04, 0x04, .uint 8, .ro, 1, 1⟩
  , ⟨0xB010, 0x00, 0x00, .blob, .wo, 1, 1⟩
  , ⟨0xB011, 0x00, 0x00, .uint 1, .ro, 0, 0⟩
  , ⟨0xB011, 0x01, 0x01, .uint 4, .ro, 0, 0⟩
  , ⟨0xB011, 0x02, 0x02, .uint 8, .ro, 0, 0⟩
  , ⟨0xB020, 0x00, 0x00, .uint 1, .ro, 1, 1⟩
  , ⟨0xB020, 0x01, 0x01, .uint 1, .rw, 1, 1⟩
  , ⟨0xB020, 0x02, 0x02, .uint 2, .ro, 1, 1⟩
  , ⟨0xB020, 0x03, 0x03, .uint 2, .st, 1, 1⟩
  , ⟨0xB021, 0x00, 0x00, .uint 1, .ro, 1, 1⟩
  , ⟨0xB021, 0x01, 0x01, .uint 1, .wo, 1, 1⟩
  , ⟨0xB021, 0x02, 0x02, .uint 1, .ro, 1, 1⟩
  , ⟨0xB021, 0x03, 0x03, .uint 8, .ro, 1, 1⟩
  , ⟨0xB021, 0x04, 0x04, .uint 4, .ro, 1, 1⟩
  , ⟨0xB021, 0x05, 0x05, .bitmap 48, .ro, 1, 1⟩
  , ⟨0xB021, 0x06, 0x07, .uint 4, .ro, 1, 1⟩
  , ⟨0xB030, 0x00, 0x00, .uint 4, .ro, 1, 1⟩
  , ⟨0xB030, 0x01, 0x01, .uint 1, .ro, 1, 1⟩
  , ⟨0xB030, 0x02, 0x02, .uint 8, .ro, 1, 1⟩ ]

/-- The whole dictionary. -/
def objects : List ObjRow :=
  identityObjects ++ timeObjects ++ recoveryObjects ++ quenchObjects ++ shakeoutObjects ++ traceObjects ++ testBarObjects ++ powerObjects ++ logObjects ++ securityObjects ++ faultMgmtObjects

/-- The row of an object, if the dictionary lists it. -/
def objRow (idx sub : Nat) : Option ObjRow :=
  objects.find? fun r => r.idx = idx && decide (r.lo ≤ sub) && decide (sub ≤ r.hi)

/-- The index is listed (R689). -/
def idxKnown (idx : Nat) : Bool := objects.any fun r => r.idx = idx

/-- Ways of access that a request makes. -/
inductive Way where
  | read | write | stage | blkRead | blkWrite
  deriving DecidableEq, Repr

/-- The way changes the object. -/
def Way.changes : Way → Bool
  | .read | .blkRead => false
  | .write | .stage | .blkWrite => true

/-- Indices that the boot ROM serves (R594). -/
def bootServes (idx : Nat) : Bool :=
  (decide (0x1000 ≤ idx) && decide (idx ≤ 0x1031)) || idx = 0x3000 || idx = 0x3020 ||
    (decide (0x9000 ≤ idx) && decide (idx ≤ 0x9002)) ||
    (decide (0xA000 ≤ idx) && decide (idx ≤ 0xA031))

/-- The active core runs its boot ROM (R594). -/
def State.booting (s : State) : Bool :=
  match (s.hub.core s.activeCore).proc with
  | .running => false
  | _ => true

/-- The access code's answer (R629, R642, R691). -/
def accessCheck (r : ObjRow) (w : Way) : Option Nat :=
  match w, r.access with
  | .read, .wo | .blkRead, .wo => some Abort.writeOnly
  | .read, _ => if r.type = .blob then some Abort.badLength else none
  | .blkRead, _ => none
  | .write, .ro | .blkWrite, .ro | .stage, .ro => some Abort.readOnly
  | .write, .st | .blkWrite, .st => some Abort.notStaged
  | .stage, .st => none
  | .stage, _ => some Abort.notStaged
  | .write, _ => if r.type = .blob then some Abort.badLength else none
  | .blkWrite, _ => none

/-- What a lifecycle change holds back: reads while its fettling is pending (R671), and reads of an area
whose fettling has failed (R674). -/
def State.lcHold (s : State) (idx sub : Nat) (w : Way) : Option Nat :=
  let dump := idx = 0x4203 && (sub = 2 || sub = 4)
  let event := idx = 0x6010 && sub = 2
  let log := idx = 0x9001 && sub = 0
  let fail (i : Nat) : Bool := s.lc.fettleFail.getLsbD i
  if w.changes then none
  else if s.lc.storeA.fettlePending && (dump || event || log) then some Abort.busy
  else if ((dump || event) && fail 0) || (log && fail 1) || (idx = 0x4203 && sub = 4 && fail 4) then
    some Abort.recordCorrupt
  else none

/-- The checks of R746 from OBJECT_UNKNOWN to the access code, for a requester whose level is
`rank` − 1, and what a lifecycle change holds back; rank 0 is refused LEVEL always (R694). The first that
fails answers. -/
def State.objCheck (s : State) (rank idx sub : Nat) (w : Way) : Option Nat :=
  match objRow idx sub with
  | none => some (if idxKnown idx then Abort.subindexUnknown else Abort.objectUnknown)
  | some r =>
    if s.booting && !bootServes idx then some Abort.booting
    else if rank < (if w.changes then r.writeLevel else r.readLevel) + 1 then some Abort.level
    else (accessCheck r w).orElse fun _ => s.lcHold idx sub w

end Sys2Proof.Machine
end

