-- ==== Sys2Proof/Machine/Serve.lean ====
section
/-!
DEFINITION. Requests and results: what the hub accepts, how it answers, and how a request runs
(R619, R628, R634–R643, R694, R746).
-/
namespace Sys2Proof.Machine

/-- A request that the hub executes: who asks, the level held plus one (0: refused at every level,
R694), the frame's SEQUENCE. -/
structure Ctx where
  who : Requester
  rank : Nat
  seq : Nat
  deriving DecidableEq, Repr

/-- Key of the requester in the TB_FRAC latches (R97). -/
def Ctx.latchKey (c : Ctx) : Nat :=
  match c.who with
  | .session id => id
  | .chip uid => 65536 + uid

/-- The rank of an on-chip requester (R694). -/
def State.chipRank (s : State) (uid : Nat) : Nat :=
  if uid = s.activeUid then 3
  else if 0x8000 ≤ uid ∧ 1 ≤ uid % 2048 ∧ uid % 2048 ≤ 8 then 2
  else 0

/-- The session of a requester. -/
def State.sessionOf (s : State) (c : Ctx) : Option Session :=
  match c.who with
  | .session id => s.port.session id
  | .chip _ => none

/-- The port's endpoint runs: the owning core has passed its self-check, and no reset holds it (R610, R622). -/
def State.endpointUp (s : State) : Bool :=
  !s.rst.porAsserted && !s.rst.resetNLow && (s.hub.core (bit s.hub.riserOwns)).selfCheckPassed = some true

/-- The frame of a port header is for this hub and well formed (R619, R628). -/
def State.frameFits (s : State) (h : PortHdr) : Bool :=
  s.endpointUp && h.ether = 0x88B5 && s.addressed && h.dest = s.backup.nodeId && h.version = 1 &&
    decide (h.payloadLen ≤ 1468) && h.actualLen = h.payloadLen

/-- How far a SEQUENCE lies ahead of the highest accepted, modulo 2¹⁶ (R639). -/
def Session.ahead (x : Session) (seq : Nat) : Nat := (seq + 65536 - x.highSeq % 65536) % 65536

/-- Accept a request, or answer it from the cache, or discard it (R619, R628, R634, R636, R639). -/
def State.admitReq (s : State) (r : Req) : State × Option Ctx :=
  match r with
  | .chip uid => (s, some ⟨.chip uid, s.chipRank uid, 0⟩)
  | .port h =>
    if !s.frameFits h then (s, none)
    else
      match s.port.session h.session with
      | none => ({ s with port := { s.port with tagFails := inc32 s.port.tagFails } }, none)
      | some x =>
        if !h.tagOk then
          ({ s with port := { s.port with tagFails := inc32 s.port.tagFails } }, none)
        else
          let x := { x with lastFrame := s.elapsed }
          let s := { s with port := s.port.putSession x }
          match x.results.find? fun r => r.1 = h.seq with
          | some r => (s.sendIn .result x 0xD r.2.1 h.seq r.2.2, none)
          | none =>
            if 1 ≤ x.ahead h.seq ∧ x.ahead h.seq ≤ 1024 then
              let y := { x with highSeq := h.seq, advances := x.advances + x.ahead h.seq }
              ({ s with port := s.port.putSession y },
                some ⟨.session x.id, x.level + 1, h.seq⟩)
            else ({ s with port := { s.port with replayDrops := inc32 s.port.replayDrops } }, none)

/-- Answer a request with these FLAGS: STATUS, then data; a session keeps its last 16 results (R627, R639, R652). A
session whose SEQUENCE has advanced 49,152 times is closed (R636). -/
def State.answerFlags (s : State) (c : Ctx) (flags status : Nat) (data : List Byte) : State :=
  let payload := be 4 status ++ data
  match c.who with
  | .chip uid =>
    s.emit .result (65536 + uid) (prorosHeader 0xD flags 0 0 0 uid payload.length c.seq ++ payload)
  | .session id =>
    match s.port.session id with
    | none => s
    | some x =>
      let x := { x with results := ((c.seq, flags, payload) :: x.results).take 16 }
      let s := { s with port := s.port.putSession x }
      let s := s.sendIn .result x 0xD flags c.seq payload
      if x.advances ≥ 49152 then s.closeSession id else s

/-- Answer a request that sets no flag. -/
def State.answer (s : State) (c : Ctx) (status : Nat) (data : List Byte) : State := s.answerFlags c 0 status data

/-- FLAGS of the RESULT of a read (R220, R627): PENDING while a value of the object waits in a committed group, or is
staged in the reader's own open change set. -/
def State.pendingFlag (s : State) (who : Requester) (idx sub : Nat) : Nat :=
  let holds (l : List Staged) : Bool := l.any fun v => v.idx = idx && v.sub = sub
  128 * bit ((s.frame.groups.any fun g => holds g.values) ||
    s.frame.sets.any fun x => x.writer = who && holds x.values)

/-- What a request's own rules answer: the state, the abort code, the data. -/
structure Reply where
  state : State
  code : Nat
  data : List Byte

/-- Refused: nothing changes. -/
def State.refuse (s : State) (code : Nat) : Reply := ⟨s, code, []⟩

/-- Accepted without data. -/
def State.accept (s : State) : Reply := ⟨s, Abort.ok, []⟩

/-- Serve a request on an object: admission, the checks of R746, then its own rules, which must
answer the refused request themselves. A read shows PENDING, be it a READ or the opening of a read transfer (R220, log
entry 170). -/
def State.serve (s : State) (r : Req) (idx sub : Nat) (w : Way) (f : Ctx → State → Reply) : State :=
  match s.admitReq r with
  | (s, none) => s
  | (s, some c) =>
    match s.objCheck c.rank idx sub w with
    | some code => s.answer c code []
    | none =>
      let a := f c s
      if w.changes || a.code ≠ Abort.ok then a.state.answer c a.code a.data
      else a.state.answerFlags c (s.pendingFlag c.who idx sub) a.code a.data

/-- Serve a request that names no object (COMMIT, BLK_DATA, BLK_CLOSE). -/
def State.serveAny (s : State) (r : Req) (f : Ctx → State → Reply) : State :=
  match s.admitReq r with
  | (s, none) => s
  | (s, some c) =>
    let a := f c s
    a.state.answer c a.code a.data

/-- Serve a request whose effect closes the requester's session: the answer goes out first
(R670). -/
def State.serveThen (s : State) (r : Req) (idx sub : Nat) (w : Way)
    (check : Ctx → State → State × Option Nat) (effect : Ctx → State → State) : State :=
  match s.admitReq r with
  | (s, none) => s
  | (s, some c) =>
    match s.objCheck c.rank idx sub w with
    | some code => s.answer c code []
    | none =>
      match check c s with
      | (s, some code) => s.answer c code []
      | (s, none) => effect c (s.answer c Abort.ok [])

end Sys2Proof.Machine
end

