-- ==== Sys2Proof/Machine/Operands.lean ====
section
/-!
DEFINITION. The operand forms of the commands: unit identifiers and the units they name (R10, R36),
targets in QU_SET numbering (R246), casts and responses (R249, R252), HOLD words (R260), and access
to each unit's state.
-/
namespace Sys2Proof.Machine

/-! ## Unit identifiers -/

/-- Perimeter die (chapter 01). -/
def perimeter (die : Nat) : Bool := Config.perimeterDies.contains die

/-- The unit that a UID names is present (R36, R37). -/
def uidPresent (uid : Nat) : Bool :=
  if uid < 0x8000 then decide (uid % 256 ≤ 135)
  else
    let die := uid / 2048 % 16
    let code := uid % 2048
    code = 0 || (decide (1 ≤ code) && decide (code ≤ 8)) || (decide (0x10 ≤ code) && decide (code ≤ 0x17)) ||
      code = 0x20 || (decide (0x40 ≤ code) && decide (code ≤ 0x43) && perimeter die) || code = 0x80 ||
      (code = 0x100 && die = 0) || (code = 0x101 && die = 15)

/-- Die of any UID. -/
def uidDie (uid : Nat) : Nat := uid / 2048 % 16

/-- Code of a non-core UID. -/
def uidCode (uid : Nat) : Nat := uid % 2048

/-- A core's UID. -/
def uidIsCore (uid : Nat) : Bool := decide (uid < 0x8000)

/-- A CCP's UID. -/
def uidIsCcp (uid : Nat) : Bool :=
  decide (0x8000 ≤ uid) && decide (1 ≤ uidCode uid) && decide (uidCode uid ≤ 8)

/-- A tap's UID. -/
def uidIsTap (uid : Nat) : Bool :=
  decide (0x8000 ≤ uid) && decide (0x10 ≤ uidCode uid) && decide (uidCode uid ≤ 0x17)

/-- A runner's UID. -/
def uidIsRunner (uid : Nat) : Bool := decide (0x8000 ≤ uid) && uidCode uid = 0

/-- An optical port's UID. -/
def uidIsPort (uid : Nat) : Bool :=
  decide (0x8000 ≤ uid) && decide (0x40 ≤ uidCode uid) && decide (uidCode uid ≤ 0x43)

/-- A hub core's UID. -/
def uidIsHub (uid : Nat) : Bool := uid = 0x8100 || uid = 0xF901

/-- UID of a runner. -/
def runnerUid (die : Nat) : Nat := unitUid die 0

/-- UID of the CCP of a cluster 0–127. -/
def ccpUid (c : Nat) : Nat := unitUid (c / 8) (1 + c % 8)

/-- UID of the tap of a cluster 0–127. -/
def tapUid (c : Nat) : Nat := unitUid (c / 8) (0x10 + c % 8)

/-- UID of a die's seam bridge. -/
def seamUid (die : Nat) : Nat := unitUid die 0x80

/-- UID of a physical slot of a cluster. -/
def slotUid (c slot : Nat) : Nat := c / 8 * 2048 + c % 8 * 256 + slot

/-- Cluster 0–127 of a core, CCP or tap. -/
def uidCluster (uid : Nat) : Nat :=
  if uid < 0x8000 then uid / 2048 % 16 * 8 + uid / 256 % 8
  else if uidIsTap uid then uidDie uid * 8 + (uidCode uid - 0x10)
  else uidDie uid * 8 + (uidCode uid - 1)

/-- Slot of a core's UID. -/
def uidSlot (uid : Nat) : Nat := uid % 256

/-- Position of a die on the perimeter. -/
def perimeterIndex (die : Nat) : Nat := (Config.perimeterDies.findIdx? fun d => d = die).getD 0

/-- Time-port index of a port's UID: perimeter position × 4 + port (R159). -/
def uidPortIndex (uid : Nat) : Nat := perimeterIndex (uidDie uid) * 4 + (uidCode uid - 0x40)

/-- UID of a port by index. -/
def portUid (p : Nat) : Nat := unitUid (Config.perimeterDies.getD (p / 4) 0) (0x40 + p % 4)

/-- Die of a port. -/
def portDie (p : Nat) : Nat := Config.perimeterDies.getD (p / 4) 0

/-- Key of an engine in the scan table. -/
def engineKey (c slot e : Nat) : Nat := c * 544 + slot * 4 + e

/-- Number of an engine in 0x6011 TB_QUARANTINE and the test bar's order (R485). -/
def engineNumber (uid e : Nat) : Nat := engineKey (uidCluster uid) (uidSlot uid) e

/-- UID of a target in QU_SET numbering (R246, R254). -/
def targetUid (t : Nat) : Nat :=
  if t < 128 then tapUid t else if t < 144 then runnerUid (t - 128) else seamUid (t - 144)

/-- Die of a target. -/
def targetDie (t : Nat) : Nat :=
  if t < 128 then t / 8 else if t < 144 then t - 128 else t - 144

/-- Every replica's UID in ascending order, for the wire of a hub core (R108). -/
def replicaUids (core : Nat) : List Nat :=
  ((List.range 16).flatMap fun d =>
    runnerUid d :: ((List.range 8).map fun c => tapUid (d * 8 + c)) ++
      (if d = 0 ∧ core = 1 then [0x8100] else if d = 15 ∧ core = 0 then [0xF901] else []))

/-! ## Units of the state -/

/-- A cluster's tap. -/
def State.tap (s : State) (c : Nat) : Tap := Tab.at s.units.taps c Tap.fresh

/-- Change a tap. -/
def State.modTap (s : State) (c : Nat) (f : Tap → Tap) : State :=
  { s with units := { s.units with taps := Tab.mod s.units.taps c Tap.fresh f } }

/-- A die's runner. -/
def State.runner (s : State) (die : Nat) : Runner := Tab.at s.units.runners die Runner.fresh

/-- Change a runner. -/
def State.modRunner (s : State) (die : Nat) (f : Runner → Runner) : State :=
  { s with units := { s.units with runners := Tab.mod s.units.runners die Runner.fresh f } }

/-- A die's network group. -/
def State.group (s : State) (g : Nat) : NetGroup := Tab.at s.units.groups g NetGroup.fresh

/-- Change a network group. -/
def State.modGroup (s : State) (g : Nat) (f : NetGroup → NetGroup) : State :=
  { s with units := { s.units with groups := Tab.mod s.units.groups g NetGroup.fresh f } }

/-- An optical port. -/
def State.optPort (s : State) (p : Nat) : OptPort := Tab.at s.units.ports p OptPort.fresh

/-- Change an optical port. -/
def State.modPort (s : State) (p : Nat) (f : OptPort → OptPort) : State :=
  { s with units := { s.units with ports := Tab.mod s.units.ports p OptPort.fresh f } }

/-- The steps that a replica's own PNS has reached have applied, each once (R123, R125). -/
def Replica.fall (r : Replica) (now : Nat) : Replica :=
  r.steps.foldl (fun r x =>
    if r.clock.counting && decide (x.1 ≤ r.clock.ns now) then
      { r with clock := r.clock.addFrac now (x.2 * 2 ^ 48), steps := r.steps.filter fun y => y.1 ≠ x.1
               applied := (x :: r.applied).take 32 }
    else r) r

/-- A step that the replica has applied jumped over a PNS (R126). -/
def Replica.jumped (r : Replica) (t : Nat) : Bool :=
  r.applied.any fun x => decide (x.1 < t) && decide ((t : Int) < x.1 + x.2)

/-- A replica as it stands now. -/
def State.replica (s : State) (uid : Nat) : Replica := (Tab.at s.units.replicas uid Replica.fresh).fall s.elapsed

/-- Change a replica. -/
def State.modReplica (s : State) (uid : Nat) (f : Replica → Replica) : State :=
  { s with units := { s.units with
      replicas := Tab.mod s.units.replicas uid Replica.fresh fun r => f (r.fall s.elapsed) } }

/-- The link-up optical ports (R420). -/
def State.linkUpPorts (s : State) : List Nat := (List.range 48).filter fun p => (s.optPort p).linkUp

/-- Replica of a target: the tap's, or the die's runner's. -/
def targetReplica (t : Nat) : Nat :=
  if t < 128 then tapUid t else runnerUid (targetDie t)

/-- PNS that a unit's replica reads, whole ns. -/
def State.replicaPns (s : State) (uid : Nat) : Nat := (s.replica uid).clock.ns s.elapsed

/-- PNS that a unit stamps with: while its replica is COLD, its last PNS, or 0 (R121). -/
def State.stampPns (s : State) (uid : Nat) : Nat :=
  let r := s.replica uid
  if r.state = .cold then r.lastPns else r.clock.ns s.elapsed

/-- The half of a cluster is chilled (R25). -/
def State.chilled (s : State) (c : Nat) : Bool := s.topo.chilled.getLsbD (c / 8 * 2 + c % 8 / 4)

/-- The cluster's domain is under reset: D8 not released, or held in a unit reset. -/
def State.clusterReset (s : State) (c : Nat) : Bool := (s.tap c).inReset

/-- The tap holds an armed step. -/
def Tap.stepArmed (t : Tap) : Bool :=
  match t.releaseArm with
  | .step _ _ _ => true
  | _ => false

/-- CORE_CLOCK at elapsed step `now`: a step that has run out has stopped its slots again (R44). -/
def Tap.clockNow (t : Tap) (now : Nat) : BitVec 136 :=
  if t.stepRunning && decide (t.stepEnds ≤ now) then t.coreClock &&& ~~~t.stepSlots else t.coreClock

/-- cclk runs again at every selected slot: what those slots hold is no longer known. -/
def Tap.runSelected (t : Tap) : Tap :=
  { t with coreClock := t.coreClock ||| t.coreSelect, secureKnown := t.secureKnown &&& ~~~t.coreSelect }

/-- A read of a slot's ARCH window has shown whether it carries the secure bit (R40); a read of a part that
shows none leaves it open. -/
def Tap.learnSecure (t : Tap) (slot : Nat) (shown whole : Bool) : Tap :=
  if shown || whole then
    { t with secure := setBit t.secure slot shown, secureKnown := setBit t.secureKnown slot true }
  else t

/-- Slots of a cluster that stand still apart from chill. -/
def State.stoppedSlots (s : State) (c : Nat) : BitVec 136 :=
  let t := s.tap c
  if t.inReset then 0
  else if s.chilled c then
    (if t.latchedRelease && !t.stepArmed then t.stoppedSlots &&& ~~~t.coreSelect
     else if t.latchedStop then t.stoppedSlots ||| t.coreSelect else t.stoppedSlots)
  else ~~~(t.clockNow s.elapsed)

/-- The cluster has a stopped slot. -/
def State.stopped (s : State) (c : Nat) : Bool := s.stoppedSlots c ≠ 0

/-- A slot of a cluster has cclk running. -/
def State.slotRuns (s : State) (c slot : Nat) : Bool := ((s.tap c).clockNow s.elapsed).getLsbD slot

/-- TAP_STATUS as the tap reads it (R39, and the window table). -/
def State.tapStatus (s : State) (c : Nat) : Nat :=
  let x := s.tap c
  let arm : Nat × Nat := match x.releaseArm with
    | .none => (0, 0)
    | .release _ _ => (1, 0)
    | .step _ _ _ => (0, 1)
  if x.inReset then 8 * bit (s.chilled c)
  else
    bit (x.stopArm.isSome || x.latchedStop) + 2 * bit (arm.1 = 1 || (x.latchedRelease && arm.2 = 0)) + 4 * arm.2 +
      8 * bit (s.chilled c) + 16 * bit x.lateArm + 32 * bit x.compareClash +
      64 * bit (x.stepRunning && decide (s.elapsed < x.stepEnds || s.chilled c = true))

/-- The octets of a window of a tap that the state holds whole (R39, and the window table): HEARTBEAT and PROGRESS
while the cluster is in reset. -/
def State.tapWindow (s : State) (c window : Nat) : Option (List Byte) :=
  let x := s.tap c
  match window with
  | 0x01 => some (le 8 (s.tapStatus c))
  | 0x02 => some (le 17 x.coreSelect.toNat)
  | 0x03 => some (le 8 x.stopAt)
  | 0x04 => some (le 8 x.releaseAt)
  | 0x05 => some (le 2 x.stepCount)
  | 0x07 => some (le 17 (x.clockNow s.elapsed).toNat)
  | 0x10 => if x.inReset then some (zeros 4) else none
  | 0x12 => if x.inReset then some (zeros 2176) else none
  | _ => none

/-- The octets that a tap returns for a read of a window: those that the state holds, else what has come
(R38, R39). -/
def State.tapData (s : State) (c window off : Nat) (data : List Byte) : List Byte :=
  match s.tapWindow c window with
  | some l => (List.range data.length).map fun i => l.getD (off + i) 0
  | none => data

/-- A read that R41 ends NOT_STOPPED: a core's registers, pipeline state or memories while cclk of its slot
runs. -/
def State.notStopped (s : State) (c window slot : Nat) : Bool :=
  (window = 0x40 || window = 0x41 || window = 0x42 || window = 0x44) && s.slotRuns c slot

/-- STOPPED_SET (0x4103.07). -/
def State.stoppedSet (s : State) : BitVec 128 :=
  (List.range 128).foldl (fun b c => setBit b c (s.stopped c)) 0

/-! ## Casts (R249, R252, R260) -/

/-- The octets of a cast before its CRC (R249). -/
def Cast.body (c : Cast) : List Byte :=
  le 2 c.id ++ le 1 c.kind ++ le 1 (bit c.retry + 2 * bit c.stepNet + 4 * bit c.pod) ++ le 8 c.act ++
    le 8 c.deadline ++ le 4 c.wave ++ le 1 c.lane ++ le 1 0 ++ le 2 c.cycles ++ le 20 c.targets.toNat

/-- A cast's 52 octets. -/
def Cast.octets (c : Cast) : List Byte := c.body ++ le 4 (crc32c c.body)

/-- The cast that octets carry, when their CRC matches (R251). -/
def Cast.ofOctets (l : List Byte) : Option Cast :=
  if l.length = 52 ∧ fieldLe l 48 4 = crc32c (l.take 48) then
    some { id := fieldLe l 0 2, kind := fieldLe l 2 1, retry := bitOf (fieldLe l 3 1) 0
           stepNet := bitOf (fieldLe l 3 1) 1, pod := bitOf (fieldLe l 3 1) 2
           act := fieldLe l 4 8, deadline := fieldLe l 12 8, wave := fieldLe l 20 4
           lane := fieldLe l 24 1, cycles := fieldLe l 26 2
           targets := BitVec.ofNat 160 (fieldLe l 28 20) }
  else none

/-- KIND codes of R249. -/
def Cast.armQuench : Nat := 1
def Cast.armStep : Nat := 2
def Cast.armResume : Nat := 3
def Cast.cancel : Nat := 4
def Cast.traceSwitch : Nat := 5
def Cast.traceFettle : Nat := 6

/-- Statuses of R252. -/
def Cast.acted : Nat := 0
def Cast.late : Nat := 1
def Cast.cold : Nat := 2
def Cast.noneStopped : Nat := 3
def Cast.refusedReset : Nat := 4
def Cast.fettleFailed : Nat := 5

/-- A response's 8 octets (R252). -/
def castResponseOctets (id target status stamp : Nat) : List Byte :=
  le 2 id ++ le 1 target ++ le 1 status ++ le 4 stamp

/-- A HOLD word: CAST_ID and its complement (R260). -/
def holdWord (id : Nat) : Nat := id % 65536 * 65536 + (65535 - id % 65536)

/-- The CAST_ID of a word that is a HOLD (R260). -/
def holdId (w : Word32) : Option Nat :=
  let hi := w.toNat / 65536
  let lo := w.toNat % 65536
  if hi + lo = 65535 then some hi else none

/-- Targets of a bitmap, rising. -/
def targetsOf (b : BitVec 160) : List Nat := (List.range 160).filter fun i => b.getLsbD i

/-! ## Domains in reset -/

/-- Domains `n` and later are in reset (R586, R605, R612): the sequence waits to release Dn, and what kept a
die out of those domains is forgotten. -/
def Reset.backTo (r : Reset) (n : Nat) : Reset :=
  let lost := r.lostFrom.filter fun e => decide (e.2 < n)
  { r with phase := n, released := r.released &&& BitVec.ofNat 10 (2 ^ n - 1), d8Waves := 0
           loading := false, optionsDone := r.optionsDone && decide (4 ≤ n)
           lostFrom := lost, lostDies := lost.foldl (fun b e => setBit b e.1 true) 0
           clockHeld := (List.range 160).foldl (fun b i => if n ≤ i % 10 then setBit b i false else b) r.clockHeld }

end Sys2Proof.Machine
end

