-- ==== Sys2Proof/Machine/Flags.lean ====
section
/-!
DEFINITION. Flags and status values that the hub computes: CUT_FLAGS (R306), ALERT_N (R431),
HUB_VIEW (R432), urgent counts (R706), topology counts (R19, R22).
-/
namespace Sys2Proof.Machine

/-! ## CUT_FLAGS -/

def CutFlag.pod : Nat := 0
def CutFlag.postponed : Nat := 1
def CutFlag.partialCut : Nat := 2
def CutFlag.network : Nat := 3
def CutFlag.cancelLate : Nat := 4
def CutFlag.coarseEdge : Nat := 5
def CutFlag.stepped : Nat := 6

/-- Set or clear a bit of CUT_FLAGS. -/
def State.cutFlag (s : State) (i : Nat) (b : Bool) : State :=
  { s with qu := { s.qu with cutFlags := setBit s.qu.cutFlags i b } }

/-! ## The log's status -/

/-- Held urgent records without ACKED. -/
def State.urgentOpen (s : State) : List LogRec := s.log.records.filter LogRec.pinned

/-- The hub drives ALERT_N low: an urgent event is not acknowledged (R431, R564), or the sequence holds
(R593, R607). -/
def State.alertLow (s : State) : Bool :=
  !s.urgentOpen.isEmpty || (s.log.waiting.any fun r => r.1.urgent) || s.rst.holdReason ≠ 0 || (s.hub.core s.activeCore).noImage

/-! ## Views and readiness -/

/-- A cluster is routed around: all four rows (R17, R22). -/
def State.clusterRouted (s : State) (c : Nat) : Bool :=
  (Tab.at s.topo.rows (c * 4) SpareRow.fresh).rowState = 3

/-- A row is routed around. -/
def State.rowRouted (s : State) (r : Nat) : Bool :=
  decide (2 ≤ (Tab.at s.topo.rows r SpareRow.fresh).rowState)

/-- ROUTE_AROUND (R22). -/
def State.routeAround (s : State) : BitVec 640 :=
  (List.range 128).foldl
    (fun b c => setBit b (512 + c) (s.clusterRouted c))
    ((List.range 512).foldl (fun b r => setBit b r (s.rowRouted r)) 0)

/-- TOPO_ACTIVE_CORES: logical numbers present in the committed map (R19). -/
def State.activeCores (s : State) : Nat :=
  16384 - (s.topo.rows.map fun r => (r.2.map.filter fun m => m = 0xFF).length).sum

/-- A runner is silent: its entry reads 4 and two reports are missing (R372). -/
def State.runnerSilentNow (s : State) (die : Nat) : Bool := decide (2 ≤ (s.runner die).missed)

/-- HUB_VIEW (R432): 1 DEAD. -/
def State.hubView (s : State) : Nat :=
  bit (((List.range 128).any fun c => !s.clusterRouted c && s.health (ccpUid c) = 4) ||
    ((List.range 16).any fun d => s.runnerSilentNow d) || s.hang.l3Failed)

/-- Entries PENDING or RUNNING (R224). -/
def State.schedCount (s : State) : Nat :=
  (s.sched.filter fun e => e.2.status = 1 || e.2.status = 2).length

end Sys2Proof.Machine
end

