-- ==== Sys2Proof/Machine/Topology.lean ====
section
/-!
DEFINITION. The spare map: failed cores, pending changes, commits, route-around of clusters and the
restoration of rows (R16–R22, R749).
-/
namespace Sys2Proof.Machine

/-- A row record. -/
def State.row (s : State) (r : Nat) : SpareRow := Tab.at s.topo.rows r SpareRow.fresh

/-- Replace a row record. -/
def State.putRow (s : State) (r : Nat) (x : SpareRow) : State :=
  { s with topo := { s.topo with rows := Tab.set s.topo.rows r SpareRow.fresh x } }

/-- Spare physical columns of a row that are neither in use nor failed. -/
def SpareRow.free (x : SpareRow) : List Nat :=
  (List.range 34).filter fun p => !x.map.contains p && !x.failed.contains p

/-- The first logical column whose physical column has failed. -/
def SpareRow.broken (x : SpareRow) : Option Nat := x.map.findIdx? fun p => x.failed.contains p

/-- The logical column that the pending change concerns: the one already recorded while its core is still
failed, else the first (log entry 144). -/
def SpareRow.concerned (x : SpareRow) : Option Nat :=
  if x.rowState = 1 && x.failed.contains (x.map.getD x.pendingLogical 0xFF) then some x.pendingLogical
  else x.broken

/-- The record of a row after a core of it has failed or works again: SPARES_LEFT over the committed mapping,
and the pending change, a spare remap or with no spare left the route-around of the row (R16, R17, R749). A row
that is routed around has none. -/
def SpareRow.plan (x : SpareRow) : SpareRow :=
  if 2 ≤ x.rowState then x
  else
    match x.concerned with
    | none => { x with sparesLeft := x.free.length, rowState := 0, pendingLogical := 0xFF, pendingPhysical := 0xFF }
    | some c =>
      { x with sparesLeft := x.free.length, rowState := 1, pendingLogical := c, pendingPhysical := x.free.headD 0xFF }

/-- The record of a row routed around (R21). -/
def SpareRow.lost (x : SpareRow) (state : Nat) : SpareRow :=
  { x with map := List.replicate 32 0xFF, sparesLeft := 0, rowState := state
           pendingLogical := 0xFF, pendingPhysical := 0xFF }

/-- The changes that wait in a row take effect together, at most `n` of them: a remap for each failed core
while a spare is free, and then the route-around of the row (R16, R17). -/
def SpareRow.commits (x : SpareRow) : Nat → SpareRow
  | 0 => x
  | n + 1 =>
    if x.rowState ≠ 1 then x
    else if x.pendingPhysical = 0xFF then x.lost 2
    else SpareRow.commits
      (SpareRow.plan { x with map := setAt x.map x.pendingLogical x.pendingPhysical, rowState := 0 }) n

/-- The pending changes of a row take effect (R749): two spares, and the loss of the row. -/
def SpareRow.commit (x : SpareRow) : SpareRow := x.commits 3

/-- The mapping of a restored row (R18): logical column c on physical column c where that works, and the others,
in rising order, on the working spare columns in rising order. The spec does not say which columns a restored
row maps to: this is the model's choice (log entry 145). -/
def SpareRow.restoredMap (x : SpareRow) : List Nat :=
  let good := (List.range 34).filter fun p => !x.failed.contains p
  let low := (good.filter fun p => decide (p < 32)).length
  (List.range 32).map fun c =>
    if x.failed.contains c then good.getD (low + (x.failed.filter fun f => decide (f < c)).length) 0xFF else c

/-- The record of a restored row (R18). One with fewer than 32 working columns cannot map its logical columns:
it stays lost, as a row and not with its cluster (log entry 145). -/
def SpareRow.restore (x : SpareRow) : SpareRow :=
  let good := ((List.range 34).filter fun p => !x.failed.contains p).length
  if good < 32 then x.lost 2
  else { x with map := x.restoredMap, sparesLeft := good - 32, rowState := 0
                pendingLogical := 0xFF, pendingPhysical := 0xFF }

/-- One commit of the spare map: GENERATION and CHANGED_AT (R749). At a step boundary the commit's PNS is that of
the third wave's acceptance, and not MARK_PNS: the model's choice (log entry 146). -/
def State.mapCommitted (s : State) : State :=
  { s with topo := { s.topo with generation := (s.topo.generation + 1) % 2 ^ 32, changedAt := s.pns } }

/-- A core has failed: the change is recorded in its row (R16, R17). -/
def State.coreFailed (s : State) (uid : Nat) : State :=
  let r := uidCluster uid * 4 + uidSlot uid / 34
  let x := s.row r
  let p := uidSlot uid % 34
  s.putRow r (SpareRow.plan { x with failed := if x.failed.contains p then x.failed else x.failed ++ [p] })

/-- No core of a row is quenched (R16): none of its slots stands still under the cut in force. -/
def State.rowFree (s : State) (r : Nat) : Bool :=
  let b := s.stoppedSlots (r / 4)
  (List.range 34).all fun col => !b.getLsbD (r % 4 * 34 + col)

/-- Rows whose pending change takes effect at a step boundary. -/
def State.rowsDue (s : State) : List Nat :=
  (List.range 512).filter fun r => (s.row r).rowState = 1 && s.rowFree r

/-- A step boundary commits the pending changes (R16, R17, R749). -/
def State.mapStep (s : State) : State :=
  match s.rowsDue with
  | [] => s
  | rows => State.mapCommitted (rows.foldl (fun s r => s.putRow r (s.row r).commit) s)

/-- A cluster fails: its four rows are routed around at once (R17, R21). -/
def State.routeCluster (s : State) (c : Nat) : State :=
  let s := (List.range 4).foldl (fun s k => s.putRow (c * 4 + k) ((s.row (c * 4 + k)).lost 3)) s
  (State.mapCommitted s).setHealth (ccpUid c) 3

/-- Rows of the listed clusters that were routed around with their cluster come back in one commit
(R18, R749). When none of them has 32 working columns nothing is restored, and there is no commit. -/
def State.restoreClusters (s : State) (cs : List Nat) : State :=
  let rows := (cs.filter s.clusterRouted).flatMap fun c => (List.range 4).map fun k => c * 4 + k
  let t := rows.foldl (fun s r => s.putRow r (s.row r).restore) s
  if rows.any fun r => (t.row r).rowState = 0 then t.mapCommitted else t

/-- Device recovery restores every row that has 32 working columns (R18, R412). -/
def State.restoreRows (s : State) : State :=
  let rows := (List.range 512).filter fun r => s.rowRouted r && (s.row r).restore.rowState = 0
  match rows with
  | [] => s
  | l => State.mapCommitted (l.foldl (fun s r => s.putRow r (s.row r).restore) s)

/-- The physical slot of a logical column of a row, if present (R11, R20). -/
def State.slotOfLogical (s : State) (logical : Nat) : Option Nat :=
  let r := logical / 32
  let m := (s.row r).map.getD (logical % 32) 0xFF
  if m = 0xFF then none else some (r % 4 * 34 + m)

/-- UID of a logical core number (R10, R11). -/
def State.logicalUid (s : State) (logical : Nat) : Option Nat :=
  (s.slotOfLogical logical).map fun slot => slotUid (logical / 128) slot

/-- The logical core number of a physical core, if the committed map holds it. -/
def State.uidLogical (s : State) (uid : Nat) : Option Nat :=
  let r := uidCluster uid * 4 + uidSlot uid / 34
  ((s.row r).map.findIdx? fun p => p = uidSlot uid % 34).map fun c => r * 32 + c

/-- The 18,448 octets of SPARE_MAP (R20). -/
def State.spareMapOctets (s : State) : List Byte :=
  be 1 1 ++ be 1 0 ++ be 2 512 ++ be 4 s.topo.generation ++ be 8 s.topo.changedAt ++
    (List.range 512).flatMap fun r =>
      let x := s.row r
      x.map.flatMap (be 1) ++ be 1 x.sparesLeft ++ be 1 x.rowState ++ be 1 x.pendingLogical ++
        be 1 x.pendingPhysical

end Sys2Proof.Machine
end

