-- ==== Sys2Proof/Machine/Sched.lean ====
section
/-!
DEFINITION. The scheduled-action table as shared operations: leads, lateness, alignment, conflicts,
the order of judgement, final statuses (R224–R241, R747).
-/
namespace Sys2Proof.Machine

/-! ## Codes -/

/-- Actions of R227. -/
def Act.quench : Nat := 1
def Act.podQuench : Nat := 2
def Act.step : Nat := 3
def Act.resume : Nat := 4
def Act.frameLen : Nat := 5
def Act.timeStep : Nat := 6
def Act.roleSwap : Nat := 7

/-- Statuses of R229. -/
def Stat.free : Nat := 0
def Stat.pending : Nat := 1
def Stat.running : Nat := 2
def Stat.finished : Nat := 3
def Stat.doneLate : Nat := 4
def Stat.late : Nat := 5
def Stat.cancelled : Nat := 6
def Stat.misaligned : Nat := 7
def Stat.conflict : Nat := 8
def Stat.failed : Nat := 9
def Stat.notManager : Nat := 10

/-- States of R305. -/
def Qs.idle : Nat := 0
def Qs.arming : Nat := 1
def Qs.armed : Nat := 2
def Qs.quenched : Nat := 3
def Qs.stepArming : Nat := 4
def Qs.stepping : Nat := 5
def Qs.resumeArming : Nat := 6
def Qs.mixed : Nat := 7

/-! ## Entries -/

/-- An entry of the table. -/
def State.entry (s : State) (n : Nat) : SchedEntry := Tab.at s.sched n SchedEntry.free

/-- Replace an entry. -/
def State.putEntry (s : State) (n : Nat) (e : SchedEntry) : State :=
  { s with sched := Tab.set s.sched n SchedEntry.free e }

/-- PENDING or RUNNING. -/
def SchedEntry.open (e : SchedEntry) : Bool := e.status = 1 || e.status = 2

/-- Some entry of these actions is in one of these statuses. -/
def State.anyEntry (s : State) (actions statuses : List Nat) : Bool :=
  s.sched.any fun e => actions.contains e.2.action && statuses.contains e.2.status

/-- The lowest-numbered entry that is neither PENDING nor RUNNING (R228). -/
def State.freeEntry (s : State) : Option Nat :=
  (List.range 32).find? fun n => !(s.entry n).open

/-- The 11 octets of an entry (R225). -/
def SchedEntry.octets (e : SchedEntry) : List Byte :=
  be 1 e.action ++ be 8 e.time ++ be 1 e.flags ++ be 1 e.status

/-! ## NOTIFY without a log record (log entry 16) -/

/-- Send a NOTIFY that no log record stands behind: LOG_SEQ 0 and an open CODE. -/
def State.notice (s : State) (kind : Nat) (detail : List Byte) : State :=
  s.notifyAll ⟨0, Config.notifyCode kind, 0, s.pns, detail⟩

/-- Admission ends FAILED (R452, R457): its reason and its shortfalls. -/
def State.admFailed (s : State) : State :=
  let a := s.adm
  let detail := be 1 a.why ++ be 2 a.shortTotal ++ be 2 a.shortDies.toNat ++ be 2 a.shortDieCores ++
    be 8 a.shortReserve
  State.urged { s with adm := { a with state := 7, reason := a.why, entry := none, wave := none } }
    Code.admFailed detail

/-- Admission from TEST to READY fails (R457): through FETTLING once anything has been written. -/
def State.admFail (s : State) (why : Nat) : State :=
  if 1 ≤ s.adm.state ∧ s.adm.state ≤ 4 then
    let s : State := { s with adm := { s.adm with why := why } }
    if s.adm.written then { s with adm := { s.adm with state := 6, entry := none, wave := none } }
    else s.admFailed
  else s

/-- An entry takes a final status, with its NOTIFY (R229, R241); a QUENCH of an admission that ends
without a cut ends the admission (R457). -/
def State.finishEntry (s : State) (n status : Nat) : State :=
  let e := { s.entry n with status := status }
  let s := s.putEntry n e
  let s := if s.adm.state = 2 ∧ s.adm.entry = some n ∧ Stat.late ≤ status then s.admFail 8 else s
  if bitOf e.flags 1 then s.notice 0 (be 1 n ++ be 1 status ++ be 8 e.time) else s

/-- An entry completes: DONE, or DONE_LATE when it is later than first requested (R229, R234). -/
def State.completeEntry (s : State) (n : Nat) : State :=
  s.finishEntry n (if (s.entry n).late then Stat.doneLate else Stat.finished)

/-! ## Frame lengths -/

/-- The TIME of a FRAME_LEN entry that is PENDING (R244). -/
def State.frameLenAt (s : State) : Option Nat :=
  (s.sched.find? fun e => e.2.action = 5 && e.2.status = 1).map fun e => e.2.time

/-- The frame length in force at `t`, counting an accepted FRAME_LEN (R236). -/
def State.lenAt (s : State) (t : Nat) : Nat :=
  match s.frameLenAt with
  | some f => if f ≤ t then s.frame.lenNext else s.frame.lenNs
  | none => s.frame.lenNs

/-- The first frame boundary at or after `t` (R203). -/
def State.boundaryFrom (s : State) (t : Nat) : Nat :=
  let b := roundUp t s.frame.lenNs
  match s.frameLenAt with
  | some f => if b ≤ f then b else roundUp (Nat.max t f) s.frame.lenNext
  | none => b

/-! ## Judging a write (R232–R237, R286, R747) -/

/-- Minimum lead in ns (R227). -/
def State.minLead (s : State) (action : Nat) : Nat :=
  if action = 2 then 200000
  else if action = 5 ∨ action = 7 then 2 * s.frame.lenNs
  else if action = 6 then s.frame.lenNs
  else 2000

/-- The earliest whole PNS that is not late (R232). -/
def State.earliest (s : State) (action : Nat) : Nat :=
  ceilDiv (s.tb.active.read s.elapsed) Config.fracScale + s.minLead action

/-- What TIME must be a multiple of, apart from the length in force: both lengths for FRAME_LEN
(R227). -/
def State.frameLenAlign (s : State) : Nat := Nat.lcm s.frame.lenNs s.frame.lenNext

/-- The first frame boundary that meets lead and alignment (R234). -/
def State.adjusted (s : State) (action : Nat) : Nat :=
  if action = 5 then roundUp (s.earliest action) s.frameLenAlign
  else s.boundaryFrom (s.earliest action)

/-- Signed DELTA of a TIME_STEP. -/
def deltaOf (param : Nat) : Int := toSigned 64 param

/-- The refusals that leave the entry unchanged with VALUE_RANGE (R8, R124, R243, R287). -/
def State.schedRange (s : State) (action time param : Nat) : Bool :=
  if action = 3 then decide (param % 65536 = 0)
  else if action = 5 then s.frame.lenNext = 0
  else if action = 6 then deltaOf param = 0 || decide ((time : Int) + deltaOf param < 0)
  else !(decide (1 ≤ action) && decide (action ≤ 7))

/-- TIME or DELTA breaks its alignment (R227, R236). -/
def State.schedMisaligned (s : State) (action time param : Nat) : Bool :=
  if action = 5 then time % s.frameLenAlign ≠ 0
  else if action = 6 then
    time % s.lenAt time ≠ 0 || (deltaOf param) % (s.lenAt time : Int) ≠ 0
  else if action = 7 then time % s.lenAt time ≠ 0
  else false

/-- A shakeout is collecting tier 1 or tier 2 (R313, R327). -/
def State.collecting (s : State) : Bool :=
  match s.dump.running with
  | some r => s.dump.status ≠ 4 && decide (2 ≤ r.tiers)
  | none => false

/-- Device recovery is running (R412, R413). -/
def State.recovering (s : State) : Bool := s.hang.proc.l3Phase ≠ 0

/-- Conflicts with entries accepted and with the state (R237, R286, R313, R413); cores that a lifecycle change
has stopped stay stopped (R676). -/
def State.schedConflict (s : State) (action time : Nat) : Bool :=
  if action = 1 ∨ action = 2 then
    s.anyEntry [1, 2] [1, 2] || !(s.qu.state = Qs.idle || s.qu.state = Qs.mixed) || s.collecting ||
      s.recovering
  else if action = 3 then
    s.lc.jobRemoved || s.qu.state ≠ Qs.quenched || s.anyEntry [3, 4] [1, 2] || s.collecting || s.recovering
  else if action = 4 then
    s.lc.jobRemoved || !(s.qu.state = Qs.quenched || s.qu.state = Qs.mixed) || s.anyEntry [3, 4] [1, 2] ||
      s.collecting || s.recovering
  else if action = 5 then
    s.anyEntry [5] [1] ||
      (s.sched.any fun e => e.2.status = 1 && e.2.action = 6 &&
        (e.2.time = time || (decide (time < e.2.time) &&
          (e.2.time % s.frame.lenNext ≠ 0 || (deltaOf e.2.taken) % (s.frame.lenNext : Int) ≠ 0)))) ||
      (s.sched.any fun e => e.2.status = 1 && e.2.action = 7 && decide (time < e.2.time) &&
        e.2.time % s.frame.lenNext ≠ 0)
  else if action = 6 then
    s.sched.any fun e => e.2.status = 1 && (e.2.action = 5 || e.2.action = 6) && e.2.time = time
  else s.anyEntry [7] [1, 2]

/-- How a write of a non-EMPTY entry is judged (R747). -/
inductive Verdict747 where
  /-- Refused with an abort code; the entry is unchanged. -/
  | unchanged (code : Nat)
  /-- Refused; the entry keeps what was written and takes the status. -/
  | refused (e : SchedEntry) (status code : Nat)
  /-- Accepted. -/
  | accepted (e : SchedEntry)

/-- Judge a write over entry `n` (R747): a refused entry keeps the TIME and FLAGS as written (R231). FLAGS keep bits 0 and 1 of the write (R225, R226);
`remote` sets REMOTE. -/
def State.judge (s : State) (n action time flags : Nat) (remote : Bool) : Verdict747 :=
  let p := (s.entry n).param
  if s.schedRange action time p then .unchanged Abort.valueRange
  else if (s.entry n).open then .unchanged Abort.busy
  else if s.fm.fenceState = 2 ∧ (action = 3 ∨ action = 4) then .unchanged Abort.fenced
  else
    let flags := flags % 4 + 64 * bit remote
    let e : SchedEntry := ⟨action, time, flags, 0, p, s.qu.set, false, 0, false, p⟩
    if action = 2 ∧ s.pod.role ≠ 1 then .refused e Stat.notManager Abort.notManager
    else
      let isLate := decide (time < s.earliest action)
      if isLate ∧ ¬ bitOf flags 0 then .refused e Stat.late Abort.late
      else
        let a := if isLate then
            { e with time := s.adjusted action, flags := flags + 128, late := true }
          else e
        if s.schedMisaligned action a.time p then .refused e Stat.misaligned Abort.misaligned
        else if s.schedConflict action a.time then .refused e Stat.conflict Abort.conflict
        else .accepted a

/-- Write a judged entry: what stands in the table, and the abort code; `accept` goes on with an
accepted entry (R231, R234). -/
def State.schedWrite (s : State) (n action time flags : Nat) (remote : Bool)
    (accept : Nat → SchedEntry → State → State) : State × Nat :=
  match s.judge n action time flags remote with
  | .unchanged code => (s, code)
  | .refused e status code => (State.finishEntry (s.putEntry n e) n status, code)
  | .accepted e =>
    let s := s.putEntry n { e with status := Stat.pending }
    let s := if e.late then s.logged Code.schedLate (be 1 n ++ be 8 time ++ be 8 e.time) else s
    (accept n e s, Abort.ok)

/-- Between S and W of a takeover no entry is executed; those that fall due then run at W (R77). -/
def State.entriesRun (s : State) : Bool := s.hub.takeover.all fun k => decide (0 < k.phase)

/-- Place of an action among entries that fall due at one PNS (R238). -/
def actRank (action : Nat) : Nat :=
  if 5 ≤ action then action - 5 else if action ≤ 2 then 3 else action + 1

/-- An entry that waits for its TIME stands before an entry `n` of this action and TIME (R238): it is due earlier, or at
the same PNS and earlier in the order. Between S and W none is executed (R77). -/
def State.dueAhead (s : State) (n action time : Nat) : Bool :=
  s.entriesRun && s.sched.any fun e =>
    e.2.status = 1 && decide (5 ≤ e.2.action) && e.1 ≠ n &&
      (decide (e.2.time < time) || (e.2.time = time &&
        (decide (actRank e.2.action < actRank action) ||
          (actRank e.2.action = actRank action && decide (e.1 < n)))))

/-- Conditions of a due entry: PENDING, of this action, its TIME reached, and none before it (R238). -/
def State.dueEntry (s : State) (n action : Nat) : Bool :=
  (s.entry n).status = 1 && (s.entry n).action = action && decide ((s.entry n).time ≤ s.pns) &&
    s.entriesRun && !s.dueAhead n action (s.entry n).time

end Sys2Proof.Machine
end

