-- ==== Sys2Proof/Machine/Ring.lean ====
section
/-!
DEFINITION. The tap ring: requests and responses as words, places and tags, the queue in the order
of R68 (R58–R68).
-/
namespace Sys2Proof.Machine

/-- Ring status codes (R63). -/
def Rs.ok : Nat := 0
def Rs.notStopped : Nat := 1
def Rs.badWindow : Nat := 2
def Rs.badRange : Nat := 3
def Rs.crcError : Nat := 4
def Rs.timeout : Nat := 15

/-- The words of a request (R59). -/
def RingTxn.words (t : RingTxn) : List Nat :=
  let w0 := (if t.write then 2 else 1) * 2 ^ 28 + t.tap * 2 ^ 25 + t.window * 2 ^ 16 + t.slot * 256 + t.tag
  let w1 := (t.len - 1) * 2 ^ 20 + t.offset
  let body := w0 :: w1 :: (if t.write then t.data else [])
  body ++ [crc32c (wordsLe body)]

/-- Size of a window in octets, for the windows of the tap window table. -/
def windowSize (w : Nat) : Option Nat :=
  match w with
  | 0x00 => some 8
  | 0x01 => some 8
  | 0x02 => some 17
  | 0x03 => some 8
  | 0x04 => some 8
  | 0x05 => some 2
  | 0x06 => some 1
  | 0x07 => some 17
  | 0x08 => some 10
  | 0x10 => some 4
  | 0x11 => some 544
  | 0x12 => some 2176
  | 0x40 => some 4096
  | 0x41 => some 16384
  | 0x42 => some 4096
  | 0x43 => some 256
  | 0x44 => some 524288
  | 0x45 => some 72
  | 0x50 => some 32768
  | 0x51 => some 16384
  | _ => none

/-- A per-slot window (R59). -/
def perSlot (w : Nat) : Bool := decide (0x40 ≤ w) && decide (w ≤ 0x45)

/-- Order of service (R68, R327, R377): the scan goes before these, which is a frame report's own (log entry 153);
then tier 0, the other shakeout reads, the peeks and the reads of bindings, and the rest. -/
def RingUse.rank : RingUse → Nat
  | .tier0 _ => 0
  | .debugFallback _ => 1
  | .peek _ => 2
  | .bindings _ => 2
  | _ => 3

/-- Outstanding transactions of a die. -/
def State.ringOf (s : State) (die : Nat) : List RingTxn := s.units.ring.filter fun t => t.die = die

/-- The lowest tag that no outstanding transaction of the die carries (R65). -/
def State.freeTag (s : State) (die : Nat) : Nat :=
  ((List.range 256).find? fun k => !(s.ringOf die).any fun t => t.tag = k).getD 0

/-- A place is free for a transaction on its ring and tap (R65). -/
def State.ringRoom (s : State) (die tap : Nat) : Bool :=
  decide ((s.ringOf die).length < 16) &&
    decide (((s.ringOf die).filter fun t => t.tap = tap).length < 2)

/-- Put a transaction on its ring. -/
def State.ringIssue (s : State) (t : RingTxn) : State :=
  let t := { t with tag := s.freeTag t.die, issued := s.elapsed, reissued := false }
  State.emit { s with units := { s.units with ring := s.units.ring ++ [t] } }
    .ringRequest t.die (wordsLe t.words)

/-- Insert into the queue in the order of R68. -/
def ringEnqueue : List RingTxn → RingTxn → List RingTxn
  | [], t => [t]
  | u :: l, t => if t.use.rank < u.use.rank then t :: u :: l else u :: ringEnqueue l t

/-- TIER2 is the frame's background job (R334). -/
def State.tier2Admitted (s : State) : Bool := s.power.admitted.getLsbD 1

/-- A tier 2 read waits while the governor does not admit tier 2 (R334). -/
def State.ringHeld (s : State) (t : RingTxn) : Bool :=
  match t.use with
  | .debugFallback key => decide (0x20 ≤ key / 65536) && !s.tier2Admitted
  | _ => false

/-- Issue queued transactions while their rings have room. -/
def State.ringPump (s : State) : State :=
  (s.units.ringQueue).foldl
    (fun s t =>
      if s.ringRoom t.die t.tap && !s.ringHeld t then
        State.ringIssue { s with units := { s.units with ringQueue := s.units.ringQueue.erase t } } t
      else s) s

/-- Start a transaction: at once, or queued until its ring has room. -/
def State.ringStart (s : State) (t : RingTxn) : State :=
  State.ringPump { s with units := { s.units with ringQueue := ringEnqueue s.units.ringQueue t } }

/-- A read of a window by a cluster's runner. -/
def ringRead (c window slot len offset : Nat) (use : RingUse) : RingTxn :=
  { die := c / 8, tap := c % 8, write := false, window := window, slot := slot, tag := 0
    len := len, offset := offset, data := [], use := use, issued := 0, reissued := false }

/-- A write of a window by a cluster's runner. -/
def ringWrite (c window slot : Nat) (bytes : List Byte) (use : RingUse) : RingTxn :=
  let n := ceilDiv bytes.length 4
  { die := c / 8, tap := c % 8, write := true, window := window, slot := slot, tag := 0
    len := n, offset := 0, data := (List.range n).map fun k => fieldLe (fit (4 * n) bytes) (4 * k) 4
    use := use, issued := 0, reissued := false }

/-- Withdraw the outstanding and queued transactions of a die that a predicate names. -/
def State.ringDrop (s : State) (p : RingTxn → Bool) : State :=
  { s with units := { s.units with ring := s.units.ring.filter fun t => !p t
                                   ringQueue := s.units.ringQueue.filter fun t => !p t } }

end Sys2Proof.Machine
end

