-- ==== Sys2Proof/Machine/Casts.lean ====
section
/-!
DEFINITION. Command casts as the hub issues them and holds them open (R249, R251, R254, R255, R259).
-/
namespace Sys2Proof.Machine

/-- The last wave at or before `act` − 1,344 ns (R256). -/
def countWave (act : Nat) : Nat := (act - 1344) / 64

/-- Issue a cast: a new CAST_ID, its count wave when it has a lane, the cast held open (R249,
R251). -/
def State.issueCast (s : State) (kind act lane : Nat) (targets : BitVec 160) (stepNet pod : Bool)
    (cycles : Nat) (use : CastUse) : State :=
  let w := if lane = 0 then 0 else countWave act
  let c : Cast := { id := s.qu.castCounter, kind := kind, retry := false, stepNet := stepNet
                    pod := pod, act := act, deadline := w * 64, wave := w % 2 ^ 32, lane := lane
                    cycles := cycles, targets := targets }
  let o : OpenCast := { cast := c, use := use, issued := s.elapsed, retries := 0, answers := []
                        stamps := [], ended := false, count := none, laneSum := 0 }
  State.emit { s with qu := { s.qu with castCounter := (s.qu.castCounter + 1) % 65536
                                        casts := s.qu.casts ++ [o] } } .cast 0 c.octets

/-- The CAST_ID that the next cast takes. -/
def State.nextCast (s : State) : Nat := s.qu.castCounter

/-- The open cast of an id. -/
def State.openCast (s : State) (id : Nat) : Option OpenCast := s.qu.casts.find? fun o => o.cast.id = id

/-- Replace an open cast. -/
def State.putCast (s : State) (o : OpenCast) : State :=
  { s with qu := { s.qu with casts := s.qu.casts.map fun p => if p.cast.id = o.cast.id then o else p } }

/-- Forget a cast. -/
def State.dropCast (s : State) (id : Nat) : State :=
  { s with qu := { s.qu with casts := s.qu.casts.filter fun p => p.cast.id ≠ id } }

/-- Forget the casts that have ended and that no entry in hand still needs. -/
def State.tidyCasts (s : State) : State :=
  let needed (id : Nat) : Bool :=
    (s.qu.hand.map InHand.castId) = some id || (s.qu.closing.map InHand.castId) = some id
  { s with qu := { s.qu with casts := s.qu.casts.filter fun o => !o.ended || needed o.cast.id } }

/-- Targets that have answered nothing (R254). -/
def OpenCast.missing (o : OpenCast) : List Nat :=
  (targetsOf o.cast.targets).filter fun t => (Tab.find o.answers t).isNone

/-- The target answered ACTED (R262). -/
def OpenCast.actedBy (o : OpenCast) (t : Nat) : Bool := Tab.at o.answers t 0 = 1

/-- Targets that answered ACTED. -/
def OpenCast.acted (o : OpenCast) : List Nat := (targetsOf o.cast.targets).filter o.actedBy

/-- A bitmap of targets. -/
def targetSet (l : List Nat) : BitVec 160 := l.foldl (fun b t => setBit b t true) 0

/-- Issue a CANCEL cast to targets (R249, R262, R304). -/
def State.sendCancel (s : State) (targets : BitVec 160) (use : CastUse) : State :=
  if targets = 0 then s else s.issueCast Cast.cancel 0 0 targets false false 0 use

/-- A HOLD for a cast, on 3 consecutive waves (R260). -/
def State.sendHold (s : State) (id : Nat) : State :=
  let w := le 4 (holdWord id)
  (((s.emit .hold 0 w).emit .hold 1 w).emit .hold 2 w)

/-- A unit stands still: a stopped cluster, a frozen runner or network group. -/
def State.unitStopped (s : State) (t : Nat) : Bool :=
  if t < 128 then s.stopped t
  else if t < 144 then (s.runner (t - 128)).frozen
  else (s.group (t - 144)).frozenAt.isSome

end Sys2Proof.Machine
end

