-- ==== Sys2Proof/Machine/ContextOps.lean ====
section
/-!
DEFINITION. Contexts as shared operations: their states and epochs, the queue of removals, context casts
and what ends them (R384–R396, R402, R748).
-/
namespace Sys2Proof.Machine

/-! ## CONTEXT_STATE (R396's table) -/

/-- States of a context. -/
def Cx.normal : Nat := 0
def Cx.removing : Nat := 1
def Cx.draining : Nat := 2
def Cx.suspended : Nat := 3
def Cx.replaying : Nat := 4
def Cx.retired : Nat := 5
def Cx.fettling : Nat := 6

/-- The epoch in force of a context. -/
def State.ctxEpoch (s : State) (ctx : Nat) : Nat := Tab.at s.hang.contexts ctx 0 % 256

/-- The state of a context. -/
def State.ctxState (s : State) (ctx : Nat) : Nat := Tab.at s.hang.contexts ctx 0 / 256

/-- Write a context's word. -/
def State.setCtx (s : State) (ctx epoch state : Nat) : State :=
  { s with hang := { s.hang with contexts := Tab.set s.hang.contexts ctx 0 (epoch % 256 + 256 * state) } }

/-- Change a context's state under the epoch in force. -/
def State.moveCtx (s : State) (ctx state : Nat) : State := s.setCtx ctx (s.ctxEpoch ctx) state

/-! ## Context casts (R384, R385) -/

/-- KIND of a context cast. -/
def CtxKind.code : CtxKind → Nat
  | .remove => 0x10
  | .readmit => 0x11
  | .replay => 0x12

/-- Statuses of R385. -/
def Cx.acted : Nat := 0
def Cx.inReset : Nat := 4
def Cx.replayDone : Nat := 0x10
def Cx.replayFault : Nat := 0x11
def Cx.noInputs : Nat := 0x12
def Cx.noEngine : Nat := 0x13

/-- The octets of a context cast before its CRC (R384). -/
def CtxCast.body (c : CtxCast) (retry : Bool) (targets : BitVec 160) : List Byte :=
  le 2 c.id ++ le 1 c.kind.code ++ le 1 (bit retry + 2 * bit c.hold) ++ le 1 c.contexts.length ++
    le 1 c.avoidEngine ++ le 2 c.avoidUid ++ fit 16 (c.contexts.flatMap (le 2)) ++
    fit 8 (c.epochs.flatMap (le 1)) ++ le 20 targets.toNat

/-- A context cast's 56 octets. -/
def CtxCast.octets (c : CtxCast) (retry : Bool) (targets : BitVec 160) : List Byte :=
  let b := c.body retry targets
  b ++ le 4 (crc32c b)

/-- All 128 clusters and all 16 network groups (R386). -/
def ctxTargets : BitVec 160 := BitVec.ofNat 160 (2 ^ 128 - 1 + (2 ^ 16 - 1) * 2 ^ 144)

/-- Issue a context cast (R249, R384). -/
def State.issueCtx (s : State) (kind : CtxKind) (hold : Bool) (contexts : List Nat)
    (targets : BitVec 160) (avoidUid avoidEngine : Nat) : State :=
  let c : CtxCast :=
    { id := s.qu.castCounter, kind := kind, hold := hold, contexts := contexts
      epochs := contexts.map s.ctxEpoch, targets := targets, avoidUid := avoidUid
      avoidEngine := avoidEngine, issued := s.elapsed, retries := 0, answers := [], laneCount := 0
      stalled := 0, counted := false, drainAt := none }
  State.emit { s with qu := { s.qu with castCounter := (s.qu.castCounter + 1) % 65536 }
                      hang := { s.hang with casts := s.hang.casts ++ [c] } } .contextCast 0
    (c.octets false targets)

/-- The open context cast of an id. -/
def State.ctxCast (s : State) (id : Nat) : Option CtxCast := s.hang.casts.find? fun c => c.id = id

/-- Replace a context cast. -/
def State.putCtx (s : State) (c : CtxCast) : State :=
  { s with hang := { s.hang with casts := s.hang.casts.map fun d => if d.id = c.id then c else d } }

/-- Forget a context cast. -/
def State.dropCtx (s : State) (id : Nat) : State :=
  { s with hang := { s.hang with casts := s.hang.casts.filter fun c => c.id ≠ id } }

/-- Targets of a context cast that have answered nothing. -/
def CtxCast.missing (c : CtxCast) : List Nat :=
  (targetsOf c.targets).filter fun t => (Tab.find c.answers t).isNone

/-- REMOVE casts open: their count is not complete (R388). -/
def State.openRemoves (s : State) : Nat :=
  (s.hang.casts.filter fun c => c.kind = .remove && !c.counted).length

/-! ## The queue of removals (R388, R748) -/

/-- A removal of the context waits in the queue or for a place in it. -/
def State.queuedRemoval (s : State) (ctx : Nat) : Bool :=
  (s.hang.queue ++ s.hang.overflow).any fun r => r.ctx = ctx

/-- A removal takes the next place, or waits for one (R388). -/
def State.queueRemoval (s : State) (r : Removal) : State :=
  if s.hang.overflow.isEmpty && decide (s.hang.queue.length < 64) then
    { s with hang := { s.hang with queue := s.hang.queue ++ [r] } }
  else { s with hang := { s.hang with overflow := s.hang.overflow ++ [r] } }

/-- Hold a removal aside (R748). -/
def State.holdAside (s : State) (r : Removal) : State :=
  { s with hang := { s.hang with aside := s.hang.aside ++ [r] } }

/-- Request the removal of a context, as its state has it (R387, R388, R748); `culprit` is the removal
that R399 issues from REPLAYING. -/
def State.requestRemoval (s : State) (ctx : Nat) (hold byHub culprit : Bool) : State :=
  let r : Removal := ⟨ctx, hold, byHub⟩
  let st := s.ctxState ctx
  if culprit then s.queueRemoval r
  else if st = Cx.normal then
    if s.queuedRemoval ctx then s.holdAside r else s.queueRemoval r
  else if st = Cx.suspended then (if hold then s else s.moveCtx ctx Cx.retired)
  else if st = Cx.removing ∨ st = Cx.draining ∨ st = Cx.replaying then s.holdAside r
  else s

/-- A removal held aside acts on the state that the first left (R748). -/
def State.releaseAside (s : State) (ctx : Nat) : State :=
  let final := s.hang.aside.any fun r => r.ctx = ctx && !r.hold
  let s : State := { s with hang := { s.hang with aside := s.hang.aside.filter fun r => r.ctx ≠ ctx } }
  if final && s.ctxState ctx = Cx.suspended then s.moveCtx ctx Cx.retired else s

/-- The removals of the next cast: up to 8 from the head with one HOLD_REGIONS (R388). -/
def removalBatch (q : List Removal) : List Removal :=
  match q with
  | [] => []
  | r :: _ => (q.takeWhile fun x => x.hold = r.hold).take 8

/-- Issue the next REMOVE cast: new epochs, REMOVING, and the waiting removals move up (R386, R388). -/
def State.issueRemove (s : State) : State :=
  let batch := removalBatch s.hang.queue
  let ctxs := batch.map Removal.ctx
  let s := ctxs.foldl (fun s c => s.setCtx c (s.ctxEpoch c + 1) Cx.removing) s
  let q := s.hang.queue.drop batch.length
  let room := 64 - q.length
  let s : State := { s with hang := { s.hang with
    queue := q ++ s.hang.overflow.take room, overflow := s.hang.overflow.drop room } }
  s.issueCtx .remove ((batch.head?.map Removal.hold).getD false) ctxs ctxTargets 0 0

/-! ## Answers, counts, ends -/

/-- READMIT is answered by every target: its contexts are NORMAL again (R402). -/
def State.settleReadmit (s : State) (c : CtxCast) : State :=
  if c.kind = .readmit ∧ c.missing.isEmpty then
    (c.contexts.foldl (fun s x => if s.ctxState x = Cx.suspended then s.moveCtx x Cx.normal else s) s).dropCtx c.id
  else s

/-- The answer of a target to a REMOVE or READMIT reaches the hub (R385). -/
def State.ctxAnswer (s : State) (id t status : Nat) : State :=
  match s.ctxCast id with
  | none => s
  | some c =>
    if c.targets.getLsbD t && (Tab.find c.answers t).isNone && c.kind ≠ .replay then
      let c := { c with answers := Tab.put c.answers t (status + 1) }
      (s.putCtx c).settleReadmit c
    else s

/-- The count of a REMOVE is complete (R385, R393, R394): the lane's sum equals the number of targets, or
every target has answered that it is carried out or is a stalled cluster whose reset has asserted. -/
def State.removeComplete (s : State) (c : CtxCast) : Bool :=
  let ts := targetsOf c.targets
  decide (c.laneCount = ts.length) || ts.all fun t =>
    let a := Tab.at c.answers t 0
    decide (a = Cx.acted + 1) || decide (a = Cx.inReset + 1) ||
      (c.stalled.getLsbD t && decide (t < 128) && s.clusterReset t)

/-- RETIRED contexts enter FETTLING while the governor admits the fettling job (R396): every die is told
and has to report. -/
def State.fettleContexts (s : State) : State :=
  if s.power.admitted.getLsbD 3 then
    let due := (s.hang.contexts.filter fun e => e.2 / 256 = Cx.retired).map Prod.fst
    due.foldl (fun s c =>
      let s := s.moveCtx c Cx.fettling
      State.emit { s with hang := { s.hang with fettling := Tab.put s.hang.fettling c 0xFFFF } }
        .runnerCast 1 (be 2 c)) s
  else s

/-- DRAIN_NS has elapsed after the count of a REMOVE (R394): each context SUSPENDED or RETIRED, logged,
and what was held aside acts. -/
def State.drainCast (s : State) (c : CtxCast) : State :=
  let s := (c.contexts.zip c.epochs).foldl (fun s x =>
    if s.ctxState x.1 = Cx.draining then
      let s := s.moveCtx x.1 (if c.hold then Cx.suspended else Cx.retired)
      (s.logged Code.ctxRemoved (be 2 x.1 ++ be 1 ((x.2 + 255) % 256) ++ be 1 x.2)).releaseAside x.1
    else s) s
  (s.dropCtx c.id).fettleContexts

/-- Lists of at most 8. -/
def chunks8 : Nat → List Nat → List (List Nat)
  | 0, _ => []
  | n + 1, l => if l.isEmpty then [] else l.take 8 :: chunks8 n (l.drop 8)

/-- Send READMIT for the SUSPENDED contexts of a list, 8 in a cast (R402, R405). -/
def State.readmit (s : State) (l : List Nat) : State :=
  let due := l.eraseDups.filter fun c => s.ctxState c = Cx.suspended
  (chunks8 due.length due).foldl (fun s b => s.issueCtx .readmit false b ctxTargets 0 0) s

end Sys2Proof.Machine
end

