-- ==== Sys2Proof/Machine/TraceOps.lean ====
section
/-!
DEFINITION. Trace as shared operations: the sinks and their buffers (R521–R527), TRACE_CTRL copies
and the switch (R528–R533, R536).
-/
namespace Sys2Proof.Machine

/-! ## Sinks -/

/-- A die's sink. -/
def State.sink (s : State) (die : Nat) : Sink := Tab.at s.trace.sinks die Sink.fresh

/-- Change a sink. -/
def State.modSink (s : State) (die : Nat) (f : Sink → Sink) : State :=
  { s with trace := { s.trace with sinks := Tab.mod s.trace.sinks die Sink.fresh f } }

/-- The 128 octets of a header block (R525). -/
def State.sinkHeader (s : State) (die : Nat) : List Byte :=
  let k := s.sink die
  let b := le 4 0x52545244 ++ le 2 1 ++ le 1 die ++ le 1 s.trace.policy ++ le 8 s.trace.size ++
    le 8 k.writeOffset ++ le 4 k.wraps ++
    le 4 (bit k.full + 2 * bit k.frozen + 4 * (s.trace.mode % 2)) ++ le 8 k.linesWritten ++
    le 8 k.linesDiscarded ++ le 8 k.lost ++ le 8 (s.stampPns (runnerUid die)) ++
    le 8 k.resetPns ++ le 8 k.freezePns ++ zeros 44
  b ++ le 4 (crc32c b)

/-- Octets written to a die's stack. -/
def State.stackWrite (s : State) (die off : Nat) (bytes : List Byte) : State :=
  { s with dram := Mem.writeBytes s.dram (stackAddr die off) bytes }

/-- An address of the stacks lies in a trace buffer (R522). -/
def State.inBuffers (s : State) (a : Nat) : Bool :=
  decide (s.trace.base ≤ a % 2 ^ 37) && decide (a % 2 ^ 37 < s.trace.base + s.trace.size)

/-- A memory whose listed octets at the addresses `p` become `f`, kept canonical. -/
def Mem.reopen (m : Mem) (p : Nat → Bool) (f : Nat → Byte) : Mem :=
  m.filterMap fun c => if p c.1 then (if f c.1 = 0 then none else some (c.1, f c.1)) else some c

/-- The stacks after a reset: what the trace buffers hold is open, octets of the free value `v` (R538). -/
def State.openBuffers (s : State) (v : Nat) : Mem :=
  Mem.reopen s.dram s.inBuffers fun a => BitVec.ofNat 8 (v / 256 ^ a)

/-- The sink of a die works: its runner is neither in reset nor fenced (R424). -/
def State.sinkWorks (s : State) (die : Nat) : Bool := !(s.runner die).inReset && !(s.runner die).fenced

/-- A sink writes its header block (R527). -/
def State.writeHeader (s : State) (die : Nat) : State :=
  if s.sinkWorks die then
    let h := s.sinkHeader die
    (s.stackWrite die s.trace.base h).modSink die fun k => { k with header := h }
  else s

/-- Reset of every die's buffer (R523, R525). -/
def State.resetBuffers (s : State) : State :=
  let s := { s with trace := { s.trace with lostPackets := 0, ovfCores := 0 } }
  (List.range 16).foldl (fun s die =>
    let s := s.modSink die fun k =>
      { Sink.fresh with resetPns := s.pns, freezePns := k.freezePns, frozen := k.frozen, heldLines := k.heldLines }
    State.writeHeader (s.stackWrite die s.trace.base (zeros 4096)) die) s

/-- A line into an open sink: written, or discarded once FULL (R526). -/
def State.sinkLine (s : State) (die : Nat) (line : List Byte) : State :=
  let k := s.sink die
  if k.full then
    let s := s.modSink die fun k => { k with linesDiscarded := add64 k.linesDiscarded 1 }
    { s with trace := { s.trace with sinkDiscards := add64 s.trace.sinkDiscards 1 } }
  else
    let s := s.stackWrite die (s.trace.base + k.writeOffset) line
    let off := k.writeOffset + 64
    let s := s.modSink die fun k => { k with linesWritten := add64 k.linesWritten 1, writeOffset := off }
    if off < s.trace.size then s
    else if s.trace.policy = 0 then
      s.modSink die fun k => { k with writeOffset := 4096, wraps := (k.wraps + 1) % 2 ^ 32 }
    else State.writeHeader (s.modSink die fun k => { k with full := true }) die

/-- Account an OVF line: LOST and the core's bit (R521). -/
def State.countOvf (s : State) (die : Nat) (line : List Byte) : State :=
  if bitOf (fieldLe line 6 1) 2 then
    let lost := fieldLe line 9 4
    let core := fieldLe line 0 2 % 16384
    let s := s.modSink die fun k => { k with lost := add64 k.lost lost }
    let s := { s with trace := { s.trace with lostPackets := add64 s.trace.lostPackets lost
                                              ovfCores := setBit s.trace.ovfCores core true } }
    match s.slotOfLogical core with
    | none => s
    | some slot => s.modTap (core / 128) fun t => { t with dropping := setBit t.dropping slot false }
  else s

/-- A sink takes a line (R521, R526). -/
def State.takeLine (s : State) (die : Nat) (line : List Byte) : State :=
  (s.countOvf die line).sinkLine die line

/-- A sink freezes at `t` (R267, R538). -/
def State.freezeSink (s : State) (die t : Nat) : State :=
  State.writeHeader (s.modSink die fun k => { k with frozen := true, freezePns := t }) die

/-- A sink thaws: lines held in frozen buffers are written in order (R538). -/
def State.thawSink (s : State) (die : Nat) : State :=
  let held := (s.sink die).heldLines
  let s := s.modSink die fun k => { k with frozen := false, heldLines := [] }
  held.foldl (fun s l => s.takeLine die l) s

/-- A reset of a runner or of its sink: the lines in the sink are lost, and the sink resumes at the
offset of the runner's last frame report (R538). -/
def State.resetSink (s : State) (die : Nat) : State :=
  s.modSink die fun k => { k with writeOffset := k.reportedOffset, heldLines := [], frozen := false }

/-! ## TRACE_CTRL (R528, R529, R531) -/

/-- 4-bit set number of a logical core (R531). -/
def State.rangeSetOf (s : State) (logical : Nat) : Nat :=
  let m := Tab.at s.trace.rangeMaps (logical / 1024) (zeros 512)
  let c := logical % 1024
  let b := fieldBe m (c / 2) 1
  if c % 2 = 0 then b % 16 else b / 16

/-- The default of a range set: every range disabled (R540), in Proros order. -/
def rangeSetDefault : List Byte := (List.range 4).flatMap fun _ => be 8 (2 ^ 64 - 1) ++ be 8 0

/-- A range set as TRACE_CTRL holds it, least significant byte first. -/
def State.rangesLe (s : State) (set : Nat) : List Byte :=
  let r := Tab.at s.trace.rangeSets set rangeSetDefault
  (List.range 8).flatMap fun k => le 8 (fieldBe r (8 * k) 8)

/-- The copy that the default objects give a slot (log entry 19). -/
def traceDefault (logical : Nat) : List Byte :=
  le 1 0 ++ le 1 0 ++ le 2 4096 ++ le 2 logical ++ le 2 0 ++
    (List.range 4).flatMap fun _ => le 8 (2 ^ 64 - 1) ++ le 8 0

/-- The copy that the objects in force give a slot (R528, R531, R536). -/
def State.traceCopy (s : State) (c slot : Nat) : List Byte :=
  match s.uidLogical (slotUid c slot) with
  | none => traceDefault 0
  | some n =>
    let en := s.trace.enable.getLsbD n
    let ctrl := bit en + 2 * (s.trace.mode % 2) + 4 * bit (s.trace.stall.getLsbD n) +
      8 * bit (en && bitOf s.trace.scopes 0) + 16 * bit (en && bitOf s.trace.scopes 1)
    le 1 ctrl ++ le 1 0 ++ le 2 s.trace.interval ++ le 2 n ++ le 2 0 ++ s.rangesLe (s.rangeSetOf n)

/-- The copy that a slot has under the default objects and the committed map. -/
def State.traceRest (s : State) (c slot : Nat) : List Byte :=
  traceDefault ((s.uidLogical (slotUid c slot)).getD 0)

/-- The pending copy of a slot. -/
def State.tracePendingOf (s : State) (c slot : Nat) : List Byte :=
  (Tab.find (s.tap c).tracePending slot).getD (s.traceRest c slot)

/-- The pending copy of a slot once the writes still on their way have ended. -/
def State.traceComing (s : State) (c slot : Nat) : List Byte :=
  match ((s.units.ring ++ s.units.ringQueue).filter fun t =>
      t.use = .traceCtrl && t.die * 8 + t.tap = c && t.slot = slot).getLast? with
  | some t => wordsLe t.data
  | none => s.tracePendingOf c slot

/-- The slots of a cluster whose pending copy changes (R529). -/
def State.traceChanged (s : State) (c : Nat) : List Nat :=
  (List.range 136).filter fun slot => s.traceCopy c slot ≠ s.traceComing c slot

/-- Each runner writes the slots whose pending copy changes; TR_SWITCH_PENDING reads 1 until the
switch (R529, R530). -/
def State.traceSync (s : State) : State :=
  (List.range 128).foldl (fun s c =>
    match s.traceChanged c with
    | [] => s
    | slots =>
      let s := { s with trace := { s.trace with changed := setBit s.trace.changed c true
                                                switchPending := true } }
      slots.foldl (fun s slot =>
        s.ringStart (ringWrite c 0x45 slot (s.traceCopy c slot) .traceCtrl)) s) s

/-- The spare map has changed: the pending copies of traced slots follow (R538). -/
def State.traceFollow (s : State) : State := if s.trace.enable = 0 then s else s.traceSync

/-- TRACE_CTRL writes are still outstanding. -/
def State.traceWriting (s : State) : Bool :=
  (s.units.ring ++ s.units.ringQueue).any fun t => t.use = .traceCtrl

/-- A response to a TRACE_CTRL write: the pending copy of the slot is replaced (R528). -/
def State.traceWritten (s : State) (t : RingTxn) : State :=
  s.modTap (t.die * 8 + t.tap) fun x =>
    { x with tracePending := Tab.put x.tracePending t.slot (wordsLe t.data) }

/-- The cluster taps of a bit set as targets. -/
def clusterTargets (b : BitVec 128) : BitVec 160 := b.zeroExtend 160

/-- Issue the switch to some taps for the first boundary at least 4 µs later (R529, R530). -/
def State.traceSwitch (s : State) (taps : BitVec 128) : State :=
  let b := s.boundaryFrom (s.pns + 4000)
  let s := { s with trace := { s.trace with switchAt := some b, retry := 0 } }
  s.issueCast Cast.traceSwitch b 1 (clusterTargets taps) false false 0 .traceSwitch

/-- A switch is due when every write has completed and none is in flight. -/
def State.traceSwitchReady (s : State) : Bool :=
  s.trace.switchPending && !s.traceWriting && s.trace.switchAt.isNone && s.trace.changed ≠ 0

/-- Writes of TRACE_CTRL to a cluster are still outstanding. -/
def State.traceWritingTo (s : State) (c : Nat) : Bool :=
  (s.units.ring ++ s.units.ringQueue).any fun t => t.use = .traceCtrl && t.die * 8 + t.tap = c

/-- A boundary of the switch: armed taps take their pending copies; when every written tap has
switched, the change is applied, and the others are retried (R529, R530). A tap that is being written for
a later change still counts as written. -/
def State.traceBoundary (s : State) (now : Nat) : State :=
  match s.trace.switchAt with
  | none => s
  | some b =>
    if now < b then s
    else
      let armed := (List.range 128).filter fun c => (s.tap c).traceSwitchAt = some b
      let s : State := armed.foldl (fun s c => s.modTap c fun t =>
        { t with traceActive := t.tracePending, traceSwitchAt := none }) s
      let left := (armed.filter fun c => !s.traceWritingTo c).foldl (fun v c => setBit v c false) s.trace.changed
      let s : State := { s with trace := { s.trace with changed := left, switchAt := none } }
      if left = 0 then
        let s := { s with trace := { s.trace with appliedFrame := s.frame.number
                                                  switchPending := false } }
        if s.trace.fettleAfter then
          let s := { s with trace := { s.trace with fettleAfter := false } }
          s.issueCast Cast.traceFettle 0 0 (clusterTargets (BitVec.allOnes 128)) false false 0
            .traceFettle
        else s
      else if s.trace.retry ≠ 0 then s.traceSwitch s.trace.retry
      else s

/-- A tap answered LATE or stays missing: it is sent the switch again for the next boundary
(R530). -/
def State.traceRetry (s : State) (c : Nat) : State :=
  let s := { s with trace := { s.trace with retry := setBit s.trace.retry c true } }
  if s.trace.switchAt.isNone then s.traceSwitch s.trace.retry else s

/-- Scopes that the pending copies may carry: those in force whose token outlasts the next two
boundaries (R536, log entry 20). -/
def State.traceScopesNow (s : State) : Nat :=
  if s.allScopes then 3
  else
    let lim := s.boundaryFrom (s.pns + 1) + s.frame.lenNs
    s.port.sessions.foldl (fun a x => match x.token with
      | some t => if lim ≤ t.expiry then a ||| (t.scope % 4) else a
      | none => a) 0

/-- Grant or withdraw the trace scopes in the pending copies (R536). -/
def State.traceScopesSync (s : State) : State :=
  if s.traceScopesNow = s.trace.scopes then s
  else
    let s := { s with trace := { s.trace with scopes := s.traceScopesNow } }
    if s.trace.enable = 0 then s else s.traceSync

/-- Trace objects at their defaults (R538); the taps follow at a switch when some were enabled. -/
def State.traceDefaults (s : State) : State :=
  { s with trace := { Trace.fresh with sinks := s.trace.sinks, changed := s.trace.changed
                                       switchAt := s.trace.switchAt } }

end Sys2Proof.Machine
end

