-- ==== Sys2Proof/Machine/QuenchOps.lean ====
section
/-!
DEFINITION. Quench, step and resume as shared operations: selection and arming (R246–R256,
R286–R294), the cut and its membership (R262–R269), cancelling (R240, R302–R304), and the pod-wide
order (R275–R285).
-/
namespace Sys2Proof.Machine

/-! ## Selection -/

/-- Clusters of a selection that are routed around (R247). -/
def State.routedIn (s : State) (sel : BitVec 160) : List Nat :=
  (targetsOf sel).filter fun t => decide (t < 128) && s.clusterRouted t

/-- Targets of a selection whose entry reads 4 (R247). -/
def State.deadIn (s : State) (sel : BitVec 160) : List Nat :=
  (targetsOf sel).filter fun t =>
    s.health (targetUid t) = 4 && !(decide (t < 128) && s.clusterRouted t)

/-- The selection that is left (R247). -/
def State.selectable (s : State) (sel : BitVec 160) : BitVec 160 :=
  sel &&& ~~~(targetSet (s.routedIn sel)) &&& ~~~(targetSet (s.deadIn sel))

/-- List targets as not in the cut. -/
def State.listOut (s : State) (ts : List Nat) : State :=
  ts.foldl (fun s t =>
    if t < 128 then { s with qu := { s.qu with notInCut := setBit s.qu.notInCut t true } }
    else { s with qu := { s.qu with notInCutOther := setBit s.qu.notInCutOther (t - 128) true } }) s

/-- Clear a target's bit in the lists. -/
def State.listIn (s : State) (t : Nat) : State :=
  if t < 128 then { s with qu := { s.qu with notInCut := setBit s.qu.notInCut t false } }
  else { s with qu := { s.qu with notInCutOther := setBit s.qu.notInCutOther (t - 128) false } }

/-- Some unit is listed as not in the cut. -/
def State.someOut (s : State) : Bool := s.qu.notInCut ≠ 0 || s.qu.notInCutOther ≠ 0

/-- Every selected cluster's CORE_SELECT at all ones (R248). -/
def State.selectAll (s : State) (ts : BitVec 160) : State :=
  ((targetsOf ts).filter fun t => decide (t < 128)).foldl
    (fun s t => s.modTap t fun x => { x with coreSelect := BitVec.allOnes 136 }) s

/-! ## Arming -/

/-- The sequencer takes an entry in hand. -/
def inHand (n action time castId : Nat) (ts : BitVec 160) (before : Nat) : InHand :=
  { entry := n, action := action, time := time, castId := castId, targets := ts, postponed := 0
    decided := false, before := before, pod := false, emergency := false, taken := false
    membershipListed := false, cancelled := false, stepCycles := 0, stepNet := false, selecting := 0
    actors := 0 }

/-- The entry in hand becomes RUNNING. -/
def State.runEntry (s : State) (n : Nat) : State :=
  s.putEntry n { s.entry n with status := Stat.running }

/-- Issue the arming cast of the entry in hand (R256, R290, R294). -/
def State.armHand (s : State) (h : InHand) : State :=
  let kind := if h.action = 3 then Cast.armStep else if h.action = 4 then Cast.armResume
              else Cast.armQuench
  let h := { h with castId := s.nextCast }
  let s := s.issueCast kind h.time 2 h.targets h.stepNet h.pod h.stepCycles (.entry h.entry)
  { s with qu := { s.qu with hand := some h, armExpected := (targetsOf h.targets).length
                             armCount := 0 } }

/-- A QUENCH or POD_QUENCH is accepted (R247, R248, R256, R305). -/
def State.acceptQuench (s : State) (n : Nat) (e : SchedEntry) (pod emergency : Bool) : State :=
  let ts := s.selectable e.selection
  let dead := s.deadIn e.selection
  let before := s.qu.state
  let s := { s with qu := { s.qu with notInCut := 0, notInCutOther := 0, postponeCount := 0
                                      state := Qs.arming } }
  let s := (s.listOut dead).selectAll ts
  let s := s.runEntry n
  s.armHand { inHand n e.action e.time 0 ts before with pod := pod, emergency := emergency }

/-- A scope is in force on the hub: bit 3 STEP_SECURE, bit 4 DUMP_SECURE (R681). -/
def State.scope (s : State) (b : Nat) : Bool := bitOf s.hubScopes b

/-- Slots of a cluster whose ARCH carries the secure bit (R40): of a slot that has not been read since it last
ran it is open, the host's own state (log entry 9). -/
def State.secureSlots (s : State) (c : Nat) : BitVec 136 :=
  let t := s.tap c
  (t.secure &&& t.secureKnown) ||| (BitVec.ofNat 136 (Config.freeValue (s.freeCount + c)) &&& ~~~t.secureKnown)

/-- The stopped slots of a cluster that a step leaves out (R288). -/
def State.stepOut (s : State) (c : Nat) : BitVec 136 :=
  if s.scope 3 then 0 else s.stoppedSlots c &&& s.secureSlots c

/-- Slots set in a bitmap. -/
def slotCount (b : BitVec 136) : Nat := ((List.range 136).filter fun i => b.getLsbD i).length

/-- A STEP is accepted (R287–R291): clusters in QU_SET and the cut that are stopped, and with
STEP_NET the cut's network groups. -/
def State.acceptStep (s : State) (n : Nat) (e : SchedEntry) : State :=
  let net := bitOf e.taken 16
  let sel := s.selectable (e.selection &&& s.qu.members)
  let cl := (targetsOf sel).filter fun t => decide (t < 128) && s.stopped t
  let excluded := (cl.map fun c => slotCount (s.stepOut c)).sum
  let stepping := cl.filter fun c => s.stoppedSlots c &&& ~~~(s.stepOut c) ≠ 0
  let groups := if net then
      (targetsOf (s.selectable s.qu.members)).filter fun t => decide (144 ≤ t) && s.unitStopped t
    else []
  let writes := stepping.filter fun c => s.stepOut c ≠ 0
  let s := { s with qu := { s.qu with stepExcluded := excluded % 65536, state := Qs.stepArming } }
  let s := (s.listOut (s.deadIn e.selection)).runEntry n
  let h := { inHand n 3 e.time 0 (targetSet (stepping ++ groups)) Qs.quenched with
    stepCycles := e.taken % 65536, stepNet := net, selecting := writes.length }
  if writes.isEmpty then { s.armHand h with freeCount := s.freeCount + 128 }
  else
    let s := { s with qu := { s.qu with hand := some h } }
    let t := writes.foldl (fun s c =>
      s.ringStart (ringWrite c 0x02 0 (le 17 (~~~(s.stepOut c)).toNat) .coreSelect)) s
    { t with freeCount := s.freeCount + 128 }

/-- A RESUME is accepted (R248, R294). -/
def State.acceptResume (s : State) (n : Nat) (e : SchedEntry) : State :=
  let ts := targetSet ((targetsOf (s.selectable e.selection)).filter s.unitStopped)
  let before := s.qu.state
  let s := { s with qu := { s.qu with state := Qs.resumeArming } }
  let s := ((s.listOut (s.deadIn e.selection)).selectAll ts).runEntry n
  s.armHand (inHand n 4 e.time 0 ts before)

/-! ## Pod orders (R275–R279) -/

/-- The 72 octets of a cut message (R275). -/
def cutMessage (kind copy seq hops gm sender t issue pkgIn pkgOut clOut : Nat) : List Byte :=
  let b := be 1 (16 + kind) ++ be 1 copy ++ be 2 seq ++ be 1 hops ++ zeros 3 ++ be 8 gm ++
    be 8 sender ++ be 8 t ++ be 8 issue ++ be 4 pkgIn ++ be 4 pkgOut ++ be 4 clOut ++ zeros 16
  b ++ be 4 (crc32c b)

/-- A time port's record. -/
def State.timePort (s : State) (p : Nat) : TimePort := Tab.at s.pod.ports p TimePort.fresh

/-- The port carries time-link messages (R159). -/
def State.timeLink (s : State) (p : Nat) : Bool :=
  decide (p < 48) && s.pod.portMask.getLsbD p && (s.optPort p).linkUp

/-- An offer meets R150 apart from its UPSTREAM_ID. -/
def State.offerSound (s : State) (o : Offer) : Bool :=
  o.gmId ≠ 0 && decide (o.hops ≤ 5) &&
    (match o.advancedAt with
      | some f => decide (s.frame.number ≤ f + 8)
      | none => false)

/-- Downstream time ports (R276). The UPSTREAM_ID of such a SYNC is this node's own, which R150 takes for a reason to
turn an offer down: here it counts as acceptable when it meets the rest of R150 (log entry 167). -/
def State.downstream (s : State) : List Nat :=
  (List.range 48).filter fun p =>
    s.timeLink p && (match (s.timePort p).offer with
      | some o => o.upstreamId = s.fuses.serial && s.fuses.serial ≠ 0 && s.offerSound o
      | none => false)

/-- The message kind that a cut message leaves as. -/
def cutEmit (kind : Nat) : EmitKind := if kind = 1 then .cutOrder else if kind = 2 then .cutWithdraw else .cutAck

/-- Replace COPY and the CRC of a cut message. -/
def withCopy (m : List Byte) (copy : Nat) : List Byte :=
  let b := m.take 1 ++ be 1 copy ++ slice m 2 66
  b ++ be 4 (crc32c b)

/-- Send copy 0 on every downstream port now, copies 1 and 2 at 20 µs and 40 µs (R277, R278). -/
def State.sendCopies (s : State) (m : List Byte) : State :=
  let s := s.emitAll (cutEmit (fieldBe m 0 1 % 16)) s.downstream (withCopy m 0)
  { s with podCut := { s.podCut with copies := s.podCut.copies ++ [(m, 1, s.pns + 20000)] } }

/-- The grandmaster sends the order of a POD_QUENCH (R277). -/
def State.podOrder (s : State) (n : Nat) (t : Nat) : State :=
  let seq := (s.qu.orderSeq + 1) % 65536
  let s := { s with
    qu := { s.qu with orderSeq := seq, podInCut := 0, podOut := 0, podClustersOut := 0 }
    podCut := { s.podCut with order := some (seq, t, s.pns), sumIn := 0, sumOut := 0
                              sumClusters := 0, ackSent := false, summarised := false, ownIn := none } }
  let s := s.putEntry n { s.entry n with podOrder := seq }
  s.sendCopies (cutMessage 1 0 seq s.pod.hops s.pod.gmId s.fuses.serial t s.pns 0 0 0)

/-- The entry stands for a pod order: a POD_QUENCH, or a REMOTE entry (R226, R277, R279). -/
def SchedEntry.ofPod (e : SchedEntry) : Bool := e.action = Act.podQuench || bitOf e.flags 6

/-- The grandmaster withdraws an order (R285). -/
def State.podWithdraw (s : State) (n : Nat) : State :=
  match s.podCut.order with
  | some (seq, t, issue) =>
    if seq = (s.entry n).podOrder ∧ (s.entry n).ofPod then
      s.sendCopies (cutMessage 2 0 seq s.pod.hops s.pod.gmId s.fuses.serial t issue 0 0 0)
    else s
  | none => s

/-- This package's outcome for the pod order in progress (R280, R282). -/
def State.podOutcome (s : State) (n : Nat) : State :=
  match s.podCut.order with
  | some (seq, _, _) =>
    if seq = (s.entry n).podOrder ∧ (s.entry n).ofPod then
      { s with podCut := { s.podCut with
          ownIn := some (s.podCut.ownIn ≠ some false && (s.entry n).status = Stat.finished) } }
    else s
  | none => s

/-! ## The cut -/

/-- A tap whose half is not chilled stops its selected slots; a chilled one latches the stop (R42,
R48, R272). A release that falls due at the same edge is discarded with a compare clash (R47), but not during a
chill (R273). -/
def State.tapStop (s : State) (c t : Nat) : State :=
  let x := s.tap c
  let clash : Bool := !s.chilled c && (match x.releaseArm with
    | .release _ a => decide (a = t)
    | .step _ a _ => decide (a = t)
    | .none => false)
  s.modTap c fun x =>
    let x := { x with stopArm := none
                      releaseArm := if clash then .none else x.releaseArm
                      compareClash := x.compareClash || clash }
    if s.chilled c then { x with latchedStop := true }
    else { x with coreClock := x.coreClock &&& ~~~x.coreSelect }

/-- A tap releases its selected stopped slots, or latches the release (R43, R48). -/
def State.tapRelease (s : State) (c : Nat) : State :=
  s.modTap c fun x =>
    let x := { x with releaseArm := .none }
    if s.chilled c then { x with latchedRelease := true }
    else { x.runSelected with latchedStop := false }

/-- d_rx of a port in ns × 1,000, when the peer has reported it (R269). -/
def State.portDelay (s : State) (p : Nat) : Option Nat :=
  let d := (Tab.at s.pod.ports p TimePort.fresh).peerLoop
  if d = 0xFFFFFFFF then none else some d

/-- Ports of a die. -/
def portsOf (die : Nat) : List Nat :=
  if perimeter die then (List.range 4).map fun q => perimeterIndex die * 4 + q else []

/-- The freeze record of an optical port (R269). -/
def frozenPort (t : Nat) (d : Option Nat) (x : OptPort) : OptPort :=
  { x with frozen := some t, dRx := d, coarse := d.isNone }

/-- A network group freezes at `t`, its optical ports with it (R267, R269). -/
def State.freezeGroup (s : State) (g t : Nat) : State :=
  let s := s.modGroup g fun x => { x with freezeArm := none, frozenAt := some t }
  (portsOf g).foldl (fun s p => s.modPort p (frozenPort t (s.portDelay p))) s

/-- The freeze record is cleared at the thaw (R295). -/
def thawedPort (x : OptPort) : OptPort := { x with frozen := none, dRx := none, coarse := false }

/-- A network group thaws; its marks are cleared and its ports' records go (R295). -/
def State.thawGroup (s : State) (g : Nat) : State :=
  let s := s.modGroup g fun x => { x with thawArm := none, frozenAt := none }
  (portsOf g).foldl (fun s p => s.modPort p thawedPort) s

/-- The armed stop or freeze of a target: its CAST_ID and instant (R42, R257). -/
def State.stopArmOf (s : State) (u : Nat) : Option (Nat × Nat) :=
  if u < 128 then (if (s.tap u).inReset then none else (s.tap u).stopArm.map fun k => (k, (s.tap u).stopAt))
  else if u < 144 then (s.runner (u - 128)).freezeArm
  else (s.group (u - 144)).freezeArm

/-- Whether a target still holds the arm of a cast for the stop (R261, R304). -/
def State.stopArmed (s : State) (u castId : Nat) : Bool := (s.stopArmOf u).map Prod.fst = some castId

/-- An instant has come in the replica of a target (R42). -/
def State.dueAt (s : State) (u t : Nat) : Bool := decide (t ≤ s.replicaPns (targetReplica u))

/-- A target stops or freezes at `t` (R266, R267). -/
def State.stopUnit (s : State) (u t : Nat) : State :=
  if u < 128 then s.tapStop u t
  else if u < 144 then
    (s.modRunner (u - 128) fun x => { x with freezeArm := none, frozen := true }).freezeSink (u - 128) t
  else s.freezeGroup (u - 144) t

/-- The entries in hand note that a target has acted on their cast. -/
def State.noteActor (s : State) (castId u : Nat) : State :=
  let note (h : InHand) : InHand := if h.castId = castId then { h with actors := setBit h.actors u true } else h
  { s with qu := { s.qu with hand := s.qu.hand.map note, closing := s.qu.closing.map note } }

/-- A tap whose compare a step has jumped over acts as on one that was past when it was armed (R46, R126). -/
def State.noteJump (s : State) (u t : Nat) : State :=
  if u < 128 && (s.replica (targetReplica u)).jumped t then s.modTap u fun x => { x with lateArm := true } else s

/-- Each armed stop or freeze whose instant has come in its own unit's replica acts (R42, R257). -/
def State.stopsFall (s : State) : State :=
  (List.range 160).foldl (fun s u =>
    match s.stopArmOf u with
    | some (id, t) => if s.dueAt u t then ((s.noteJump u t).stopUnit u t).noteActor id u else s
    | none => s) s

/-- Some frozen port has no d_rx (R269). -/
def State.coarse (s : State) : Bool := s.units.ports.any fun p => p.2.coarse

/-- Targets that act on the cast of an entry: those that have, and those whose arm stands (R42, R304). -/
def State.actorsOf (s : State) (h : InHand) : List Nat :=
  (targetsOf h.targets).filter fun u => h.actors.getLsbD u || s.stopArmed u h.castId

/-- The stop at T (R264, R266, R304, R305): with no target that counted the entry fails, and otherwise CUT_ID
advances and CUT_PNS is T. -/
def State.takeCut (s : State) (h : InHand) : State :=
  let acting := s.actorsOf h
  let h := { h with taken := true, actors := targetSet acting }
  let o := s.openCast h.castId
  let count := (o.bind OpenCast.count).getD 0
  let none_ := if h.cancelled then acting.isEmpty else count = 0
  if none_ then
    let s := { s with qu := { s.qu with state := h.before, hand := none } }
    if h.cancelled then { s with qu := { s.qu with lateCancels := s.qu.lateCancels ++ [h] } }
    else
      let silent := (o.map OpenCast.missing).getD []
      let s := (s.listOut (targetsOf h.targets)).logged Code.quEmptyCut (be 1 h.entry)
      let s := s.sendCancel (targetSet silent) (.cancelEntry h.entry)
      (s.tidyCasts.finishEntry h.entry Stat.failed).podOutcome h.entry
  else
    let members := if h.cancelled then targetSet acting
                   else targetSet ((o.map OpenCast.acted).getD [])
    let s := { s with qu := { s.qu with
      state := Qs.quenched, cutId := (s.qu.cutId + 1) % 2 ^ 32, cutPns := h.time, cutFlags := 0
      members := members, hand := none } }
    let s := if h.cancelled then
        State.listOut { s with qu := { s.qu with lateCancels := s.qu.lateCancels ++ [h] } }
          ((targetsOf h.targets).filter fun t => !members.getLsbD t)
      else { s with qu := { s.qu with closing := some h } }
    let s := s.cutFlag CutFlag.pod h.pod
    let s := s.cutFlag CutFlag.postponed (decide (0 < h.postponed))
    let s := s.cutFlag CutFlag.network ((targetsOf h.targets).any fun t => decide (144 ≤ t))
    let s := s.cutFlag CutFlag.coarseEdge s.coarse
    let s := s.cutFlag CutFlag.cancelLate h.cancelled
    s.cutFlag CutFlag.partialCut (s.someOut || decide (count < (targetsOf h.targets).length))

/-- A selected slot outside a chilled half still has cclk running (R263). -/
def State.stopMissed (s : State) (c : Nat) : Bool :=
  !s.chilled c && (s.tap c).clockNow s.elapsed &&& (s.tap c).coreSelect ≠ 0

/-- R263 on one cluster of the cut: out of the cut when its stop was missed. -/
def State.checkStop (s : State) (c : Nat) : State :=
  if s.qu.members.getLsbD c && s.stopMissed c then
    let s := { s with qu := { s.qu with members := setBit s.qu.members c false } }
    (s.listOut [c]).logged Code.quStopMissed (be 2 (tapUid c))
  else s

/-- Membership at T + 2 µs: the lists, CANCEL to silent targets, the CORE_CLOCK check (R262,
R263). -/
def State.listMembers (s : State) (h : InHand) : State :=
  match s.openCast h.castId with
  | none => s
  | some o =>
    let out := (targetsOf h.targets).filter fun t => !o.actedBy t
    let silent := o.missing
    let s := { s with qu := { s.qu with closing := some { h with membershipListed := true } } }
    let s := (s.listOut out).sendCancel (targetSet silent) (.cancelEntry h.entry)
    (o.acted.filter fun t => decide (t < 128)).foldl State.checkStop s

/-- An ACTED answer that arrives after T moves its target into the cut (R262). -/
def State.joinCut (s : State) (h : InHand) (t : Nat) : State :=
  let s := { s with qu := { s.qu with members := setBit s.qu.members t true } }
  if h.membershipListed then
    let s := s.listIn t
    if t < 128 then s.checkStop t else s
  else s

/-- Membership is final (R262): as many ACTED answers as the count, or T + 50 µs. -/
def State.membershipFinal (s : State) (h : InHand) : Bool :=
  match s.openCast h.castId with
  | none => true
  | some o =>
    h.membershipListed &&
      (decide ((o.count.getD 0) ≤ o.acted.length) || decide (h.time + 50000 ≤ s.pns))

/-- The final status of a quench (R264). -/
def State.closeQuench (s : State) (h : InHand) : State :=
  let s := { s with qu := { s.qu with closing := none } }
  let s := s.tidyCasts
  let s :=
    if s.qu.members = 0 then
      let left := (targetsOf h.actors).any fun t => decide (t < 128) && s.stopped t
      let s := if s.qu.state = Qs.quenched then
          { s with qu := { s.qu with state := if left then Qs.mixed else h.before } }
        else s
      (s.logged Code.quEmptyCut (be 1 h.entry)).finishEntry h.entry Stat.failed
    else
      let s := s.cutFlag CutFlag.partialCut s.someOut
      let e := s.entry h.entry
      let s := s.putEntry h.entry { e with time := h.time, late := e.late || decide (0 < h.postponed) }
      s.completeEntry h.entry
  s.podOutcome h.entry

/-- Take the final status when it is due (R264). -/
def State.settleQuench (s : State) : State :=
  match s.qu.closing with
  | some h => if !h.cancelled && s.membershipFinal h then s.closeQuench h else s
  | none => s

/-! ## Cancelling -/

/-- Cancel the entry in hand (R303, R304). A HOLD withdraws the arms before they act; a quench armed again for the
same instant, lane and wave sums its own targets from 0: the model's choice, the spec does not say whether those of
the withdrawn cast still add their 1 (R35, log entry 148). -/
def State.cancelHand (s : State) (h : InHand) : State :=
  if h.decided then
    let s := s.sendCancel h.targets (.cancelEntry h.entry)
    { s with qu := { s.qu with hand := some { h with cancelled := true } } }
  else
    let s := if h.selecting = 0 then (s.sendHold h.castId).dropCast h.castId else s
    let s := if h.action = 3 then (s.ringDrop fun t => t.use = .coreSelect).selectAll h.targets else s
    { s with qu := { s.qu with hand := none, state := h.before } }

/-- Write EMPTY over an entry (R240, R285, R303, R304). -/
def State.cancelEntry (s : State) (n : Nat) : State × Nat :=
  let e := s.entry n
  if e.open then
    let h := s.qu.hand.filter fun h => h.entry = n
    let time := (h.map InHand.time).getD e.time
    if time * Config.fracScale ≤ s.tb.active.read s.elapsed then (s, Abort.late)
    else
      let s := match h with
        | some h => s.cancelHand h
        | none => s
      let s := if e.action = 2 then s.podWithdraw n else s
      let s := s.finishEntry n Stat.cancelled
      (s.podOutcome n, Abort.ok)
  else (s.putEntry n SchedEntry.free, Abort.ok)

/-- A member of the cut still stands still. -/
def State.membersStopped (s : State) : Bool := (targetsOf s.qu.members).any s.unitStopped

/-- The armed release, step or thaw of a target: its CAST_ID and instant (R43, R44, R294). -/
def State.releaseArmOf (s : State) (u : Nat) : Option (Nat × Nat) :=
  if u < 128 then
    (if (s.tap u).inReset then none
     else match (s.tap u).releaseArm with
      | .release k a => some (k, a)
      | .step k a _ => some (k, a)
      | .none => none)
  else if u < 144 then (s.runner (u - 128)).thawArm
  else (s.group (u - 144)).thawArm

/-- Targets that still hold the release or step of a cast (R261, R304). -/
def State.releaseArmed (s : State) (u castId : Nat) : Bool := (s.releaseArmOf u).map Prod.fst = some castId

/-- The stepped tap at its release: cclk runs for N cycles (R44). -/
def Tap.startStep (x : Tap) (now : Nat) : Tap :=
  { x.runSelected with
           releaseArm := .none, stepRunning := true, stepSlots := x.coreSelect &&& ~~~x.coreClock
           latchedRelease := false
           stepEnds := now + ceilDiv (x.stepCount * 1000 * Config.stepsPerNs) 1100 }

/-- A tap releases for a step at TIME, or latches the release in chill (R44, R48). -/
def State.tapStep (s : State) (c : Nat) : State :=
  s.modTap c fun x => if s.chilled c then { x with latchedRelease := true } else x.startStep s.elapsed

/-- A unit is released, starts its step or thaws (R43, R44, R291, R295). -/
def State.releaseUnit (s : State) (u : Nat) : State :=
  if u < 128 then (if (s.tap u).stepArmed then s.tapStep u else s.tapRelease u)
  else if u < 144 then
    (s.modRunner (u - 128) fun x => { x with thawArm := none, frozen := false }).thawSink (u - 128)
  else s.thawGroup (u - 144)

/-- Each armed release, step or thaw whose instant has come in its own unit's replica acts (R43, R44, R294). -/
def State.releasesFall (s : State) : State :=
  (List.range 160).foldl (fun s u =>
    match s.releaseArmOf u with
    | some (id, t) => if s.dueAt u t then ((s.noteJump u t).releaseUnit u).noteActor id u else s
    | none => s) s

/-- QU_STATE after the release of a cast: MIXED while a unit of the cut remains stopped that does not hold that
release (R296). -/
def State.afterRelease (s : State) (castId : Nat) : State :=
  let left := targetSet ((targetsOf s.qu.members).filter fun u => s.unitStopped u && !s.releaseArmed u castId)
  { s with qu := { s.qu with members := left, state := if left = 0 then Qs.idle else Qs.mixed } }

/-- The end of a step: QU_STATE QUENCHED, CORE_SELECT back to all ones, the entry DONE (R289, R292,
R293). -/
def State.endStep (s : State) (h : InHand) : State :=
  let s := s.selectAll h.targets
  let s := { s with qu := { s.qu with state := Qs.quenched, hand := none } }
  if h.cancelled then s.tidyCasts else s.tidyCasts.completeEntry h.entry

/-- A step ends when every stepped tap has ended its step (R292). -/
def State.settleStep (s : State) : State :=
  match s.qu.hand with
  | some h => if h.action = 3 && h.taken && s.qu.stepping = 0 then s.endStep h else s
  | none => s

/-! ## QU_CMD entries (R228, R307) -/

/-- Enter an action from QU_CMD in the lowest free entry: FLAGS with NOTIFY set, RUN_LATE clear. -/
def State.quEnter (s : State) (action time : Nat) (param : Option Nat)
    (accept : Nat → SchedEntry → State → State) : State × Nat :=
  match s.freeEntry with
  | none => (s, Abort.tableFull)
  | some n =>
    match (s.putEntry n { s.entry n with param := param.getD (s.entry n).param }).schedWrite n action time 2 false accept with
    | (t, code) =>
      if code = Abort.valueRange ∨ code = Abort.busy ∨ code = Abort.fenced then (s, code)
      else (t, code)

end Sys2Proof.Machine
end

