-- ==== Sys2Proof/Machine/ServoOps.lean ====
section
/-!
DEFINITION. The time base and the servo as shared operations: the clocks of both cores, replicas,
loads and slews (R89–R95, R115–R117, R127), the servo's states, reasons and exits (R175–R191), the
offers of the time ports and the choice of the upstream (R150–R159, R168, R186, R187).
-/
namespace Sys2Proof.Machine

/-! ## Exact numbers -/

/-- Nearest integer, ties away from zero (R175). -/
def roundRat (q : Rat) : Int := if q < 0 then -((-q + 1 / 2).floor) else (q + 1 / 2).floor

/-- Magnitude. -/
def absRat (q : Rat) : Rat := if q < 0 then -q else q

/-- Insert in rising order. -/
def insertRat (q : Rat) : List Rat → List Rat
  | [] => [q]
  | a :: l => if q ≤ a then q :: a :: l else a :: insertRat q l

/-- The median; of an even number of values, the mean of the middle two. -/
def medianRat (l : List Rat) : Rat :=
  let m := l.foldr insertRat []
  let n := m.length
  if n % 2 = 1 then m.getD (n / 2) 0 else (m.getD (n / 2 - 1) 0 + m.getD (n / 2) 0) / 2

/-- A value of 2⁻¹⁶ ns in ns. -/
def nsOf16 (v : Int) : Rat := mkRat v 65536

/-- Picoseconds of ns, rounded to the nearest integer (R177). -/
def psOf (q : Rat) : Int := roundRat (q * 1000)

/-- Signed 32-bit saturation (R177). -/
def sat32 (v : Int) : Int := clampInt (-(2 ^ 31)) (2 ^ 31 - 1) v

/-- A picosecond figure as 4 octets of a record's detail. -/
def psOctets (v : Int) : List Byte := be 4 (ofSigned 32 (sat32 v))

/-! ## Clocks of the cores and replicas -/

/-- The replica of a unit; the standby core's counter is its TBU's (R69). -/
def State.getRep (s : State) (uid : Nat) : Replica :=
  let r := s.replica uid
  if uid = coreUid s.standbyCore then Replica.fall { r with clock := s.tb.standby } s.elapsed else r

/-- The standby core's count as it stands now (R69, R125). -/
def State.standbyNow (s : State) : Clock := (s.getRep (coreUid s.standbyCore)).clock

/-- The TBU of a hub core: the standby's is its shadow replica (R69). -/
def State.tbu (s : State) (core : Nat) : Clock := if core = s.activeCore then s.tb.active else s.standbyNow

/-- The standby's PNS lies within 0.5 ns of the active core's (R70). -/
def State.standbyClose (s : State) : Bool :=
  s.tb.active.counting && (s.replica (coreUid s.standbyCore)).state ≠ .cold &&
    decide (2 * ((s.tb.active.read s.elapsed : Int) - s.standbyNow.read s.elapsed).natAbs ≤ 2 ^ 48)

/-- A command that moves one of the two counts outright looks whether they still lie together (R70, log entry 147). -/
def State.noteStray (s : State) : State :=
  if s.standbyClose then s else s.modCore s.standbyCore fun c => { c with strayed := true }

/-- The standby core is shadow-ready (R70): 8 frames and the present within the bound, mirrors acknowledged, and its own
firmware advancing its heartbeat. -/
def State.shadowReady (s : State) : Bool :=
  let c := s.hub.core s.standbyCore
  decide (8 ≤ c.closeFrames) && s.standbyClose && !c.strayed && !c.mirrorStale && c.heartbeat ≠ c.heartbeatPrev &&
    s.health (coreUid s.standbyCore) ≠ 4 && c.proc = .running && !c.heldInReset

/-- The stamps of a TICK_IN move with the count that they were taken on (R135, R136, log entry 29). -/
def TickIn.shifted (x : TickIn) (d : Int) : TickIn := { x with lastAccepted := x.lastAccepted.map fun a => a + d }

/-- Replace a replica. -/
def State.putRep (s : State) (uid : Nat) (r : Replica) : State :=
  if uid = coreUid s.standbyCore then
    let s : State := { s with tb := { s.tb with standby := r.clock } }
    s.modReplica uid fun x => { r with clock := x.clock }
  else s.modReplica uid fun _ => r

/-- A wire. -/
def State.wire (s : State) (core : Nat) : Wire := if core = 0 then s.wireA else s.wireR

/-- Replace a wire. -/
def State.putWire (s : State) (core : Nat) (w : Wire) : State :=
  if core = 0 then { s with wireA := w } else { s with wireR := w }

/-- The runner that reports for a unit. -/
def countMarkCrc (s : State) (uid : Nat) : State :=
  s.modRunner (uidDie uid) fun r => { r with markCrc := inc32 r.markCrc }

/-- A wire starts being sourced (R99). -/
def State.startWire (s : State) (core : Nat) : State :=
  s.putWire core { s.wire core with
    sourcing := true, start := roundUp s.elapsed Config.stepsPerWave, cycle := 0, setQueue := []
    reqs := [], lastReq := none, repeatReq := [] }

/-- Set PNS of the active TBU outright: LOAD in 8 mark cycles, TIME_LOAD once (R127); a boundary
passed over gives no tick, one that is reached again does, and the slots run in the frame of the new PNS (R204, R207); a LOAD backward ends every token (R680). The shift is in 2⁻⁴⁸ ns. -/
def State.timeLoad (s : State) (shift : Int) : State :=
  let old := s.pns
  let acc := ((s.tb.active.read s.elapsed : Int) + shift).toNat
  let s : State := { s with tb := { s.tb with active := s.tb.active.load s.elapsed acc } }
  let s : State := { s with tb := { s.tb with tickOutOld := none, tickIn := s.tb.tickIn.shifted (shift / 2 ^ 32) } }
  let s := s.putWire s.activeCore { s.wire s.activeCore with loadsLeft := 8 }
  let next := s.boundaryFrom (s.pns + 1)
  let s : State := if s.frame.ticked then
      { s with frame := { s.frame with nextTick := next, opened := next - s.frame.lenNs }
               power := { s.power with periodStart := s.power.periodStart + (next - s.frame.lenNs) - s.frame.opened } }
    else s
  let s := (if shift < 0 then s.endTokens else s).noteStray
  s.logged Code.timeLoad (be 8 old ++ be 8 s.pns)

/-- The active TBU and what is dated by its count add DELTA (R123): a due boundary moves with the count (R204), the
slots with it (R207), the latest edge of TICK_IN too (R135, R136), samples that straddle the step are discarded (R174),
and a step backward ends every token (R680). The standby and the replicas add it at APPLY in their own count. -/
def State.timeStepNow (s : State) (delta : Int) : State :=
  let before := s.pns16
  let moved (n : Nat) : Nat := ((n : Int) + delta).toNat
  let s : State := { s with
    tb := { s.tb with
      active := s.tb.active.addFrac s.elapsed (delta * 2 ^ 48), tickOutOld := none
      tickIn := s.tb.tickIn.shifted (delta * 65536) }
    frame := { s.frame with nextTick := moved s.frame.nextTick, opened := moved s.frame.opened }
    power := { s.power with periodStart := moved s.power.periodStart }
    pod := { s.pod with stepsDone := (before :: s.pod.stepsDone).take 16, stepCount := s.pod.stepCount + 1 } }
  if delta < 0 then s.endTokens else s

/-- ns in units of 2⁻⁴⁸ ns. -/
def fracOf (q : Rat) : Int := roundRat (q * (2 ^ 48 : Nat))

/-! ## Frequency -/

/-- Set FREQ_PPB and the RATE word that follows from it (R89, R90, R175). -/
def State.setFreq (s : State) (ppb : Int) : State :=
  let rate := divRound (ppb * 2 ^ 40) 1000000000
  { s with pod := { s.pod with servo := { s.pod.servo with freqPpb := ppb } }
           tb := { s.tb with active := s.tb.active.setRate s.elapsed rate } }

/-- Change the servo. -/
def State.modServo (s : State) (f : Servo → Servo) : State :=
  { s with pod := { s.pod with servo := f s.pod.servo } }

/-- `f` on the standby core's servo alone: it moves neither a clock nor anything else (R73). -/
def State.onShadow (f : State → State) (s : State) : State :=
  { s with pod := { s.pod with shadow := (f { s with pod := { s.pod with servo := s.pod.shadow } }).pod.servo } }

/-- `f` on the active core's servo, and the same on the standby core's, which runs in parallel (R73). -/
def State.alsoStandby (f : State → State) (s : State) : State :=
  let t := f s
  { t with pod := { t.pod with shadow := (s.onShadow f).pod.shadow } }

/-- A servo input (R175, R177): an interval that no previous sample gives is open (log entry 9). -/
def State.servoInput (s : State) (θ : Rat) : State :=
  let v := s.pod.servo
  let el : Nat := match v.lastSample with
    | some t => s.elapsed - t
    | none => 0
  let free := el = 0
  let ts : Rat := if free then ((s.freeNow + 1 : Nat) : Rat) else mkRat el Config.stepsPerNs
  let s := if free then s.drawn else s
  let ki := mkRat v.ki (2 ^ 32)
  let kp := mkRat v.kp (2 ^ 32)
  let i := v.integral - ki * (θ / ts) * 1000000000
  let f := i - kp * (θ / ts) * 1000000000
  let s := s.modServo fun v => { v with integral := i }
  s.setFreq (roundRat f)

/-- An accepted θ: OFFSET_PS and the instant of the sample (R177). -/
def State.acceptOffset (s : State) (θ : Rat) : State :=
  s.modServo fun v => { v with offsetPs := sat32 (psOf θ), lastAccepted := θ, lastSample := some s.elapsed }

/-! ## HOLDOVER (R179–R184) -/

/-- Reasons of the holdover table. -/
def Why.pathChange : Nat := 1
def Why.upstreamLost : Nat := 2
def Why.gmLost : Nat := 3
def Why.refclkLost : Nat := 4
def Why.tickInLost : Nat := 5
def Why.outliers : Nat := 6
def Why.slew : Nat := 7

/-- Growth of the error bound in ps × steps up to now (R94, R184). -/
def State.growthNow (s : State) : Nat :=
  let v := s.pod.servo
  if v.state = 3 then
    v.growth + (s.elapsed - v.growthSince) * (if s.tb.refclkPresent then 10 else 100)
  else 0

/-- Bring the growth up to now, before REFCLK goes or returns. -/
def State.settleGrowth (s : State) : State :=
  let g := s.growthNow
  s.modServo fun v => { v with growth := g, growthSince := s.elapsed }

/-- A holdover event (R179): LOCKED enters HOLDOVER at the integral; HOLDOVER takes the new reason. -/
def State.holdover (s : State) (why : Nat) : State :=
  let v := s.pod.servo
  if v.state = 2 then
    let s := s.modServo fun v =>
      { v with state := 3, reasons := [why], growth := 0, growthSince := s.elapsed
               exitSamples := [], outliers := 0, goodRun := 0, slewLeft := 0, resuming := false }
    s.setFreq (roundRat v.integral)
  else if v.state = 3 then
    let drop := why = Why.pathChange || why = Why.outliers
    s.modServo fun v =>
      { v with reasons := why :: v.reasons.filter fun r => r ≠ why && !(drop && r = Why.slew)
               slewLeft := if drop then 0 else v.slewLeft, exitSamples := [], resuming := false }
  else if v.state = 1 && (why = Why.upstreamLost || why = Why.gmLost) then
    s.modServo fun v => { v with state := 0, goodRun := 0 }
  else s

/-- The servo enters LOCKED with an input (R181). -/
def State.lockWith (s : State) (θ : Rat) : State :=
  let s := s.modServo fun v =>
    { v with state := 2, reasons := [], exitSamples := [], outliers := 0, slewLeft := 0, growth := 0
             resuming := false }
  (s.servoInput θ).acceptOffset θ

/-- The exit test of R181 with a resumed offset. -/
def State.exitTest (s : State) (θr : Rat) : State :=
  if absRat θr * 1000 ≤ (s.pod.asymLimitPs : Rat) then (s.lockWith θr).logged Code.timeLocked []
  else
    let s := s.modServo fun v =>
      { v with state := 3, reasons := [Why.slew], slewLeft := θr, exitSamples := [], resuming := false
               growth := if v.state = 3 then v.growth else 0
               growthSince := if v.state = 3 then v.growthSince else s.elapsed }
    s.logged Code.timeSlew (psOctets (psOf θr))

/-- A reason clears; when it is the last other than SLEW, the exit of R181 follows with the offset in hand,
or waits for samples. -/
def State.clearReason (s : State) (why : Nat) (resumed : Option Rat) : State :=
  let v := s.pod.servo
  if v.state = 3 && v.reasons.contains why then
    let left := v.reasons.filter fun r => r ≠ why
    let last : Bool := left.all fun r => r = Why.slew
    let s := s.modServo fun v => { v with reasons := left, exitSamples := [], resuming := last }
    match resumed with
    | some θr => if last then s.exitTest θr else s
    | none => s
  else s

/-- A sample while the servo is in HOLDOVER (R180, R181 and the holdover table). -/
def State.holdSample (s : State) (θ : Rat) : State :=
  let v := s.pod.servo
  if v.reasons.contains Why.outliers then
    let l := (v.exitSamples ++ [θ]).drop (v.exitSamples.length - 7)
    let s := s.modServo fun v => { v with exitSamples := l }
    let m := medianRat l
    if l.length = 8 && l.all fun q => absRat (q - m) ≤ 2 then s.clearReason Why.outliers (some m) else s
  else if v.resuming || v.reasons.isEmpty then
    let l := v.exitSamples ++ [θ]
    let s := s.modServo fun v => { v with exitSamples := l }
    if l.length = 8 then s.exitTest (medianRat l) else s
  else s

/-- A corrected sample drives the servo (R179). Of the 16 consecutive samples, the one that takes FREE to ACQUIRING
counts as the first: the model's choice (log entry 161). -/
def State.servoStep (s : State) (θ : Rat) : State :=
  let v := s.pod.servo
  if v.state = 3 then s.holdSample θ
  else if v.state = 2 then
    if absRat θ ≤ 20 then
      ((s.servoInput θ).acceptOffset θ).modServo fun v => { v with outliers := 0 }
    else if v.outliers + 1 = 4 then s.holdover Why.outliers
    else s.modServo fun v => { v with outliers := v.outliers + 1 }
  else if absRat θ > 1000 then
    let s := (s.timeLoad (fracOf (-θ))).acceptOffset θ
    s.modServo fun v => { v with state := 1, goodRun := 0 }
  else
    let run := if absRat θ ≤ 1 / 2 then (if v.state = 1 then v.goodRun else 0) + 1 else 0
    let s := (s.servoInput θ).acceptOffset θ
    let s := s.modServo fun v => { v with state := 1, goodRun := run }
    if v.state = 1 && run = 16 then
      (s.modServo fun v => { v with state := 2, outliers := 0, goodRun := 0 }).logged Code.timeLocked []
    else s

/-- RESTART, or the servo after POR (R179). -/
def State.servoRestart (s : State) : State :=
  let s := s.modServo fun v =>
    { v with state := 0, integral := 0, goodRun := 0, outliers := 0, reasons := [], exitSamples := []
             slewLeft := 0, growth := 0, resuming := false }
  s.setFreq 0

/-! ## Offers and the upstream (R150–R159, R165, R168) -/

/-- Change a time port. -/
def State.modTimePort (s : State) (p : Nat) (f : TimePort → TimePort) : State :=
  { s with pod := { s.pod with ports := Tab.mod s.pod.ports p TimePort.fresh f } }

/-- The port can send: a runner that holds sends no time-link message (R424). -/
def State.portSends (s : State) (p : Nat) : Bool := s.timeLink p && !(s.runner (portDie p)).fenced

/-- An offer is acceptable (R150). -/
def State.acceptable (s : State) (p : Nat) (o : Offer) : Bool :=
  s.timeLink p && s.offerSound o && o.upstreamId ≠ s.fuses.serial

/-- The acceptable offer of a port. -/
def State.offerOf (s : State) (p : Nat) : Option Offer :=
  match (s.timePort p).offer with
  | some o => if s.acceptable p o then some o else none
  | none => none

/-- Ranking keys (R151): the lower list ranks above. -/
def Offer.rank (o : Offer) (p : Nat) : List Nat :=
  [o.priority, bit (!o.tickRef), o.gmId, o.hops, o.senderId, p]

/-- Lexicographic order of keys. -/
def rankAbove : List Nat → List Nat → Bool
  | a :: l, b :: m => decide (a < b) || (a = b && rankAbove l m)
  | _, _ => false

/-- TICK_IN steers the TBU (R133). -/
def State.tickSteers (s : State) : Bool := s.pod.role = 1 && s.rst.tickSourceBit

/-- TICK_REF of this hub's own offer (R152). -/
def State.ownTickRef (s : State) : Bool := s.tickSteers && s.tb.tickIn.state = 2

/-- This hub's own rank (R152). -/
def State.ownRank (s : State) : List Nat :=
  [s.pod.gmPriority, bit (!s.ownTickRef), s.fuses.serial, 0, s.fuses.serial, 0]

/-- Ports with acceptable offers, best first chosen (R155). -/
def State.bestOffer (s : State) : Option Nat :=
  (List.range 48).foldl
    (fun best p =>
      match s.offerOf p, best with
      | none, b => b
      | some _, none => some p
      | some o, some q =>
        match s.offerOf q with
        | some b => if rankAbove (o.rank p) (b.rank q) then some p else some q
        | none => some p) none

/-- An acceptable offer ranks above this hub (R153, R154). -/
def State.betterThanSelf (s : State) : Bool :=
  (List.range 48).any fun p =>
    match s.offerOf p with
    | some o => rankAbove (o.rank p) s.ownRank
    | none => false

/-- Own PATH_ID under an upstream (R168). -/
def State.pathIdUnder (s : State) (p : Nat) (o : Offer) : Nat :=
  crc16 0x1021 0xFFFF
    (be 2 o.pathId ++ be 8 o.senderId ++ be 1 p ++ be 1 (s.timePort p).generation)

/-- Copy what the upstream's SYNC says (R168, R169); its bound is taken while it is of the grandmaster that the bound
refers to (R185). -/
def State.follow (s : State) (p : Nat) (o : Offer) : State :=
  { s with pod := { s.pod with gmId := o.gmId, hops := Nat.min 255 (o.hops + 1), tickRef := o.tickRef
                               pathId := s.pathIdUnder p o
                               upBound := if o.gmId = s.pod.boundOf then o.errorBound else s.pod.upBound
                               gmCount := o.gmCount } }

/-- A path change (R186, R187): the discard window starts again. -/
def State.pathChange (s : State) (old new : Nat) : State :=
  let s := s.modServo fun v =>
    { v with windowFrom := some s.frame.number, windowEnded := none, samples := [], retrying := false
             beforePath := v.lastAccepted }
  (s.holdover Why.pathChange).logged Code.pathChange (be 2 old ++ be 2 new)

/-- Take a port as upstream (R155, R186): the counts of frames ranked above start anew. -/
def State.takeUpstream (s : State) (p : Nat) : State :=
  match (s.timePort p).offer with
  | none => s
  | some o =>
    let old := s.pod.seenPath
    let s := { s with pod := { s.pod with upstream := some p, heardAt := s.frame.number
                                          gmChangedAt := s.frame.number, seenPath := o.pathId
                                          seenGm := o.gmId
                                          ports := s.pod.ports.map fun (e : Nat × TimePort) =>
                                            (e.1, { e.2 with betterFrames := 0 }) } }
    let s := (s.follow p o).pathChange old o.pathId
    (s.clearReason Why.upstreamLost none).clearReason Why.gmLost none

/-- No upstream is left (R158). PATH_ID and GM_COUNT keep their last values, and the node's SYNC messages carry its own
priority: the model's choice (log entry 160). -/
def State.dropUpstream (s : State) : State :=
  { s with pod := { s.pod with upstream := none, gmId := 0, hops := 0xFF, tickRef := false } }

/-- Start a loopback measurement (R172) on a port that carries time-link messages (R159): 16 LOOP bursts, the result
unknown until it ends. The bursts of each measurement are numbered 0 to 15: the model's choice (log entry 162). -/
def State.startLoop (s : State) (p : Nat) : State :=
  if !s.portSends p then s else
  let s := s.modTimePort p fun x => { x with measuring := true, ownLoop := none }
  (List.range 16).foldl (fun s k =>
    let b := be 1 0x12 ++ be 1 0 ++ be 2 k ++ zeros 4 ++ be 8 s.fuses.serial ++ zeros 52
    s.emit .loop (portUid p) (b ++ be 4 (crc32c b))) s

/-- SYNC messages per frame (R165). -/
def State.syncPerFrame (s : State) : Nat :=
  ([16, 8, 4, 2].find? fun k => decide (k * 1000000000 ≤ s.pod.syncRate * s.frame.lenNs)).getD 1

/-- ERROR_BOUND_PS (R179, R184). -/
def State.errorBound (s : State) : Nat :=
  let v := s.pod.servo
  if s.pod.role = 1 then 0
  else if v.state < 2 || s.pod.upBound = 0xFFFFFFFF then 0xFFFFFFFF
  else
    let x := (psOf (absRat (v.unresolved.getD 0))).toNat
    Nat.min 0xFFFFFFFE (s.pod.upBound + 150 + x + s.growthNow / 160000000)

/-! ## The asymmetry (R188–R191) -/

/-- The raw samples of the decision. -/
def Servo.raws (v : Servo) : List Rat := (v.samples.take 8).map Prod.fst

/-- The asymmetry is resolved (R189, R191). The difference of a retry is a correction under R181 in LOCKED; in HOLDOVER
it moves the samples and the correction in hand. -/
def State.resolveAsym (s : State) (a : Rat) : State :=
  let v := s.pod.servo
  let m := medianRat v.raws
  let old := v.asym + v.unresolved.getD 0
  let s := s.modServo fun v =>
    { v with asym := a, unresolved := none, windowEnded := none, retrying := false, samples := [] }
  let s := s.logged Code.asymResolved (psOctets (psOf a))
  if v.retrying then
    let θr := old - a
    if v.state = 2 then
      if absRat θr * 1000 ≤ (s.pod.asymLimitPs : Rat) then (s.servoInput θr).acceptOffset θr
      else (s.setFreq (roundRat v.integral)).exitTest θr
    else if v.state = 3 then
      s.modServo fun v =>
        { v with exitSamples := v.exitSamples.map fun q => q + θr
                 slewLeft := if v.reasons.contains Why.slew then v.slewLeft + θr else v.slewLeft }
    else s
  else s.clearReason Why.pathChange (some (m - a))

/-- The asymmetry is unresolved (R190). -/
def State.unresolveAsym (s : State) : State :=
  let v := s.pod.servo
  let x := medianRat v.raws - v.asym - v.beforePath
  let left := v.reasons.filter fun r => r ≠ Why.pathChange
  let s := s.modServo fun v =>
    { v with unresolved := some x, windowEnded := none, samples := [], retryAt := s.frame.number
             reasons := if v.state = 3 then left else v.reasons
             state := if v.state = 3 && left.isEmpty then 2 else v.state
             outliers := 0 }
  s.logged Code.asymUnresolved (psOctets (psOf x))

/-- Decide while a decision is open and 8 samples are in hand (R189–R191). -/
def State.asymDecide (s : State) : State :=
  let v := s.pod.servo
  match s.pod.upstream with
  | none => s
  | some p =>
    if !(v.windowEnded.isSome || v.retrying) || decide (v.samples.length < 8) then s
    else
      let x := s.timePort p
      if x.peerLoop = 0xFFFFFFFF then
        match v.windowEnded with
        | some f => if f + 16 ≤ s.frame.number then s.unresolveAsym else s
        | none => s
      else
        match x.ownLoop with
        | none => s
        | some own =>
          let rt := medianRat ((v.samples.take 8).map Prod.snd)
          let sum := mkRat ((own + x.peerLoop : Nat) : Int) 1000
          if absRat (sum - rt) ≤ 1 / 10 then s.resolveAsym (mkRat ((x.peerLoop : Int) - own) 2000)
          else if v.retrying then s.modServo fun v => { v with retrying := false, samples := [] }
          else s.unresolveAsym

/-- The first sample of a grandmaster puts its bound in force (R185). -/
def State.takeBound (s : State) : State :=
  match (s.pod.upstream.map s.timePort).bind TimePort.offer with
  | some o => { s with pod := { s.pod with upBound := o.errorBound, boundOf := s.pod.gmId } }
  | none => s

/-- A sample from the upstream (R173, R187–R190): those of the discard window count as none. -/
def State.linkSample (s : State) (raw rt : Rat) : State :=
  let v := s.pod.servo
  if v.windowFrom.isSome then s
  else
    let s := s.takeBound
    let s := if (v.windowEnded.isSome || v.retrying) && decide (v.samples.length < 8) then
        s.modServo fun v => { v with samples := v.samples ++ [(raw, rt)] }
      else s
    let θ := raw - v.asym - v.unresolved.getD 0
    (s.servoStep θ).asymDecide

/-! ## The frame's part (R169, R153, R155, R182) -/

/-- One SLEW step at a frame boundary (R182, R179). -/
def State.slewStep (s : State) : State :=
  let v := s.pod.servo
  if v.state = 3 && v.reasons.contains Why.slew then
    let d : Rat := if absRat v.slewLeft ≤ 1 / 2 then v.slewLeft
                   else if v.slewLeft < 0 then -1 / 2 else 1 / 2
    let s : State := { s with tb := { s.tb with active := s.tb.active.addSlew s.elapsed (fracOf (-d)) } }
    let s := s.modServo fun v => { v with slewLeft := v.slewLeft - d }
    let left := s.pod.servo.slewLeft
    if absRat left * 1000 ≤ (s.pod.asymLimitPs : Rat) then
      if v.reasons = [Why.slew] && !v.resuming then s.lockWith left
      else s.modServo fun v => { v with reasons := v.reasons.filter fun r => r ≠ Why.slew }
    else s
  else s

/-- What a frame boundary does to the tree: GM_COUNT, the counts of R153 and R155, the SYNC index. -/
def State.podTick (s : State) : State :=
  let s := if s.pod.role = 1 then
      { s with pod := { s.pod with gmCount := (s.pod.gmCount + 1) % 65536, tickRef := s.ownTickRef } }
    else s
  let up := match s.pod.upstream with
    | some u => (s.offerOf u).map fun o => (u, o.rank u)
    | none => none
  let s := (List.range 48).foldl (fun s p =>
    let above := match s.offerOf p, up with
      | some o, some (u, k) => p ≠ u && rankAbove (o.rank p) k
      | some _, none => s.pod.upstream ≠ some p
      | none, _ => false
    if above || (s.timePort p).betterFrames ≠ 0 then
      s.modTimePort p fun x => { x with betterFrames := if above then x.betterFrames + 1 else 0 }
    else s) s
  let cand := if s.pod.role = 2 then
      if s.betterThanSelf then none
      else match s.pod.candidateSince with
        | some f => some f
        | none => if (List.range 48).any s.timeLink then some s.frame.number else none
    else none
  { s with pod := { s.pod with candidateSince := cand, syncIndex := [] } }

end Sys2Proof.Machine
end

