-- ==== Sys2Proof/Machine/Octets.lean ====
section
/-!
DEFINITION. The octets of the structured objects and of image contents: image headers, section
tables and records (R352–R355), test-bar events and probe results (R488, R493), sensor and rail
records, the backup record's last words, peek data (R300), suspects.
-/
namespace Sys2Proof.Machine

/-! ## Images (R352–R355) -/

/-- SEAL (R348). -/
def Image.seal_ (g : Image) : Nat := (g.sealT0 + g.sealT1 + g.sealT2) % 2 ^ 64

/-- Start of a tier's section in its quarter or half (R323, R353). -/
def sectionOffset (tier : Nat) : Nat := if tier = 1 then 1183744 else 4096

/-- One entry of the section table (R353). -/
def Section.octets (x : Section) : List Byte :=
  le 1 x.tier ++ le 1 x.die ++ le 1 x.state ++ le 1 0 ++ le 4 x.count ++ le 8 (sectionOffset x.tier) ++
    le 8 x.storedBytes ++ le 8 x.part

/-- Header and section table (R352, R353). -/
def State.imageOctets (s : State) (g : Image) : List Byte :=
  let n := g.sections.length
  let flags := bit g.ref + 2 * bit g.live + 4 * bit g.dumpSecure + 8 * bit g.untimed
  let h := le 4 0x48535244 ++ le 2 1 ++ le 2 (128 + 32 * n) ++ le 4 g.id ++ le 4 g.base ++ le 4 g.cutId ++
    le 1 g.tiers ++ le 1 g.tiersDone ++ le 1 g.result.toNat ++ le 1 flags ++ le 8 g.cutPns ++
    le 8 g.startPns ++ le 8 g.endPns ++ le 8 s.fuses.serial ++ le 8 g.seal_ ++ le 8 g.sealT0 ++
    le 8 g.sealT1 ++ le 8 g.sealT2 ++ le 1 g.cutFlags ++ le 1 g.trigger ++ le 2 n ++
    le 2 Config.idIssue ++ le 2 g.activeUid ++ le 4 g.unreachable ++ le 4 g.excluded ++ le 4 g.lost ++
    le 16 g.scope.toNat
  let t := g.sections.flatMap Section.octets
  h ++ le 4 (crc32c (h ++ t)) ++ t

/-- A record: header and stored payload, without padding (R354). -/
def Rec.octets (r : Rec) : List Byte :=
  let h := le 2 0x5244 ++ le 2 r.uid ++ le 1 r.type ++ le 1 r.tier ++ le 1 r.coding ++ le 1 r.state ++
    le 4 r.sub ++ le 4 r.payloadLen ++ le 4 r.stored.length ++ le 2 r.reason ++ le 2 r.flags ++
    le 4 r.readPnsLo
  h ++ le 4 (crc32c (h ++ r.stored)) ++ r.stored

/-- Octets that a record takes in its section, padding included (R354). -/
def Rec.space (r : Rec) : Nat := roundUp (32 + r.stored.length) 8

/-- The sum of the 64-bit words of a payload, least significant byte first (R348). -/
def wordSum : Nat → List Byte → Nat
  | 0, _ => 0
  | n + 1, l => if l.isEmpty then 0 else (ofLe (l.take 8) + wordSum n (l.drop 8)) % 2 ^ 64

/-- The seal part of a decoded payload. -/
def partOf (l : List Byte) : Nat := wordSum (l.length / 8 + 1) l

/-! ## Test bar (R476, R488, R493) -/

/-- An event record (R488). -/
def BarEvent.octets (e : BarEvent) : List Byte :=
  let h := be 1 1 ++ be 1 e.kind ++ be 1 e.format ++ be 1 e.flags ++ be 4 e.seq ++ be 2 e.uid ++
    be 1 e.engine ++ be 1 0 ++ be 2 e.logical ++ be 2 e.k ++ be 2 e.ctx ++ be 1 e.epoch ++ be 1 0 ++
    be 4 e.stepMark ++ be 8 e.issuePns ++ be 8 e.detectPns ++ be 8 e.instrAddr ++ be 2 e.mismatches ++
    be 1 e.firstBad ++ be 1 0 ++ be 2 e.barFirst ++ be 2 e.barSecond ++ be 4 e.operandLen ++ zeros 64
  h ++ be 4 (crc32c (h ++ e.body)) ++ e.body

/-- TB_PROBE_RESULT (R493). -/
def ProbeRun.octets (r : ProbeRun) : List Byte :=
  be 4 r.kernel ++ be 4 r.seq ++ be 2 r.uid ++ be 1 r.engine ++ be 1 r.status ++ be 1 r.opsRun ++
    be 1 r.firstBad ++ be 2 0 ++ be 8 r.endPns ++
    r.ops.flatMap fun o => be 4 o.1 ++ be 1 o.2 ++ zeros 3

/-! ## Sensors and rails (chapter 12) -/

/-- A die record of PW_SENSORS. -/
def DieSensors.octets (d : DieSensors) : List Byte :=
  ((List.range 8).flatMap fun k => be 2 (ofSigned 16 (d.diode.getD k 0))) ++
    ((List.range 4).flatMap fun k => be 2 (d.droopMin.getD k 0)) ++ be 1 d.diodeFail.toNat ++
    be 1 (bit d.stale + 2 * bit d.droopTrip) ++ be 1 d.scale ++ be 1 0

/-- STATUS of a rail: STALE when its last complete sweep is older than 100 ms (R549). -/
def Rail.shownStatus (r : Rail) (now : Nat) : Nat :=
  if r.role ≠ 0 ∧ r.status ≠ 2 ∧ r.status ≠ 4 ∧ r.sweptAt + 100000000 * Config.stepsPerNs < now then 1
  else r.status

/-- A rail record of PW_RAILS. -/
def Rail.octets (r : Rail) (now : Nat) : List Byte :=
  be 1 r.address ++ be 1 r.page ++ be 1 r.role ++ be 1 (r.shownStatus now) ++ be 2 r.voutMv ++ be 2 r.ioutDa ++
    be 2 (if r.role = 1 then r.pinW else 0) ++ be 2 (ofSigned 16 r.temp)

/-- PW_MEASURED_W (R551). -/
def State.measuredW (s : State) : Nat :=
  ((s.power.rails.filter fun r =>
    r.2.role = 1 && (let v := r.2.shownStatus s.elapsed; v = 0 || v = 3)).map fun r => r.2.pinW).sum

/-! ## Other structured values -/

/-- PEEK_DATA (R300). -/
def PeekData.octets (p : PeekData) : List Byte :=
  be 2 p.uid ++ be 1 p.window ++ be 1 p.status ++ be 1 p.flags ++ be 1 p.seq ++ be 2 p.data.length ++
    be 8 p.readPns ++ p.data

/-- LAST_WORDS as it is read: its detail only under READ_PRIV (R682). -/
def State.lastWordsShown (s : State) : List Byte :=
  let w := fit 64 s.backup.lastWords
  if s.readPriv then w else w.take 16 ++ zeros 44 ++ slice w 60 4

/-- A suspect (0x3130). -/
def Suspect.word (x : Suspect) : Nat := x.ctx + x.epoch * 4096 + x.verdict * 2 ^ 20

end Sys2Proof.Machine
end

