-- ==== Sys2Proof/Machine/Values.lean ====
section
/-!
DEFINITION. The value in force of every object that can be read, in Proros order (R629, R688,
R697–R706).
-/
namespace Sys2Proof.Machine

/-- A Boolean octet. -/
def beB (b : Bool) : List Byte := be 1 (bit b)

/-- A signed value. -/
def beI (n : Nat) (v : Int) : List Byte := be n (ofSigned (8 * n) v)

/-- ASCII octets of ID_PART. -/
def idPart : List Byte := "DRUIR-N16".toList.map fun c => BitVec.ofNat 8 c.toNat

/-- TICK_IN_STATE as it reads (R133, R139). -/
def State.tickInRead (s : State) : Nat :=
  if s.pod.role ≠ 1 && !s.rst.tickSourceBit then 0 else s.tb.tickIn.state

/-- UNIT_HEALTH as it reads (R23): the standby core's entry shows whether it is shadow-ready (R70), and a fenced port
or runner reads 3. -/
def State.unitHealth (s : State) (k : Nat) : Nat :=
  let uid := 0x8000 + k
  let h := s.health uid
  if 1 < h then h
  else if uid = coreUid s.standbyCore then bit (!s.shadowReady)
  else if uidIsPort uid && perimeter (uidDie uid) && (s.optPort (uidPortIndex uid)).fenced then 3
  else if uidIsRunner uid && (s.runner (uidDie uid)).fenced then 3
  else h

/-- Objects 0x1000–0x1031. -/
def State.identityValue (s : State) (idx sub : Nat) : Option (List Byte) :=
  match idx, sub with
  | 0x1000, _ => some (be 4 Config.idVendor)
  | 0x1001, _ => some idPart
  | 0x1002, _ => some (be 2 Config.idIssue)
  | 0x1003, _ => some (be 8 s.fuses.serial)
  | 0x1008, _ => some (be 1 s.pod.role)
  | 0x1009, _ => some (beB s.hub.riserActive)
  | 0x1010, _ => some (be 1 (if s.addressed then s.backup.nodeId else 0))
  | 0x1011, 0 => some (be 1 s.port.claimState)
  | 0x1011, 1 => some (be 1 s.port.sessions.length)
  | 0x1011, 2 => some (be 4 s.port.tagFails)
  | 0x1011, 3 => some (be 4 s.port.replayDrops)
  | 0x1011, 4 => some (be 4 s.port.notifyDrops)
  | 0x1011, 5 => some (beB s.port.plcaActive)
  | 0x1018, _ => some (be 1 s.rst.strapCode)
  | 0x1019, _ => some (be 2 s.rst.strapMv)
  | 0x101A, _ => some (beB s.rst.strapAmbiguous)
  | 0x1020, _ => some (be 4 s.backup.resetCount)
  | 0x1021, _ => some (be 1 s.backup.cause)
  | 0x1022, _ => some s.lastWordsShown
  | 0x1030, _ => some (be 1 (s.hub.core s.activeCore).fwSlot)
  | 0x1031, _ => some (be 4 (s.hub.core s.activeCore).fwVersion)
  | _, _ => none

/-- Objects 0x2010 (the servo record). -/
def State.servoValue (s : State) (sub : Nat) : Option (List Byte) :=
  let v := s.pod.servo
  match sub with
  | 0x00 => some (be 1 0x13)
  | 0x01 => some (be 4 v.kp)
  | 0x02 => some (be 4 v.ki)
  | 0x03 => some (be 1 v.state)
  | 0x04 => some (beI 4 v.offsetPs)
  | 0x05 => some (beI 4 v.freqPpb)
  | 0x06 => some (be 4 s.errorBound)
  | 0x07 => some (be 1 s.tb.tickInMode)
  | 0x08 => some (beI 4 s.tb.tickInDelayPs)
  | 0x09 => some (be 1 s.tickInRead)
  | 0x0B => some (be 1 s.pod.gmPriority)
  | 0x0C => some (be 1 s.syncPerFrame)
  | 0x0D => some (beI 4 s.pod.taiResidual)
  | 0x0E => some (be 1 s.pod.hops)
  | 0x0F => some (be 8 s.pod.gmId)
  | 0x10 => some (be 2 ((s.pod.upstream.map portUid).getD 0))
  | 0x11 => some (beI 4 (psOf v.asym))
  | 0x12 => some (be 1 (v.reasons.headD 0))
  | 0x13 => some (be 6 s.pod.portMask.toNat)
  | _ => none

/-- Objects 0x2000–0x2050. -/
def State.timeValue (s : State) (latch : Option Nat) (idx sub : Nat) : Option (List Byte) :=
  match idx, sub with
  | 0x2000, _ => some (be 8 s.pns)
  | 0x2001, _ => some (be 2 (latch.getD (s.pns16 % 65536)))
  | 0x2002, _ => some (be 8 s.tb.taiSeconds)
  | 0x2010, k => s.servoValue k
  | 0x2012, _ => some (be 2 s.pod.pathId)
  | 0x2013, _ => some (be 4 s.pod.asymLimitPs)
  | 0x2020, _ => some (be 2 s.pod.syncRate)
  | 0x2030, 0 => some (be 1 s.pod.txts.length)
  | 0x2030, k => some (match s.pod.txts[k - 1]? with
    | some (id, t) => be 2 id ++ be 8 t
    | none => be 10 s.freeNow)
  | 0x2031, _ => some (be 4 s.pod.txtsOverflow)
  | 0x2040, 0 => some (be 4 s.frame.lenNs)
  | 0x2040, 1 => some (be 4 s.frame.lenNext)
  | 0x2040, _ => some (be 8 (s.frameLenAt.getD 0))
  | 0x2041, 0 => some (be 8 s.frame.number)
  | 0x2041, 1 => some (be 2 s.frame.groups.length)
  | 0x2041, _ => some (be 4 s.frame.carryCount)
  | 0x2042, _ => some (be 1 s.tb.tickOutMode)
  | 0x2050, 0 => some (be 1 s.schedCount)
  | 0x2050, k => some (if k ≤ 32 then (s.entry (k - 1)).octets else be 8 (s.entry (k - 33)).param)
  | _, _ => none

/-- Objects 0x3000–0x3131. -/
def State.recoveryValue (s : State) (idx sub : Nat) : Option (List Byte) :=
  let h := s.hang
  match idx, sub with
  | 0x3000, 0 => some (be 1 0x0D)
  | 0x3000, 0x0B => some (be 1 s.rst.phase)
  | 0x3000, 0x0C => some (be 4 s.rst.clockLostCount)
  | 0x3000, 0x0D => some (be 1 s.rst.holdReason)
  | 0x3000, k => some (be 2 (s.rst.gaps.getD (k - 1) 4096))
  | 0x3011, 0 => some (be 1 h.reset.state)
  | 0x3011, 1 => some (be 2 h.reset.uid)
  | 0x3011, 2 => some (be 1 h.reset.mode)
  | 0x3011, 3 => some (be 4 h.reset.errCompletions)
  | 0x3011, _ => some (be 8 h.reset.donePns)
  | 0x3020, 0 => some (be 1 s.rst.stormLimit)
  | 0x3020, 2 => some (be 4 s.rst.resetIgnored)
  | 0x3020, 3 => some (be 1 s.rst.stormRecent)
  | 0x3100, _ => some (be 1 h.hbLimit)
  | 0x3101, 0 => some (be 1 h.progLimit)
  | 0x3101, _ => some (be 2 h.replayLimit)
  | 0x3102, _ => some (be 4 h.drainNs)
  | 0x3111, _ => some ((List.range 4096).flatMap fun k => be 2 (Tab.at h.contexts k 0))
  | 0x3120, 1 => some (be 1 h.ceiling)
  | 0x3121, 0 => some (be 1 h.proc.state)
  | 0x3121, 1 => some (be 1 h.proc.level)
  | 0x3121, 2 => some (be 1 h.proc.trigger)
  | 0x3121, 3 => some (be 2 h.proc.targetUid)
  | 0x3121, 4 => some (be 8 h.proc.startPns)
  | 0x3121, 5 => some (be 8 h.proc.endPns)
  | 0x3121, 6 => some (be 1 h.proc.result)
  | 0x3121, 7 => some (be 4 h.proc.imageId)
  | 0x3121, 8 => some (be 1 h.proc.queue.length)
  | 0x3121, _ => some (be 1 h.proc.l3Phase)
  | 0x3130, 0 => some (be 1 h.proc.suspects.length)
  | 0x3130, k => some (be 4 ((h.proc.suspects[k - 1]?.map Suspect.word).getD 0))
  | 0x3131, 0 => some (be 1 h.proc.culpritKind)
  | 0x3131, 1 => some (be 2 h.proc.culpritCtx)
  | 0x3131, 2 => some (be 2 h.proc.culpritUid ++ be 1 h.proc.culpritEngine)
  | 0x3131, _ => some (be 8 h.proc.culpritPns)
  | _, _ => none

/-- Objects 0x4100–0x4121. -/
def State.quenchValue (s : State) (idx sub : Nat) : Option (List Byte) :=
  let q := s.qu
  match idx, sub with
  | 0x4100, _ => some (be 20 q.set.toNat)
  | 0x4101, _ => some (be 8 q.time)
  | 0x4103, 0x00 => some (be 1 q.state)
  | 0x4103, 0x01 => some (be 4 q.cutId)
  | 0x4103, 0x02 => some (be 8 q.cutPns)
  | 0x4103, 0x03 => some (be 1 q.cutFlags.toNat)
  | 0x4103, 0x04 => some (be 1 q.postponeCount)
  | 0x4103, 0x05 => some (be 1 q.armExpected)
  | 0x4103, 0x06 => some (be 1 q.armCount)
  | 0x4103, 0x07 => some (be 16 s.stoppedSet.toNat)
  | 0x4103, 0x08 => some (be 4 q.podInCut)
  | 0x4103, 0x09 => some (be 4 q.podOut)
  | 0x4103, 0x0A => some (be 4 q.podClustersOut)
  | 0x4103, _ => some (be 2 q.orderSeq)
  | 0x4104, _ => some (be 1 q.mode)
  | 0x4105, 0 => some (be 16 q.notInCut.toNat)
  | 0x4105, _ => some (be 4 q.notInCutOther.toNat)
  | 0x4110, 0 => some (be 2 q.stepCycles)
  | 0x4110, 1 => some (beB q.stepNet)
  | 0x4110, _ => some (be 2 q.stepExcluded)
  | 0x4111, _ => some (be 8 q.resumeTime)
  | 0x4120, 0 => some (be 1 4)
  | 0x4120, 1 => some (be 2 q.peekUid)
  | 0x4120, 2 => some (be 1 q.peekWindow)
  | 0x4120, 3 => some (be 4 q.peekOffset)
  | 0x4120, _ => some (be 2 q.peekLength)
  | 0x4121, _ => some ((q.peek.map PeekData.octets).getD [])
  | _, _ => none

/-- The Ladle's image that SO_SELECT names. -/
def State.selectedImage (s : State) : Option Image :=
  if s.dump.select = 0 then none
  else (s.dump.slots.filterMap id).find? fun g => g.id = s.dump.select

/-- Objects 0x4200–0x4211. -/
def State.shakeoutValue (s : State) (idx sub : Nat) : Option (List Byte) :=
  let d := s.dump
  match idx, sub with
  | 0x4200, 0 => some (be 1 d.tiers)
  | 0x4200, _ => some (be 16 d.scope.toNat)
  | 0x4202, 0 => some (be 1 d.status)
  | 0x4202, 1 => some (be 1 d.result)
  | 0x4202, 2 => some (be 8 d.bytesRead)
  | 0x4202, 3 => some (be 8 d.bytesStored)
  | 0x4202, 4 => some (be 4 d.unreachableCount)
  | 0x4202, 5 => some (be 4 d.excludedLines)
  | 0x4202, _ => some (be 4 d.refImage)
  | 0x4203, 0 => some (be 4 d.imageId)
  | 0x4203, 1 => some (be 4 d.select)
  | 0x4203, 2 => some ((s.selectedImage.map s.imageOctets).getD [])
  | 0x4203, 3 => some d.recordKey
  | 0x4203, 5 => some (d.slots.flatMap fun g => be 4 ((g.map Image.id).getD 0))
  | 0x4204, 0 => some (be 8 d.reserveBase)
  | 0x4204, _ => some (be 8 d.reserveBaseT2)
  | 0x4205, 0 => some (be 8 d.reserveSize)
  | 0x4205, 1 => some (be 8 d.reserveSizeT2)
  | 0x4205, _ => some (beB d.tier2Reserve)
  | 0x4206, _ => some (be 8 d.sealSum)
  | 0x4210, _ => some (be 2192 d.unreachable.toNat)
  | _, _ => none

/-- Objects 0x5000–0x5030. -/
def State.traceValue (s : State) (idx sub : Nat) : Option (List Byte) :=
  let t := s.trace
  match idx, sub with
  | 0x5000, 0 => some (be 2048 t.enable.toNat)
  | 0x5000, 1 => some (be 8 t.appliedFrame)
  | 0x5000, _ => some (beB t.switchPending)
  | 0x5001, _ => some (be 1 t.mode)
  | 0x5002, _ => some (be 2048 t.stall.toNat)
  | 0x5003, _ => some (be 2 t.interval)
  | 0x5010, 0 => some (be 1 0x20)
  | 0x5010, k => some (if k ≤ 0x10 then Tab.at t.rangeSets (k - 1) rangeSetDefault
      else Tab.at t.rangeMaps (k - 0x11) (zeros 512))
  | 0x5020, 0 => some (be 8 t.base)
  | 0x5020, 1 => some ((List.range 16).flatMap fun d => be 8 (s.sink d).reportedOffset)
  | 0x5020, _ => some ((List.range 16).flatMap fun d => be 4 (s.sink d).wraps)
  | 0x5021, _ => some (be 8 t.size)
  | 0x5022, 0 => some (be 1 t.policy)
  | 0x5022, _ => some (be 2 (((List.range 16).map fun d => 2 ^ d * bit (s.sink d).full).sum))
  | 0x5030, 0 => some (be 8 t.lostPackets)
  | 0x5030, 1 => some (be 2048 t.ovfCores.toNat)
  | 0x5030, 2 => some (be 8 t.sinkDiscards)
  | 0x5030, _ => some (be 4 t.stallTimeouts)
  | _, _ => none

/-- Bits set in TB_QUARANTINE. -/
def State.quarantineCount (s : State) : Nat :=
  ((List.range 69632).filter fun k => s.bar.quarantine.getLsbD k).length

/-- Objects 0x6000–0x6022. -/
def State.barValue (s : State) (idx sub : Nat) : Option (List Byte) :=
  let b := s.bar
  match idx, sub with
  | 0x6000, 0 => some (be 2 b.rate)
  | 0x6000, 1 => some (be 1 b.standby)
  | 0x6000, 2 => some (be 4 b.waitNs)
  | 0x6000, 3 => some (be 4 b.round)
  | 0x6000, 4 => some (be 2 b.position)
  | 0x6000, 5 => some (be 4 b.coverageMs)
  | 0x6000, 6 => some (be 4 b.unsampled)
  | 0x6000, 7 => some (be 1 (b.stateA + 16 * b.stateR))
  | 0x6000, _ => some (be 8 b.compared)
  | 0x6001, _ => some (be 8 b.seed)
  | 0x6002, _ => some (be 2 b.formats)
  | 0x6010, 0 => some (be 1 b.events.length)
  | 0x6010, 1 => some (be 4 b.eventSelect)
  | 0x6010, 2 => some (((b.events.find? fun e => e.seq = b.eventSelect).map BarEvent.octets).getD [])
  | 0x6010, 4 => some (be 4 b.eventLast)
  | 0x6011, 0 => some (be 8704 b.quarantine.toNat)
  | 0x6011, 2 => some (be 2 s.quarantineCount)
  | 0x6011, 3 => some (beB b.storm)
  | 0x6020, 1 => some ((List.range 4).flatMap fun k => be 4 ((b.kernels[k]?.map Kernel.id).getD 0))
  | 0x6022, _ => some ((b.run.map ProbeRun.octets).getD [])
  | _, _ => none

/-- PW_RAIL_MAP. -/
def State.railMap (s : State) : List Byte :=
  (List.range 16).flatMap fun k =>
    let r := Tab.at s.power.rails k Rail.fresh
    be 1 r.address ++ be 1 r.page ++ be 1 r.role

/-- Objects 0x7000–0x8020. -/
def State.powerValue (s : State) (idx sub : Nat) : Option (List Byte) :=
  let p := s.power
  match idx, sub with
  | 0x7000, 0 => some (be 2 p.budget)
  | 0x7000, 1 => some (be 2 p.full)
  | 0x7000, 2 => some (be 1 p.hubCap)
  | 0x7000, 3 => some (beI 2 p.thin)
  | 0x7000, 4 => some (beI 2 p.hot)
  | 0x7000, 5 => some (beI 2 p.crit)
  | 0x7000, 6 => some (be 1 p.floor)
  | 0x7000, _ => some (be 2 p.droopMv)
  | 0x7001, 0 => some ((List.range 128).flatMap fun c => be 1 (Tab.at p.credits c 64))
  | 0x7001, 1 => some (be 8 p.permitFrame)
  | 0x7001, 2 => some (be 2 p.k)
  | 0x7001, _ => some (be 2 s.measuredW)
  | 0x7010, 0x00 => some (be 1 0x13)
  | 0x7010, 0x11 => some ((List.range 16).flatMap fun k =>
      (Tab.at p.rails k Rail.fresh).octets s.elapsed)
  | 0x7010, 0x12 => some s.railMap
  | 0x7010, 0x13 => some (be 2 p.pmbKhz)
  | 0x7010, k => some (Tab.at p.dies (k - 1) DieSensors.fresh).octets
  | 0x7020, 0 => some (p.priority.flatMap (be 1))
  | 0x7020, 1 => some (be 1 p.admitted.toNat)
  | 0x7020, 2 => some (p.starved.flatMap (be 4))
  | 0x7020, _ => some (be 2 p.ageLimit)
  | 0x7030, 0 => some (be 1 p.emergency)
  | 0x7030, 1 => some (be 1 p.cause.toNat)
  | 0x7030, _ => some (be 2 p.holdDies.toNat)
  | 0x8000, _ => some (be 2 s.activeCores)
  | 0x8010, _ => some s.spareMapOctets
  | 0x8011, _ => some (be 80 s.routeAround.toNat)
  | 0x8020, _ => some ((List.range 32768).flatMap fun k => be 1 (s.unitHealth k))
  | _, _ => none

/-- Octets of LOG_READ from LOG_READ_FROM (R711): whole records, at most 65,536 octets. -/
def takeRecords (priv : Bool) : List LogRec → Nat → List Byte
  | [], _ => []
  | r :: l, room => if r.size ≤ room then r.stored priv ++ takeRecords priv l (room - r.size) else []

/-- LOG_READ (R711). -/
def State.logRead (s : State) : List Byte :=
  takeRecords s.readPriv (s.log.records.filter fun r => decide (s.log.readFrom ≤ r.seq)) 65536

/-- Objects 0x9000–0x9002. -/
def State.logValue (s : State) (idx sub : Nat) : Option (List Byte) :=
  match idx, sub with
  | 0x9000, 0 => some (be 4 s.log.head)
  | 0x9000, 1 => some (be 4 ((s.log.records.head?.map LogRec.seq).getD 0))
  | 0x9000, 2 => some (be 2 s.urgentOpen.length)
  | 0x9000, 3 => some (be 4 ((s.urgentOpen.head?.map LogRec.seq).getD 0))
  | 0x9000, _ => some (be 4 s.log.drops)
  | 0x9001, 0 => some s.logRead
  | 0x9001, _ => some (be 4 s.log.readFrom)
  | _, _ => none

/-- FW_UPDATE_STATE (R660): RECEIVING while a write transfer of FW_UPDATE is open. -/
def State.fwState (s : State) : Nat :=
  if s.port.blocks.any fun b => b.write && b.idx = 0xA030 && b.sub = 0 then 1 else s.fw.state

/-- Objects 0xA000–0xA031 as a session reads them (R683). -/
def State.securityValue (s : State) (x : Option Session) (idx sub : Nat) : Option (List Byte) :=
  let tok := x.bind Session.token
  match idx, sub with
  | 0xA000, 0 => some (be 1 s.lcState)
  | 0xA000, 1 => some (be 1 s.lc.fettle)
  | 0xA000, 2 => some (be 2 s.lc.fettleFail.toNat)
  | 0xA000, 3 => some s.ownerKey
  | 0xA000, 4 => some s.fuses.deviceKey
  | 0xA000, 5 => some (be 2 s.lc.storeA.transitions)
  | 0xA012, 0 => some (be 2 ((tok.map Token.scope).getD 0))
  | 0xA012, 1 => some (be 8 ((tok.map Token.expiry).getD 0))
  | 0xA012, 2 => some (be 2 s.hubScopes)
  | 0xA020, 0 => some (be 1 5)
  | 0xA020, k => some (s.lc.mgrKeys.getD (k - 1) [])
  | 0xA030, 1 => some (be 1 s.fwState)
  | 0xA030, 3 => some (be 1 s.fw.bootSlot)
  | 0xA030, 4 => some (be 4 s.fw.stagedVersion)
  | 0xA030, 5 => some (be 1 s.fw.reason)
  | 0xA031, 0 => some (be 1 (bitsSet 64 s.fuses.rollback).length)
  | 0xA031, 1 => some (beB s.fuses.key0Revoked)
  | _, _ => none

/-- Objects 0xB000–0xB030. -/
def State.faultValue (s : State) (idx sub : Nat) : Option (List Byte) :=
  let a := s.adm
  let f := s.fm
  match idx, sub with
  | 0xB000, 1 => some (be 8 a.partner)
  | 0xB000, 2 => some (be 6 a.ports.toNat)
  | 0xB000, 3 => some a.layout
  | 0xB000, 4 => some a.source
  | 0xB000, 5 => some (be 4 a.atStep)
  | 0xB001, 0 => some (be 1 a.state)
  | 0xB001, 1 => some (be 8 a.bytes)
  | 0xB001, 2 => some (be 4 a.records)
  | 0xB001, 3 => some (be 4 a.crcErrors)
  | 0xB001, 4 => some (be 8 a.sealWanted)
  | 0xB001, _ => some (be 8 a.sealGot)
  | 0xB002, 0 => some (be 1 a.reason)
  | 0xB002, 1 => some (be 2 a.shortTotal)
  | 0xB002, 2 => some (be 2 a.shortDies.toNat)
  | 0xB002, 3 => some (be 2 a.shortDieCores)
  | 0xB002, _ => some (be 8 a.shortReserve)
  | 0xB011, 0 => some (be 1 f.fenceState)
  | 0xB011, 1 => some (be 4 f.fenceSeq)
  | 0xB011, _ => some (be 8 f.fencePns)
  | 0xB020, 0 => some (be 1 s.hubView)
  | 0xB020, 1 => some (be 1 f.jobView)
  | 0xB020, 2 => some (be 2 f.disagree)
  | 0xB020, _ => some (be 2 f.disagreeLimit)
  | 0xB021, 0 => some (be 1 f.suspectState)
  | 0xB021, 2 => some (be 1 f.selftestResult)
  | 0xB021, 3 => some (be 8 f.suspectPns)
  | 0xB021, 4 => some (be 4 f.probeFails)
  | 0xB021, 5 => some (be 6 f.portsFailed.toNat)
  | 0xB021, 6 => some (be 4 f.marchErrors)
  | 0xB021, 7 => some (be 4 f.enginesUntested)
  | 0xB030, 0 => some (be 4 f.stepMark)
  | 0xB030, 1 => some (be 1 f.markPhase)
  | 0xB030, _ => some (be 8 f.markPns)
  | _, _ => none

/-- The value in force of an object as a requester reads it: its TB_FRAC latch and its session. -/
def State.objValue (s : State) (latch : Option Nat) (x : Option Session) (idx sub : Nat) : List Byte :=
  let block := idx / 4096
  (if block = 1 then s.identityValue idx sub
   else if block = 2 then s.timeValue latch idx sub
   else if block = 3 then s.recoveryValue idx sub
   else if block = 4 then
     (if idx < 0x4200 then s.quenchValue idx sub else s.shakeoutValue idx sub)
   else if block = 5 then s.traceValue idx sub
   else if block = 6 then s.barValue idx sub
   else if block = 7 ∨ block = 8 then s.powerValue idx sub
   else if block = 9 then s.logValue idx sub
   else if block = 10 then s.securityValue x idx sub
   else if block = 11 then s.faultValue idx sub
   else none).getD []

end Sys2Proof.Machine
end

