-- ==== Sys2Proof/Machine/BarOps.lean ====
section
/-!
DEFINITION. The test bars as shared operations: the rotation, orders, buffer slots, captures, the
decision on a mismatch, quarantine and events (R468–R490).
-/
namespace Sys2Proof.Machine

/-! ## Bars -/

/-- A bar's state: 0 OK, 1 SELF_CHECK, 2 FAULT, 3 IN_RESET. -/
def State.barState (s : State) (bar : Nat) : Nat := if bar = 0 then s.bar.stateA else s.bar.stateR

/-- Set a bar's state (0x6000.07). -/
def State.setBar (s : State) (bar v : Nat) : State :=
  if bar = 0 then { s with bar := { s.bar with stateA := v } }
  else { s with bar := { s.bar with stateR := v } }

/-- The bar that samples: the active core's, or the standby's while that is in FAULT (R483). -/
def State.sampler (s : State) : Option Nat :=
  if s.barState s.activeCore = 0 then some s.activeCore
  else if s.barState s.activeCore = 2 ∧ s.barState s.standbyCore = 0 then some s.standbyCore
  else none

/-- Both bars share the samples (R496). -/
def State.barsShare (s : State) : Bool :=
  s.bar.standby = 2 && s.barState s.activeCore = 0 && s.barState s.standbyCore = 0 && s.shadowReady

/-- A buffer slot is taken: by an order, or by a tile that waits for its second computation. -/
def State.slotTaken (s : State) (bar slot : Nat) : Bool :=
  (s.bar.orders.any fun o => o.bar = bar && o.slot = slot) ||
    s.bar.rechecks.any fun r => r.order.bar = bar && r.order.slot = slot

/-- Free operand-buffer slots of a bar (R462). -/
def State.slotsFree (s : State) (bar : Nat) : List Nat :=
  (List.range 32).filter fun k => !s.slotTaken bar k

/-- The bar and slot of the next order, if one is free. -/
def State.nextSlot (s : State) : Option (Nat × Nat) :=
  match s.sampler with
  | none => none
  | some b =>
    let b := if s.barsShare then s.bar.nextBar % 2 else b
    let other := 1 - b
    match s.slotsFree b with
    | k :: _ => some (b, k)
    | [] => if s.barsShare then (s.slotsFree other).head?.map fun k => (other, k) else none

/-- A bar is emptied: its orders count as ERROR, its computations are discarded (R495). -/
def State.emptyBar (s : State) (bar : Nat) : State :=
  { s with bar := { s.bar with
      orders := s.bar.orders.filter fun o => o.bar ≠ bar
      rechecks := s.bar.rechecks.filter fun r => r.order.bar ≠ bar ∧ r.secondBar ≠ bar } }

/-! ## Rotation (R468–R470) -/

/-- The seed of the rounds: TB_SEED, or the serial's low 48 bits (R468). -/
def State.seedValue (s : State) : Nat := if s.bar.seedNow = 0 then s.fuses.serial % 2 ^ 48 else s.bar.seedNow

/-- The rotation index that a position visits (R468). -/
def rotationIndex (seed round i : Nat) : Nat :=
  let m := seed % 65536 ||| 1
  (m * i + seed / 65536 % 65536 + round % 65536 * (seed / 2 ^ 32 % 65536)) % 65536

/-- A quarantined engine. -/
def State.quarantined (s : State) (engine : Nat) : Bool := s.bar.quarantine.getLsbD engine

/-- The engine of a rotation index: UID and e, when the position is not passed over (R469). -/
def State.rotationEngine (s : State) (n : Nat) : Option (Nat × Nat) :=
  match s.logicalUid (n / 4) with
  | none => none
  | some uid => if s.quarantined (engineNumber uid (n % 4)) then none else some (uid, n % 4)

/-- UID and e of an engine number (R485). -/
def engineOf (k : Nat) : Nat × Nat := (slotUid (k / 544) (k % 544 / 4), k % 4)

/-- Positions of a round that are not passed over (R470). -/
def State.rotationCount (s : State) : Nat :=
  s.activeCores * 4 -
    ((List.range 69632).filter fun k => s.quarantined k && (s.uidLogical (engineOf k).1).isSome).length

/-- An engine's visit. -/
def State.visit (s : State) (k : Nat) : EngineVisit := Tab.at s.bar.visits k EngineVisit.fresh

/-- Change an engine's visit. -/
def State.modVisit (s : State) (k : Nat) (f : EngineVisit → EngineVisit) : State :=
  { s with bar := { s.bar with visits := Tab.mod s.bar.visits k EngineVisit.fresh f } }

/-- The round ends: TB_ROUND, TB_COVERAGE_MS, TB_UNSAMPLED; the seed of the next round (R468, R469, R480).
A visit whose answer is still to come counts until it has come. -/
def State.endRound (s : State) : State :=
  let b := s.bar
  let missed := b.visits.filter fun v => v.2.visited && !v.2.compared
  { s with bar := { b with
      round := (b.round + 1) % 2 ^ 32, position := 0, seedNow := b.seed, roundStart := s.pns
      coverageMs := Nat.min (ceilDiv (s.pns - b.roundStart) 1000000) (2 ^ 32 - 1)
      unsampled := missed.length
      visits := missed.map fun v => (v.1, ⟨false, false, true, v.2.answer⟩) } }

/-! ## Orders (R473, R475) -/

/-- The 28 octets of an order (R473). -/
def orderOctets (id kind engine uid formats deadline core slot len : Nat) : List Byte :=
  let b := le 2 id ++ le 1 kind ++ le 1 engine ++ le 2 uid ++ le 2 formats ++ le 8 deadline ++ le 2 core ++
    le 1 slot ++ le 1 0 ++ le 4 len
  b ++ le 4 (crc32c b)

/-- Depth of a built-in probe (R489). -/
def probeDepth (format : Nat) : Nat := if format = 6 ∨ format = 7 then 32 else 64

/-- The injection body of a built-in probe: A, B and scales (R475, R489). -/
def probeBody (format : Nat) : List Byte :=
  let k := probeDepth format
  let n := 16 * vectorBytes format k
  fit n (Config.builtInOperand format 0) ++ fit n (Config.builtInOperand format 1) ++
    (if formatMx format then fit k (Config.builtInOperand format 2) else [])

/-- Issue an order for an engine into a buffer slot: SNOOP, or INJECT of a built-in probe. -/
def State.issueOrder (s : State) (bar slot uid e : Nat) (probe : Option Nat) : State :=
  let b := s.bar
  let o : BarOrder :=
    { bar := bar, slot := slot, orderId := b.orderCounter, inject := probe.isSome, uid := uid, engine := e
      logical := (s.uidLogical uid).getD 0xFFFF, deadline := s.pns + b.waitNs, stepMark := s.fm.stepMark
      probe := probe, round := b.round }
  let tap := tapUid (uidCluster uid)
  let body := (probe.map probeBody).getD []
  let s := if body.isEmpty then s else s.emit .probeOp tap body
  let s := s.emit .captureOrder tap
    (orderOctets o.orderId (if o.inject then 0x21 else 0x20) e uid (if o.inject then 0 else b.formats) o.deadline
      (coreUid bar) slot body.length)
  let s : State := { s with bar := { s.bar with
    orderCounter := (b.orderCounter + 1) % 65536, nextBar := 1 - bar, orders := b.orders ++ [o] } }
  s.modVisit (engineNumber uid e) fun v => { v with visited := true }

/-- What goes first in a granted slot: probes and engines that were put ahead, while buffer slots are
free. -/
def State.issueFirst : Nat → State → State
  | 0, s => s
  | n + 1, s =>
    match s.bar.first, s.nextSlot with
    | (k, p) :: rest, some (bar, slot) =>
      let (uid, e) := engineOf k
      let s : State := { s with bar := { s.bar with first := rest } }
      State.issueFirst n (s.issueOrder bar slot uid e (if p < 9 then some p else none))
    | _, _ => s

/-- The sweep of probes may issue orders: no shakeout collects tier 1 or tier 2, and device recovery has come to its
phase G (R412, R472, R490). -/
def State.sweepAllowed (s : State) : Bool :=
  (s.hang.proc.l3Phase = 0 || s.hang.proc.l3Phase = 7) &&
    !(s.dump.running.any fun k => (bitOf k.tiers 1 && !k.sealed.contains 1) || (bitOf k.tiers 2 && !k.sealed.contains 2))

/-- The engine at a place of the sweep: those in quarantine are left out, but in phase G of device recovery (R490). -/
def State.sweepEngine (s : State) (n : Nat) : Option (Nat × Nat) :=
  if s.hang.proc.l3Phase = 7 then (s.logicalUid (n / 4)).map fun uid => (uid, n % 4) else s.rotationEngine n

/-- Probes of the engines that the sweep visits, while buffer slots are free (R472, R490). -/
def State.feedSweep : Nat → State → State
  | 0, s => s
  | n + 1, s =>
    match s.bar.sweep with
    | none => s
    | some k =>
      if 65536 ≤ k / 9 then { s with bar := { s.bar with sweep := none } }
      else if !s.sweepAllowed then s
      else
        match s.sweepEngine (k / 9) with
        | none => State.feedSweep n { s with bar := { s.bar with sweep := some ((k / 9 + 1) * 9) } }
        | some (uid, e) =>
          match s.nextSlot with
          | none => s
          | some (bar, slot) =>
            let s := s.issueOrder bar slot uid e (some (k % 9))
            State.feedSweep n { s with bar := { s.bar with sweep := some (k + 1) } }

/-- Orders for the next `n` positions of the rotation; positions passed over take none (R469, R471). -/
def State.issueNext : Nat → Nat → State → State
  | 0, _, s => s
  | _, 0, s => s
  | fuel + 1, n + 1, s =>
    if 65536 ≤ s.bar.position then State.issueNext fuel (n + 1) s.endRound
    else
      let at_ := rotationIndex s.seedValue s.bar.round s.bar.position
      let go (s : State) : State := { s with bar := { s.bar with position := s.bar.position + 1 } }
      match s.rotationEngine at_ with
      | none => State.issueNext fuel (n + 1) (go s)
      | some (uid, e) =>
        match s.nextSlot with
        | none => s
        | some (bar, slot) =>
          let s := s.issueOrder bar slot uid e none
          State.issueNext fuel n { s with bar := { s.bar with
            position := s.bar.position + 1, credit := s.bar.credit - 1 } }

/-! ## Answers (R478–R480) -/

/-- An engine has been compared. -/
def State.nowCompared (s : State) (o : BarOrder) : State :=
  let k := engineNumber o.uid o.engine
  let v := s.visit k
  let s := s.modVisit k fun v =>
    if o.round = s.bar.round then { v with compared := true } else { v with missedBefore := false }
  if o.round ≠ s.bar.round ∧ v.missedBefore then
    { s with bar := { s.bar with unsampled := s.bar.unsampled - 1 } }
  else s

/-- An order has ended without a comparison: an engine missed in two rounds that was IDLE, NOT_ELIGIBLE or
NO_SLOT receives the built-in probes (R480). -/
def State.notCompared (s : State) (o : BarOrder) (status : Nat) : State :=
  let k := engineNumber o.uid o.engine
  let v := s.visit k
  let s := s.modVisit k fun v => { v with answer := status }
  if o.round = s.bar.round ∧ v.missedBefore ∧ ¬ v.compared ∧ [1, 4, 5].contains status ∧
      ¬ (s.bar.first.any fun x => x.1 = k) ∧ ¬ o.inject then
    { s with bar := { s.bar with first := s.bar.first ++ (List.range 9).map fun p => (k, p) } }
  else s

/-- An order is over: its buffer slot is free. -/
def State.dropOrder (s : State) (bar slot : Nat) : State :=
  { s with bar := { s.bar with orders := s.bar.orders.filter fun o => !(o.bar = bar && o.slot = slot) } }

/-! ## Quarantine (R484–R486) -/

/-- Change a quarantine bit and persist it (R485). -/
def State.setQuarantine (s : State) (k : Nat) (b : Bool) : State :=
  State.persist { s with bar := { s.bar with quarantine := setBit s.bar.quarantine k b } }

/-- The quarantine of a confirmed engine, unless the storm withholds it (R484, R486): whether it is quarantined. One that
was so already is no further quarantine of the storm's count. -/
def State.quarantineEngine (s : State) (uid e : Nat) : State × Bool :=
  let f := s.frame.number
  let recent := s.bar.quarantinedAt.filter fun t => decide (f < t + 1024)
  let s : State := { s with bar := { s.bar with lastSdc := f, quarantinedAt := recent } }
  if s.quarantined (engineNumber uid e) then (s, true)
  else if s.bar.storm then (s, false)
  else if 8 ≤ recent.length then
    (State.urged { s with bar := { s.bar with storm := true } } Code.sdcStorm [], false)
  else
    let s := (s.setQuarantine (engineNumber uid e) true).coreFailed uid
    ({ s with bar := { s.bar with quarantinedAt := recent ++ [f] } }, true)

/-! ## Events (R487, R488) -/

/-- Detail of an event's record in the log (16, Worked example). -/
def BarEvent.detail (e : BarEvent) : List Byte := be 2 e.uid ++ be 1 e.engine ++ be 1 0 ++ be 4 e.seq

/-- Log code of an event. -/
def BarEvent.code (e : BarEvent) : Nat :=
  if e.kind ≤ 2 then Code.sdc else if e.kind = 3 then Code.testbarFault else Code.tbInconclusive

/-- An event takes its EVENT_SEQ, its place and its line in the log; the oldest gives way (R487). -/
def State.storeEvent (s : State) (e : BarEvent) : State :=
  let e := { e with seq := s.eventSeqs.next }
  let c := s.eventSeqs.issued 16 64
  let raised := c.ceiling ≠ s.eventSeqs.ceiling
  let s : State := { s with eventSeqs := c }
  let s := if raised then s.persist else s
  let s := match s.bar.events with
    | old :: rest =>
      if 16 ≤ s.bar.events.length then
        State.logged { s with bar := { s.bar with events := rest } } Code.tbEventDisplaced (be 4 old.seq)
      else s
    | [] => s
  let s : State := { s with bar := { s.bar with events := s.bar.events ++ [e], eventLast := e.seq } }
  s.note e.code e.detail (decide (e.kind ≤ 2)) false

/-- An event is recorded, or waits for its EVENT_SEQ (R745). -/
def State.addEvent (s : State) (e : BarEvent) : State :=
  if s.eventSeqs.ready && s.bar.eventsWaiting.isEmpty then s.storeEvent e
  else { s with bar := { s.bar with eventsWaiting := s.bar.eventsWaiting ++ [e] } }

/-- Events that waited take their EVENT_SEQ while the ceiling permits (R745). -/
def State.drainEvents (s : State) : Nat → State
  | 0 => s
  | n + 1 =>
    match s.bar.eventsWaiting with
    | [] => s
    | e :: rest =>
      if s.eventSeqs.ready then
        State.drainEvents (State.storeEvent { s with bar := { s.bar with eventsWaiting := rest } } e) n
      else s

/-! ## Captures (R476, R477) -/

/-- The capture that octets carry, when their CRC matches. -/
def Capture.ofOctets (h body : List Byte) : Option Capture :=
  let fl := fieldLe h 7 1
  if fieldLe h 60 4 = crc32c (h.take 60 ++ body) ∧ fieldLe h 32 4 = body.length then
    some { orderId := fieldLe h 0 2, status := fieldLe h 2 1, format := fieldLe h 3 1, uid := fieldLe h 4 2
           engine := fieldLe h 6 1, cInPresent := bitOf fl 0, secure := bitOf fl 1, untimed := bitOf fl 2
           injected := bitOf fl 3, k := fieldLe h 8 2, ctx := fieldLe h 10 2 % 4096, epoch := fieldLe h 12 1
           instrAddr := fieldLe h 16 8, issuePns := fieldLe h 24 8, body := body }
  else none

/-- Octets of the body before C_OUT. -/
def Capture.cInBytes (c : Capture) : Nat := if c.cInPresent then 1024 else 0

/-- C_IN of a capture: none, or 256 words. -/
def Capture.cIn (c : Capture) : List Nat := if c.cInPresent then wordsOfLe c.body else []

/-- C_OUT of a capture. -/
def Capture.cOut (c : Capture) : List Nat := wordsOfLe (c.body.drop c.cInBytes)

/-- A, B and scales of a capture. -/
def Capture.operands (c : Capture) : List Byte := c.body.drop (c.cInBytes + 1024)

/-- What a bar computes from a capture (R463, R465). -/
def Capture.compute (c : Capture) (upset : List (Nat × Nat)) : List Nat :=
  disturbed upset (tileOf c.format c.k c.cIn c.operands).result

/-! ## The decision (R482) -/

/-- The event of a decision. -/
def State.barEvent (s : State) (kind : Nat) (quarantined : Bool) (r : Recheck) (second : List Nat) : BarEvent :=
  let c := r.capture
  let excluded := c.secure && !bitOf s.hubScopes 4
  let diff := differing c.cOut r.first
  let words (l : List Nat) : List Byte := (List.range 256).flatMap fun i => be 4 (l.getD i 0)
  let body := words c.cOut ++ words r.first ++ words second ++ words c.cIn ++ c.operands
  { kind := kind, format := c.format
    flags := bit excluded + 2 * bit quarantined + 4 * bit (!r.sameBar) + 8 * bit c.cInPresent +
      16 * bit s.bar.storm + 32 * bit c.untimed + 64 * bit (c.injected || r.order.inject)
    seq := 0, uid := r.order.uid, engine := r.order.engine, logical := r.order.logical, k := c.k, ctx := c.ctx
    epoch := c.epoch, stepMark := r.order.stepMark, issuePns := c.issuePns, detectPns := s.pns
    instrAddr := c.instrAddr, mismatches := diff.length, firstBad := diff.headD 0
    barFirst := coreUid r.order.bar, barSecond := coreUid r.secondBar
    body := if excluded then zeros body.length else body, operandLen := c.operands.length }

/-- A probe has shown the engine of a hang procedure at fault (R401). -/
def State.culpritEngine (s : State) (uid e : Nat) : State :=
  let p := s.hang.proc
  if p.culpritKind = 3 ∧ p.culpritUid = uid ∧ p.culpritEngine = e then
    { s with hang := { s.hang with proc := { p with culpritKind := 2 } } }
  else s

/-- A mismatch is decided by the second result (R482–R484). -/
def State.decideMismatch (s : State) (r : Recheck) (second : List Nat) : State :=
  let o := r.order
  if second = r.first then
    let s := if o.inject then s.culpritEngine o.uid o.engine else s
    let (s, q) := s.quarantineEngine o.uid o.engine
    s.addEvent (s.barEvent (if o.inject then 2 else 1) q r second)
  else if second = r.capture.cOut then
    (s.addEvent (s.barEvent 3 false r second)).setBar o.bar 1
  else
    let s := s.addEvent (s.barEvent 4 false r second)
    let check (s : State) (b : Nat) : State := if s.barState b = 0 then s.setBar b 1 else s
    let s := check (check s 0) 1
    { s with bar := { s.bar with first := s.bar.first ++
        [(engineNumber o.uid o.engine, if o.inject then o.probe.getD 9 else 9)] } }

/-- The same bar failed its self-check before it could compute again (R482): no second result exists. -/
def State.decideFault (s : State) (r : Recheck) : State :=
  let second := wordsOfBe (be 1024 s.freeNow)
  s.drawn.addEvent (s.barEvent 3 false r second)

/-- A mismatch waits for its second computation, on the other core's bar when it may, else on the same bar
after its self-check (R482, R496). -/
def State.startRecheck (s : State) (o : BarOrder) (c : Capture) (first : List Nat) : State :=
  let other := 1 - o.bar
  let same := s.bar.standby = 0 || !s.shadowReady || s.barState other ≠ 0
  let r : Recheck :=
    { order := o, capture := c, first := first, secondBar := if same then o.bar else other, sameBar := same
      selfCheckPassed := none }
  let s : State := { s with bar := { s.bar with rechecks := s.bar.rechecks ++ [r] } }
  if same then s.setBar o.bar 1 else s

/-- An order with the step mark and the logical number in force at its capture (R488): those of now when the latest mark
lies at or before the capture, else those of the order's issue. -/
def State.atCapture (s : State) (o : BarOrder) (c : Capture) : BarOrder :=
  if s.fm.markPns ≤ c.issuePns then
    { o with stepMark := s.fm.stepMark, logical := (s.uidLogical o.uid).getD 0xFFFF }
  else o

/-- A tile has been compared: a match ends the sample, a mismatch asks for a second computation. -/
def State.compareTile (s : State) (o : BarOrder) (c : Capture) (upset : List (Nat × Nat)) : State :=
  let first := c.compute upset
  let s := s.nowCompared o
  let s : State := { s with bar := { s.bar with compared := add64 s.bar.compared 1 } }
  if first = c.cOut then s else s.startRecheck (s.atCapture o c) c first

/-! ## Probe kernels (R491–R494) -/

/-- A kernel that is held. -/
def State.kernel (s : State) (id : Nat) : Option Kernel := s.bar.kernels.find? fun k => k.id = id

/-- OP_COUNT. -/
def Kernel.ops (k : Kernel) : Nat := fieldBe k.bytes 1 1

/-- A field of an op's descriptor. -/
def Kernel.field (k : Kernel) (n off len : Nat) : Nat := fieldBe k.bytes (16 + 32 * n + off) len

/-- A range of `n` octets at `off` lies in the kernel. -/
def Kernel.holds (k : Kernel) (off n : Nat) : Bool := decide (off + n ≤ k.bytes.length)

/-- An op's descriptor keeps the layout (R491); what it reserves is ignored (R6). -/
def Kernel.opOk (k : Kernel) (n : Nat) : Bool :=
  let f := k.field n 0 1
  let fl := k.field n 1 1
  let d := k.field n 2 2
  let v := 16 * vectorBytes f d
  decide (f ≤ 8) && fl % 4 ≠ 3 && !(n = 0 && bitOf fl 0) && depthOk f d &&
    k.holds (k.field n 4 4) v && k.holds (k.field n 8 4) v &&
    (if formatMx f then k.holds (k.field n 12 4) d else k.field n 12 4 = 0) &&
    (if bitOf fl 1 then k.holds (k.field n 16 4) 1024 else k.field n 16 4 = 0) &&
    (if bitOf fl 2 then k.holds (k.field n 20 4) 1024 else k.field n 20 4 = 0)

/-- A kernel keeps the layout (R491); what it reserves is ignored (R6). -/
def Kernel.ok (k : Kernel) : Bool :=
  let h (off len : Nat) : Nat := fieldBe k.bytes off len
  decide (16 ≤ k.bytes.length) && h 0 1 = 1 && decide (1 ≤ k.ops) && decide (k.ops ≤ 16) &&
    h 4 4 = k.bytes.length && h 8 4 ≠ 0 && k.holds 16 (32 * k.ops) &&
    (List.range k.ops).all k.opOk

/-- A, B and scales of an op. -/
def Kernel.operands (k : Kernel) (n : Nat) : List Byte :=
  let f := k.field n 0 1
  let d := k.field n 2 2
  let v := 16 * vectorBytes f d
  slice k.bytes (k.field n 4 4) v ++ slice k.bytes (k.field n 8 4) v ++
    (if formatMx f then slice k.bytes (k.field n 12 4) d else [])

/-- C_IN of an op, from its own data or the previous result (R491). -/
def Kernel.cIn (k : Kernel) (n : Nat) (prev : List Nat) : List Nat :=
  let fl := k.field n 1 1
  if bitOf fl 0 then prev else if bitOf fl 1 then wordsOfBe (k.bytes.drop (k.field n 16 4)) else []

/-- What the bar computes for an op. -/
def Kernel.compute (k : Kernel) (n : Nat) (prev : List Nat) (upset : List (Nat × Nat)) : List Nat :=
  disturbed upset (tileOf (k.field n 0 1) (k.field n 2 2) (k.cIn n prev) (k.operands n)).result

/-- An op agrees with its expected result, when it has one. -/
def Kernel.expected (k : Kernel) (n : Nat) (r : List Nat) : Bool :=
  !bitOf (k.field n 1 1) 2 || wordsOfBe (k.bytes.drop (k.field n 20 4)) = r

/-- Send an op of a run: to the bar, and by INJECT to the engine's tap (R475, R492). -/
def State.sendOp (s : State) (r : ProbeRun) (k : Kernel) (n : Nat) : State :=
  let bar := s.sampler.getD s.activeCore
  let s := s.emit .probeOp (coreUid bar) (be 4 r.kernel ++ be 1 n)
  if r.onEngine then
    let c := k.cIn n r.prevEngine
    let body := (c.flatMap (le 4)) ++ k.operands n
    let tap := tapUid (uidCluster r.uid)
    let id := s.bar.orderCounter
    let s := (s.emit .probeOp tap body).emit .captureOrder tap
      (orderOctets id 0x21 r.engine r.uid 0 (s.pns + s.bar.waitNs) (coreUid bar)
        ((s.slotsFree bar).headD 0) body.length)
    { s with bar := { s.bar with orderCounter := (id + 1) % 65536 } }
  else s

end Sys2Proof.Machine
end

