-- ==== Sys2Proof/Machine/TimeBase.lean ====
section
/-!
DEFINITION. The time base: reading the time, the mark cycle, replicas, delay calibration, REFCLK,
TICK_OUT and TICK_IN (chapter 03).
-/
namespace Sys2Proof.Machine

/-! ## Reading the time -/

/-- TB_NOW_READ (R96, R97): PNS, and the fraction latched for the requester. -/
def execTbNowRead (dt : Nat) (req : Req) (s : State) : Host.Outcome State Fault Refusal :=
  done ((s.begin dt).serve req 0x2000 0 .read fun c s =>
    let t : State := { s with tb := { s.tb with
      fracLatch := Tab.put s.tb.fracLatch c.latchKey (s.pns16 % 65536) } }
    ⟨t, Abort.ok, be 8 s.pns⟩)

/-! ## Messages of the time wires (R101–R103) -/

/-- Word 0 (R101). -/
def wireWord0 (type src act seq target : Nat) : Nat :=
  type * 2 ^ 28 + src * 2 ^ 27 + act * 2 ^ 26 + seq % 256 * 2 ^ 16 + target

/-- Six words: word 0, words 1–4, the CRC word (R102, R103). -/
def wireMsg (w0 w1 w2 w3 w4 : Nat) : List Nat :=
  let b := [w0, w1, w2, w3, w4]
  b ++ [crc32c (wordsLe b)]

/-- Word `i` of a message. -/
def msgWord (m : List Nat) (i : Nat) : Nat := m.getD i 0 % 2 ^ 32

/-- TYPE. -/
def msgType (m : List Nat) : Nat := msgWord m 0 / 2 ^ 28

/-- SRC. -/
def msgSrc (m : List Nat) : Nat := msgWord m 0 / 2 ^ 27 % 2

/-- ACT. -/
def msgAct (m : List Nat) : Bool := bitOf (msgWord m 0) 26

/-- SEQ. -/
def msgSeq (m : List Nat) : Nat := msgWord m 0 / 2 ^ 16 % 256

/-- TARGET. -/
def msgTarget (m : List Nat) : Nat := msgWord m 0 % 65536

/-- The CRC word matches (R103). -/
def msgCrcOk (m : List Nat) : Bool :=
  decide (6 ≤ m.length) && msgWord m 5 = crc32c (wordsLe ((List.range 5).map (msgWord m)))

/-- Launch PNS and fraction in 2⁻¹⁶ ns. -/
def msgLaunch (m : List Nat) : Nat :=
  (msgWord m 1 * 2 ^ 32 + msgWord m 2) * 65536 + msgWord m 3 / 65536

/-- CORR. -/
def msgCorr (m : List Nat) : Nat := msgWord m 3 % 65536

/-- A 64-bit word in two words. -/
def hiLo (v : Nat) : Nat × Nat := (v / 2 ^ 32 % 2 ^ 32, v % 2 ^ 32)

/-- MARK, LOAD or CAL_REQ launched at a stamp of 2⁻¹⁶ ns. -/
def stampMsg (w0 t w4 : Nat) : List Nat :=
  wireMsg w0 (hiLo (t / 65536)).1 (hiLo (t / 65536)).2 (t % 65536 * 65536) w4

/-- Die crossings between two dies of the grid: the columns and the rows that lie between them. -/
def dieCrossings (a b : Nat) : Nat :=
  ((a % 4 : Nat) - (b % 4 : Nat) : Int).natAbs + ((a / 4 : Nat) - (b / 4 : Nat) : Int).natAbs

/-- Die crossings of a message on its way to a unit: from its source core, or from the replica that echoes. -/
def msgCrossings (m : List Nat) (uid : Nat) : Nat :=
  dieCrossings (if msgType m = 5 then uidDie (msgTarget m) else if msgSrc m = 0 then 0 else 15) (uidDie uid)

/-- A residence of `k` steps of 6.25 ps, rounded to 2⁻⁸ ns (R105). -/
def residence (k : Nat) : Nat := (divRound (8 * k) 5).toNat

/-- CORR or RET_CORR after the crossings whose readings follow, which saturates at each (R105, R106). -/
def addResidence (corr : Nat) (readings : List Nat) : Nat :=
  readings.foldl (fun c k => Nat.min 0xFFFF (c + residence k)) corr

/-- The message as it reaches a unit (R105): the residences of its crossings are in CORR of a MARK, LOAD or CAL_REQ,
and in RET_CORR of a CAL_ECHO. Its words stand as they were launched, and after them the readings of the crossings'
converters, in order (log entry 156). -/
def msgArrived (m : List Nat) (uid : Nat) : List Nat :=
  let readings := (List.range (msgCrossings m uid)).map fun i => m.getD (6 + i) 0
  let put (i : Nat) : List Nat :=
    (List.range 6).map fun k =>
      if k = i then msgWord m i / 65536 * 65536 + addResidence (msgWord m i % 65536) readings else msgWord m k
  if msgType m = 1 ∨ msgType m = 2 ∨ msgType m = 4 then put 3 else if msgType m = 5 then put 2 else m.take 6

/-- Receive a message of a type at a unit: a runner in reset receives none, a CRC that does not match
is counted (R103), another type is no business of this command. `f` takes the message as it arrives. -/
def State.onMsg (s : State) (uid type : Nat) (m : List Nat) (f : List Nat → State → State) : State :=
  if uidIsRunner uid && (s.runner (uidDie uid)).inReset then s
  else if !msgCrcOk m then countMarkCrc s uid
  else if msgType m = type then f (msgArrived m uid) s
  else s

/-! ## The mark cycle (R98–R100, R109, R113, R125, R127) -/

/-- Requests of a target that are outstanding. -/
def Wire.asked (w : Wire) (uid : Nat) : Nat := (w.reqs.filter fun r => r.target = uid).length

/-- A target's calibration record. -/
def Wire.target (w : Wire) (uid : Nat) : CalTarget := Tab.at w.targets uid CalTarget.fresh

/-- The target still needs a measurement (R111–R113). -/
def Wire.needs (w : Wire) (uid : Nat) : Bool :=
  let t := w.target uid
  (t.dSet.isNone || t.wanted ≠ 1) && decide (t.measures.length + w.asked uid < t.wanted)

/-- The target of the next CAL_REQ (R113). -/
def Wire.nextTarget (w : Wire) (core : Nat) : Nat :=
  let all := replicaUids core
  let urgent := all.find? fun u =>
    ((w.target u).reported = some .cold || (w.target u).reported = some .flywheel) && w.needs u
  urgent.getD ((all.find? fun u => decide (w.roundRobin < u)).getD (all.headD 0))

/-- The round-robin after a target has been served (R113). -/
def Wire.robin (w : Wire) (core uid : Nat) : Nat :=
  if ((w.target uid).reported = some .cold || (w.target uid).reported = some .flywheel) && w.needs uid
  then w.roundRobin
  else if (replicaUids core).contains uid then uid else w.roundRobin

/-- The TIME_STEP that STEP messages announce: the earliest that is PENDING (R125). -/
def State.stepDue (s : State) : Option SchedEntry :=
  ((s.sched.map Prod.snd).filter fun e => e.action = Act.timeStep && e.status = Stat.pending).foldl
    (fun b e => match b with
      | none => some e
      | some x => if e.time < x.time then some e else some x) none

/-- Launch a CAL_REQ in slot B, 8 waves after slot A (R99, R109). -/
def State.sendCalReq (s : State) (core uid : Nat) (repeated : Bool) : State :=
  let w := s.wire core
  let at_ := s.elapsed + 8 * Config.stepsPerWave
  let t1 := (s.tbu core).ns16 at_
  let w0 := wireWord0 4 core (bit (core = s.activeCore)) w.cycle uid
  let q : CalReq := ⟨uid, w.cycle % 256, at_, t1, w.cycle, repeated⟩
  let s := s.emit .timeWire core (wordsLe (stampMsg w0 t1 0))
  s.putWire core { w with reqs := w.reqs ++ [q], lastReq := some w.cycle
                          repeatReq := if repeated then w.repeatReq.drop 1 else w.repeatReq
                          roundRobin := if repeated then w.roundRobin else w.robin core uid }

/-- Slot B: STEP, CAL_SET or CAL_REQ in that order (R100, R109, R114, R125). -/
def State.slotB (s : State) (core : Nat) : State :=
  let w := s.wire core
  let act := bit (core = s.activeCore)
  let step := if core = s.activeCore then s.stepDue else none
  match step with
  | some e =>
    let d := ofSigned 64 (deltaOf e.taken)
    s.emit .timeWire core (wordsLe (wireMsg (wireWord0 3 core act w.cycle 0)
      (hiLo e.time).1 (hiLo e.time).2 (hiLo d).1 (hiLo d).2))
  | none =>
    match w.setQueue with
    | (uid, d) :: rest =>
      let s := s.emit .timeWire core (wordsLe (wireMsg (wireWord0 6 core act w.cycle uid)
        (ofSigned 32 d) 0 0 0))
      s.putWire core { w with setQueue := rest }
    | [] =>
      let free := match w.lastReq with
        | some c => decide (c + 2 ≤ w.cycle)
        | none => true
      if free then
        match w.repeatReq with
        | uid :: _ => s.sendCalReq core uid true
        | [] => s.sendCalReq core (w.nextTarget core) false
      else s

/-- MARK_CYCLE (R98–R100): slot A carries MARK or LOAD, slot B what its priority gives; every core that sources its
wire sends one in each cycle, whatever its count is worth. -/
def execMarkCycle (dt : Nat) (core : Nat) (s : State) : Host.Outcome State Fault Refusal :=
  let s := s.begin dt
  let w := s.wire core
  done (s.onlyIf (decide (core < 2) && w.sourcing &&
      decide (w.start + w.cycle * 16 * Config.stepsPerWave ≤ s.elapsed)) fun s =>
    let c := s.tbu core
    let load := decide (0 < w.loadsLeft)
    let w0 := wireWord0 (if load then 2 else 1) core (bit (core = s.activeCore)) w.cycle 0
    let s := s.emit .timeWire core (wordsLe (stampMsg w0 (c.ns16 s.elapsed) (ofSigned 32 c.rate)))
    let s := s.slotB core
    let w := s.wire core
    s.putWire core { w with cycle := w.cycle + 1, loadsLeft := w.loadsLeft - 1 })

/-! ## Replicas (R105–R107, R115–R117, R147) -/

/-- A replica accepts a MARK or LOAD (R106, R115): its delay for the source. -/
def Replica.delayFor (r : Replica) (src : Nat) : Option Nat := if src = 0 then r.d0 else r.d1

/-- The true PNS at arrival in 2⁻⁴⁸ ns (R107). -/
def trueAcc (m : List Nat) (d : Nat) : Nat := (msgLaunch m + msgCorr m * 256 + d) * 2 ^ 32

/-- A replica adopts a count outright (R117, R127). A step whose APPLY that count has passed is contained in it and does
not apply again: the model's choice (log entry 171). -/
def Replica.adopt (r : Replica) (now acc : Nat) : Replica :=
  let held (x : Nat × Int) : Bool := decide (x.1 ≤ acc / Config.fracScale)
  { r with clock := { r.clock.load now acc with counting := true }, state := .tracking
           largeErrors := 0, firstOfSource := none
           steps := r.steps.filter fun x => !held x
           applied := (r.steps.filter held ++ r.applied).take 32 }

/-- 2 ns in units of 2⁻⁴⁸ ns. -/
def twoNs : Int := 2 * 2 ^ 48

/-- An accepted MARK or LOAD (R107, R116, R117, R147): the replica, and whether it reports
REPLICA_RELOAD. The first MARK of a new source acts at once when |e| ≤ 2 ns. LAST_ERR of an acceptance from COLD, for
which the spec gives no e, is 0 (log entry 157). -/
def Replica.track (r : Replica) (m : List Nat) (d now : Nat) (load : Bool) : Replica × Bool :=
  let r := { r with clock := r.clock.setRate now (toSigned 32 (msgWord m 4)) }
  let acc := trueAcc m d
  let e : Int := (acc : Int) - (r.clock.read now : Int)
  let first : Bool := r.firstOfSource = some (msgSrc m)
  let r := { r with lastMark := now, lastErr := e / 2 ^ 32
                    firstOfSource := if first then none else r.firstOfSource }
  let big := decide (twoNs < e) || decide (e < -twoNs)
  match r.state with
  | .cold => ({ r with lastErr := 0 }.adopt now acc, false)
  | .flywheel =>
    if load || big then (r.adopt now acc, true)
    else if first then (r.adopt now acc, false)
    else ({ r with state := .tracking, largeErrors := 0
                   clock := { r.clock.settle now with slew := e } }, false)
  | .tracking =>
    if load then (r.adopt now acc, false)
    else if big then
      if r.largeErrors + 1 = 4 then (r.adopt now acc, true)
      else ({ r with largeErrors := r.largeErrors + 1 }, false)
    else if first then (r.adopt now acc, false)
    else ({ r with largeErrors := 0, clock := { r.clock.settle now with slew := e } }, false)

/-- The standby holds its phase and frequency: from S to W of a takeover (R74). -/
def State.standbyHolds (s : State) : Bool := s.hub.takeover.any fun k => k.phase = 0

/-- The standby core's count has been moved by `d` of 2⁻¹⁶ ns outright. -/
def State.standbyMoved (s : State) (d : Int) : State :=
  State.noteStray { s with tb := { s.tb with tickInStandby := s.tb.tickInStandby.shifted d } }

/-- A MARK or LOAD at a replica. -/
def State.trackMsg (s : State) (uid : Nat) (m : List Nat) (load : Bool) : State :=
  let r := s.getRep uid
  let standby : Bool := uid = coreUid s.standbyCore
  match r.delayFor (msgSrc m) with
  | none => s
  | some d =>
    if msgAct m && decide (msgCorr m < 0xFFFF) && !(standby && s.standbyHolds) then
      let x := r.track m d s.elapsed load
      let was := s.tb.standby.ns16 s.elapsed
      let s := s.putRep uid x.1
      let s := if standby then s.standbyMoved ((x.1.clock.ns16 s.elapsed : Int) - was) else s
      if x.2 then s.logged Code.replicaReload (be 2 uid) else s
    else s

/-- MARK_RECEIVE. -/
def execMarkReceive (dt : Nat) (uid : Nat) (msg : List Nat) (s : State) : Host.Outcome State Fault Refusal :=
  done ((s.begin dt).onMsg uid 1 msg fun m s => s.trackMsg uid m false)

/-- LOAD_RECEIVE. -/
def execLoadReceive (dt : Nat) (uid : Nat) (msg : List Nat) (s : State) : Host.Outcome State Fault Refusal :=
  done ((s.begin dt).onMsg uid 2 msg fun m s => s.trackMsg uid m true)

/-- STEP_MSG_RECEIVE (R125): the step is registered once per APPLY. -/
def execStepMsgReceive (dt : Nat) (uid : Nat) (msg : List Nat) (s : State) : Host.Outcome State Fault Refusal :=
  done ((s.begin dt).onMsg uid 3 msg fun m s =>
    let r := s.getRep uid
    let apply := msgWord m 1 * 2 ^ 32 + msgWord m 2
    let delta := toSigned 64 (msgWord m 3 * 2 ^ 32 + msgWord m 4)
    if (r.steps.any fun x => x.1 = apply) || (r.applied.any fun x => x.1 = apply) then s
    else s.putRep uid { r with steps := r.steps ++ [(apply, delta)] })

/-! ## Delay calibration (R108–R114) -/

/-- CAL_REQ_RECEIVE (R109): an echo is due 3,072 ns later. -/
def execCalReqReceive (dt : Nat) (uid : Nat) (msg : List Nat) (s : State) : Host.Outcome State Fault Refusal :=
  done ((s.begin dt).onMsg uid 4 msg fun m s =>
    let r := s.getRep uid
    if msgTarget m = uid then
      let p := match r.state with
        | .cold => none
        | _ => some (r.clock.ns16 s.elapsed)
      s.putRep uid { r with echo := r.echo ++ [⟨msgSrc m, msgSeq m, msgCorr m, s.elapsed, p⟩] }
    else s)

/-- The interval since a CAL_REQ arrived, as the replica measures it, in 2⁻¹⁶ ns (R109): the difference of its two PNS,
never below 0; a step or a load in between counts in it, which the spec does not say (log entry 159). -/
def Replica.turnaround (r : Replica) (e : EchoDue) (now : Nat) : Nat :=
  match r.state, e.arrivedPns with
  | .cold, _ => (now - e.arrived) * 65536 / Config.stepsPerNs
  | _, some p => r.clock.ns16 now - p
  | _, none => (now - e.arrived) * 65536 / Config.stepsPerNs

/-- Code of a replica's state (R102). -/
def ReplicaState.code : ReplicaState → Nat
  | .cold => 0
  | .tracking => 1
  | .flywheel => 2

/-- The state of a code. -/
def ReplicaState.ofCode (c : Nat) : ReplicaState := if c = 0 then .cold else if c = 1 then .tracking else .flywheel

/-- CAL_ECHO_LAUNCH (R109). An error that LAST_ERR's 32 bits do not hold is sent modulo 2³²: the model's choice (log
entry 158). -/
def execCalEchoLaunch (dt : Nat) (uid : Nat) (s : State) : Host.Outcome State Fault Refusal :=
  let s := s.begin dt
  let r := s.getRep uid
  done (match r.echo with
    | [] => s
    | e :: rest =>
      let ta := r.turnaround e s.elapsed
      s.onlyIf (decide (3072 * 65536 ≤ ta)) fun s =>
        let w0 := wireWord0 5 e.core (bit (e.core = s.activeCore)) e.seq uid
        let s := s.emit .calEcho e.core (wordsLe (wireMsg w0 (ta % 2 ^ 32) (e.corr * 65536)
          (ofSigned 32 r.lastErr) r.state.code))
        s.putRep uid { r with echo := rest })

/-- Insert in rising order. -/
def insertInt (a : Int) : List Int → List Int
  | [] => [a]
  | b :: l => if a ≤ b then a :: b :: l else b :: insertInt a l

/-- The median; of an even number of values the mean of the middle two, rounded down. -/
def medianInt (l : List Int) : Int :=
  let m := l.foldr insertInt []
  let n := m.length
  if n % 2 = 1 then m.getD (n / 2) 0 else (m.getD (n / 2 - 1) 0 + m.getD (n / 2) 0) / 2

/-- Send the median of the measurements in a CAL_SET (R111, R112). -/
def Wire.setDelay (w : Wire) (uid : Nat) (t : CalTarget) (d : Int) : Wire :=
  { w with setQueue := w.setQueue ++ [(uid, d)]
           targets := Tab.set w.targets uid CalTarget.fresh
             { t with dSet := some d, measures := [], wanted := 1 } }

/-- A measurement D of a target (R110–R112): the wire, and the CAL_JUMP in 2⁻¹⁶ ns. -/
def Wire.measured (w : Wire) (uid : Nat) (d : Int) (st : ReplicaState) : Wire × Option Int :=
  let t := { w.target uid with failedRounds := 0, reported := some st }
  let put (t : CalTarget) : Wire := { w with targets := Tab.set w.targets uid CalTarget.fresh t }
  if st = .cold || t.dSet.isNone then
    let t := if t.wanted = 3 then t else { t with wanted := 3, measures := [] }
    let ms := t.measures ++ [d]
    if 3 ≤ ms.length then (w.setDelay uid t (medianInt ms), none)
    else (put { t with measures := ms }, none)
  else if t.wanted = 8 then
    let ms := t.measures ++ [d]
    if 8 ≤ ms.length then
      (w.setDelay uid t (medianInt ms), some (medianInt ms - t.dSet.getD 0))
    else (put { t with measures := ms }, none)
  else
    let diff := d - t.dSet.getD 0
    if diff.natAbs * 1000 ≤ 50 * 65536 then (w.setDelay uid t d, none)
    else (put { t with wanted := 8, measures := [] }, none)

/-- CAL_ECHO_RECEIVE (R106, R110–R112). -/
def execCalEchoReceive (dt : Nat) (core : Nat) (msg : List Nat) (s : State) : Host.Outcome State Fault Refusal :=
  done ((s.begin dt).onMsg (coreUid core) 5 msg fun m s =>
    let w := s.wire core
    match w.reqs.find? fun q => q.target = msgTarget m && q.seq = msgSeq m with
    | none => s
    | some q =>
      let w := { w with reqs := w.reqs.erase q }
      let fwd := msgWord m 2 / 65536
      let ret := msgWord m 2 % 65536
      if fwd = 0xFFFF ∨ ret = 0xFFFF then s.putWire core w
      else
        let t4 := (s.tbu core).ns16 s.elapsed
        let d : Int := ((t4 : Int) - q.t1 - msgWord m 1 - fwd * 256 - ret * 256) / 2
        let x := w.measured q.target d (ReplicaState.ofCode (msgWord m 4 % 256))
        let s := s.putWire core x.1
        match x.2 with
        | some j => s.logged Code.calJump (be 2 q.target ++ psOctets (psOf (nsOf16 j)))
        | none => s)

/-- CAL_SET_RECEIVE (R111, R112). -/
def execCalSetReceive (dt : Nat) (uid : Nat) (msg : List Nat) (s : State) : Host.Outcome State Fault Refusal :=
  done ((s.begin dt).onMsg uid 6 msg fun m s =>
    let r := s.getRep uid
    if msgTarget m = uid then
      s.putRep uid (if msgSrc m = 0 then { r with d0 := some (msgWord m 1) }
                    else { r with d1 := some (msgWord m 1) })
    else s)

/-- CAL_ECHO_TIMEOUT (R114): the request is repeated once; a third failed round is logged. -/
def execCalEchoTimeout (dt : Nat) (core : Nat) (s : State) : Host.Outcome State Fault Refusal :=
  let s := s.begin dt
  let w := s.wire core
  done (match w.reqs.find? fun q => decide (q.launch + 128 * Config.stepsPerWave ≤ s.elapsed) with
    | none => s
    | some q =>
      let w := { w with reqs := w.reqs.erase q }
      if !q.repeated then s.putWire core { w with repeatReq := w.repeatReq ++ [q.target] }
      else
        let t := w.target q.target
        let n := t.failedRounds + 1
        let ts := Tab.set w.targets q.target CalTarget.fresh { t with failedRounds := n, reported := none }
        let s := s.putWire core { w with targets := ts }
        if n = 3 then s.logged Code.calNoEcho (be 2 q.target) else s)

/-! ## Flywheel and loss (R117) -/

/-- REPLICA_FLYWHEEL: 2 mark cycles without an accepted MARK or LOAD. -/
def execReplicaFlywheel (dt : Nat) (uid : Nat) (s : State) : Host.Outcome State Fault Refusal :=
  let s := s.begin dt
  let r := s.getRep uid
  done (s.onlyIf (r.state = .tracking && decide (r.lastMark + 2 * 16 * Config.stepsPerWave ≤ s.elapsed))
    fun s => s.putRep uid { r with state := .flywheel })

/-- REPLICA_LOST: 1,024 mark cycles without an accepted MARK or LOAD. The standby core's TBU counts on from 0, since it
sources its wire (R98). -/
def execReplicaLost (dt : Nat) (uid : Nat) (s : State) : Host.Outcome State Fault Refusal :=
  let s := s.begin dt
  let r := s.getRep uid
  done (s.onlyIf
    (r.state = .flywheel && decide (r.lastMark + 1024 * 16 * Config.stepsPerWave ≤ s.elapsed))
    fun s =>
      let s := s.putRep uid { r with state := .cold, lastPns := r.clock.ns s.elapsed, largeErrors := 0
                                     clock := { r.clock.load s.elapsed 0 with
                                                counting := uid = coreUid s.standbyCore } }
      s.logged Code.replicaLost (be 2 uid))

/-! ## REFCLK (R93–R95) -/

/-- A clock enters DCO holdover with a free departure within the bound of R94 (log entry 8). -/
def Clock.drifting (c : Clock) (now : Nat) (d : Int) : Clock :=
  { c.settle now with drift := clampInt (-Config.driftLimit) Config.driftLimit d }

/-- REFCLK_LOST (R93, R94, R179). -/
def execRefclkLost (dt : Nat) (s : State) : Host.Outcome State Fault Refusal :=
  let s := s.begin dt
  done (s.onlyIf s.tb.refclkPresent fun s =>
    let s := s.alsoStandby State.settleGrowth
    let n := s.freeCount
    let s : State := { s with freeCount := n + 2, tb := { s.tb with
      refclkPresent := false, dcoSince := some s.elapsed
      active := s.tb.active.drifting s.elapsed (Config.freeDrift n)
      standby := s.tb.standby.drifting s.elapsed (Config.freeDrift (n + 1)) } }
    let s := (Tab.keys s.units.replicas).foldl (fun s u =>
      (s.modReplica u fun r =>
        { r with clock := r.clock.drifting s.elapsed (Config.freeDrift s.freeCount) }).drawn) s
    (s.logged Code.refclkLost []).alsoStandby fun s => s.holdover Why.refclkLost)

/-- REFCLK_BACK (R95): the PLLs relock without stepping PNS. -/
def execRefclkBack (dt : Nat) (s : State) : Host.Outcome State Fault Refusal :=
  let s := s.begin dt
  done (s.onlyIf (!s.tb.refclkPresent) fun s =>
    let s := s.alsoStandby State.settleGrowth
    let relock (c : Clock) : Clock := { c.settle s.elapsed with drift := 0 }
    let s : State := { s with tb := { s.tb with
      refclkPresent := true, dcoSince := none, active := relock s.tb.active
      standby := relock s.tb.standby } }
    let s := (Tab.keys s.units.replicas).foldl (fun s u =>
      s.modReplica u fun r => { r with clock := relock r.clock }) s
    (s.logged Code.refclkBack []).alsoStandby fun s => s.clearReason Why.refclkLost none)

/-! ## TICK_OUT (R128–R132) -/

/-- Period of a TICK_OUT_MODE in ns. -/
def State.tickOutPeriod (s : State) (mode : Nat) : Option Nat :=
  if mode = 0 then some s.frame.lenNs else if mode = 1 then some 1000000000 else none

/-- The mode that governs a due PNS (R131). -/
def State.tickOutModeAt (s : State) (p : Nat) : Nat :=
  match s.tb.tickOutOld with
  | some (t, old) => if p ≤ t then old else s.tb.tickOutMode
  | none => s.tb.tickOutMode

/-- TICK_OUT is high: 1,000 ns from its rise (R129). -/
def State.tickOutHigh (s : State) : Bool :=
  match s.tb.tickOutLast with
  | some t => decide (s.elapsed < t + 1000 * Config.stepsPerNs)
  | none => false

/-- The whole PNS that the count stands at, to within ±0.1 ns (R129). -/
def State.pnsHere (s : State) : Option Nat :=
  let n := (s.pns16 + 6553) / 65536
  if s.pns16 ≤ n * 65536 + 6553 then some n else none

/-- TICK_OUT_DUE (R128–R131): the count stands at a due PNS. -/
def execTickOutDue (dt : Nat) (s : State) : Host.Outcome State Fault Refusal :=
  let s := s.begin dt
  done (match s.pnsHere with
    | none => s
    | some n =>
      match s.tickOutPeriod (s.tickOutModeAt n) with
      | none => s
      | some p =>
        s.onlyIf (s.tb.active.counting && n % p = 0 && !s.tickOutHigh) fun s =>
          State.emit { s with tb := { s.tb with tickOutLast := some s.elapsed } } .tickOut 0 (be 8 n))

/-! ## TICK_IN (R133–R143) -/

/-- P in ns (0x2010.07). -/
def State.tickInPeriod (s : State) : Nat := if s.tb.tickInMode = 0 then 1000000000 else s.frame.lenNs

/-- What an edge turned out to be. -/
inductive TickVerdict where
  | fast | outlier | phase
  /-- Accepted; the state after it, and the offset when the input was qualified before it. -/
  | accepted (qualifiedNow : Bool) (offset : Option Int)

/-- Judge an edge stamped `st` at elapsed step `now`, with P = `p`, both in 2⁻¹⁶ ns (R135, R137, R138, R141). `align`:
the edge is the one that the TBU aligns to, which no limit of R137 holds back (R143). -/
def TickIn.judge (x : TickIn) (st : Int) (p now : Nat) (align : Bool) : TickIn × TickVerdict :=
  let lim : Int := 100 * 65536
  let fast := match x.lastAccepted with
    | some a => decide (2 * (st - a) < (p : Int))
    | none => false
  if fast then
    ({ x with state := 3, goodCount := 0, outliers := 0
              fastCount := inc32 x.fastCount }, .fast)
  else
    let off := st - divRound st p * (p : Int)
    if x.state = 2 ∧ align = false ∧ lim < (off.natAbs : Int) then
      if x.outliers + 1 = 3 then
        ({ x with state := 7, goodCount := 0, outliers := 0 }, .phase)
      else ({ x with outliers := x.outliers + 1 }, .outlier)
    else
      let good := match x.lastAccepted with
        | some a => decide (((st - a - (p : Int)).natAbs : Int) ≤ lim)
        | none => false
      let n := if good then x.goodCount + 1 else 1
      let y := { x with lastAccepted := some st, acceptedAt := some now, goodCount := Nat.min n 8, outliers := 0 }
      if x.state = 2 then (y, .accepted false (some off))
      else if n = 8 then ({ y with state := 2 }, .accepted true none)
      else (y, .accepted false none)

/-- The stamp of an edge on a clock, less the board delay (R134). -/
def State.tickStamp (s : State) (c : Clock) : Int :=
  (c.ns16 s.elapsed : Int) - divRound (s.tb.tickInDelayPs * 65536) 1000

/-- TICK_IN is disqualified: the steered servo enters HOLDOVER (R135–R137, R179). -/
def State.tickLost (s : State) : State := if s.tickSteers then s.holdover Why.tickInLost else s

/-- A free-running manager aligns to the input (R143). -/
def State.tickAligns (s : State) : Bool := s.tickSteers && s.pod.servo.state = 0

/-- The first qualified edge of a FREE servo (R143, R179): the TBU loads −θ, and an offset of at most 1,000 ns is an
input too (log entry 27). -/
def State.alignTo (s : State) (off : Int) : State :=
  let θ := nsOf16 off
  let s := if absRat θ ≤ 1000 then s.servoInput θ else s
  ((s.timeLoad (-off * 2 ^ 32)).acceptOffset θ).modServo fun v => { v with state := 1, goodRun := 0 }

/-- A core's part of an edge (R135, R137, R138, R141, R143, R178): `prev` is the elapsed step of the edge accepted before
it, from which Ts runs. -/
def State.tickEdge (s : State) (prev : Option Nat) (v : TickVerdict) : State :=
  match v with
  | .fast => (s.logged Code.tickInFast []).tickLost
  | .outlier => s
  | .phase => (s.logged Code.tickInPhase []).tickLost
  | .accepted true _ =>
    (s.logged Code.tickInQualified []).clearReason Why.tickInLost none
  | .accepted false none => s
  | .accepted false (some off) =>
    if !s.tickSteers then s
    else
      let aligns := s.tickAligns
      let s := s.modServo fun v => { v with lastSample := prev }
      if aligns then s.alignTo off else s.servoStep (nsOf16 off)

/-- What the standby core makes of an edge: its own servo alone moves (R73, R133). -/
def State.standbyEdge (s : State) (x : TickIn × TickVerdict) : State :=
  let was := s.tb.tickInStandby.acceptedAt
  { s with tb := { s.tb with tickInStandby := x.1 }
           pod := { s.pod with shadow := (s.onShadow fun s =>
             State.tickEdge { s with tb := { s.tb with active := s.standbyNow, tickIn := x.1 } } was x.2).pod.shadow } }

/-- TICK_IN_EDGE (R133–R143): both cores qualify the input on their own counts, each from when it counts; the active
core acts. -/
def execTickInEdge (dt : Nat) (edge : TickEdge) (s : State) : Host.Outcome State Fault Refusal :=
  let s := s.begin dt
  done (s.onlyIf (decide (20 ≤ edge.highNs)) fun s =>
    let p := s.tickInPeriod * 65536
    let shadowFree : Bool := s.tickSteers && s.pod.shadow.state = 0
    let s := if s.standbyNow.counting then
        s.standbyEdge (s.tb.tickInStandby.judge (s.tickStamp s.standbyNow) p s.elapsed shadowFree) else s
    s.onlyIf s.tb.active.counting fun s =>
      let a := s.tb.tickIn.judge (s.tickStamp s.tb.active) p s.elapsed s.tickAligns
      let was := s.tb.tickIn.acceptedAt
      State.tickEdge { s with tb := { s.tb with tickIn := a.1 } } was a.2)

/-- TICK_IN_MISSING (R136): the pin toggled, or stood at a level. -/
def execTickInMissing (dt : Nat) (toggled level : Bool) (s : State) : Host.Outcome State Fault Refusal :=
  let s := s.begin dt
  let p : Int := ((s.tickInPeriod * 65536 : Nat) : Int)
  let due (x : TickIn) (c : Clock) : Bool := match x.lastAccepted with
    | some a => decide (3 * p ≤ 2 * (s.tickStamp c - a)) && !(decide (4 ≤ x.state) && decide (x.state ≤ 6))
    | none => false
  let gone (x : TickIn) : TickIn :=
    { x with state := if toggled then 4 else if level then 6 else 5, goodCount := 0, outliers := 0 }
  let s : State := if due s.tb.tickInStandby s.standbyNow then
      State.onShadow State.tickLost { s with tb := { s.tb with tickInStandby := gone s.tb.tickInStandby } } else s
  done (s.onlyIf (due s.tb.tickIn s.tb.active) fun s =>
    State.tickLost
      (State.logged { s with tb := { s.tb with tickIn := gone s.tb.tickIn } } Code.tickInMissing []))

end Sys2Proof.Machine
end

