-- ==== Sys2Proof/Machine/Objects.lean ====
section
/-!
DEFINITION. Writing objects: the forms and ranges of values (R8, R690 and the home chapters), what
each writable object takes, the persistence of RWP values (R602, R692), and commit groups
(R213, R216–R219).
-/
namespace Sys2Proof.Machine

/-! ## Ranges -/

/-- First `n` numbers of a list of fields are distinct and below `n`. -/
def permutationOf (n : Nat) (l : List Nat) : Bool :=
  l.length = n && (List.range n).all fun k => l.contains k

/-- The ADM_SOURCE form of R453. -/
def admSourceOk (b : List Byte) : Bool :=
  let n := fieldBe b 0 2
  decide (1 ≤ n) && decide (n ≤ 256) && b.length = 2 + 32 * n &&
    (List.range n).all fun k =>
      let e := slice b (2 + 32 * k) 32
      let first := fieldBe e 2 2
      let count := fieldBe e 4 4
      let len := fieldBe e 24 8
      decide (fieldBe e 1 1 < 16) &&
        (if fieldBe e 0 1 = 0 then
          decide (1 ≤ count) && decide (first + count ≤ 16384) && len = 524288 * count
         else fieldBe e 0 1 = 1 && count = 1 && len % 8 = 0)

/-- The ADM_LAYOUT form of R450. -/
def admLayoutOk (b : List Byte) : Bool :=
  b.length = 52 && fieldBe b 0 1 = 1 && decide (1 ≤ fieldBe b 2 2) && decide (fieldBe b 2 2 ≤ 16384) &&
    (List.range 16).all fun d => decide (fieldBe b (4 + 2 * d) 2 ≤ 1024)

/-- Values of 0x2010–0x2050 in range. -/
def timeRange (idx sub : Nat) (b : List Byte) : Bool :=
  let v := ofBe b
  match idx, sub with
  | 0x2010, 0x07 => decide (v ≤ 1)
  | 0x2020, _ => decide (2500 ≤ v) && decide (v ≤ 40000)
  | 0x2040, _ => decide (25000 ≤ v) && decide (v ≤ 400000) && v % 1000 = 0
  | 0x2042, _ => decide (v ≤ 2)
  | _, _ => true

/-- Values of 0x3000–0x3131 in range (R368, R370, R395, R400, R584, R608). -/
def recoveryRange (idx sub : Nat) (b : List Byte) : Bool :=
  let v := ofBe b
  match idx, sub with
  | 0x3000, _ => decide (256 ≤ v)
  | 0x3020, 0 => v = 0 || decide (4 ≤ v)
  | 0x3100, _ => decide (2 ≤ v)
  | 0x3101, 0 => decide (2 ≤ v)
  | 0x3101, _ => decide (16 ≤ v)
  | 0x3102, _ => decide (1000 ≤ v) && decide (v ≤ 1000000)
  | 0x3120, 1 => decide (v ≤ 3)
  | _, _ => true

/-- Values of 0x4100–0x4205 in range (R258, R306). -/
def dumpRange (idx sub : Nat) (b : List Byte) : Bool :=
  let v := ofBe b
  match idx, sub with
  | 0x4104, _ => decide (v ≤ 1)
  | 0x4110, 0 => decide (1 ≤ v)
  | 0x4120, 3 => v % 4 = 0
  | 0x4120, 4 => decide (4 ≤ v) && decide (v ≤ 1024) && v % 4 = 0
  | _, _ => true

/-- Values of 0x5000–0x5022 in range (R514, R522, R540). -/
def traceRange (idx sub : Nat) (b : List Byte) : Bool :=
  let v := ofBe b
  match idx, sub with
  | 0x5001, _ => decide (v ≤ 1)
  | 0x5003, _ => v = 0 || decide (256 ≤ v)
  | 0x5020, 0 => v % 0x200000 = 0
  | 0x5021, _ => v % 0x800000 = 0 && decide (0x800000 ≤ v)
  | 0x5022, 0 => decide (v ≤ 1)
  | _, _ => true

/-- Values of 0x6000–0x7020 in range (R497, R547, R568–R572). -/
def powerRange (idx sub : Nat) (b : List Byte) : Bool :=
  let v := ofBe b
  match idx, sub with
  | 0x6000, 0 => decide (70 ≤ v) && decide (v ≤ 60000)
  | 0x6000, 1 => decide (v ≤ 2)
  | 0x6000, 2 => decide (2000 ≤ v) && decide (v ≤ 400000)
  | 0x7000, 0 => decide (v ≤ 16000)
  | 0x7000, 1 => decide (20 ≤ v) && decide (v ≤ 500)
  | 0x7000, 2 => decide (16 ≤ v) && decide (v ≤ 18)
  | 0x7000, 6 => decide (8 ≤ v) && decide (v ≤ 128)
  | 0x7010, 0x12 => (List.range 16).all fun k => decide (fieldBe b (3 * k + 2) 1 ≤ 4)
  | 0x7010, 0x13 => v = 100 || v = 400
  | 0x7020, 0 => permutationOf 4 (b.map fun x => x.toNat)
  | 0x7020, 3 => decide (1 ≤ v) && decide (v ≤ 1024)
  | _, _ => true

/-- Values of 0xA030–0xB020 in range. -/
def serviceRange (idx sub : Nat) (b : List Byte) : Bool :=
  let v := ofBe b
  match idx, sub with
  | 0xA030, 3 => v = 0 || v = 1 || v = 0xFF
  | 0xB000, 3 => admLayoutOk b
  | 0xB000, 4 => admSourceOk b
  | 0xB020, 1 => decide (v ≤ 2)
  | 0xB020, 3 => decide (4 ≤ v) && decide (v ≤ 1024)
  | _, _ => true

/-- A value fits its object's type and range (R8, R690). -/
def valueFits (r : ObjRow) (sub : Nat) (b : List Byte) : Bool :=
  (match r.type with
    | .bool => decide (ofBe b ≤ 1)
    | _ => true) &&
  (let block := r.idx / 4096
   if block = 2 then timeRange r.idx sub b
   else if block = 3 then recoveryRange r.idx sub b
   else if block = 4 then dumpRange r.idx sub b
   else if block = 5 then traceRange r.idx sub b
   else if block = 6 ∨ block = 7 then powerRange r.idx sub b
   else if block = 10 ∨ block = 11 then serviceRange r.idx sub b
   else true)

/-- A range of octets replaced (R630). -/
def overlay (value : List Byte) (off : Nat) (b : List Byte) : List Byte :=
  value.take off ++ b ++ value.drop (off + b.length)

/-! ## The option block (R600, R602, R692) -/

/-- The RWP objects. -/
def rwpObjects : List (Nat × Nat) :=
  [(0x2010, 0x0B)] ++ ((List.range 10).map fun k => (0x3000, k + 1)) ++
    [(0x3020, 0), (0x4204, 0), (0x4204, 1), (0x4205, 0), (0x4205, 1), (0x4205, 2), (0x7010, 0x12),
     (0x7010, 0x13)] ++ ((List.range 5).map fun k => (0xA020, k + 1)) ++ [(0xA030, 3)]

/-- The entries of the complete block. -/
def State.optionEntries (s : State) : List Staged :=
  rwpObjects.map fun o => ⟨o.1, o.2, s.objValue none none o.1 o.2⟩

/-- The digest of the five MGR_KEYS entries, an empty one as 97 zero octets (R662). -/
def keyDigest (keys : List (List Byte)) : List Byte :=
  Config.sha384 (keys.flatMap fun k => if k.isEmpty then zeros 97 else k)

/-- A digest joins a key store that holds none of it (R662, R664). -/
def KeyStore.withDigest (k : KeyStore) (d : List Byte) : KeyStore :=
  if k.digests.contains d then k else { k with digests := k.digests ++ [d] }

/-- The digest of the keys in force joins both stores before the block is written (R664). -/
def State.addDigest (s : State) : State :=
  if s.lc.storeA.digests.isEmpty && s.lc.mgrKeys.all List.isEmpty then s
  else
    let d := keyDigest s.lc.mgrKeys
    { s with lc := { s.lc with storeA := s.lc.storeA.withDigest d, storeB := s.lc.storeB.withDigest d } }

/-- Persist the RWP values: a write of the complete block starts, or the next one carries them. -/
def State.persistOptions (s : State) : State :=
  match s.flash.optionWriting with
  | none =>
    let s := s.addDigest
    { s with flash := { s.flash with
        optionWriting := some ⟨true, (s.flash.optionNow.generation + 1) % 2 ^ 32, s.optionEntries⟩
        optionDirty := false } }
  | some _ => { s with flash := { s.flash with optionDirty := true } }

/-! ## Taking a value -/

/-- PW_RAIL_MAP takes a value: a rail whose entry changes starts unread (R547). -/
def State.setRailMap (s : State) (b : List Byte) : State :=
  let rails := (List.range 16).foldl (fun t k =>
    let old := Tab.at t k Rail.fresh
    let a := fieldBe b (3 * k) 1
    let p := fieldBe b (3 * k + 1) 1
    let role := fieldBe b (3 * k + 2) 1
    if old.address = a ∧ old.page = p ∧ old.role = role then t
    else Tab.set t k Rail.fresh { Rail.fresh with address := a, page := p, role := role, sweptAt := s.elapsed })
    s.power.rails
  { s with power := { s.power with rails := rails, sweepRail := 0, sweepCommand := 0 } }

/-- A changed TICK_IN_MODE or TICK_IN_DELAY_PS is in force: the input qualifies again (R140). The last accepted edge
stays, from which R135 and R136 count on: the model's choice (log entry 155). -/
def State.tickAgain (s : State) : State :=
  let again (x : TickIn) : TickIn := { x with state := 1, goodCount := 0, outliers := 0 }
  let was := s.tb.tickIn.state = 2
  let wasStandby := s.tb.tickInStandby.state = 2
  let s : State := { s with tb := { s.tb with tickIn := again s.tb.tickIn
                                              tickInStandby := again s.tb.tickInStandby } }
  let s := if wasStandby then s.onShadow State.tickLost else s
  if was then s.tickLost else s

/-- TICK_OUT_MODE takes a value (R131): what is due up to the commit tick goes by the mode before it. -/
def State.setTickOut (s : State) (v : Nat) : State :=
  let old := match s.tb.tickOutOld with
    | some (t, m) => if t = s.frame.opened then m else s.tb.tickOutMode
    | none => s.tb.tickOutMode
  { s with tb := { s.tb with tickOutOld := some (s.frame.opened, old), tickOutMode := v } }

/-- FRAME_LEN_NS takes a value (R242). -/
def State.setFrameLen (s : State) (v : Nat) : State :=
  { s with frame := { s.frame with lenNext := if v = s.frame.lenNs then 0 else v } }

/-- Objects 0x2002–0x2050 take a value. -/
def State.putTime (s : State) (idx sub v : Nat) : State :=
  match idx, sub with
  | 0x2002, _ => { s with tb := { s.tb with taiSeconds := v } }
  | 0x2010, 0x01 => s.alsoStandby fun s => s.modServo fun x => { x with kp := v }
  | 0x2010, 0x02 => s.alsoStandby fun s => s.modServo fun x => { x with ki := v }
  | 0x2010, 0x07 => if v = s.tb.tickInMode then s else State.tickAgain { s with tb := { s.tb with tickInMode := v } }
  | 0x2010, 0x08 =>
    if toSigned 32 v = s.tb.tickInDelayPs then s
    else State.tickAgain { s with tb := { s.tb with tickInDelayPs := toSigned 32 v } }
  | 0x2010, 0x0B => { s with pod := { s.pod with gmPriority := v } }
  | 0x2010, 0x0D => { s with pod := { s.pod with taiResidual := toSigned 32 v } }
  | 0x2010, 0x13 => { s with pod := { s.pod with portMask := BitVec.ofNat 48 v } }
  | 0x2013, _ => { s with pod := { s.pod with asymLimitPs := v } }
  | 0x2020, _ => { s with pod := { s.pod with syncRate := v } }
  | 0x2040, _ => s.setFrameLen v
  | 0x2042, _ => s.setTickOut v
  | 0x2050, k =>
    if 33 ≤ k then s.putEntry (k - 33) { s.entry (k - 33) with param := v } else s
  | _, _ => s

/-- Objects 0x3000–0x3120 take a value. -/
def State.putRecovery (s : State) (idx sub v : Nat) : State :=
  match idx, sub with
  | 0x3000, k => { s with rst := { s.rst with gaps := setAt s.rst.gaps (k - 1) v } }
  | 0x3020, _ => { s with rst := { s.rst with stormLimit := v } }
  | 0x3100, _ => { s with hang := { s.hang with hbLimit := v } }
  | 0x3101, 0 => { s with hang := { s.hang with progLimit := v } }
  | 0x3101, _ => { s with hang := { s.hang with replayLimit := v } }
  | 0x3102, _ => { s with hang := { s.hang with drainNs := v } }
  | 0x3120, _ => { s with hang := { s.hang with ceiling := v } }
  | _, _ => s

/-- Objects 0x4100–0x4205 take a value; bit 0 of SO_TIERS reads 1 (R311). -/
def State.putDump (s : State) (idx sub : Nat) (b : List Byte) : State :=
  let v := ofBe b
  let q := s.qu
  let d := s.dump
  match idx, sub with
  | 0x4100, _ => { s with qu := { q with set := BitVec.ofNat 160 v } }
  | 0x4101, _ => { s with qu := { q with time := v } }
  | 0x4104, _ => { s with qu := { q with mode := v } }
  | 0x4110, 0 => { s with qu := { q with stepCycles := v } }
  | 0x4110, _ => { s with qu := { q with stepNet := v = 1 } }
  | 0x4111, _ => { s with qu := { q with resumeTime := v } }
  | 0x4120, 1 => { s with qu := { q with peekUid := v } }
  | 0x4120, 2 => { s with qu := { q with peekWindow := v } }
  | 0x4120, 3 => { s with qu := { q with peekOffset := v } }
  | 0x4120, _ => { s with qu := { q with peekLength := v } }
  | 0x4200, 0 => { s with dump := { d with tiers := (v % 8) ||| 1 } }
  | 0x4200, _ => { s with dump := { d with scope := BitVec.ofNat 128 v } }
  | 0x4203, 1 => { s with dump := { d with select := v } }
  | 0x4203, _ => { s with dump := { d with recordKey := setAt b 3 0 } }
  | 0x4204, 0 => { s with dump := { d with reserveBase := v } }
  | 0x4204, _ => { s with dump := { d with reserveBaseT2 := v } }
  | 0x4205, 0 => { s with dump := { d with reserveSize := v } }
  | 0x4205, 1 => { s with dump := { d with reserveSizeT2 := v } }
  | 0x4205, _ => { s with dump := { d with tier2Reserve := v = 1 } }
  | _, _ => s

/-- Objects 0x5000–0x5022 take a value; what follows for the taps and buffers comes once per group. -/
def State.putTrace (s : State) (idx sub : Nat) (b : List Byte) : State :=
  let v := ofBe b
  let t := s.trace
  match idx, sub with
  | 0x5000, _ => { s with trace := { t with enable := BitVec.ofNat 16384 v } }
  | 0x5001, _ => { s with trace := { t with mode := v } }
  | 0x5002, _ => { s with trace := { t with stall := BitVec.ofNat 16384 v } }
  | 0x5003, _ => { s with trace := { t with interval := v } }
  | 0x5010, k =>
    if k ≤ 0x10 then { s with trace := { t with rangeSets := Tab.set t.rangeSets (k - 1) rangeSetDefault b } }
    else { s with trace := { t with rangeMaps := Tab.set t.rangeMaps (k - 0x11) (zeros 512) b } }
  | 0x5020, _ => { s with trace := { t with base := v } }
  | 0x5021, _ => { s with trace := { t with size := v } }
  | 0x5022, _ => { s with trace := { t with policy := v } }
  | _, _ => s

/-- Objects 0x6000–0x7020 take a value. -/
def State.putPower (s : State) (idx sub : Nat) (b : List Byte) : State :=
  let v := ofBe b
  let p := s.power
  match idx, sub with
  | 0x6000, 0 => { s with bar := { s.bar with rate := v } }
  | 0x6000, 1 => { s with bar := { s.bar with standby := v } }
  | 0x6000, _ => { s with bar := { s.bar with waitNs := v } }
  | 0x6001, _ => { s with bar := { s.bar with seed := v } }
  | 0x6002, _ => { s with bar := { s.bar with formats := v % 512 } }
  | 0x6010, _ => { s with bar := { s.bar with eventSelect := v } }
  | 0x7000, 0 => { s with power := { p with budget := v } }
  | 0x7000, 1 => { s with power := { p with full := v } }
  | 0x7000, 2 => { s with power := { p with hubCap := v } }
  | 0x7000, 3 => { s with power := { p with thin := toSigned 16 v } }
  | 0x7000, 4 => { s with power := { p with hot := toSigned 16 v } }
  | 0x7000, 5 => { s with power := { p with crit := toSigned 16 v } }
  | 0x7000, 6 => { s with power := { p with floor := v } }
  | 0x7000, _ => { s with power := { p with droopMv := v } }
  | 0x7010, 0x12 => s.setRailMap b
  | 0x7010, _ => { s with power := { p with pmbKhz := v } }
  | 0x7020, 0 => { s with power := { p with priority := b.map fun x => x.toNat } }
  | 0x7020, _ => { s with power := { p with ageLimit := v } }
  | _, _ => s

/-- Objects 0x9001–0xB020 take a value; JOB_VIEW's age starts anew (R433). -/
def State.putService (s : State) (idx sub : Nat) (b : List Byte) : State :=
  let v := ofBe b
  let a := s.adm
  match idx, sub with
  | 0x9001, _ => { s with log := { s.log with readFrom := v } }
  | 0xA030, _ => { s with fw := { s.fw with bootSlot := v } }
  | 0xB000, 1 => { s with adm := { a with partner := v } }
  | 0xB000, 2 => { s with adm := { a with ports := BitVec.ofNat 48 v } }
  | 0xB000, 3 => { s with adm := { a with layout := setAt b 1 0 } }
  | 0xB000, 4 => { s with adm := { a with source := b } }
  | 0xB000, _ => { s with adm := { a with atStep := v } }
  | 0xB020, 1 => { s with fm := { s.fm with jobView := v, jobViewAt := s.frame.number } }
  | 0xB020, _ => { s with fm := { s.fm with disagreeLimit := v } }
  | _, _ => s

/-- An object takes a whole value. -/
def State.objPut (s : State) (idx sub : Nat) (b : List Byte) : State :=
  let block := idx / 4096
  if block = 2 then s.putTime idx sub (ofBe b)
  else if block = 3 then s.putRecovery idx sub (ofBe b)
  else if block = 4 then s.putDump idx sub b
  else if block = 5 then s.putTrace idx sub b
  else if block = 6 ∨ block = 7 then s.putPower idx sub b
  else s.putService idx sub b

/-- A write takes effect at acceptance; an RWP value is persisted (R641, R692). -/
def State.objWrite (s : State) (r : ObjRow) (sub : Nat) (b : List Byte) : State :=
  let s := s.objPut r.idx sub b
  if r.access = .rwp then s.persistOptions else s

/-! ## Commit groups (R213, R216–R219) -/

/-- Split values in staging order into groups of at most 64 objects and 2,048 octets (R213): groups
closed, newest first, and the open one. -/
def splitGroups : List Staged → List Staged → List (List Staged)
  | cur, [] => if cur.isEmpty then [] else [cur]
  | cur, v :: l =>
    let bytes := (cur.map fun x => x.bytes.length).sum
    if cur.length + 1 > 64 ∨ bytes + v.bytes.length > 2048 then
      if cur.isEmpty then splitGroups [v] l else cur :: splitGroups [v] l
    else splitGroups (cur ++ [v]) l

/-- Two intervals of bytes overlap. -/
def rangesMeet (a n b m : Nat) : Bool := decide (a < b + m) && decide (b < a + n)

/-- Bytes of a stack (R322, R523). -/
def stackBytes : Nat := 128000000000

/-- The trace buffer at `base`, `size` would break R523. -/
def State.bufferBad (s : State) (base size : Nat) : Bool :=
  decide (stackBytes < base + size) ||
    rangesMeet base size s.dump.reserveBase s.dump.reserveSize ||
    rangesMeet base size s.dump.reserveBaseT2 s.dump.reserveSizeT2

/-- The values that name an object of these indices. -/
def touches (l : List Staged) (idxs : List Nat) : List Staged := l.filter fun v => idxs.contains v.idx

/-- The first object at which a group fails, if it does (R219, R243, R523, R561): its index and
subindex. `t` is the state that the group's values would give. -/
def State.groupFails (s t : State) (l : List Staged) : Option (Nat × Nat) :=
  let len := if s.frameLenAt.isSome then
      (touches l [0x2040]).filter fun v => ofBe v.bytes ≠ s.frame.lenNext
    else []
  let buf := touches l [0x5020, 0x5021, 0x5022]
  let bufBad := if t.bufferBad t.trace.base t.trace.size || t.trace.enable ≠ 0 then buf else []
  let th := (touches l [0x7000]).filter fun v => decide (3 ≤ v.sub) && decide (v.sub ≤ 5)
  let thBad := if t.power.thin < t.power.hot ∧ t.power.hot < t.power.crit then [] else th
  let bad := len ++ bufBad ++ thBad
  (l.find? fun v => bad.contains v).map fun v => (v.idx, v.sub)

/-- The values of a group as they stand together, FRAME_LEN_NS under R243. -/
def State.putGroup (s : State) (l : List Staged) : State :=
  l.foldl (fun s v =>
    if v.idx = 0x2040 ∧ s.frameLenAt.isSome then s else s.objPut v.idx v.sub v.bytes) s

/-- A group is applied atomically: the buffers and TRACE_CTRL follow (R217, R525, R529). -/
def State.applyGroup (s : State) (l : List Staged) : State :=
  let s := s.putGroup l
  let s := if (touches l [0x5020, 0x5021, 0x5022]).isEmpty then s else s.resetBuffers
  if (touches l [0x5000, 0x5001, 0x5002, 0x5003, 0x5010]).isEmpty then s else s.traceSync

/-- The octets that name the objects of values: index and subindex each. -/
def objectList (l : List Staged) : List Byte := l.flatMap fun v => be 2 v.idx ++ be 1 v.sub

/-- Groups at a tick (R216, R218, R219): up to `n` eligible groups are applied, in order. -/
def State.runGroups : Nat → Nat → State → State
  | 0, _, s => s
  | _, 0, s => s
  | fuel + 1, n + 1, s =>
    match s.frame.groups.find? fun g => decide (g.eligible ≤ s.frame.number) with
    | none => s
    | some g =>
      let rest := s.frame.groups.erase g
      match s.groupFails (s.putGroup g.values) g.values with
      | some (idx, sub) =>
        let left := rest.filter fun x => x.setId ≠ g.setId
        let s := { s with frame := { s.frame with groups := left } }
        State.runGroups fuel (n + 1) (s.logged Code.commitFailed (be 2 idx ++ be 1 sub))
      | none =>
        let s := { s with frame := { s.frame with groups := rest } }
        let s := s.applyGroup g.values
        let s := if g.isLast && g.notify then s.notice 1 (be 8 s.frame.number) else s
        State.runGroups fuel n s

/-- The tick's commit of due groups. -/
def State.commitTick (s : State) : State := s.runGroups s.frame.groups.length 8

end Sys2Proof.Machine
end

