-- ==== Sys2Proof/Machine/Governor.lean ====
section
/-!
DEFINITION. The power governor as shared operations: temperatures, droop scale, the measured-power
correction, credits, the emergency level and the frame permit (R545–R546, R552–R564).
-/
namespace Sys2Proof.Machine

/-- A die's sensor record. -/
def State.dieSensors (s : State) (die : Nat) : DieSensors := Tab.at s.power.dies die DieSensors.fresh

/-- Change a die's sensor record. -/
def State.modDie (s : State) (die : Nat) (f : DieSensors → DieSensors) : State :=
  { s with power := { s.power with dies := Tab.mod s.power.dies die DieSensors.fresh f } }

/-- The temperature that the governor takes for a cluster, in 1/16 °C (R545, R546). -/
def State.clusterTemp (s : State) (c : Nat) : Int :=
  let d := s.dieSensors (c / 8)
  if d.stale || d.diodeFail.getLsbD (c % 8) then s.power.hot else d.diode.getD (c % 8) 0

/-- The runner of a die gives no readings: silent or in unit reset (R546). -/
def State.dieStale (s : State) (die : Nat) : Bool := s.runnerSilentNow die || (s.runner die).inReset

/-- The droop scale of a die at a tick (R560). -/
def droopStep (limit : Nat) (d : DieSensors) : DieSensors :=
  let trip := d.droopNew && d.droopMin.any fun v => decide (v < limit)
  { d with scale := if trip then Nat.max 4 (d.scale - 1) else Nat.min 8 (d.scale + 1), droopTrip := trip
           droopNew := false }

/-- The correction k at a tick, in 2⁻¹⁵ (R559); the quotient is rounded down. -/
def State.correction (s : State) : Nat :=
  let m := s.measuredW
  if m = 0 ∨ ¬ s.power.freshReading then s.power.k
  else if s.power.budget < m then s.power.k * s.power.budget / m
  else Nat.min 0x8000 (s.power.k + 512)

/-- Clusters in service for R558. -/
def State.servedClusters (s : State) : Nat := ((List.range 128).filter fun c => !s.clusterRouted c).length

/-- BASE of R558. -/
def State.baseCredit (s : State) : Nat :=
  let p := s.power
  Nat.min 255 (255 * (p.budget - p.hubCap) * p.k / (s.servedClusters * p.full * 0x8000))

/-- The credit of a cluster (R558). -/
def State.creditOf (s : State) (base c : Nat) : Nat :=
  let p := s.power
  if s.clusterRouted c then 0
  else
    let lo := Nat.min base p.floor
    let t := s.clusterTemp c
    let cr :=
      if p.crit ≤ t then 0
      else if p.hot ≤ t then lo
      else if p.thin < t then base - ceilDiv ((base - lo) * (t - p.thin).toNat) (p.hot - p.thin).toNat
      else base
    if t < p.hot then Nat.max lo (cr * (s.dieSensors (c / 8)).scale / 8) else cr

/-- The counts of R563 for a die at a tick. -/
def State.countHeat (s : State) (die : Nat) : State :=
  let p := s.power
  let hot := (List.range 8).map fun k =>
    let c := die * 8 + k
    if p.crit ≤ s.clusterTemp c ∧ Tab.at p.credits c 64 = 0 then
      (s.dieSensors die).hotTicks.getD k 0 + 1
    else 0
  let cool := (List.range 8).all fun k => decide (s.clusterTemp (die * 8 + k) < p.hot)
  s.modDie die fun d => { d with hotTicks := hot, coolTicks := if cool then d.coolTicks + 1 else 0 }

/-- The hottest cluster, the lowest number among equals. -/
def State.hottest (s : State) : Nat :=
  (List.range 128).foldl (fun b c => if s.clusterTemp b < s.clusterTemp c then c else b) 0

/-- Some cluster's temperature meets a bound. -/
def State.anyTemp (s : State) (p : Int → Bool) : Bool := (List.range 128).any fun c => p (s.clusterTemp c)

/-- PW_EMERGENCY and PW_EMERG_CAUSE at a tick, and PW_LEVEL (R562, R564). -/
def State.levelTick (s : State) : State :=
  let p := s.power
  let warm := s.anyTemp fun t => decide (p.thin < t)
  let droop := (List.range 16).any fun d => decide ((s.dieSensors d).scale < 8)
  let beyond := decide (p.k < 0x8000)
  let fail := (List.range 16).any fun d => (s.dieSensors d).diodeFail ≠ 0
  let level :=
    if p.holdDies ≠ 0 then 3
    else if s.anyTemp fun t => decide (p.hot ≤ t) then 2
    else if warm || droop || beyond then 1 else 0
  let cause := bit warm + 2 * bit droop + 4 * bit beyond + 8 * bit fail + 16 * bit p.railFault +
    32 * bit (p.holdDies ≠ 0)
  let before := p.emergency
  let s := { s with power := { p with emergency := level, cause := BitVec.ofNat 8 cause } }
  let detail := be 2 (tapUid s.hottest) ++ be 1 level
  if before < level ∧ 2 ≤ level then s.urged Code.pwLevel detail
  else if level < before then s.logged Code.pwLevel detail
  else s

/-- The governor's part of slot 0 (R546, R558–R564), with the objects as they stand before the tick's
commit (R571). -/
def State.governorTick (s : State) : State :=
  let s := (List.range 16).foldl (fun s d =>
    let stale := s.dieStale d
    s.modDie d fun x => droopStep s.power.droopMv { x with stale := stale }) s
  let s : State := { s with power := { s.power with k := s.correction, freshReading := false } }
  let base := s.baseCredit
  let credits := (List.range 128).foldl (fun t c => Tab.put t c (s.creditOf base c)) ([] : Tab Nat)
  let s : State := { s with power := { s.power with credits := credits } }
  State.levelTick ((List.range 16).foldl State.countHeat s)

/-- The 35 words of the permit (R552). -/
def State.permitWords (s : State) : List Nat :=
  let p := s.power
  let w0 := s.frame.number % 65536 * 65536 + p.budget
  let w1 := bit s.hub.riserActive * 2 ^ 26 + bit (p.holdDies ≠ 0) * 2 ^ 24 + p.emergency * 65536 +
    p.holdDies.toNat
  let cr := (List.range 32).map fun m =>
    let at_ (k : Nat) : Nat := Tab.at p.credits (4 * m + k) 64
    at_ 0 + at_ 1 * 256 + at_ 2 * 65536 + at_ 3 * 2 ^ 24
  let b := w0 :: w1 :: cr
  b ++ [crc32c (wordsLe b)]

/-- The permit is sent and accepted by every tap out of reset; it holds from boundary + 3,200 ns
(R552, R553). -/
def State.sendPermit (s : State) : State :=
  let s := s.emit .permit 0 (wordsLe s.permitWords)
  let s : State := { s with power := { s.power with permitFrame := s.frame.number } }
  (List.range 128).foldl (fun s c =>
    if (s.tap c).inReset then s
    else s.modTap c fun t =>
      { t with credit := Tab.at s.power.credits c 64, commHold := s.power.holdDies.getLsbD (c / 8)
               permitMissed := 0 }) s

/-- A tick wave without a permit: missed by every tap out of reset (R554). -/
def State.missPermit (s : State) : State :=
  (List.range 128).foldl (fun s c =>
    if (s.tap c).inReset then s
    else
      let n := (s.tap c).permitMissed + 1
      let s := s.modRunner (c / 8) fun r => { r with permitMiss := inc32 r.permitMiss }
      s.modTap c fun t => { t with permitMissed := n, credit := if 3 ≤ n then 64 else t.credit }) s

end Sys2Proof.Machine
end

