-- ==== Sys2Proof/Machine/Pmbus.lean ====
section
/-!
DEFINITION. The sweep of the board regulators over PMBus and its alerts (R547–R550).
-/
namespace Sys2Proof.Machine

/-- A rail record. -/
def State.rail (s : State) (k : Nat) : Rail := Tab.at s.power.rails k Rail.fresh

/-- Change a rail record. -/
def State.modRail (s : State) (k : Nat) (f : Rail → Rail) : State :=
  { s with power := { s.power with rails := Tab.mod s.power.rails k Rail.fresh f } }

/-- The commands of a rail's sweep (R548, R549). -/
def Rail.commands (r : Rail) : List Nat :=
  if r.role = 0 then []
  else [0x79] ++ (if r.exponent.isSome then [0x8B] else []) ++ [0x8C, 0x8D] ++ (if r.role = 1 then [0x97] else [])

/-- The commands at a place of the sweep: VOUT_MODE of a rail not yet known, or the rail's own. -/
def State.sweepCommands (s : State) (place : Nat) : List Nat :=
  let r := s.rail (place % 16)
  if place < 16 then (if r.role ≠ 0 ∧ r.exponent.isNone ∧ ¬ r.unsupported then [0x20] else []) else r.commands

/-- The next place after one: the VOUT_MODE pass comes once, the sweeps go round. -/
def nextPlace (place : Nat) : Nat := if place = 31 then 16 else place + 1

/-- The first place from one on that has commands. -/
def State.findPlace (s : State) : Nat → Nat → Nat
  | 0, p => p
  | n + 1, p => if (s.sweepCommands p).isEmpty then State.findPlace s n (nextPlace p) else p

/-- The rail and command of the transaction in progress, when a rail is mapped. -/
def State.pmbNext (s : State) : Option (Nat × Nat) :=
  let p := s.findPlace 48 s.power.sweepRail
  let k := if p = s.power.sweepRail then s.power.sweepCommand else 0
  (s.sweepCommands p)[k]?.map fun c => (p % 16, c)

/-- The value of a LINEAR11 word in units of 1/`scale` (PMBus 1.3). -/
def linear11 (w scale : Nat) : Int :=
  let m := toSigned 11 w
  let e := toSigned 5 (w / 2048)
  if 0 ≤ e then m * (2 ^ e.toNat * scale : Nat) else divRound (m * (scale : Nat)) (2 ^ (-e).toNat)

/-- The value of a LINEAR16 word in millivolts under an exponent. -/
def linear16 (w : Nat) (e : Int) : Nat :=
  if 0 ≤ e then w * 2 ^ e.toNat * 1000 else (divRound (w * 1000 : Nat) (2 ^ (-e).toNat)).toNat

/-- A 16-bit unsigned reading, saturated. -/
def sat16 (v : Int) : Nat := Nat.min v.toNat 0xFFFF

/-- A rail takes a reading. -/
def Rail.take (r : Rail) (command w : Nat) : Rail :=
  let r := { r with retried := false }
  if command = 0x20 then
    (if w / 32 % 8 = 0 then { r with exponent := some (toSigned 5 w) } else { r with unsupported := true })
  else if command = 0x79 then { r with statusWord := w, nak := false }
  else if command = 0x8B then { r with voutMv := sat16 (linear16 w (r.exponent.getD 0)) }
  else if command = 0x8C then { r with ioutDa := sat16 (linear11 w 10) }
  else if command = 0x8D then { r with temp := clampInt (-32768) 32767 (linear11 w 16) }
  else { r with pinW := sat16 (linear11 w 1) }

/-- STATUS of a rail whose sweep is complete. -/
def Rail.swept (r : Rail) (now : Nat) : Rail :=
  { r with sweptAt := now, status := if r.unsupported then 4 else if r.statusWord ≠ 0 then 3 else 0 }

/-- Bit RAIL_FAULT of PW_EMERG_CAUSE (R550, R562). -/
def State.setRailFault (s : State) (b : Bool) : State :=
  { s with power := { s.power with railFault := b, cause := setBit s.power.cause 4 b } }

/-- The sweep goes to the next place; at the end of a sweep in which every mapped rail read a zero
STATUS_WORD, RAIL_FAULT clears (R550). -/
def State.leavePlace (s : State) (place : Nat) : State :=
  let s : State := { s with power := { s.power with sweepRail := nextPlace place, sweepCommand := 0 } }
  let clean := (List.range 16).all fun k => (s.rail k).role = 0 || ((s.rail k).statusWord = 0 && !(s.rail k).nak)
  if 16 ≤ place ∧ (s.findPlace 48 (nextPlace place) ≤ place) ∧ clean then s.setRailFault false else s

/-- The next transaction is issued: address, page and command. -/
def State.pmbIssue (s : State) : State :=
  match s.pmbNext with
  | none => s
  | some (k, c) => s.emit .pmbus (s.rail k).address (be 1 (s.rail k).page ++ be 1 c)

/-- At the frame after it was cut off, the interrupted command is issued again (R86, R740), unless a test instruction
owns the pins. -/
def State.pmbAgain (s : State) : State :=
  if s.power.pmbReissue && !s.pins.jtagOwns then
    State.pmbIssue { s with power := { s.power with pmbReissue := false } }
  else s

/-- A transaction in progress is cut off (R86, R740): a STOP is issued, and the command waits for the next frame. -/
def State.pmbCut (s : State) : State :=
  let s := s.emit .pmbusStop 0 []
  { s with power := { s.power with pmbReissue := s.pmbNext.isSome } }

/-- The buses of the board after their owner has changed or a test has let go of the pins (R86, R740): QSPI_CS_N is high
for 100 ns before any flash access, a flash write in progress is started again, a STOP precedes the first PMBus
transaction, and the interrupted command is reissued in the next frame. -/
def State.busesAgain (s : State) : State :=
  let high := s.elapsed + 100 * Config.stepsPerNs
  ({ s with flash := { s.flash with selectHigh := high, readyAt := Nat.max high s.flash.readyAt
                                    persistSince := s.elapsed } }).pmbCut

/-- PMBUS_TRANSACTION_DONE (R548, R549): the transaction in progress has read a word, or has failed. -/
def execPmbusTransactionDone (dt : Nat) (read : PmbusWord) (s : State) : Host.Outcome State Fault Refusal :=
  let s := s.begin dt
  done (s.onlyIf (s.pmbNext = some (read.rail, read.command) && !s.power.pmbReissue && !s.pins.jtagOwns) fun s =>
    let place := s.findPlace 48 s.power.sweepRail
    let at_ := if place = s.power.sweepRail then s.power.sweepCommand else 0
    let k := read.rail
    let s : State := { s with power := { s.power with sweepRail := place, sweepCommand := at_ } }
    let s :=
      if read.ok then
        let last := at_ + 1 = (s.sweepCommands place).length
        let s := s.modRail k fun r => r.take read.command read.word
        let s : State := if read.command = 0x97 then
            { s with power := { s.power with freshReading := true } } else s
        if last then
          (if 16 ≤ place then s.modRail k fun r => r.swept s.elapsed else s).leavePlace place
        else { s with power := { s.power with sweepCommand := at_ + 1 } }
      else if !(s.rail k).retried then s.modRail k fun r => { r with retried := true }
      else
        let s := s.modRail k fun r => { r with retried := false, nak := true, status := 2 }
        (s.logged Code.pmbusNak (be 1 (s.rail k).address)).leavePlace place
    s.pmbIssue)

/-- PMB_ALERT (R550): the device at `addr` has answered the Alert Response Address, and its STATUS_WORD has
been read. -/
def execPmbAlert (dt addr status : Nat) (s : State) : Host.Outcome State Fault Refusal :=
  let s := s.begin dt
  let s := (List.range 16).foldl (fun s k =>
    if (s.rail k).role ≠ 0 ∧ (s.rail k).address = addr then
      s.modRail k fun r => { r with
        statusWord := status, status := if status ≠ 0 ∧ (r.status = 0 ∨ r.status = 1) then 3 else r.status }
    else s) s
  done ((s.setRailFault true).told Code.railFault (be 1 addr ++ be 2 status))

end Sys2Proof.Machine
end

