-- ==== Sys2Proof/Machine/PodTime.lean ====
section
/-!
DEFINITION. The pod time tree: SYNC messages, the election, the upstream, loopback, asymmetry, the
servo's command and the management-path label (chapter 04).
-/
namespace Sys2Proof.Machine

/-! ## Sending (R158, R165–R170) -/

/-- How far a port's counter stands from the active TBU, in 2⁻¹⁶ ns (R163): it is kept from the runner's replica, refined
with the fused wire trim and with a calibration whose result the spec leaves open, and held within ±0.02 ns (log entry
163). -/
def State.portError (s : State) (p : Nat) : Int :=
  clampInt (-1310) 1310 (((s.replica (runnerUid (portDie p))).clock.ns16 s.elapsed : Int) - s.pns16 +
    s.fuses.wireTrim.getD p 0 + toSigned 16 s.freeNow)

/-- A stamp of a port at the timestamp point, in 2⁻¹⁶ ns: one bit period is 512 units (R162). A runner whose replica is
COLD stamps nothing that counts as timed (R148). -/
def State.phyStamp (s : State) (p : Nat) : PortStamp :=
  { at_ := if (s.replica (runnerUid (portDie p))).state = .cold then none
           else some (((s.pns16 : Int) + s.portError p).toNat / 512 * 512)
    steps := s.pod.stepCount }

/-- A stamp as whole ns and fraction, 10 octets. -/
def stampOctets (t : Nat) : List Byte := be 8 (t / 65536) ++ be 2 (t % 65536)

/-- The SYNC message that a port sends under a SEQ (R158, R160, R169, R170): without an acceptable offer it names no
grandmaster (R158). -/
def State.syncMessage (s : State) (p seq : Nat) : List Byte :=
  let x := s.timePort p
  let v := s.pod.servo
  let up := (s.pod.upstream.map s.timePort).bind TimePort.offer
  let gm := s.pod.role = 1
  let none_ : Bool := !gm && s.bestOffer.isNone
  let prev := ((x.txStamps.find? fun t => t.1 = (seq + 65535) % 65536).map Prod.snd).bind PortStamp.at_
  let rx := x.lastRx.bind fun r => r.2.at_.map fun t => (r.1, t)
  let flags := 128 * bit (v.state = 3) + 64 * bit v.unresolved.isSome +
    32 * bit (if gm then s.ownTickRef else s.pod.tickRef) + 16 * bit prev.isSome +
    8 * bit rx.isSome + 4 * bit x.asking
  let prio := if gm then s.pod.gmPriority else (up.map Offer.priority).getD s.pod.gmPriority
  let bound := if none_ || s.pod.gmId = 0 then 0xFFFFFFFF else s.errorBound
  let loop := if x.measuring then 0xFFFFFFFF else x.ownLoop.getD 0xFFFFFFFF
  let b := be 1 0x11 ++ be 1 flags ++ be 2 seq ++ be 2 s.pod.pathId ++ be 1 (if none_ then 0xFF else s.pod.hops) ++ be 1 prio ++
    be 8 (if none_ then 0 else s.pod.gmId) ++ be 8 s.fuses.serial ++
    be 8 (if gm then 0 else (up.map Offer.senderId).getD 0) ++ stampOctets (prev.getD 0) ++
    be 2 ((rx.map Prod.fst).getD 0) ++ stampOctets ((rx.map Prod.snd).getD 0) ++
    be 2 s.pod.gmCount ++ be 4 bound ++ be 4 loop ++ zeros 4
  b ++ be 4 (crc32c b)

/-- SYNC_SEND (R159, R165): the next of the k messages of this frame on a port. -/
def execSyncSend (dt : Nat) (port : Nat) (s : State) : Host.Outcome State Fault Refusal :=
  let s := s.begin dt
  let k := s.syncPerFrame
  let n := Tab.at s.pod.syncIndex port 0
  done (s.onlyIf (s.portSends port && s.frame.ticked && decide (n < k) &&
      decide (n * s.frame.lenNs ≤ (s.pns - s.frame.opened) * k)) fun s =>
    let x := s.timePort port
    let seq := match x.seq with
      | some q => (q + 1) % 65536
      | none => 0
    let s := s.emit .sync (portUid port) (s.syncMessage port seq)
    let s := s.modTimePort port fun x =>
      { x with seq := some seq, txStamps := ((seq, s.phyStamp port) :: x.txStamps).take 64 }
    { s.drawn with pod := { s.pod with syncIndex := Tab.put s.pod.syncIndex port (n + 1) } })

/-! ## Receiving (R150–R157, R160, R161, R168, R172–R174, R186, R188) -/

/-- The offer that a SYNC makes; GM_COUNT advances when it differs from the one before under the
same GM_ID. -/
def State.offerFrom (s : State) (p : Nat) (m : List Byte) : Offer :=
  let flags := fieldBe m 1 1
  let gm := fieldBe m 8 8
  let count := fieldBe m 54 2
  let adv := match (s.timePort p).offer with
    | some o => if o.gmId = gm then (if o.gmCount ≠ count then some s.frame.number else o.advancedAt) else none
    | none => none
  { holdover := bitOf flags 7, asymUnresolved := bitOf flags 6, tickRef := bitOf flags 5
    pathId := fieldBe m 4 2, hops := fieldBe m 6 1, priority := fieldBe m 7 1, gmId := gm
    senderId := fieldBe m 16 8, upstreamId := fieldBe m 24 8, gmCount := count
    errorBound := fieldBe m 56 4, at_ := s.frame.number, advancedAt := adv }

/-- The upstream's SYNC is taken over (R156, R157, R168, R186). -/
def State.heardUpstream (s : State) (p : Nat) (o : Offer) : State :=
  let changed := s.pod.gmCount ≠ o.gmCount
  let path := o.pathId ≠ s.pod.seenPath || o.gmId ≠ s.pod.seenGm
  let old := s.pod.seenPath
  let s := s.follow p o
  let s := { s with pod := { s.pod with
    heardAt := if s.acceptable p o then s.frame.number else s.pod.heardAt
    gmChangedAt := if changed then s.frame.number else s.pod.gmChangedAt
    seenPath := o.pathId, seenGm := o.gmId } }
  if path then s.pathChange old o.pathId else s

/-- The peer's LOOP_DELAY_PS, and the end of LOOP_ASK (R188). -/
def peerLoopSeen (d : Nat) (x : TimePort) : TimePort :=
  { x with peerLoop := d, asking := x.asking && !(d ≠ 0xFFFFFFFF && x.peerWasUnknown)
           peerWasUnknown := x.peerWasUnknown || d = 0xFFFFFFFF }

/-- The stamps t1–t4 of an exchange (R173), in 2⁻¹⁶ ns, if the SYNC completes one. A time step executed between the two
stamps of this hub takes it away (R174). -/
def TimePort.exchange (x : TimePort) (m : List Byte) : Option (Nat × Nat × Nat × Nat) :=
  let flags := fieldBe m 1 1
  let seq := fieldBe m 2 2
  match x.lastRx, x.txStamps.find? fun t => t.1 = fieldBe m 42 2 with
  | some (q, ⟨some t2, n2⟩), some (_, ⟨some t3, n3⟩) =>
    if bitOf flags 4 && bitOf flags 3 && q = (seq + 65535) % 65536 && n2 = n3 then
      some (fieldBe m 32 8 * 65536 + fieldBe m 40 2, t2, t3, fieldBe m 44 8 * 65536 + fieldBe m 52 2)
    else none
  | _, _ => none

/-- The sample of an exchange, unless R174 discards it. -/
def State.takeExchange (s : State) (e : Nat × Nat × Nat × Nat) : State :=
  let (t1, t2, t3, t4) := e
  let lo := Nat.min (Nat.min t1 t2) (Nat.min t3 t4)
  let hi := Nat.max (Nat.max t1 t2) (Nat.max t3 t4)
  let straddles := s.pod.stepsDone.any fun a => decide (lo < a) && decide (a ≤ hi)
  let rt : Int := ((t2 : Int) - t1) + ((t4 : Int) - t3)
  if straddles || decide (rt < 0) then s
  else s.linkSample (nsOf16 (((t2 : Int) - t1) - ((t4 : Int) - t3)) / 2) (nsOf16 rt)

/-- A valid SYNC on a time port. -/
def State.syncIn (s : State) (p : Nat) (m : List Byte) : State :=
  let stamp := s.phyStamp p
  let s := s.drawn
  let before := s.timePort p
  let o := s.offerFrom p m
  let s := s.modTimePort p fun x =>
    { peerLoopSeen (fieldBe m 60 4) x with lastRx := some (fieldBe m 2 2, stamp), offer := some o }
  let s := if bitOf (fieldBe m 1 1) 2 && !(s.timePort p).measuring then s.startLoop p else s
  let s := if s.pod.upstream = some p then s.heardUpstream p o else s
  let s :=
    if s.pod.role = 1 then
      if s.acceptable p o && rankAbove (o.rank p) s.ownRank then
        State.takeUpstream { s with pod := { s.pod with role := 2 } } p
      else s
    else
      match s.pod.upstream with
      | some _ => s
      | none =>
        match s.bestOffer with
        | some q => s.takeUpstream q
        | none => s
  if s.pod.upstream = some p && s.pod.role ≠ 1 then
    match before.exchange m with
    | some e => s.takeExchange e
    | none => s
  else s

/-- SYNC_RECEIVE (R159–R161). -/
def execSyncReceive (dt : Nat) (port : Nat) (msg : List Byte) (s : State) : Host.Outcome State Fault Refusal :=
  done ((s.begin dt).onlyIf (decide (port < 48) && (s.timeLink port)) fun s =>
    if msg.length = 72 ∧ fieldBe msg 68 4 = crc32c (msg.take 68) then
      if fieldBe msg 0 1 = 0x11 then s.alsoStandby fun s => s.syncIn port msg else s
    else s.modTimePort port fun x => { x with syncCrc := inc32 x.syncCrc })

/-! ## The election and the upstream (R152–R157) -/

/-- What becoming grandmaster does to a servo (R178, R179): a manager that TICK_IN does not steer runs FREE. -/
def State.servoAlone (s : State) : State :=
  let s := s.modServo fun v =>
    { v with windowFrom := none, windowEnded := none, retrying := false, samples := [], unresolved := none
             reasons := v.reasons.filter fun r => r ≠ Why.pathChange && r ≠ Why.upstreamLost && r ≠ Why.gmLost
             exitSamples := [] }
  if s.tickSteers then s
  else s.modServo fun v => { v with state := 0, reasons := [], slewLeft := 0, resuming := false }

/-- GM_DECLARE (R152, R153, R178, R185). -/
def execGmDeclare (dt : Nat) (s : State) : Host.Outcome State Fault Refusal :=
  let s := s.begin dt
  let ready := match s.pod.candidateSince with
    | some f => decide (f + 16 ≤ s.frame.number)
    | none => false
  done (s.onlyIf (s.pod.role = 2 && ready && !s.betterThanSelf) fun s =>
    let bound := s.errorBound
    let s : State := { s with pod := { s.pod with
      role := 1, gmId := s.fuses.serial, hops := 0, pathId := 0, upstream := none, seenPath := 0
      seenGm := s.fuses.serial, candidateSince := none, upBound := 0, boundOf := s.fuses.serial } }
    let s : State := { s with pod := { s.pod with tickRef := s.ownTickRef } }
    (s.logged Code.gmChange (be 4 bound)).alsoStandby State.servoAlone)

/-- The upstream is free to change (R155): there is none, or some other port's offer has ranked above its own in 16
consecutive frames. -/
def State.upstreamOpen (s : State) : Bool :=
  match s.pod.upstream with
  | none => true
  | some u => (List.range 48).any fun p => p ≠ u && decide (16 ≤ (s.timePort p).betterFrames)

/-- UPSTREAM_RESELECT (R155): the best-ranked offer becomes the upstream once another port has ranked above the present
one for 16 frames. -/
def execUpstreamReselect (dt : Nat) (s : State) : Host.Outcome State Fault Refusal :=
  let s := s.begin dt
  done (match s.bestOffer with
    | none => s
    | some q =>
      s.onlyIf (s.pod.role ≠ 1 && s.pod.upstream ≠ some q && s.upstreamOpen) fun s =>
        s.alsoStandby fun s => s.takeUpstream q)

/-- Choose the best remaining offer, or be left without an upstream (R156–R158). -/
def State.reselect (s : State) : State :=
  match s.bestOffer with
  | some q => s.takeUpstream q
  | none => s.dropUpstream

/-- UPSTREAM_LOST (R156, R179). -/
def execUpstreamLost (dt : Nat) (s : State) : Host.Outcome State Fault Refusal :=
  let s := s.begin dt
  done (match s.pod.upstream with
    | none => s
    | some p =>
      s.onlyIf (s.pod.role ≠ 1 && decide (s.pod.heardAt + 4 ≤ s.frame.number)) fun s =>
        let s := s.told Code.upstreamLost (be 2 (portUid p))
        (s.modTimePort p fun x => { x with offer := none }).alsoStandby fun s =>
          (s.holdover Why.upstreamLost).reselect)

/-- GM_LOST (R157, R179): offers of the lost grandmaster count again from their next advance. -/
def execGmLost (dt : Nat) (s : State) : Host.Outcome State Fault Refusal :=
  let s := s.begin dt
  done (match s.pod.upstream with
    | none => s
    | some _ =>
      s.onlyIf (s.pod.role ≠ 1 && decide (s.pod.gmChangedAt + 8 ≤ s.frame.number)) fun s =>
        let gm := s.pod.gmId
        let s := s.told Code.gmLost (be 8 gm)
        let s : State := { s with pod := { s.pod with
          ports := s.pod.ports.map fun e => (e.1, { e.2 with offer := e.2.offer.map fun o =>
            if o.gmId = gm then { o with advancedAt := none } else o })
          candidateSince := if s.pod.role = 2 then some s.frame.number else none } }
        s.alsoStandby fun s => (s.holdover Why.gmLost).reselect)

/-! ## Links (R168, R172, R186) -/

/-- LINK_TRAINED: the generation advances, the fibre is measured, and an upstream's training is a
path change. -/
def execLinkTrained (dt : Nat) (port : Nat) (s : State) : Host.Outcome State Fault Refusal :=
  done ((s.begin dt).onlyIf (decide (port < 48)) fun s =>
    let s := s.modPort port fun x => { x with linkUp := true }
    let s := s.modTimePort port fun x => { x with generation := (x.generation + 1) % 256 }
    let s := s.startLoop port
    let s : State := if s.pod.role = 2 && s.pod.candidateSince.isNone && s.timeLink port then
        { s with pod := { s.pod with candidateSince := some s.frame.number } }
      else s
    if s.pod.upstream = some port && s.pod.role ≠ 1 then
      let s := match (s.timePort port).offer with
        | some o => s.follow port o
        | none => s
      s.alsoStandby fun s => s.pathChange s.pod.seenPath s.pod.seenPath
    else s)

/-- LINK_DOWN (R159): the port no longer carries time-link messages. -/
def execLinkDown (dt : Nat) (port : Nat) (s : State) : Host.Outcome State Fault Refusal :=
  done ((s.begin dt).onlyIf (decide (port < 48)) fun s =>
    s.modPort port fun x => { x with linkUp := false })

/-- The median of the measurements, in ps (R172): each is (back − out) / 2 in 2⁻¹⁶ ns. -/
def loopResult (halves : List Nat) : Nat :=
  (psOf (medianRat (halves.map fun (h : Nat) => nsOf16 (h : Int)))).toNat % 2 ^ 32

/-- LOOP_MEASURE_DONE (R172, R189). -/
def execLoopMeasureDone (dt : Nat) (port : Nat) (halves : List Nat) (s : State) : Host.Outcome State Fault Refusal :=
  let s := s.begin dt
  done (s.onlyIf ((s.timePort port).measuring) fun s =>
    (s.modTimePort port fun x =>
      { x with measuring := false, ownLoop := some (loopResult halves) }).alsoStandby State.asymDecide)

/-! ## The discard window and asymmetry (R187–R191) -/

/-- Measure the upstream fibre and ask the peer for the same (R188, R191). -/
def State.askLoop (s : State) : State :=
  match s.pod.upstream with
  | none => s
  | some p =>
    let s := s.startLoop p
    s.modTimePort p fun x => { x with asking := true, peerWasUnknown := x.peerLoop = 0xFFFFFFFF }

/-- The discard window ends when its 8 frames are over (R187, R188). -/
def State.endWindow (s : State) : State :=
  match s.pod.servo.windowFrom with
  | none => s
  | some f =>
    s.onlyIf (decide (f + 8 ≤ s.frame.number)) fun s =>
      (s.modServo fun v =>
        { v with windowFrom := none, windowEnded := some s.frame.number, samples := [] }).askLoop

/-- DISCARD_WINDOW_END (R187, R188). -/
def execDiscardWindowEnd (dt : Nat) (s : State) : Host.Outcome State Fault Refusal :=
  done ((s.begin dt).alsoStandby State.endWindow)

/-- ASYM_TIMEOUT (R190): the peer's delay still reads unknown 16 frames after the window. -/
def execAsymTimeout (dt : Nat) (s : State) : Host.Outcome State Fault Refusal :=
  done ((s.begin dt).alsoStandby State.asymDecide)

/-- The loopback is tried again (R191): every 1,024 frames while the asymmetry is unresolved. -/
def State.retryAsym (s : State) : State :=
  let v := s.pod.servo
  s.onlyIf (v.unresolved.isSome && v.windowFrom.isNone && v.windowEnded.isNone &&
      decide (v.retryAt + 1024 ≤ s.frame.number)) fun s =>
    (s.modServo fun v => { v with retrying := true, samples := [], retryAt := s.frame.number }).askLoop

/-- ASYM_RETRY (R191). -/
def execAsymRetry (dt : Nat) (s : State) : Host.Outcome State Fault Refusal :=
  done ((s.begin dt).alsoStandby State.retryAsym)

/-- What a write of ServoRestart does, and its answer. -/
def State.cmdServoRestart (s : State) (value : Nat) : Reply :=
  if value = 1 then (s.alsoStandby State.servoRestart).accept else s.refuse Abort.valueRange

/-- SERVO_RESTART (R179): value 1; others are refused. -/
def execServoRestart (dt : Nat) (req : Req) (value : Nat) (s : State) : Host.Outcome State Fault Refusal :=
  done ((s.begin dt).serve req 0x2010 0x0A .write fun _ s => s.cmdServoRestart value)

/-! ## The management-path label (R195–R200) -/

/-- The payload of a TIME frame (R195): SUBTYPE 1 QUERY, whose two times are 0, or 2 ANSWER. -/
def timePayload (subtype querySeq t2 t3 : Nat) : List Byte :=
  be 1 subtype ++ be 1 0 ++ be 2 querySeq ++ be 8 t2 ++ be 8 t3 ++ zeros 4

/-- TIME_QUERY (R195, R196, R627): T2 is the PNS of the receive interrupt, T3 comes from the queue. -/
def execTimeQuery (dt : Nat) (req : Req) (s : State) : Host.Outcome State Fault Refusal :=
  done (match (s.begin dt).admitReq req with
    | (s, none) => s
    | (s, some c) =>
      match s.sessionOf c with
      | none => s
      | some x =>
        s.sendIn .timeAnswer x 9 0 0 (timePayload 2 c.seq s.pns 0))

/-- TIME_ANSWER (R200): firmware places the epoch against TAI. -/
def execTimeAnswer (dt : Nat) (t1 t2 t3 t4 : Nat) (s : State) : Host.Outcome State Fault Refusal :=
  let s := s.begin dt
  let e : Int := (((t2 : Int) - t1) + ((t3 : Int) - t4)) / 2
  done { s with tb := { s.tb with taiSeconds := ofSigned 64 (e / 1000000000) }
                pod := { s.pod with taiResidual := e % 1000000000 } }

/-- TXTS_STAMP (R197, R199). -/
def execTxtsStamp (dt : Nat) (id : Nat) (s : State) : Host.Outcome State Fault Refusal :=
  let s := s.begin dt
  done (if s.pod.txts.length < 16 then
      { s with pod := { s.pod with txts := s.pod.txts ++ [(id % 65536, s.pns)] } }
    else { s with pod := { s.pod with txtsOverflow := inc32 s.pod.txtsOverflow } })

/-- TXTS_QUEUE_POP (R198): the oldest entry, removed; with none held the content is open. -/
def execTxtsQueuePop (dt : Nat) (req : Req) (s : State) : Host.Outcome State Fault Refusal :=
  done ((s.begin dt).serve req 0x2030 1 .read fun _ s =>
    match s.pod.txts with
    | [] => ⟨s.drawn, Abort.ok, be 10 s.freeNow⟩
    | (id, t) :: rest =>
      ⟨{ s with pod := { s.pod with txts := rest } }, Abort.ok, be 2 id ++ be 8 t⟩)

end Sys2Proof.Machine
end

