-- ==== Sys2Proof/Machine/TakeoverOps.lean ====
section
/-!
DEFINITION. Starting a takeover, losing the standby, restarting the firmware, and what they do to a
firmware update (R53, R55, R70, R74, R80, R81, R658).
-/
namespace Sys2Proof.Machine

/-- A firmware update ends FAILED with a reason (R658). -/
def State.failUpdate (s : State) (reason : Nat) : State :=
  State.logged { s with fw := { s.fw with state := 7, reason := reason } } Code.fwUpdateFailed (be 1 reason)

/-- An update in progress is interrupted: the standby boots from the slot that its active core runs (R658). -/
def State.interruptUpdate (s : State) : State :=
  if 3 ≤ s.fw.state ∧ s.fw.state ≤ 5 then
    (s.modCore s.standbyCore fun c => { c with wantSlot := none }).failUpdate 3
  else s

/-- A TICK_OUT edge falls due within 100 ns of a PNS. -/
def State.edgeNear (s : State) (w : Nat) : Bool :=
  match s.tickOutPeriod (s.tickOutModeAt w) with
  | none => false
  | some p => decide (w % p ≤ 100) || decide (p - w % p ≤ 100)

/-- W of a takeover that starts now (R74), in elapsed steps: a wave of the sync network. -/
def State.switchInstant (s : State) : Nat :=
  let w := roundUp (s.elapsed + 1000 * Config.stepsPerNs) Config.stepsPerWave
  (((List.range 6).map fun k => w + Config.stepsPerWave * k).find? fun v => !s.edgeNear (s.tb.active.ns v)).getD w

/-- The standby core can enter the active path: its firmware runs and it is not lost (R81). -/
def State.standbyThere (s : State) : Bool :=
  (s.hub.core s.standbyCore).proc = .running && !(s.hub.core s.standbyCore).heldInReset &&
    s.health (coreUid s.standbyCore) ≠ 4

/-- The standby's count from S on (R74): it holds its phase and frequency. -/
def State.standbyHold (s : State) : State :=
  let c := s.standbyNow
  { s with tb := { s.tb with standby := { c.settle s.elapsed with slew := 0 } } }

/-- A takeover starts at S (R74), unless one is in progress or no standby is there. -/
def State.takeoverStart (s : State) (t : TakeoverTrigger) : State :=
  if s.hub.takeover.isSome || !s.standbyThere then s
  else
    let s := if t = .roleSwap && s.fw.state = 4 then s else s.interruptUpdate
    let k : Takeover :=
      { trigger := t, start := s.pns, switchAt := s.switchInstant, phase := 0
        shadowReady := s.shadowReady, stepPs := 0, lostObjects := []
        ladle := s.dump.slots, shakeout := s.dump.running
        logNext := s.logSeq.next, logWaiting := s.log.waiting.length, logHead := s.log.head }
    let s := s.standbyHold
    { s with hub := { s.hub with takeover := some k } }

/-- The standby is lost (R80). -/
def State.standbyLost (s : State) : State :=
  let uid := coreUid s.standbyCore
  (s.setHealth uid 4).urged Code.standbyLost (be 2 uid)

/-- The open change sets of on-chip requesters that are reset are discarded (R221). -/
def State.dropSets (s : State) (gone : Nat → Bool) : State :=
  { s with frame := { s.frame with sets := s.frame.sets.filter fun x =>
      match x.writer with
      | .chip uid => !gone uid
      | .session _ => true } }

/-- FW_WATCHDOG (R81): the active management processor restarts from the active slot. -/
def State.firmwareRestart (s : State) : State :=
  let s := s.modCore s.activeCore fun c =>
    { c with proc := .bootRom, lockstepFault := false, wantSlot := some c.fwSlot }
  let uid := s.activeUid
  ((s.dropSets fun u => u = uid).logged Code.fwWatchdog (be 2 uid)).interruptUpdate

/-- The firmware of a core has been running, so that its heartbeat is watched: neither in reset nor in
its self-check or boot ROM. -/
def HubCore.watched (c : HubCore) : Bool := c.proc = .running || c.proc = .halted || c.proc = .failed

/-- A core's heartbeat register over a frame: running firmware may have advanced it. -/
def HubCore.beat (c : HubCore) (advanced : Bool) : HubCore :=
  { c with heartbeatPrev := c.heartbeat
           heartbeat := if advanced && c.proc = .running then (c.heartbeat + 1) % 2 ^ 32 else c.heartbeat }

/-- The register has not changed since the previous tick (R55). -/
def HubCore.stopped (c : HubCore) : Bool := c.watched && c.heartbeat = c.heartbeatPrev

/-- The heartbeat registers of both cores over the frame that ends (R54). -/
def State.beatTick (s : State) (beatA beatR : Bool) : State :=
  { s with hub := { s.hub with hubA := s.hub.hubA.beat beatA, riser := s.hub.riser.beat beatR } }

/-- The watchdogs at a tick (R55, R74, R80, R81). -/
def State.watchdogTick (s : State) : State :=
  let gone := s.health (coreUid s.standbyCore) = 4
  let s := if (s.hub.core s.standbyCore).stopped && !gone && s.hub.takeover.isNone then s.standbyLost else s
  if (s.hub.core s.activeCore).stopped && s.hub.takeover.isNone then
    if s.health (coreUid s.standbyCore) = 4 then
      if (s.hub.core s.activeCore).proc = .running then s.firmwareRestart else s
    else s.takeoverStart .heartbeat
  else s

/-- Shadow readiness at a tick, and the standby's UNIT_HEALTH (R70). A mirror write is acknowledged at once while the
standby's processor runs, and not while it does not (log entry 147). -/
def State.shadowTick (s : State) : State :=
  let near := s.standbyClose
  let s := s.modCore s.standbyCore fun c =>
    { c with closeFrames := if near && !c.strayed then c.closeFrames + 1 else 0, strayed := false
             mirrorStale := c.proc ≠ .running }
  let uid := coreUid s.standbyCore
  if s.health uid ≤ 1 then s.setHealth uid (if s.shadowReady then 0 else 1) else s

end Sys2Proof.Machine
end

