-- ==== Sys2Proof/Machine/FrameTick.lean ====
section
/-!
DEFINITION. The frame tick, the frame reports and what hangs on them: sensors, holds, the freeze of
the commit queue (R55, R56, R204–R219, R369, R372, R544–R546, R552–R564).
-/
namespace Sys2Proof.Machine

/-- Slot `k` of the running frame has begun (R207). -/
def State.slotBegun (s : State) (k : Nat) : Bool :=
  s.frame.ticked && decide (s.frame.opened + k * s.frame.lenNs / 16 ≤ s.pns)

/-- Slot `k` runs (R207). -/
def State.inSlot (s : State) (k : Nat) : Bool := s.slotBegun k && !s.slotBegun (k + 1)

/-- Reports that did not come (R372): a runner out of reset whose report of the last tick is missing; every one owes
the report of this tick (R56). -/
def State.missTick (s : State) : State :=
  (List.range 16).foldl (fun s d =>
    if (s.runner d).inReset then s
    else s.modRunner d fun r =>
      { r with missed := if r.reported then 0 else r.missed + 1, reported := false }) s

/-! ## Work carried over (R209) -/

/-- Job codes of the table before R565. -/
def Job.traceDrain : Nat := 0
def Job.tier2 : Nat := 1
def Job.sampling : Nat := 2
def Job.fettle : Nat := 3

/-- Stacked-memory stores of a lifecycle change still to fettle: trace, reserve, stacks (R675). -/
def State.lcFettleDue (s : State) : Bool := s.lc.storeA.fettlePending && s.lc.fettleLeft &&& ~~~s.lc.fettleFail &&& 0x34 ≠ 0

/-- Fettling is queued (R362, R396, R457, R675). -/
def State.fettleDue (s : State) : Bool :=
  !s.dump.fettle.isEmpty || !s.hang.fettling.isEmpty || s.lcFettleDue || s.adm.state = 6 ||
    s.hang.contexts.any fun e => e.2 / 256 = Cx.retired

/-- An admitted job. -/
def State.jobAdmitted (s : State) (j : Nat) : Bool := s.power.admitted.getLsbD j

/-- PNS of slot 2 of the running frame. -/
def State.slotTwo (s : State) : Nat := s.frame.opened + 2 * s.frame.lenNs / 16

/-- Work of a slot class that its last slot leaves unfinished: evaluations (slot 1), the governor's choice (slot 2), the
background jobs whose work ends (slots 3–14), log writes (slot 15). TRACE_DRAIN and SAMPLING are streams and leave
none (log entry 166). -/
def State.workLeft (s : State) : Bool :=
  !s.hang.evalDue.isEmpty || s.power.periodStart ≠ s.slotTwo || (s.jobAdmitted Job.tier2 && s.dump.status = 3) ||
    (s.jobAdmitted Job.fettle && s.fettleDue) || !s.log.waiting.isEmpty

/-- The carry-over accounting of a frame (R208, R209). -/
def State.carryTick (s : State) : State :=
  if s.workLeft && !s.frame.carried then
    { s with frame := { s.frame with carryCount := inc32 s.frame.carryCount, carried := true } }
  else s

/-- Slot 15 (R208, R215): closing log writes, carry-over accounting, the commit queue frozen. -/
def State.slotFifteen (s : State) : State :=
  let s := (s.drainLog s.log.waiting.length).carryTick
  { s with frame := { s.frame with frozen := true } }

/-- A header block at the frame boundary, once the buffer has been reset (R527, R538). -/
def State.headerTick (s : State) : State :=
  (List.range 16).foldl (fun s d => if (s.sink d).header.isEmpty then s else s.writeHeader d) s

/-- A QUENCH_IN that was counted is logged at the tick (R732). -/
def State.quenchInTick (s : State) : State :=
  if 0 < s.pins.quenchCount then
    let p := s.pins
    State.urged { s with pins := { p with quenchCount := 0, quenchLogFrame := some s.frame.number } }
      Code.quenchIn (be 4 p.quenchCount ++ be 8 p.quenchFirst)
  else s

/-- The frame opens: FRAME_NUMBER, the tick wave, the queue thaws (R204, R205, R215). -/
def State.openFrame (s : State) : State :=
  let f := s.frame
  let n := if f.ticked then f.number + 1 else 0
  let s := { s with frame := { f with
    number := n, ticked := true, opened := f.nextTick, nextTick := f.nextTick + f.lenNs
    frozen := false, carried := false } }
  s.emit .tickWave 0 (be 8 s.frame.opened)

/-- The evaluation of frame `n`'s reports becomes due. -/
def Hang.dueFor (n : Nat) (h : Hang) : Hang := { h with evalDue := h.evalDue ++ [n] }

/-- The limits of the hang evaluation that hold from a tick on. -/
def Hang.limitTick (h : Hang) : Hang := { h with hbLimitNow := h.hbLimit, progLimitNow := h.progLimit }

/-- The permit of slot 0 (R552), missed while the active core does not run. -/
def State.permitTick (s : State) : State :=
  if (s.hub.core s.activeCore).proc = .running && s.rst.released.getLsbD 5 then s.sendPermit else s.missPermit

/-- What the active core's slot 0 does at a tick, apart from the tick itself. -/
def State.slotZero (s : State) (beatA beatR : Bool) : State :=
  let s : State := { s with hang := s.hang.dueFor s.frame.number }
  let s := s.governorTick
  let s := s.missTick
  let s := s.traceBoundary s.frame.opened
  let s := s.commitTick
  let s : State := { s with hang := s.hang.limitTick }
  let s := s.permitTick.traceScopesSync
  let s := s.headerTick
  let s := s.podTick.alsoStandby State.slewStep
  let s := ((s.beatTick beatA beatR).shadowTick.watchdogTick).quenchInTick
  s.pmbAgain

/-- FRAME_TICK (R204): a frame boundary that the active core's PNS has reached; the work of a slot 15 that was passed
over is done first. `beatA` and `beatR`
say whether each core's firmware has advanced its heartbeat register in the frame that ends (R54). -/
def execFrameTick (dt : Nat) (beatA beatR : Bool) (s : State) : Host.Outcome State Fault Refusal :=
  let s := s.begin dt
  done (s.onlyIf (s.tb.active.counting && decide (s.frame.nextTick ≤ s.pns)) fun s =>
    let s := if s.frame.ticked && !s.frame.frozen then s.slotFifteen else s
    s.openFrame.slotZero beatA beatR)

/-! ## Frame reports -/

/-- Sensor readings of a report (R544, R545): an invalid reading leaves the latest valid one standing. -/
def reportSensors (r : ScanRep) (d : DieSensors) : DieSensors :=
  let bad (v : Int) : Bool := decide (v < -640) || decide (2400 < v)
  { d with
    diode := (List.range 8).map fun k =>
      if bad (r.diodes.getD k 0) then d.diode.getD k 0 else r.diodes.getD k 0
    droopMin := r.droops
    droopNew := true
    invalid := (List.range 8).map fun k =>
      if bad (r.diodes.getD k 0) then d.invalid.getD k 0 + 1 else 0
    diodeFail := (List.range 8).foldl (fun b k => if bad (r.diodes.getD k 0) then b else setBit b k false)
      d.diodeFail }

/-- What a tap has answered to the scan, or that it has not (R39, R67): a cluster in reset reads 0. -/
def State.scanTap (s : State) (c : Nat) (beat : Option Nat) : State :=
  match beat with
  | none => s.setHealth (tapUid c) 4
  | some h =>
    let s := if s.health (tapUid c) = 4 then s.setHealth (tapUid c) 0 else s
    s.modTap c fun x => { x with heartbeat := if x.inReset then 0 else h }

/-- The scan of an engine: its PROGRESS word as its tap reads it (R39), and whether its slot's CORE_CLOCK bit is 1 and
its half not chilled (R369, log entry 153). -/
def State.scanEngine (s : State) (die : Nat) (e : EngineReport) : EngineReport × Bool :=
  let c := die * 8 + e.engine / 544
  ({ e with progress := if (s.tap c).inReset then 0 else e.progress },
   s.slotRuns c (e.engine % 544 / 4) && !s.chilled c)

/-- The scan and the sensors of a report, as the hub keeps them until it evaluates them (R208). -/
def State.scanRep (s : State) (die : Nat) (rep : FrameRep) : ScanRep :=
  { beats := (List.range 8).map fun k =>
      (rep.beats.getD k none).map fun h => if (s.tap (die * 8 + k)).inReset then 0 else h
    engines := rep.engines.map (s.scanEngine die), diodes := rep.diodes, droops := rep.droops }

/-- The PROGRESS words of a scan stand in the taps (R39, R50). -/
def State.scanProgress (s : State) (die : Nat) (l : List (EngineReport × Bool)) : State :=
  (List.range 8).foldl (fun s k =>
    s.modTap (die * 8 + k) fun x =>
      let mine := l.filter fun e => e.1.engine / 544 = k
      { x with progress := mine.foldl (fun t e => Tab.set t (e.1.engine % 544) 0 e.1.progress) x.progress }) s

/-- A shakeout sees the progress count of a report (R344). -/
def DieWork.heard (w : DieWork) (progress : Nat) : DieWork :=
  if w.progress = progress then { w with still := w.still + 1 } else { w with progress := progress, still := 0 }

/-- FRAME_REPORT (R56): the report that a runner out of reset owes for the latest tick reaches both hub cores. It shows
the runner's own counts, its sink's fill, and its PNS (R121). -/
def execFrameReport (dt : Nat) (die : Nat) (rep : FrameRep) (s : State) : Host.Outcome State Fault Refusal :=
  let s := s.begin dt
  let r := s.runner die
  done (s.onlyIf (!r.inReset && !r.fenced && !r.reported && s.frame.ticked) fun s =>
    let uid := runnerUid die
    let stamp := s.stampPns uid
    let cold := (s.replica uid).state = .cold
    let s := s.modRunner die fun r =>
      { r with reported := true, missed := 0, silent := false, lastReport := stamp, untimed := cold }
    let scan := s.scanRep die rep
    let s := s.modSink die fun k => { k with reportedOffset := k.writeOffset }
    let s := (List.range 8).foldl (fun s k => s.scanTap (die * 8 + k) (rep.beats.getD k none)) s
    let s := s.scanProgress die scan.engines
    let b := rep.bindings.foldl (fun t e => Tab.put t (die * 1088 + e.1) e.2) s.hang.bindings
    let s : State := { s with hang := { s.hang with
      bindings := b, reports := s.hang.reports ++ [(s.frame.number, die, scan)] } }
    match s.dump.running with
    | none => s
    | some k =>
      { s with dump := { s.dump with
          running := some { k with dies := Tab.mod k.dies die DieWork.fresh fun w => w.heard rep.progress } } })

/-! ## Sensors and holds -/

/-- SENSOR_FAIL (R545): a diode invalid in 2 consecutive reports. -/
def execSensorFail (dt : Nat) (cluster : Nat) (s : State) : Host.Outcome State Fault Refusal :=
  let s := s.begin dt
  let d := s.dieSensors (cluster / 8)
  done (s.onlyIf (decide (cluster < 128) && decide (2 ≤ d.invalid.getD (cluster % 8) 0) &&
      !d.diodeFail.getLsbD (cluster % 8)) fun s =>
    let s := s.modDie (cluster / 8) fun x => { x with diodeFail := setBit x.diodeFail (cluster % 8) true }
    s.logged Code.sensorFail (be 2 (tapUid cluster)))

/-- COMM_HOLD_SET (R563). -/
def execCommHoldSet (dt : Nat) (die : Nat) (s : State) : Host.Outcome State Fault Refusal :=
  let s := s.begin dt
  done (s.onlyIf (decide (die < 16) && (s.dieSensors die).hotTicks.any fun n => decide (4 ≤ n)) fun s =>
    { s with power := { s.power with holdDies := setBit s.power.holdDies die true } })

/-- COMM_HOLD_CLEAR (R563). -/
def execCommHoldClear (dt : Nat) (die : Nat) (s : State) : Host.Outcome State Fault Refusal :=
  let s := s.begin dt
  done (s.onlyIf (decide (die < 16) && decide (16 ≤ (s.dieSensors die).coolTicks)) fun s =>
    { s with power := { s.power with holdDies := setBit s.power.holdDies die false } })

/-- COMMIT_QUEUE_FREEZE (R208, R215): slot 15 has begun. -/
def execCommitQueueFreeze (dt : Nat) (s : State) : Host.Outcome State Fault Refusal :=
  let s := s.begin dt
  done (s.onlyIf (s.slotBegun 15 && !s.frame.frozen) State.slotFifteen)

end Sys2Proof.Machine
end

