-- ==== Sys2Proof/Machine/Schedule.lean ====
section
/-!
DEFINITION. The scheduled-action table's commands: writes of its entries, the actions that run from it
(R224–R245, R79, R123, R747), and the two faults that start a takeover (R53, R74).
-/
namespace Sys2Proof.Machine

/-! ## Writes of entries -/

/-- A write of an entry: its judgement, and what acceptance starts. -/
def State.entryWrite (s : State) (entry action time flags : Nat)
    (accept : Nat → SchedEntry → State → State) : Reply :=
  match s.schedWrite entry action time flags false accept with
  | (s, code) => ⟨s, code, []⟩

/-- EMPTY over an entry (R240). -/
def State.emptyWrite (s : State) (entry : Nat) : Reply :=
  match s.cancelEntry entry with
  | (s, code) => ⟨s, code, []⟩

/-- A WRITE of an entry: its admission, then the write. -/
def State.schedServe (s : State) (req : Req) (entry action time flags : Nat)
    (accept : Nat → SchedEntry → State → State) : State :=
  s.serve req 0x2050 (if entry < 32 then entry + 1 else 0xFF) .write fun _ s =>
    s.entryWrite entry action time flags accept

/-- SCHED_QUENCH (R247, R256). -/
def execSchedQuench (dt : Nat) (req : Req) (entry time flags : Nat) (s : State) : Host.Outcome State Fault Refusal :=
  done ((s.begin dt).schedServe req entry Act.quench time flags fun n e s => s.acceptQuench n e false false)

/-- SCHED_POD_QUENCH (R277): the grandmaster's own package arms, and the order leaves. -/
def execSchedPodQuench (dt : Nat) (req : Req) (entry time flags : Nat) (s : State) : Host.Outcome State Fault Refusal :=
  done ((s.begin dt).schedServe req entry Act.podQuench time flags fun n e s =>
    (s.acceptQuench n e true false).podOrder n e.time)

/-- SCHED_STEP (R286–R290). -/
def execSchedStep (dt : Nat) (req : Req) (entry time flags : Nat) (s : State) : Host.Outcome State Fault Refusal :=
  done ((s.begin dt).schedServe req entry Act.step time flags fun n e s => s.acceptStep n e)

/-- A RESUME of a manager lets the hub's own procedures go on (R731). -/
def State.releaseStop (s : State) : State := { s with pins := { s.pins with stopHolds := false } }

/-- SCHED_RESUME (R294). -/
def execSchedResume (dt : Nat) (req : Req) (entry time flags : Nat) (s : State) : Host.Outcome State Fault Refusal :=
  done ((s.begin dt).schedServe req entry Act.resume time flags fun n e s =>
    (s.acceptResume n e).releaseStop)

/-- SCHED_FRAME_LEN (R243, R244): accepted, the entry waits for its TIME. -/
def execSchedFrameLen (dt : Nat) (req : Req) (entry time flags : Nat) (s : State) : Host.Outcome State Fault Refusal :=
  done ((s.begin dt).schedServe req entry Act.frameLen time flags fun _ _ s => s)

/-- SCHED_TIME_STEP (R124, R236): accepted, the entry waits for APPLY. -/
def execSchedTimeStep (dt : Nat) (req : Req) (entry time flags : Nat) (s : State) : Host.Outcome State Fault Refusal :=
  done ((s.begin dt).schedServe req entry Act.timeStep time flags fun _ _ s => s)

/-- SCHED_ROLE_SWAP (R79): accepted, the entry waits for its boundary. -/
def execSchedRoleSwap (dt : Nat) (req : Req) (entry time flags : Nat) (s : State) : Host.Outcome State Fault Refusal :=
  done ((s.begin dt).schedServe req entry Act.roleSwap time flags fun _ _ s => s)

/-- SCHED_EMPTY (R240, R303, R304). -/
def execSchedEmpty (dt : Nat) (req : Req) (entry : Nat) (s : State) : Host.Outcome State Fault Refusal :=
  done ((s.begin dt).serve req 0x2050 (if entry < 32 then entry + 1 else 0xFF) .write fun _ s => s.emptyWrite entry)

/-! ## Actions that run from the table -/

/-- The new frame length takes force at the entry's boundary (R244): the next due boundary follows
it, unless the tick of that boundary is still to come. -/
def State.frameLenNow (s : State) (n : Nat) : State :=
  let t := (s.entry n).time
  let f := s.frame
  let s : State := { s with frame := { f with
    lenNs := f.lenNext, lenNext := 0
    nextTick := if t < f.nextTick then roundUp (t + 1) f.lenNext else f.nextTick } }
  s.completeEntry n

/-- A planned takeover starts (R79). With no standby to take over, or after W of a takeover that is still in progress,
the entry fails, and the log names the standby as the reason (R229, log entry 164). -/
def State.roleSwapNow (s : State) (n : Nat) : State :=
  if s.standbyThere && s.hub.takeover.isNone then (s.takeoverStart .roleSwap).completeEntry n
  else (s.logged Code.standbyLost (be 2 (coreUid s.standbyCore))).finishEntry n Stat.failed

/-- PENDING entries with TIME in (`lo`, `hi`], in the order of R238. -/
def State.passedEntries (s : State) (lo hi : Nat) : List Nat :=
  [5, 6, 7].flatMap fun a => (List.range 32).filter fun n =>
    (s.entry n).status = 1 && (s.entry n).action = a && decide (lo < (s.entry n).time) &&
      decide ((s.entry n).time ≤ hi)

/-- An entry that runs later than its TIME takes the actual PNS (R235, R239). -/
def State.lateEntry (s : State) (n : Nat) : State :=
  s.putEntry n { s.entry n with time := s.pns, late := true }

/-- Run a PENDING entry; a forward step runs the entries that it jumped over (R239), and arms that it jumped over act
(R126). -/
def State.runPending : Nat → Bool → Nat → State → State
  | 0, _, _, s => s
  | fuel + 1, late, n, s =>
    let e := s.entry n
    if e.status ≠ 1 then s
    else
      let s := if late then s.lateEntry n else s
      if e.action = 5 then s.frameLenNow n
      else if e.action = 6 then
        let delta := deltaOf e.taken
        let apply := (s.entry n).time
        let passed := (s.passedEntries apply ((apply : Int) + delta).toNat).filter fun m => m ≠ n
        let s := (s.timeStepNow delta).completeEntry n
        (passed.foldl (fun s m => State.runPending fuel true m s) s).stopsFall.releasesFall
      else if e.action = 7 then s.roleSwapNow n
      else s

/-- FRAME_LEN_CHANGE (R238, R244). -/
def execFrameLenChange (dt : Nat) (entry : Nat) (s : State) : Host.Outcome State Fault Refusal :=
  done ((s.begin dt).onlyIf ((s.begin dt).dueEntry entry Act.frameLen) (State.runPending 33 false entry))

/-- TIME_STEP_APPLY (R123, R238, R239). -/
def execTimeStepApply (dt : Nat) (entry : Nat) (s : State) : Host.Outcome State Fault Refusal :=
  done ((s.begin dt).onlyIf ((s.begin dt).dueEntry entry Act.timeStep) (State.runPending 33 false entry))

/-- ROLE_SWAP_DUE (R79, R238). -/
def execRoleSwapDue (dt : Nat) (entry : Nat) (s : State) : Host.Outcome State Fault Refusal :=
  done ((s.begin dt).onlyIf ((s.begin dt).dueEntry entry Act.roleSwap) (State.runPending 33 false entry))

/-! ## Faults that start a takeover -/

/-- LOCKSTEP_FAULT (R53, R74, R80): the pair halts; the active core's fault starts a takeover, the
standby's loses it. -/
def execLockstepFault (dt : Nat) (core : Nat) (s : State) : Host.Outcome State Fault Refusal :=
  let s := s.begin dt
  let p := (s.hub.core core).proc
  done (s.onlyIf (p = .running || p = .bootRom || p = .selfCheck) fun s =>
    let s := s.modCore core fun c => { c with proc := .halted, lockstepFault := true }
    if core = s.activeCore then s.takeoverStart .lockstep
    else if s.health (coreUid core) = 4 then s else s.standbyLost)

/-- TBU_CLOCK_GOOD_LOST (R74): the active core's TBU. -/
def execTbuClockGoodLost (dt : Nat) (s : State) : Host.Outcome State Fault Refusal :=
  let s := s.begin dt
  done (s.onlyIf ((s.hub.core s.activeCore).clockGood) fun s =>
    (s.modCore s.activeCore fun c => { c with clockGood := false }).takeoverStart .clockGood)

end Sys2Proof.Machine
end

