-- ==== Sys2Proof/Machine/Quench.lean ====
section
/-!
DEFINITION. Casts at their targets and their answers, the decision, the cut, steps, resumes, late
cancels, and the writes of QU_CMD (R246–R273, R286–R307).
-/
namespace Sys2Proof.Machine

/-! ## A cast at a target -/

/-- Remembered casts, without those answered more than 1 ms ago (R253). -/
def freshMemory (l : List Remembered) (now : Nat) : List Remembered :=
  l.filter fun m => decide (now ≤ m.at_ + 1000000 * Config.stepsPerNs)

/-- What a target remembers of the casts that it has answered (R253). -/
def State.memoryOf (s : State) (t : Nat) : List Remembered :=
  freshMemory (if t < 128 then (s.tap t).remembered
    else if t < 144 then (s.runner (t - 128)).remembered else (s.group (t - 144)).remembered) s.elapsed

/-- A target's answer leaves, and the target remembers it (R252, R253). -/
def State.sendAnswer (s : State) (t id status stamp : Nat) : State :=
  let l := s.memoryOf t ++ [⟨id, status, stamp, s.elapsed⟩]
  let s := if t < 128 then s.modTap t fun x => { x with remembered := l }
    else if t < 144 then s.modRunner (t - 128) fun x => { x with remembered := l }
    else s.modGroup (t - 144) fun x => { x with remembered := l }
  s.emit .castResponse t (castResponseOctets id t status stamp)

/-- A target answers a cast with its replica's PNS (R121, R252). -/
def State.answerCast (s : State) (t id status : Nat) : State :=
  s.sendAnswer t id status (s.stampPns (targetReplica t) % 2 ^ 32)

/-- A target adds 1 on the cast's lane at its wave; the reduction of that lane and wave sums it
(R33, R35, R251). -/
def State.addLane (s : State) (lane wave : Nat) : State :=
  if lane = 0 then s
  else
    let casts := s.qu.casts.map fun o =>
      if o.cast.lane = lane ∧ o.cast.wave = wave then { o with laneSum := o.laneSum + 1 } else o
    State.emit { s with qu := { s.qu with casts := casts } }
      (if lane = 2 then .laneTwo else .laneOne) wave (be 8 1)

/-- The status with which a target refuses a cast (R251, R119, R252). -/
def State.castRefusal (s : State) (t : Nat) (c : Cast) : Option Nat :=
  let r := s.replica (targetReplica t)
  if decide (t < 128) && (s.tap t).inReset then some Cast.refusedReset
  else if r.state = .cold then some Cast.cold
  else if c.deadline ≠ 0 ∧ c.deadline * Config.fracScale ≤ r.clock.read s.elapsed then some Cast.late
  else if (c.kind = Cast.armStep ∨ c.kind = Cast.armResume) ∧ t < 128 ∧
      s.stoppedSlots t &&& (s.tap t).coreSelect = 0 then some Cast.noneStopped
  else none

/-- Each arm and each CANCEL clears the two bits first (R45). -/
def Tap.clearBits (x : Tap) : Tap := { x with lateArm := false, compareClash := false }

/-- A tap acts on a cast (R42–R45, R257, R290, R294, R304, R529, R533). -/
def Tap.act (x : Tap) (c : Cast) : Tap :=
  if c.kind = Cast.armQuench then { x.clearBits with stopAt := c.act, stopArm := some c.id }
  else if c.kind = Cast.armStep then
    { x.clearBits with releaseAt := c.act, stepCount := c.cycles, releaseArm := .step c.id c.act c.cycles }
  else if c.kind = Cast.armResume then
    { x.clearBits with releaseAt := c.act, releaseArm := .release c.id c.act }
  else if c.kind = Cast.cancel then
    { x.clearBits with stopArm := none, releaseArm := .none, latchedStop := false, latchedRelease := false }
  else if c.kind = Cast.traceSwitch then { x with traceSwitchAt := some c.act }
  else x

/-- A runner acts on a cast: its trace freeze or thaw (R257, R294). -/
def Runner.act (x : Runner) (c : Cast) : Runner :=
  if c.kind = Cast.armQuench then { x with freezeArm := some (c.id, c.act) }
  else if c.kind = Cast.armResume then { x with thawArm := some (c.id, c.act) }
  else if c.kind = Cast.cancel then { x with freezeArm := none, thawArm := none }
  else x

/-- A network group acts on a cast through its die's runner (R257, R291, R294). -/
def NetGroup.act (x : NetGroup) (c : Cast) : NetGroup :=
  if c.kind = Cast.armQuench then { x with freezeArm := some (c.id, c.act) }
  else if c.kind = Cast.armStep ∨ c.kind = Cast.armResume then { x with thawArm := some (c.id, c.act) }
  else if c.kind = Cast.cancel then { x with freezeArm := none, thawArm := none }
  else x

/-- An arm whose instant is past acts at once and sets late-arm (R46). -/
def State.lateActs (s : State) (t : Nat) (c : Cast) : State :=
  if t < 128 ∧ c.act * Config.fracScale ≤ (s.replica (targetReplica t)).clock.read s.elapsed then
    let s := if c.kind = Cast.armQuench then s.tapStop t c.act
      else if c.kind = Cast.armResume then s.tapRelease t
      else if c.kind = Cast.armStep then s.tapStep t
      else s
    if 1 ≤ c.kind ∧ c.kind ≤ 3 then s.modTap t fun x => { x with lateArm := true } else s
  else s

/-- A TRACE_FETTLE fails at a tap when an entry of its trace FIFOs does not read back zero (R252, R533): what it
reads back is the host's own state, a free value (log entry 51). -/
def State.fettleFails (s : State) (t : Nat) (c : Cast) : Bool :=
  c.kind = Cast.traceFettle && decide (t < 128) && s.freeNow % 2 = 1

/-- A target acts on a cast: it arms, counts and answers ACTED, or FETTLE_FAILED (R251, R252). The parts of a network
group confirm their arms to the runner within the same command (R257, log entry 149). -/
def State.actOnCast (s : State) (t : Nat) (c : Cast) : State :=
  let s := if t < 128 then s.modTap t fun x => x.act c
    else if t < 144 then s.modRunner (t - 128) fun x => x.act c
    else s.modGroup (t - 144) fun x => x.act c
  let status := if s.fettleFails t c then Cast.fettleFailed else Cast.acted
  let s := if c.kind = Cast.traceFettle then s.drawn else s
  ((s.lateActs t c).addLane c.lane c.wave).answerCast t c.id status

/-- The target can receive a cast: its runner neither in reset nor holding (R424). -/
def State.targetAlive (s : State) (t : Nat) : Bool :=
  decide (t < 160) && (decide (t < 128) || s.sinkWorks (targetDie t))

/-- CAST_RECEIVE (R251, R253): a damaged cast is discarded; a remembered retry is answered as before. -/
def execCastReceive (dt : Nat) (target : Nat) (cast : List Byte) (s : State) : Host.Outcome State Fault Refusal :=
  let s := s.begin dt
  done (match Cast.ofOctets cast with
    | none => s
    | some c =>
      s.onlyIf (c.targets.getLsbD target && s.targetAlive target && decide (1 ≤ c.kind) &&
          decide (c.kind ≤ 6)) fun s =>
        match (s.memoryOf target).find? fun m => m.id = c.id with
        | some m =>
          if c.retry then s.emit .castResponse target (castResponseOctets c.id target m.status m.stamp)
          else match s.castRefusal target c with
            | some st => s.answerCast target c.id st
            | none => s.actOnCast target c
        | none => match s.castRefusal target c with
          | some st => s.answerCast target c.id st
          | none => s.actOnCast target c)

/-- HOLD_RECEIVE (R260, R261): a tap, or a runner with its die's network group, withdraws the arm of
that cast, unless it has fallen due. -/
def execHoldReceive (dt : Nat) (target : Nat) (word : Word32) (s : State) : Host.Outcome State Fault Refusal :=
  let s := s.begin dt
  let now := s.replicaPns (targetReplica target)
  let kept (id k at_ : Nat) : Bool := decide (k ≠ id) || decide (at_ ≤ now)
  let drop (id : Nat) (a : Option (Nat × Nat)) : Option (Nat × Nat) := a.filter fun x => kept id x.1 x.2
  done (match holdId word with
    | none => s
    | some id =>
      if target < 128 then
        s.modTap target fun x =>
          { x with stopArm := x.stopArm.filter fun k => kept id k x.stopAt
                   releaseArm := match x.releaseArm with
                     | .release k a => if kept id k a then .release k a else .none
                     | .step k a n => if kept id k a then .step k a n else .none
                     | .none => .none }
      else if target < 144 then
        (s.modRunner (target - 128) fun x =>
          { x with freezeArm := drop id x.freezeArm, thawArm := drop id x.thawArm }).modGroup (target - 128)
            fun x => { x with freezeArm := drop id x.freezeArm, thawArm := drop id x.thawArm }
      else s)

/-! ## Answers at the hub -/

/-- The first answer of a target to an open cast (R252, R254). -/
def OpenCast.take (o : OpenCast) (t status stamp : Nat) : OpenCast :=
  let o := if (Tab.find o.answers t).isSome then o
    else { o with answers := Tab.put o.answers t (status + 1), stamps := Tab.put o.stamps t stamp }
  { o with ended := o.ended || o.missing.isEmpty }

/-- A trace switch that a tap refused as late is issued to it again (R530). -/
def State.switchAnswer (s : State) (t status : Nat) : State :=
  if status = Cast.late ∧ t < 128 then s.traceRetry t else s

/-- CAST_RESPONSE (R252, R254, R262, R264, R385, R530): any answer restores the target's entry. -/
def execCastResponse (dt : Nat) (response : List Byte) (s : State) : Host.Outcome State Fault Refusal :=
  let s := s.begin dt
  let id := fieldLe response 0 2
  let t := fieldLe response 2 1
  let status := fieldLe response 3 1
  done (s.onlyIf (response.length = 8 && decide (t < 160)) fun s =>
    let s := if s.health (targetUid t) = 4 then s.setHealth (targetUid t) 0 else s
    match s.openCast id with
    | none => s.ctxAnswer id t status
    | some o =>
      if !o.cast.targets.getLsbD t then s
      else
        let fresh := (Tab.find o.answers t).isNone
        let s := s.putCast (o.take t status (fieldLe response 4 4))
        let s := match o.use with
          | .entry _ =>
            match s.qu.closing with
            | some h =>
              let s := if fresh && h.castId = id && status = Cast.acted && !h.cancelled then s.joinCut h t else s
              s.settleQuench
            | none => s
          | .traceSwitch => if fresh then s.switchAnswer t status else s
          | _ => s
        s.tidyCasts)

/-- A retry is due: fewer than 4 sent, and 10 µs more have passed (R254). -/
def retryDue (issued retries now : Nat) : Bool :=
  decide (retries < 4) && decide (issued + (retries + 1) * 10000 * Config.stepsPerNs ≤ now)

/-- 50 µs have passed since issue (R254). -/
def missingDue (issued now : Nat) : Bool := decide (issued + 50000 * Config.stepsPerNs ≤ now)

/-- The retry of a cast: to the missing targets only, with RETRY set (R254). -/
def State.retryCast (s : State) (o : OpenCast) : State :=
  let c := { o.cast with retry := true, targets := targetSet o.missing }
  (s.putCast { o with retries := o.retries + 1 }).emit .cast 0 c.octets

/-- A target that stays missing: its entry reads 4 (R254). -/
def State.unresponsive (s : State) (t : Nat) : State :=
  (s.setHealth (targetUid t) 4).told Code.castUnresponsive (be 2 (targetUid t))

/-- The retries of a cast have ended (R254, R264, R530). -/
def State.endCast (s : State) (o : OpenCast) : State :=
  let s := o.missing.foldl State.unresponsive (s.putCast { o with ended := true })
  let s := match o.use with
    | .traceSwitch => (o.missing.filter fun t => decide (t < 128)).foldl State.traceRetry s
    | .entry _ => s.settleQuench
    | _ => s
  s.tidyCasts

/-! ## The decision -/

/-- The lane-2 sum of the cast in hand has arrived: 768 ns after its wave (R33, R258). -/
def State.sumDue (s : State) (o : OpenCast) : Bool := decide (o.cast.deadline + 768 ≤ s.pns)

/-- A short count under POSTPONE (R259): HOLD, and a new cast for T + L without the targets that are
unresponsive by then. -/
def State.postpone (s : State) (h : InHand) : State :=
  let s := s.sendHold h.castId
  let gone := (targetsOf h.targets).filter fun t => s.health (targetUid t) = 4
  let s := s.listOut gone
  let time := h.time + s.lenAt h.time
  let s : State := { s with qu := { s.qu with postponeCount := (s.qu.postponeCount + 1) % 256 } }
  let s := s.logged Code.quPostponed (be 1 h.entry ++ be 8 time)
  (s.armHand { h with time := time, postponed := h.postponed + 1
                      targets := h.targets &&& ~~~(targetSet gone) }).tidyCasts

/-- The count of the cast in hand is decided (R258, R281, R290, R728). -/
def State.decide_ (s : State) (h : InHand) (o : OpenCast) : State :=
  let s := s.putCast { o with count := some o.laneSum }
  let s : State := { s with qu := { s.qu with armCount := o.laneSum % 256 } }
  let short := o.laneSum ≠ (targetsOf h.targets).length
  let held : State := { s with qu := { s.qu with hand := some { h with decided := true } } }
  if h.action = 1 ∨ h.action = 2 then
    if short && s.qu.mode = 1 && !h.pod && !h.emergency && decide (h.postponed < 3) &&
        (s.hub.takeover.isNone || decide (s.pns + 512 ≤ h.time)) then s.postpone h
    else { held with qu := { held.qu with state := Qs.armed } }
  else if h.action = 3 then
    if short || o.laneSum = 0 then held.logged Code.stepShort (be 1 h.entry) else held
  else held

/-- The active sequencer runs: from S to W of an unplanned takeover none sends (R74, R265). -/
def State.sequencerRuns (s : State) : Bool :=
  s.hub.takeover.all fun k => decide (0 < k.phase) || k.trigger = .roleSwap

/-- QUENCH_DECISION (R258, R259, R265). -/
def execQuenchDecision (dt : Nat) (s : State) : Host.Outcome State Fault Refusal :=
  let s := s.begin dt
  done (match s.qu.hand with
    | none => s
    | some h =>
      match s.openCast h.castId with
      | none => s
      | some o => s.onlyIf (!h.decided && h.selecting = 0 && s.sumDue o && s.sequencerRuns) fun s =>
        s.decide_ h o)

/-! ## The cut -/

/-- The entry in hand has reached its TIME, and no entry that waits stands before it (R238). -/
def State.handDue (s : State) (h : InHand) : Bool :=
  decide (h.time ≤ s.pns) && !s.dueAhead h.entry h.action h.time

/-- CUT_TAKEN (R42, R264, R266, R267, R304): each armed unit acts once its own replica reaches T, and the hub takes
the cut once the active core's PNS does. -/
def execCutTaken (dt : Nat) (s : State) : Host.Outcome State Fault Refusal :=
  let s := (s.begin dt).stopsFall
  done (match s.qu.hand with
    | none => s
    | some h =>
      s.onlyIf ((h.action = 1 || h.action = 2) && h.decided && s.handDue h) fun s => s.takeCut h)

/-- QUENCH_MEMBERSHIP (R262–R264): the lists at T + 2 µs, and the final status once it is due. -/
def execQuenchMembership (dt : Nat) (s : State) : Host.Outcome State Fault Refusal :=
  let s := (s.begin dt).stopsFall
  done (match s.qu.closing with
    | none => s
    | some h =>
      s.onlyIf (!h.cancelled && decide (h.time + 2000 ≤ s.pns)) fun s =>
        (if h.membershipListed then s else s.listMembers h).settleQuench)

/-! ## Steps -/

/-- Targets that act on the release or step of an entry: those that have, and those whose arm stands (R304). -/
def State.releasedOf (s : State) (h : InHand) : List Nat :=
  (targetsOf h.targets).filter fun u => h.actors.getLsbD u || s.releaseArmed u h.castId

/-- STEP_SELECT_LATE (R289): CORE_SELECT is not written by TIME − 1.5 µs. -/
def execStepSelectLate (dt : Nat) (s : State) : Host.Outcome State Fault Refusal :=
  let s := s.begin dt
  done (match s.qu.hand with
    | none => s
    | some h =>
      s.onlyIf (h.action = 3 && decide (0 < h.selecting) && decide (h.time ≤ s.pns + 1500)) fun s =>
        let s := (s.ringDrop fun t => t.use = .coreSelect).selectAll h.targets
        let s : State := { s with qu := { s.qu with hand := none, state := Qs.quenched } }
        (s.logged Code.stepSelectLate (be 1 h.entry)).finishEntry h.entry Stat.failed)

/-- E of a step (R291). -/
def refreezeAfter (cycles : Nat) : Nat := roundUp (ceilDiv (cycles * 1000) 1100) 64

/-- A step or resume cancelled after its decision has reached TIME: CANCEL_LATE of the cut in force, and
QU_CANCEL_LATE to come (R304). -/
def State.cancelledAtTime (s : State) (h : InHand) : State :=
  if h.cancelled then
    State.cutFlag { s with qu := { s.qu with lateCancels := s.qu.lateCancels ++ [h] } } CutFlag.cancelLate true
  else s

/-- The step begins at TIME (R290, R291, R293, R304). -/
def State.startStep (s : State) (h : InHand) : State :=
  let count := ((s.openCast h.castId).bind OpenCast.count).getD 0
  let acting := s.releasedOf h
  let h := { h with taken := true, actors := targetSet acting }
  let s := s.cancelledAtTime h
  if (h.cancelled && acting.isEmpty) || (!h.cancelled && count = 0) then
    let s : State := { s with qu := { s.qu with state := Qs.quenched, hand := none } }
    let s := (s.selectAll h.targets).tidyCasts
    if h.cancelled then s else s.finishEntry h.entry Stat.failed
  else
    let taps := acting.filter fun t => decide (t < 128)
    let from_ := (taps.filter fun t => !s.chilled t).foldl (fun m t => Tab.put m t h.time) []
    let s : State := { s with qu := { s.qu with
      state := Qs.stepping, hand := some h
      stepping := taps.foldl (fun b t => setBit b t true) 0, overrun := 0, stepFrom := from_
      refreeze := if h.stepNet then
          some (h.time + refreezeAfter h.stepCycles, targetSet (acting.filter fun t => decide (144 ≤ t)))
        else none } }
    (s.cutFlag CutFlag.stepped true).settleStep

/-- STEP_START (R44, R291, R305): each armed unit acts once its own replica reaches TIME, and the hub goes on once
the active core's PNS does. -/
def execStepStart (dt : Nat) (s : State) : Host.Outcome State Fault Refusal :=
  let s := (s.begin dt).releasesFall
  done (match s.qu.hand with
    | none => s
    | some h =>
      s.onlyIf (h.action = 3 && h.decided && !h.taken && s.handDue h) fun s => s.startStep h)

/-- NET_REFREEZE (R291): the network groups that the step has thawed freeze again. -/
def execNetRefreeze (dt : Nat) (s : State) : Host.Outcome State Fault Refusal :=
  let s := s.begin dt
  done (match s.qu.refreeze with
    | none => s
    | some (t, groups) =>
      s.onlyIf (decide (t ≤ s.pns)) fun s =>
        let s := (targetsOf groups).foldl (fun s u => s.freezeGroup (u - 144) t) s
        { s with qu := { s.qu with refreeze := none } })

/-- A tap has ended its step: step-armed and step-running both read 0 (R292). -/
def State.stepEnded (s : State) (c : Nat) : Bool :=
  let x := s.tap c
  !x.stepArmed && (!x.stepRunning || (!s.chilled c && decide (x.stepEnds ≤ s.elapsed)))

/-- The slots of a step that has run out are stopped again (R44). -/
def Tap.endStep (x : Tap) : Tap :=
  if x.stepRunning then { x with coreClock := x.coreClock &&& ~~~x.stepSlots, stepRunning := false } else x

/-- STEP_POLL (R292): the runner reads TAP_STATUS of a stepped tap. -/
def execStepPoll (dt : Nat) (cluster : Nat) (s : State) : Host.Outcome State Fault Refusal :=
  let s := (s.begin dt).releasesFall
  done (s.onlyIf (s.qu.stepping.getLsbD cluster && s.stepEnded cluster) fun s =>
    let s := s.modTap cluster Tap.endStep
    State.settleStep { s with qu := { s.qu with stepping := setBit s.qu.stepping cluster false } })

/-- STEP_OVERRUN (R292): once for each tap. -/
def execStepOverrun (dt : Nat) (cluster : Nat) (s : State) : Host.Outcome State Fault Refusal :=
  let s := s.begin dt
  let due := match Tab.find s.qu.stepFrom cluster with
    | some t => decide (t + 100000 ≤ s.pns)
    | none => false
  done (s.onlyIf (s.qu.stepping.getLsbD cluster && !s.qu.overrun.getLsbD cluster && !s.stepEnded cluster &&
      due) fun s =>
    State.logged { s with qu := { s.qu with overrun := setBit s.qu.overrun cluster true } } Code.stepOverrun
      (be 2 (tapUid cluster)))

/-! ## Resumes and late cancels -/

/-- The resume at TIME (R295, R296, R304). -/
def State.takeResume (s : State) (h : InHand) : State :=
  let acting := s.releasedOf h
  let count := ((s.openCast h.castId).bind OpenCast.count).getD 0
  let h := { h with taken := true, actors := targetSet acting }
  let s := s.cancelledAtTime h
  let s := if h.cancelled && acting.isEmpty then { s with qu := { s.qu with state := h.before } }
           else s.afterRelease h.castId
  let s := if !h.cancelled && decide (count < (targetsOf h.targets).length) then
      s.logged Code.quReleaseShort (be 1 h.entry) else s
  let s := State.tidyCasts { s with qu := { s.qu with hand := none } }
  if h.cancelled then s else s.completeEntry h.entry

/-- RESUME_AT_TIME (R43, R295, R296, R304): each armed unit acts once its own replica reaches TIME, and the hub goes on
once the active core's PNS does. -/
def execResumeAtTime (dt : Nat) (s : State) : Host.Outcome State Fault Refusal :=
  let s := (s.begin dt).releasesFall
  done (match s.qu.hand with
    | none => s
    | some h =>
      s.onlyIf (h.action = 4 && h.decided && !h.taken && s.handDue h) fun s => s.takeResume h)

/-- QU_CANCEL_LATE (R304): the targets that acted, and QU_STATE to match the units that are stopped. -/
def execQuCancelLate (dt : Nat) (entry : Nat) (s : State) : Host.Outcome State Fault Refusal :=
  let s := s.begin dt
  done (match s.qu.lateCancels.find? fun h => h.entry = entry with
    | none => s
    | some h =>
      s.onlyIf (decide (h.time + 2000 ≤ s.pns)) fun s =>
        let s := s.logged Code.quCancelLate (le 20 h.actors.toNat)
        State.tidyCasts { s with qu := { s.qu with lateCancels := s.qu.lateCancels.erase h } })

/-! ## QU_CMD -/

/-- What a write of QuCmdArm does, and its answer. -/
def State.cmdQuCmdArm (s : State) : Reply :=
  match s.quEnter Act.quench s.qu.time none fun n e s => s.acceptQuench n e false false with
  | (s, code) => ⟨s, code, []⟩

/-- QU_CMD ARM: a QUENCH at QU_TIME (R228). -/
def execQuCmdArm (dt : Nat) (req : Req) (s : State) : Host.Outcome State Fault Refusal :=
  done ((s.begin dt).serve req 0x4102 0 .write fun _ s => s.cmdQuCmdArm)

/-- What a write of QuCmdStep does, and its answer. -/
def State.cmdQuCmdStep (s : State) : Reply :=
  match s.quEnter Act.step s.qu.time (some (s.qu.stepCycles + 65536 * bit s.qu.stepNet)) fun n e s => s.acceptStep n e with
  | (s, code) => ⟨s, code, []⟩

/-- QU_CMD STEP: N and STEP_NET from their objects (R228, R287). -/
def execQuCmdStep (dt : Nat) (req : Req) (s : State) : Host.Outcome State Fault Refusal :=
  done ((s.begin dt).serve req 0x4102 0 .write fun _ s => s.cmdQuCmdStep)

/-- What a write of QuCmdResume does, and its answer. -/
def State.cmdQuCmdResume (s : State) : Reply :=
  match s.quEnter Act.resume s.qu.resumeTime none fun n e s => (s.acceptResume n e).releaseStop with
  | (s, code) => ⟨s, code, []⟩

/-- QU_CMD RESUME at RESUME_TIME (R228). -/
def execQuCmdResume (dt : Nat) (req : Req) (s : State) : Host.Outcome State Fault Refusal :=
  done ((s.begin dt).serve req 0x4102 0 .write fun _ s => s.cmdQuCmdResume)

/-- What a write of QuCmdCancel does, and its answer. -/
def State.cmdQuCmdCancel (s : State) : Reply :=
  let open_ := (List.range 32).filter fun n =>
    (s.entry n).open && decide (1 ≤ (s.entry n).action) && decide ((s.entry n).action ≤ 4)
  open_.foldl (fun a n =>
    match a.state.cancelEntry n with
    | (s, code) => ⟨s, if code = Abort.ok then a.code else code, []⟩) s.accept

/-- QU_CMD CANCEL: EMPTY over every open QUENCH, POD_QUENCH, STEP and RESUME (R302). -/
def execQuCmdCancel (dt : Nat) (req : Req) (s : State) : Host.Outcome State Fault Refusal :=
  done ((s.begin dt).serve req 0x4102 0 .write fun _ s => s.cmdQuCmdCancel)

/-- Why a PEEK is refused (R297, R306). -/
def State.peekRefusal (s : State) : Option Nat :=
  let q := s.qu
  if q.peekOut then some Abort.busy
  else if !uidPresent q.peekUid then some Abort.unitUnknown
  else if !(uidIsCore q.peekUid || uidIsTap q.peekUid) then some Abort.valueRange
  else if uidIsTap q.peekUid && perSlot q.peekWindow then some Abort.valueRange
  else if q.peekOffset ≥ 2 ^ 20 || q.peekWindow ≥ 128 then some Abort.valueRange
  else none

/-- What a write of QuCmdPeek does, and its answer. -/
def State.cmdQuCmdPeek (s : State) : Reply :=
  match s.peekRefusal with
  | some code => s.refuse code
  | none =>
    let q := s.qu
    let slot := if perSlot q.peekWindow then uidSlot q.peekUid else 0
    let s : State := { s with qu := { q with peekOut := true, peekSeq := (q.peekSeq + 1) % 256 } }
    (s.ringStart (ringRead (uidCluster q.peekUid) q.peekWindow slot (q.peekLength / 4) q.peekOffset
      (.peek q.peekUid))).accept

/-- QU_CMD PEEK (R297): one ring read; PEEK_SEQ advances (R300). -/
def execQuCmdPeek (dt : Nat) (req : Req) (s : State) : Host.Outcome State Fault Refusal :=
  done ((s.begin dt).serve req 0x4102 0 .write fun _ s => s.cmdQuCmdPeek)

end Sys2Proof.Machine
end

