-- ==== Sys2Proof/Machine/Pins.lean ====
section
/-!
DEFINITION. The board emergency stop (R727–R733) and the test access port (R611, R738–R741).
-/
namespace Sys2Proof.Machine

/-! ## The board emergency stop -/

/-- Every unit of the package (R728). -/
def wholePackage : BitVec 160 := BitVec.allOnes 160

/-- The QUENCH of an accepted stop enters entry `n` with TIME 2.0 µs ahead (R728). -/
def State.enterStop (s : State) (n : Nat) : State :=
  let e : SchedEntry :=
    { action := Act.quench, time := s.earliest Act.quench, flags := 2, status := Stat.pending
      param := (s.entry n).param, selection := wholePackage, stepNet := false, podOrder := 0
      late := false, taken := 0 }
  State.acceptQuench (s.putEntry n e) n e false true

/-- The PENDING entry with the latest TIME (R730). -/
def State.latestPending (s : State) : Option Nat :=
  ((List.range 32).filter fun n => (s.entry n).status = Stat.pending).foldl
    (fun a n => match a with
      | none => some n
      | some m => if (s.entry m).time < (s.entry n).time then some n else some m) none

/-- Find an entry for the stop (R730): a free one, else the PENDING one with the latest TIME, which is
cancelled; with neither, the stop waits. -/
def State.placeStop (s : State) : State :=
  let waits : State := { s with pins := { s.pins with quenchWaiting := true } }
  let gone : State := { s with pins := { s.pins with quenchWaiting := false } }
  match s.freeEntry with
  | some n => gone.enterStop n
  | none =>
    match s.latestPending with
    | some n =>
      match gone.cancelEntry n with
      | (t, code) => if code = Abort.ok then t.enterStop n else waits
    | none => waits

/-- A stop that the hub acts on (R728, R729): entered when QU_STATE reads IDLE or MIXED; a cut in force
stands as the stop; otherwise it waits. -/
def State.tryStop (s : State) : State :=
  if s.qu.state = Qs.idle ∨ s.qu.state = Qs.mixed then s.placeStop
  else { s with pins := { s.pins with quenchWaiting := s.qu.state ≠ Qs.quenched } }

/-- Cancel what R728 cancels, with QU_SUPERSEDED for each. -/
def State.stopCancels (s : State) : State :=
  let open_ := (List.range 32).filter fun n =>
    (s.entry n).open && decide (1 ≤ (s.entry n).action) && decide ((s.entry n).action ≤ 4)
  open_.foldl (fun s n =>
    match s.cancelEntry n with
    | (s, code) => if code = Abort.ok then s.logged Code.quSuperseded (be 1 n) else s) s

/-- The record of an accepted stop (R732): at once, or counted until the tick. -/
def State.logStop (s : State) : State :=
  let p := s.pins
  if p.quenchLogFrame = some s.frame.number then
    { s with pins := { p with quenchCount := p.quenchCount + 1
                              quenchFirst := if p.quenchCount = 0 then s.pns else p.quenchFirst } }
  else
    State.urged { s with pins := { p with quenchLogFrame := some s.frame.number } } Code.quenchIn
      (be 4 1 ++ be 8 s.pns)

/-- A stop accepted now (R728, R731–R733): between S and W of a takeover it waits for W. -/
def State.acceptStop (s : State) : State :=
  let s : State := { s with pins := { s.pins with
    quenchArmed := false, quenchHigh := false, quenchSince := s.elapsed, stuckReported := false } }
  let s := s.logStop
  if s.fm.fenceState = 2 || s.recovering then s
  else
    let s : State := { s with pins := { s.pins with stopHolds := true } }
    match s.hub.takeover with
    | some k =>
      if k.phase = 0 then { s with pins := { s.pins with quenchWaiting := true } }
      else s.stopCancels.tryStop
    | none => s.stopCancels.tryStop

/-- The hub acts on QUENCH_IN_N (R733, R740). -/
def State.stopHeard (s : State) : Bool := s.rst.phase = 10 && !s.pins.jtagOwns

/-- QUENCH_IN (R727, R728): the filtered level has been low for 40 ns. -/
def execQuenchIn (dt : Nat) (s : State) : Host.Outcome State Fault Refusal :=
  let s := s.begin dt
  done (if s.pins.jtagOwns then s
    else if s.pins.quenchArmed && s.stopHeard then s.acceptStop
    else { s with pins := { s.pins with quenchHigh := false, quenchArmed := false } })

/-- QUENCH_IN_ARM (R727): the filtered level has been high for 1 µs without a break. -/
def execQuenchInArm (dt : Nat) (s : State) : Host.Outcome State Fault Refusal :=
  let s := s.begin dt
  done (s.onlyIf (!s.pins.quenchArmed && decide (1000 ≤ s.nsSince s.pins.quenchSince)) fun s =>
    { s with pins := { s.pins with quenchArmed := true, quenchHigh := true } })

/-- QUENCH_IN_DEFERRED (R729): a stop that waits for QU_STATE. -/
def execQuenchInDeferred (dt : Nat) (s : State) : Host.Outcome State Fault Refusal :=
  let s := s.begin dt
  done (s.onlyIf (s.pins.quenchWaiting && s.hub.takeover.all fun k => decide (0 < k.phase)) State.tryStop)

/-- QUENCH_IN_ENTRY_FREE (R730): a stop that waits for an entry takes one that has become free. -/
def execQuenchInEntryFree (dt : Nat) (s : State) : Host.Outcome State Fault Refusal :=
  let s := s.begin dt
  done (s.onlyIf (s.pins.quenchWaiting && s.freeEntry.isSome &&
    s.hub.takeover.all fun k => decide (0 < k.phase)) State.tryStop)

/-- INPUT_STUCK (R732): still low one frame length after an accepted stop, once. -/
def execInputStuck (dt : Nat) (s : State) : Host.Outcome State Fault Refusal :=
  let s := s.begin dt
  let p := s.pins
  done (s.onlyIf (!p.quenchArmed && !p.quenchHigh && !p.stuckReported && s.stopHeard &&
      decide (s.frame.lenNs ≤ s.nsSince p.quenchSince)) fun s =>
    State.urged { s with pins := { s.pins with stuckReported := true } } Code.inputStuck [])

/-! ## The test access port -/

/-- The instruction that an opcode selects (R738, R741): every unlisted opcode, and a private one
outside BLANK and RETURNED, acts as BYPASS. -/
def State.jtagActs (s : State) (op : Nat) : Nat :=
  if op ≤ 3 then op
  else if 0x20 ≤ op ∧ op ≤ 0x3E ∧ s.allScopes then op
  else 0x3F

/-- Whether an instruction takes the pins (R740). -/
def jtagTakes (op : Nat) : Bool := op = 0 || op = 2 || op = 3

/-- The level that the boundary register puts on a pin with a data and an enable cell while a test instruction owns the
pins (R739, R740): none where the cell does not drive, or HIGHZ floats it. -/
def Pins.testDrive (p : Pins) (data enable : Nat) : Option Bool :=
  if p.jtagOwns && p.jtagIr ≠ 2 && p.boundary.getLsbD enable then some (p.boundary.getLsbD data) else none

/-- The boundary register pulls an open-drain pin low (R739). -/
def Pins.testPull (p : Pins) (cell : Nat) : Bool := p.jtagOwns && p.jtagIr ≠ 2 && p.boundary.getLsbD cell

/-- ALERT_N is pulled low: by the hub, or by its drive-low cell in a test (R431, R740). -/
def State.alertPulled (s : State) : Bool := if s.pins.jtagOwns then s.pins.testPull 5 else s.alertLow

/-- TICK_OUT as it is driven: by the active core, or by its cells in a test (R129, R740). -/
def State.tickOutPin (s : State) : Option Bool :=
  if s.pins.jtagOwns then s.pins.testDrive 1 2 else some s.tickOutHigh

/-- QSPI_CS_N (R86, R606, R740): its cells in a test, high while its owner holds it so, and otherwise as the flash access
in hand, if any, drives it. -/
def State.selectPin (s : State) : Option Bool :=
  if s.pins.jtagOwns then s.pins.testDrive 14 15 else if s.elapsed < s.flash.selectHigh then some true else none

/-- The keepers hold the output pins (R85, R610). -/
def State.keepersHold (s : State) : Bool := s.hub.keeperHolds || decide (s.elapsed < s.hub.keeperUntil)

/-- A new instruction is current (R740): while it owns the pins, QUENCH_IN_N is seen high; when the pins return to
their owner, what the buses lost is issued again as after a takeover (R86). -/
def State.jtagSet (s : State) (op : Nat) : State :=
  let owns := jtagTakes op
  let was := s.pins.jtagOwns
  let s : State := { s with pins := { s.pins with
    jtagIr := op, jtagOwns := owns, quenchHigh := s.pins.quenchHigh || owns } }
  if was && !owns then s.busesAgain else s

/-- What a scan under the current instruction leaves in the boundary register (R738, R739): only EXTEST and
SAMPLE/PRELOAD select it. -/
def Pins.scanned (p : Pins) (cells : Option Nat) : Pins :=
  match cells with
  | some v => if p.jtagIr ≤ 1 then { p with boundary := BitVec.ofNat 28 v } else p
  | none => p

/-- JTAG_UPDATE_IR (R738–R741): the data register scan before it, then the new instruction. -/
def execJtagUpdateIr (dt : Nat) (scan : JtagScan) (s : State) : Host.Outcome State Fault Refusal :=
  let s := s.begin dt
  done (State.jtagSet { s with pins := s.pins.scanned scan.cells } (s.jtagActs (scan.opcode % 64)))

/-- JTAG_TEST_RESET (R611, R738): Test-Logic-Reset selects BYPASS; no domain is affected. -/
def execJtagTestReset (dt : Nat) (s : State) : Host.Outcome State Fault Refusal :=
  done ((s.begin dt).jtagSet 0x3F)

end Sys2Proof.Machine
end

