-- ==== Sys2Proof/Machine/BlockOps.lean ====
section
/-!
DEFINITION. Block transfers as shared operations: opening a read, its frames and its window (R644–R647).
-/
namespace Sys2Proof.Machine

/-- Octets of a full BLK_DATA frame (R644). -/
def blkUnit : Nat := 1456

/-- The payload of a BLK_DATA frame (R644). -/
def blkPayload (id off : Nat) (data : List Byte) : List Byte := be 2 id ++ zeros 2 ++ be 4 off ++ data

/-- An open transfer by BLOCK_ID. -/
def Port.block (p : Port) (id : Nat) : Option Block := p.blocks.find? fun b => b.id = id

/-- Replace a transfer. -/
def Port.putBlock (p : Port) (b : Block) : Port :=
  { p with blocks := p.blocks.map fun x => if x.id = b.id then b else x }

/-- Forget a transfer. -/
def State.dropBlock (s : State) (id : Nat) : State :=
  { s with port := { s.port with blocks := s.port.blocks.filter fun b => b.id ≠ id } }

/-- The next octet that a read transfer has to send. -/
def Block.next (b : Block) : Nat := b.done.headD 0

/-- The image that a read transfer reads in place stands in its area no more (R361, R646). -/
def State.placeLost (s : State) (b : Block) : Bool :=
  b.image ≠ 0 && [s.dump.refArea, s.dump.latestArea, s.dump.tier2Area].all fun a => a.image ≠ b.image

/-- The octets of the next frame of a read transfer: of the value at BLK_OPEN, or, read in place, of what
stands there, which is open once the image is gone (R646; log entry 9). -/
def State.nextOctets (s : State) (b : Block) : List Byte :=
  let n := Nat.min blkUnit (b.total - b.next)
  if s.placeLost b then be n s.freeNow else slice b.bytes b.next n

/-- Send the frames of a read transfer while fewer than 8 are unacknowledged (R644); a requester on the
chip is sent all of them. -/
def State.pumpBlock (s : State) (id : Nat) : Nat → State
  | 0 => s
  | n + 1 =>
    match s.port.block id with
    | none => s
    | some b =>
      if b.write || decide (b.total ≤ b.next) || decide (8 ≤ b.sent.length) then s
      else
        let data := s.nextOctets b
        let lost := s.placeLost b
        let b1 := { b with
          done := [b.next + data.length]
          bytes := if lost then b.bytes.take b.next ++ data ++ b.bytes.drop (b.next + data.length) else b.bytes }
        let s := if lost then s.drawn else s
        match b.requester with
        | .chip uid =>
          let p := blkPayload id b.next data
          State.pumpBlock (({ s with port := s.port.putBlock b1 } : State).emit .blkData (65536 + uid) p) id n
        | .session sid =>
          match s.port.session sid with
          | none => s
          | some x =>
            let seq := (x.hubSeq + 1) % 65536
            let b2 := { b1 with sent := b.sent ++ [⟨seq, b.next, s.elapsed, 0⟩] }
            State.pumpBlock (State.sendIn { s with port := s.port.putBlock b2 } .blkData x 6 0 0
              (blkPayload id b.next data)) id n

/-- Room for one more transfer of a requester (R647). -/
def State.blockRoom (s : State) (who : Requester) : Bool :=
  decide (s.port.blocks.length < 4) && decide ((s.port.blocks.filter fun b => b.requester = who).length < 2)

/-- The BLOCK_ID after one: never zero. -/
def nextBlockId (id : Nat) : Nat := if id % 65535 = 0 then 1 else id % 65535 + 1

/-- The first BLOCK_ID from `id` on that no open transfer has, within `n` steps. -/
def Port.freeBlock (p : Port) : Nat → Nat → Nat
  | 0, id => id
  | n + 1, id => if (p.block id).isSome then p.freeBlock n (nextBlockId id) else id

/-- The BLOCK_ID of the next transfer. -/
def State.newBlockId (s : State) : Nat := s.port.freeBlock 4 s.port.nextBlock

/-- Open a transfer (R644): the answer carries BLOCK_ID and TOTAL. -/
def State.openBlock (s : State) (c : Ctx) (idx sub : Nat) (write : Bool) (off total : Nat)
    (bytes : List Byte) (image : Nat) : Reply :=
  let id := s.newBlockId
  let b : Block :=
    { id := id, requester := c.who, idx := idx, sub := sub, write := write, offset := off, total := total
      openSeq := c.seq, bytes := bytes, image := image, done := if write then [] else [0], sent := []
      lastFrame := s.elapsed }
  ⟨{ s with port := { s.port with blocks := s.port.blocks ++ [b], nextBlock := nextBlockId id } }, Abort.ok,
    be 2 id ++ zeros 2 ++ be 4 total⟩

/-- Open a read transfer over a value: room, range, then the transfer (R629, R644, R647). -/
def State.openRead (s : State) (c : Ctx) (idx sub off len : Nat) (value : List Byte) : Reply :=
  if value.length < off + len then s.refuse Abort.badLength
  else if !s.blockRoom c.who then s.refuse Abort.busy
  else
    let total := if len = 0 then value.length - off else len
    let inPlace : Bool := idx = 0x4203 && sub = 4 && decide (65536 < value.length)
    s.openBlock c idx sub false off total (slice value off total) (if inPlace then s.dump.select else 0)

/-- Serve a request that opens a read transfer: the answer, then the first frames. -/
def State.serveRead (s : State) (r : Req) (idx sub off len : Nat)
    (f : Ctx → State → State × Nat × List Byte) : State :=
  let id := s.newBlockId
  let s := s.serve r idx sub .blkRead fun c s =>
    match f c s with
    | (s, code, value) => if code = Abort.ok then s.openRead c idx sub off len value else s.refuse code
  s.pumpBlock id (524320 / blkUnit + 2)

/-- End every transfer on an object, as at the loss of its value. -/
def State.endBlocks (s : State) (p : Block → Bool) : State :=
  { s with port := { s.port with blocks := s.port.blocks.filter fun b => !p b } }

end Sys2Proof.Machine
end

