-- ==== Sys2Proof/Machine/ShakeoutOps.lean ====
section
/-!
DEFINITION. The shakeout as shared operations: starting one, tier 0 over the tap ring, tiers 1 and 2
over the debug class, record coding, exclusion, seals, closing (R308–R360).
-/
namespace Sys2Proof.Machine

/-! ## Access -/

/-- The work of a die in the shakeout in progress. -/
def State.work (s : State) (die : Nat) : DieWork :=
  match s.dump.running with
  | some k => Tab.at k.dies die DieWork.fresh
  | none => DieWork.fresh

/-- Change the shakeout in progress. -/
def State.modSo (s : State) (f : Shakeout → Shakeout) : State :=
  { s with dump := { s.dump with running := s.dump.running.map f } }

/-- Change the work of a die. -/
def State.modWork (s : State) (die : Nat) (f : DieWork → DieWork) : State :=
  s.modSo fun k => { k with dies := Tab.put k.dies die (f (Tab.at k.dies die DieWork.fresh)) }

/-- The image that a Ladle slot holds. -/
def Dump.slot (d : Dump) (n : Nat) : Option Image := d.slots.getD n none

/-- The image in collection. -/
def State.soImage (s : State) : Option Image := s.dump.running.bind fun k => s.dump.slot k.slot

/-- Change the image of a Ladle slot. -/
def State.modSlot (s : State) (n : Nat) (f : Image → Image) : State :=
  { s with dump := { s.dump with slots := setAt s.dump.slots n ((s.dump.slot n).map f) } }

/-- Change the image in collection. -/
def State.modImage (s : State) (f : Image → Image) : State :=
  match s.dump.running with
  | some k => s.modSlot k.slot f
  | none => s

/-- Set a bit of RESULT of the image in collection (R352). -/
def State.soResult (s : State) (i : Nat) : State := s.modImage fun g => { g with result := setBit g.result i true }

/-- Change the sections of a tier and a die; tier 0 has one section (R353). -/
def Image.modSection (g : Image) (tier die : Nat) (f : Section → Section) : Image :=
  { g with sections := g.sections.map fun x =>
      if x.tier = tier ∧ (tier = 0 ∨ x.die = die) then f x else x }

/-! ## Units and records in scope -/

/-- A row of the spare map as committed at START (R310, log entry 152). -/
def State.soRow (s : State) (r : Nat) : SpareRow :=
  match s.dump.running with
  | some k => Tab.at k.rows r SpareRow.fresh
  | none => s.row r

/-- Physical slots of a cluster that hold a logical core, in the order of the logical numbers (R310). -/
def State.mappedSlots (s : State) (c : Nat) : List Nat :=
  (List.range 4).flatMap fun r =>
    ((s.soRow (c * 4 + r)).map.filter fun p => p ≠ 0xFF).map fun p => r * 34 + p

/-- Clusters of a die in the scope of an image (R309, R310). -/
def State.scopeOf (s : State) (g : Image) (die : Nat) : List Nat :=
  ((List.range 8).map fun c => die * 8 + c).filter fun c => g.scope.getLsbD c && (s.soRow (c * 4)).rowState ≠ 3

/-- The logical number of a core under that map. -/
def State.soLogical (s : State) (uid : Nat) : Option Nat :=
  let r := uidCluster uid * 4 + uidSlot uid / 34
  ((s.soRow r).map.findIdx? fun p => p = uidSlot uid % 34).map fun c => r * 32 + c

/-- Records of a tier on a die: TYPE and UID, in the order in which the runner reads them (R310, R355). -/
def State.tierRecords (s : State) (g : Image) (die tier : Nat) : List (Nat × Nat) :=
  let cs := s.scopeOf g die
  let any := (List.range 8).any fun c => g.scope.getLsbD (die * 8 + c)
  if tier = 1 then
    (cs.flatMap fun c => ((s.mappedSlots c).flatMap fun k =>
        [(0x10, slotUid c k), (0x11, slotUid c k), (0x12, slotUid c k)]) ++
      [(0x13, tapUid c), (0x14, tapUid c)]) ++
    (if any then (0x15, seamUid die) :: ((portsOf die).map fun p => (0x16, portUid p)) else [])
  else cs.flatMap fun c => (s.mappedSlots c).map fun k => (0x20, slotUid c k)

/-- Decoded length of a record type (R355). -/
def recLen (type : Nat) : Nat :=
  match type with
  | 0x10 => 4096
  | 0x11 => 16384
  | 0x12 => 4096
  | 0x13 => 32768
  | 0x14 => 16384
  | 0x15 => 8192
  | 0x16 => 262144
  | 0x20 => 524288
  | _ => 0

/-- Tap window of a record type; the seam's and the ports' buffers have none (R325, R355). -/
def recWindow (type : Nat) : Option Nat :=
  match type with
  | 0x10 => some 0x40
  | 0x11 => some 0x41
  | 0x12 => some 0x42
  | 0x13 => some 0x50
  | 0x14 => some 0x51
  | 0x20 => some 0x44
  | _ => none

/-- Types whose window carries secure bits (R40). -/
def recSecure (type : Nat) : Bool := type = 0x10 || type = 0x11 || type = 0x12 || type = 0x20

/-- Tier of a record type. -/
def recTier (type : Nat) : Nat := if type < 0x10 then 0 else if type < 0x20 then 1 else 2

/-- SUB of a record (R355, R15). -/
def State.recSub (s : State) (type uid : Nat) : Nat :=
  if recSecure type then (s.soLogical uid).getD 0xFFFF
  else if type = 0x13 then uidCluster uid * 512
  else 0

/-- Key of a record in a ring transaction. -/
def recKey (type uid : Nat) : Nat := type * 65536 + uid

/-- Octets of an exclusion map (R345, R355). -/
def mapLen (type : Nat) : Nat := ceilDiv (recLen type / 64) 64 * 8

/-- The bound of a tier on a die (R324). -/
def State.tierBound (s : State) (g : Image) (die tier : Nat) : Nat :=
  ((s.tierRecords g die tier).map fun r =>
    32 + recLen r.1 + (if recSecure r.1 then 32 + mapLen r.1 else 0)).sum + 32

/-- The space of a tier past its start offset (R323, R324). -/
def State.tierSpace (s : State) (tier : Nat) : Nat :=
  if tier = 1 then s.dump.reserveSize / 4 - 1183744
  else if s.dump.tier2Reserve then s.dump.reserveSizeT2 / 2 - 4096 else 0

/-! ## Coding (R335–R337) -/

/-- 64-bit words of a payload. -/
def words64 : Nat → List Byte → List Nat
  | 0, _ => []
  | n + 1, l => if l.isEmpty then [] else ofLe (l.take 8) :: words64 n (l.drop 8)

/-- Words of a payload. -/
def payloadWords (l : List Byte) : List Nat := words64 (l.length / 8 + 1) l

/-- A ZRUN block: its token and, for a literal run, its words (R336). -/
def zrunBlock (zero : Bool) (ws : List Nat) : List Byte :=
  le 2 (ws.length + 32768 * bit zero) ++ (if zero then [] else ws.flatMap (le 8))

/-- Maximal runs of zero words and of literal words, each at most 32,767 words long (R336). -/
def zrunStep : List Nat → Bool → List Nat → List Byte
  | [], zero, run => if run.isEmpty then [] else zrunBlock zero run.reverse
  | w :: ws, zero, run =>
    let z : Bool := w = 0
    if run.isEmpty then zrunStep ws z [w]
    else if z = zero ∧ run.length < 32767 then zrunStep ws zero (w :: run)
    else zrunBlock zero run.reverse ++ zrunStep ws z [w]

/-- ZRUN coding of words. -/
def zrun (ws : List Nat) : List Byte := zrunStep ws false []

/-- Decoding of ZRUN blocks. -/
def unzrun : Nat → List Byte → List Nat
  | 0, _ => []
  | n + 1, l =>
    if l.length < 2 then []
    else
      let t := fieldLe l 0 2
      let k := t % 32768
      if 32768 ≤ t then List.replicate k 0 ++ unzrun n (l.drop 2)
      else payloadWords (slice l 2 (8 * k)) ++ unzrun n (l.drop (2 + 8 * k))

/-- The decoded words of a reference record: RAW or ZRUN (R316, R335). -/
def Rec.words (r : Rec) : List Nat :=
  if r.coding = 0 then payloadWords r.stored else unzrun r.stored.length r.stored

/-- The reference record of a record, while it can be read (R337): from the own copy, else from the mirror. Whether
a copy still matches its CRC is the stack's own state, two bits of a free value (log entry 9). -/
def State.refRecord (s : State) (die uid type sub len : Nat) : Option Rec :=
  (s.dump.refArea.records.find? fun x =>
    x.die = die && x.record.uid = uid && x.record.type = type && x.record.sub = sub &&
      x.record.payloadLen = len && x.record.state = 0 &&
      ((x.own && bitOf s.freeNow 0) || (x.mirror && bitOf s.freeNow 1))).map StoredRec.record

/-- The shortest coding that is allowed for a record of a tier, RAW when none is shorter (R335, R337). -/
def State.coded (s : State) (g : Image) (die uid type tier sub : Nat) (data : List Byte) : Nat × List Byte :=
  let ws := payloadWords data
  let z := zrun ws
  let delta : Option (List Byte) :=
    if tier = 1 ∧ ¬ g.ref ∧ g.base ≠ 0 then
      (s.refRecord die uid type sub data.length).map fun r => zrun (List.zipWith Nat.xor ws r.words)
    else none
  let best := if z.length < data.length then (1, z) else (0, data)
  match delta with
  | some d => if d.length < best.2.length then (2, d) else best
  | none => best

/-! ## Records -/

/-- Zero the lines of a payload that are listed (R345). -/
def zeroLines (data : List Byte) (lines : List Nat) : List Byte :=
  lines.foldl (fun d k => d.take (64 * k) ++ zeros (Nat.min 64 (d.length - 64 * k)) ++ d.drop (64 * k + 64)) data

/-- The map of excluded lines (R345). -/
def lineMap (type : Nat) (lines : List Nat) : List Byte :=
  le (mapLen type) (lines.foldl (fun b k => b ||| 2 ^ k) 0)

/-- Record flags (R354). -/
def recFlags (excluded chilled ring coarse untimed : Bool) : Nat :=
  bit excluded + 2 * bit chilled + 4 * bit ring + 8 * bit coarse + 16 * bit untimed

/-- Base of the quarter or half that a tier's own or mirrored copies go to (R319). -/
def Dump.areaBase (d : Dump) (ref : Bool) (tier : Nat) (mirror : Bool) : Nat :=
  if tier = 2 then d.reserveBaseT2 + bit mirror * (d.reserveSizeT2 / 2)
  else d.reserveBase + ((if ref then 0 else 2) + bit mirror) * (d.reserveSize / 4)

/-- Where the next record of a tier goes in its quarter or half (R323, R330). -/
def DieWork.place (w : DieWork) (tier : Nat) : Nat := if tier = 2 then w.place2 else w.place1

/-- The place after a record. -/
def DieWork.placed (w : DieWork) (r : Rec) : DieWork :=
  if r.tier = 1 then { w with place1 := w.place1 + r.space }
  else if r.tier = 2 then { w with place2 := w.place2 + r.space }
  else w

/-- The two writes of a tier 1 or tier 2 record, at the same offset of the own die's quarter or half and of the
partner's mirror (R24, R319, R330): the address, then the octets. -/
def State.writeCopies (s : State) (die : Nat) (r : Rec) (off : Nat) : State :=
  let ref := (s.dump.running.map Shakeout.ref).getD false
  let copy (mirror : Bool) : List Byte := be 8 (s.dump.areaBase ref r.tier mirror + off) ++ r.octets
  (s.emit .stackWrite die (copy false)).emit .stackWrite (die ^^^ 8) (copy true)

/-- A record leaves the runner: to both reserve copies, or to the Ladle for tier 0 (R329, R330). -/
def State.sendRec (s : State) (die : Nat) (r : Rec) (sum : Nat) : State :=
  let off := (s.work die).place r.tier
  let s := s.modWork die fun w => { w.placed r with writing := w.writing ++ [⟨r, sum, s.elapsed, off⟩] }
  if r.tier = 0 then s.emit .mirror die r.octets else s.writeCopies die r off

/-- READ_PNS_LO of a die's runner. -/
def State.readLo (s : State) (die : Nat) : Nat := s.stampPns (runnerUid die) % 2 ^ 32

/-- The runner's replica is COLD (R121). -/
def State.runnerCold (s : State) (die : Nat) : Bool := (s.replica (runnerUid die)).state = .cold

/-- A header-only record (R340, R341). -/
def State.emptyRec (s : State) (die uid type state reason : Nat) : Rec :=
  { uid := uid, type := type, tier := recTier type, coding := 0, state := state, sub := s.recSub type uid
    payloadLen := 0, stored := [], reason := reason
    flags := recFlags false false false false (s.runnerCold die), readPnsLo := s.readLo die }

/-- SO_UNREACHABLE bits of a unit (R340, R364). -/
def unreachableBit (uid : Nat) : Option Nat :=
  if uidIsCore uid then some (uidCluster uid * 136 + uidSlot uid)
  else if uidIsTap uid then some (17408 + uidCluster uid)
  else none

/-- Account an UNREACHABLE record (R340). -/
def State.countUnreachable (s : State) (uid : Nat) : State :=
  let s := (s.soResult 0).modImage fun g => { g with unreachable := g.unreachable + 1 }
  let d := s.dump
  { s with dump := { d with
      unreachableCount := inc32 d.unreachableCount
      unreachable := match unreachableBit uid with
        | some b => setBit d.unreachable b true
        | none => d.unreachable } }

/-- An UNREACHABLE record (R340). -/
def State.unreachable (s : State) (die uid type reason : Nat) : State :=
  (s.sendRec die (s.emptyRec die uid type 1 reason) 0).countUnreachable uid

/-- A NOT_COLLECTED record (R341–R343). -/
def State.notCollected (s : State) (die uid type reason : Nat) : State :=
  s.sendRec die (s.emptyRec die uid type 2 reason) 0

/-- A port's freeze record is coarse. -/
def State.coarseUnit (s : State) (type uid : Nat) : Bool :=
  type = 0x16 && (s.optPort (uidPortIndex uid)).coarse

/-- A COLLECTED tier 1 or tier 2 record, with its exclusion map when lines were excluded (R345). -/
def State.collected (s : State) (die : Nat) (p : PartRec) : State :=
  match s.soImage with
  | none => s
  | some g =>
    let data := p.got.flatMap Prod.snd
    let lines := if g.dumpSecure then [] else p.secure
    let clean := zeroLines data lines
    let sub := s.recSub p.type p.uid
    let cold := s.runnerCold die
    let (coding, stored) := s.coded g die p.uid p.type (recTier p.type) sub clean
    let r : Rec :=
      { uid := p.uid, type := p.type, tier := recTier p.type, coding := coding, state := 0, sub := sub
        payloadLen := clean.length, stored := stored, reason := 0
        flags := recFlags (!lines.isEmpty) p.chilled p.ring (s.coarseUnit p.type p.uid) cold
        readPnsLo := p.readLo }
    let s := s.drawn.sendRec die r (partOf clean)
    if lines.isEmpty then s
    else
      let map := lineMap p.type lines
      let (mc, ms) := s.coded g die p.uid 0x7E (recTier p.type) (p.type * 2 ^ 24 + sub) map
      let m : Rec :=
        { uid := p.uid, type := 0x7E, tier := recTier p.type, coding := mc, state := 0
          sub := p.type * 2 ^ 24 + sub, payloadLen := map.length, stored := ms, reason := 0
          flags := recFlags false p.chilled p.ring false cold, readPnsLo := p.readLo }
      let s := (s.drawn.sendRec die m (partOf map)).modImage fun g => { g with excluded := g.excluded + lines.length }
      { s with dump := { s.dump with excludedLines := s.dump.excludedLines + lines.length } }

/-! ## Debug-class reads (R325, R328, R338) -/

/-- Octets of one debug-class read (R328). -/
def bulkUnit : Nat := 4096

/-- Why a record is not read at all (R341–R343). -/
def State.skipReason (s : State) (k : Shakeout) (die type uid : Nat) : Option Nat :=
  if type = 0x15 ∨ type = 0x16 then if k.frozen.getLsbD die then none else some 0x11
  else
    let c := uidCluster uid
    if k.resets.getLsbD c || s.health (ccpUid c) = 2 then some 0x12
    else if recSecure type then
      match Tab.find k.stopped c with
      | some clk => if clk.testBit (uidSlot uid) then some 0x10 else none
      | none => none
    else if type = 0x14 ∧ ¬ k.frozen.getLsbD die then some 0x11
    else none

/-- A tap has failed in this shakeout (R339). -/
def State.tapFailed (s : State) (c : Nat) : Bool := (s.work (c / 8)).failedTaps.getLsbD (c % 8)

/-- Start or go on with a record's ring read at an offset (R338); a record without a tap window ends
UNREACHABLE under an open reason (log entry 9), one whose tap has failed before any of its reads under
TAP_FAILED_EARLIER. -/
def State.ringRecord (s : State) (die type uid off : Nat) : State :=
  match recWindow type with
  | none =>
    let reason := s.freeNow % 65536
    (s.drawn.modWork die fun w => { w with parts := w.parts.filter fun p => !(p.uid = uid && p.type = type) }).unreachable
      die uid type reason
  | some win =>
    let c := uidCluster uid
    if s.tapFailed c then
      (s.modWork die fun w => { w with parts := w.parts.filter fun p => !(p.uid = uid && p.type = type) }).unreachable
        die uid type 3
    else
      let n := Nat.min bulkUnit (recLen type - off)
      s.ringStart (ringRead c win (if recSecure type then uidSlot uid else 0) (n / 4) off
        (.debugFallback (recKey type uid)))

/-- Open a record's collection. -/
def State.openPart (s : State) (die type uid : Nat) : State :=
  s.modWork die fun w => { w with parts := w.parts ++ [⟨uid, type, [], [], false, false, s.readLo die, none⟩] }

/-- A slot that has had a bulk timeout is read over the ring only (R338). -/
def State.onRing (s : State) (die type uid : Nat) : Bool :=
  recSecure type && (s.work die).ringSlots.getLsbD (uidCluster uid % 8 * 136 + uidSlot uid)

/-- Issue the reads of a record from `bulkOff` on while places are free (R328); true once all are
issued. -/
def State.issueRanges (s : State) (die type uid : Nat) : Nat → State × Bool
  | 0 => (s, false)
  | n + 1 =>
    let w := s.work die
    if recLen type ≤ w.bulkOff then (s, true)
    else if 128 ≤ w.out.length then (s, false)
    else
      let s := s.modWork die fun w =>
        { w with out := w.out ++ [⟨uid, type, w.bulkOff, s.elapsed⟩], bulkOff := w.bulkOff + bulkUnit }
      State.issueRanges (s.emit .busRead die (be 2 uid ++ be 1 type ++ be 4 w.bulkOff)) die type uid n

/-- Go through a tier's records from the cursor on. -/
def State.feedRecords (s : State) (die : Nat) : List (Nat × Nat) → State
  | [] => s
  | (type, uid) :: rest =>
    match s.dump.running with
    | none => s
    | some k =>
      let w := s.work die
      let next (s : State) : State := s.modWork die fun w => { w with bulkRec := w.bulkRec + 1, bulkOff := 0 }
      if w.bulkOff = 0 ∧ k.aborting then s
      else if w.bulkOff = 0 then
        match s.skipReason k die type uid with
        | some reason => State.feedRecords (next (s.notCollected die uid type reason)) die rest
        | none =>
          let s := s.openPart die type uid
          if s.onRing die type uid then
            State.feedRecords (next (s.ringRecord die type uid 0)) die rest
          else
            match s.issueRanges die type uid 129 with
            | (s, true) => State.feedRecords (next s) die rest
            | (s, false) => s
      else if !(w.parts.any fun p => p.uid = uid && p.type = type && p.ending.isNone) then
        State.feedRecords (next s) die rest
      else
        match s.issueRanges die type uid 129 with
        | (s, true) => State.feedRecords (next s) die rest
        | (s, false) => s

/-- The CORE_CLOCK reads of the die's taps in scope have ended (R342). -/
def State.clocksRead (s : State) (k : Shakeout) (die : Nat) : Bool :=
  (List.range 8).all fun c => (Tab.find k.stopped (die * 8 + c)).isSome || s.tapFailed (die * 8 + c) ||
    (s.work die).clockless.getLsbD c

/-- Replace the record in collection of a unit and type. -/
def State.modPart (s : State) (die type uid : Nat) (f : PartRec → PartRec) : State :=
  s.modWork die fun w => { w with parts := w.parts.map fun p => if p.uid = uid ∧ p.type = type then f p else p }

/-- The record in collection of a unit and type. -/
def State.part (s : State) (die type uid : Nat) : Option PartRec :=
  (s.work die).parts.find? fun p => p.uid = uid && p.type = type

/-- Forget a record in collection and its ring reads; its debug-class reads keep their places until they end
(R328). -/
def State.dropPart (s : State) (die type uid : Nat) : State :=
  let s := s.ringDrop fun t => t.die = die && t.use = .debugFallback (recKey type uid)
  s.modWork die fun w => { w with parts := w.parts.filter fun p => !(p.uid = uid && p.type = type) }

/-- Octets of a record in collection that have been read. -/
def PartRec.have (p : PartRec) : Nat := (p.got.map fun x => x.2.length).sum

/-- A record all of whose ranges have been read is written; a tier 2 record while tier 2 is admitted (R334). -/
def State.writePart (s : State) (die type uid : Nat) : State :=
  match s.part die type uid with
  | none => s
  | some p =>
    if p.have = recLen type && p.ending.isNone && (recTier type ≠ 2 || s.tier2Admitted) then
      (s.modWork die fun w => { w with parts := w.parts.filter fun q => !(q.uid = uid && q.type = type) }).collected
        die p
    else s

/-- A range of a record has been read; the record is complete once all of its ranges have been. -/
def State.rangeRead (s : State) (die type uid off : Nat) (data : List Byte) (lines : List Nat) (ring : Bool) :
    State :=
  let chilled := ring && uidIsCore uid && s.chilled (uidCluster uid)
  let lines := lines.filter fun k => decide (64 * k < Nat.min bulkUnit (recLen type - off))
  let lo := s.readLo die
  let s := s.modPart die type uid fun p =>
    { p with got := Tab.put p.got off (fit (Nat.min bulkUnit (recLen type - off)) data)
             secure := (p.secure ++ if recSecure type then lines.map fun k => off / 64 + k else []).eraseDups
             readLo := lo, ring := p.ring || ring, chilled := p.chilled || chilled }
  let s : State := { s with dump := { s.dump with
    bytesRead := add64 s.dump.bytesRead (Nat.min bulkUnit (recLen type - off)) } }
  let s := if type = 0x10 then
      s.modTap (uidCluster uid) fun t => t.learnSecure (uidSlot uid) (!lines.isEmpty) true
    else s
  s.writePart die type uid

/-- A record ends NOT_COLLECTED or UNREACHABLE while its collection is open; a tier 2 record once tier 2 is
admitted (R334). -/
def State.endPart (s : State) (die type uid state reason : Nat) : State :=
  if (s.part die type uid).isNone then s
  else if recTier type = 2 ∧ ¬ s.tier2Admitted then
    let s := s.ringDrop fun t => t.die = die && t.use = .debugFallback (recKey type uid)
    s.modPart die type uid fun p => { p with ending := some (state, reason) }
  else
    let s := s.dropPart die type uid
    if state = 1 then s.unreachable die uid type reason else s.notCollected die uid type reason

/-- A fall-back read of a record is outstanding on the ring. -/
def State.ringBusy (s : State) (die key : Nat) : Bool :=
  s.units.ring.any fun t => t.die = die && t.use = .debugFallback key

/-- Tier 2 records whose end waited for the governor are written (R334). -/
def State.flushParts (s : State) (die : Nat) : State :=
  (s.work die).parts.foldl (fun s p =>
    match p.ending with
    | some (state, reason) =>
      if s.ringBusy die (recKey p.type p.uid) then s else s.endPart die p.type p.uid state reason
    | none => s.writePart die p.type p.uid) s

/-- The runner goes on with its die: tier 1, then tier 2 while the governor admits it (R327, R334,
R342). -/
def State.feedDie (s : State) (die : Nat) : State :=
  match s.dump.running, s.soImage with
  | some k, some g =>
    let w := s.work die
    if w.lost || !s.clocksRead k die then s
    else
      let s := if w.bulkTier = 1 ∧ bitOf k.opened 1 ∧ bitOf k.tiers 1 then
          s.feedRecords die ((s.tierRecords g die 1).drop w.bulkRec)
        else s
      let w := s.work die
      let left := bitOf k.opened 1 && bitOf k.tiers 1 && decide (w.bulkRec < (s.tierRecords g die 1).length)
      let s := if w.bulkTier = 1 ∧ ¬ left then
          s.modWork die fun w => { w with bulkTier := 2, bulkRec := 0, bulkOff := 0 }
        else s
      let w := s.work die
      if w.bulkTier = 2 ∧ bitOf k.opened 2 ∧ bitOf k.tiers 2 ∧ s.tier2Admitted then
        (s.flushParts die).feedRecords die ((s.tierRecords g die 2).drop w.bulkRec)
      else s
  | _, _ => s

/-! ## Tier 0 (R327, R329, R339, R356, R357) -/

/-- The ring reads of tier 0 of a die, by number: CORE_CLOCK of every tap, the other cluster windows, the
PEEK heads of the mapped slots. -/
def tier0Item (i : Nat) : Nat × Nat × Nat :=
  if i < 8 then (i, 0x07, 0)
  else if i < 48 then
    ((i - 8) % 8, [0x10, 0x01, 0x08, 0x11, 0x12].getD ((i - 8) / 8) 0x10, 0)
  else ((i - 48) % 8, 0x43, (i - 48) / 8)

/-- Number of items of tier 0. -/
def tier0Items : Nat := 1136

/-- Octets that an item reads. -/
def tier0Len (win : Nat) : Nat := if win = 0x43 then 32 else (windowSize win).getD 4

/-- The slot holds a logical core. -/
def State.slotMapped (s : State) (c slot : Nat) : Bool := (s.uidLogical (slotUid c slot)).isSome

/-- Tier 0 reads of a die on the ring or waiting for it. -/
def State.tier0Out (s : State) (die : Nat) : Nat :=
  ((s.units.ring ++ s.units.ringQueue).filter fun t =>
    t.die = die && (match t.use with | .tier0 _ => true | _ => false)).length

/-- Keep tier 0 reads going: up to 16 (R65), none of a failed tap (R339). The CLUSTER and CORE_STATUS records of a die
are all in progress from its first read on, so ABORT lets them finish (R318, log entry 154). -/
def State.feedTier0 (s : State) (die : Nat) : Nat → State
  | 0 => s
  | n + 1 =>
    let w := s.work die
    if w.lost || s.dump.running.isNone || decide (tier0Items ≤ w.cursor) || decide (16 ≤ s.tier0Out die) then s
    else
      let (c, win, slot) := tier0Item w.cursor
      let i := w.cursor
      let s := s.modWork die fun w => { w with cursor := i + 1 }
      if s.tapFailed (die * 8 + c) || (win = 0x43 && !s.slotMapped (die * 8 + c) slot) then
        State.feedTier0 s die n
      else
        State.feedTier0 (s.ringStart (ringRead (die * 8 + c) win slot (ceilDiv (tier0Len win) 4) 0 (.tier0 i))) die n

/-- Change what has been read of a cluster. -/
def State.modCluster0 (s : State) (die c : Nat) (f : Tier0Cluster → Tier0Cluster) : State :=
  s.modWork die fun w => { w with clusters := Tab.put w.clusters c (f (Tab.at w.clusters c Tier0Cluster.fresh)) }

/-- The record of a fall-back read that the ring has not yet taken (R339): UNREACHABLE without access, unless another
of its reads is on the ring, which it waits for. -/
def State.fallbackLost (s : State) (die key : Nat) : State :=
  let s : State := { s with units := { s.units with
    ringQueue := s.units.ringQueue.filter fun t => !(t.die = die && t.use = .debugFallback key) } }
  if s.ringBusy die key then s.modPart die (key / 65536) (key % 65536) fun p => { p with ending := some (1, 3) }
  else s.endPart die (key / 65536) (key % 65536) 1 3

/-- A tap fails in this shakeout: its queued reads go (R339). -/
def State.failTap (s : State) (die c : Nat) : State :=
  let s := s.ringDrop fun t => t.die = die && t.tap = c && (match t.use with | .tier0 _ => true | _ => false)
  let s := s.modWork die fun w => { w with failedTaps := setBit w.failedTaps c true }
  let keys := s.units.ringQueue.filterMap fun t =>
    if t.die = die ∧ t.tap = c then (match t.use with | .debugFallback k => some k | _ => none) else none
  keys.eraseDups.foldl (fun s k => s.fallbackLost die k) s

/-- The windows that a CORE_STATUS entry is made of, beside CORE_CLOCK (R356). -/
def statusWindow (win : Nat) : Bool := win = 0x11 || win = 0x12 || win = 0x43

/-- A tier 0 read of a cluster has completed: the replica's time for the records made of it (R354). -/
def State.tier0Stamp (s : State) (die c win : Nat) : State :=
  let lo := s.readLo die
  s.modCluster0 die c fun t =>
    { t with clusterLo := if statusWindow win then t.clusterLo else some lo
             statusLo := if statusWindow win || win = 0x07 then some lo else t.statusLo }

/-- A tier 0 ring read has ended with a status (R339, R356). -/
def State.tier0Ended (s : State) (die item status : Nat) (data : List Byte) : State :=
  let (c, win, slot) := tier0Item item
  let s := if status = Rs.timeout ∨ status = Rs.crcError then s else s.tier0Stamp die c win
  if status = Rs.timeout ∨ status = Rs.crcError then
    (s.modCluster0 die c fun t =>
      { t with reason := if t.reason = 0 then (if status = Rs.timeout then 1 else 2) else t.reason }).failTap die c
  else if win = 0x43 then
    s.modCluster0 die c fun t =>
      { t with peeks := if status = Rs.ok then Tab.put t.peeks slot (fit 32 data) else t.peeks
               peekStatus := Tab.put t.peekStatus slot status }
  else if status = Rs.ok then
    let n := tier0Len win
    let s := s.modCluster0 die c fun t => { t with windows := Tab.put t.windows win (fit n data) }
    if win = 0x07 then s.modSo fun k => { k with stopped := Tab.put k.stopped (die * 8 + c) (fieldLe data 0 17) }
    else s
  else
    let s := if win = 0x07 then s.modWork die fun w => { w with clockless := setBit w.clockless c true } else s
    s.modCluster0 die c fun t => { t with reason := if t.reason = 0 then 5 else t.reason }

/-- What is known of a cluster for tier 0. -/
def State.cluster0 (s : State) (die c : Nat) : Tier0Cluster := Tab.at (s.work die).clusters c Tier0Cluster.fresh

/-- A cluster has been in a unit reset since START (R343). -/
def State.resetSince (s : State) (c : Nat) : Bool :=
  match s.dump.running with
  | some k => k.resets.getLsbD c
  | none => false

/-- The CLUSTER payload (R343, R357). -/
def State.clusterPayload (s : State) (die c : Nat) : List Byte :=
  let k := die * 8 + c
  let t := s.cluster0 die c
  let win (w : Nat) : List Byte := fit (tier0Len w) (if s.tapFailed k then [] else Tab.at t.windows w [])
  let rows := (List.range 4).map fun r => s.row (k * 4 + r)
  let flags := bit (s.qu.members.getLsbD k) + 2 * bit (s.stopped k) + 4 * bit (s.chilled k) +
    8 * bit (s.resetSince k || s.health (ccpUid k) = 2) + 16 * bit (s.clusterRouted k) + 32 * bit (s.tapFailed k)
  le 1 flags ++ le 1 (s.health (ccpUid k)) ++ zeros 2 ++ win 0x10 ++
    le 8 (Tab.at s.hang.beats k BeatWatch.fresh).changedFrame ++ win 0x01 ++ win 0x07 ++
    (rows.flatMap fun x => le 1 x.rowState) ++ (rows.flatMap fun x => le 1 x.sparesLeft) ++ zeros 7 ++
    win 0x08 ++ zeros 62

/-- One CORE_STATUS entry (R356). -/
def State.coreStatus (s : State) (die c slot : Nat) : List Byte :=
  let k := die * 8 + c
  let t := s.cluster0 die c
  let uid := slotUid k slot
  let row := s.row (k * 4 + slot / 34)
  let failed := row.failed.contains (slot % 34)
  match s.uidLogical uid with
  | none => le 2 uid ++ le 2 0xFFFF ++ le 1 (16 * bit (!failed) + 32 * bit failed) ++ zeros 59
  | some n =>
    let st := Tab.at t.peekStatus slot 0
    let flags := 1 + 2 * bit ((s.stoppedSlots k).getLsbD slot) +
      4 * bit (s.qu.members.getLsbD k && (s.stoppedSlots k).getLsbD slot) + 8 * bit (s.chilled k) +
      32 * bit failed + 64 * bit (st ≠ 0)
    le 2 uid ++ le 2 n ++ le 1 flags ++ le 1 st ++ zeros 2 ++
      fit 16 (slice (Tab.at t.windows 0x12 []) (16 * slot) 16) ++
      fit 4 (slice (Tab.at t.windows 0x11 []) (4 * slot) 4) ++ zeros 4 ++ fit 32 (Tab.at t.peeks slot [])

/-- SYNC_CRC of a die: the sum over its ports (R161, R357). -/
def State.dieSyncCrc (s : State) (die : Nat) : Nat :=
  Nat.min (2 ^ 32 - 1) ((portsOf die).map fun p => (s.timePort p).syncCrc).sum

/-- The RUNNER payload (R357). -/
def State.runnerPayload (s : State) (die : Nat) : List Byte :=
  let r := s.runner die
  let k := s.sink die
  let d := s.dieSensors die
  let st := match (s.replica (runnerUid die)).state with
    | .cold => 0
    | .tracking => 1
    | .flywheel => 2
  le 1 st ++ zeros 3 ++ le 4 r.ringCrc ++ le 4 r.markCrc ++ le 4 (s.dieSyncCrc die) ++
    le 8 (if 0 < k.wraps then s.trace.size - 4096 else k.writeOffset - 4096) ++ le 8 r.lastReport ++
    ((List.range 8).flatMap fun i => le 2 (ofSigned 16 (d.diode.getD i 0))) ++
    ((List.range 4).flatMap fun i => le 2 (d.droopMin.getD i 0)) ++ zeros 200

/-- The PORT_FREEZE payload (R357); what the host counts at the port is open (log entry 9). -/
def State.portPayload (s : State) (p free : Nat) : List Byte :=
  let x := s.optPort p
  le 1 (bit x.frozen.isSome + 2 * bit x.coarse + 4 * bit x.linkUp + 8 * (free / 2 ^ 128 % 2)) ++ zeros 3 ++
    le 4 (x.dRx.getD 0xFFFFFFFF) ++ le 16 free ++ le 8 (x.frozen.getD 0) ++ zeros 32

/-- A COLLECTED tier 0 record, always RAW (R335), with the replica's time when its last read completed (R354); a record
that reads no tap is stamped now. -/
def State.tier0Rec (s : State) (die uid type : Nat) (data : List Byte) (lo : Option Nat) : State :=
  s.sendRec die
    { uid := uid, type := type, tier := 0, coding := 0, state := 0, sub := 0, payloadLen := data.length
      stored := data, reason := 0, flags := recFlags false false false (s.coarseUnit 0x16 uid && type = 5)
        (s.runnerCold die), readPnsLo := lo.getD (s.readLo die) } (partOf data)

/-- The runner builds its tier 0 records once every read has ended (R327, R339, R340); after ABORT only those that
were in progress (R318). -/
def State.buildTier0 (s : State) (die : Nat) : State :=
  let w := s.work die
  if w.lost || w.tier0Built || decide (w.cursor < tier0Items) || decide (0 < s.tier0Out die) then s
  else
    let s := s.modWork die fun w => { w with tier0Built := true }
    let s := (List.range 8).foldl (fun s c =>
      let k := die * 8 + c
      let s := s.tier0Rec die (tapUid k) 3 (s.clusterPayload die c) (s.cluster0 die c).clusterLo
      let why := (s.cluster0 die c).reason
      if why ≠ 0 then s.unreachable die (tapUid k) 4 why
      else if s.tapFailed k then s.unreachable die (tapUid k) 4 3
      else s.tier0Rec die (tapUid k) 4 ((List.range 136).flatMap fun n => s.coreStatus die c n)
        (s.cluster0 die c).statusLo) s
    if (s.dump.running.map Shakeout.aborting).getD true then s
    else
    let s := s.tier0Rec die (runnerUid die) 2 (s.runnerPayload die) none
    (portsOf die).foldl (fun s p =>
      let f := s.freeNow
      s.drawn.tier0Rec die (portUid p) 5 (s.portPayload p f) none) s

/-! ## Parts, seals and status (R348–R350, R359) -/

/-- The runner has finished a tier on its die (R318, R349). -/
def State.tierDone (s : State) (g : Image) (k : Shakeout) (die tier : Nat) : Bool :=
  let w := s.work die
  let writing := w.writing.any fun r => r.record.tier = tier
  let open_ := w.parts.any fun p => recTier p.type = tier
  if tier = 0 then w.tier0Built && !writing
  else if w.bulkTier < tier then k.aborting && w.bulkOff = 0 && !writing && !open_
  else if tier < w.bulkTier then !writing && !open_
  else !writing && !open_ && w.bulkOff = 0 &&
    (k.aborting || (bitOf k.opened tier && decide ((s.tierRecords g die tier).length ≤ w.bulkRec)))

/-- The part of a tier has been reported, or the runner is lost. -/
def State.partIn (s : State) (die tier : Nat) : Bool :=
  (s.work die).lost || (s.work die).reported.getLsbD tier

/-- Every runner has reported a tier or is lost. -/
def State.tierIn (s : State) (tier : Nat) : Bool := (List.range 16).all fun d => s.partIn d tier

/-- Tiers of the shakeout, rising. -/
def Shakeout.tierList (k : Shakeout) : List Nat := (List.range 3).filter fun t => bitOf k.tiers t

/-- SO_STATUS (R359). -/
def State.soStatus (s : State) (k : Shakeout) : Nat :=
  match k.tierList.find? fun t => !s.tierIn t with
  | none => 4
  | some t => if k.aborting then 5 else t + 1

/-- Bring SO_STATUS up to date. -/
def State.soSettle (s : State) : State :=
  match s.dump.running with
  | some k => { s with dump := { s.dump with status := s.soStatus k } }
  | none => s

/-- The HUB payload of a core (R357). -/
def State.hubPayload (s : State) (core : Nat) : List Byte :=
  let v := s.pod.servo
  let b := le 1 (bit (core = s.activeCore)) ++ le 1 v.state ++ le 1 s.pod.role ++ le 1 s.qu.state ++
    le 4 (s.hub.core core).fwVersion ++ le 4 s.backup.resetCount ++ le 4 s.errorBound ++
    le 8 s.frame.number ++ le 4 (ofSigned 32 v.offsetPs) ++ le 4 (ofSigned 32 v.freqPpb) ++
    le 8 s.qu.cutPns ++ le 16 s.qu.notInCut.toNat ++ le 4 s.qu.notInCutOther.toNat ++
    le 4 s.topo.generation ++ le 80 s.routeAround.toNat ++ le 20 s.qu.set.toNat ++
    le 1 (s.qu.armExpected) ++ le 1 s.qu.armCount ++ zeros 26 ++
    ((List.range 32).flatMap fun n => le 1 (s.entry n).status)
  let tail := s.log.records.flatMap fun r => r.stored s.readPriv
  b ++ fit 288 (tail.drop (tail.length - 288))

/-- A tier 0 record stands in the Ladle and counts in its section (R353). -/
def State.ladlePut (s : State) (r : Rec) : State :=
  s.modImage fun g => Image.modSection { g with tier0 := g.tier0 ++ [r] } 0 0 fun x =>
    { x with count := x.count + 1, storedBytes := x.storedBytes + r.space }

/-- The END record of a section (R318, R355): SUB is its RECORD_COUNT. -/
def endRec (tier count readLo : Nat) (untimed : Bool) : Rec :=
  { uid := 0, type := 0x7F, tier := tier, coding := 0, state := 0, sub := count, payloadLen := 0, stored := []
    reason := 0, flags := recFlags false false false false untimed, readPnsLo := readLo }

/-- The HUB records of the two cores enter the Ladle (R355). -/
def State.hubRecords (s : State) : State :=
  (List.range 2).foldl (fun s core =>
    let data := s.hubPayload core
    let r : Rec :=
      { uid := coreUid core, type := 1, tier := 0, coding := 0, state := 0, sub := 0, payloadLen := data.length
        stored := data, reason := 0, flags := recFlags false false false false (!s.tb.active.counting)
        readPnsLo := s.pns % 2 ^ 32 }
    s.ladlePut r) s

/-- Sum of the HUB records of an image (R349). -/
def Image.hubSum (g : Image) : Nat :=
  (((g.tier0.filter fun r => r.type = 1).map fun r => partOf r.stored).sum) % 2 ^ 64

/-- The sum that the hub expects of a tier (R350): of the parts that have been reported; a runner lost before its report
counts zero (R344). -/
def State.partsSum (s : State) (g : Image) (tier : Nat) : Nat :=
  let dies := ((List.range 16).map fun d =>
    if (s.work d).reported.getLsbD tier then (s.work d).sums.getD tier 0 else 0).sum
  (dies + (if tier = 0 then g.hubSum else 0)) % 2 ^ 64

/-- Name a lane-0 wave at least 2 µs ahead; each runner adds its part at it, and the active core that of the HUB records
to tier 0 (R349). -/
def State.nameWave (s : State) (tier : Nat) (again : Bool) : State :=
  let wave := roundUp (s.pns + 2000) 64
  let s := s.modSo fun k => { k with sealWave := some ⟨tier, wave, again⟩ }
  let s := if tier = 0 then
      s.emit .laneZero 16 (be 8 (wave / 64) ++ be 8 ((s.soImage.map Image.hubSum).getD 0))
    else s
  (List.range 16).foldl (fun s d =>
    if (s.work d).lost then s
    else s.emit .laneZero d (be 8 (wave / 64) ++ be 8 ((s.work d).sums.getD tier 0))) s

/-- The seal of the lowest tier that every runner has reported (R349). -/
def State.sealNext (s : State) : State :=
  match s.dump.running with
  | none => s
  | some k =>
    if k.sealWave.isSome then s
    else
      match k.tierList.find? fun t => !k.sealed.contains t with
      | none => s
      | some t =>
        if s.tierIn t then (if t = 0 then s.hubRecords else s).nameWave t false else s

/-- Progress after a report or a loss: status, and the next seal. -/
def State.soAdvance (s : State) : State := s.sealNext.soSettle

/-! ## Starting (R311–R317, R324, R333, R360) -/

/-- Check the space of a tier on every die; a tier that does not fit is written on none (R324). -/
def State.openTier (s : State) (g : Image) (tier : Nat) : State :=
  let short := (List.range 16).map fun d => s.tierBound g d tier - s.tierSpace tier
  let worst := short.foldl Nat.max 0
  if worst = 0 then s.modSo fun k => { k with opened := k.opened ||| 2 ^ tier }
  else
    let s := s.modSo fun k => { k with tiers := k.tiers &&& (7 - 2 ^ tier), opened := k.opened ||| 2 ^ tier }
    let s := (s.soResult 1).modImage fun g =>
      { g with sections := g.sections.map fun x => if x.tier = tier then { x with state := 3 } else x }
    s.logged Code.soTruncated (be 1 tier ++ be 4 worst)

/-- The sections of a tier of a held image are OVERWRITTEN (R333). -/
def State.overwrite (s : State) (image : Nat) (tiers : List Nat) : State :=
  let held := (List.range 4).find? fun n => (s.dump.slot n).any fun g => g.id = image
  match held with
  | none => s
  | some n =>
    if image = 0 then s
    else
      let s := s.modSlot n fun g =>
        { g with sections := g.sections.map fun x => if tiers.contains x.tier then { x with state := 6 } else x }
      s.logged Code.soImageOverwritten (be 4 image)

/-- Tier 2 takes the halves of the region (R333, R362). -/
def State.takeHalves (s : State) (image : Nat) : State :=
  let s := s.overwrite s.dump.tier2Area.image [2]
  { s with dump := { s.dump with tier2Area := ⟨image, [], []⟩
                                 fettle := s.dump.fettle.filter fun j => j ≠ .tier2Halves } }

/-- Open tier `tier` when the shakeout asks for it. -/
def State.beginTier (s : State) (tier : Nat) : State :=
  match s.dump.running, s.soImage with
  | some k, some g =>
    if bitOf k.tiers tier ∧ ¬ bitOf k.opened tier ∧ ¬ k.aborting then
      let s := s.openTier g tier
      if tier = 2 ∧ (s.dump.running.map fun k => bitOf k.tiers 2) = some true then s.takeHalves g.id else s
    else s
  | _, _ => s

/-- The sections that an image begins with (R353). -/
def firstSections (core tiers : Nat) : List Section :=
  ⟨0, if core = 0 then 0 else 15, 0, 0, 32, 0⟩ ::
    ((List.range 2).filter fun t => bitOf tiers (t + 1)).flatMap fun t =>
      (List.range 16).map fun d => ⟨t + 1, d, 0, 0, 32, 0⟩

/-- Network groups that are frozen (R342). -/
def State.frozenGroups (s : State) : BitVec 16 :=
  (List.range 16).foldl (fun b g => setBit b g (s.group g).frozenAt.isSome) 0

/-- The Ladle slot that a new image takes: a free one, else that of the oldest image that is not the
valid reference (R360). -/
def State.ladleSlot (s : State) : Nat :=
  match (List.range 4).find? fun n => (s.dump.slot n).isNone with
  | some n => n
  | none =>
    let held := (List.range 4).filterMap fun n =>
      (s.dump.slot n).bind fun g => if g.id = s.dump.refImage then none else some (n, g.id)
    (held.foldl (fun (a : Option (Nat × Nat)) x => match a with
      | none => some x
      | some y => if serialLater32 y.2 x.2 then some x else some y) none).elim 0 Prod.fst

/-- The next IMAGE_ID (R314, R745). -/
def State.takeImageId (s : State) : State × Nat :=
  let id := s.imageIds.next
  let c := s.imageIds.issued 16 64
  let raised := c.ceiling ≠ s.imageIds.ceiling
  let s : State := { s with imageIds := c }
  (if raised then s.persist else s, id)

/-- Start a shakeout (R314–R316, R333, R342, R359). -/
def State.soBegin (s : State) (wantRef : Bool) (tiers : Nat) (scope : BitVec 128) (trigger : Nat) : State :=
  let ref := wantRef || s.dump.refImage = 0
  let base := if ref || !bitOf tiers 1 then 0 else s.dump.refImage
  let s : State := if ref then { s with dump := { s.dump with refImage := 0 } } else s
  let n := s.ladleSlot
  let s := match s.dump.slot n with
    | some g =>
      let s := s.logged Code.soLadleDisplaced (be 4 g.id)
      { s with dump := { s.dump with slots := setAt s.dump.slots n none } }
    | none => s
  let (s, id) := s.takeImageId
  let live : Bool := s.qu.state = Qs.idle
  let g : Image :=
    { id := id, base := base, cutId := if live then 0 else s.qu.cutId, tiers := tiers, tiersDone := 0
      result := 0, ref := ref, live := live, dumpSecure := s.scope 4, untimed := !s.tb.active.counting
      cutPns := if live then s.pns else s.qu.cutPns, startPns := s.pns, endPns := 0, sealT0 := 0
      sealT1 := 0, sealT2 := 0, cutFlags := if live then 0 else s.qu.cutFlags.toNat, trigger := trigger
      activeUid := s.activeUid, unreachable := 0, excluded := 0, lost := 0, scope := scope
      sections := firstSections s.activeCore tiers, tier0 := [], closed := false }
  let old := if ref then s.dump.refArea.image else s.dump.latestArea.image
  let s := s.overwrite old [1]
  let d := s.dump
  let fresh : Area := ⟨id, [], []⟩
  let k : Shakeout :=
    { slot := n, ref := ref, tiers := tiers, opened := 1, aborting := false, dies := [], stopped := []
      rows := s.topo.rows
      frozen := s.frozenGroups, resets := 0, sealWave := none, sealed := [] }
  let s : State := { s with dump := { d with
    imageId := id, status := 1, sealSum := 0, bytesRead := 0, bytesStored := 0, unreachable := 0
    unreachableCount := 0, excludedLines := 0, slots := setAt d.slots n (some g), running := some k
    refArea := if ref then fresh else d.refArea, latestArea := if ref then d.latestArea else fresh
    fettle := d.fettle.filter fun j => j ≠ (if ref then .refQuarters else .latestQuarters) } }
  let s := s.emit .runnerCast 0 (be 4 id ++ be 1 tiers)
  let s := (s.beginTier 1).beginTier 2
  ((List.range 16).foldl (fun s d => s.feedTier0 d (tier0Items + 1)) s).soSettle

/-- Why a START is refused (R311, R312, R745). -/
def State.soRefusal (s : State) (tiers : Nat) : Option Nat :=
  if s.dump.running.isSome then some Abort.busy
  else if !s.imageIds.ready then some Abort.busy
  else if 2 ≤ tiers then
    if s.qu.state = Qs.idle then some Abort.notQuenched
    else if [Qs.arming, Qs.stepArming, Qs.stepping, Qs.resumeArming].contains s.qu.state ||
        s.anyEntry [1, 2, 3, 4] [1, 2] then some Abort.busy
    else none
  else none

/-! ## Tier 0 copy and closing -/

/-- Change the area that an image writes (R332, R333). -/
def State.modArea (s : State) (ref : Bool) (f : Area → Area) : State :=
  if ref then { s with dump := { s.dump with refArea := f s.dump.refArea } }
  else { s with dump := { s.dump with latestArea := f s.dump.latestArea } }

/-- The die of the active core. -/
def State.activeDie (s : State) : Nat := if s.activeCore = 0 then 0 else 15

/-- Octets go to a place of a tier's quarter or half on a die and of its partner's mirror (R319, R332, R359). -/
def State.writeArea (s : State) (ref : Bool) (tier die off : Nat) (b : List Byte) : State :=
  (s.emit .stackWrite die (be 8 (s.dump.areaBase ref tier false + off) ++ b)).emit .stackWrite (die ^^^ 8)
    (be 8 (s.dump.areaBase ref tier true + off) ++ b)

/-- After SEAL_T0 the Ladle's tier 0 records go into the tier 0 area of the active core's quarters, whose die the section
names (R332, R353). -/
def State.tier0Copy (s : State) : State :=
  match s.soImage with
  | none => s
  | some g =>
    let die := s.activeDie
    let s := s.modImage fun g => g.modSection 0 die fun x => { x with die := die }
    (s.writeArea g.ref 0 die 4096 (g.tier0.flatMap Rec.octets)).modArea g.ref fun a => { a with records := a.records ++ g.tier0.map fun r => ⟨die, r, true, true⟩ }

/-- Tier 0 of the image is whole in the Ladle: its END record (R355). -/
def State.tier0End (s : State) : State :=
  s.modImage fun g =>
    let count := ((g.sections.find? fun x => x.tier = 0).map Section.count).getD 0
    { g with tier0 := g.tier0 ++ [endRec 0 count (s.pns % 2 ^ 32) (!s.tb.active.counting)] }

/-- SEAL_Tt is written (R350), and what hangs on it: the END record and the copy of tier 0. -/
def State.writeSeal (s : State) (tier sum : Nat) : State :=
  let s := s.modImage fun g =>
    if tier = 0 then { g with sealT0 := sum } else if tier = 1 then { g with sealT1 := sum }
    else { g with sealT2 := sum }
  let s := s.modSo fun k => { k with sealed := k.sealed ++ [tier], sealWave := none }
  let s := if tier = 0 then s.tier0End.tier0Copy else s
  s.soAdvance

/-- Tiers of an image written whole (TIERS_DONE). -/
def Image.wholeTiers (g : Image) : Nat :=
  ((List.range 3).filter fun t => bitOf g.tiers t &&
    (g.sections.filter fun x => x.tier = t).all fun x => decide (x.state ≤ 1)).foldl (fun a t => a + 2 ^ t) 0

/-- The header block goes to every quarter and half in use (R323, R359): tier 0's on the active core's die, those of a
tier that was written on every die. -/
def State.writeHeaders (s : State) (g : Image) (tiers : Nat) (header : List Byte) : State :=
  let t1 := if bitOf tiers 1 then List.range 16 else [s.activeDie]
  let t2 := if bitOf tiers 2 then List.range 16 else []
  let s := t1.foldl (fun s die => s.writeArea g.ref 1 die 0 header) s
  t2.foldl (fun s die => s.writeArea g.ref 2 die 0 header) s

/-- The image closes (R316, R351, R359): header blocks, SO_SEAL, RESULT, SO_DONE. -/
def State.soClose (s : State) : State :=
  match s.dump.running, s.soImage with
  | some k, some g =>
    let g := { g with tiersDone := g.wholeTiers, endPns := s.pns, activeUid := s.activeUid, closed := true }
    let header := fit 4096 (s.imageOctets g)
    let s := s.modSlot k.slot fun _ => g
    let s := s.modArea g.ref fun a => { a with header := header }
    let s : State := if s.dump.tier2Area.image = g.id then
        { s with dump := { s.dump with tier2Area := { s.dump.tier2Area with header := header } } }
      else s
    let s := s.writeHeaders g k.tiers header
    let valid := g.ref && bitOf g.tiers 1 &&
      (g.sections.filter fun x => x.tier = 1).all fun x => decide (x.state ≤ 1)
    let s : State := { s with dump := { s.dump with
      running := none, status := 0, result := g.result.toNat, sealSum := g.seal_
      refImage := if valid then g.id else s.dump.refImage } }
    let s := if k.aborting then s.logged Code.soAborted (be 4 g.id) else s
    let detail := be 4 g.id ++ be 1 g.result.toNat
    let bad := g.result &&& 0x17#8 ≠ 0
    if bad then s.urged Code.soDone detail else s.told Code.soDone detail
  | _, _ => s

/-- Every tier of the shakeout has its seal (R359). -/
def State.soClosable (s : State) : Bool :=
  match s.dump.running with
  | some k => k.sealWave.isNone && k.tierList.all fun t => k.sealed.contains t
  | none => false

/-! ## Losing a runner or a cluster (R343, R344, R363) -/

/-- The tier 0 records of a die: TYPE and UID. -/
def tier0Of (die : Nat) : List (Nat × Nat) :=
  ((List.range 8).flatMap fun c => [(3, tapUid (die * 8 + c)), (4, tapUid (die * 8 + c))]) ++
    [(2, runnerUid die)] ++ (portsOf die).map fun p => (5, portUid p)

/-- A runner is lost: its open sections are LOST, its missing tier 0 records UNREACHABLE (R344). -/
def State.soLoseDie (s : State) (die : Nat) : State :=
  match s.dump.running, s.soImage with
  | some k, some g =>
    if (s.work die).lost then s
    else
      let openTiers := k.tierList.filter fun t => !(s.work die).reported.getLsbD t
      let s := s.ringDrop fun t => t.die = die && (match t.use with
        | .tier0 _ => true
        | .debugFallback _ => true
        | _ => false)
      let s := s.modWork die fun w => { w with lost := true, out := [], parts := [], writing := [] }
      let s := s.modImage fun g =>
        { g with sections := g.sections.map fun x =>
            if x.tier ≠ 0 ∧ x.die = die ∧ openTiers.contains x.tier then { x with state := 4 } else x }
      let missing := (tier0Of die).filter fun r => !g.tier0.any fun x => x.type = r.1 && x.uid = r.2
      let s := if openTiers.contains 0 then
          missing.foldl (fun s r =>
            (s.ladlePut (s.emptyRec die r.2 r.1 1 4)).countUnreachable r.2) s
        else s
      s.soAdvance
  | _, _ => s

/-- A cluster's reset during a shakeout: its records not yet written are NOT_COLLECTED, those not yet begun too
(R343). -/
def State.soLoseCluster (s : State) (c : Nat) : State :=
  if s.dump.running.isSome then
    let die := c / 8
    let s := s.modSo fun k => { k with resets := setBit k.resets c true }
    let gone := (s.work die).parts.filter fun p => (uidIsCore p.uid || uidIsTap p.uid) && uidCluster p.uid = c
    (gone.foldl (fun s p => s.endPart die p.type p.uid 2 0x12) s).feedDie die
  else s

end Sys2Proof.Machine
end

