-- ==== Sys2Proof/Machine/Shakeout.lean ====
section
/-!
DEFINITION. The shakeout's commands: starting and stopping, reads and writes of records, seals, readout,
acknowledgement, the reserve (R308–R364).
-/
namespace Sys2Proof.Machine

/-! ## SO_CMD -/

/-- Why SO_CMD START is refused: a lifecycle change is fettling (R671), device recovery runs (R413), or R311. -/
def State.startRefusal (s : State) : Option Nat :=
  if s.lc.storeA.fettlePending || s.recovering then some Abort.busy else s.soRefusal s.dump.tiers

/-- What a write of SoStart does, and its answer. -/
def State.cmdSoStart (s : State) : Reply :=
  match s.startRefusal with
  | some code => s.refuse code
  | none => (s.soBegin false s.dump.tiers s.dump.scope 0).accept

/-- SO_START (R311–R316). -/
def execSoStart (dt : Nat) (req : Req) (s : State) : Host.Outcome State Fault Refusal :=
  done ((s.begin dt).serve req 0x4201 0 .write fun _ s => s.cmdSoStart)

/-- What a write of SoStartRef does, and its answer. -/
def State.cmdSoStartRef (s : State) : Reply :=
  match s.startRefusal with
  | some code => s.refuse code
  | none => (s.soBegin true s.dump.tiers s.dump.scope 0).accept

/-- SO_START_REF (R311–R316). -/
def execSoStartRef (dt : Nat) (req : Req) (s : State) : Host.Outcome State Fault Refusal :=
  done ((s.begin dt).serve req 0x4201 0 .write fun _ s => s.cmdSoStartRef)

/-- ABORT (R318): open sections and those not begun are ABORTED. -/
def State.soAbort (s : State) : State :=
  match s.dump.running with
  | none => s
  | some k =>
    let s := (s.soResult 3).modImage fun g =>
      { g with sections := g.sections.map fun x =>
          let open_ : Bool := if x.tier = 0 then !s.tierIn 0 else bitOf k.tiers x.tier && !s.partIn x.die x.tier
          if open_ ∧ x.state ≤ 2 then { x with state := 5 } else x }
    (s.modSo fun k => { k with aborting := true }).soSettle

/-- What a write of SoAbort does, and its answer. -/
def State.cmdSoAbort (s : State) : Reply :=
  if s.recovering then s.refuse Abort.busy else s.soAbort.accept

/-- SO_ABORT (R318): no effect when none is in progress; refused during device recovery (R413). -/
def execSoAbort (dt : Nat) (req : Req) (s : State) : Host.Outcome State Fault Refusal :=
  done ((s.begin dt).serve req 0x4201 0 .write fun _ s => s.cmdSoAbort)

/-- Every held image loses its reserve copies: sections LOST (R363). -/
def State.loseReserve (s : State) (stack : Bool) : State :=
  (List.range 4).foldl (fun s n => s.modSlot n fun g =>
    { g with result := if stack then setBit g.result 5 true else g.result
             sections := g.sections.map fun x => if x.tier = 0 then x else { x with state := 4 } }) s

/-- The reserve areas are to be fettled (R362). -/
def State.addFettle (s : State) (l : List FettleJob) : State :=
  { s with dump := { s.dump with fettle := s.dump.fettle ++ l.filter fun j => !s.dump.fettle.contains j } }

/-- What a write of SoFettleReserve does, and its answer. -/
def State.cmdSoFettleReserve (s : State) : Reply :=
  if s.dump.running.isSome || s.recovering then s.refuse Abort.busy
  else
    let s := (s.loseReserve false).addFettle [.refQuarters, .latestQuarters, .tier2Halves]
    (State.accept { s with dump := { s.dump with
      refImage := 0, refArea := Area.empty, latestArea := Area.empty, tier2Area := Area.empty } })

/-- SO_FETTLE_RESERVE (R311, R316, R363). -/
def execSoFettleReserve (dt : Nat) (req : Req) (s : State) : Host.Outcome State Fault Refusal :=
  done ((s.begin dt).serve req 0x4201 0 .write fun _ s => s.cmdSoFettleReserve)

/-- What a write of SoAck does, and its answer. -/
def State.cmdSoAck (s : State) (image : Nat) : Reply :=
  match (List.range 4).find? fun n => image ≠ 0 && (s.dump.slot n).any fun g => g.id = image with
  | none => s.refuse Abort.imageUnknown
  | some n =>
    if (s.dump.running.map Shakeout.slot) = some n then s.refuse Abort.busy
    else
      let d := s.dump
      let ref : Bool := d.refArea.image = image && d.refImage ≠ image
      let latest : Bool := d.latestArea.image = image
      let halves : Bool := d.tier2Area.image = image
      let s : State := { s with dump := { d with
        slots := setAt d.slots n none
        refArea := if ref then Area.empty else d.refArea
        latestArea := if latest then Area.empty else d.latestArea
        tier2Area := if halves then Area.empty else d.tier2Area } }
      (s.addFettle ((if ref then [.refQuarters] else []) ++ (if latest then [.latestQuarters] else []) ++
        (if halves then [.tier2Halves] else []))).accept

/-- SO_ACK (R362). -/
def execSoAck (dt : Nat) (req : Req) (image : Nat) (s : State) : Host.Outcome State Fault Refusal :=
  done ((s.begin dt).serve req 0x4211 0 .write fun _ s => s.cmdSoAck image)

/-- RESERVE_FETTLE_DONE (R362): the job at the head of the queue ends, while FETTLE is admitted. -/
def execReserveFettleDone (dt : Nat) (s : State) : Host.Outcome State Fault Refusal :=
  let s := s.begin dt
  done (s.onlyIf (s.power.admitted.getLsbD 3) fun s =>
    { s with dump := { s.dump with fettle := s.dump.fettle.drop 1 } })

/-! ## Readout (R347, R361) -/

/-- SO_HEADER_READ (R361): opens the transfer of the selected image's header and sections. -/
def execSoHeaderRead (dt : Nat) (req : Req) (s : State) : Host.Outcome State Fault Refusal :=
  done ((s.begin dt).serveRead req 0x4203 2 0 0 fun _ s =>
    match s.selectedImage with
    | none => (s, Abort.imageUnknown, [])
    | some g => (s, Abort.ok, s.imageOctets g))

/-- The record that SO_RECORD_KEY names (R361). -/
def State.keyed (s : State) (uid type sub : Nat) : Bool :=
  let k := s.dump.recordKey
  fieldBe k 0 2 = uid && fieldBe k 2 1 = type && fieldBe k 4 4 = sub

/-- The stored copies of an image that its areas still hold. -/
def State.storedOf (s : State) (g : Image) : List StoredRec :=
  [s.dump.refArea, s.dump.latestArea, s.dump.tier2Area].flatMap fun a =>
    if a.image = g.id then a.records.filter fun r => r.record.tier ≠ 0 else []

/-- The selected record: the answer's code and its octets (R361); `ownOk` and `mirrorOk` say whether
each copy in the stacks matches its CRC. -/
def State.findRecord (s : State) (g : Image) (ownOk mirrorOk : Bool) : Nat × List Byte :=
  match g.tier0.find? fun r => s.keyed r.uid r.type r.sub with
  | some r => (Abort.ok, r.octets)
  | none =>
    match (s.storedOf g).find? fun r => s.keyed r.record.uid r.record.type r.record.sub with
    | none => (Abort.recordUnknown, [])
    | some r =>
      if (r.own && ownOk) || (r.mirror && mirrorOk) then (Abort.ok, r.record.octets)
      else (Abort.recordCorrupt, [])

/-- The requester may read secure state: its own token, or a state that grants every scope (R347, R681). -/
def State.readsSecure (s : State) (c : Ctx) : Bool :=
  match s.sessionOf c with
  | some x => s.sessionScope x 4
  | none => s.allScopes

/-- SO_RECORD_READ (R347, R361). -/
def execSoRecordRead (dt : Nat) (req : Req) (ownOk mirrorOk : Bool) (s : State) : Host.Outcome State Fault Refusal :=
  done ((s.begin dt).serveRead req 0x4203 4 0 0 fun c s =>
    match s.selectedImage with
    | none => (s, Abort.imageUnknown, [])
    | some g =>
      if g.dumpSecure && !s.readsSecure c then (s, Abort.notAuthorized, [])
      else
        match s.findRecord g ownOk mirrorOk with
        | (code, data) => (s, code, data))

/-! ## The reserve (R316, R322) -/

/-- A reserve region is placed badly. -/
def regionBad (base size : Nat) : Bool :=
  base % 0x200000 ≠ 0 || size % 0x800000 ≠ 0 || decide (size < 0x800000) || decide (stackBytes < base + size)

/-- Range and overlap of a reserve write (R322, R524). -/
def State.reserveBad (s : State) : Bool :=
  let d := s.dump
  regionBad d.reserveBase d.reserveSize || regionBad d.reserveBaseT2 d.reserveSizeT2 ||
    rangesMeet d.reserveBase d.reserveSize d.reserveBaseT2 d.reserveSizeT2 || s.bufferBad s.trace.base s.trace.size

/-- What a write of a reserve object does, and its answer (R316, R322, R692). -/
def State.reserveWrite (s : State) (r : ObjRow) (sub : Nat) (b : List Byte) : Reply :=
  let t := s.objPut r.idx sub b
  if !valueFits r sub b || t.reserveBad then s.refuse Abort.valueRange
  else if s.dump.running.isSome || s.dump.slots.any Option.isSome then s.refuse Abort.busy
  else
    let s := s.objWrite r sub b
    State.accept { s with dump := { s.dump with refImage := 0 } }

/-- RESERVE_WRITE (R316, R322): 0x4204 and 0x4205. -/
def execReserveWrite (dt : Nat) (req : Req) (idx sub value : Nat) (s : State) : Host.Outcome State Fault Refusal :=
  let s := s.begin dt
  done (s.onlyIf ((idx = 0x4204 || idx = 0x4205)) fun s =>
    s.serve req idx sub .write fun _ s =>
      match objRow idx sub with
      | none => s.refuse Abort.objectUnknown
      | some r =>
        if 2 ^ (8 * r.type.size) ≤ value then s.refuse Abort.badLength
        else s.reserveWrite r sub (be r.type.size value))

/-! ## Reads (R328, R338, R341) -/

/-- A debug-class read that is outstanding. -/
def State.bulkOut (s : State) (die type uid off : Nat) : Option BulkRead :=
  (s.work die).out.find? fun r => r.uid = uid && r.type = type && r.off = off

/-- The read leaves its place. -/
def State.bulkIn (s : State) (die type uid off : Nat) : State :=
  s.modWork die fun w => { w with out := w.out.filter fun r => !(r.uid = uid && r.type = type && r.off = off) }

/-- A slot has had a bulk timeout (R338). -/
def State.ringSlot (s : State) (die type uid : Nat) : State :=
  if recSecure type then
    s.modWork die fun w =>
      { w with ringSlots := setBit w.ringSlots (uidCluster uid % 8 * 136 + uidSlot uid) true }
  else s

/-- A fall-back read of a range stands on the ring or waits for it. -/
def State.ringHas (s : State) (die type uid off : Nat) : Bool :=
  (s.units.ring ++ s.units.ringQueue).any fun t =>
    t.die = die && t.use = .debugFallback (recKey type uid) && t.offset = off

/-- A failed range goes to the tap ring (R338, R339). -/
def State.bulkFailed (s : State) (die type uid off : Nat) : State :=
  if recWindow type ≠ none ∧ s.tapFailed (uidCluster uid) then s.fallbackLost die (recKey type uid)
  else s.ringRecord die type uid off

/-- How the host completes a debug-class read (R41, R325): 0 OK, 1 NOT_STOPPED, 2 CHILLED, 3 ERROR. A core's window in
a chilled half is CHILLED, one of a running slot is NOT_STOPPED. -/
def State.bulkStatus (s : State) (type uid status : Nat) : Nat :=
  if !recSecure type || status = 3 then status
  else if s.chilled (uidCluster uid) then 2
  else if s.slotRuns (uidCluster uid) (uidSlot uid) then 1
  else status

/-- DEBUG_READ_COMPLETE (R325, R338, R341): a status that the slot's state does not give is no completion of the host's
(log entry 151); a read whose record has ended only frees its place. -/
def execDebugReadComplete (dt : Nat) (die uid type off : Nat) (status : Nat) (data : List Byte)
    (secureLines : List Nat) (s : State) : Host.Outcome State Fault Refusal :=
  let s := s.begin dt
  let st := s.bulkStatus type uid status
  done (s.onlyIf ((s.bulkOut die type uid off).isSome && (status = 0 || st = status)) fun s =>
    let s := s.bulkIn die type uid off
    let s :=
      if (s.part die type uid).isNone then s
      else if st = 0 then s.rangeRead die type uid off data secureLines false
      else if st = 1 then s.endPart die type uid 2 0x10
      else s.bulkFailed die type uid off
    s.feedDie die)

/-- DEBUG_READ_TIMEOUT (R338): 50 µs without completion. -/
def execDebugReadTimeout (dt : Nat) (die uid type off : Nat) (s : State) : Host.Outcome State Fault Refusal :=
  let s := s.begin dt
  done (match s.bulkOut die type uid off with
    | none => s
    | some r =>
      s.onlyIf (decide (50000 ≤ s.nsSince r.issued)) fun s =>
        let s := (s.bulkIn die type uid off).ringSlot die type uid
        (if (s.part die type uid).isNone then s else s.bulkFailed die type uid off).feedDie die)

/-- A fall-back ring read of a record has ended (R338–R341). -/
def State.fallbackEnded (s : State) (die key off status : Nat) (data : List Byte) (lines : List Nat) : State :=
  let type := key / 65536
  let uid := key % 65536
  match s.part die type uid with
  | none => s
  | some p =>
    let s :=
      if status = Rs.ok then
        let s := s.rangeRead die type uid off data lines true
        let next := off + bulkUnit
        let more : Bool := match s.part die type uid with
          | some q => decide (next < recLen type) && (Tab.find q.got next).isNone &&
              (s.bulkOut die type uid next).isNone && !s.ringHas die type uid next && s.onRing die type uid
          | none => false
        match s.part die type uid with
        | some q =>
          match q.ending with
          | some (state, reason) => s.endPart die type uid state reason
          | none => if more then s.ringRecord die type uid next else s
        | none => s
      else if status = Rs.timeout ∨ status = Rs.crcError then
        (s.endPart die p.type p.uid 1 (if status = Rs.timeout then 1 else 2)).failTap die (uidCluster uid % 8)
      else if status = Rs.notStopped then s.endPart die p.type p.uid 2 0x10
      else s.endPart die p.type p.uid 1 5
    s.feedDie die

/-! ## Writes (R329–R331) -/

/-- The record that is being written. -/
def State.writingRec (s : State) (die uid type sub : Nat) : Option Writing :=
  (s.work die).writing.find? fun r => r.record.uid = uid && r.record.type = type && r.record.sub = sub

/-- The memory controller of a die answers (R331). -/
def State.stackUp (s : State) (die : Nat) : Bool := s.health (unitUid die 0x20) ≠ 4

/-- The record leaves the list of those being written and counts in its section and its part. -/
def State.recordStored (s : State) (die : Nat) (r : Rec) (sum : Nat) : State :=
  let s := s.modWork die fun w =>
    { w with sums := setAt w.sums r.tier ((w.sums.getD r.tier 0 + sum) % 2 ^ 64) }
  let s := if r.tier = 0 then s.ladlePut r
    else s.modImage fun g => g.modSection r.tier die fun x =>
      { x with count := x.count + 1, storedBytes := x.storedBytes + r.space }
  { s with dump := { s.dump with bytesStored := add64 s.dump.bytesStored r.stored.length } }

/-- A record that is being written is no longer so. -/
def State.writeEnded (s : State) (die uid type sub : Nat) : State :=
  s.modWork die fun w =>
    { w with writing := w.writing.filter fun r =>
        !(r.record.uid = uid && r.record.type = type && r.record.sub = sub) }

/-- A section takes ONE_COPY or RECORDS_LOST unless it has ended otherwise (R331). -/
def State.worsen (s : State) (tier die state : Nat) : State :=
  s.modImage fun g => g.modSection tier die fun x => if x.state < state ∧ x.state ≤ 2 then { x with state := state } else x

/-- A tier 0 record is in the Ladle. -/
def State.ladleStored (s : State) (die : Nat) (r : Rec) (sum : Nat) : State :=
  (s.writeEnded die r.uid r.type r.sub).recordStored die r sum

/-- A tier 1 or tier 2 record's two writes have ended (R330, R331). -/
def State.reserveStored (s : State) (die : Nat) (r : Rec) (sum : Nat) (own mirror : Bool) : State :=
  let s := s.writeEnded die r.uid r.type r.sub
  if !own && !mirror then
    let s := ((s.worsen r.tier die 2).soResult 4).modImage fun g => { g with lost := g.lost + 1 }
    s.logged Code.soRecordLost (be 2 r.uid ++ be 1 r.type ++ be 4 r.sub)
  else
    let s := s.recordStored die r sum
    let s := if own && mirror then s else (s.worsen r.tier die 1).soResult 6
    let put (a : Area) : Area := { a with records := a.records ++ [⟨die, r, own, mirror⟩] }
    if r.tier = 2 then { s with dump := { s.dump with tier2Area := put s.dump.tier2Area } }
    else s.modArea ((s.soImage.map Image.ref).getD false) put

/-- RECORD_WRITE_COMPLETE (R330, R331). -/
def execRecordWriteComplete (dt : Nat) (die uid type sub : Nat) (ownOk mirrorOk : Bool) (s : State) :
    Host.Outcome State Fault Refusal :=
  let s := s.begin dt
  done (match s.writingRec die uid type sub with
    | none => s
    | some k =>
      let r := k.record
      s.onlyIf (r.tier ≠ 2 || s.tier2Admitted) fun s =>
        (if r.tier = 0 then s.ladleStored die r k.sum
         else s.reserveStored die r k.sum (ownOk && s.stackUp die) (mirrorOk && s.stackUp (die ^^^ 8))).feedDie die)

/-- LADLE_WRITE_TIMEOUT (R329): without completion within 50 µs the tier 0 record goes on VC1 instead. -/
def execLadleWriteTimeout (dt : Nat) (die uid type : Nat) (s : State) : Host.Outcome State Fault Refusal :=
  let s := s.begin dt
  done (match s.writingRec die uid type 0 with
    | none => s
    | some k =>
      s.onlyIf (k.record.tier = 0 && decide (50000 ≤ s.nsSince k.since)) fun s =>
        (s.emit .runnerCast die k.record.octets).ladleStored die k.record k.sum)

/-! ## Seals (R349, R350) and losses (R344) -/

/-- The END record of a die's section goes to both of its copies (R318, R330, R355), and STORED_BYTES runs through its
end, also over the place of a record that was lost (R353); tier 0's stands in the Ladle. -/
def State.endSection (s : State) (g : Image) (die tier : Nat) : State :=
  if tier = 0 then s
  else
    let count := ((g.sections.find? fun x => x.tier = tier && x.die = die).map Section.count).getD 0
    let r := endRec tier count (s.readLo die) (s.runnerCold die)
    let put (a : Area) : Area := { a with records := a.records ++ [⟨die, r, true, true⟩] }
    let off := (s.work die).place tier
    let s := (s.modWork die fun w => w.placed r).writeCopies die r off
    let s := s.modImage fun g => g.modSection tier die fun x =>
      { x with storedBytes := off + r.space - DieWork.fresh.place tier }
    if tier = 2 then { s with dump := { s.dump with tier2Area := put s.dump.tier2Area } } else s.modArea g.ref put

/-- SEAL_PART_REPORT (R318, R349): the END record is written and the part reported. -/
def execSealPartReport (dt : Nat) (die tier : Nat) (s : State) : Host.Outcome State Fault Refusal :=
  let s := s.begin dt
  done (match s.dump.running, s.soImage with
    | some k, some g =>
      s.onlyIf (decide (die < 16) && bitOf k.tiers tier && !s.partIn die tier && s.tierDone g k die tier) fun s =>
        let w := s.work die
        let part := w.sums.getD tier 0
        let s := (s.endSection g die tier).modWork die fun w => { w with reported := setBit w.reported tier true }
        let s := s.modImage fun g => g.modSection tier die fun x => { x with part := (x.part + part) % 2 ^ 64 }
        s.soAdvance
    | _, _ => s)

/-- SEAL_RESULT (R350): the sum of the lane-0 wave, 768 ns after it. -/
def execSealResult (dt : Nat) (sum : Nat) (s : State) : Host.Outcome State Fault Refusal :=
  let s := s.begin dt
  done (match s.dump.running, s.soImage with
    | some k, some g =>
      match k.sealWave with
      | none => s
      | some w =>
        s.onlyIf (decide (w.wave + 768 ≤ s.pns)) fun s =>
          if sum = s.partsSum g w.tier then s.writeSeal w.tier sum
          else if !w.repeated then s.nameWave w.tier true
          else ((s.soResult 2).logged Code.soSealMismatch (be 4 g.id ++ be 1 w.tier)).writeSeal w.tier (sum % 2 ^ 64)
    | _, _ => s)

/-- SO_RUNNER_LOST (R344): no advance of its progress for 2 frames. -/
def execSoRunnerLost (dt : Nat) (die : Nat) (s : State) : Host.Outcome State Fault Refusal :=
  let s := s.begin dt
  let busy := match s.dump.running with
    | some k => k.tierList.any fun t => !s.partIn die t
    | none => false
  done (s.onlyIf (decide (die < 16) && busy && (decide (2 ≤ (s.work die).still) || s.runnerSilentNow die)) fun s =>
    ((s.setHealth (runnerUid die) 4).logged Code.soRunnerLost (be 2 (runnerUid die))).soLoseDie die)

end Sys2Proof.Machine
end

