-- ==== Sys2Proof/Machine/HangOps.lean ====
section
/-!
DEFINITION. Beacons, unit resets, the hang procedure, isolate replay and device recovery as shared
operations (R374–R383, R397–R420).
-/
namespace Sys2Proof.Machine

/-! ## Abort beacons (R417–R420) -/

/-- CAUSE codes of R417. -/
def Beacon.hang : Nat := 1
def Beacon.unitReset : Nat := 2
def Beacon.deviceRecovery : Nat := 3
def Beacon.expel : Nat := 4
def Beacon.suspect : Nat := 5

/-- The 32 octets of a beacon (R417). -/
def beaconOctets (replay : Bool) (seq origin pns cause : Nat) : List Byte :=
  let b := be 1 0x11 ++ be 1 (bit replay) ++ be 2 seq ++ zeros 4 ++ be 8 origin ++ be 8 pns ++
    be 2 cause ++ zeros 2
  b ++ be 4 (crc32c b)

/-- The word on the beacon wave (R418). -/
def beaconWord (number : Nat) (replay : Bool) (cause : Nat) : Nat :=
  number % 65536 * 65536 + bit replay * 32768 + cause % 256

/-- Launch a word on 3 consecutive beacon waves (R418). -/
def State.launchBeacon (s : State) (replay : Bool) (cause : Nat) : State :=
  let n := (s.hang.localBeacon + 1) % 65536
  let w := be 4 (beaconWord n replay cause)
  let s : State := { s with hang := { s.hang with localBeacon := n } }
  ((s.emit .beacon 48 w).emit .beacon 48 w).emit .beacon 48 w

/-- Beacons seen in the last 1 ms (R421). -/
def State.seenNow (s : State) : List (Nat × Nat × Nat) :=
  s.hang.seenBeacons.filter fun b => decide (s.elapsed ≤ b.2.2 + 1000000 * Config.stepsPerNs)

/-- Issue a beacon (R419, R420) on the wave and every link-up port; a fenced package originates none
(R446). -/
def State.beacon (s : State) (cause : Nat) : State :=
  if s.fm.fenceState ≠ 0 then s
  else
    let replay : Bool := s.fm.markPhase ≠ 0
    let seq := (s.hang.beaconSeq + 1) % 65536
    let s : State := { s with hang := { s.hang with
      beaconSeq := seq, seenBeacons := s.seenNow ++ [(s.fuses.serial, seq, s.elapsed)] } }
    (s.launchBeacon replay cause).emitAll .beacon s.linkUpPorts
      (beaconOctets replay seq s.fuses.serial s.pns cause)

/-! ## Escalation (R416) -/

/-- A response above the ceiling is held: RESULT ESCALATED, ESCALATION_HELD (R416). -/
def State.holdEscalation (s : State) (level : Nat) : State :=
  State.urged { s with hang := { s.hang with proc := { s.hang.proc with result := 4 } } }
    Code.escalationHeld (be 1 level)

/-- A hang procedure is running (R378). -/
def State.hangRunning (s : State) : Bool :=
  let p := s.hang.proc
  p.state ≠ 0 && (p.trigger = 1 || p.trigger = 2) && p.l3Phase = 0

/-- Change the procedure. -/
def State.modProc (s : State) (f : Procedure → Procedure) : State :=
  { s with hang := { s.hang with proc := f s.hang.proc } }

/-! ## Unit resets (R403–R409) -/

/-- Kinds of part (R403's table): those with a DONE condition of their own, other wrapped parts, and
idle-required parts. -/
inductive ResetKind where
  | cluster | runner | wrapped | idleRequired
  deriving DecidableEq, Repr

/-- The kind of a part of a unit (R403). -/
def resetKind (uid part : Nat) : Option ResetKind :=
  if uidIsCore uid then none
  else if uidIsCcp uid || uidIsTap uid then (if part = 0 then some .cluster else none)
  else if uidIsRunner uid then
    (if part = 0 then some .runner else if part = 1 then some .wrapped
     else if part = 3 then some .idleRequired else none)
  else if uidIsHub uid then
    (if part = 0 ∨ part = 2 then some .wrapped else if part = 4 then some .idleRequired else none)
  else if uidCode uid = 0x80 then (if part = 0 then some .wrapped else none)
  else if part = 0 then some .idleRequired else none

/-- ACTION, PART and IDLE_ATTESTED of a mode octet (R403). -/
def modeAction (mode : Nat) : Nat := mode % 4
def modePart (mode : Nat) : Nat := mode / 16 % 8
def modeAttested (mode : Nat) : Bool := bitOf mode 7

/-- The UNIT_HEALTH entry that a reset moves: the unit's, a cluster's CCP's (R23, R406). -/
def resetHealth (uid : Nat) : Nat :=
  if uidIsCcp uid || uidIsTap uid then ccpUid (uidCluster uid) else uid

/-- Change the unit reset. -/
def State.modReset (s : State) (f : UnitReset → UnitReset) : State :=
  { s with hang := { s.hang with reset := f s.hang.reset } }

/-- The kind of the latest unit reset. -/
def UnitReset.kind (r : UnitReset) : Option ResetKind := resetKind r.uid (modePart r.mode)

/-- Valid entries of a binding table: engine, context slot, context, epoch (R375). -/
def bindingEntries (b : List Byte) : List (Nat × Nat × Nat × Nat) :=
  (List.range 32).filterMap fun i =>
    let w := fieldLe b (4 * i) 4
    if w.testBit 31 then some (i / 8, i % 8, w % 4096, w / 4096 % 256) else none

/-- Cached bindings of a cluster (R377): context and epoch. -/
def State.clusterBindings (s : State) (c : Nat) : List (Nat × Nat) :=
  let rows := s.hang.bindings.filter fun e => e.1 / 136 = c
  (rows.flatMap fun e => (bindingEntries e.2).map fun x => (x.2.2.1, x.2.2.2)).eraseDups

/-- Show a unit reset of a cluster or runner in 0x3121 while no procedure runs (R426). -/
def State.showReset (s : State) (uid trigger : Nat) : State :=
  if s.hang.proc.state = 0 then
    s.modProc fun p => { p with state := 8, level := 2, trigger := trigger, targetUid := uid
                                startPns := s.pns, endPns := 0, result := 0, imageId := 0 }
  else s

/-- The wrapper of a part closes at U (R406); an idle-required part is reset with no action at its edge
(R408). -/
def State.wrapReset (s : State) : State :=
  let r := s.hang.reset
  let part := modePart r.mode
  let s := if part = 0 then s.setHealth (resetHealth r.uid) 2 else s
  let s := s.emit .unitReset r.uid (be 1 part ++ be 1 1)
  if r.kind = some .idleRequired then
    (s.modReset fun r => { r with since := some s.elapsed, state := 1 }).logged Code.unitResetUnwrapped
      (be 2 r.uid ++ be 1 part)
  else
    let n := s.freeNow % 2 ^ 32
    s.drawn.modReset fun r => { r with since := some s.elapsed, state := 1, errCompletions := n }

/-- A cluster's removals of R405 have all been issued: its reset starts. -/
def State.resetMayStart (s : State) : State :=
  let r := s.hang.reset
  if r.active && r.since.isNone && !(r.waitFor.any s.queuedRemoval) then
    (s.modReset fun r => { r with waitFor := [] }).wrapReset
  else s

/-- Begin an accepted unit reset: the beacon of a cluster or runner (R420), a cluster's removals (R405),
then the wrapper. -/
def State.beginReset (s : State) : State :=
  let r := s.hang.reset
  let s := if r.kind = some .cluster ∨ r.kind = some .runner then s.beacon Beacon.unitReset else s
  if r.kind = some .cluster then
    let ctxs := ((s.clusterBindings (uidCluster r.uid)).map Prod.fst).eraseDups
    let s := ctxs.foldl (fun s c => s.requestRemoval c true true false) s
    let wait := ctxs.filter s.queuedRemoval
    State.resetMayStart (s.modReset fun r => { r with waitFor := wait, contexts := ctxs })
  else s.wrapReset

/-- Accept a unit reset (R403, R426). -/
def State.acceptReset (s : State) (uid mode : Nat) (byHub : Bool) (trigger : Nat) : State :=
  let s := s.modReset fun r =>
    { r with state := 0, uid := uid, mode := mode, errCompletions := 0, donePns := 0, since := none
             active := true, byHub := byHub, retried := false, waitFor := [], contexts := []
             assertedAt := 0, releasedAt := 0 }
  let kind := resetKind uid (modePart mode)
  let s := if (kind = some .cluster ∨ kind = some .runner) ∧ modeAction mode = 0 then
      s.showReset uid trigger else s
  s.beginReset

/-- Start the hub's next unit reset while none is in progress (R404). -/
def State.nextReset (s : State) : State :=
  if s.hang.reset.active || s.recovering then s
  else
    match s.hang.reset.queue with
    | [] => s
    | (uid, trigger) :: rest =>
      (s.modReset fun r => { r with queue := rest }).acceptReset uid 0 true trigger

/-- The hub asks for a unit reset of its own: at once, or after the one in progress. -/
def State.wantReset (s : State) (uid trigger : Nat) : State :=
  let r := s.hang.reset
  let same (u : Nat) : Bool := resetHealth u = resetHealth uid
  if (r.active && same r.uid && modePart r.mode = 0) || (r.queue.any fun q => same q.1) then s
  else (s.modReset fun r => { r with queue := r.queue ++ [(uid, trigger)] }).nextReset

/-! ### What an asserted reset does (R39, R305, R343, R407) -/

/-- The tap of a cluster whose reset asserts (R39, R45). -/
def Tap.clusterReset (x : Tap) : Tap :=
  { x with inReset := true, coreClock := 0, stoppedSlots := 0, stopArm := none, releaseArm := .none
           lateArm := false, compareClash := false, stepRunning := false, latchedStop := false
           latchedRelease := false, heartbeat := 0, progress := [], stepSlots := 0, stepEnds := 0, stepLeft := 0, dropping := 0
           credit := 64, permitMissed := 0 }

/-- A watch that starts anew; a silent tap stays silent, and its cluster unobserved (R373). -/
def BeatWatch.anew (b : BeatWatch) : BeatWatch :=
  { BeatWatch.fresh with tapSilentFrames := b.tapSilentFrames, unobserved := b.unobserved }

/-- The hub forgets what it watched of a cluster (R39, R366, R377). -/
def State.forgetCluster (s : State) (c : Nat) : State :=
  { s with hang := { s.hang with
      beats := Tab.mod s.hang.beats c BeatWatch.fresh BeatWatch.anew
      engines := s.hang.engines.filter fun e => e.1 / 544 ≠ c
      bindings := s.hang.bindings.filter fun e => e.1 / 136 ≠ c } }

/-- The hub forgets what it watched of every cluster, silent taps included: the device's reset brings them back
(R412). -/
def State.forgetClusters (s : State) : State :=
  { s with hang := { s.hang with beats := [], engines := [], bindings := [] } }

/-- A cluster leaves the cut (R305). -/
def State.leaveCut (s : State) (c : Nat) : State :=
  let q := s.qu
  let was := q.members.getLsbD c
  let s : State := { s with qu := { q with
    members := setBit q.members c false, stepping := setBit q.stepping c false
    state := if was && q.state = Qs.quenched then Qs.mixed else q.state } }
  s.settleStep

/-- A unit's firmware runs in a cluster: its CCP or a core of it. -/
def inCluster (c uid : Nat) : Bool := (uidIsCore uid || uidIsCcp uid) && uidCluster uid = c

/-- The removals whose count waits for a cluster that stays missing have it with the assertion of its reset (R393). -/
def State.endStalls (s : State) (c : Nat) : State :=
  { s with hang := { s.hang with casts := s.hang.casts.map fun o =>
      if o.kind = .remove ∧ o.stalled.getLsbD c then { o with answers := Tab.put o.answers c (Cx.inReset + 1) }
      else o } }

/-- The orders on engines of some cores are answered ERROR, and their captures in flight discarded (R495). -/
def State.endOrders (s : State) (p : Nat → Bool) : State :=
  (s.bar.orders.filter fun o => p o.uid).foldl (fun s o => (s.dropOrder o.bar o.slot).notCompared o 6) s

/-- A cluster's reset asserts (R39, R305, R343, R393, R495). -/
def State.assertCluster (s : State) (c : Nat) : State :=
  ((((((s.modTap c Tap.clusterReset).leaveCut c).forgetCluster c).soLoseCluster c).endStalls c).endOrders
    (inCluster c)).dropSets (inCluster c)

/-- A replica has left reset: no wire has set its D since (R112). -/
def State.forgetCal (s : State) (uid : Nat) : State :=
  { s with wireA := { s.wireA with targets := Tab.del s.wireA.targets uid }
           wireR := { s.wireR with targets := Tab.del s.wireR.targets uid } }

/-- A replica goes into reset (R112, R117). -/
def State.resetRep (s : State) (uid : Nat) : State := (s.putRep uid Replica.fresh).forgetCal uid

/-- What a runner held of an admission is lost with it, the mirror of its partner's sum included (R24). -/
def State.admLose (s : State) (die : Nat) : State :=
  { s with adm := { s.adm with sums := Tab.del s.adm.sums die, mirrors := Tab.del s.adm.mirrors die } }

/-- A runner that has left reset takes its sum from the mirror at its partner die (R24, log entry 169). -/
def State.admRestore (s : State) (die : Nat) : State :=
  { s with adm := { s.adm with sums := Tab.set s.adm.sums die 0 (Tab.at s.adm.mirrors (die ^^^ 8) 0) } }

/-- A runner's reset asserts (R117, R122, R344, R377, R407, R538). -/
def State.assertRunner (s : State) (die : Nat) : State :=
  let s := ((s.soLoseDie die).resetSink die).admLose die
  let s := s.modRunner die Runner.restarted
  let s := (s.resetRep (runnerUid die)).dropSets fun u => u = runnerUid die
  { s with hang := { s.hang with bindings := s.hang.bindings.filter fun e => e.1 / 1088 ≠ die } }

/-- A hub core goes into reset (R74, R76, R403): its processor, TBU, replica, wire and bar. -/
def State.coreDown (s : State) (core : Nat) : State :=
  let s := s.modCore core fun c =>
    { c with proc := .inReset, heldInReset := true, clockGood := false, gated := false
             lockstepFault := false, closeFrames := 0, strayed := false, mirrorStale := true
             wantSlot := none, noImage := false }
  let s := (s.resetRep (coreUid core)).dropSets fun u => u = coreUid core
  ((s.putWire core Wire.idle).emptyBar core).setBar core 3

/-- A hub core's own servo as it starts beside the active one: FREE, with the committed gains and the asymmetry of the
mirrors (R71, R73, log entry 168). -/
def Servo.beside (v : Servo) : Servo :=
  { Servo.fresh with kp := v.kp, ki := v.ki, asym := v.asym, unresolved := v.unresolved }

/-- A hub core is released as the standby (R78, R99): it boots from the active slot, its TBU counts and its wire is
sourced. -/
def State.coreUp (s : State) (core : Nat) : State :=
  let slot := (s.hub.core s.activeCore).fwSlot
  let s := s.modCore core fun c =>
    { c with proc := .bootRom, heldInReset := false, clockGood := true, wantSlot := some slot }
  let s : State := if core = s.standbyCore then
      { s with tb := { s.tb with standby := { Clock.fresh with since := s.elapsed, counting := true } }
               pod := { s.pod with shadow := s.pod.servo.beside } }
    else s
  (s.startWire core).setBar core 1

/-- The reserve is lost as at a warm reset (R363, R415). -/
def State.reserveGone (s : State) : State :=
  let s := s.loseReserve true
  { s with dump := { s.dump with refImage := 0, refArea := Area.empty, latestArea := Area.empty
                                 tier2Area := Area.empty } }

/-- What the assertion of a part's reset does. -/
def State.assertPart (s : State) (uid part : Nat) : State :=
  let core := bit (uid ≠ 0x8100)
  if uidIsCcp uid || uidIsTap uid then s.assertCluster (uidCluster uid)
  else if uidIsRunner uid then
    (if part = 0 then s.assertRunner (uidDie uid) else if part = 1 then s.resetSink (uidDie uid) else s)
  else if uidIsHub uid then
    (if part = 0 then s.coreDown core
     else if part = 2 then (s.emptyBar core).setBar core 3
     else s.modCore core fun c => { c with proc := .inReset })
  else if uidCode uid = 0x20 then s.reserveGone
  else s

/-- What the release of a part's reset does: a cluster's slots run (R39), a runner restarts, a core
boots (R78), a bar checks itself (R483). -/
def State.releasePart (s : State) (uid part : Nat) : State :=
  let core := bit (uid ≠ 0x8100)
  if uidIsCcp uid || uidIsTap uid then
    let c := uidCluster uid
    let chilled := s.chilled c
    s.modTap c fun x => { x with inReset := false, coreClock := if chilled then 0 else BitVec.allOnes 136 }
  else if uidIsRunner uid then
    (if part = 0 then
      (s.modRunner (uidDie uid) fun r => { r with inReset := false, activeUid := s.activeUid }).admRestore (uidDie uid)
     else s)
  else if uidIsHub uid then
    (if part = 0 then s.coreUp core
     else if part = 2 then s.setBar core 1
     else s.modCore core fun c =>
      { c with proc := .bootRom, wantSlot := some (s.hub.core s.activeCore).fwSlot })
  else s

/-! ## The hang procedure (R378–R402) -/

/-- HB_MISS falls due on a cluster (R366, R367): its miss count stands at the limit in force. -/
def State.beatDue (s : State) (c : Nat) : Bool :=
  let b := Tab.at s.hang.beats c BeatWatch.fresh
  decide (s.hang.hbLimitNow ≤ b.miss) && decide (s.health (ccpUid c) ≤ 1) && !b.unobserved &&
    !s.clusterRouted c

/-- An engine's stall count stands at the limit in force and it is not yet declared (R370). -/
def State.engineDue (s : State) (key : Nat) : Bool :=
  let e := Tab.at s.hang.engines key EngineScan.fresh
  decide (s.hang.progLimitNow ≤ e.stall) && !e.hung &&
    !(Tab.at s.hang.beats (key / 544) BeatWatch.fresh).unobserved

/-- A verdict of this evaluation that the ceiling lets join is still to be declared (R378, R416). -/
def State.verdictsDue (s : State) : Bool :=
  (decide (2 ≤ s.hang.ceiling) && (s.hang.beats.any fun e => s.beatDue e.1)) ||
    (decide (1 ≤ s.hang.ceiling) && (s.hang.engines.any fun e => s.engineDue e.1))

/-- Add a suspect, contexts rising (R376). -/
def addSuspect : List Suspect → Suspect → List Suspect
  | [], x => [x]
  | y :: l, x =>
    if x.ctx = y.ctx then (if y.avoid.isNone then { y with avoid := x.avoid } else y) :: l
    else if x.ctx < y.ctx then x :: y :: l else y :: addSuspect l x

/-- Take suspects: contexts with their epochs, and the engine that holds them. -/
def State.addSuspects (s : State) (l : List (Nat × Nat)) (avoid : Option (Nat × Nat)) : State :=
  s.modProc fun p => { p with suspects := l.foldl (fun a x => addSuspect a ⟨x.1, x.2, 0, avoid⟩) p.suspects }

/-- The procedure ends (R402, R431). -/
def State.endProcedure (s : State) (result : Nat) : State :=
  let s := s.modProc fun p => { p with state := 0, result := result, endPns := s.pns, entry := none }
  let s : State := { s with hang := { s.hang with replay := none } }
  if result = 4 ∨ result = 6 then s.urged Code.hangEnd (be 1 result) else s.told Code.hangEnd (be 1 result)

/-- RESULT of a procedure that ran to its end (R402, R409). -/
def Procedure.outcome (p : Procedure) : Nat :=
  if p.routed then 5 else if p.culpritKind = 1 then 2 else if p.engines.isEmpty then 1 else 3

/-- The culprit's objects (0x3131). -/
def State.setCulprit (s : State) (kind ctx uid engine : Nat) : State :=
  s.modProc fun p => { p with culpritKind := kind, culpritCtx := ctx, culpritUid := uid
                              culpritEngine := engine, culpritPns := s.pns }

/-- No cut (R381): the procedure goes on with tier 0 only. -/
def State.procNoCut (s : State) : State :=
  (s.modProc fun p => { p with state := 2, noCut := true, usesCut := false, entry := none
                               collectAt := s.pns }).logged Code.hangNoCut []

/-- A selection of clusters. -/
def clustersOf (b : BitVec 128) : BitVec 160 := BitVec.ofNat 160 b.toNat

/-- Enter a QUENCH or RESUME of a procedure in a free entry (R379, R382, R445): its own selection, RUN_LATE
clear, TIME `time`. The entry's number when it is accepted. -/
def State.enterOwn (s : State) (action time flags : Nat) (selection : BitVec 160) : State × Option Nat :=
  match s.freeEntry with
  | none => (s, none)
  | some n =>
    let e : SchedEntry :=
      { action := action, time := time, flags := flags, status := Stat.pending, param := (s.entry n).param
        selection := selection, stepNet := false, podOrder := 0, late := false, taken := 0 }
    if s.schedConflict action time then (State.finishEntry (s.putEntry n e) n Stat.conflict, none)
    else
      let s := s.putEntry n e
      (if action = 1 then s.acceptQuench n e false true else s.acceptResume n e, some n)

/-- Every cluster of the scope stands still under the cut in force (R380). -/
def State.cutHolds (s : State) (scope : BitVec 128) : Bool :=
  (s.qu.state = Qs.quenched || s.qu.state = Qs.mixed) &&
    (List.range 128).all fun c => !scope.getLsbD c || (s.qu.members.getLsbD c && s.stopped c)

/-- A shakeout is in progress, or waits for its IMAGE_ID. -/
def State.dumpBusy (s : State) : Bool := s.dump.running.isSome || s.dump.waiting.isSome

/-- The cut of the procedure (R379–R381). -/
def State.procCut (s : State) (first : Bool) : State :=
  let scope := s.hang.proc.scope
  if !s.dumpBusy && s.cutHolds scope then
    s.modProc fun p => { p with state := 2, usesCut := true, entry := none, collectAt := s.pns }
  else if s.dumpBusy || !(s.qu.state = Qs.idle || s.qu.state = Qs.mixed) then
    let s := if first then s.logged Code.hangDeferred [] else s
    s.modProc fun p => { p with state := 10, resumeWaits := false }
  else
    let time := s.earliest Act.quench + 2000
    match s.enterOwn Act.quench time 0 (clustersOf scope) with
    | (s, some n) => s.modProc fun p => { p with state := 2, entry := some n, collectAt := time + 2000 }
    | (s, none) => s.procNoCut

/-- The clusters that the procedure resets, one after the other (R374); then it waits for the step mark,
or ends when it re-admits nothing. -/
def State.procResets (s : State) : State :=
  match s.hang.proc.resets with
  | [] =>
    if s.hang.proc.noReadmit then s.endProcedure s.hang.proc.outcome
    else s.modProc fun p => { p with state := 7 }
  | c :: rest => (s.modProc fun p => { p with state := 8, resets := rest }).wantReset (ccpUid c) 2

/-- Escalation to L2 without a cut (R376, R378): unit resets of the scope, under the ceiling. -/
def State.procEscalate (s : State) : State :=
  let s := s.modProc fun p => { p with level := 2, suspects := p.suspects.take 64 }
  if s.hang.ceiling < 2 then (s.holdEscalation 2).endProcedure 4
  else
    (s.modProc fun p => { p with noReadmit := true
                                 resets := (List.range 128).filter fun c => p.scope.getLsbD c }).procResets

/-- Every verdict of the frame has joined and every binding is read: the suspects are known (R376,
R378). -/
def State.procGathered (s : State) : State :=
  let p := s.hang.proc
  if p.state = 1 && p.reading = 0 && !s.verdictsDue then
    if p.unknown || decide (64 < p.suspects.length) then s.procEscalate
    else (s.beacon Beacon.hang).procCut true
  else s

/-- A verdict joins the procedure: its cluster, its suspects, its read of the bindings (R376, R378). -/
def State.joinVerdict (s : State) (v : Verdict) : State :=
  let c := uidCluster v.uid
  let s := s.modProc fun p => { p with scope := setBit p.scope c true }
  if v.kind = .engineHung then
    let s := s.modProc fun p => { p with engines := p.engines ++ [(v.uid, v.engine)], reading := p.reading + 1 }
    s.ringStart (ringRead c 0x43 (uidSlot v.uid) 32 32 (.bindings (uidSlot v.uid * 4 + v.engine)))
  else
    (s.modProc fun p => { p with level := 2, resets := p.resets ++ [c] }).addSuspects (s.clusterBindings c) none

/-- A procedure starts on a verdict (R378). -/
def State.startProcedure (s : State) (v : Verdict) : State :=
  let q := s.hang.proc.queue
  let s := s.modProc fun _ => { Procedure.fresh with
    queue := q, state := 1, level := if v.kind = .engineHung then 1 else 2
    trigger := if v.kind = .engineHung then 1 else 2, targetUid := v.uid, targetEngine := v.engine
    startPns := s.pns, startFrame := v.frame }
  s.joinVerdict v

/-- Verdicts that wait: those of the first one's frame start the next procedure together (R378). -/
def State.nextProcedure (s : State) : State :=
  if s.hang.proc.state ≠ 0 then s
  else
    match s.hang.proc.queue with
    | [] => s
    | v :: _ =>
      let batch := s.hang.proc.queue.filter fun w => w.frame = v.frame
      let s := s.modProc fun p => { p with queue := p.queue.filter fun w => w.frame ≠ v.frame }
      let s := (batch.drop 1).foldl State.joinVerdict (s.startProcedure v)
      s.procGathered

/-- A verdict on an engine or a CCP (R374, R378, R416): held, joined, queued, or the start of a
procedure. -/
def State.takeVerdict (s : State) (v : Verdict) : State :=
  let level := if v.kind = .engineHung then 1 else 2
  let s :=
    if s.hang.ceiling < level then s.holdEscalation level
    else if s.hangRunning && s.hang.proc.state = 1 && s.hang.proc.startFrame = v.frame then s.joinVerdict v
    else if s.hangRunning || s.recovering then
      if s.hang.proc.queue.length < 16 then s.modProc fun p => { p with queue := p.queue ++ [v] }
      else s.told Code.hangQueueFull (be 2 v.uid)
    else s.startProcedure v
  s.procGathered

/-- The read of an engine's bindings has ended (R376): its suspects, the cache's, or none known. -/
def State.bindingsRead (s : State) (c engine : Nat) (ok : Bool) (data : List Byte) : State :=
  if s.hang.proc.state ≠ 1 then s
  else
    let slot := engine / 4
    let e := engine % 4
    let uid := slotUid c slot
    let s := s.modProc fun p => { p with reading := p.reading - 1 }
    let s :=
      if ok then
        let res := (Tab.at s.hang.engines (c * 544 + engine) EngineScan.fresh).resident
        let own := (bindingEntries data).filter fun x => x.1 = e && res.testBit x.2.1
        s.addSuspects (own.map fun x => (x.2.2.1, x.2.2.2)) (some (uid, e))
      else
        match Tab.find s.hang.bindings (c * 136 + slot) with
        | some b =>
          (s.logged Code.suspectsWide (be 2 uid)).addSuspects
            (((bindingEntries b).map fun x => (x.2.2.1, x.2.2.2)).eraseDups) (some (uid, e))
        | none => s.modProc fun p => { p with unknown := true }
    s.procGathered

/-! ### Removal and replay -/

/-- A suspect's removal is over: nothing of it waits, and its context neither moves nor drains. -/
def State.removalOver (s : State) (x : Suspect) : Bool :=
  let st := s.ctxState x.ctx
  !s.queuedRemoval x.ctx && !(s.hang.aside.any fun r => r.ctx = x.ctx) && st ≠ Cx.removing && st ≠ Cx.draining

/-- Set a suspect's verdict. -/
def State.judge_ (s : State) (ctx verdict : Nat) : State :=
  s.modProc fun p => { p with suspects := p.suspects.map fun x =>
    if x.ctx = ctx then { x with verdict := verdict } else x }

/-- Known-answer probes on an engine (R401, R489): the 9 tiles of the built-in set, ahead of sampling. -/
def State.engineProbe (s : State) (uid engine : Nat) : State :=
  { s with bar := { s.bar with first := s.bar.first ++ (List.range 9).map fun k => (engineNumber uid engine, k) } }

/-- The hang did not reproduce: logged, and probed, for every engine that had hung (R401). -/
def State.probeHung (s : State) : State :=
  s.hang.proc.engines.foldl (fun s x =>
    (s.logged Code.hangNotReproduced (be 2 x.1 ++ be 1 x.2)).engineProbe x.1 x.2) s

/-- No suspect is left to replay: without a culprit the hang is NOT_REPRODUCED and the hung engines are probed
(R401); then the unit resets. -/
def State.replayOver (s : State) : State :=
  let p := s.hang.proc
  let s : State := { s with hang := { s.hang with replay := none } }
  let s := match p.engines with
    | (uid, e) :: _ =>
      if p.culpritKind = 0 then (s.setCulprit 3 0 uid e).probeHung else s
    | [] => s
  s.procResets

/-- Replay the next suspect, contexts rising (R397); one that cannot be replayed is NOT_REPLAYED. -/
def State.replayNext : Nat → State → State
  | 0, s => s.replayOver
  | n + 1, s =>
    match s.hang.proc.suspects.find? fun x => x.verdict = 0 with
    | none => s.replayOver
    | some x =>
      match x.avoid with
      | none => State.replayNext n (s.judge_ x.ctx 3)
      | some (uid, e) =>
        if s.ctxState x.ctx ≠ Cx.suspended ∨ s.hang.proc.culpritKind = 1 then
          State.replayNext n (s.judge_ x.ctx 3)
        else
          let id := s.qu.castCounter
          let s := (s.moveCtx x.ctx Cx.replaying).issueCtx .replay false [x.ctx]
            (targetSet [uidCluster uid]) uid e
          let s := s.modProc fun p => { p with state := 6 }
          let r : Replay :=
            { castId := id, ctx := x.ctx, acted := false, uid := 0, engine := 0, frames := 0, stall := 0
              lastProgress := 0, fromFrame := 0 }
          { s with hang := { s.hang with replay := some r } }

/-- Progress of the removals of the procedure's suspects (R394, R397, R426), that of a replay that timed out included:
the next replay waits for it (R399). -/
def State.procRemovals (s : State) : State :=
  let p := s.hang.proc
  if s.hangRunning && (p.state = 4 || p.state = 5 || (p.state = 6 && s.hang.replay.isNone)) then
    if p.suspects.all s.removalOver then s.replayNext (p.suspects.length + 1)
    else if p.state = 6 then s
    else if p.suspects.all fun x => s.removalOver x || s.ctxState x.ctx = Cx.draining then
      s.modProc fun p => { p with state := 5 }
    else s
  else s

/-- The procedure removes its suspects with HOLD_REGIONS set (R386). -/
def State.procRemove (s : State) : State :=
  let s := s.modProc fun p => { p with state := 4 }
  (s.hang.proc.suspects.foldl (fun s x => s.requestRemoval x.ctx true true false) s).procRemovals

/-- The verdict on the replayed context (R399); a replay that has ended leaves it SUSPENDED, and a
culprit is removed for good. -/
def State.replayVerdict (s : State) (verdict : Nat) : State :=
  match s.hang.replay with
  | none => s
  | some r =>
    let s := (s.judge_ r.ctx verdict).dropCtx r.castId
    let s : State := { s with hang := { s.hang with replay := none } }
    let s :=
      if verdict = 2 then
        let own := (s.hang.proc.suspects.find? fun x => x.ctx = r.ctx).bind Suspect.avoid
        (s.setCulprit 1 r.ctx ((own.map Prod.fst).getD 0) ((own.map Prod.snd).getD 0)).requestRemoval
          r.ctx false true true
      else (s.moveCtx r.ctx Cx.suspended).releaseAside r.ctx
    s.replayNext (s.hang.proc.suspects.length + 1)

/-! ### Collection and resume -/

/-- The procedure's RESUME (R382), or its wait under R380, R446 and R731; then the removals. -/
def State.procResume (s : State) : State :=
  let waits : State := s.modProc fun p => { p with state := 10, resumeWaits := true }
  if s.qu.state = Qs.idle then s.procRemove
  else if s.pins.stopHolds || s.fm.fenceState = 2 || !(s.qu.state = Qs.quenched || s.qu.state = Qs.mixed) ||
      s.anyEntry [3, 4] [1, 2] then waits
  else
    match s.enterOwn Act.resume (s.earliest Act.resume + 2000) 0 (clustersOf s.hang.proc.scope) with
    | (s, some _) => s.procRemove
    | (_, none) => waits

/-- The shakeout of a procedure can begin: it is refused as a START would be (R311, R312, R317, R671). -/
def State.ownMayStart (s : State) (tiers : Nat) : Bool := !s.lc.storeA.fettlePending && (s.soRefusal tiers).isNone

/-- Start the shakeout of a procedure (R317, R382, R745), or let it wait until START would be accepted. -/
def State.ownShakeout (s : State) (tiers : Nat) (scope : BitVec 128) (trigger : Nat) : State :=
  if s.ownMayStart tiers then s.soBegin false tiers scope trigger
  else { s with dump := { s.dump with waiting := some (trigger, tiers, scope) } }

/-- A procedure's shakeout that waited begins, once START would be accepted (R317, R745). -/
def State.startWaiting (s : State) : State :=
  match s.dump.waiting with
  | some (trigger, tiers, scope) =>
    if s.ownMayStart tiers then
      State.soBegin { s with dump := { s.dump with waiting := none } } false tiers scope trigger
    else s
  | none => s

/-- The procedure's image closes (R382): its IMAGE_ID, and the RESUME of the scope. -/
def State.procClosed (s : State) (g : Image) : State :=
  if s.hangRunning && s.hang.proc.state = 3 && g.trigger = 1 then
    let s := s.modProc fun p => { p with imageId := g.id }
    if s.hang.proc.usesCut || s.hang.proc.noCut then s.procRemove else s.procResume
  else s

/-! ## The end of a unit reset -/

/-- The procedure, or 0x3121's view of a reset on its own, follows the end of a unit reset. -/
def State.procResetEnded (s : State) (result : Nat) : State :=
  if s.hang.proc.state ≠ 8 then s
  else if s.hangRunning then
    let s := if result = 5 then s.modProc fun p => { p with routed := true } else s
    s.procResets
  else s.modProc fun p => { p with state := 0, endPns := s.pns, result := result }

/-- A unit reset reaches DONE (R18, R405, R406): the unit is healthy, its cluster's rows come back, its
contexts wait for the step boundary. -/
def State.resetDone (s : State) : State :=
  let r := s.hang.reset
  let s := s.modReset fun r => { r with state := 4, donePns := s.pns, active := false
                                        readmit := (r.readmit ++ r.contexts).eraseDups, contexts := [] }
  let s := if modePart r.mode = 0 then s.setHealth (resetHealth r.uid) 0 else s
  let s := if r.kind = some .cluster then (s.restoreClusters [uidCluster r.uid]).traceFollow else s
  ((s.procResetEnded 1).nextReset).nextProcedure

/-- The reset of a part releases (R406): clusters and runners wait for their DONE, the others have it. -/
def State.releaseReset (s : State) : State :=
  let r := s.hang.reset
  let part := modePart r.mode
  let s := (s.releasePart r.uid part).emit .unitReset r.uid (be 1 part ++ be 1 3)
  let s := s.modReset fun r => { r with state := 3, releasedAt := s.elapsed }
  if r.kind = some .cluster ∨ r.kind = some .runner then s else s.resetDone

/-! ## Device recovery (R411–R415) -/

/-- Cancel every open QUENCH, POD_QUENCH, STEP and RESUME (R240, R412, R445). -/
def State.cancelCuts (s : State) : State :=
  let open_ := (List.range 32).filter fun n =>
    (s.entry n).open && decide (1 ≤ (s.entry n).action) && decide ((s.entry n).action ≤ 4)
  open_.foldl (fun s n => (s.cancelEntry n).1) s

/-- Every optical port is fenced to job traffic, or its fence lifted (R441). -/
def State.fencePorts (s : State) (on : Bool) : State :=
  (List.range 48).foldl (fun s p => s.modPort p fun x => { x with fenced := on }) s

/-- Every context RETIRED, and nothing left of removals and replays (R412). -/
def State.retireAll (s : State) : State :=
  let all := (List.range 4096).map fun c => (c, s.ctxEpoch c + 256 * Cx.retired)
  State.fettleContexts { s with hang := { s.hang with
    contexts := all, queue := [], overflow := [], aside := [], casts := [], replay := none, fettling := [] } }

/-- A unit reset in progress is ended, and those that wait are dropped. -/
def State.endResets (s : State) : State :=
  s.modReset fun r =>
    if r.active then { r with active := false, state := 5, donePns := s.pns, queue := [], waitFor := []
                              contexts := [], readmit := [] }
    else { r with queue := [], readmit := [] }

/-- SUSPECT ends (R440). -/
def State.endSuspect (s : State) : State :=
  { s with fm := { s.fm with suspectState := 0, disagree := 0, agreeFrames := 0 } }

/-- Device recovery starts with phase A (R411, R412): a cut of the whole package, tier 0, the fence. -/
def State.startRecovery (s : State) (trigger uid : Nat) : State :=
  let s := s.beacon Beacon.deviceRecovery
  let s := ((s.endSuspect.endResets).cancelCuts).soAbort
  let s : State := { s with dump := { s.dump with waiting := none } }
  let s := (s.fencePorts true).retireAll
  let s := s.modProc fun _ => { Procedure.fresh with
    state := 9, level := 3, trigger := trigger, targetUid := uid, startPns := s.pns
    scope := BitVec.allOnes 128 }
  let s := if s.qu.state = Qs.quenched then
      s.modProc fun p => { p with usesCut := true, collectAt := s.pns }
    else if s.qu.state = Qs.idle || s.qu.state = Qs.mixed then
      let time := s.earliest Act.quench
      match s.enterOwn Act.quench time 0 wholePackage with
      | (s, some n) => s.modProc fun p => { p with entry := some n, collectAt := time + 2000 }
      | (s, none) => s.modProc fun p => { p with noCut := true, collectAt := s.pns }
    else s.modProc fun p => { p with noCut := true, collectAt := s.pns }
  let s := s.modProc fun p => { p with l3Phase := 1 }
  let s : State := { s with lc := { s.lc with jobRemoved := false } }
  { s with hang := { s.hang with l3Since := s.elapsed, l3Failed := false } }

/-- Maximum of a phase of device recovery, in microseconds (R412). -/
def l3Max (phase : Nat) : Nat := [0, 1000, 12000, 1450000, 650000, 1750000, 40000, 90000].getD phase 0

end Sys2Proof.Machine
end

