-- ==== Sys2Proof/Machine/Context.lean ====
section
/-!
DEFINITION. The commands of contexts and casts: removal, re-admission, replay, fettling, retries
(R254, R384–R402).
-/
namespace Sys2Proof.Machine

/-! ## Removal -/

/-- Why CONTEXT_REMOVE is refused (R387, R388). -/
def State.removeRefusal (s : State) (ctx : Nat) : Option Nat :=
  let st := s.ctxState ctx
  if 4095 < ctx then some Abort.valueRange
  else if st = Cx.removing ∨ st = Cx.draining ∨ st = Cx.replaying ∨ st = Cx.fettling then some Abort.busy
  else if st = Cx.normal && !s.queuedRemoval ctx &&
      (!s.hang.overflow.isEmpty || decide (64 ≤ s.hang.queue.length)) then some Abort.busy
  else none

/-- What a write of ContextRemove does, and its answer. -/
def State.cmdContextRemove (s : State) (ctx : Nat) : Reply :=
  match s.removeRefusal ctx with
  | some code => s.refuse code
  | none => (s.requestRemoval ctx false false false).fettleContexts.accept

/-- CONTEXT_REMOVE (R386–R388). -/
def execContextRemove (dt : Nat) (req : Req) (ctx : Nat) (s : State) : Host.Outcome State Fault Refusal :=
  done ((s.begin dt).serve req 0x3110 0 .write fun _ s => s.cmdContextRemove ctx)

/-- REMOVE_CAST_ISSUE (R386, R388); a unit reset that waited for it starts (R405). -/
def execRemoveCastIssue (dt : Nat) (s : State) : Host.Outcome State Fault Refusal :=
  let s := s.begin dt
  done (s.onlyIf (decide (s.openRemoves < 2) && !s.hang.queue.isEmpty) fun s => s.issueRemove.resetMayStart)

/-! ## A context cast at a target -/

/-- A context cast as its octets carry it (R384). -/
structure CtxOrder where
  id : Nat
  kind : Nat
  retry : Bool
  contexts : List Nat
  epochs : List Nat
  targets : BitVec 160

/-- The order of 56 octets whose CRC matches. -/
def CtxOrder.ofOctets (l : List Byte) : Option CtxOrder :=
  if l.length = 56 ∧ fieldLe l 52 4 = crc32c (l.take 52) then
    let n := Nat.min (fieldLe l 4 1) 8
    some { id := fieldLe l 0 2, kind := fieldLe l 2 1, retry := bitOf (fieldLe l 3 1) 0
           contexts := (List.range n).map fun k => fieldLe l (8 + 2 * k) 2 % 4096
           epochs := (List.range n).map fun k => fieldLe l (24 + k) 1
           targets := BitVec.ofNat 160 (fieldLe l 32 20) }
  else none

/-- Epochs that an order sets (R389–R391). -/
def CtxOrder.apply (c : CtxOrder) (t : Tab Nat) : Tab Nat :=
  (c.contexts.zip c.epochs).foldl (fun t x => Tab.set t x.1 0 x.2) t

/-- A target carries out a REMOVE or READMIT and counts on lane 1 (R385, R389–R391); a cluster in unit
reset answers IN_RESET. -/
def State.actOnOrder (s : State) (t : Nat) (c : CtxOrder) : State :=
  let held : Bool := decide (t < 128) && s.clusterReset t
  let s := if held || c.kind ≠ 0x10 then s
    else if t < 128 then s.modTap t fun x => { x with epochs := c.apply x.epochs }
    else s.modGroup (t - 144) fun x => { x with epochs := c.apply x.epochs }
  let s : State := { s with hang := { s.hang with casts := s.hang.casts.map fun o =>
    if o.id = c.id then { o with laneCount := o.laneCount + 1 } else o } }
  (s.emit .laneOne c.id (be 8 1)).sendAnswer t c.id (if held then Cx.inReset else Cx.acted)
    (s.stampPns (targetReplica t) % 2 ^ 32)

/-- CONTEXT_CAST_RECEIVE (R253, R384, R385, R389–R391, R398). For a REPLAY the CCP's own answer is
`status`, with the engine that it chose. -/
def execContextCastReceive (dt : Nat) (target : Nat) (cast : List Byte) (status uid engine : Nat) (s : State) :
    Host.Outcome State Fault Refusal :=
  let s := s.begin dt
  done (match CtxOrder.ofOctets cast with
    | none => s
    | some c =>
      s.onlyIf (c.targets.getLsbD target && s.targetAlive target &&
          (c.kind = 0x10 || c.kind = 0x11 || c.kind = 0x12)) fun s =>
        match (s.memoryOf target).find? fun m => c.retry && m.id = c.id with
        | some m => s.emit .castResponse target (castResponseOctets c.id target m.status m.stamp)
        | none =>
          if c.kind = 0x12 then
            if decide (target < 128) && s.clusterReset target then s.sendAnswer target c.id Cx.inReset 0
            else s.sendAnswer target c.id status (uid + 65536 * engine)
          else s.actOnOrder target c)

/-! ## Counts and drains -/

/-- REMOVE_COUNT_COMPLETE (R394): the contexts drain. -/
def execRemoveCountComplete (dt : Nat) (castId : Nat) (s : State) : Host.Outcome State Fault Refusal :=
  let s := s.begin dt
  done (match s.ctxCast castId with
    | none => s
    | some c =>
      s.onlyIf (c.kind = .remove && !c.counted && s.removeComplete c) fun s =>
        let s := c.contexts.foldl (fun s x =>
          if s.ctxState x = Cx.removing then s.moveCtx x Cx.draining else s) s
        (s.putCtx { c with counted := true, drainAt := some (s.pns + s.hang.drainNs) }).procRemovals)

/-- DRAIN_ELAPSED (R394, R397, R748). -/
def execDrainElapsed (dt : Nat) (castId : Nat) (s : State) : Host.Outcome State Fault Refusal :=
  let s := s.begin dt
  done (match s.ctxCast castId with
    | none => s
    | some c =>
      s.onlyIf (c.counted && (c.drainAt.any fun t => decide (t ≤ s.pns))) fun s =>
        (s.drainCast c).procRemovals)

/-- CONTEXT_FETTLE_DONE (R396): a die has fettled the context's pages, while its memory is out of reset; with the last
one it is NORMAL. -/
def execContextFettleDone (dt : Nat) (ctx die : Nat) (s : State) : Host.Outcome State Fault Refusal :=
  let s := s.begin dt
  done (s.onlyIf (s.ctxState ctx = Cx.fettling && decide (die < 16) && s.rst.released.getLsbD 7) fun s =>
    let m := Tab.at s.hang.fettling ctx 0xFFFF
    let left := if m.testBit die then m - 2 ^ die else m
    if left = 0 then
      State.moveCtx { s with hang := { s.hang with fettling := Tab.del s.hang.fettling ctx } } ctx Cx.normal
    else { s with hang := { s.hang with fettling := Tab.put s.hang.fettling ctx left } })

/-! ## Replay -/

/-- The verdict that a replay's final status gives (R399). -/
def replayOutcome (status : Nat) : Option Nat :=
  if status = Cx.replayDone then some 1
  else if status = Cx.replayFault then some 2
  else if status = Cx.noInputs ∨ status = Cx.noEngine ∨ status = Cx.inReset then some 3
  else none

/-- Targets have answered a cast: an entry that reads 4 reads 0 again (R254). -/
def State.targetsHeard (s : State) (ts : List Nat) : State :=
  ts.foldl (fun s t => if s.health (targetUid t) = 4 then s.setHealth (targetUid t) 0 else s) s

/-- REPLAY_RESPONSE (R254, R398, R399, R401): ACTED names the engine; a final status is the verdict. -/
def execReplayResponse (dt : Nat) (castId status uid engine : Nat) (s : State) :
    Host.Outcome State Fault Refusal :=
  let s := s.begin dt
  done (match s.hang.replay with
    | none => s
    | some r =>
      s.onlyIf (r.castId = castId) fun s =>
        let s := match s.ctxCast castId with
          | some c =>
            let ts := targetsOf c.targets
            (s.targetsHeard ts).putCtx { c with answers := ts.foldl (fun a t => Tab.put a t (status + 1)) c.answers }
          | none => s
        if status = Cx.acted then
          let r1 : Replay := { r with acted := true, uid := uid, engine := engine, fromFrame := s.frame.number + 1 }
          if r.acted then s else { s with hang := { s.hang with replay := some r1 } }
        else match replayOutcome status with
          | some v => s.replayVerdict v
          | none => s)

/-- REPLAY_STALL (R399): the replay engine has stalled too. -/
def execReplayStall (dt : Nat) (s : State) : Host.Outcome State Fault Refusal :=
  let s := s.begin dt
  done (match s.hang.replay with
    | none => s
    | some r => s.onlyIf (r.acted && decide (s.hang.progLimitNow ≤ r.stall)) fun s => s.replayVerdict 2)

/-- REPLAY_TIMEOUT (R399, R400): INNOCENT, logged; the context leaves the replay engine by a removal with
HOLD_REGIONS set, and the next suspect follows. -/
def execReplayTimeout (dt : Nat) (s : State) : Host.Outcome State Fault Refusal :=
  let s := s.begin dt
  done (match s.hang.replay with
    | none => s
    | some r =>
      s.onlyIf (r.acted && decide (s.hang.replayLimit ≤ r.frames)) fun s =>
        let s := ((s.judge_ r.ctx 1).logged Code.replayTimeout (be 2 r.ctx)).dropCtx r.castId
        let s : State := { s with hang := { s.hang with replay := none } }
        (s.requestRemoval r.ctx true true true).procRemovals)

/-! ## Retries -/

/-- CAST_RETRY (R254, R385): to the missing targets, with RETRY set. -/
def execCastRetry (dt : Nat) (castId : Nat) (s : State) : Host.Outcome State Fault Refusal :=
  let s := s.begin dt
  done (match s.openCast castId with
    | some o => s.onlyIf (!o.ended && !o.missing.isEmpty && retryDue o.issued o.retries s.elapsed) fun s => s.retryCast o
    | none =>
      match s.ctxCast castId with
      | none => s
      | some c =>
        s.onlyIf (!c.missing.isEmpty && retryDue c.issued c.retries s.elapsed) fun s =>
          (s.putCtx { c with retries := c.retries + 1 }).emit .contextCast 0 (c.octets true (targetSet c.missing)))

/-- A REMOVE's cluster that stays missing (R393, R416): REMOVE_STALLED, and its unit reset. -/
def State.stallRemove (s : State) (t : Nat) : State :=
  if t < 128 then
    let s := s.logged Code.removeStalled (be 2 (tapUid t))
    if s.hang.ceiling < 2 then s.holdEscalation 2 else s.wantReset (tapUid t) 5
  else s

/-- The retries of a context cast have ended (R254, R385, R393). -/
def State.endCtx (s : State) (c : CtxCast) : State :=
  let gone := c.missing
  let s := gone.foldl State.unresponsive s
  match c.kind with
  | .remove =>
    let s := s.putCtx { c with retries := 5, stalled := if c.counted then c.stalled else c.stalled ||| targetSet gone }
    if c.counted then s else gone.foldl State.stallRemove s
  | .readmit => s.dropCtx c.id
  | .replay => if (s.hang.replay.map Replay.castId) = some c.id then s.replayVerdict 3 else s.dropCtx c.id

/-- CAST_UNRESPONSIVE (R254, R262, R264, R393). -/
def execCastUnresponsive (dt : Nat) (castId : Nat) (s : State) : Host.Outcome State Fault Refusal :=
  let s := s.begin dt
  done (match s.openCast castId with
    | some o => s.onlyIf (!o.ended && !o.missing.isEmpty && missingDue o.issued s.elapsed) fun s => s.endCast o
    | none =>
      match s.ctxCast castId with
      | none => s
      | some c =>
        s.onlyIf (!c.missing.isEmpty && decide (c.retries < 5) && missingDue c.issued s.elapsed) fun s => s.endCtx c)

end Sys2Proof.Machine
end

