-- ==== Sys2Proof/Machine/UnitReset.lean ====
section
/-!
DEFINITION. The commands of unit resets and of device recovery (R403–R415).
-/
namespace Sys2Proof.Machine

/-- The mode octet of a request (R403). -/
def resetMode (action part : Nat) (attested : Bool) : Nat := action + 16 * part + 128 * bit attested

/-- The reset in progress is a HOLD of this part that waits in HELD (R406). -/
def State.heldPart (s : State) (uid part : Nat) : Bool :=
  let r := s.hang.reset
  r.active && r.state = 2 && modeAction r.mode = 1 && r.uid = uid && modePart r.mode = part

/-- An old active core that a takeover left in reset (R78). -/
def State.oldCore (s : State) (uid part : Nat) : Bool :=
  uidIsHub uid && part = 0 && uid = coreUid s.standbyCore && (s.hub.core s.standbyCore).heldInReset

/-- Why a unit reset is refused (R404). -/
def State.resetRefusal (s : State) (uid action part : Nat) (attested : Bool) : Option Nat :=
  if !uidPresent uid then some Abort.unitUnknown
  else
    match resetKind uid part with
    | none => some Abort.valueRange
    | some k =>
      if action = 2 ∧ ¬ (s.heldPart uid part || s.oldCore uid part) then some Abort.valueRange
      else if uid = s.activeUid then some Abort.activeCore
      else if k = .idleRequired ∧ ¬ attested then some Abort.notIdleAttested
      else if s.recovering || (s.hang.reset.active && !(action = 2 && s.heldPart uid part)) then some Abort.busy
      else none

/-- What a write of UnitResetPulse does, and its answer. -/
def State.cmdUnitResetPulse (s : State) (uid part : Nat) (attested : Bool) : Reply :=
  match s.resetRefusal uid 0 part attested with
  | some code => s.refuse code
  | none => (s.acceptReset uid (resetMode 0 part attested) false 8).accept

/-- UNIT_RESET_PULSE (R403–R408). -/
def execUnitResetPulse (dt : Nat) (req : Req) (uid part : Nat) (attested : Bool) (s : State) :
    Host.Outcome State Fault Refusal :=
  done ((s.begin dt).serve req 0x3010 0 .write fun _ s => s.cmdUnitResetPulse uid part attested)

/-- What a write of UnitResetHold does, and its answer. -/
def State.cmdUnitResetHold (s : State) (uid part : Nat) (attested : Bool) : Reply :=
  match s.resetRefusal uid 1 part attested with
  | some code => s.refuse code
  | none => (s.acceptReset uid (resetMode 1 part attested) false 8).accept

/-- UNIT_RESET_HOLD (R403–R408). -/
def execUnitResetHold (dt : Nat) (req : Req) (uid part : Nat) (attested : Bool) (s : State) :
    Host.Outcome State Fault Refusal :=
  done ((s.begin dt).serve req 0x3010 0 .write fun _ s => s.cmdUnitResetHold uid part attested)

/-- What a write of UnitResetRelease does, and its answer. -/
def State.cmdUnitResetRelease (s : State) (uid part : Nat) (attested : Bool) : Reply :=
  match s.resetRefusal uid 2 part attested with
  | some code => s.refuse code
  | none =>
    let held := s.heldPart uid part
    let s := s.modReset fun r =>
      if held then { r with since := some s.elapsed, mode := resetMode 2 part attested }
      else { r with uid := uid, mode := resetMode 2 part attested, errCompletions := 0, donePns := 0
                    since := some s.elapsed, active := true, byHub := false, retried := false
                    waitFor := [], contexts := [], assertedAt := s.elapsed }
    s.releaseReset.accept

/-- UNIT_RESET_RELEASE (R78, R406): a held part, whose 40 ms run from here, or an old active core. -/
def execUnitResetRelease (dt : Nat) (req : Req) (uid part : Nat) (attested : Bool) (s : State) :
    Host.Outcome State Fault Refusal :=
  done ((s.begin dt).serve req 0x3010 0 .write fun _ s => s.cmdUnitResetRelease uid part attested)

/-- UNIT_RESET_ASSERT (R39, R305, R343, R393, R406, R407): 10 µs after the wrapper has closed; an
idle-required part has no wrapper to wait for. -/
def execUnitResetAssert (dt : Nat) (s : State) : Host.Outcome State Fault Refusal :=
  let s := s.begin dt
  let r := s.hang.reset
  let wait := if r.kind = some .idleRequired then 0 else 10000 * Config.stepsPerNs
  done (s.onlyIf (r.active && r.state = 1 && (r.since.any fun t => decide (t + wait ≤ s.elapsed))) fun s =>
    let s := (s.assertPart r.uid (modePart r.mode)).emit .unitReset r.uid (be 1 (modePart r.mode) ++ be 1 2)
    s.modReset fun r => { r with state := 2, assertedAt := s.elapsed })

/-- UNIT_RESET_RELEASE_DUE (R406): 4,096 REFCLK cycles after the assertion, unless ACTION is HOLD. -/
def execUnitResetReleaseDue (dt : Nat) (s : State) : Host.Outcome State Fault Refusal :=
  let s := s.begin dt
  let r := s.hang.reset
  done (s.onlyIf (r.active && r.state = 2 && modeAction r.mode ≠ 1 &&
      decide (r.assertedAt + 4096 * Config.stepsPerRefclk ≤ s.elapsed)) fun s => s.releaseReset)

/-- UNIT_RESET_DONE (R18, R406): the cluster's first heartbeat, or the runner's tracking replica and first
report. -/
def execUnitResetDone (dt : Nat) (s : State) : Host.Outcome State Fault Refusal :=
  let s := s.begin dt
  let r := s.hang.reset
  let die := uidDie r.uid
  let ready : Bool := match r.kind with
    | some .cluster => true
    | some .runner =>
      decide ((s.replica r.uid).state = .tracking) && decide (0 < (s.runner die).lastReport)
    | _ => false
  done (s.onlyIf (r.active && r.state = 3 && ready) fun s => s.resetDone)

/-- L2_FAILED (R17, R374, R409): the cluster is routed around; a runner is reset once more, and then its
die counts as lost. -/
def execL2Failed (dt : Nat) (s : State) : Host.Outcome State Fault Refusal :=
  let s := s.begin dt
  let r := s.hang.reset
  let held : Bool := modeAction r.mode = 1 && decide (r.state ≤ 2)
  done (s.onlyIf (r.active && !held && (r.kind = some .cluster || r.kind = some .runner) &&
      (r.since.any fun t => decide (t + 40000000 * Config.stepsPerNs ≤ s.elapsed))) fun s =>
    let s := s.urged Code.l2Failed (be 2 r.uid ++ be 1 (bit r.retried))
    if r.kind = some .runner && !r.retried then
      let s := s.modReset fun r => { r with
        retried := true, state := 0, since := none, mode := resetMode 0 0 false }
      (if s.hangRunning then s else s.modProc fun p => { p with trigger := 6 }).beginReset
    else
      let s := s.modReset fun r => { r with state := 5, donePns := s.pns, active := false, contexts := [] }
      let s := if r.kind = some .cluster then (s.routeCluster (uidCluster r.uid)).traceFollow else s.setHealth r.uid 4
      ((s.procResetEnded (if r.kind = some .cluster then 5 else 6)).nextReset).nextProcedure)

/-! ## Device recovery -/

/-- What a write of RecoveryLevel does, and its answer. -/
def State.cmdRecoveryLevel (s : State) (value : Nat) : Reply :=
  if value ≠ 3 then s.refuse Abort.valueRange
  else if s.recovering then s.refuse Abort.busy
  else (s.startRecovery 7 s.activeUid).accept

/-- RECOVERY_LEVEL (R411, R412). -/
def execRecoveryLevel (dt : Nat) (req : Req) (value : Nat) (s : State) : Host.Outcome State Fault Refusal :=
  done ((s.begin dt).serve req 0x3120 0 .write fun _ s => s.cmdRecoveryLevel value)

/-- Phase B resets domains D6–D9 (R412): memory, clusters and optical ports; nothing stays stopped. -/
def State.recoveryReset (s : State) : State :=
  let s : State := { s with rst := s.rst.backTo 6 }
  let s := (((List.range 128).foldl (fun s c => s.modTap c Tap.clusterReset) s).forgetClusters).endOrders fun _ => true
  let s := (List.range 128).foldl (fun s c =>
    if s.health (ccpUid c) = 3 then s else s.setHealth (ccpUid c) 0) s
  let s := (List.range 16).foldl (fun s d =>
    ((s.modRunner d fun r => { r with freezeArm := none, thawArm := none, frozen := false }).thawSink d).modGroup d
      fun g => { g with freezeArm := none, thawArm := none, frozenAt := none }) s
  let s := (List.range 48).foldl (fun s p => s.modPort p fun x =>
    { x with linkUp := false, frozen := none, dRx := none, coarse := false }) s
  { s with qu := { s.qu with members := 0, stepping := 0, hand := none, closing := none, lateCancels := [], refreeze := none, state := Qs.idle } }

/-- Some engine of a core is quarantined. -/
def State.coreQuarantined (s : State) (uid : Nat) : Bool :=
  (List.range 4).any fun e => s.bar.quarantine.getLsbD (engineNumber uid e)

/-- Cores whose engines are cleared of quarantine count as working again (R485). -/
def State.forgiveRow (s : State) (r : Nat) : State :=
  let x := s.row r
  let uid (p : Nat) : Nat := slotUid (r / 4) (r % 4 * 34 + p)
  s.putRow r (SpareRow.plan { x with failed := x.failed.filter fun p => s.coreQuarantined (uid p) })

/-- Device recovery restores rows (R18, R412, R485) and clears routed-around CCP entries. -/
def State.recoveryRows (s : State) : State :=
  let s := ((Tab.keys s.topo.rows).foldl State.forgiveRow s).restoreRows
  ((List.range 128).foldl (fun s c =>
    if s.health (ccpUid c) = 3 ∧ ¬ s.clusterRouted c then s.setHealth (ccpUid c) 0 else s) s).traceFollow

/-- Phase B has reset the memory controllers: the reserve and the trace buffers are lost as after a warm reset, and the
header blocks stand again only after the next reset of the buffers (R415, R525, R538). -/
def State.memoryLost (s : State) : State :=
  let s := s.reserveGone
  let s : State := { s with dram := s.openBuffers s.freeNow }
  (List.range 16).foldl (fun s d => s.modSink d fun k => { k with header := [] }) s.drawn

/-- Job traffic flows again unless another fence stands (R424, R441). -/
def State.liftFence (s : State) : State :=
  if s.fm.fenceState ≠ 0 || s.lc.jobRemoved || s.hang.l3Failed then s
  else (List.range 48).foldl (fun s p => s.modPort p fun x =>
    { x with fenced := (s.runner (portDie p)).fenced }) s

/-- Device recovery ends with a RESULT: the job phase is START_UP until the next mark, and ADM_STATE reads IDLE
(R412, R429, R449). -/
def State.recoveryEnds (s : State) (result : Nat) : State :=
  let s := s.modProc fun p => { p with state := 0, l3Phase := 0, result := result, endPns := s.pns, queue := [] }
  { s with fm := { s.fm with markPhase := 1 }, adm := { s.adm with state := 0 } }

/-- Device recovery ends well (R412, R429, R449). -/
def State.recoveryDone (s : State) : State :=
  let s := s.recoveryEnds 1
  s.liftFence.told Code.l3Done (be 4 s.topo.health.length)

/-- The work of the phase has come to its end. -/
def State.phaseDone (s : State) (phase : Nat) : Bool :=
  if phase = 1 then !s.dumpBusy && s.hang.proc.imageId ≠ 0
  else if phase = 2 then s.rst.released = BitVec.allOnes 10
  else if phase = 4 then
    (List.range 128).all fun c => s.clusterRouted c || (Tab.at s.hang.beats c BeatWatch.fresh).beaten
  else true

/-- L3_PHASE_END (R18, R412, R415, R429, R449). -/
def execL3PhaseEnd (dt : Nat) (s : State) : Host.Outcome State Fault Refusal :=
  let s := s.begin dt
  let k := s.hang.proc.l3Phase
  done (s.onlyIf (k ≠ 0 && s.phaseDone k) fun s =>
    if k = 7 then s.recoveryDone
    else
      let s := s.modProc fun p => { p with l3Phase := k + 1 }
      let s : State := { s with hang := { s.hang with l3Since := s.elapsed } }
      if k = 1 then s.recoveryReset
      else if k = 2 then s.memoryLost.recoveryRows
      else if k = 6 then { s with bar := { s.bar with sweep := some 0 } }
      else s)

/-- L3_FAILED (R414, R429, R449): the ports stay fenced. -/
def execL3Failed (dt : Nat) (s : State) : Host.Outcome State Fault Refusal :=
  let s := s.begin dt
  let k := s.hang.proc.l3Phase
  done (s.onlyIf (k ≠ 0 && decide (s.hang.l3Since + l3Max k * 1000 * Config.stepsPerNs < s.elapsed)) fun s =>
    let s := s.recoveryEnds 6
    State.urged { s with hang := { s.hang with l3Failed := true } } Code.l3Failed (be 1 k))

end Sys2Proof.Machine
end

