-- ==== Sys2Proof/Machine/Hang.lean ====
section
/-!
DEFINITION. Evaluation of the frame reports, verdicts, the steps of the hang procedure, beacons, and the
runner that hears no tick (R365–R383, R421, R424, R434).
-/
namespace Sys2Proof.Machine

/-! ## Evaluation (R208, R365–R373, R399, R434, R440) -/

/-- The heartbeat watch of a cluster over a frame (R365, R366): what its tap answered. -/
def State.watchBeat (s : State) (c frame : Nat) (beat : Option Nat) : State :=
  match beat with
  | none => s
  | some h =>
    let b := Tab.at s.hang.beats c BeatWatch.fresh
    let running : Bool := decide (s.health (ccpUid c) ≤ 1) && s.health (tapUid c) = 0 && b.beaten
    let b := if h ≠ b.last then { b with miss := 0, beaten := true, changedFrame := frame, last := h }
      else if running then { b with miss := b.miss + 1 } else b
    { s with hang := { s.hang with beats := Tab.set s.hang.beats c BeatWatch.fresh b } }

/-- Consecutive frames in which a tap's entry has read 4 (R373). -/
def State.watchTap (s : State) (c : Nat) : State :=
  let dead : Bool := s.health (tapUid c) = 4
  let hang := s.hang
  { s with hang := { hang with beats := Tab.mod hang.beats c BeatWatch.fresh fun b =>
      { b with tapSilentFrames := if dead then b.tapSilentFrames + 1 else 0 } } }

/-- The stall count of an engine over a frame (R369): its previous scan, the report, and whether CORE_CLOCK was 1 and
the half not chilled at the scan. -/
def EngineScan.next (p : EngineScan) (e : EngineReport) (live : Bool) : EngineScan :=
  if e.progress ≠ p.progress ∨ e.resident = 0 ∨ p.resident = 0 then
    ⟨e.progress, e.resident, live, 0, false⟩
  else ⟨e.progress, e.resident, live, if live && p.live then p.stall + 1 else p.stall, p.hung⟩

/-- The replay engine's frame (R399, R400). -/
def Replay.next (r : Replay) (p : EngineScan) (e : EngineReport) (live : Bool) : Replay :=
  if e.progress ≠ p.progress then { r with stall := 0, frames := r.frames + 1, lastProgress := e.progress }
  else if e.resident = 0 ∨ p.resident = 0 then { r with stall := 0 }
  else if live && p.live then { r with stall := r.stall + 1 } else r

/-- The engines of a die's report (R369, R399). -/
def State.watchEngines (s : State) (die frame : Nat) (l : List (EngineReport × Bool)) : State :=
  let old := s.hang.engines
  let fresh := old.filter fun x => x.1 / 4352 ≠ die
  let scans := l.foldl (fun t e =>
    let k := die * 4352 + e.1.engine
    Tab.set t k EngineScan.fresh ((Tab.at old k EngineScan.fresh).next e.1 e.2)) fresh
  let replay := s.hang.replay.map fun r =>
    let k := engineNumber r.uid r.engine
    match l.find? fun e => die * 4352 + e.1.engine = k with
    | some e => if r.acted ∧ r.fromFrame ≤ frame then r.next (Tab.at old k EngineScan.fresh) e.1 e.2 else r
    | none => r
  { s with hang := { s.hang with engines := scans, replay := replay } }

/-- A die's report is evaluated. -/
def State.evaluateDie (s : State) (frame die : Nat) : State :=
  if (s.runner die).inReset || s.runnerSilentNow die then s
  else
    let s := (List.range 8).foldl (fun s k => s.watchTap (die * 8 + k)) s
    match s.hang.reports.find? fun r => r.1 = frame && r.2.1 = die with
    | none => s
    | some r =>
      let s := (List.range 8).foldl (fun s k => s.watchBeat (die * 8 + k) frame (r.2.2.beats.getD k none)) s
      (s.watchEngines die frame r.2.2.engines).modDie die (reportSensors r.2.2)

/-- The job's and the hub's views differ (R434). -/
def State.viewsDiffer (s : State) : Bool := s.fm.jobView ≠ 0 && s.fm.jobView ≠ s.hubView + 1

/-- DISAGREE_FRAMES and the frames agreed since REPORTED (R434, R440). -/
def State.watchViews (s : State) : State :=
  let f := s.fm
  let pause := s.hangRunning || s.hang.reset.active || s.recovering
  let agree := if f.suspectState = 3 ∧ ¬ s.viewsDiffer then f.agreeFrames + 1 else 0
  { s with fm := { f with
      disagree := if pause then f.disagree else if s.viewsDiffer then Nat.min (f.disagree + 1) 65535 else 0
      agreeFrames := agree } }

/-- REPORT_EVALUATION (R208–R210): the oldest frame still to be evaluated; a shakeout that waited for this evaluation
may begin (R317). -/
def execReportEvaluation (dt : Nat) (s : State) : Host.Outcome State Fault Refusal :=
  let s := s.begin dt
  done (match s.hang.evalDue with
    | [] => s
    | f :: rest =>
      s.onlyIf (s.inSlot 1) fun s =>
        let s := (List.range 16).foldl (fun s d => s.evaluateDie f d) s
        let s : State := { s with hang := { s.hang with
          evalDue := rest, evalFrame := f, reports := s.hang.reports.filter fun r => decide (f < r.1) } }
        s.watchViews.startWaiting)

/-! ## Verdicts -/

/-- HB_MISS (R367, R374, R378). -/
def execHbMiss (dt : Nat) (cluster : Nat) (s : State) : Host.Outcome State Fault Refusal :=
  let s := s.begin dt
  done (s.onlyIf (decide (cluster < 128) && s.beatDue cluster) fun s =>
    let s := (s.setHealth (ccpUid cluster) 4).told Code.hbMiss (be 2 (tapUid cluster))
    s.takeVerdict ⟨.hbMiss, ccpUid cluster, 0, s.hang.evalFrame, s.pns⟩)

/-- HANG_ENGINE (R370, R374, R376, R378). -/
def execHangEngine (dt : Nat) (uid engine : Nat) (s : State) : Host.Outcome State Fault Refusal :=
  let s := s.begin dt
  let k := engineNumber uid engine
  done (s.onlyIf (uidIsCore uid && uidPresent uid && decide (engine < 4) && s.engineDue k) fun s =>
    let hang := s.hang
    let s : State := { s with hang := { hang with
      engines := Tab.mod hang.engines k EngineScan.fresh fun e => { e with hung := true } } }
    let s := s.told Code.hangEngine (be 2 uid ++ be 1 engine)
    s.takeVerdict ⟨.engineHung, uid, engine, s.hang.evalFrame, s.pns⟩)

/-- RUNNER_SILENT (R372, R374). -/
def execRunnerSilent (dt : Nat) (die : Nat) (s : State) : Host.Outcome State Fault Refusal :=
  let s := s.begin dt
  done (s.onlyIf (decide (die < 16) && s.runnerSilentNow die && !(s.runner die).inReset &&
      !(s.runner die).silent) fun s =>
    let s := s.modRunner die fun r => { r with silent := true }
    let s := (s.setHealth (runnerUid die) 4).urged Code.runnerSilent (be 2 (runnerUid die))
    if s.hang.ceiling < 2 then s.holdEscalation 2 else s.wantReset (runnerUid die) 3)

/-- TAP_SILENT (R373, R374): the cluster is unobserved; device recovery only when the ceiling is 3. -/
def execTapSilent (dt : Nat) (cluster : Nat) (s : State) : Host.Outcome State Fault Refusal :=
  let s := s.begin dt
  let b := Tab.at s.hang.beats cluster BeatWatch.fresh
  done (s.onlyIf (decide (cluster < 128) && s.health (tapUid cluster) = 4 &&
      decide (s.hang.hbLimitNow ≤ b.tapSilentFrames) && !b.unobserved) fun s =>
    let hang := s.hang
    let s : State := { s with hang := { hang with
      beats := Tab.mod hang.beats cluster BeatWatch.fresh fun b => { b with unobserved := true } } }
    let s := s.urged Code.tapSilent (be 2 (tapUid cluster))
    if s.hang.ceiling < 3 then s.holdEscalation 3
    else if s.recovering then s else s.startRecovery 4 (tapUid cluster))

/-! ## The procedure's steps -/

/-- HANG_WAIT_CLEAR (R380, R731): what a WAITING procedure waits for has cleared. -/
def execHangWaitClear (dt : Nat) (s : State) : Host.Outcome State Fault Refusal :=
  let s := s.begin dt
  let p := s.hang.proc
  done (s.onlyIf (s.hangRunning && p.state = 10) fun s =>
    if p.resumeWaits then s.procResume
    else if !s.dumpBusy && (s.qu.state = Qs.idle || s.qu.state = Qs.mixed || s.cutHolds p.scope) then
      s.procCut false
    else s)

/-- Tiers that the procedure collects once its quench has ended: 0 while it is still open (R381, R382). -/
def State.collectTiers (s : State) : Nat :=
  let p := s.hang.proc
  if p.noCut then 1
  else
    let whole : Bool := match p.entry with
      | none => true
      | some n => (s.entry n).status = Stat.finished || (s.entry n).status = Stat.doneLate
    let open_ : Bool := match p.entry with
      | none => false
      | some n => (s.entry n).open
    if open_ then 0
    else if whole && s.soRefusal 3 ≠ some Abort.notQuenched then
      (if s.soRefusal 3 = some Abort.busy && s.imageIds.ready then 0 else 3)
    else 1

/-- HANG_COLLECT (R317, R381, R382, R412): tiers 0 and 1 of the scope, or tier 0 alone without a cut;
phase A of device recovery collects tier 0 the same way. -/
def execHangCollect (dt : Nat) (s : State) : Host.Outcome State Fault Refusal :=
  let s := s.begin dt
  let p := s.hang.proc
  let tiers := s.collectTiers
  done (s.onlyIf (decide (p.collectAt ≤ s.pns) && !s.dumpBusy && tiers ≠ 0) fun s =>
    if s.hangRunning && p.state = 2 then
      let s := if tiers = 1 && !p.noCut then s.procNoCut else s
      (s.modProc fun p => { p with state := 3 }).ownShakeout tiers p.scope 1
    else if p.l3Phase = 1 && p.imageId = 0 then
      let s := s.ownShakeout 1 p.scope 1
      if s.dump.running.isSome then s.modProc fun p => { p with imageId := s.dump.imageId } else s
    else s)

/-! ## Beacons and ticks -/

/-- The spare's partner has been expelled or recovers while its state is loading (R457). -/
def State.partnerGone (s : State) (origin cause : Nat) : Bool :=
  s.adm.state = 2 && origin = s.adm.partner && (cause = Beacon.expel || cause = Beacon.deviceRecovery)

/-- RUNNER_NO_TICK (R424): 4 due boundaries have passed the runner's replica without a tick wave. -/
def execRunnerNoTick (dt : Nat) (die : Nat) (s : State) : Host.Outcome State Fault Refusal :=
  let s := s.begin dt
  let r := s.replica (runnerUid die)
  done (s.onlyIf (decide (die < 16) && !(s.runner die).inReset && !(s.runner die).fenced &&
      r.state ≠ .cold && s.frame.ticked &&
      decide (s.frame.nextTick + 3 * s.frame.lenNs ≤ s.replicaPns (runnerUid die))) fun s =>
    let s := s.modRunner die fun x => { x with fenced := true }
    (portsOf die).foldl (fun s p => s.modPort p fun x => { x with fenced := true }) s)

end Sys2Proof.Machine
end

