-- ==== Sys2Proof/Machine/FaultOps.lean ====
section
/-!
DEFINITION. Fault management as shared operations: the self-test, expulsion orders, the layout of
admission, stream records (R436–R457).
-/
namespace Sys2Proof.Machine

/-! ## Self-test (R437–R439) -/

/-- The march takes both reference quarters (R439): the reference is invalid, what an image held there is
OVERWRITTEN, every word zero. -/
def State.marchReference (s : State) : State :=
  let s := s.overwrite s.dump.refArea.image [1]
  { s with dump := { s.dump with refImage := 0, refArea := Area.empty }
           fm := { s.fm with marchWaits := false } }

/-- A shakeout is collecting tier 1. -/
def State.collectsOne (s : State) : Bool := s.dump.running.any fun k => bitOf k.tiers 1 && !k.sealed.contains 1

/-- The self-test starts (R437): probes of every engine, the link window, the march unless it waits. -/
def State.startTest (s : State) : State :=
  let s : State := { s with
    fm := { s.fm with testSince := s.elapsed, probeFails := 0, portsFailed := 0, marchErrors := 0
                      enginesUntested := 0, selftestResult := 0, marchWaits := s.collectsOne }
    bar := { s.bar with sweep := some 0 } }
  if s.fm.marchWaits then s else s.marchReference

/-- The march still waits for a shakeout that collects tier 1 (R439). -/
def State.marchBlocked (s : State) : Bool := s.fm.marchWaits && s.dump.running.isSome

/-- The shakeout that a march waited for has closed (R439). -/
def State.marchAfter (s : State) : State := if s.fm.marchWaits then s.marchReference else s

/-- A self-test as its parts define it: the link check takes the link-up ports, in an admission those of ADM_PORTS alone
(R437, R457). -/
def State.testSeen (s : State) (r : SelfTest) : SelfTest :=
  let up := (List.range 48).foldl (fun b p => setBit b p (s.optPort p).linkUp) (0 : BitVec 48)
  let ports := if s.fm.suspectState = 2 then up else up &&& s.adm.ports
  { r with portsFailed := (BitVec.ofNat 48 r.portsFailed &&& ports).toNat }

/-- SELFTEST_RESULT (R439). -/
def testResult (r : SelfTest) : Nat :=
  bit (r.probeFails ≠ 0) + 2 * bit (r.portsFailed ≠ 0) + 4 * bit (r.marchErrors ≠ 0)

/-- The self-test's objects (R437, R439). -/
def State.putTest (s : State) (r : SelfTest) : State :=
  let s := s.marchAfter
  { s with fm := { s.fm with probeFails := r.probeFails, enginesUntested := r.untested
                             portsFailed := BitVec.ofNat 48 r.portsFailed
                             marchErrors := r.marchErrors, selftestResult := testResult r } }

/-- The self-test begins in SUSPECT (R436). -/
def State.suspectTest (s : State) : State :=
  State.startTest { s with fm := { s.fm with suspectState := 2 } }

/-! ## Expulsion orders (R442–R444) -/

/-- Signatures of an order that count: valid, under distinct provisioned keys (R444). -/
def State.orderSignatures (s : State) (o : List Byte) : Nat :=
  let n := fieldBe o 48 1
  let good := (List.range n).filter fun i =>
    let at_ := 52 + 100 * i
    let key := s.lc.mgrKeys.getD (fieldBe o at_ 1) []
    !key.isEmpty && Config.ecdsaVerify key (o.take 48) (slice o (at_ + 4) 96)
  ((good.map fun i => fieldBe o (52 + 100 * i) 1).eraseDups).length

/-- Why an order is refused, in the order of R444. -/
def State.orderRefusal (s : State) (o : List Byte) : Option Nat :=
  let n := fieldBe o 48 1
  let kind := fieldBe o 1 1
  if fieldBe o 0 1 ≠ 1 ∨ ¬ (kind = 1 ∨ kind = 2) ∨ ¬ (3 ≤ n ∧ n ≤ 5) ∨ o.length ≠ 52 + 100 * n then
    some Abort.valueRange
  else if fieldBe o 8 8 ≠ s.fuses.serial then some Abort.notTarget
  else if fieldBe o 4 4 ≤ s.fm.fenceSeq then some Abort.replayed
  else if fieldBe o 24 8 < s.pns ∨ fieldBe o 16 8 + 60000000000 < fieldBe o 24 8 then some Abort.expired
  else if s.orderSignatures o < 3 then some Abort.quorum
  else none

/-- What an accepted EXPEL ends (R429, R445): hang procedure, device recovery, admission, SUSPECT. -/
def State.expelEnds (s : State) : State :=
  let s := if s.hangRunning then s.endProcedure 6 else s
  let s := if s.recovering then
      let k := s.hang.proc.l3Phase
      let s := s.modProc fun p => { p with state := 0, l3Phase := 0, result := 6, endPns := s.pns }
      State.urged { s with hang := { s.hang with l3Failed := true }, fm := { s.fm with markPhase := 1 } }
        Code.l3Failed (be 1 k)
    else s
  let s := (s.modProc fun p => { p with queue := [] }).admFail 7
  if s.fm.suspectState = 0 then s else s.endSuspect.logged Code.suspectCleared []

/-- An EXPEL is accepted (R445, R448). -/
def State.acceptExpel (s : State) (o : List Byte) : State :=
  let seq := fieldBe o 4 4
  let reason := fieldBe o 32 4
  if s.fm.fenceState ≠ 0 then
    let s := State.persist { s with fm := { s.fm with fenceSeq := seq } }
    s.urged Code.expelFenced (be 4 seq ++ be 4 reason ++ be 4 s.fm.expelImage)
  else
    let s := s.beacon Beacon.expel
    let s := State.persist { s with fm := { s.fm with
      fenceState := 1, fenceSeq := seq, expelPhase := 1, expelAt := s.pns, expelReason := reason
      expelEntry := none, expelNoCut := false, expelImage := 0 } }
    let s := (s.cancelCuts.expelEnds).soAbort
    { s with dump := { s.dump with waiting := none } }

/-- A RELEASE is accepted (R448, R449). -/
def State.acceptRelease (s : State) (o : List Byte) : State :=
  let seq := fieldBe o 4 4
  let was := s.fm.fenceState
  let s := State.persist { s with fm := { s.fm with fenceSeq := seq } }
  let s := if was = 0 then s
    else
      let s : State := { s with
        fm := { s.fm with fenceState := 0, fencePns := 0, expelPhase := 0 }
        adm := { s.adm with state := 0 } }
      s.persist.liftFence
  s.urged Code.fenceReleased (be 4 seq)

/-- A write of EXPEL_ORDER (R442–R448): a refused order is logged. -/
def State.orderWrite (s : State) (o : List Byte) : Reply :=
  match s.orderRefusal o with
  | some code => ⟨s.logged Code.expelRefused (be 4 (fieldBe o 4 4) ++ be 1 code), code, []⟩
  | none => if fieldBe o 1 1 = 1 then (s.acceptExpel o).accept else (s.acceptRelease o).accept

/-! ## Layout (R450–R452) -/

/-- Logical cores of a die that the spare map holds (R451). -/
def State.dieCores (s : State) (die : Nat) : Nat :=
  1024 - ((List.range 32).map fun k => ((s.row (die * 32 + k)).map.filter fun m => m = 0xFF).length).sum

/-- What a layout lacks (R452): total, per die, reserve. -/
def State.layoutShort (s : State) : Nat × List Nat × Nat :=
  let b := s.adm.layout
  let t1 := fieldBe b 36 8 - s.dump.reserveSize
  let want := fieldBe b 44 8
  let t2 := if s.dump.tier2Reserve then want - s.dump.reserveSizeT2 else want
  (fieldBe b 2 2 - s.activeCores, (List.range 16).map fun d => fieldBe b (4 + 2 * d) 2 - s.dieCores d,
    Nat.max t1 t2)

/-- The layout fits (R451). -/
def State.layoutFits (s : State) : Bool :=
  let x := s.layoutShort
  x.1 = 0 && x.2.1.all (fun n => n = 0) && x.2.2 = 0

/-- Record the shortfall (R452). -/
def State.putShort (s : State) : State :=
  let x := s.layoutShort
  let dies := (List.range 16).foldl (fun b d => setBit b d (decide (0 < x.2.1.getD d 0))) (0 : BitVec 16)
  { s with adm := { s.adm with shortTotal := x.1, shortDies := dies, shortDieCores := x.2.1.sum
                               shortReserve := x.2.2 } }

/-! ## Stream records (R454–R456) -/

/-- A stream record of R354 with TIER 3, and whether its CRC matches. -/
def streamRec (l : List Byte) : Option StreamRec :=
  let n := fieldLe l 16 4
  if 32 + n ≤ l.length ∧ fieldLe l 0 2 = 0x5244 ∧ fieldLe l 5 1 = 3 then
    let stored := slice l 32 n
    let data := if fieldLe l 6 1 = 0 then stored else (unzrun n stored).flatMap (le 8)
    some { type := fieldLe l 4 1, sub := fieldLe l 8 4, payload := fit (fieldLe l 12 4) data
           crcOk := fieldLe l 28 4 = crc32c (l.take 28 ++ stored) }
  else none

/-- A record that the partner's hub sends itself: ADM_OPEN or ADM_END (R454). -/
def streamOctets (type sub : Nat) (payload : List Byte) : List Byte :=
  Rec.octets { uid := 0, type := type, tier := 3, coding := 0, state := 0, sub := sub
               payloadLen := payload.length, stored := payload, reason := 0, flags := 0, readPnsLo := 0 }

/-- Link-up ports of ADM_PORTS whose peer is ADM_PARTNER (R455). -/
def State.admLinks (s : State) : List Nat :=
  s.linkUpPorts.filter fun p => s.adm.ports.getLsbD p &&
    ((s.timePort p).offer.any fun o => o.senderId = s.adm.partner)

/-- A record has arrived (R457): the stall limit counts from it. -/
def State.admHeard (s : State) : State := { s with adm := { s.adm with lastFrame := s.frame.number } }

/-- A record whose CRC fails (R456). -/
def State.admBadCrc (s : State) (die : Nat) : State :=
  State.logged { s with adm := { s.adm with crcErrors := inc32 s.adm.crcErrors } } Code.admRecordCrc (be 1 die)

/-- A destination range meets a reserve region or the stack's end (R457). -/
def State.destBad (s : State) (addr n : Nat) : Bool :=
  decide (stackBytes < addr + n) || rangesMeet addr n s.dump.reserveBase s.dump.reserveSize ||
    (s.dump.tier2Reserve && rangesMeet addr n s.dump.reserveBaseT2 s.dump.reserveSizeT2)

/-- A runner has written a record: its sum, its mirror at the partner die, and the counts (R24, R456). -/
def State.admCount (s : State) (die bytes : Nat) (payload : List Byte) : State :=
  let a := s.adm
  let more (n : Nat) : Nat := (n + partOf payload) % 2 ^ 64
  { s with adm := { a with
      written := true, bytes := add64 a.bytes bytes, records := inc32 a.records
      sums := Tab.mod a.sums die 0 more, mirrors := Tab.mod a.mirrors (die ^^^ 8) 0 more } }

/-- Name a lane-3 wave at least 2 µs ahead, at which each runner adds its sum (R457). -/
def State.admWave (s : State) (second : Bool) : State :=
  let wave := roundUp (s.pns + 2000) 64
  let s : State := { s with adm := { s.adm with wave := some wave, second := second } }
  (List.range 16).foldl (fun s d => s.emit .laneThree d (be 8 (wave / 64) ++ be 8 (Tab.at s.adm.sums d 0))) s

/-- Stacked memory with a range fettled. -/
def Mem.clear (m : Mem) (a n : Nat) : Mem := m.filter fun c => !(decide (a ≤ c.1) && decide (c.1 < a + n))

end Sys2Proof.Machine
end

