-- ==== Sys2Proof/Machine/FaultMgmt.lean ====
section
/-!
DEFINITION. The commands of fault management: step marks, liveness and SUSPECT, expulsion, the close of a
shakeout and what hangs on it, beacons (R402, R421, R427–R448).
-/
namespace Sys2Proof.Machine

/-! ## Step marks -/

/-- Contexts that a step boundary re-admits (R402, R405): the procedure's INNOCENT and NOT_REPLAYED
suspects, and those of clusters back in service; one still on its way waits for the next boundary. -/
def State.readmitStep (s : State) : State :=
  let beyond : Bool := s.hangRunning && s.hang.proc.state = 7
  let own := if beyond then
      (s.hang.proc.suspects.filter fun x => x.verdict = 1 || x.verdict = 3).map Suspect.ctx
    else []
  let all := (own ++ s.hang.reset.readmit).eraseDups
  let later := all.filter fun c =>
    let st := s.ctxState c
    st = Cx.removing || st = Cx.draining || st = Cx.replaying || s.queuedRemoval c
  let s := (s.modReset fun r => { r with readmit := later }).readmit all
  if beyond then (s.endProcedure s.hang.proc.outcome).nextProcedure else s

/-- The admitting mark (R457). -/
def State.admitStep (s : State) (step : Nat) : State :=
  let a := s.adm
  if a.state = 4 ∧ (a.atStep = 0 ∨ a.atStep = step) then
    if !s.layoutFits then s.putShort.admFail 2
    else if s.pins.stopHolds then s
    else
      match s.enterOwn Act.resume (s.fm.markPns + 4000) 0 wholePackage with
      | (s, some _) =>
        State.told { s with adm := { s.adm with state := 5, entry := none } } Code.admDone (be 4 a.records)
      | (_, none) => s
  else s

/-- The step boundary's remaps (R16, R17), and what they change in the pending copies of traced slots
(R538). -/
def State.mapMark (s : State) : State :=
  let t := s.mapStep
  if s.rowsDue.isEmpty then t else t.traceFollow

/-- STEP_MARK (R16, R17, R402, R427–R429, R457, R538, R749): three waves with one word are accepted. The command
stands at the third of them. -/
def execStepMark (dt : Nat) (w0 w1 w2 : Word32) (s : State) : Host.Outcome State Fault Refusal :=
  let s := s.begin dt
  let w := w0.toNat
  done (if w0 = w1 ∧ w1 = w2 then
      let s : State := { s with fm := { s.fm with
        stepMark := w % 2 ^ 30, markPhase := w / 2 ^ 30, markPns := s.pns / 64 * 64 - 128 } }
      (s.mapMark.readmitStep).admitStep (w % 2 ^ 30)
    else s.logged Code.stepMarkBad (be 4 w ++ be 4 w1.toNat ++ be 4 w2.toNat))

/-- JOB_VIEW_EXPIRE (R433). -/
def execJobViewExpire (dt : Nat) (s : State) : Host.Outcome State Fault Refusal :=
  let s := s.begin dt
  done (s.onlyIf (s.fm.jobView ≠ 0 && decide (s.fm.jobViewAt + 1024 ≤ s.frame.number)) fun s =>
    { s with fm := { s.fm with jobView := 0 } })

/-! ## SUSPECT -/

/-- SUSPECT_ENTER (R435, R436). -/
def execSuspectEnter (dt : Nat) (s : State) : Host.Outcome State Fault Refusal :=
  let s := s.begin dt
  done (s.onlyIf (s.fm.suspectState = 0 && decide (s.fm.disagreeLimit ≤ s.fm.disagree)) fun s =>
    let s : State := { s with fm := { s.fm with
      suspectState := 1, suspectPns := s.pns, suspectImage := 0, agreeFrames := 0 } }
    (s.urged Code.suspectEntered (be 1 s.hubView ++ be 1 s.fm.jobView)).beacon Beacon.suspect)

/-- SUSPECT's own shakeout runs or waits for its IMAGE_ID. -/
def State.suspectDumping (s : State) : Bool :=
  (s.dump.running.isSome && s.soImage.any fun g => g.trigger = 3) || s.dump.waiting.any fun w => w.1 = 3

/-- SUSPECT_DUMP (R436). -/
def execSuspectDump (dt : Nat) (s : State) : Host.Outcome State Fault Refusal :=
  let s := s.begin dt
  done (s.onlyIf (s.fm.suspectState = 1 && decide (s.fm.suspectPns + 1000 ≤ s.pns) && !s.suspectDumping) fun s =>
    if s.dumpBusy then (s.logged Code.suspectNoDump []).suspectTest
    else s.ownShakeout 1 (BitVec.allOnes 128) 3)

/-- The link window of 100 ms has run, when there is a link to check (R437). -/
def State.testRipe (s : State) : Bool :=
  s.linkUpPorts.isEmpty || decide (s.fm.testSince + 100000000 * Config.stepsPerNs ≤ s.elapsed)

/-- The report of a self-test (R436). -/
def State.suspectReport (s : State) : State :=
  let f := s.fm
  s.urged Code.suspectReport (be 1 s.hubView ++ be 1 f.jobView ++ be 2 f.disagree ++ be 1 f.selftestResult ++
    be 4 f.probeFails ++ be 6 f.portsFailed.toNat ++ be 4 f.marchErrors ++ be 4 f.enginesUntested ++
    be 4 f.suspectImage)

/-- The cut of LOAD (R457): the one in force when it holds every cluster in service, else a QUENCH of its
own; without a cut the admission fails. -/
def State.admCut (s : State) : State :=
  let scope := (List.range 128).foldl (fun b c => setBit b c (!s.clusterRouted c)) (0 : BitVec 128)
  let s : State := { s with adm := { s.adm with
    state := 2, opened := false, lastFrame := s.frame.number, entry := none } }
  if s.cutHolds scope then s
  else
    match s.enterOwn Act.quench (s.earliest Act.quench + 2000) 2 (clustersOf (BitVec.allOnes 128)) with
    | (s, some n) => { s with adm := { s.adm with entry := some n } }
    | (s, none) => s.admFail 8

/-- The self-test of admission ends (R457). -/
def State.admTested (s : State) (r : SelfTest) : State :=
  if testResult r ≠ 0 then s.admFail 1
  else if s.layoutFits then s.admCut
  else s.putShort.admFail 2

/-- SELF_TEST_END (R436–R439, R457). -/
def execSelfTestEnd (dt : Nat) (results : SelfTest) (s : State) : Host.Outcome State Fault Refusal :=
  let s := s.begin dt
  done (s.onlyIf ((s.fm.suspectState = 2 || s.adm.state = 1) && s.testRipe && !s.marchBlocked) fun s =>
    let results := s.testSeen results
    let s := s.putTest results
    if s.fm.suspectState = 2 then
      State.suspectReport { s with fm := { s.fm with suspectState := 3, agreeFrames := 0 } }
    else s.admTested results)

/-- SUSPECT_CLEARED (R440). -/
def execSuspectCleared (dt : Nat) (s : State) : Host.Outcome State Fault Refusal :=
  let s := s.begin dt
  done (s.onlyIf (s.fm.suspectState = 3 && decide (s.fm.disagreeLimit ≤ s.fm.agreeFrames)) fun s =>
    s.endSuspect.logged Code.suspectCleared [])

/-- What a write of SuspectCmdClear does, and its answer. -/
def State.cmdSuspectCmdClear (s : State) : Reply :=
  if s.fm.suspectState ≠ 3 then s.refuse Abort.busy else s.endSuspect.accept

/-- SUSPECT_CMD CLEAR (R440). -/
def execSuspectCmdClear (dt : Nat) (req : Req) (s : State) : Host.Outcome State Fault Refusal :=
  done ((s.begin dt).serve req 0xB021 1 .write fun _ s => s.cmdSuspectCmdClear)

/-! ## Expulsion -/

/-- EXPEL (R442–R445, R448). -/
def execExpel (dt : Nat) (req : Req) (order : List Byte) (s : State) : Host.Outcome State Fault Refusal :=
  done ((s.begin dt).serve req 0xB010 0 .blkWrite fun _ s => s.orderWrite order)

/-- EXPEL_RELEASE (R442–R444, R448). -/
def execExpelRelease (dt : Nat) (req : Req) (order : List Byte) (s : State) : Host.Outcome State Fault Refusal :=
  done ((s.begin dt).serve req 0xB010 0 .blkWrite fun _ s => s.orderWrite order)

/-- EXPEL_PORT_FENCE (R445, R447): 4 µs after the acceptance. -/
def execExpelPortFence (dt : Nat) (s : State) : Host.Outcome State Fault Refusal :=
  let s := s.begin dt
  done (s.onlyIf (s.fm.expelPhase = 1 && decide (s.fm.expelAt + 4000 ≤ s.pns)) fun s =>
    let s := s.fencePorts true
    State.persist { s with fm := { s.fm with fenceState := 2, fencePns := s.pns, expelPhase := 2 } })

/-- No cut for the expulsion (R445). -/
def State.expelWithoutCut (s : State) : State :=
  State.logged { s with fm := { s.fm with expelNoCut := true, expelPhase := 3, expelCutAt := s.pns, expelEntry := none } }
    Code.expelNoCut (be 4 s.fm.fenceSeq)

/-- EXPEL_CUT (R445): once QU_STATE has settled. -/
def execExpelCut (dt : Nat) (s : State) : Host.Outcome State Fault Refusal :=
  let s := s.begin dt
  let settled : Bool := s.qu.state = Qs.idle || s.qu.state = Qs.mixed || s.qu.state = Qs.quenched
  done (s.onlyIf (s.fm.expelPhase = 2 && settled) fun s =>
    if s.qu.state = Qs.quenched then
      { s with fm := { s.fm with expelPhase := 3, expelCutAt := s.pns, expelEntry := none } }
    else
      let time := s.earliest Act.quench
      match s.enterOwn Act.quench time 0 wholePackage with
      | (s, some n) => { s with fm := { s.fm with expelPhase := 3, expelCutAt := time, expelEntry := some n } }
      | (s, none) => s.expelWithoutCut)

/-- The expulsion's own QUENCH is still open, or has ended without a cut. -/
def State.expelEntryState (s : State) : Bool × Bool :=
  match s.fm.expelEntry with
  | none => (false, false)
  | some n =>
    let e := s.entry n
    (e.open, !e.open && e.status ≠ Stat.finished && e.status ≠ Stat.doneLate)

/-- EXPEL_COLLECT (R317, R445): the tiers of SO_TIERS, or tier 0 without a cut. -/
def execExpelCollect (dt : Nat) (s : State) : Host.Outcome State Fault Refusal :=
  let s := s.begin dt
  let e := s.expelEntryState
  done (s.onlyIf (s.fm.expelPhase = 3 && decide (s.fm.expelCutAt + 2000 ≤ s.pns) && !s.dumpBusy && !e.1) fun s =>
    let lost : Bool := e.2 || s.soRefusal s.dump.tiers = some Abort.notQuenched
    let s := if lost && !s.fm.expelNoCut then s.expelWithoutCut else s
    let tiers := if s.fm.expelNoCut then 1 else s.dump.tiers
    State.ownShakeout { s with fm := { s.fm with expelPhase := 4 } } tiers (BitVec.allOnes 128) 2)

/-! ## The close of a shakeout -/

/-- The expulsion's image closes (R445). -/
def State.expelClosed (s : State) (g : Image) : State :=
  if s.fm.expelPhase = 4 ∧ g.trigger = 2 then
    State.urged { s with fm := { s.fm with expelPhase := 0, expelImage := g.id } } Code.expelFenced
      (be 4 s.fm.fenceSeq ++ be 4 s.fm.expelReason ++ be 4 g.id)
  else s

/-- SUSPECT's image closes (R436). -/
def State.suspectClosed (s : State) (g : Image) : State :=
  if s.fm.suspectState = 1 ∧ g.trigger = 3 then
    State.suspectTest { s with fm := { s.fm with suspectImage := g.id } }
  else s

/-- SHAKEOUT_CLOSE (R316, R351, R359, R382, R386, R436, R439, R445). -/
def execShakeoutClose (dt : Nat) (s : State) : Host.Outcome State Fault Refusal :=
  let s := s.begin dt
  done (match s.soImage with
    | none => s
    | some g =>
      s.onlyIf s.soClosable fun s =>
        let s := s.soClose.marchAfter
        (((s.procClosed g).expelClosed g).suspectClosed g).startWaiting)

/-! ## Beacons -/

/-- A beacon that arrives is well formed (R417). -/
def beaconFits (b : List Byte) : Bool :=
  b.length = 32 && fieldBe b 0 1 / 16 = 1 && fieldBe b 28 4 = crc32c (b.take 28)

/-- BEACON_RECEIVE (R417, R421, R457): an unseen beacon goes on, and onto the wave. -/
def execBeaconReceive (dt : Nat) (port : Nat) (beacon : List Byte) (s : State) :
    Host.Outcome State Fault Refusal :=
  let s := s.begin dt
  let origin := fieldBe beacon 8 8
  let seq := fieldBe beacon 2 2
  let cause := fieldBe beacon 24 2
  done (s.onlyIf (beaconFits beacon && decide (port < 48) && (s.optPort port).linkUp) fun s =>
    let seen := s.seenNow
    if seen.any fun x => x.1 = origin && x.2.1 = seq then { s with hang := { s.hang with seenBeacons := seen } }
    else
      let s : State := { s with hang := { s.hang with seenBeacons := seen ++ [(origin, seq, s.elapsed)] } }
      let s := s.emitAll .beacon (s.linkUpPorts.filter fun p => p ≠ port) beacon
      let s := s.launchBeacon (bitOf (fieldBe beacon 1 1) 0) cause
      if s.partnerGone origin cause then s.admFail 3 else s)

end Sys2Proof.Machine
end

