-- ==== Sys2Proof/Machine/Admit.lean ====
section
/-!
DEFINITION. The commands of spare admission (R449–R459).
-/
namespace Sys2Proof.Machine

/-- Why BEGIN is refused, in the order of R458. -/
def State.beginRefusal (s : State) : Option Nat :=
  let st := s.adm.state
  if (1 ≤ st ∧ st ≤ 4) ∨ st = 6 ∨ st = 8 ∨ s.hangRunning ∨ s.hang.reset.active ∨ s.recovering then some Abort.busy
  else if s.fm.fenceState ≠ 0 then some Abort.fenced
  else if s.pod.servo.state ≠ 2 then some Abort.notLocked
  else if s.adm.partner = 0 ∨ ¬ admLayoutOk s.adm.layout then some Abort.valueRange
  else none

/-- What a write of AdmBegin does, and its answer. -/
def State.cmdAdmBegin (s : State) : Reply :=
  match s.beginRefusal with
  | some code => s.refuse code
  | none =>
    let s : State := { s with adm := { s.adm with
      state := 1, bytes := 0, records := 0, crcErrors := 0, sealWanted := 0, sealGot := 0
      shortTotal := 0, shortDies := 0, shortDieCores := 0, shortReserve := 0, opened := false, sums := [], mirrors := []
      endCount := 0, wave := none, second := false, entry := none, written := false, regions := [] } }
    s.startTest.accept

/-- ADM_CMD BEGIN (R437, R457, R458). -/
def execAdmBegin (dt : Nat) (req : Req) (s : State) : Host.Outcome State Fault Refusal :=
  done ((s.begin dt).serve req 0xB000 0 .write fun _ s => s.cmdAdmBegin)

/-- What a write of AdmServe does, and its answer. -/
def State.cmdAdmServe (s : State) : Reply :=
  if s.adm.state ≠ 0 then s.refuse Abort.busy
  else if s.adm.partner = 0 ∨ ¬ admSourceOk s.adm.source then s.refuse Abort.valueRange
  else
    let s : State := { s with adm := { s.adm with
      state := 8, bytes := 0, records := 0, sealWanted := 0, served := 0, serveSeal := 0 } }
    (s.emitAll .admStream s.admLinks
      (streamOctets 0x3E 0 (le 8 s.fuses.serial ++ le 8 s.adm.partner))).accept

/-- ADM_CMD SERVE (R454, R455, R458): the stream opens on the links to the partner. -/
def execAdmServe (dt : Nat) (req : Req) (s : State) : Host.Outcome State Fault Refusal :=
  done ((s.begin dt).serve req 0xB000 0 .write fun _ s => s.cmdAdmServe)

/-- The stream ends with ADM_END (R454, R455). -/
def State.endStream (s : State) (count sum status bytes : Nat) : State :=
  let s := s.emitAll .admStream s.admLinks (streamOctets 0x3F count (le 8 sum ++ le 8 status ++ le 8 bytes))
  { s with adm := { s.adm with state := 0, bytes := bytes, records := count, sealWanted := sum } }

/-- What a write of AdmAbort does, and its answer. -/
def State.cmdAdmAbort (s : State) : Reply :=
  if s.adm.state = 8 then
    let v := s.freeNow
    (s.drawn.endStream (v % 2 ^ 32) (v / 2 ^ 32 % 2 ^ 64) 1 (v / 2 ^ 96 % 2 ^ 64)).accept
  else (s.admFail 6).accept

/-- ADM_CMD ABORT (R457): what an aborted stream's ADM_END counts is open (log entry 9). -/
def execAdmAbort (dt : Nat) (req : Req) (s : State) : Host.Outcome State Fault Refusal :=
  done ((s.begin dt).serve req 0xB000 0 .write fun _ s => s.cmdAdmAbort)

/-- ADM_OPEN_RECEIVE (R456). -/
def execAdmOpenReceive (dt : Nat) (die : Nat) (record : List Byte) (s : State) :
    Host.Outcome State Fault Refusal :=
  let s := s.begin dt
  done (match streamRec record with
    | none => s
    | some r =>
      s.onlyIf (s.adm.state = 2 && r.type = 0x3E && decide (die < 16)) fun s =>
        let s := s.admHeard
        if !r.crcOk then s.admBadCrc die
        else if fieldLe r.payload 0 8 = s.adm.partner ∧ fieldLe r.payload 8 8 = s.fuses.serial then
          { s with adm := { s.adm with opened := true } }
        else s)

/-- A core's image is written into the local SRAM of its logical core, if the map holds it (R456,
R457). -/
def State.admCore (s : State) (die : Nat) (r : StreamRec) : State :=
  match if r.sub < 16384 then s.logicalUid r.sub else none with
  | none => s.admFail 2
  | some uid => (s.emit .admStream (65536 + uid) r.payload).admCount die r.payload.length r.payload

/-- A region record is written at its destination (R456, R457). -/
def State.admRegion (s : State) (die : Nat) (r : StreamRec) : State :=
  let addr := fieldLe r.payload 0 8
  let data := r.payload.drop 8
  let dest := r.sub % 16
  if s.destBad addr data.length then s.admFail 9
  else
    let s := (s.stackWrite dest addr data).admCount die data.length r.payload
    { s with adm := { s.adm with regions := s.adm.regions ++ [(dest, addr, data.length)] } }

/-- ADM_RECORD_RECEIVE (R456, R457). -/
def execAdmRecordReceive (dt : Nat) (die : Nat) (record : List Byte) (s : State) :
    Host.Outcome State Fault Refusal :=
  let s := s.begin dt
  done (match streamRec record with
    | none => s
    | some r =>
      s.onlyIf (s.adm.state = 2 && s.adm.opened && decide (die < 16) && (r.type = 0x30 || r.type = 0x31)) fun s =>
        let s := s.admHeard
        if !r.crcOk then s.admBadCrc die
        else if r.type = 0x30 then s.admCore die r
        else s.admRegion die r)

/-- ADM_END_RECEIVE (R456, R457). -/
def execAdmEndReceive (dt : Nat) (record : List Byte) (s : State) : Host.Outcome State Fault Refusal :=
  let s := s.begin dt
  done (match streamRec record with
    | none => s
    | some r =>
      s.onlyIf (s.adm.state = 2 && s.adm.opened && r.type = 0x3F) fun s =>
        let s := s.admHeard
        if !r.crcOk then s.admBadCrc 0
        else
          let s : State := { s with adm := { s.adm with sealWanted := fieldLe r.payload 0 8, endCount := r.sub } }
          if fieldLe r.payload 8 8 ≠ 0 then s.admFail 3
          else State.admWave { s with adm := { s.adm with state := 3 } } false)

/-- ADM_STALL (R457): 16 frames without a record. -/
def execAdmStall (dt : Nat) (s : State) : Host.Outcome State Fault Refusal :=
  let s := s.begin dt
  done (s.onlyIf (s.adm.state = 2 && decide (s.adm.lastFrame + 16 ≤ s.frame.number)) fun s => s.admFail 3)

/-- ADM_SEAL_RESULT (R33, R457): the lane-3 sum, 768 ns after its wave. -/
def execAdmSealResult (dt : Nat) (sum : Nat) (s : State) : Host.Outcome State Fault Refusal :=
  let s := s.begin dt
  done (s.onlyIf (s.adm.state = 3 && (s.adm.wave.any fun w => decide (w + 768 ≤ s.pns))) fun s =>
    let s : State := { s with adm := { s.adm with sealGot := sum % 2 ^ 64, wave := none } }
    let a := s.adm
    if a.crcErrors ≠ 0 ∨ a.endCount ≠ a.records then s.admFail 4
    else if a.sealGot = a.sealWanted then
      State.logged { s with adm := { s.adm with state := 4 } } Code.admVerified (be 4 a.records)
    else if a.second then s.admFail 5
    else s.admWave true)

/-- ADM_FETTLE_DONE (R457): the governor's job, while FETTLE is admitted, is done: the regions read zero, and ADM_STATE reads FAILED. -/
def execAdmFettleDone (dt : Nat) (s : State) : Host.Outcome State Fault Refusal :=
  let s := s.begin dt
  done (s.onlyIf (s.adm.state = 6 && s.power.admitted.getLsbD 3) fun s =>
    let m := s.adm.regions.foldl (fun m x => Mem.clear m (stackAddr x.1 x.2.1) x.2.2) s.dram
    State.admFailed { s with dram := m, adm := { s.adm with regions := [], written := false } })

/-- ADM_SERVE_DONE (R454, R455): after the last source, or one that cannot be read. -/
def execAdmServeDone (dt : Nat) (complete : Bool) (sum bytes records : Nat) (s : State) :
    Host.Outcome State Fault Refusal :=
  let s := s.begin dt
  done (s.onlyIf (s.adm.state = 8) fun s => s.endStream records sum (bit (!complete)) bytes)

end Sys2Proof.Machine
end

