-- ==== Sys2Proof/Machine/Jobs.lean ====
section
/-!
DEFINITION. The hub's background jobs: the accounting period, the admission in slot 2 and at the starts of
slots 3–14 (R565–R569, R675). Energies are in 1/160 nJ: 0.1 W for a sixteenth of a nanosecond.
-/
namespace Sys2Proof.Machine

/-- Power charged, in 0.1 W. -/
def jobPower (j : Nat) : Nat := if j = Job.tier2 then 90 else if j = Job.fettle then 40 else 25

/-- Orders of the test bar are allowed (R472): no shakeout collects tier 1 or tier 2, no device recovery
runs. -/
def State.ordersAllowed (s : State) : Bool :=
  s.hang.proc.l3Phase = 0 &&
    !(s.dump.running.any fun k => (bitOf k.tiers 1 && !k.sealed.contains 1) || (bitOf k.tiers 2 && !k.sealed.contains 2))

/-- A job is pending: its work stands. -/
def State.jobPending (s : State) (j : Nat) : Bool :=
  if j = Job.traceDrain then
    s.trace.enable ≠ 0 || s.trace.sinks.any fun k => !k.2.heldLines.isEmpty
  else if j = Job.tier2 then s.dump.status = 3
  else if j = Job.sampling then s.ordersAllowed
  else s.fettleDue

/-- The jobs in the order of PW_JOB_PRIORITY. -/
def State.jobOrder (s : State) : List Nat :=
  (List.range 4).map fun v => (s.power.priority.findIdx? fun p => p = v).getD v

/-- The fettling of a lifecycle change goes first, then the jobs that have starved (R569, R675). -/
def State.jobOrderSlot2 (s : State) (starved : List Nat) : List Nat :=
  let rest := s.jobOrder.filter fun j => !(j = Job.fettle && s.lcFettleDue)
  (if s.lcFettleDue then [Job.fettle] else []) ++ (rest.filter fun j => starved.contains j) ++
    rest.filter fun j => !starved.contains j

/-- Admit a job from the start of `slot`, if its energy fits (R565, R566). -/
def State.admitJob (s : State) (slot j : Nat) : State :=
  let p := s.power
  let len := s.frame.lenNs
  if !s.jobPending j || s.jobAdmitted j then s
  else if j = Job.sampling then
    let first := Nat.max slot 3
    let n := Nat.min (15 - first) (p.credit.toNat / (jobPower j * len))
    if n = 0 then s
    else
      { s with power := { p with
          admitted := setBit p.admitted j true, credit := p.credit - (n * jobPower j * len : Nat)
          grantedSlots := ((List.range n).map fun k => 2 ^ (first + k)).sum } }
  else
    let e := jobPower j * (18 - slot) * len
    if (e : Int) ≤ p.credit then
      { s with power := { p with admitted := setBit p.admitted j true, credit := p.credit - (e : Int) } }
    else s

/-- What starts when its job is admitted: tier 2 goes on (R334), contexts are fettled (R396). -/
def State.jobsBegin (s : State) (before : BitVec 4) : State :=
  let new (j : Nat) : Bool := s.jobAdmitted j && !before.getLsbD j
  let s := if new Job.tier2 then (List.range 16).foldl State.feedDie s else s
  if new Job.fettle then s.fettleContexts else s

/-- The period begins: the hub's credit (R565), every job of the period before ended. -/
def State.newPeriod (s : State) (at_ : Nat) : State :=
  let p := s.power
  { s with power := { p with
      periodStart := at_, credit := (((10 * p.hubCap - 65) * s.frame.lenNs * 16 : Nat) : Int)
      admitted := 0, grantedSlots := 0 } }

/-- The ages of the jobs after a decision, and the starved that were taken first (R569). -/
def State.ageJobs (s : State) (starved : List Nat) : State :=
  let p := s.power
  { s with power := { p with
      ages := (List.range 4).map fun j =>
        if s.jobPending j && !s.jobAdmitted j then p.ages.getD j 0 + 1 else 0
      starved := (List.range 4).map fun j => p.starved.getD j 0 + bit (starved.contains j) } }

/-- JOB_ADMISSION (R208, R566, R569): slot 2 has begun and its decision is still to be taken. -/
def execJobAdmission (dt : Nat) (s : State) : Host.Outcome State Fault Refusal :=
  let s := s.begin dt
  done (s.onlyIf (s.inSlot 2 && s.power.periodStart ≠ s.slotTwo) fun s =>
    let before := s.power.admitted
    let s := s.newPeriod s.slotTwo
    let starved := (List.range 4).filter fun j =>
      s.jobPending j && decide (s.power.ageLimit ≤ s.power.ages.getD j 0)
    let s := (s.jobOrderSlot2 starved).foldl (fun s j => s.admitJob 2 j) s
    (s.ageJobs starved).jobsBegin before)

/-- A job with no work left ends, and its energy for the remaining time returns (R567). -/
def State.endJob (slot : Nat) (s : State) (j : Nat) : State :=
  let p := s.power
  let len := s.frame.lenNs
  if s.jobAdmitted j && !s.jobPending j then
    let e := if j = Job.sampling then
        jobPower j * len * ((List.range 15).filter fun k => decide (slot ≤ k) && bitOf p.grantedSlots k).length
      else jobPower j * (18 - slot) * len
    { s with power := { p with
        admitted := setBit p.admitted j false, credit := p.credit + (e : Int)
        grantedSlots := if j = Job.sampling then 0 else p.grantedSlots } }
  else s

/-- SLOT_JOB_CHECK (R567): one of slots 3–14 has begun. -/
def execSlotJobCheck (dt slot : Nat) (s : State) : Host.Outcome State Fault Refusal :=
  let s := s.begin dt
  done (s.onlyIf (decide (3 ≤ slot) && decide (slot ≤ 14) && s.inSlot slot &&
      s.power.periodStart = s.slotTwo) fun s =>
    let before := s.power.admitted
    let s := (List.range 4).foldl (State.endJob slot) s
    let s := s.jobOrder.foldl (fun s j => s.admitJob slot j) s
    s.jobsBegin before)

end Sys2Proof.Machine
end

