-- ==== Sys2Proof/Machine/Bar.lean ====
section
/-!
DEFINITION. The test bars' commands: sampling slots, captures, second computations, self-checks, events,
quarantine and probe kernels (R468–R494).
-/
namespace Sys2Proof.Machine

/-! ## Sampling -/

/-- The credit of a frame, R × L, in tiles (R470, R471). -/
def State.frameCredit (s : State) : Rat :=
  mkRat (s.rotationCount * 1000 * s.frame.lenNs) (s.bar.rate * 1000000000)

/-- Slot 3 adds to the sampling credit, capped at twice a frame's (R471). -/
def State.addCredit (s : State) : State :=
  let c := s.frameCredit
  let sum := s.bar.credit + c
  { s with bar := { s.bar with credit := if 2 * c < sum then 2 * c else sum } }

/-- Granted slots of the frame from `slot` on. -/
def State.grantsLeft (s : State) (slot : Nat) : Nat :=
  ((List.range 15).filter fun k => decide (slot ≤ k) && bitOf s.power.grantedSlots k).length

/-- Orders that a granted slot issues (R471), before the buffer slots bound them. -/
def State.ordersDue (s : State) (slot : Nat) : Nat :=
  (s.bar.credit / (s.grantsLeft slot : Nat)).ceil.toNat

/-- A slot granted to sampling: what goes first, then the next positions (R471, R480). -/
def State.sampleSlot (s : State) (slot : Nat) : State :=
  let n := s.ordersDue slot
  let s := s.issueFirst 64
  s.issueNext 131072 n

/-- SAMPLING_SLOT (R471): a slot among 3–14 has begun. The probes of every engine (R490) go on in any of
them. -/
def execSamplingSlot (dt slot : Nat) (s : State) : Host.Outcome State Fault Refusal :=
  let s := s.begin dt
  done (s.onlyIf (decide (3 ≤ slot) && decide (slot ≤ 14) && s.slotBegun slot &&
      decide (s.bar.slotDone < s.frame.number * 16 + slot)) fun s =>
    let s : State := { s with bar := { s.bar with slotDone := s.frame.number * 16 + slot } }
    let s := if slot = 3 then s.addCredit else s
    let s := s.feedSweep 70000
    if bitOf s.power.grantedSlots slot && s.ordersAllowed then s.sampleSlot slot else s)

/-! ## Captures -/

/-- CAPTURE_RECEIVE (R476, R479, R482): a capture whose CRC fails is discarded and logged; one that a bar in
service holds is computed and compared. -/
def execCaptureReceive (dt : Nat) (capture : CaptureMsg) (s : State) : Host.Outcome State Fault Refusal :=
  let s := s.begin dt
  let m := capture
  done <| match s.bar.orders.find? fun o => o.bar = m.bar && o.slot = m.slot with
    | none => s
    | some o =>
      match Capture.ofOctets m.header m.body with
      | none =>
        ((s.dropOrder m.bar m.slot).logged Code.tbCaptureCrc (be 2 o.uid ++ be 1 o.engine)).notCompared o 6
          |>.feedSweep 70000
      | some c =>
        if c.orderId ≠ o.orderId then s
        else
          let s := s.dropOrder m.bar m.slot
          let s :=
            if c.status ≠ 0 then s.notCompared o c.status
            else if s.barState m.bar = 0 ∧ c.format ≤ 8 then s.compareTile o c m.upset
            else s.notCompared o 6
          s.feedSweep 70000

/-- CAPTURE_TIMEOUT (R479): DEADLINE + 20 µs has passed. -/
def execCaptureTimeout (dt bar slot : Nat) (s : State) : Host.Outcome State Fault Refusal :=
  let s := s.begin dt
  done <| match s.bar.orders.find? fun o => o.bar = bar && o.slot = slot with
    | none => s
    | some o =>
      if o.deadline + 20000 ≤ s.pns then ((s.dropOrder bar slot).notCompared o 6).feedSweep 70000 else s

/-! ## Second computations and self-checks -/

/-- A recheck that a bar can compute now. -/
def Recheck.ready (r : Recheck) (bar : Nat) : Bool :=
  r.secondBar = bar && (!r.sameBar || r.selfCheckPassed = some true)

/-- BAR_COMPUTE_DONE (R482, R484). -/
def execBarComputeDone (dt bar : Nat) (upset : List (Nat × Nat)) (s : State) : Host.Outcome State Fault Refusal :=
  let s := s.begin dt
  done <| match s.bar.rechecks.find? fun r => r.ready bar with
    | none => s
    | some r =>
      if s.barState bar = 0 then
        let s : State := { s with bar := { s.bar with rechecks := s.bar.rechecks.erase r } }
        (s.decideMismatch r (r.capture.compute upset)).feedSweep 70000
      else s

/-- BAR_SELF_CHECK_DONE (R482, R483). -/
def execBarSelfCheckDone (dt bar : Nat) (pass : Bool) (s : State) : Host.Outcome State Fault Refusal :=
  let s := s.begin dt
  done (s.onlyIf (decide (bar < 2) && s.barState bar = 1) fun s =>
    let waits (r : Recheck) : Bool := r.sameBar && r.secondBar = bar && r.selfCheckPassed.isNone
    if pass then
      { s.setBar bar 0 with bar := { (s.setBar bar 0).bar with
          rechecks := s.bar.rechecks.map fun r => if waits r then { r with selfCheckPassed := some true } else r } }
    else
      let due := s.bar.rechecks.filter waits
      let s := (s.setBar bar 2).logged Code.testbarFault (be 2 (coreUid bar))
      let s : State := { s with bar := { s.bar with rechecks := s.bar.rechecks.filter fun r => !waits r } }
      due.foldl State.decideFault s)

/-- SDC_STORM_CLEAR (R486): 1,024 frames without a confirmed SDC. -/
def execSdcStormClear (dt : Nat) (s : State) : Host.Outcome State Fault Refusal :=
  let s := s.begin dt
  done (s.onlyIf (s.bar.storm && decide (s.bar.lastSdc + 1024 ≤ s.frame.number)) fun s =>
    { s with bar := { s.bar with storm := false } })

/-! ## Events and quarantine -/

/-- What a write of TbEventAck does, and its answer. -/
def State.cmdTbEventAck (s : State) (seq : Nat) : Reply :=
  if s.bar.events.any fun e => e.seq = seq then
    State.accept { s with bar := { s.bar with events := s.bar.events.filter fun e => e.seq ≠ seq } }
  else s.refuse Abort.imageUnknown

/-- TB_EVENT_ACK (R487): the event is fettled. -/
def execTbEventAck (dt : Nat) (req : Req) (seq : Nat) (s : State) : Host.Outcome State Fault Refusal :=
  done ((s.begin dt).serve req 0x6010 3 .write fun _ s => s.cmdTbEventAck seq)

/-- What a write of TbQuarantineClear does, and its answer. -/
def State.cmdTbQuarantineClear (s : State) (idx : Nat) : Reply :=
  if 69632 ≤ idx then s.refuse Abort.valueRange else (s.setQuarantine idx false).accept

/-- TB_QUARANTINE_CLEAR (R485, R497). -/
def execTbQuarantineClear (dt : Nat) (req : Req) (idx : Nat) (s : State) : Host.Outcome State Fault Refusal :=
  done ((s.begin dt).serve req 0x6011 1 .write fun _ s => s.cmdTbQuarantineClear idx)

/-! ## Probe kernels -/

/-- A whole TB_PROBE_LOAD is written (R491). -/
def State.loadKernel (s : State) (bytes : List Byte) : Reply :=
  let k : Kernel := ⟨fieldBe bytes 8 4, bytes⟩
  let rest := s.bar.kernels.filter fun x => x.id ≠ k.id
  let total := (rest.map fun x => x.bytes.length).sum + bytes.length
  if 262144 < bytes.length then s.refuse Abort.tooLarge
  else if !k.ok then s.refuse Abort.valueRange
  else if 4 ≤ rest.length ∨ 524288 < total then s.refuse Abort.tooLarge
  else
    let l := if s.bar.kernels.any fun x => x.id = k.id then
        s.bar.kernels.map fun x => if x.id = k.id then k else x
      else rest ++ [k]
    State.accept { s with bar := { s.bar with kernels := l } }

/-- TB_PROBE_LOAD (R491). -/
def execTbProbeLoad (dt : Nat) (req : Req) (kernel : List Byte) (s : State) : Host.Outcome State Fault Refusal :=
  done ((s.begin dt).serve req 0x6020 0 .blkWrite fun _ s => s.loadKernel kernel)

/-- A run starts (R492): its first op is sent. -/
def State.startRun (s : State) (kernel uid engine : Nat) (onEngine : Bool) : Reply :=
  match s.kernel kernel with
  | none => s.refuse Abort.imageUnknown
  | some k =>
    if s.bar.run.any fun r => r.status = 4 then s.refuse Abort.busy
    else if onEngine ∧ ¬ (uidIsCore uid ∧ uidPresent uid ∧ engine < 4) then s.refuse Abort.unitUnknown
    else
      let n := s.bar.runSeq + 1
      let r : ProbeRun :=
        { kernel := kernel, seq := n, uid := uid, engine := engine, onEngine := onEngine, status := 4
          opsRun := 0, firstBad := 0xFF, endPns := 0, ops := List.replicate k.ops (0, 3), prevBar := []
          prevEngine := [] }
      let s : State := { s with bar := { s.bar with run := some r, runSeq := n } }
      (s.sendOp r k 0).accept

/-- PROBE_RUN_BAR (R492, mode 0). -/
def execProbeRunBar (dt : Nat) (req : Req) (kernel uid engine : Nat) (s : State) : Host.Outcome State Fault Refusal :=
  done ((s.begin dt).serve req 0x6021 0 .write fun _ s => s.startRun kernel uid engine false)

/-- PROBE_RUN_ENGINE (R492, mode 1). -/
def execProbeRunEngine (dt : Nat) (req : Req) (kernel uid engine : Nat) (s : State) :
    Host.Outcome State Fault Refusal :=
  done ((s.begin dt).serve req 0x6021 0 .write fun _ s => s.startRun kernel uid engine true)

/-- The capture of an op that an engine has run: header as the tap gave it, C_IN, C_OUT and operands. -/
def opCapture (k : Kernel) (n : Nat) (h : List Byte) (prev engine : List Nat) : Capture :=
  let c := k.cIn n prev
  let fl := fieldLe h 7 1
  let words (l : List Nat) : List Byte := (List.range 256).flatMap fun i => le 4 (l.getD i 0)
  { orderId := fieldLe h 0 2, status := 0, format := k.field n 0 1, uid := fieldLe h 4 2
    engine := fieldLe h 6 1, cInPresent := !c.isEmpty, secure := bitOf fl 1, untimed := bitOf fl 2
    injected := true, k := k.field n 2 2, ctx := fieldLe h 10 2 % 4096, epoch := fieldLe h 12 1
    instrAddr := fieldLe h 16 8, issuePns := fieldLe h 24 8
    body := (if c.isEmpty then [] else words c) ++ words engine ++ k.operands n }

/-- The order that an op's INJECT stands for in a decision (R494). -/
def State.opOrder (s : State) (r : ProbeRun) : BarOrder :=
  { bar := s.sampler.getD s.activeCore, slot := 32, orderId := s.bar.orderCounter, inject := true, uid := r.uid
    engine := r.engine, logical := (s.uidLogical r.uid).getD 0xFFFF, deadline := 0, stepMark := s.fm.stepMark
    probe := none, round := s.bar.round }

/-- OUTCOME of an op (R493): 4 not injected, 1 engine differs, 2 expected differs, 0 match. -/
def opOutcome (r : ProbeRun) (k : Kernel) (n : Nat) (injected : Bool) (engine bar : List Nat) : Nat :=
  if r.onEngine ∧ ¬ injected then 4
  else if r.onEngine ∧ engine ≠ bar then 1
  else if k.expected n bar then 0 else 2

/-- PROBE_OP_DONE (R493, R494): the op is judged; a mismatch and an op that could not be injected end the
run. -/
def execProbeOpDone (dt : Nat) (header : List Byte) (engineResult : List Nat) (upset : List (Nat × Nat))
    (s : State) : Host.Outcome State Fault Refusal :=
  let s := s.begin dt
  done <| match s.bar.run with
    | none => s
    | some r =>
      match s.kernel r.kernel with
      | none => s
      | some k =>
        if r.status ≠ 4 then s
        else
          let n := r.opsRun
          let bar := k.compute n r.prevBar upset
          let out := opOutcome r k n (header.length = 64 && fieldLe header 2 1 = 0) engineResult bar
          let ops := setAt r.ops n (crc32c (bar.flatMap (be 4)), out)
          let stop := out = 1 || out = 4
          let last := stop || n + 1 = k.ops
          let status := if out = 1 then 1 else if out = 4 then 3
            else if ¬ last then 4 else if ops.any fun o => o.2 = 2 then 2 else 0
          let r1 : ProbeRun :=
            { r with status := status, opsRun := n + 1, endPns := if last then s.pns else 0, ops := ops
                     firstBad := if out ≠ 0 ∧ r.firstBad = 0xFF then n else r.firstBad
                     prevBar := bar, prevEngine := engineResult }
          let s : State := { s with bar := { s.bar with run := some r1 } }
          let s := if out = 2 then s.logged Code.tbExpectFail (be 4 r.kernel ++ be 1 n) else s
          let s := if out = 1 then
              s.startRecheck (s.opOrder r) (opCapture k n header r.prevEngine engineResult) bar
            else s
          if last then s else s.sendOp r1 k (n + 1)

end Sys2Proof.Machine
end

