-- ==== Sys2Proof/Machine/Takeover.lean ====
section
/-!
DEFINITION. The takeover sequence from W on: the switch, the old core's reset, the cast to the runners, the
NOTIFY (R74–R86, R147, R221, R235, R265, R383, R495, R648, R657, R733).
-/
namespace Sys2Proof.Machine

/-- Run `f` in a takeover that stands at a phase, once `ns` have passed since W. -/
def State.takeoverAt (s : State) (phase ns : Nat) (f : Takeover → State → State) : State :=
  match s.hub.takeover with
  | none => s
  | some k => if k.phase = phase ∧ k.switchAt + ns * Config.stepsPerNs ≤ s.elapsed then f k s else s

/-- The step of the PNS at W in picoseconds (R76). -/
def State.switchStep (s : State) : Int :=
  psOf (mkRat ((s.standbyNow.read s.elapsed : Int) - s.tb.active.read s.elapsed) (2 ^ 48))

/-- The roles change (R74, R82): the wave source, the pins, whose keepers let go at most 100 ns later (R85), the inputs,
the mark cycles (R146, R147), the servo and its frequency (R73, R193). Calibration requests in flight are discarded. -/
def State.swapRoles (s : State) : State :=
  let old := s.activeCore
  let new := s.standbyCore
  let tb := s.tb
  let s : State := { s with
    hub := { s.hub with riserActive := !s.hub.riserActive, riserOwns := !s.hub.riserActive
                        keeperUntil := s.elapsed + 100 * Config.stepsPerNs }
    tb := { tb with active := { s.standbyNow with counting := true }, standby := tb.active
                    tickIn := tb.tickInStandby, tickInStandby := tb.tickIn }
    pod := { s.pod with servo := s.pod.shadow, shadow := s.pod.servo } }
  let s := (s.modCore old fun c => { c with gated := true }).modCore new fun c => { c with gated := false }
  let s := (s.putWire old Wire.idle).startWire new
  let s := s.setFreq s.pod.servo.freqPpb
  (Tab.keys s.units.replicas).foldl (fun s u =>
    s.modReplica u fun r => { r with firstOfSource := some new }) s

/-- The Ladle continues from the mirror: what was written after S is lost (R71, R77). An image in collection, at S or
now, goes on as the runners collect it: they send tier 0 again, both cores hear the seal reductions, and seals and headers
stand in both copies (R57, R71, R352, R359, log entry 107). -/
def Dump.fromMirror (d : Dump) (k : Takeover) : Dump :=
  let collected := [k.shakeout, d.running].filterMap fun x => x.map Shakeout.slot
  { d with slots := collected.foldl (fun l n => setAt l n (d.slots.getD n none)) k.ladle }

/-- Before SEAL_T0 every runner sends its die's tier 0 records again, to the new active core (R352). -/
def State.resendTier0 (s : State) : State :=
  match s.dump.running, s.soImage with
  | some k, some g =>
    if k.sealed.contains 0 then s
    else g.tier0.foldl (fun s r => if r.type = 1 then s else s.emit .mirror (uidDie r.uid) r.octets) s
  | _, _ => s

/-- The log store continues from the mirror (R71, R77). -/
def LogStore.fromMirror (g : LogStore) (k : Takeover) : LogStore :=
  { g with records := g.records.filter fun r => decide (r.seq < k.logNext), waiting := g.waiting.take k.logWaiting
           head := k.logHead }

/-- What the new active core holds of the store: its own mirrors. -/
def State.fromMirrors (s : State) (k : Takeover) : State :=
  { s with dump := s.dump.fromMirror k, log := s.log.fromMirror k }

/-- Open change sets and groups not yet applied are discarded; their objects are named (R72, R221). -/
def State.loseStaged (s : State) : State × List Nat :=
  let f := s.frame
  let l := (f.sets.flatMap ChangeSet.values) ++ f.groups.flatMap CommitGroup.values
  ({ s with frame := { f with sets := [], groups := [] } }, (l.map fun v => v.idx * 256 + v.sub).eraseDups)

/-- Removal casts in flight are sent again with RETRY (R383). -/
def State.reissueRemovals (s : State) : State :=
  s.hang.casts.foldl (fun s c =>
    if c.missing.isEmpty then s else s.emit .contextCast 0 (c.octets true (targetSet c.missing))) s

/-- An entry that fell due between S and W runs at W with the actual PNS (R235): the takeover itself is the role swap
that was wanted, and a step that the new active core has applied as a replica is not applied again (R77, R125, log
entry 164). -/
def State.overdueEntry (s : State) (n : Nat) : State :=
  let e := s.entry n
  if e.action = 7 || (e.action = 6 && (s.replica s.activeUid).applied.contains (e.time, deltaOf e.taken)) then
    (s.lateEntry n).completeEntry n
  else State.runPending 33 true n s

/-- PENDING entries whose TIME fell between S and W run at W (R235). -/
def State.runOverdue (s : State) (k : Takeover) : State :=
  (s.passedEntries (k.start - 1) s.pns).foldl State.overdueEntry s

/-- A stop accepted between S and W acts at W (R733). -/
def State.stopAtSwitch (s : State) (k : Takeover) : State :=
  if s.pins.quenchWaiting && decide (s.nsSince s.pins.quenchSince ≤ s.pns - k.start) then s.stopCancels.tryStop
  else s

/-- TAKEOVER_SWITCH (R74): W. -/
def execTakeoverSwitch (dt : Nat) (s : State) : Host.Outcome State Fault Refusal :=
  done ((s.begin dt).takeoverAt 0 0 fun k s =>
    let step := s.switchStep
    let old := s.activeCore
    let (s, lost) := s.loseStaged
    let s := ((s.fromMirrors k).swapRoles.emptyBar old).reissueRemovals.resendTier0
    let s := s.busesAgain
    let s := s.setHealth s.activeUid 0
    let s : State := { s with hub := { s.hub with
      takeover := some { k with phase := 1, stepPs := step, lostObjects := lost } } }
    (s.runOverdue k).stopAtSwitch k)

/-- TAKEOVER_OLD_RESET (R74, R78): W + 0.5 µs. -/
def execTakeoverOldReset (dt : Nat) (s : State) : Host.Outcome State Fault Refusal :=
  done ((s.begin dt).takeoverAt 1 500 fun k s =>
    let old := s.standbyCore
    let s := (s.coreDown old).setHealth (coreUid old) 2
    { s with hub := { s.hub with takeover := some { k with phase := 2 } } })

/-- RUNNER_ACTIVE_CAST (R74): W + 2 µs. -/
def execRunnerActiveCast (dt : Nat) (s : State) : Host.Outcome State Fault Refusal :=
  done ((s.begin dt).takeoverAt 2 2000 fun k s =>
    let uid := s.activeUid
    let s := s.emit .runnerCast 2 (le 2 uid)
    let s := (List.range 16).foldl (fun s d =>
      if (s.runner d).inReset then s else s.modRunner d fun r => { r with activeUid := uid }) s
    { s with hub := { s.hub with takeover := some { k with phase := 3 } } })

/-- Transfers that were open end with HUB_TAKEOVER (R648). -/
def State.endTransfers (s : State) : State :=
  let s := s.port.blocks.foldl (fun s b =>
    match b.requester with
    | .chip uid => s.emit .result (65536 + uid) (prorosHeader 0xD 0 0 0 0 uid 4 b.openSeq ++ be 4 Abort.hubTakeover)
    | .session id =>
      match s.port.session id with
      | none => s
      | some x => s.sendIn .result x 0xD 0 b.openSeq (be 4 Abort.hubTakeover)) s
  { s with port := { s.port with blocks := [] } }

/-- The trigger's number in HUB_TAKEOVER's detail, in the order of the table before R74. -/
def TakeoverTrigger.code : TakeoverTrigger → Nat
  | .heartbeat => 1
  | .lockstep => 2
  | .clockGood => 3
  | .roleSwap => 4

/-- An update in SWAP goes on: the old core is released and boots from the new slot (R657). -/
def State.updateSwapped (s : State) (k : Takeover) : State :=
  if s.fw.state = 4 ∧ k.trigger = .roleSwap then
    let old := s.standbyCore
    let slot := s.fw.newSlot
    let s := (s.coreUp old).modCore old fun c => { c with wantSlot := some slot }
    let s := s.setHealth (coreUid old) 1
    { s with fw := { s.fw with state := 5, since := s.elapsed } }
  else s

/-- TAKEOVER_NOTIFY (R74, R76, R221, R648, R657): W + 20 µs. TAKEOVER_UNREADY, for which R76 gives no instant, is logged
here and not at W, where the step is measured: the model's choice (log entry 165). -/
def execTakeoverNotify (dt : Nat) (s : State) : Host.Outcome State Fault Refusal :=
  done ((s.begin dt).takeoverAt 3 20000 fun k s =>
    let objects := (k.lostObjects.take 341).flatMap fun o => be 3 o
    let s := s.urged Code.hubTakeover (be 1 k.trigger.code ++ objects)
    let s := if k.shadowReady then s else s.logged Code.takeoverUnready (psOctets k.stepPs)
    let s := s.endTransfers
    let s : State := { s with hub := { s.hub with takeover := none } }
    s.updateSwapped k)

end Sys2Proof.Machine
end

