-- ==== Sys2Proof/Machine/Firmware.lean ====
section
/-!
DEFINITION. Firmware: the image test, the boot ROM, and the update of both hub cores (R592–R594, R655–R659,
R684–R686).
-/
namespace Sys2Proof.Machine

/-! ## The image (R684, R685) -/

/-- MAGIC, VERSION and the lengths are as the table fixes. -/
def imageForm (b : List Byte) : Bool :=
  let imem := fieldLe b 24 4
  let dmem := fieldLe b 28 4
  decide (256 ≤ b.length) && b.take 4 = [0x44, 0x52, 0x46, 0x57] && fieldLe b 4 2 = 1 && fieldLe b 6 2 = 256 &&
    decide (4 ≤ imem) && decide (imem ≤ 262144) && imem % 4 = 0 && decide (dmem ≤ 262144) && dmem % 4 = 0 &&
    decide (256 + imem + dmem ≤ b.length)

/-- The body that the header describes. -/
def imageBody (b : List Byte) : List Byte := slice b 256 (fieldLe b 24 4 + fieldLe b 28 4)

/-- The signature verifies under the vendor key that KEY_INDEX names, and that key is not revoked. -/
def State.imageSigned (s : State) (b : List Byte) : Bool :=
  let k := fieldLe b 13 1
  decide (k ≤ 1) && !(k = 0 && s.fuses.key0Revoked) &&
    Config.ecdsaVerify (Config.vendorFirmwareKey k) (b.take 96) (slice b 96 96)

/-- ROLLBACK_COUNTER: the blown bits of the 64-bit field (R686). -/
def State.rollbackCount (s : State) : Nat := (bitsSet 64 s.fuses.rollback).length

/-- SERIAL_LOCK and DEBUG let this device boot the image. -/
def State.imageLocks (s : State) (b : List Byte) : Bool :=
  let lock := fieldLe b 16 8
  (lock = 0 || lock = s.fuses.serial) &&
    (!bitOf (fieldLe b 14 2) 0 || (lock = s.fuses.serial && s.allScopes))

/-- The first test of R685 that fails, as FW_UPDATE answers it. -/
def State.imageFails (s : State) (b : List Byte) : Option Nat :=
  if !imageForm b || !s.imageSigned b || slice b 40 48 ≠ Config.sha384 (imageBody b) then some Abort.signature
  else if fieldLe b 12 1 < s.rollbackCount then some Abort.rollback
  else if !s.imageLocks b then some Abort.signature
  else none

/-- The octets of a firmware slot. -/
def Flash.slot (f : Flash) (n : Nat) : List Byte := if n = 0 then f.slotA else f.slotB

/-- Write a firmware slot. -/
def Flash.putSlot (f : Flash) (n : Nat) (b : List Byte) : Flash :=
  if n = 0 then { f with slotA := b } else { f with slotB := b }

/-! ## The boot ROM (R592, R593, R656) -/

/-- The slot that a restart of the device would boot: FW_BOOT_SLOT, or bit 2 of the strap. -/
def State.bootsFrom (s : State) : Nat :=
  if s.fw.bootSlot ≤ 1 then s.fw.bootSlot else bit (bitOf s.rst.strapCode 2)

/-- The slot that a core's boot ROM takes first (R592, R656–R658). -/
def State.bootSlotOf (s : State) (core : Nat) : Nat :=
  match (s.hub.core core).wantSlot with
  | some n => n
  | none => if core = s.activeCore then s.bootsFrom else (s.hub.core s.activeCore).fwSlot

/-- The firmware of a slot runs on a core. -/
def State.bootFrom (s : State) (core slot : Nat) : State :=
  let v := fieldLe (s.flash.slot slot) 8 4
  s.modCore core fun c => { c with proc := .running, fwSlot := slot, fwVersion := v, wantSlot := none, noImage := false }

/-- The boot ROM has tried its slots. -/
def State.bootRom (s : State) (core : Nat) : State :=
  let slot := s.bootSlotOf core
  let other := 1 - slot
  if (s.imageFails (s.flash.slot slot)).isNone then s.bootFrom core slot
  else if (s.imageFails (s.flash.slot other)).isNone then
    (s.bootFrom core other).logged Code.bootFallback (be 1 other)
  else (s.modCore core fun c => { c with noImage := true }).logged Code.bootNoImage []

/-- A core's boot ROM can load: options are read, no hold stands, and the standby waits for the active
core. -/
def State.canBoot (s : State) (core : Nat) : Bool :=
  let c := s.hub.core core
  c.proc = .bootRom && !c.noImage && !c.heldInReset && decide (s.flash.readyAt ≤ s.elapsed) && !s.pins.jtagOwns && s.rst.optionsDone && s.rst.holdReason = 0 &&
    (core = s.activeCore || (s.hub.core s.activeCore).proc = .running)

/-- FW_BOOT (R592, R593). -/
def execFwBoot (dt : Nat) (core : Nat) (s : State) : Host.Outcome State Fault Refusal :=
  let s := s.begin dt
  done (s.onlyIf (s.canBoot core) fun s => s.bootRom core)

/-! ## The update (R655–R659) -/

/-- An update is between STANDBY_BOOT and OLD_BOOT. -/
def State.updating (s : State) : Bool := decide (3 ≤ s.fw.state) && decide (s.fw.state ≤ 5)

/-- The slot that an update writes (R655, R659). -/
def State.updateSlot (s : State) : Nat :=
  let c := s.hub.core s.activeCore
  if c.noImage then s.bootsFrom else 1 - c.fwSlot

/-- The image has been written to its slot and read back (R655, R659). -/
def State.takeImage (s : State) (b : List Byte) : Reply :=
  let slot := s.updateSlot
  let s : State := { s with flash := s.flash.putSlot slot b }
  match s.imageFails b with
  | some code =>
    ⟨{ s with fw := { s.fw with state := 7, reason := 0, stagedVersion := 0 } }, code, []⟩
  | none =>
    let revoke := bitOf (fieldLe b 14 2) 1 && fieldLe b 13 1 = 1
    let s : State := { s with fw := { s.fw with
      state := 2, reason := 0, stagedVersion := fieldLe b 8 4, newSlot := slot
      newRollback := fieldLe b 12 1, newRevoke := revoke } }
    let core := s.activeCore
    State.accept (if (s.hub.core core).noImage then s.bootFrom core slot else s)

/-- What a write of FwUpdate does, and its answer. -/
def State.cmdFwUpdate (s : State) (image : List Byte) : Reply :=
  if 0x100000 < image.length then s.refuse Abort.tooLarge
  else if s.updating then s.refuse Abort.busy
  else s.takeImage image

/-- FW_UPDATE (R655, R659): the write transfer has closed with its CRC matching. -/
def execFwUpdate (dt : Nat) (req : Req) (image : List Byte) (s : State) : Host.Outcome State Fault Refusal :=
  done ((s.begin dt).serve req 0xA030 0 .blkWrite fun _ s => s.cmdFwUpdate image)

/-- What a write of FwUpdateApply does, and its answer. -/
def State.cmdFwUpdateApply (s : State) (value : Nat) : Reply :=
  if value ≠ 1 then s.refuse Abort.valueRange
  else if s.fwState ≠ 2 then s.refuse Abort.fwNotVerified
  else if !s.shadowReady then s.refuse Abort.standbyNotReady
  else if s.anyEntry [Act.roleSwap] [Stat.pending] then s.refuse Abort.busy
  else
    let slot := s.fw.newSlot
    let s := s.modCore s.standbyCore fun c => { c with proc := .bootRom, wantSlot := some slot, noImage := false }
    State.accept { s with fw := { s.fw with state := 3, reason := 0, since := s.elapsed } }

/-- FW_UPDATE_APPLY (R657): the standby's management processor restarts from the new slot. -/
def execFwUpdateApply (dt : Nat) (req : Req) (value : Nat) (s : State) : Host.Outcome State Fault Refusal :=
  done ((s.begin dt).serve req 0xA030 2 .write fun _ s => s.cmdFwUpdateApply value)

/-- The ROLE_SWAP of an update (R657): at the first frame boundary at least 2 frames ahead. -/
def State.enterSwap (s : State) (n : Nat) : State :=
  let t := s.boundaryFrom (s.pns + 2 * s.frame.lenNs)
  let e : SchedEntry := { SchedEntry.free with action := Act.roleSwap, time := t, status := Stat.pending }
  let s := s.putEntry n e
  { s with fw := { s.fw with state := 4 } }

/-- FW_UPDATE_STANDBY_READY (R657). -/
def execFwUpdateStandbyReady (dt : Nat) (s : State) : Host.Outcome State Fault Refusal :=
  let s := s.begin dt
  done (s.onlyIf (s.fw.state = 3 && s.shadowReady && (s.hub.core s.standbyCore).fwSlot = s.fw.newSlot) fun s =>
    match s.freeEntry with
    | none => s
    | some n => s.enterSwap n)

/-- The fuses that an update blows (R686). -/
def State.blowFuses (s : State) : State :=
  let n := Nat.min s.fw.newRollback 64
  let f := s.fuses
  let bits := if s.rollbackCount < n then 2 ^ n - 1 else f.rollback
  { s with fuses := { f with rollback := bits, key0Revoked := f.key0Revoked || s.fw.newRevoke } }

/-- FW_UPDATE_OLD_READY (R657, R686): the update is done. -/
def execFwUpdateOldReady (dt : Nat) (s : State) : Host.Outcome State Fault Refusal :=
  let s := s.begin dt
  done (s.onlyIf (s.fw.state = 5 && s.shadowReady && (s.hub.core s.standbyCore).fwSlot = s.fw.newSlot) fun s =>
    let slot := s.fw.newSlot
    let s : State := { s with fw := { s.fw with state := 6, bootSlot := slot } }
    s.persistOptions.blowFuses.told Code.fwUpdateDone (be 4 s.fw.stagedVersion))

/-- FW_UPDATE_TIMEOUT (R658): 1 s after APPLY, or after the old core's release. -/
def execFwUpdateTimeout (dt : Nat) (s : State) : Host.Outcome State Fault Refusal :=
  let s := s.begin dt
  done (s.onlyIf ((s.fw.state = 3 || s.fw.state = 5) &&
      decide (s.fw.since + 1000000000 * Config.stepsPerNs ≤ s.elapsed)) fun s =>
    let core := s.standbyCore
    if s.fw.state = 3 then
      let slot := (s.hub.core s.activeCore).fwSlot
      (s.modCore core fun c => { c with proc := .bootRom, wantSlot := some slot, noImage := false }).failUpdate 1
    else ((s.coreDown core).setHealth (coreUid core) 2).failUpdate 2)

end Sys2Proof.Machine
end

