-- ==== Sys2Proof/Machine/Lifecycle.lean ====
section
/-!
DEFINITION. Lifecycle changes and their fettling, debug authorization and the manager keys (R661–R683).
-/
namespace Sys2Proof.Machine

/-! ## Challenges (R677) -/

/-- The request names the latest challenge of the session that writes it. -/
def State.namesChallenge (s : State) (c : Ctx) (nonce : List Byte) : Bool :=
  match s.sessionOf c with
  | some x => x.challenge = some nonce
  | none => false

/-- The challenge is used up. -/
def State.useChallenge (s : State) (c : Ctx) : State :=
  match s.sessionOf c with
  | some x => { s with port := s.port.putSession { x with challenge := none } }
  | none => s

/-- A fresh challenge for a session; an on-chip requester holds none. -/
def State.newChallenge (s : State) (c : Ctx) : State × List Byte :=
  let n := s.random16
  let s := s.drawn
  match s.sessionOf c with
  | some x => ({ s with port := s.port.putSession { x with challenge := some n } }, n)
  | none => (s, n)

/-- AUTH_CHALLENGE (R677). -/
def execAuthChallenge (dt : Nat) (req : Req) (s : State) : Host.Outcome State Fault Refusal :=
  done ((s.begin dt).serve req 0xA010 0 .read fun c s =>
    match s.newChallenge c with
    | (s, n) => ⟨s, Abort.ok, n⟩)

/-- Everything that the octets of a signed message cover, and the signature. -/
def State.ownerSigned (s : State) (b : List Byte) (n : Nat) : Bool :=
  Config.ecdsaVerify s.ownerKey (b.take n) (slice b n 96)

/-! ## Lifecycle requests (R667–R669) -/

/-- The first check of R668: length, VERSION, reserved octets, NEW_OWNER. -/
def State.lcForm (s : State) (b : List Byte) : Bool :=
  let owner := slice b 28 97
  b.length = 224 && fieldBe b 0 1 = 1 && fieldBe b 2 2 = 0 && fieldBe b 125 3 = 0 &&
    (if fieldBe b 1 1 = 1 ∧ s.lcState = 0 then Config.validPoint owner else owner = zeros 97)

/-- The transitions of R669. -/
def lcListed (before after : Nat) : Bool :=
  (before = 0 && after = 1) || (before = 1 && after = 2) || (before = 2 && after = 1) ||
    ((before = 1 || before = 2) && after = 3) || (before = 3 && after = 0)

/-- At least 3 MGR_KEYS entries are non-empty when DEPLOYED is asked for. -/
def State.lcCondition (s : State) (after : Nat) : Bool :=
  after ≠ 2 || decide (3 ≤ (s.lc.mgrKeys.filter fun k => !k.isEmpty).length)

/-- What makes a lifecycle change wait: another one, an update, device recovery, an admission. -/
def State.lcBusy (s : State) : Bool :=
  let a := s.adm.state
  s.lc.storeA.fettlePending || (decide (3 ≤ s.fw.state) && decide (s.fw.state ≤ 5)) || s.recovering ||
    (decide (1 ≤ a) && decide (a ≤ 4)) || a = 6 || a = 8

/-- The checks of R668 in their order. -/
def State.lcCheck (s : State) (c : Ctx) (b : List Byte) : State × Option Nat :=
  let after := fieldBe b 1 1
  if !s.lcForm b then (s, some Abort.valueRange)
  else if fieldBe b 4 8 ≠ s.fuses.serial then (s, some Abort.notTarget)
  else if !s.namesChallenge c (slice b 12 16) then (s, some Abort.replayed)
  else
    let s := s.useChallenge c
    (s, if !s.ownerSigned b 128 then some Abort.level
        else if !lcListed s.lcState after || !s.lcCondition after || s.lc.storeA.transitions = 65535 then
          some Abort.valueRange
        else if s.lcBusy then some Abort.busy
        else none)

/-! ## Carrying out a change (R363, R495, R538, R670–R676) -/

/-- Both key stores take the new state and the key changes (R669, R670). -/
def State.lcStores (s : State) (after : Nat) (owner : List Byte) : State :=
  let k := s.lc.storeA
  let k : KeyStore := { k with
    lcState := after, transitions := k.transitions + 1, fettlePending := true
    ownerKey := if after = 1 ∧ k.lcState = 0 then owner else if after = 3 then [] else k.ownerKey
    digests := if after = 3 then [] else k.digests }
  let all : BitVec 16 := if after = 0 ∨ after = 3 then 0x7F else 0x1F
  let keys := if after = 3 then List.replicate 5 [] else s.lc.mgrKeys
  let s : State := { s with lc := { s.lc with
    storeA := k, storeB := k, mgrKeys := keys, fettle := 1, fettleFail := 0, fettleLeft := all } }
  if after = 3 then s.persistOptions else s

/-- The Ladle, the reserve and a shakeout in progress (R363): the shakeout ends, and nothing is held. -/
def State.lcDump (s : State) : State :=
  let g := s.soImage
  let s := s.ringDrop fun t => match t.use with
    | .tier0 _ => true
    | .debugFallback _ => true
    | _ => false
  let s : State := { s with dump := { s.dump with
    status := 0, slots := [none, none, none, none], refArea := Area.empty, latestArea := Area.empty
    tier2Area := Area.empty, refImage := 0, running := none, fettle := [], waiting := none } }
  match g with
  | none => s
  | some g => ((s.procClosed g).expelClosed g).suspectClosed g

/-- The bars' buffers, events and kernels (R495). -/
def State.lcBars (s : State) : State :=
  let s := (s.emptyBar 0).emptyBar 1
  { s with bar := { s.bar with events := [], eventsWaiting := [], kernels := [], run := none } }

/-- Every die's trace buffer as zeros. -/
def State.wipeBuffers (s : State) : State := { s with dram := s.dram.filter fun c => !s.inBuffers c.1 }

/-- Trace (R538, R675): the buffers, the defaults, and TRACE_FETTLE once no slot is traced. -/
def State.lcTrace (s : State) : State :=
  let s := s.wipeBuffers.traceDefaults
  let s : State := { s with trace := { s.trace with sinks := [] } }
  let s := s.traceSync
  if s.trace.changed = 0 then
    s.issueCast Cast.traceFettle 0 0 (clusterTargets (BitVec.allOnes 128)) false false 0 .traceFettle
  else { s with trace := { s.trace with fettleAfter := true, switchPending := true } }

/-- The previous holder's job is removed (R676): the cut of the whole package, the contexts, the ports. -/
def State.removeJob (s : State) : State :=
  let s := s.cancelCuts
  let s := if s.hangRunning then s.endProcedure 6 else s
  let s := (s.fencePorts true).retireAll
  let s := if s.qu.state = Qs.idle ∨ s.qu.state = Qs.mixed then
      (s.enterOwn Act.quench (s.earliest Act.quench) 0 wholePackage).1
    else s
  { s with lc := { s.lc with jobRemoved := true } }

/-- The log store and LAST_WORDS as fettled: the counters go on (R675). -/
def State.lcLog (s : State) : State :=
  { s with
    log := { s.log with records := [], waiting := [], mirror := [] }
    backup := { s.backup with lastWords := List.replicate 64 0 } }

/-- A lifecycle change at A, after its answer. -/
def State.lcChange (s : State) (b : List Byte) : State :=
  let before := s.lcState
  let after := fieldBe b 1 1
  let s := s.lcStores after (slice b 28 97)
  let s := ((s.lcDump.lcBars).lcTrace).lcLog
  let s := s.logged Code.lcChange (be 1 before ++ be 1 after)
  let s := s.closeAll
  if after = 0 ∨ after = 3 then s.removeJob else s

/-- LC_REQUEST (R667–R676). -/
def execLcRequest (dt : Nat) (req : Req) (request : List Byte) (s : State) : Host.Outcome State Fault Refusal :=
  done ((s.begin dt).serveThen req 0xA001 0 .blkWrite (fun c s => s.lcCheck c request) fun _ s => s.lcChange request)

/-! ## Fettling (R672, R674) -/

/-- Every store has verified (R672). -/
def State.lcFettled (s : State) : State :=
  let k := { s.lc.storeA with fettlePending := false }
  State.logged { s with lc := { s.lc with storeA := k, storeB := k, fettle := 0 } } Code.lcFettled []

/-- LC_FETTLE_DONE (R672, R674): an area has read back right, or has failed its third time. -/
def execLcFettleDone (dt : Nat) (area : Nat) (ok : Bool) (s : State) : Host.Outcome State Fault Refusal :=
  let s := s.begin dt
  let l := s.lc
  done (s.onlyIf (l.storeA.fettlePending && decide (area < 7) && l.fettleLeft.getLsbD area &&
      !l.fettleFail.getLsbD area && !(area = 2 && s.trace.fettleAfter)) fun s =>
    if !ok then
      State.urged { s with lc := { l with fettleFail := setBit l.fettleFail area true } } Code.fettleFail (be 1 area)
    else
      let left := setBit l.fettleLeft area false
      let s : State := { s with lc := { l with fettleLeft := left }, dram := if area = 5 then [] else s.dram }
      if left = 0 then s.lcFettled.startWaiting else s)

/-! ## Tokens (R678–R681) -/

/-- Layout of a token (R678): its reserved octets are checked (R668), the reserved bits of SCOPE are ignored (R6). -/
def tokenForm (b : List Byte) : Bool :=
  b.length = 144 && fieldBe b 0 1 = 1 && fieldBe b 1 1 = 0 && fieldBe b 44 4 = 0

/-- The longest life of a token: one day. -/
def tokenLife : Nat := 86400000000000

/-- The checks of R679, as those of R668. -/
def State.tokenCheck (s : State) (c : Ctx) (b : List Byte) : State × Option Nat :=
  if !tokenForm b then (s, some Abort.valueRange)
  else if fieldBe b 4 8 ≠ s.fuses.serial then (s, some Abort.notTarget)
  else if !s.namesChallenge c (slice b 12 16) then (s, some Abort.replayed)
  else
    let expiry := fieldBe b 36 8
    let s := s.useChallenge c
    (s, if !s.ownerSigned b 48 then some Abort.level
        else if expiry ≤ s.pns ∨ s.pns + tokenLife < expiry then some Abort.expired
        else none)

/-- An accepted token replaces the session's (R679). -/
def State.grantToken (s : State) (c : Ctx) (b : List Byte) : State :=
  let t : Token := ⟨fieldBe b 2 2 % 32, fieldBe b 36 8⟩
  match s.sessionOf c with
  | none => s
  | some x =>
    State.logged { s with port := s.port.putSession { x with token := some t } } Code.authGranted
      (be 2 t.scope ++ be 8 t.expiry)

/-- A write of AUTH_TOKEN. -/
def State.tokenWrite (s : State) (c : Ctx) (b : List Byte) : Reply :=
  match s.tokenCheck c b with
  | (s, some code) => ⟨s, code, []⟩
  | (s, none) => (s.grantToken c b).accept

/-- AUTH_TOKEN (R678, R679). -/
def execAuthToken (dt : Nat) (req : Req) (token : List Byte) (s : State) : Host.Outcome State Fault Refusal :=
  done ((s.begin dt).serve req 0xA011 0 .blkWrite fun c s => s.tokenWrite c token)

/-- AUTH_ENDED (R680): TB_NOW has reached the token's expiry. -/
def execAuthEnded (dt : Nat) (session : Nat) (s : State) : Host.Outcome State Fault Refusal :=
  let s := s.begin dt
  done (match s.port.session session with
    | none => s
    | some x =>
      s.onlyIf (x.token.any fun t => decide (t.expiry ≤ s.pns)) fun s =>
        State.endToken { s with port := s.port.putSession { x with token := none } } x)

/-! ## Manager keys (R664, R665) -/

/-- A write of entry `i`. -/
def State.keyWrite (s : State) (i : Nat) (key : List Byte) : Reply :=
  if s.lcState = 2 then s.refuse Abort.level
  else if key.length ≠ 97 || !(Config.validPoint key || key = zeros 97) then s.refuse Abort.valueRange
  else
    let v := if key = zeros 97 then [] else key
    let s : State := { s with lc := { s.lc with mgrKeys := setAt s.lc.mgrKeys i v } }
    s.persistOptions.accept

/-- MGR_KEYS_WRITE (R664, R665): the new digest joins the key store, then the option block is written. -/
def execMgrKeysWrite (dt : Nat) (req : Req) (i : Nat) (key : List Byte) (s : State) : Host.Outcome State Fault Refusal :=
  done ((s.begin dt).serve req 0xA020 (i + 1) .blkWrite fun _ s => s.keyWrite i key)

end Sys2Proof.Machine
end

