-- ==== Sys2Proof/Machine/ResetOps.lean ====
section
/-!
DEFINITION. What the reset controller does with the state: the count of resets and the backup record
(R577, R578, R582), what each reset keeps (R574, R695, R696), the release sequence (R583–R589) and what
the release of each domain starts.
-/
namespace Sys2Proof.Machine

/-! ## The backup record -/

/-- MS_NOW (R578): milliseconds of the backup oscillator, within 10% of true time. -/
def State.msNow (s : State) : Nat :=
  let rate := (1000 + clampInt (-100) 100 Config.backupDeviation).toNat
  (s.elapsed - s.backup.msBase) * rate / (1000 * 1000000 * Config.stepsPerNs) % 2 ^ 32

/-- Count an accepted reset: RESET_COUNT, RESET_CAUSE, the storm ring (R577, R578). -/
def State.countReset (s : State) (cause : Nat) : State :=
  let b := s.backup
  let ms := s.msNow
  { s with backup := { b with
      resetCount := inc32 b.resetCount, cause := cause, msAtWrite := ms, ring := setAt b.ring b.head ms
      head := (b.head + 1) % 16, fill := Nat.min 16 (b.fill + 1) } }

/-- STORM_RECENT: entries within 10,000 ms of the newest, the newest included (R607). -/
def Backup.recent (b : Backup) : Nat :=
  let newest := b.ring.getD ((b.head + 15) % 16) 0
  ((List.range b.fill).filter fun i =>
    decide ((newest + 2 ^ 32 - b.ring.getD ((b.head + 15 - i) % 16) 0) % 2 ^ 32 ≤ 10000)).length

/-- LAST_WORDS written by the reset controller (R581). -/
def State.controllerWords (s : State) (code : Nat) : State := s.writeLastWords 0 code []

/-! ## What a reset keeps -/

/-- Entries of SCHED_TABLE that are PENDING or RUNNING become CANCELLED (R696). -/
def State.cancelTable (s : State) : Tab SchedEntry :=
  s.sched.map fun e => (e.1, if e.2.open then { e.2 with status := Stat.cancelled } else e.2)

/-- The Ladle across a warm reset (R363): sealed tier 0 is kept, an unsealed slot is fettled. -/
def State.endShakeout (s : State) : State :=
  match s.dump.running with
  | none => s
  | some k =>
    let s : State := { s with dump := { s.dump with running := none, waiting := none } }
    if k.sealed.contains 0 then s.modSlot k.slot fun g => { g with closed := true }
    else { s with dump := { s.dump with slots := setAt s.dump.slots k.slot none } }

/-- Shakeout objects, Ladle and reserve after a warm reset (R316, R359, R363, R696). -/
def State.dumpAfterReset (s : State) : Dump :=
  let d := s.endShakeout.reserveGone.dump
  { Dump.fresh with
    imageId := d.imageId, select := d.select, recordKey := d.recordKey, slots := d.slots
    reserveBase := d.reserveBase, reserveBaseT2 := d.reserveBaseT2, reserveSize := d.reserveSize
    reserveSizeT2 := d.reserveSizeT2, tier2Reserve := d.tier2Reserve, fettle := d.fettle }

/-- CONTEXT_STATE after a warm reset (R396): RETIRED and FETTLING stay, every other context is NORMAL
with its epoch. -/
def State.contextsAfterReset (s : State) : Tab Nat :=
  (s.hang.contexts.map fun e =>
    if e.2 / 256 = Cx.retired ∨ e.2 / 256 = Cx.fettling then e else (e.1, e.2 % 256)).filter fun e => e.2 ≠ 0

/-- Admission after a warm reset (R459). -/
def Admission.afterReset (a : Admission) : Admission :=
  if a.state = 0 ∨ a.state = 5 ∨ a.state = 7 then Admission.fresh
  else { Admission.fresh with state := 7, reason := 10 }

/-- The rails of the map with nothing read but VOUT_MODE, which is read once after POR (R548). -/
def Power.afterReset (p : Power) : Power :=
  { Power.fresh with
    pmbKhz := p.pmbKhz
    rails := p.rails.map fun e =>
      (e.1, { Rail.fresh with address := e.2.address, page := e.2.page, role := e.2.role, exponent := e.2.exponent,
                              unsupported := e.2.unsupported }) }

/-- Entries of the hub cores' own replicas: their TBUs outlive a warm reset (R574). -/
def hubReplicas (t : Tab Replica) : Tab Replica := t.filter fun e => uidIsHub e.1

/-- Topology across a reset of the device: the spare map and the units routed around (R18, R20, R676);
every other unit comes out of reset healthy. -/
def Topo.afterReset (t : Topo) : Topo := { t with health := t.health.filter fun e => e.2 = 3 }

/-- A time wire in reset: the measurements of the hub cores outlive it. -/
def Wire.down (w : Wire) : Wire := { Wire.idle with targets := w.targets.filter fun e => uidIsHub e.1 }

/-- The port across a warm reset (R610, R624): NODE_ID, PLCA and the claim go on. -/
def Port.afterReset (p : Port) : Port :=
  { Port.fresh with
    claimState := p.claimState, plcaActive := p.plcaActive, claimSince := p.claimSince, claimLast := p.claimLast
    claimLogged := p.claimLogged, nextSession := p.nextSession, nextBlock := p.nextBlock }

/-- Writes of the flash that a reset cuts off leave the other copy in use (R602, R604). -/
def Flash.cut (f : Flash) : Flash :=
  { f with optionWriting := none, optionDirty := false, persistWriting := none, persistDirty := false }

/-- The object values and units that a reset of D2–D9 leaves (R574, R696 and the rules that it names). -/
def State.warmState (s : State) : State :=
  let s := s.closeAll
  { State.reset with
    pending := s.pending, elapsed := s.elapsed, emitted := s.emitted, freeCount := s.freeCount
    fuses := s.fuses, topo := s.topo.afterReset
    hub := { Hub.fresh with riserActive := s.hub.riserActive, riserOwns := s.hub.riserOwns, keeperHolds := true }
    tb := { s.tb with fracLatch := [] }
    wireA := s.wireA.down, wireR := s.wireR.down
    pod := { s.pod with ports := s.pod.ports.map fun e => (e.1, { e.2 with measuring := false }) }
    frame := { s.frame with sets := [], groups := [], carried := false, frozen := false }
    sched := s.cancelTable
    units := { Units.fresh with
      runners := s.units.runners.map fun e => (e.1, e.2.restarted)
      replicas := hubReplicas s.units.replicas }
    dump := s.dumpAfterReset
    hang := { Hang.fresh with contexts := s.contextsAfterReset }
    fm := { Fault9.fresh with fenceState := s.fm.fenceState, fenceSeq := s.fm.fenceSeq }
    adm := s.adm.afterReset
    bar := { Bar.fresh with
      events := s.bar.events, eventsWaiting := s.bar.eventsWaiting, eventSelect := s.bar.eventSelect
      eventLast := s.bar.eventLast, quarantine := s.bar.quarantine }
    power := s.power.afterReset, rst := s.rst, backup := s.backup, flash := s.flash.cut
    log := { s.log with readFrom := 0 }, port := s.port.afterReset
    fw := { FwUpdate.fresh with bootSlot := s.fw.bootSlot }
    lc := { s.lc with jobRemoved := false, fettleFail := 0 }
    pins := { s.pins with
      quenchWaiting := false, stopHolds := false, quenchCount := 0, quenchLogFrame := none, stuckReported := false }
    dram := s.dram }

/-- Records of which the flash may still have no copy (R710): those of the last 100 ms. -/
def State.unmirrored (s : State) : Nat :=
  (s.log.records.filter fun r => bitOf r.flags 3 || decide (s.pns < r.pns + 100000000)).length

/-- What the flash mirror holds of the log at a loss of power: how many of the latest records it misses is
open (R710). -/
def State.mirrored (s : State) : List LogRec :=
  s.log.records.take (s.log.records.length - s.freeNow % (s.unmirrored + 1))

/-- The state under POR (R574): what is not volatile, and what stands outside the hub, remains. -/
def State.porState (s : State) : State :=
  { State.reset with
    pending := s.pending, elapsed := s.elapsed, emitted := s.emitted, freeCount := s.freeCount + 2
    fuses := s.fuses, topo := { s.topo.afterReset with changedAt := 0 }
    tb := { TimeBase.fresh with refclkPresent := s.tb.refclkPresent }
    rst := { Reset.fresh with resetNLow := s.rst.resetNLow, counted := s.rst.resetNLow, porAt := s.elapsed
                              times := s.rst.times }
    backup := s.backup, flash := s.flash.cut, log := { LogStore.fresh with mirror := s.mirrored }
    lc := { Lifecycle.blank with storeA := s.lc.storeA, storeB := s.lc.storeB }
    pins := { Pins.fresh with quenchHigh := s.pins.quenchHigh, quenchSince := s.elapsed }
    dram := s.openBuffers (Config.freeValue (s.freeCount + 1)) }

/-! ## The sequence -/

/-- REFCLK cycles in elapsed steps. -/
def cycles (n : Nat) : Nat := n * Config.stepsPerRefclk

/-- Change the reset controller. -/
def State.modRst (s : State) (f : Reset → Reset) : State := { s with rst := f s.rst }

/-- The gap of a domain in this sequence (R584). -/
def State.gapOf (s : State) (n : Nat) : Nat :=
  if n < 4 then s.backup.gaps.getD n 4096 else s.rst.gapsNow.getD n 4096

/-- Where the gap of a domain runs from (R583). -/
def State.gapFrom (s : State) (n : Nat) : Nat :=
  s.rst.times.getD (if n = 0 then 10 else if n = 4 then 11 else n - 1) 0

/-- Gap `n` has elapsed (R583). -/
def State.gapOver (s : State) (n : Nat) : Bool := decide (s.gapFrom n + cycles (s.gapOf n) ≤ s.elapsed)

/-- The gating clock of a domain can have held 4,096 cycles since it was started or lost (R583); the command
says that it has. D5 goes by R92. -/
def State.clockAged (s : State) (n : Nat) : Bool :=
  let held := cycles Config.clockGoodCycles
  if n = 0 ∨ n = 5 then true
  else
    let start := s.rst.times.getD (if n = 1 then 0 else if n ≤ 4 then 1 else 4) 0
    decide (start + held ≤ s.elapsed) && decide (s.rst.lostAt + held ≤ s.elapsed ∨ s.rst.lostAt = 0)

/-- The owning core (R82). -/
def State.owner (s : State) : Nat := bit s.hub.riserOwns

/-- Nothing but gap and clock keeps Dn in reset (R589–R591, R599, R605, R607). -/
def State.mayRelease (s : State) (n : Nat) : Bool :=
  let r := s.rst
  !r.porAsserted && decide (n < 10) && r.phase = n && (n ≠ 1 || s.tb.refclkPresent) && (decide (n < 2) || !r.resetNLow) &&
    (n ≠ 3 || ((s.hub.core s.owner).selfCheckPassed = some true && r.holdReason ≠ 3)) &&
    (n ≠ 4 || r.optionsDone) && (decide (n < 4) || r.holdReason = 0)

/-- Domain Dn of a die stays in reset: the die is lost from there on (R587). -/
def State.dieHeld (s : State) (die n : Nat) : Bool :=
  s.rst.lostDies.getLsbD die && decide (Tab.at s.rst.lostFrom die 0 ≤ n)

/-- Dies on which a domain is released. -/
def State.diesOf (s : State) (n : Nat) : List Nat := (List.range 16).filter fun d => !s.dieHeld d n

/-! ## What the release of a domain starts -/

/-- D2: both hub cores run their self-checks (R590); the owner drives its pins again (R610). -/
def State.coresStart (s : State) : State :=
  let go (c : HubCore) : HubCore := { c with proc := .selfCheck, selfCheckPassed := none }
  { s with hub := { s.hub with hubA := go s.hub.hubA, riser := go s.hub.riser, keeperHolds := false } }

/-- The fettling of a lifecycle change begins again (R673). -/
def State.refettle (s : State) : State :=
  if s.lc.storeA.fettlePending then
    let all : BitVec 16 := if s.lcState = 0 || s.lcState = 3 then 0x7F else 0x1F
    { s with lc := { s.lc with fettle := 1, fettleFail := 0, fettleLeft := all } }
  else s

/-- D4 of a die: its runner and taps, replicas COLD (R117). -/
def State.runnerUp (s : State) (die : Nat) : State :=
  let s := s.modRunner die fun r => { r.restarted with inReset := false, activeUid := s.activeUid }
  let s := (List.range 8).foldl (fun s k => s.resetRep (tapUid (die * 8 + k))) s
  s.resetRep (runnerUid die)

/-- The standby core's TBU counts from D5 too, from 0, until its replica follows the active core (R69, R99, R146). -/
def State.standbyUp (s : State) : State :=
  if s.tb.standby.counting then s
  else { s with tb := { s.tb with standby := { Clock.fresh with since := s.elapsed, counting := true } } }

/-- D5: the TBU starts at PNS 0 unless it counts already (R146, R205); both wires are sourced (R99). -/
def State.timeUp (s : State) : State :=
  let s := s.standbyUp
  let s : State :=
    if s.tb.active.counting then s
    else { s with tb := { s.tb with active := { Clock.fresh with since := s.elapsed, counting := true } }
                  frame := { s.frame with number := 0, ticked := false, nextTick := 0, opened := 0 } }
  (List.range 2).foldl (fun s c =>
    if (s.hub.core c).proc = .failed then s
    else (s.modCore c fun x => { x with clockGood := true }).startWire c) s

/-- D7: fettling that a reset cut off begins again (R396). -/
def State.memoryUp (s : State) : State :=
  ((s.hang.contexts.filter fun e => e.2 / 256 = Cx.fettling).map Prod.fst).foldl (fun s c =>
    State.emit { s with hang := { s.hang with fettling := Tab.put s.hang.fettling c 0xFFFF } }
      .runnerCast 1 (be 2 c)) s

/-- A cluster leaves reset: every slot's cclk runs unless its half is chilled (R25, R39). -/
def State.clusterUp (s : State) (c : Nat) : State :=
  let s := s.modTap c fun x =>
    { x with inReset := false, coreClock := if s.chilled c then 0 else BitVec.allOnes 136 }
  if s.health (ccpUid c) = 2 then s.setHealth (ccpUid c) 0 else s

/-- Wave `w` of D8 (R585): clusters w and w + 4 of every die. -/
def State.waveUp (s : State) (w : Nat) : State :=
  let s := (s.diesOf 8).foldl (fun s d => (s.clusterUp (d * 8 + w)).clusterUp (d * 8 + w + 4)) s
  s.modRst fun r => { r with
    d8Waves := w + 1, times := setAt r.times 8 s.elapsed, phase := if w = 3 then 9 else 8
    released := if w = 3 then setBit r.released 8 true else r.released }

/-- D9: a fence in force stands from here on (R447), and a low QUENCH_IN_N counts as a stop (R733). -/
def State.portsUp (s : State) : State :=
  let s : State := if s.fm.fenceState = 0 then s
    else
      let s := s.fencePorts true
      let was := s.fm.fenceState
      let s : State := { s with fm := { s.fm with fenceState := 2, fencePns := s.pns } }
      if was = 2 then s else s.persist
  if s.pins.quenchHigh || s.pins.jtagOwns then s else s.acceptStop

/-- A flash command that a reset may have cut off is ended (R606): QSPI_CS_N is high for 100 ns, Reset Enable and
Reset are issued, and the first read waits 40 µs. -/
def State.flashReset (s : State) : State :=
  let high := s.elapsed + 100 * Config.stepsPerNs
  let s := (s.emit .flashCommand 0 (be 1 0x66)).emit .flashCommand 0 (be 1 0x99)
  { s with flash := { s.flash with selectHigh := high, readyAt := high + 40000 * Config.stepsPerNs } }

/-- Release Dn; D3 begins again after the loss of a clock (R586, R606). -/
def State.releaseDomain (s : State) (n : Nat) : State :=
  if n = 8 then s.waveUp 0
  else
    let s := s.modRst fun r => { r with
      released := setBit r.released n true, times := setAt r.times n s.elapsed, phase := n + 1
      loading := n = 3, optionsDone := r.optionsDone && decide (4 ≤ n) }
    if n = 2 then s.coresStart
    else if n = 3 then (if s.rst.lostAt = 0 then s else s.flashReset)
    else if n = 4 then ((s.diesOf 4).foldl State.runnerUp s).refettle
    else if n = 5 then s.timeUp
    else if n = 7 then s.memoryUp
    else if n = 9 then s.portsUp
    else s

/-! ## Domains going back into reset -/

/-- The units of domains `n` and later go into reset (R586). -/
def State.domainsDown (s : State) (n : Nat) : State :=
  if n ≤ 2 then { s.warmState with tb := if n ≤ 1 then { s.tb with active := Clock.fresh, standby := Clock.fresh }
                                         else s.tb }
  else
    let s : State := { s with units := { s.units with ports := s.units.ports.map fun e =>
      (e.1, { OptPort.fresh with fenced := e.2.fenced }) } }
    let s := if n ≤ 8 then (((List.range 128).foldl (fun s c => s.modTap c Tap.clusterReset) s).forgetClusters).dropSets fun _ => true
             else s
    let s := if n ≤ 7 then s.reserveGone else s
    let s := if n ≤ 5 then { s with wireA := s.wireA.down, wireR := s.wireR.down } else s
    if n ≤ 4 then { s with units := { Units.fresh with replicas := hubReplicas s.units.replicas } } else s

/-- A hub core fails its start-up self-check (R587, R591): the other core takes the pins and becomes active;
when both have failed the sequence holds before D3. -/
def State.coreFails (s : State) (core : Nat) : State :=
  let s := s.modCore core fun c => { c with proc := .failed, selfCheckPassed := some false }
  let s := s.logged Code.selfCheckFail (be 2 (coreUid core))
  if (s.hub.core (1 - core)).proc = .failed then
    (s.modRst fun r => { r with holdReason := 3 }).controllerWords Code.selfCheckFail
  else if s.owner = core then
    let tb := s.tb
    { s with
      pod := if core = s.activeCore then { s.pod with servo := s.pod.shadow, shadow := s.pod.servo } else s.pod
      hub := { s.hub with riserOwns := !s.hub.riserOwns, riserActive := !s.hub.riserOwns }
      tb := if core = s.activeCore then
          { tb with active := { s.standbyNow with counting := tb.active.counting }, standby := tb.active
                    tickIn := tb.tickInStandby, tickInStandby := tb.tickIn }
        else tb
      port := if (s.hub.core (1 - core)).selfCheckPassed = some true && s.port.claimLast = none then
          { s.port with claimSince := s.elapsed } else s.port }
  else s

end Sys2Proof.Machine
end

