-- ==== Sys2Proof/Machine/Reset.lean ====
section
/-!
DEFINITION. The resets and the release sequence: POR, RESET_N, the domains, the clocks, the self-check and
the storm hold (R573–R591, R605–R612, R733).
-/
namespace Sys2Proof.Machine

/-! ## Power-on reset -/

/-- POR_ASSERT (R574, R575, R579, R610, R611): everything but the backup domain. -/
def execPorAssert (dt : Nat) (s : State) : Host.Outcome State Fault Refusal :=
  let s := s.begin dt
  done (s.onlyIf (!s.rst.porAsserted) State.porState)

/-- The record has outlived the loss of supply for certain (R579, R580): HOLD had charged, and no more than
30 s have passed. -/
def State.holdLasts (s : State) : Bool :=
  decide (s.rst.times.getD 10 0 + 240000000 * Config.stepsPerNs ≤ s.rst.porAt) &&
    decide (s.elapsed ≤ s.rst.porAt + 30000000000 * Config.stepsPerNs)

/-- The backup record is lost (R579, R582): whether it outlives what R579 does not answer for is open. -/
def State.backupLost (s : State) : Bool := !(s.backup.valid && (s.holdLasts || s.freeNow % 2 = 1))

/-- The backup record at POR release (R578, R582): kept, or started afresh. -/
def State.checkBackup (s : State) : State :=
  let lost := s.backupLost
  let s := s.drawn
  if lost then { s with backup := { Backup.afresh with valid := true, msBase := s.elapsed } } else s

/-- POR_RELEASE (R577, R582, R605, R710): the record is checked, the reset counted once, the log restored,
and the sequence starts at D0. -/
def execPorRelease (dt : Nat) (s : State) : Host.Outcome State Fault Refusal :=
  let s := s.begin dt
  done (s.onlyIf s.rst.porAsserted fun s =>
    let r := s.rst
    let lost := s.backupLost
    let t := s.checkBackup
    let pin : Bool := r.resetNLow || r.overlapPin || r.counted
    let cause := 1 + 2 * bit pin + 4 * bit lost
    let t := if r.counted && !lost then { t with backup := { t.backup with cause := cause } } else t.countReset cause
    let records := t.log.mirror
    { t with
      rst := { Reset.fresh with porAsserted := false, resetNLow := r.resetNLow, porAt := r.porAt
                                times := setAt r.times 10 s.elapsed }
      log := { t.log with records := records, mirror := [], head := (records.getLast?.map LogRec.seq).getD 0 } })

/-! ## RESET_N -/

/-- WARM_RESET (R574, R576, R577, R605, R740): the reset is accepted, counted, and reaches as far as the
sequence has come; while a test instruction owns the pins, RESET_N is seen high. -/
def execWarmReset (dt : Nat) (s : State) : Host.Outcome State Fault Refusal :=
  let s := s.begin dt
  done (s.onlyIf (!s.rst.resetNLow && !s.pins.jtagOwns) fun s =>
    let s := s.modRst fun r => { r with resetNLow := true }
    if s.rst.porAsserted then s.modRst fun r => { r with overlapPin := true }
    else
      let s := s.countReset 2
      if s.rst.phase < 2 then s
      else
        let r := s.rst
        let cut := r.phase = 4 && !r.optionsDone && r.loading
        let hub := s.hub
        let w : State := { s.warmState with
          dram := s.openBuffers s.freeNow, freeCount := s.freeCount + 1 }
        if cut then
          { w with hub := hub, rst := { r with loading := false, holdReason := if r.holdReason = 1 then 0 else r.holdReason } }
        else
          { w with rst := { r.backTo 2 with
              fromPor := r.fromPor && r.phase ≤ 4 && !r.optionsDone
              holdReason := if r.holdReason = 1 then 0 else r.holdReason, lostAt := 0 } })

/-- RESET_N_SHORT (R576, R740): a filtered low shorter than 100 ns. -/
def execResetNShort (dt : Nat) (s : State) : Host.Outcome State Fault Refusal :=
  let s := s.begin dt
  done (s.onlyIf (!s.rst.resetNLow && !s.rst.porAsserted && !s.pins.jtagOwns) fun s =>
    s.modRst fun r => { r with resetIgnored := inc32 r.resetIgnored })

/-- WARM_RESET_RELEASE (R576, R605, R606, R610): the sequence goes on at D2, or D3 starts again; the flash is reset, and
a STOP condition precedes the first PMBus transaction. -/
def execWarmResetRelease (dt : Nat) (s : State) : Host.Outcome State Fault Refusal :=
  let s := s.begin dt
  done (s.onlyIf s.rst.resetNLow fun s =>
    let s := s.modRst fun r => { r with resetNLow := false }
    let s := if s.rst.porAsserted then s else s.flashReset.emit .pmbusStop 0 []
    let r := s.rst
    if !r.porAsserted && r.phase = 4 && !r.optionsDone && !r.loading then
      s.modRst fun r => { r with loading := true, times := setAt r.times 3 s.elapsed }
    else s)

/-! ## Domains -/

/-- What a die's domain holds when it comes back in service (R588). -/
def State.dieBack (s : State) (die n : Nat) : State :=
  let s := s.modRst fun r => { r with clockHeld := setBit r.clockHeld (die * 10 + n) false }
  if n = 4 then ((s.modRunner die fun r => { r with inReset := false, activeUid := s.activeUid }).admRestore die).setHealth
      (runnerUid die) 0
  else if n = 7 then s.setHealth (unitUid die 0x20) 0
  else if n = 8 then (List.range 8).foldl (fun s k => s.clusterUp (die * 8 + k)) s
  else if n = 9 then
    (List.range 4).foldl (fun s k => s.setHealth (unitUid die (0x40 + k)) 0) s
  else s

/-- Dies whose domain `n` is held after a loss in service and has no earlier domain held (R588). -/
def State.diesBack (s : State) (n : Nat) : List Nat :=
  (List.range 16).filter fun d => s.rst.clockHeld.getLsbD (d * 10 + n) &&
    (List.range n).all fun m => !s.rst.clockHeld.getLsbD (d * 10 + m)

/-- DOMAIN_RELEASE (R583, R590, R605, R612): the domain that the sequence waits for; in service, the dies
whose clock has come back (R588). -/
def execDomainRelease (dt : Nat) (n : Nat) (s : State) : Host.Outcome State Fault Refusal :=
  let s := s.begin dt
  done (if s.mayRelease n && s.gapOver n && s.clockAged n && (n ≠ 8 || s.rst.d8Waves = 0) then s.releaseDomain n
    else if s.rst.phase = 10 && s.clockAged n then (s.diesBack n).foldl (fun s d => s.dieBack d n) s
    else s)

/-- D8_WAVE (R585): wave 0 under R583, each later one max(16,384, gap 8) cycles after the one before. -/
def execD8Wave (dt : Nat) (w : Nat) (s : State) : Host.Outcome State Fault Refusal :=
  let s := s.begin dt
  let due : Bool :=
    if w = 0 then s.gapOver 8 && s.clockAged 8
    else decide (s.rst.times.getD 8 0 + cycles (Nat.max 16384 (s.gapOf 8)) ≤ s.elapsed)
  done (s.onlyIf (s.mayRelease 8 && s.rst.d8Waves = w && decide (w < 4) && due) fun s => s.waveUp w)

/-! ## Clocks -/

/-- Domains of a die that the clock gating domain `n` gates (R583). -/
def clockDomains (n : Nat) : List Nat :=
  if n = 4 then [4] else if n = 6 ∨ n = 8 then [6, 7, 8] else if n = 7 then [7] else if n = 9 then [9] else []

/-- A clock that a die has: only perimeter dies have an optical reference PLL. -/
def dieClock (n die : Nat) : Bool := !(clockDomains n).isEmpty && decide (die < 16) && (n ≠ 9 || perimeter die)

/-- CLOCK_LOST (R586): a released domain's clock-good falls before D9 has been released. -/
def execClockLost (dt : Nat) (domain die : Nat) (s : State) : Host.Outcome State Fault Refusal :=
  let s := s.begin dt
  let r := s.rst
  done (s.onlyIf (!r.porAsserted && decide (r.phase < 10) && decide (1 ≤ domain) &&
      (r.released.getLsbD domain || (domain = 8 && decide (0 < r.d8Waves))) && !s.dieHeld die domain) fun s =>
    let s := s.domainsDown domain
    let s := s.modRst fun r => { r.backTo domain with
      clockLostCount := inc32 r.clockLostCount, lostAt := s.elapsed }
    s.logged Code.clockLost (be 1 domain ++ be 1 die))

/-- The units of a die's domain go into reset in service (R588). -/
def State.dieDown (s : State) (die n : Nat) : State :=
  let s := s.modRst fun r => { r with clockHeld := setBit r.clockHeld (die * 10 + n) true }
  if n = 4 then
    let s := (s.assertRunner die).setHealth (runnerUid die) 2
    (List.range 8).foldl (fun s k =>
      let c := die * 8 + k
      (s.modTap c fun x => { Tap.fresh with inReset := x.inReset, coreClock := x.coreClock
                                            stoppedSlots := x.stoppedSlots, secure := x.secure
                                            secureKnown := x.secureKnown }).resetRep (tapUid c)) s
  else if n = 7 then s.reserveGone.setHealth (unitUid die 0x20) 2
  else if n = 8 then
    (List.range 8).foldl (fun s k =>
      let c := die * 8 + k
      let s := s.assertCluster c
      if s.health (ccpUid c) = 3 then s else s.setHealth (ccpUid c) 2) s
  else if n = 9 then
    (List.range 4).foldl (fun s k =>
      let p := perimeterIndex die * 4 + k
      (s.modPort p fun x => { x with linkUp := false, frozen := none, dRx := none, coarse := false }).setHealth
        (unitUid die (0x40 + k)) 2) s
  else s

/-- CLOCK_LOST_IN_SERVICE (R588): the die's domains of that clock go into reset. -/
def execClockLostInService (dt : Nat) (domain die : Nat) (s : State) : Host.Outcome State Fault Refusal :=
  let s := s.begin dt
  done (s.onlyIf (s.rst.phase = 10 && dieClock domain die && !s.dieHeld die domain) fun s =>
    let s := (clockDomains domain).foldl (fun s n => s.dieDown die n) s
    let s := s.modRst fun r => { r with lostAt := s.elapsed }
    s.logged Code.clockLost (be 1 domain ++ be 1 die))

/-- A die is lost from a domain on (R587): the units of the domain stay in reset there. -/
def State.loseDie (s : State) (die n : Nat) : State :=
  let s := s.modRst fun r => { r with
    lostDies := setBit r.lostDies die true, lostFrom := Tab.put r.lostFrom die n }
  let s := if n = 4 then (s.modRunner die Runner.restarted).setHealth (runnerUid die) 2 else s
  let s := if n ≤ 7 then s.setHealth (unitUid die 0x20) 2 else s
  let s := if n ≤ 8 then (List.range 8).foldl (fun s k =>
      let s := s.modTap (die * 8 + k) Tap.clusterReset
      if s.health (ccpUid (die * 8 + k)) = 3 then s else s.setHealth (ccpUid (die * 8 + k)) 2) s else s
  if perimeter die then (List.range 4).foldl (fun s k => s.setHealth (unitUid die (0x40 + k)) 2) s else s

/-- The limit of R587 on a domain has passed. -/
def State.clockLate (s : State) (n : Nat) : Bool :=
  decide (s.gapFrom n + cycles (s.gapOf n + Config.clockTimeoutCycles) ≤ s.elapsed)

/-- CLOCK_TIMEOUT (R587, R612): the die is lost and the domain released elsewhere; a hub core counts as failing
its self-check. -/
def execClockTimeout (dt : Nat) (domain die : Nat) (s : State) : Host.Outcome State Fault Refusal :=
  let s := s.begin dt
  let r := s.rst
  let core := bit (die = 15)
  done (if domain = 2 ∨ domain = 3 ∨ domain = 5 then
      s.onlyIf ((die = 0 || die = 15) && !r.porAsserted && r.phase = domain && s.clockLate domain &&
        (s.hub.core core).proc ≠ .failed) fun s => s.coreFails core
    else
      s.onlyIf (dieClock domain die && !s.dieHeld die domain &&
          ((s.mayRelease domain && s.clockLate domain) ||
            (r.released.getLsbD domain && r.times.getD domain 0 = s.elapsed))) fun s =>
        let s := (s.loseDie die domain).logged Code.clockTimeout (be 1 die)
        if s.rst.phase = domain && (domain ≠ 8 || s.rst.d8Waves = 0) then s.releaseDomain domain else s)

/-! ## Self-check and holds -/

/-- SELF_CHECK_DONE (R590, R591, R622): the port's endpoint starts after the owner's pass. -/
def execSelfCheckDone (dt : Nat) (core : Nat) (pass : Bool) (s : State) : Host.Outcome State Fault Refusal :=
  let s := s.begin dt
  done (s.onlyIf ((s.hub.core core).proc = .selfCheck) fun s =>
    if !pass then s.coreFails core
    else
      let s := s.modCore core fun c => { c with proc := .bootRom, selfCheckPassed := some true }
      if core = s.owner && s.port.claimLast = none then { s with port := { s.port with claimSince := s.elapsed } }
      else s)

/-- What a write of StormRelease does, and its answer. -/
def State.cmdStormRelease (s : State) (value : Nat) : Reply :=
  if value ≠ 1 then s.refuse Abort.valueRange
  else if s.rst.holdReason ≠ 1 then s.refuse Abort.busy
  else
    let s := s.modRst fun r => { r with holdReason := 0 }
    let s : State := { s with backup := { s.backup with head := 0, fill := 0, ring := List.replicate 16 0 } }
    (s.logged Code.stormReleased []).accept

/-- STORM_RELEASE (R609): the ring is emptied and the sequence goes on at D4. -/
def execStormRelease (dt : Nat) (req : Req) (value : Nat) (s : State) : Host.Outcome State Fault Refusal :=
  done ((s.begin dt).serve req 0x3020 1 .write fun _ s => s.cmdStormRelease value)

end Sys2Proof.Machine
end

