-- ==== Sys2Proof/Machine/Access.lean ====
section
/-!
DEFINITION. Writes of objects in general: what a whole value written to any object does, WRITE, STAGE,
COMMIT and the log's objects (R211–R218, R629, R630, R641–R643, R653, R711, R712).
-/
namespace Sys2Proof.Machine

/-! ## A whole value (R630, R641, R653) -/

/-- QU_CMD (R306). -/
def State.quCmd (s : State) (v : Nat) : Reply :=
  match v with
  | 1 => s.cmdQuCmdArm
  | 2 => s.cmdQuCmdCancel
  | 3 => s.cmdQuCmdStep
  | 4 => s.cmdQuCmdResume
  | 5 => s.cmdQuCmdPeek
  | _ => s.refuse Abort.valueRange

/-- SO_CMD (R364). -/
def State.soCmd (s : State) (v : Nat) : Reply :=
  match v with
  | 1 => s.cmdSoStart
  | 2 => s.cmdSoStartRef
  | 3 => s.cmdSoAbort
  | 4 => s.cmdSoFettleReserve
  | _ => s.refuse Abort.valueRange

/-- ADM_CMD (R461). -/
def State.admCmd (s : State) (v : Nat) : Reply :=
  match v with
  | 1 => s.cmdAdmBegin
  | 2 => s.cmdAdmServe
  | 3 => s.cmdAdmAbort
  | _ => s.refuse Abort.valueRange

/-- SUSPECT_CMD (R461). -/
def State.suspectCmd (s : State) (v : Nat) : Reply :=
  if v = 1 then s.cmdSuspectCmdClear else s.refuse Abort.valueRange

/-- UNIT_RESET (R403). -/
def State.resetCmd (s : State) (uid mode : Nat) : Reply :=
  let part := modePart mode
  let att := modeAttested mode
  match modeAction mode with
  | 0 => s.cmdUnitResetPulse uid part att
  | 1 => s.cmdUnitResetHold uid part att
  | 2 => s.cmdUnitResetRelease uid part att
  | _ => s.refuse (if uidPresent uid then Abort.valueRange else Abort.unitUnknown)

/-- TB_PROBE_RUN (R492). -/
def State.probeCmd (s : State) (b : List Byte) : Reply :=
  let mode := fieldBe b 7 1
  if 1 < mode then s.refuse Abort.valueRange
  else s.startRun (fieldBe b 0 4) (fieldBe b 4 2) (fieldBe b 6 1) (mode = 1)

/-- What acceptance of an entry starts, by its action (R226, R227). -/
def State.entryAccepted (action n : Nat) (e : SchedEntry) (s : State) : State :=
  match action with
  | 1 => s.acceptQuench n e false false
  | 2 => (s.acceptQuench n e true false).podOrder n e.time
  | 3 => s.acceptStep n e
  | 4 => (s.acceptResume n e).releaseStop
  | _ => s

/-- SCHED_ENTRY (R225, R240). -/
def State.entryCmd (s : State) (n : Nat) (b : List Byte) : Reply :=
  let action := fieldBe b 0 1
  if action = 0 then s.emptyWrite n
  else s.entryWrite n action (fieldBe b 1 8) (fieldBe b 9 1) (State.entryAccepted action)

/-- LOG_ACK (R712). -/
def State.ackLog (s : State) (seq : Nat) : Reply :=
  if s.log.records.any fun r => r.seq = seq && r.urgent then
    let mark (r : LogRec) : LogRec :=
      if r.seq = seq then { r with flags := if bitOf r.flags 2 then r.flags else r.flags + 4 } else r
    State.accept { s with log := { s.log with records := s.log.records.map mark } }
  else s.refuse Abort.recordUnknown

/-- The objects whose write is a command or has checks of its own, up to index 0x4FFF. -/
def State.ownWriteLow (s : State) (r : ObjRow) (sub : Nat) (b : List Byte) : Option Reply :=
  let v := ofBe b
  match r.idx, sub with
  | 0x2010, 0x0A => some (s.cmdServoRestart v)
  | 0x2050, k => if k ≤ 32 then some (s.entryCmd (k - 1) b) else none
  | 0x3010, _ => some (s.resetCmd (fieldBe b 0 2) (fieldBe b 2 1))
  | 0x3020, 1 => some (s.cmdStormRelease v)
  | 0x3110, _ => some (s.cmdContextRemove v)
  | 0x3120, 0 => some (s.cmdRecoveryLevel v)
  | 0x4102, _ => some (s.quCmd v)
  | 0x4201, _ => some (s.soCmd v)
  | 0x4204, _ => some (s.reserveWrite r sub b)
  | 0x4205, _ => some (s.reserveWrite r sub b)
  | 0x4211, _ => some (s.cmdSoAck v)
  | _, _ => none

/-- The objects whose write is a command or has checks of its own, from index 0x6000. -/
def State.ownWriteHigh (s : State) (c : Ctx) (idx sub : Nat) (b : List Byte) : Option Reply :=
  let v := ofBe b
  match idx, sub with
  | 0x6010, 3 => some (s.cmdTbEventAck v)
  | 0x6011, 1 => some (s.cmdTbQuarantineClear v)
  | 0x6020, 0 => some (s.loadKernel b)
  | 0x6021, _ => some (s.probeCmd b)
  | 0x9002, _ => some (s.ackLog v)
  | 0xA011, _ => some (s.tokenWrite c b)
  | 0xA020, k => some (s.keyWrite (k - 1) b)
  | 0xA030, 0 => some (s.cmdFwUpdate b)
  | 0xA030, 2 => some (s.cmdFwUpdateApply v)
  | 0xB000, 0 => some (s.admCmd v)
  | 0xB010, _ => some (s.orderWrite b)
  | 0xB021, 1 => some (s.suspectCmd v)
  | _, _ => none

/-- A whole value written to an object: its own rules, or its type and range, and the value in force. -/
def State.wholeWrite (s : State) (c : Ctx) (r : ObjRow) (sub : Nat) (b : List Byte) : Reply :=
  match (s.ownWriteLow r sub b).orElse fun _ => s.ownWriteHigh c r.idx sub b with
  | some a => a
  | none => if valueFits r sub b then (s.objWrite r sub b).accept else s.refuse Abort.valueRange

/-- The octets written fit the value: a range within it, and the whole of a WO object (R629, R630). -/
def ObjRow.rangeOk (r : ObjRow) (off len : Nat) : Bool :=
  decide (0 < len) && decide (off + len ≤ r.type.size) && (r.access ≠ .wo || (off = 0 && len = r.type.size))

/-- The whole value that a partial write makes, from the value in force (R630). -/
def State.mergedValue (s : State) (c : Ctx) (r : ObjRow) (sub off : Nat) (b : List Byte) : List Byte :=
  if off = 0 ∧ b.length = r.type.size then b else overlay (s.objValue none (s.sessionOf c) r.idx sub) off b

/-- REGISTER_WRITE (R629, R630, R641). -/
def execRegisterWrite (dt : Nat) (req : Req) (idx sub off : Nat) (bytes : List Byte) (s : State) :
    Host.Outcome State Fault Refusal :=
  done ((s.begin dt).serve req idx sub .write fun c s =>
    match objRow idx sub with
    | none => s.refuse Abort.objectUnknown
    | some r =>
      if !r.rangeOk off bytes.length then s.refuse Abort.badLength
      else s.wholeWrite c r sub (s.mergedValue c r sub off bytes))

/-! ## Change sets (R211–R215) -/

/-- The open change set of a requester. -/
def State.changeSet (s : State) (who : Requester) : List Staged :=
  ((s.frame.sets.find? fun x => x.writer = who).map ChangeSet.values).getD []

/-- The staged copy of an object, if the set has one. -/
def stagedCopy (l : List Staged) (idx sub : Nat) : Option Staged :=
  l.find? fun v => v.idx = idx && v.sub = sub

/-- A set with the value of an object staged: in its place, or at the end (R212). -/
def stageInto (l : List Staged) (v : Staged) : List Staged :=
  if (stagedCopy l v.idx v.sub).isSome then l.map fun x => if x.idx = v.idx ∧ x.sub = v.sub then v else x
  else l ++ [v]

/-- Octets of a set's values. -/
def setBytes (l : List Staged) : Nat := (l.map fun v => v.bytes.length).sum

/-- A requester's change set takes values. -/
def State.putSet (s : State) (who : Requester) (l : List Staged) : State :=
  let others := s.frame.sets.filter fun x => x.writer ≠ who
  { s with frame := { s.frame with sets := others ++ [⟨who, l⟩] } }

/-- What a STAGE of a value does, after the range: size, set, form, and the lifecycle's hold (R211, R212,
R671, R746). -/
def State.stageValue (s : State) (c : Ctx) (r : ObjRow) (sub : Nat) (b : List Byte) : Reply :=
  let l := stageInto (s.changeSet c.who) ⟨r.idx, sub, b⟩
  if 2048 < b.length then s.refuse Abort.tooLarge
  else if 1024 < l.length ∨ 32768 < setBytes l then s.refuse Abort.stageFull
  else if !valueFits r sub b then s.refuse Abort.valueRange
  else if s.lc.storeA.fettlePending ∧ r.idx / 4096 = 5 then s.refuse Abort.busy
  else (s.putSet c.who l).accept

/-- STAGE (R211, R212, R630). -/
def execStage (dt : Nat) (req : Req) (idx sub off : Nat) (bytes : List Byte) (s : State) :
    Host.Outcome State Fault Refusal :=
  done ((s.begin dt).serve req idx sub .stage fun c s =>
    match objRow idx sub with
    | none => s.refuse Abort.objectUnknown
    | some r =>
      if !r.rangeOk off bytes.length then s.refuse Abort.badLength
      else
        let b := match stagedCopy (s.changeSet c.who) idx sub with
          | some v => overlay v.bytes off bytes
          | none => s.mergedValue c r sub off bytes
        s.stageValue c r sub b)

/-- Forget a requester's change set. -/
def State.dropSet (s : State) (who : Requester) : State :=
  { s with frame := { s.frame with sets := s.frame.sets.filter fun x => x.writer ≠ who } }

/-- Groups left after a tick has taken up to `m` eligible ones at FRAME_NUMBER `n` (R216). -/
def groupsAfter (n : Nat) : Nat → List CommitGroup → List CommitGroup
  | _, [] => []
  | 0, l => l
  | m + 1, g :: l => if g.eligible ≤ n then groupsAfter n m l else g :: groupsAfter n (m + 1) l

/-- The tick, from `n` on, at which the last of the groups is planned (R216, R218). -/
def plannedTick (n : Nat) : Nat → List CommitGroup → Nat
  | 0, _ => n
  | k + 1, l => if (groupsAfter n 8 l).isEmpty then n else plannedTick (n + 1) k (groupsAfter n 8 l)

/-- FRAME_NUMBER of the next tick (R205). -/
def State.nextNumber (s : State) : Nat := if s.frame.ticked then s.frame.number + 1 else 0

/-- The first tick at which a COMMIT accepted now is eligible (R215). -/
def State.commitEligible (s : State) : Nat := s.nextNumber + bit (s.frame.frozen || s.slotBegun 15)

/-- The commit groups of a set (R213, R218). -/
def commitGroups (who : Requester) (id eligible : Nat) (notify : Bool) : List (List Staged) → List CommitGroup
  | [] => []
  | [l] => [⟨who, id, l, eligible, true, notify⟩]
  | l :: m => ⟨who, id, l, eligible, false, notify⟩ :: commitGroups who id eligible notify m

/-- What a COMMIT does (R213–R218, R643). -/
def State.commitSet (s : State) (c : Ctx) (indivisible notify : Bool) : Reply :=
  let parts := splitGroups [] (s.changeSet c.who)
  if parts.isEmpty then s.refuse Abort.noChangeSet
  else if indivisible ∧ 1 < parts.length then ⟨s.dropSet c.who, Abort.tooLarge, []⟩
  else
    let groups := commitGroups c.who s.frame.nextSetId s.commitEligible notify parts
    let s := s.dropSet c.who
    let all := s.frame.groups ++ groups
    let s : State := { s with frame := { s.frame with groups := all, nextSetId := s.frame.nextSetId + 1 } }
    ⟨s, Abort.ok, be 8 (plannedTick s.nextNumber (all.length + 2) all) ++ be 2 parts.length⟩

/-- COMMIT (R213–R218). -/
def execCommit (dt : Nat) (req : Req) (indivisible notify : Bool) (s : State) : Host.Outcome State Fault Refusal :=
  done ((s.begin dt).serveAny req fun c s => s.commitSet c indivisible notify)

/-! ## The log -/

/-- LOG_ACK (R431, R712). -/
def execLogAck (dt : Nat) (req : Req) (seq : Nat) (s : State) : Host.Outcome State Fault Refusal :=
  done ((s.begin dt).serve req 0x9002 0 .write fun _ s => s.ackLog seq)

/-- LOG_READ (R711, R713). -/
def execLogRead (dt : Nat) (req : Req) (s : State) : Host.Outcome State Fault Refusal :=
  done ((s.begin dt).serveRead req 0x9001 0 0 0 fun _ s => (s, Abort.ok, s.logRead))

/-! ## Block transfers (R644–R647, R655) -/

/-- What reading an object through a transfer gives and does (R97, R198, R347, R361, R487, R677); what
the copies of a record in the stacks hold is open (log entry 9). -/
def State.openedValue (s : State) (c : Ctx) (idx sub : Nat) : State × Nat × List Byte :=
  let value := s.objValue (Tab.find s.tb.fracLatch c.latchKey) (s.sessionOf c) idx sub
  match idx, sub with
  | 0x2000, _ =>
    ({ s with tb := { s.tb with fracLatch := Tab.put s.tb.fracLatch c.latchKey (s.pns16 % 65536) } }, Abort.ok, value)
  | 0x2030, 1 =>
    (match s.pod.txts with
     | [] => (s.drawn, Abort.ok, value)
     | _ :: rest => ({ s with pod := { s.pod with txts := rest } }, Abort.ok, value))
  | 0x4203, 2 => (s, if s.selectedImage.isSome then Abort.ok else Abort.imageUnknown, value)
  | 0x4203, 4 =>
    let v := s.freeNow
    (match s.selectedImage with
     | none => (s, Abort.imageUnknown, [])
     | some g =>
       if g.dumpSecure && !s.readsSecure c then (s, Abort.notAuthorized, [])
       else
         match s.findRecord g (v % 2 = 1) (v / 2 % 2 = 1) with
         | (code, data) => (s.drawn, code, data))
  | 0x6010, 2 =>
    (s, if s.bar.events.any fun e => e.seq = s.bar.eventSelect then Abort.ok else Abort.imageUnknown, value)
  | 0xA010, _ =>
    (match s.newChallenge c with
     | (s, n) => (s, Abort.ok, n))
  | _, _ => (s, Abort.ok, value)

/-- The range of a write transfer (R629, R630): a BLOB is written from its start, or within the value in
force. -/
def State.transferFits (s : State) (c : Ctx) (r : ObjRow) (sub off len : Nat) : Bool :=
  if r.type = .blob then
    decide (0 < len) && (off = 0 ||
      (r.access ≠ .wo && decide (off + len ≤ (s.objValue none (s.sessionOf c) r.idx sub).length)))
  else r.rangeOk off len

/-- A write transfer opens (R644, R647, R655). -/
def State.openWrite (s : State) (c : Ctx) (r : ObjRow) (sub off len : Nat) : Reply :=
  if !s.transferFits c r sub off len then s.refuse Abort.badLength
  else if !s.blockRoom c.who || (r.idx = 0xA030 && sub = 0 && s.updating) then s.refuse Abort.busy
  else s.openBlock c r.idx sub true off len [] 0

/-- A read transfer opens: room and range before the object's own effect. -/
def State.openAsRead (s : State) (c : Ctx) (idx sub off len : Nat) : Reply :=
  if !s.blockRoom c.who then s.refuse Abort.busy
  else
    match s.openedValue c idx sub with
    | (t, code, value) =>
      if code ≠ Abort.ok then s.refuse code
      else if value.length < off + len then s.refuse Abort.badLength
      else t.openRead c idx sub off len value

/-- BLK_OPEN (R644, R646, R647). -/
def execBlkOpen (dt : Nat) (req : Req) (idx sub dir off len : Nat) (s : State) : Host.Outcome State Fault Refusal :=
  let s := s.begin dt
  let id := s.newBlockId
  let s := s.serve req idx sub (if dir = 1 then .blkWrite else .blkRead) fun c s =>
    match objRow idx sub with
    | none => s.refuse Abort.objectUnknown
    | some r =>
      if 1 < dir then s.refuse Abort.badLength
      else if dir = 1 then s.openWrite c r sub off len
      else s.openAsRead c idx sub off len
  done (if dir = 0 then s.pumpBlock id (524320 / blkUnit + 2) else s)

/-- Octets of a value placed at an offset; what lies before and has not come is zero until it comes. -/
def placeAt (b : List Byte) (off : Nat) (data : List Byte) : List Byte :=
  (b ++ zeros (off - b.length)).take off ++ data ++ b.drop (off + data.length)

/-- The frame's place in its transfer: aligned, full unless it is the last, within TOTAL (R644). -/
def Block.frameOk (b : Block) (off len : Nat) : Bool :=
  off % blkUnit = 0 && decide (off < b.total) && len = Nat.min blkUnit (b.total - off)

/-- The transfer that a request of `c` may feed or close. -/
def State.ownBlock (s : State) (c : Ctx) (id : Nat) : Option Block :=
  (s.port.block id).filter fun b => b.requester = c.who

/-- What a BLK_DATA of the peer does (R644, R647). -/
def State.takeData (s : State) (c : Ctx) (id off : Nat) (data : List Byte) : Reply :=
  match (s.ownBlock c id).filter Block.write with
  | none => s.refuse Abort.blockUnknown
  | some b =>
    if !b.frameOk off data.length then s.refuse Abort.badLength
    else
      let b := { b with bytes := placeAt b.bytes off data, lastFrame := s.elapsed
                        done := if b.done.contains off then b.done else b.done ++ [off] }
      State.accept { s with port := s.port.putBlock b }

/-- BLK_DATA (R644). -/
def execBlkData (dt : Nat) (req : Req) (block off : Nat) (bytes : List Byte) (s : State) :
    Host.Outcome State Fault Refusal :=
  done ((s.begin dt).serveAny req fun c s => s.takeData c block off bytes)

/-- Every frame of a write transfer has come. -/
def Block.complete (b : Block) : Bool := b.done.length = (b.total + blkUnit - 1) / blkUnit

/-- The peer's CRC-32C over the TOTAL octets matches (R645). -/
def Block.matches (b : Block) (crc : Nat) : Bool := (!b.write || b.complete) && crc32c b.bytes = crc

/-- The whole value that a write transfer makes (R630, R645). -/
def State.closedValue (s : State) (c : Ctx) (r : ObjRow) (b : Block) : List Byte :=
  if r.type = .blob ∧ b.offset = 0 then b.bytes else s.mergedValue c r b.sub b.offset b.bytes

/-- A lifecycle request at its close: the answer goes out before the change closes the session (R670). -/
def State.closeLcRequest (s : State) (c : Ctx) (b : List Byte) : State :=
  match s.lcCheck c b with
  | (s, some code) => s.answer c code []
  | (s, none) => (s.answer c Abort.ok []).lcChange b

/-- A write transfer takes effect: access is judged again, then the value is written. -/
def State.closeWrite (s : State) (c : Ctx) (b : Block) : State :=
  match objRow b.idx b.sub, s.objCheck c.rank b.idx b.sub .blkWrite with
  | none, _ => s.answer c Abort.objectUnknown []
  | some _, some code => s.answer c code []
  | some r, none =>
    let v := s.closedValue c r b
    if b.idx = 0xA001 then s.closeLcRequest c v
    else
      let a := s.wholeWrite c r b.sub v
      a.state.answer c a.code a.data

/-- What a BLK_CLOSE does (R645, R647): the transfer has ended. -/
def State.closeBlock (s : State) (c : Ctx) (id crc : Nat) : State :=
  match s.ownBlock c id with
  | none => s.answer c Abort.blockUnknown []
  | some b =>
    let s := s.dropBlock id
    if !b.matches crc then s.answer c Abort.blkCrc []
    else if b.write then s.closeWrite c b
    else s.answer c Abort.ok []

/-- BLK_CLOSE (R645). -/
def execBlkClose (dt : Nat) (req : Req) (block crc : Nat) (s : State) : Host.Outcome State Fault Refusal :=
  done (match (s.begin dt).admitReq req with
    | (s, none) => s
    | (s, some c) => s.closeBlock c block crc)

/-- A transfer ends with TIMEOUT (R644, R647): told under the BLK_OPEN's SEQUENCE. -/
def State.timeOutBlock (s : State) (b : Block) : State :=
  let s := s.dropBlock b.id
  match b.requester with
  | .chip uid => s.emit .result (65536 + uid) (prorosHeader 0xD 0 0 0 0 uid 4 b.openSeq ++ be 4 Abort.timeout)
  | .session sid =>
    match s.port.session sid with
    | none => s
    | some x => s.sendIn .result x 0xD 0 b.openSeq (be 4 Abort.timeout)

/-- A frame of a read transfer is sent again (R644). -/
def State.resendData (s : State) (b : Block) (f : BlkSent) : State :=
  match b.requester with
  | .chip _ => s
  | .session sid =>
    match s.port.session sid with
    | none => s
    | some x =>
      let data := slice b.bytes f.offset (Nat.min blkUnit (b.total - f.offset))
      let b := { b with sent := b.sent.map fun g =>
        if g.seq = f.seq then { g with sentAt := s.elapsed, resends := g.resends + 1 } else g }
      State.emit { s with port := s.port.putBlock b } .blkData sid
        (s.sealed x 6 8 f.seq 0 (blkPayload b.id f.offset data))

/-- BLK_DATA_RESEND (R644): 200 ms without its acknowledgement; after 5 resends the transfer ends. -/
def execBlkDataResend (dt : Nat) (block seq : Nat) (s : State) : Host.Outcome State Fault Refusal :=
  let s := s.begin dt
  done (match s.port.block block with
    | none => s
    | some b =>
      match b.sent.find? fun f => f.seq = seq with
      | none => s
      | some f =>
        s.onlyIf (decide (f.sentAt + 200000000 * Config.stepsPerNs ≤ s.elapsed)) fun s =>
          if 5 ≤ f.resends then s.timeOutBlock b else s.resendData b f)

/-- BLK_TIMEOUT (R647): no frame for 10 s. -/
def execBlkTimeout (dt : Nat) (block : Nat) (s : State) : Host.Outcome State Fault Refusal :=
  let s := s.begin dt
  done (match s.port.block block with
    | none => s
    | some b =>
      s.onlyIf (decide (b.lastFrame + 10000000000 * Config.stepsPerNs ≤ s.elapsed)) fun s => s.timeOutBlock b)

end Sys2Proof.Machine
end

