-- ==== Sys2Proof/Machine/Chill.lean ====
section
/-!
DEFINITION. Half-dies moving into and out of chill, as the taps see it (R25, R48, R272, R273, R292).
-/
namespace Sys2Proof.Machine

/-- Clusters of a half: half 2 × die + h holds clusters 4h to 4h + 3 of the die. -/
def halfClusters (half : Nat) : List Nat := (List.range 4).map fun k => half / 2 * 8 + half % 2 * 4 + k

/-- Mark a half. -/
def State.setChilled (s : State) (half : Nat) (b : Bool) : State :=
  { s with topo := { s.topo with chilled := setBit s.topo.chilled half b } }

/-- A tap as cclk of its half is gated: the slots that stood still already are kept, and a running step is put
off (R25, R44). -/
def Tap.gate (x : Tap) (now : Nat) : Tap :=
  if x.inReset then x
  else
    let x := if x.stepRunning && decide (x.stepEnds ≤ now) then x.endStep else x
    { x with stoppedSlots := ~~~x.coreClock, coreClock := 0, stepLeft := if x.stepRunning then x.stepEnds - now else 0 }

/-- CHILL_ENTRY (R25): the half's cclk is gated. -/
def execChillEntry (dt : Nat) (half : Nat) (s : State) : Host.Outcome State Fault Refusal :=
  let s := s.begin dt
  done (s.onlyIf (decide (half < 32) && !s.topo.chilled.getLsbD half) fun s =>
    (halfClusters half).foldl (fun s c => s.modTap c fun x => x.gate s.elapsed) (s.setChilled half true))

/-- A step whose TIME has passed is armed. -/
def Tap.stepDue (x : Tap) (pns : Nat) : Bool :=
  match x.releaseArm with
  | .step _ t _ => decide (t ≤ pns)
  | _ => false

/-- A tap at the first cclk edges after chill exit (R48, R273): a put-off step goes on, a latched stop acts, then
a latched release or step. -/
def Tap.wake (x : Tap) (now pns : Nat) : Tap :=
  if x.inReset then x
  else
    let x := { x with coreClock := ~~~x.stoppedSlots, stoppedSlots := 0
                      stepEnds := if x.stepRunning then now + x.stepLeft else x.stepEnds, stepLeft := 0 }
    let x := if x.latchedStop then { x with coreClock := x.coreClock &&& ~~~x.coreSelect, latchedStop := false } else x
    if !x.latchedRelease then x
    else if x.stepDue pns then x.startStep now
    else { x.runSelected with latchedRelease := false }

/-- The 100 µs of STEP_OVERRUN run from here for a tap that was chilled at TIME (R292). -/
def State.stepFromNow (s : State) (c : Nat) : State :=
  if s.qu.stepping.getLsbD c && (Tab.find s.qu.stepFrom c).isNone then
    { s with qu := { s.qu with stepFrom := Tab.put s.qu.stepFrom c s.pns } }
  else s

/-- CHILL_EXIT (R48, R273, R292). -/
def execChillExit (dt : Nat) (half : Nat) (s : State) : Host.Outcome State Fault Refusal :=
  let s := s.begin dt
  done (s.onlyIf (decide (half < 32) && s.topo.chilled.getLsbD half) fun s =>
    (halfClusters half).foldl
      (fun s c => (s.modTap c fun x => x.wake s.elapsed (s.replicaPns (tapUid c))).stepFromNow c)
      (s.setChilled half false))

end Sys2Proof.Machine
end

