-- ==== Sys2Proof/Machine/Options.lean ====
section
/-!
DEFINITION. Option loading (R595–R607, R662, R663, R742, R745) and the ends of the two flash writes (R602,
R604, R664, R745).
-/
namespace Sys2Proof.Machine

/-! ## The strap (R596–R598) -/

/-- The sum of `n` readings lies within 25 mV of an edge, or at 1,600 mV or more (R596). -/
def strapNear (sum n : Nat) : Bool :=
  decide (1600 * n ≤ sum) || (List.range 17).any fun k =>
    decide (sum ≤ (100 * k + 25) * n) && decide (100 * k * n ≤ sum + 25 * n)

/-- Repeated conversions are needed. -/
def strapRepeated (r : OptionRead) : Bool := strapNear r.strapMv 1

/-- The sum of the readings that count and their number. -/
def strapTaken (r : OptionRead) : Nat × Nat := if strapRepeated r then (r.repeats.sum, 8) else (r.strapMv, 1)

/-- STRAP_AMBIGUOUS. -/
def strapUnclear (r : OptionRead) : Bool := strapNear (strapTaken r).1 (strapTaken r).2

/-- STRAP_CODE. -/
def strapCodeOf (r : OptionRead) : Nat := if strapUnclear r then 0 else (strapTaken r).1 / (100 * (strapTaken r).2)

/-- STRAP_MV: the rounding of a mean that is no whole number is open. -/
def strapMvOf (r : OptionRead) (free : Nat) : Nat :=
  let t := strapTaken r
  if t.1 % t.2 = 0 then t.1 / t.2 else t.1 / t.2 + free % 2

/-- The strap takes effect (R596–R598): role and tick source only after POR. -/
def State.takeStrap (s : State) (r : OptionRead) : State :=
  let code := strapCodeOf r
  let was := 8 * bit s.rst.roleBit + s.rst.strapCode / 2 % 4 * 2 + bit s.rst.tickSourceBit
  let mv := strapMvOf r s.freeNow
  let s := s.drawn
  let s := s.modRst fun x => { x with strapCode := code, strapMv := mv, strapAmbiguous := strapUnclear r }
  let role := bitOf code 3
  let tick := bitOf code 0
  if s.rst.fromPor then
    let s := s.modRst fun x => { x with roleBit := role, tickSourceBit := tick }
    { s with pod := { s.pod with role := if role then 2 else 0 } }
  else if role = s.rst.roleBit ∧ tick = s.rst.tickSourceBit then s
  else s.logged Code.strapChanged (be 1 was ++ be 1 code)

/-! ## The option block (R601) -/

/-- Every RWP object at its default. -/
def State.rwpDefaults (s : State) : State :=
  { s with
    pod := { s.pod with gmPriority := 128 }
    rst := { s.rst with gaps := List.replicate 10 4096, stormLimit := 16 }
    dump := { s.dump with
      reserveBase := Dump.fresh.reserveBase, reserveBaseT2 := Dump.fresh.reserveBaseT2
      reserveSize := Dump.fresh.reserveSize, reserveSizeT2 := Dump.fresh.reserveSizeT2, tier2Reserve := false }
    power := { s.power with rails := [], pmbKhz := 400 }
    lc := { s.lc with mgrKeys := List.replicate 5 [] }
    fw := { s.fw with bootSlot := 0xFF } }

/-- An entry's value has its object's size and lies in its range. -/
def optionFits (e : Staged) : Bool :=
  let v := ofBe e.bytes
  match objRow e.idx e.sub with
  | none => false
  | some r =>
    if e.idx = 0xA020 then e.bytes.isEmpty || (e.bytes.length = 97 && Config.validPoint e.bytes)
    else e.bytes.length = r.type.size && valueFits r e.sub e.bytes &&
      (e.idx ≠ 0x4204 || (v % 0x200000 = 0 && decide (v < stackBytes))) &&
      (e.idx ≠ 0x4205 || e.sub = 2 || (v % 0x800000 = 0 && decide (0x800000 ≤ v)))

/-- One entry of the block. -/
def State.loadOption (s : State) (e : Staged) : State :=
  let name := be 2 e.idx ++ be 1 e.sub
  if !rwpObjects.contains (e.idx, e.sub) then s.logged Code.optionUnknown name
  else if !optionFits e then s.logged Code.optionRange name
  else if e.idx = 0xA020 then { s with lc := { s.lc with mgrKeys := setAt s.lc.mgrKeys (e.sub - 1) e.bytes } }
  else s.objPut e.idx e.sub e.bytes

/-- The copy to use of two (R601, R604): the valid one with the higher GENERATION. -/
def copyToUse (valid0 valid1 : Bool) (gen0 gen1 : Nat) : Option Nat :=
  if valid0 && valid1 then some (bit (serialLater32 gen1 gen0))
  else if valid0 then some 0
  else if valid1 then some 1
  else none

/-- The option block is read. -/
def State.loadOptions (s : State) : State :=
  let f := s.flash
  let s := s.rwpDefaults
  match copyToUse f.option0.valid f.option1.valid f.option0.generation f.option1.generation with
  | none => s.logged Code.optionsDefault []
  | some n =>
    let s : State := { s with flash := { f with optionUsed := n } }
    let s := if f.option0.valid && f.option1.valid then s else s.logged Code.optionCopyBad (be 1 (1 - n))
    (if n = 0 then f.option0 else f.option1).entries.foldl State.loadOption s

/-! ## The key stores (R662, R663) -/

/-- The store in force: a bad copy gives way to the other, then the higher transition count decides. -/
def Lifecycle.storeNow (l : Lifecycle) : KeyStore :=
  if !l.storeA.valid then l.storeB
  else if !l.storeB.valid then l.storeA
  else if l.storeA.transitions < l.storeB.transitions then l.storeB
  else l.storeA

/-- The keys of the option block are those of the store. -/
def KeyStore.holds (k : KeyStore) (keys : List (List Byte)) : Bool :=
  if k.digests.isEmpty then keys.all List.isEmpty else k.digests.contains (keyDigest keys)

/-- The stores agree, and keys that match no digest read as empty. -/
def State.loadKeys (s : State) : State :=
  let k := s.lc.storeNow
  let s : State := { s with lc := { s.lc with storeA := k, storeB := k } }
  if k.holds s.lc.mgrKeys then s
  else State.urged { s with lc := { s.lc with mgrKeys := List.replicate 5 [] } } Code.keysMismatch []

/-! ## The persistent records (R604, R745) -/

/-- A counter resumes at its persisted ceiling, or at 1, with its ceiling raised (R745). -/
def Counter.resume (ceil step : Nat) : Counter :=
  let next := if ceil = 0 then 1 else ceil
  ⟨next, next + step, ceil⟩

/-- The persistent area is read: the fence, the quarantine after POR, the counters. -/
def State.loadPersist (s : State) : State :=
  let f := s.flash
  let used := copyToUse f.persist0.valid f.persist1.valid f.persist0.generation f.persist1.generation
  let p := match used with
    | none => PersistCopy.none
    | some n => if n = 0 then f.persist0 else f.persist1
  let s := if used.isNone then s.logged Code.persistDefault [] else s
  let s : State := { s with
    flash := { s.flash with persistUsed := used.getD f.persistUsed }
    fm := { s.fm with fenceState := p.fenceState, fenceSeq := p.fenceSeq }
    bar := { s.bar with quarantine := if s.rst.fromPor then p.quarantine else s.bar.quarantine }
    logSeq := Counter.resume p.logCeil 65536, imageIds := Counter.resume p.imageCeil 64
    eventSeqs := Counter.resume p.eventCeil 64 }
  s.persist

/-! ## The end of D3 -/

/-- Fuses (R599): a corrected word is logged; one that cannot be corrected holds the sequence. -/
def State.takeFuses (s : State) (r : OptionRead) : State :=
  let s := r.fuseCorrected.foldl (fun s w => s.logged Code.fuseCorrected (be 2 w)) s
  if r.fuseBad then (s.modRst fun x => { x with holdReason := 2 }).logged Code.fuseError [] else s

/-- STORM hold (R607). -/
def State.stormCheck (s : State) : State :=
  let n := s.backup.recent
  let s := s.modRst fun x => { x with stormRecent := n }
  if s.rst.stormLimit ≠ 0 ∧ s.rst.stormLimit < n ∧ s.rst.holdReason = 0 then
    ((s.modRst fun x => { x with holdReason := 1 }).controllerWords Code.stormHold).logged Code.stormHold []
  else s

/-- The gaps go to the backup record and govern D4–D9 (R584). -/
def State.takeGaps (s : State) : State :=
  let s := s.modRst fun x => { x with gapsNow := x.gaps }
  { s with backup := { s.backup with gaps := s.rst.gaps, msAtWrite := s.msNow } }

/-- Nanoseconds that D3 takes at least (R596, R742): the source settles for 50 µs, each conversion takes
10 µs. -/
def loadLeastNs (r : OptionRead) : Nat := if strapRepeated r then 140000 else 60000

/-- The flash can be read and written (R86, R606, R740). -/
def State.flashFree (s : State) : Bool := decide (s.flash.readyAt ≤ s.elapsed) && !s.pins.jtagOwns

/-- OPTION_LOADING_END (R595–R607, R663, R745): everything takes effect together. -/
def execOptionLoadingEnd (dt : Nat) (read : OptionRead) (s : State) : Host.Outcome State Fault Refusal :=
  let s := s.begin dt
  done (s.onlyIf (s.rst.loading && !s.rst.resetNLow && s.flashFree &&
      decide (s.rst.times.getD 3 0 + loadLeastNs read * Config.stepsPerNs ≤ s.elapsed)) fun s =>
    let s := ((((s.takeStrap read).takeFuses read).loadOptions).loadPersist).loadKeys
    let s := s.takeGaps.stormCheck
    s.modRst fun r => { r with
      loading := false, optionsDone := r.holdReason ≠ 2, fromPor := false, times := setAt r.times 11 s.elapsed })

/-! ## Flash writes that end -/

/-- The persistent write that has ended is in use, and its ceilings count (R604, R745). -/
def State.persistEnds (s : State) (p : PersistCopy) : State :=
  let f := s.flash
  let f := if f.persistUsed = 0 then { f with persist1 := p, persistUsed := 1 }
           else { f with persist0 := p, persistUsed := 0 }
  { s with
    flash := { f with persistWriting := none }
    logSeq := { s.logSeq with persisted := p.logCeil }, imageIds := { s.imageIds with persisted := p.imageCeil }
    eventSeqs := { s.eventSeqs with persisted := p.eventCeil } }

/-- The copy that a failed write has overwritten is not valid. -/
def Flash.persistSpoiled (f : Flash) : Flash :=
  let f := { f with persistWriting := none }
  if f.persistUsed = 0 then { f with persist1 := PersistCopy.none } else { f with persist0 := PersistCopy.none }

/-- PERSIST_WRITE_DONE (R604, R708, R745): values that waited for a ceiling are issued; a write that does not
read back is made again. -/
def execPersistWriteDone (dt : Nat) (ok : Bool) (s : State) : Host.Outcome State Fault Refusal :=
  let s := s.begin dt
  done (match s.flash.persistWriting with
    | none => s
    | some p =>
      if !s.flashFree then s
      else if !ok then State.persist { s with flash := s.flash.persistSpoiled }
      else
        let dirty := s.flash.persistDirty
        let s := s.persistEnds p
        let s := if dirty then s.persist else s
        let s := s.drainLog s.log.waiting.length
        (s.drainEvents s.bar.eventsWaiting.length).startWaiting)

/-- The copy that a failed write of the option block has overwritten is not valid. -/
def Flash.optionSpoiled (f : Flash) : Flash :=
  let f := { f with optionWriting := none }
  if f.optionUsed = 0 then { f with option1 := OptionCopy.none } else { f with option0 := OptionCopy.none }

/-- The keys that a block carries. -/
def OptionCopy.keys (c : OptionCopy) : List (List Byte) :=
  (c.entries.filter fun e => e.idx = 0xA020).map Staged.bytes

/-- The digest of keys no longer in the block leaves the stores (R664). -/
def State.dropDigests (s : State) (c : OptionCopy) : State :=
  let keep (k : KeyStore) : KeyStore := { k with digests := k.digests.filter fun d => d = keyDigest c.keys }
  { s with lc := { s.lc with storeA := keep s.lc.storeA, storeB := keep s.lc.storeB } }

/-- OPTION_WRITE_DONE (R602, R664, R692): the new copy is the one in use; a write that does not read back is
made again. -/
def execOptionWriteDone (dt : Nat) (ok : Bool) (s : State) : Host.Outcome State Fault Refusal :=
  let s := s.begin dt
  done (match s.flash.optionWriting with
    | none => s
    | some c =>
      if !s.flashFree then s
      else if !ok then State.persistOptions { s with flash := s.flash.optionSpoiled }
      else
        let f := s.flash
        let f := if f.optionUsed = 0 then { f with option1 := c, optionUsed := 1 }
                 else { f with option0 := c, optionUsed := 0 }
        let s := State.dropDigests { s with flash := { f with optionWriting := none } } c
        if f.optionDirty then s.persistOptions else s)

end Sys2Proof.Machine
end

