-- ==== Sys2Proof/Machine/PodQuench.lean ====
section
/-!
DEFINITION. The pod-wide quench: orders, withdrawals, their copies, acknowledgements and the totals
(R275–R285).
-/
namespace Sys2Proof.Machine

/-- A cut message that a receiver does not discard: its KIND (R275). -/
def cutKind (m : List Byte) : Option Nat :=
  let b := fieldBe m 0 1
  if m.length = 72 ∧ fieldBe m 68 4 = crc32c (m.take 68) ∧ b / 16 = 1 ∧ 1 ≤ b % 16 ∧ b % 16 ≤ 3 then
    some (b % 16)
  else none

/-- ORDER_SEQ of a cut message. -/
def cutSeq (m : List Byte) : Nat := fieldBe m 2 2

/-- A message of this kind may be accepted (R278): from the upstream port, of this grandmaster. -/
def State.cutAccepted (s : State) (port kind : Nat) (m : List Byte) : Bool :=
  cutKind m = some kind && s.pod.upstream = some port && fieldBe m 8 8 = s.pod.gmId

/-- Remember an ORDER_SEQ and KIND (R278); the 64 latest are kept. -/
def State.cutSeen (s : State) (seq kind : Nat) : State :=
  { s with podCut := { s.podCut with seen := ((seq, kind) :: s.podCut.seen).take 64 } }

/-- The same message under this node's HOPS and SENDER_ID (R275, R278). -/
def State.cutForward (s : State) (kind seq : Nat) (m : List Byte) : State :=
  s.sendCopies (cutMessage kind 0 seq s.pod.hops s.pod.gmId s.fuses.serial (fieldBe m 24 8) (fieldBe m 32 8)
    0 0 0)

/-- This package is out of the pod cut (R280). -/
def State.podOut (s : State) : State := { s with podCut := { s.podCut with ownIn := some false } }

/-- Open local QUENCH entries are cancelled (R280): those that no order has entered. -/
def State.supersede (s : State) : State :=
  let open_ := (List.range 32).filter fun n =>
    (s.entry n).open && ((s.entry n).action = 1 || (s.entry n).action = 2) && !bitOf (s.entry n).flags 6
  open_.foldl (fun s n =>
    match s.cancelEntry n with
    | (s, code) => if code = Abort.ok then (s.logged Code.quSuperseded (be 1 n)).podOut else s) s

/-- The hub enters the order's QUENCH (R279, R280): none while fenced (R446); a local QUENCH gives way only to
an entry that can be accepted (R313, R413). -/
def State.enterOrder (s : State) (seq t : Nat) : State :=
  if s.fm.fenceState = 2 then s.podOut
  else
  let s := if s.collecting || s.recovering then s else s.supersede
  if !(s.qu.state = Qs.idle || s.qu.state = Qs.mixed) then (s.logged Code.podCutBusy (be 2 seq)).podOut
  else
    match s.freeEntry with
    | none => (s.logged Code.podTableFull (be 2 seq)).podOut
    | some n =>
      match s.schedWrite n Act.quench t 2 true (fun n e s =>
          State.acceptQuench (s.putEntry n { s.entry n with podOrder := seq }) n e true false) with
      | (s, code) =>
        if code = Abort.ok then s
        else if code = Abort.late then (s.logged Code.podOrderLate (be 2 seq)).podOut
        else if s.collecting then (s.logged Code.podCutBusy (be 2 seq)).podOut
        else s.podOut

/-- CUT_ORDER_RECEIVE (R278–R280): the first accepted copy is forwarded and entered. -/
def execCutOrderReceive (dt : Nat) (port : Nat) (msg : List Byte) (s : State) : Host.Outcome State Fault Refusal :=
  let s := s.begin dt
  let seq := cutSeq msg
  done (s.onlyIf (s.cutAccepted port 1 msg && !s.podCut.seen.contains (seq, 1)) fun s =>
    let s := (s.cutSeen seq 1).cutForward 1 seq msg
    let t := fieldBe msg 24 8
    let s : State := { s with
      qu := { s.qu with orderSeq := seq }
      podCut := { s.podCut with order := some (seq, t, fieldBe msg 32 8), sumIn := 0, sumOut := 0
                                sumClusters := 0, ackSent := false, summarised := false, ownIn := none } }
    s.enterOrder seq t)

/-- CUT_WITHDRAW_RECEIVE (R278, R285): at least 2.0 µs before T the REMOTE entry is cancelled. -/
def execCutWithdrawReceive (dt : Nat) (port : Nat) (msg : List Byte) (s : State) : Host.Outcome State Fault Refusal :=
  let s := s.begin dt
  let seq := cutSeq msg
  done (s.onlyIf (s.cutAccepted port 2 msg && !s.podCut.seen.contains (seq, 2)) fun s =>
    let s := (s.cutSeen seq 2).cutForward 2 seq msg
    let mine := (List.range 32).find? fun n =>
      (s.entry n).open && bitOf (s.entry n).flags 6 && (s.entry n).podOrder = seq
    match mine with
    | none => s
    | some n => if s.pns + 2000 ≤ fieldBe msg 24 8 then (s.cancelEntry n).1 else s)

/-- CUT_ACK_RECEIVE (R282): the counts of a downstream node are summed while this node's own are still
to be sent or written. -/
def execCutAckReceive (dt : Nat) (port : Nat) (msg : List Byte) (s : State) : Host.Outcome State Fault Refusal :=
  let s := s.begin dt
  let mine := match s.podCut.order with
    | some (seq, _, _) => decide (seq = cutSeq msg)
    | none => false
  done (s.onlyIf (cutKind msg = some 3 && mine && fieldBe msg 8 8 = s.pod.gmId && s.downstream.contains port &&
      !s.podCut.ackSent && !s.podCut.summarised) fun s =>
    let c := s.podCut
    { s with podCut := { c with sumIn := (c.sumIn + fieldBe msg 40 4) % 2 ^ 32
                                sumOut := (c.sumOut + fieldBe msg 44 4) % 2 ^ 32
                                sumClusters := (c.sumClusters + fieldBe msg 48 4) % 2 ^ 32 } })

/-- ORDER_COPY_SEND (R277, R278): copies 1 and 2 that are due. -/
def execOrderCopySend (dt : Nat) (s : State) : Host.Outcome State Fault Refusal :=
  let s := s.begin dt
  let due := s.podCut.copies.filter fun c => decide (c.2.2 ≤ s.pns)
  let wait := s.podCut.copies.filter fun c => !decide (c.2.2 ≤ s.pns)
  let next := due.filterMap fun c => if c.2.1 = 1 then some (c.1, 2, c.2.2 + 20000) else none
  let s : State := { s with podCut := { s.podCut with copies := wait ++ next } }
  done (due.foldl (fun s c =>
    s.emitAll (cutEmit (fieldBe c.1 0 1 % 16)) s.downstream (withCopy c.1 c.2.1)) s)

/-- This package's own counts: in, out, clusters out (R282). -/
def State.ownCounts (s : State) : Nat × Nat × Nat :=
  if s.podCut.ownIn = some true then
    (1, 0, ((List.range 128).filter fun c => s.qu.notInCut.getLsbD c).length)
  else (0, 1, 0)

/-- CUT_ACK_SEND (R282). -/
def execCutAckSend (dt : Nat) (s : State) : Host.Outcome State Fault Refusal :=
  let s := s.begin dt
  done (match s.podCut.order, s.pod.upstream with
    | some (seq, t, issue), some p =>
      s.onlyIf (!s.podCut.ackSent && decide (t + 20000 * (7 - s.pod.hops) ≤ s.pns)) fun s =>
        let (i, o, c) := s.ownCounts
        let k := s.podCut
        let s : State := { s with podCut := { k with ackSent := true } }
        s.emit .cutAck p (cutMessage 3 0 seq s.pod.hops s.pod.gmId s.fuses.serial t issue (k.sumIn + i)
          (k.sumOut + o) (k.sumClusters + c))
    | _, _ => s)

/-- POD_CUT_SUMMARY (R283): at the grandmaster, T + 140 µs. -/
def execPodCutSummary (dt : Nat) (s : State) : Host.Outcome State Fault Refusal :=
  let s := s.begin dt
  done (match s.podCut.order with
    | some (seq, t, _) =>
      s.onlyIf (s.pod.role = 1 && !s.podCut.summarised && decide (t + 140000 ≤ s.pns)) fun s =>
        let (i, o, c) := s.ownCounts
        let k := s.podCut
        let s : State := { s with
          podCut := { k with summarised := true }
          qu := { s.qu with podInCut := k.sumIn + i, podOut := k.sumOut + o
                            podClustersOut := k.sumClusters + c } }
        s.told Code.podCutSummary (be 2 seq ++ be 4 s.qu.podInCut ++ be 4 s.qu.podOut ++
          be 4 s.qu.podClustersOut)
    | none => s)

end Sys2Proof.Machine
end

