-- ==== Sys2Proof/Machine/Port.lean ====
section
/-!
DEFINITION. The management port's own commands: the address, sessions, notifications, PLCA (R615–R626,
R631–R636, R649–R651, R666).
-/
namespace Sys2Proof.Machine

/-! ## CLAIM and OFFER (R621–R626) -/

/-- Steps of a number of milliseconds. -/
def msSteps (n : Nat) : Nat := n * 1000000 * Config.stepsPerNs

/-- A CLAIM is due: the endpoint runs, the hub is unaddressed, and none was sent in the last 100 ms. -/
def State.claimDue (s : State) : Bool :=
  s.endpointUp && !s.addressed && s.port.claimLast.all fun t => decide (t + msSteps 100 ≤ s.elapsed)

/-- The payload of a CLAIM (R621). -/
def State.claimPayload (s : State) : List Byte :=
  be 8 s.fuses.serial ++ be 2 Config.idIssue ++ be 1 s.rst.strapCode ++ be 1 s.backup.nodeId ++
    be 1 s.pod.role ++ zeros 3

/-- CLAIM_SEND (R621, R622); what SEQUENCE holds outside a session is open (log entry 9). -/
def execClaimSend (dt : Nat) (s : State) : Host.Outcome State Fault Refusal :=
  let s := s.begin dt
  done (s.onlyIf s.claimDue fun s =>
    let seq := s.freeNow % 65536
    let s := s.drawn
    let s := s.emit .claim 0
      (s.frameFor 255 (prorosHeader 0xA 0 seq 254 0 0 16 0 ++ s.claimPayload ++ zeros 16))
    let late : Bool := !s.port.claimLogged && decide (s.port.claimSince + msSteps 10000 ≤ s.elapsed)
    let s : State := { s with port := { s.port with
      claimState := 1, claimLast := some s.elapsed, claimLogged := s.port.claimLogged || late } }
    if late then s.logged Code.claimUnanswered [] else s)

/-- OFFER_ASSIGN (R623, R626). -/
def execOfferAssign (dt : Nat) (serial node _count : Nat) (s : State) : Host.Outcome State Fault Refusal :=
  let s := s.begin dt
  done (s.onlyIf (s.endpointUp && serial = s.fuses.serial && decide (1 ≤ node) && decide (node ≤ 15)) fun s =>
    State.logged { s with backup := { s.backup with nodeId := node }
                          port := { s.port with claimState := 2 } } Code.nodeAssigned (be 1 node))

/-- OFFER_REVOKE (R625): claiming starts again with WANT_ID 0. -/
def execOfferRevoke (dt : Nat) (serial : Nat) (s : State) : Host.Outcome State Fault Refusal :=
  let s := s.begin dt
  done (s.onlyIf (s.endpointUp && serial = s.fuses.serial) fun s =>
    let s := s.closeAll
    let s : State := { s with
      backup := { s.backup with nodeId := 0 }
      port := { s.port with claimState := 0, claimSince := s.elapsed, claimLast := none, claimLogged := false
                            plcaActive := false } }
    s.logged Code.nodeRevoked [])

/-! ## PLCA (R615, R616) -/

/-- PLCA_INACTIVE (R616). -/
def execPlcaInactive (dt : Nat) (s : State) : Host.Outcome State Fault Refusal :=
  let s := s.begin dt
  done { s with port := { s.port with plcaActive := false } }

/-- PLCA_RETURN (R615, R616): an unaddressed hub stays in CSMA/CD mode. -/
def execPlcaReturn (dt : Nat) (s : State) : Host.Outcome State Fault Refusal :=
  let s := s.begin dt
  done (s.onlyIf (s.endpointUp && s.addressed) fun s => { s with port := { s.port with plcaActive := true } })

/-! ## Sessions (R631–R636) -/

/-- The key that SIGNER names (R631). -/
def State.signerKey (s : State) (signer : Nat) : List Byte :=
  if signer ≤ 4 then s.lc.mgrKeys.getD signer []
  else if signer = 5 then s.ownerKey
  else []

/-- The signature of a HELLO verifies, or the HELLO is unsigned (R632). -/
def State.helloSigned (s : State) (p : List Byte) : Bool :=
  let signer := fieldBe p 117 1
  let key := s.signerKey signer
  signer = 0xFF || (!key.isEmpty && Config.ecdsaVerify key (p.take 121) (slice p 121 96))

/-- The level that a HELLO's SIGNER gives (R635, R666). -/
def State.helloLevel (s : State) (signer : Nat) : Nat :=
  if signer = 0xFF then 0
  else if signer = 5 ∧ s.lcState ≠ 2 then 3
  else 1

/-- The first SESSION ID from `id` on that no session has, within `n` steps; never 0. -/
def Port.freeSession (p : Port) : Nat → Nat → Nat
  | 0, id => id
  | n + 1, id => if (p.session id).isSome then p.freeSession n (nextBlockId id) else id

/-- A refusal of a HELLO: a RESULT with SESSION 0 (R632); its tag is zero and its SEQUENCE open. -/
def State.refuseHello (s : State) (h : PortHdr) (code : Nat) : State :=
  let seq := s.freeNow % 65536
  let s := s.drawn
  s.emit .result 0 (s.frameFor h.source
    (prorosHeader 0xD 0 seq s.node h.source 0 4 h.seq ++ be 4 code ++ zeros 16))

/-- The ACCEPT that answers a HELLO (R631, R632). -/
def acceptPayload (hello nonce key : List Byte) : List Byte :=
  let b := be 1 2 ++ be 1 0 ++ zeros 2 ++ nonce ++ fit 97 key ++ be 1 6 ++ zeros 3
  b ++ fit 96 (Config.deviceSign (b ++ slice hello 4 113))

/-- A session opens (R631–R633, R635, R637). -/
def State.openSession (s : State) (h : PortHdr) (p : List Byte) : State :=
  let id := s.port.freeSession 8 s.port.nextSession
  let nonce := s.random16
  let s := s.drawn
  let n := s.freeCount
  let s := s.drawn
  let keys := Config.sessionKeys (slice p 20 97) n (slice p 4 16) nonce id
  let x : Session :=
    { id := id, node := h.source, signer := fieldBe p 117 1, baseLevel := s.helloLevel (fieldBe p 117 1)
      notifyWanted := bitOf (fieldBe p 1 1) 0, keys := fit 64 keys, highSeq := 0, advances := 0, hubSeq := 0
      results := [], lastFrame := s.elapsed, challenge := none, token := none, queue := [], unacked := []
      gap := false }
  let s : State := { s with port := { s.port with
    sessions := s.port.sessions ++ [x], nextSession := nextBlockId id } }
  s.sendIn .session x 0xC 0 0 (acceptPayload p nonce (Config.ephemeralKey n))

/-- A frame that names no open session is counted (R634). -/
def State.countTagFail (s : State) : State :=
  { s with port := { s.port with tagFails := inc32 s.port.tagFails } }

/-- SESSION_HELLO (R619, R628, R631, R632, R635, R636, R666). -/
def execSessionHello (dt : Nat) (hello : Hello) (s : State) : Host.Outcome State Fault Refusal :=
  let s := s.begin dt
  let h := hello.hdr
  let p := hello.payload
  done (s.onlyIf (s.frameFits h) fun s =>
    if h.session ≠ 0 then s.onlyIf ((s.port.session h.session).isNone || !h.tagOk) State.countTagFail
    else if p.length ≠ 217 then s.refuseHello h Abort.badLength
    else if fieldBe p 0 1 ≠ 1 then s.countTagFail
    else if !s.helloSigned p then s.refuseHello h Abort.level
    else if 8 ≤ s.port.sessions.length then s.refuseHello h Abort.sessionLimit
    else s.openSession h p)

/-- SESSION_CLOSE (R631, R636): the peer's CLOSE, or the hub's own. -/
def execSessionClose (dt : Nat) (session : Nat) (byPeer : Bool) (s : State) : Host.Outcome State Fault Refusal :=
  let s := s.begin dt
  done (match s.port.session session with
    | none => s
    | some x =>
      let s := if byPeer then s else s.sendIn .session x 0xC 0 0 (be 1 3 ++ zeros 3)
      s.closeSession session)

/-- SESSION_TIMEOUT (R636): 60 s without a valid frame. -/
def execSessionTimeout (dt : Nat) (session : Nat) (s : State) : Host.Outcome State Fault Refusal :=
  let s := s.begin dt
  done (match s.port.session session with
    | none => s
    | some x =>
      s.onlyIf (decide (x.lastFrame + msSteps 60000 ≤ s.elapsed)) fun s => s.closeSession session)

/-! ## Notifications (R649–R651) -/

/-- The peer's RESULT names a BLK_DATA of a read transfer (R644). -/
def State.ackData (s : State) (session seq : Nat) : State :=
  match s.port.blocks.find? fun b => b.requester = .session session && b.sent.any fun f => f.seq = seq with
  | none => s
  | some b =>
    let b := { b with sent := b.sent.filter fun f => f.seq ≠ seq, lastFrame := s.elapsed }
    State.pumpBlock { s with port := s.port.putBlock b } b.id 8

/-- NOTIFY_ACK (R650, R651); a RESULT of the peer acknowledges a BLK_DATA in the same way (R644). -/
def execNotifyAck (dt : Nat) (session seq : Nat) (s : State) : Host.Outcome State Fault Refusal :=
  let s := s.begin dt
  done (match s.port.session session with
    | none => s
    | some x =>
      let x := { x with lastFrame := s.elapsed, unacked := x.unacked.filter fun u => u.seq ≠ seq }
      (State.pumpSession { s with port := s.port.putSession x } session 8).ackData session seq)

/-- When the next send of a NOTIFY sent `n` times is due, in ms after the first (R650). -/
def notifyDue (n : Nat) : Nat := if n = 1 then 100 else if n = 2 then 200 else if n = 3 then 400 else 800

/-- NOTIFY_RESEND (R650, R651, R713): sent again with RETRY, or given up. -/
def execNotifyResend (dt : Nat) (session seq : Nat) (s : State) : Host.Outcome State Fault Refusal :=
  let s := s.begin dt
  done (match s.port.session session with
    | none => s
    | some x =>
      match x.unacked.find? fun u => u.seq = seq with
      | none => s
      | some u =>
        s.onlyIf (decide (u.firstSent + msSteps (notifyDue u.sends) ≤ s.elapsed)) fun s =>
          if 4 ≤ u.sends ∨ u.firstSent + msSteps 800 ≤ s.elapsed then
            let x := { x with unacked := x.unacked.filter fun v => v.seq ≠ seq }
            State.pumpSession { s with port := s.port.putSession x } session 8
          else
            let x := { x with unacked := x.unacked.map fun v => if v.seq = seq then { v with sends := v.sends + 1 } else v }
            State.emit { s with port := s.port.putSession x } .notify session
              (s.sealed x 8 (8 + 16 * bit u.gap) u.seq 0 (u.record.notice s.readPriv)))

end Sys2Proof.Machine
end

