-- ==== Sys2Proof/Machine/RingMsg.lean ====
section
/-!
DEFINITION. The ends of tap-ring transactions: responses, reissues and timeouts (R60–R68, R289, R300, R301,
R529).
-/
namespace Sys2Proof.Machine

/-! ## What a transaction was for -/

/-- Lines that carry the secure bit as zeros (R301): octet `i` of data that begins at `off` lies in line
(off + i) / 64 of the window, counted from the line of `off`. -/
def maskLines (off : Nat) (lines : List Nat) (data : List Byte) : List Byte :=
  (List.range data.length).map fun i =>
    if lines.contains ((off + i) / 64 - off / 64) then 0 else data.getD i 0

/-- PEEK_DATA takes a result (R300, R301). -/
def State.peekEnded (s : State) (t : RingTxn) (uid status : Nat) (data : List Byte) (lines : List Nat) :
    State :=
  let cut := !lines.isEmpty && !bitOf s.hubScopes 4
  let data := if status = Rs.ok then (if cut then maskLines t.offset lines data else data) else []
  let q := s.qu
  let p : PeekData :=
    { uid := uid, window := t.window, status := status
      flags := bit (cut && status = Rs.ok) + 2 * bit ((s.replica (runnerUid t.die)).state = .cold)
      seq := q.peekSeq, readPns := s.stampPns (runnerUid t.die), data := data }
  { s with qu := { q with peek := some p, peekOut := false } }

/-- A write of CORE_SELECT has completed: when it was the last of a step, the cast goes out (R289). -/
def State.selectEnded (s : State) (t : RingTxn) (status : Nat) : State :=
  if status ≠ Rs.ok then s
  else
    let s := s.modTap (t.die * 8 + t.tap) fun x => { x with coreSelect := BitVec.ofNat 136 (ofLe (wordsLe t.data)) }
    match s.qu.hand with
    | none => s
    | some h =>
      if h.action = 3 ∧ 0 < h.selecting then
        let h := { h with selecting := h.selecting - 1 }
        let s : State := { s with qu := { s.qu with hand := some h } }
        if h.selecting = 0 then s.armHand h else s
      else s

/-- A successful read of a slot's PEEK window that holds octets 32 to 159: the runner's binding cache keeps them
(R377). -/
def State.cacheBindings (s : State) (t : RingTxn) (data : List Byte) : State :=
  if t.window = 0x43 ∧ t.offset ≤ 32 ∧ 160 ≤ t.offset + 4 * t.len then
    let k := (t.die * 8 + t.tap) * 136 + t.slot
    { s with hang := { s.hang with bindings := Tab.put s.hang.bindings k (slice data (32 - t.offset) 128) } }
  else s

/-- A transaction ends with a status; a completed read of ARCH shows the slot's secure bit (R40). -/
def State.ringEnds (s : State) (t : RingTxn) (status : Nat) (data : List Byte) (lines : List Nat) : State :=
  let c := t.die * 8 + t.tap
  let ring := s.units.ring.filter fun u => !(u.die = t.die && u.tag = t.tag)
  let s : State := { s with units := { s.units with ring := ring } }
  let s := if t.window = 0x40 ∧ ¬ t.write ∧ status = Rs.ok then
      s.modTap c fun x => x.learnSecure t.slot (!lines.isEmpty) (decide (4096 ≤ 4 * t.len))
    else s
  let s := if ¬ t.write ∧ status = Rs.ok then s.cacheBindings t data else s
  match t.use with
  | .peek uid => s.peekEnded t uid status data lines
  | .tier0 i => ((s.tier0Ended t.die i status data).feedTier0 t.die tier0Items).buildTier0 t.die |>.feedDie t.die
  | .debugFallback k => (s.fallbackEnded t.die k t.offset status data lines).buildTier0 t.die
  | .coreSelect => s.selectEnded t status
  | .bindings e => s.bindingsRead c e (status = Rs.ok) data
  | .traceCtrl => if status = Rs.ok then s.traceWritten t else s

/-! ## Responses (R60, R61, R66, R67) -/

/-- STATUS of a response's word 0. -/
def ringStatus (w0 : Nat) : Nat := w0 / 65536 % 16

/-- The lines that carry the secure bit: only four windows have one (R40). -/
def securedLines (window : Nat) (lines : List Nat) : List Nat :=
  if window = 0x40 ∨ window = 0x41 ∨ window = 0x42 ∨ window = 0x44 then lines else []

/-- A response's form: OP, the number of words and the CRC word. -/
def ringFits (t : RingTxn) (words : List Nat) : Bool :=
  let w0 := words.headD 0
  let body := words.dropLast
  let n := if ringStatus w0 = Rs.ok ∧ ¬ t.write then t.len + 1 else 1
  w0 / 2 ^ 28 = 8 && body.length = n && words.getLastD 0 = crc32c (wordsLe body)

/-- The transaction that a response belongs to: its die's, by TAG and TAP. -/
def State.ringMatch (s : State) (die w0 : Nat) : Option RingTxn :=
  (s.ringOf die).find? fun t => t.tag = w0 % 256 && t.tap = w0 / 2 ^ 25 % 8

/-- Reissue a request once (R66). The 50 µs of R67 run anew from the reissue: the model's choice, the spec does not
say from which issue they count (log entry 150). -/
def State.ringAgain (s : State) (t : RingTxn) : State :=
  let u := { t with issued := s.elapsed, reissued := true }
  let ring := s.units.ring.map fun x => if x = t then u else x
  State.emit { s with units := { s.units with ring := ring } } .ringRequest t.die (wordsLe t.words)

/-- Health of a tap. -/
def State.tapHealth (s : State) (c : Nat) : Nat := s.health (tapUid c)

/-- A tap whose entry reads 4 has answered OK: the entry goes back to 0 (R67). -/
def State.tapHeard (s : State) (c : Nat) : State := if s.tapHealth c = 4 then s.setHealth (tapUid c) 0 else s

/-- An intact response with status OK that no outstanding transaction waits for: its cluster (R60, R67). -/
def strayOk (die : Nat) (words : List Nat) : Option Nat :=
  let w0 := words.headD 0
  if w0 / 2 ^ 28 = 8 ∧ 2 ≤ words.length ∧ ringStatus w0 = Rs.ok ∧
      words.getLastD 0 = crc32c (wordsLe words.dropLast) ∧ die < 16 then some (die * 8 + w0 / 2 ^ 25 % 8)
  else none

/-- A whole response, as the tap's own state makes it (R39, R41): a read of a running slot that R41 bars ends
NOT_STOPPED, and what the state holds of a window is what the tap returns. -/
def State.ringAnswered (s : State) (t : RingTxn) (status : Nat) (data : List Byte) (lines : List Nat) : State :=
  let c := t.die * 8 + t.tap
  if status = Rs.ok ∧ s.notStopped c t.window t.slot then s.ringEnds t Rs.notStopped [] []
  else if status = Rs.ok ∧ ¬ t.write then
    s.ringEnds t status (s.tapData c t.window t.offset data) (securedLines t.window lines)
  else s.ringEnds t status data (securedLines t.window lines)

/-- RING_RESPONSE (R41, R60, R66, R67). The tap makes the access at the instant of the response; a stopped slot does
not answer NOT_STOPPED, so such a response is not one of the tap's (log entry 151). -/
def execRingResponse (dt : Nat) (die : Nat) (words : List Nat) (secureLines : List Nat) (s : State) :
    Host.Outcome State Fault Refusal :=
  let s := s.begin dt
  done (match s.ringMatch die (words.headD 0) with
    | none => (match strayOk die words with
      | some c => s.tapHeard c
      | none => s)
    | some t =>
      let c := t.die * 8 + t.tap
      let status := ringStatus (words.headD 0)
      if ringFits t words && status ≠ Rs.crcError then
        s.onlyIf (status ≠ Rs.notStopped || s.notStopped c t.window t.slot) fun s =>
          let s := if status = Rs.ok then s.tapHeard c else s
          (s.ringAnswered t status (wordsLe (words.dropLast.drop 1)) secureLines).ringPump
      else if t.reissued then
        let s := s.modRunner t.die fun r => { r with ringCrc := inc32 r.ringCrc }
        ((s.logged Code.ringCrc (be 2 (tapUid c))).ringEnds t Rs.crcError [] []).ringPump
      else s.ringAgain t)

/-- RING_TIMEOUT (R67): no response for 50 µs. -/
def execRingTimeout (dt : Nat) (die tag : Nat) (s : State) : Host.Outcome State Fault Refusal :=
  let s := s.begin dt
  done (match (s.ringOf die).find? fun t => t.tag = tag with
    | none => s
    | some t =>
      s.onlyIf (decide (50000 ≤ s.nsSince t.issued)) fun s =>
        ((s.setHealth (tapUid (t.die * 8 + t.tap)) 4).ringEnds t Rs.timeout [] []).ringPump)

end Sys2Proof.Machine
end

