-- ==== Sys2Proof/Machine/Trace.lean ====
section
/-!
DEFINITION. The trace commands: lines at the sinks, the switch, stalls that time out (R504, R521–R530).
-/
namespace Sys2Proof.Machine

/-- The CTRL octet of a slot's active copy (R528). -/
def State.traceCtrlOf (s : State) (c slot : Nat) : Nat :=
  fieldLe ((Tab.find (s.tap c).traceActive slot).getD (s.traceRest c slot)) 0 1

/-- TRACE_LINE_RECEIVE (R521, R526, R527, R538): a line reaches its die's sink. A frozen sink holds it; the
line that a disable has flushed is followed by the header block. -/
def execTraceLineReceive (dt die : Nat) (line : List Byte) (s : State) : Host.Outcome State Fault Refusal :=
  let s := s.begin dt
  done (s.onlyIf (decide (die < 16) && line.length = 64 && s.sinkWorks die) fun s =>
    if (s.sink die).frozen then s.modSink die fun k => { k with heldLines := k.heldLines ++ [line] }
    else
      let s := s.takeLine die line
      let core := fieldLe line 0 2 % 16384
      if bitOf (fieldLe line 6 1) 1 && !s.trace.enable.getLsbD core then s.writeHeader die else s)

/-- TRACE_SWITCH_ISSUE (R529): every runner has completed its writes. -/
def execTraceSwitchIssue (dt : Nat) (s : State) : Host.Outcome State Fault Refusal :=
  let s := s.begin dt
  done (s.onlyIf s.traceSwitchReady fun s => s.traceSwitch s.trace.changed)

/-- TRACE_STALL_TIMEOUT (R504): a traced core with TR_STALL has been stalled for 20 µs; it drops packets for
the rest of the episode. -/
def execTraceStallTimeout (dt core : Nat) (s : State) : Host.Outcome State Fault Refusal :=
  let s := s.begin dt
  let c := uidCluster core
  let ctrl := s.traceCtrlOf c (uidSlot core)
  done (s.onlyIf (uidIsCore core && uidPresent core && bitOf ctrl 0 && bitOf ctrl 2 &&
      !(s.tap c).dropping.getLsbD (uidSlot core)) fun s =>
    let s := s.modTap c fun t => { t with dropping := setBit t.dropping (uidSlot core) true }
    { s with trace := { s.trace with stallTimeouts := inc32 s.trace.stallTimeouts } })

end Sys2Proof.Machine
end

