-- ==== Sys2Proof/Machine/Dispatch.lean ====
section
/-!
DEFINITION. One arm per command: the command's effect on everything but the queue.
-/
namespace Sys2Proof.Machine

/-- The effect of a command. -/
def exec (i : Instr) (s : State) : Host.Outcome State Fault Refusal :=
  match i with
  | .frameTick dt beatA beatR => Sys2Proof.Machine.execFrameTick dt beatA beatR s
  | .frameReport dt die rep => Sys2Proof.Machine.execFrameReport dt die rep s
  | .reportEvaluation dt => Sys2Proof.Machine.execReportEvaluation dt s
  | .hbMiss dt cluster => Sys2Proof.Machine.execHbMiss dt cluster s
  | .hangEngine dt uid engine => Sys2Proof.Machine.execHangEngine dt uid engine s
  | .runnerSilent dt die => Sys2Proof.Machine.execRunnerSilent dt die s
  | .tapSilent dt cluster => Sys2Proof.Machine.execTapSilent dt cluster s
  | .sensorFail dt cluster => Sys2Proof.Machine.execSensorFail dt cluster s
  | .commHoldSet dt die => Sys2Proof.Machine.execCommHoldSet dt die s
  | .commHoldClear dt die => Sys2Proof.Machine.execCommHoldClear dt die s
  | .jobAdmission dt => Sys2Proof.Machine.execJobAdmission dt s
  | .slotJobCheck dt slot => Sys2Proof.Machine.execSlotJobCheck dt slot s
  | .samplingSlot dt slot => Sys2Proof.Machine.execSamplingSlot dt slot s
  | .commitQueueFreeze dt => Sys2Proof.Machine.execCommitQueueFreeze dt s
  | .schedQuench dt req entry time flags => Sys2Proof.Machine.execSchedQuench dt req entry time flags s
  | .schedPodQuench dt req entry time flags => Sys2Proof.Machine.execSchedPodQuench dt req entry time flags s
  | .schedStep dt req entry time flags => Sys2Proof.Machine.execSchedStep dt req entry time flags s
  | .schedResume dt req entry time flags => Sys2Proof.Machine.execSchedResume dt req entry time flags s
  | .schedFrameLen dt req entry time flags => Sys2Proof.Machine.execSchedFrameLen dt req entry time flags s
  | .schedTimeStep dt req entry time flags => Sys2Proof.Machine.execSchedTimeStep dt req entry time flags s
  | .schedRoleSwap dt req entry time flags => Sys2Proof.Machine.execSchedRoleSwap dt req entry time flags s
  | .schedEmpty dt req entry => Sys2Proof.Machine.execSchedEmpty dt req entry s
  | .frameLenChange dt entry => Sys2Proof.Machine.execFrameLenChange dt entry s
  | .timeStepApply dt entry => Sys2Proof.Machine.execTimeStepApply dt entry s
  | .roleSwapDue dt entry => Sys2Proof.Machine.execRoleSwapDue dt entry s
  | .lockstepFault dt core => Sys2Proof.Machine.execLockstepFault dt core s
  | .tbuClockGoodLost dt => Sys2Proof.Machine.execTbuClockGoodLost dt s
  | .takeoverSwitch dt => Sys2Proof.Machine.execTakeoverSwitch dt s
  | .takeoverOldReset dt => Sys2Proof.Machine.execTakeoverOldReset dt s
  | .runnerActiveCast dt => Sys2Proof.Machine.execRunnerActiveCast dt s
  | .takeoverNotify dt => Sys2Proof.Machine.execTakeoverNotify dt s
  | .quCmdArm dt req => Sys2Proof.Machine.execQuCmdArm dt req s
  | .quCmdCancel dt req => Sys2Proof.Machine.execQuCmdCancel dt req s
  | .quCmdStep dt req => Sys2Proof.Machine.execQuCmdStep dt req s
  | .quCmdResume dt req => Sys2Proof.Machine.execQuCmdResume dt req s
  | .quCmdPeek dt req => Sys2Proof.Machine.execQuCmdPeek dt req s
  | .castReceive dt target cast => Sys2Proof.Machine.execCastReceive dt target cast s
  | .castResponse dt response => Sys2Proof.Machine.execCastResponse dt response s
  | .castRetry dt castId => Sys2Proof.Machine.execCastRetry dt castId s
  | .castUnresponsive dt castId => Sys2Proof.Machine.execCastUnresponsive dt castId s
  | .quenchDecision dt => Sys2Proof.Machine.execQuenchDecision dt s
  | .holdReceive dt target word => Sys2Proof.Machine.execHoldReceive dt target word s
  | .cutTaken dt => Sys2Proof.Machine.execCutTaken dt s
  | .quenchMembership dt => Sys2Proof.Machine.execQuenchMembership dt s
  | .cutOrderReceive dt port msg => Sys2Proof.Machine.execCutOrderReceive dt port msg s
  | .cutWithdrawReceive dt port msg => Sys2Proof.Machine.execCutWithdrawReceive dt port msg s
  | .cutAckReceive dt port msg => Sys2Proof.Machine.execCutAckReceive dt port msg s
  | .orderCopySend dt => Sys2Proof.Machine.execOrderCopySend dt s
  | .cutAckSend dt => Sys2Proof.Machine.execCutAckSend dt s
  | .podCutSummary dt => Sys2Proof.Machine.execPodCutSummary dt s
  | .stepSelectLate dt => Sys2Proof.Machine.execStepSelectLate dt s
  | .stepStart dt => Sys2Proof.Machine.execStepStart dt s
  | .netRefreeze dt => Sys2Proof.Machine.execNetRefreeze dt s
  | .stepPoll dt cluster => Sys2Proof.Machine.execStepPoll dt cluster s
  | .stepOverrun dt cluster => Sys2Proof.Machine.execStepOverrun dt cluster s
  | .resumeAtTime dt => Sys2Proof.Machine.execResumeAtTime dt s
  | .quCancelLate dt entry => Sys2Proof.Machine.execQuCancelLate dt entry s
  | .soStart dt req => Sys2Proof.Machine.execSoStart dt req s
  | .soStartRef dt req => Sys2Proof.Machine.execSoStartRef dt req s
  | .soAbort dt req => Sys2Proof.Machine.execSoAbort dt req s
  | .soFettleReserve dt req => Sys2Proof.Machine.execSoFettleReserve dt req s
  | .soAck dt req image => Sys2Proof.Machine.execSoAck dt req image s
  | .soRecordRead dt req ownOk mirrorOk => Sys2Proof.Machine.execSoRecordRead dt req ownOk mirrorOk s
  | .soHeaderRead dt req => Sys2Proof.Machine.execSoHeaderRead dt req s
  | .reserveWrite dt req idx sub value => Sys2Proof.Machine.execReserveWrite dt req idx sub value s
  | .debugReadComplete dt die uid type off status data secureLines => Sys2Proof.Machine.execDebugReadComplete dt die uid type off status data secureLines s
  | .debugReadTimeout dt die uid type off => Sys2Proof.Machine.execDebugReadTimeout dt die uid type off s
  | .recordWriteComplete dt die uid type sub ownOk mirrorOk => Sys2Proof.Machine.execRecordWriteComplete dt die uid type sub ownOk mirrorOk s
  | .ladleWriteTimeout dt die uid type => Sys2Proof.Machine.execLadleWriteTimeout dt die uid type s
  | .sealPartReport dt die tier => Sys2Proof.Machine.execSealPartReport dt die tier s
  | .sealResult dt sum => Sys2Proof.Machine.execSealResult dt sum s
  | .soRunnerLost dt die => Sys2Proof.Machine.execSoRunnerLost dt die s
  | .shakeoutClose dt => Sys2Proof.Machine.execShakeoutClose dt s
  | .reserveFettleDone dt => Sys2Proof.Machine.execReserveFettleDone dt s
  | .hangWaitClear dt => Sys2Proof.Machine.execHangWaitClear dt s
  | .hangCollect dt => Sys2Proof.Machine.execHangCollect dt s
  | .contextRemove dt req ctx => Sys2Proof.Machine.execContextRemove dt req ctx s
  | .removeCastIssue dt => Sys2Proof.Machine.execRemoveCastIssue dt s
  | .contextCastReceive dt target cast status uid engine => Sys2Proof.Machine.execContextCastReceive dt target cast status uid engine s
  | .removeCountComplete dt castId => Sys2Proof.Machine.execRemoveCountComplete dt castId s
  | .drainElapsed dt castId => Sys2Proof.Machine.execDrainElapsed dt castId s
  | .replayResponse dt castId status uid engine => Sys2Proof.Machine.execReplayResponse dt castId status uid engine s
  | .replayStall dt => Sys2Proof.Machine.execReplayStall dt s
  | .replayTimeout dt => Sys2Proof.Machine.execReplayTimeout dt s
  | .contextFettleDone dt ctx die => Sys2Proof.Machine.execContextFettleDone dt ctx die s
  | .unitResetPulse dt req uid part attested => Sys2Proof.Machine.execUnitResetPulse dt req uid part attested s
  | .unitResetHold dt req uid part attested => Sys2Proof.Machine.execUnitResetHold dt req uid part attested s
  | .unitResetRelease dt req uid part attested => Sys2Proof.Machine.execUnitResetRelease dt req uid part attested s
  | .unitResetAssert dt => Sys2Proof.Machine.execUnitResetAssert dt s
  | .unitResetReleaseDue dt => Sys2Proof.Machine.execUnitResetReleaseDue dt s
  | .unitResetDone dt => Sys2Proof.Machine.execUnitResetDone dt s
  | .l2Failed dt => Sys2Proof.Machine.execL2Failed dt s
  | .recoveryLevel dt req value => Sys2Proof.Machine.execRecoveryLevel dt req value s
  | .l3PhaseEnd dt => Sys2Proof.Machine.execL3PhaseEnd dt s
  | .l3Failed dt => Sys2Proof.Machine.execL3Failed dt s
  | .beaconReceive dt port beacon => Sys2Proof.Machine.execBeaconReceive dt port beacon s
  | .runnerNoTick dt die => Sys2Proof.Machine.execRunnerNoTick dt die s
  | .stepMark dt w0 w1 w2 => Sys2Proof.Machine.execStepMark dt w0 w1 w2 s
  | .jobViewExpire dt => Sys2Proof.Machine.execJobViewExpire dt s
  | .suspectEnter dt => Sys2Proof.Machine.execSuspectEnter dt s
  | .suspectDump dt => Sys2Proof.Machine.execSuspectDump dt s
  | .selfTestEnd dt results => Sys2Proof.Machine.execSelfTestEnd dt results s
  | .suspectCleared dt => Sys2Proof.Machine.execSuspectCleared dt s
  | .suspectCmdClear dt req => Sys2Proof.Machine.execSuspectCmdClear dt req s
  | .expel dt req order => Sys2Proof.Machine.execExpel dt req order s
  | .expelRelease dt req order => Sys2Proof.Machine.execExpelRelease dt req order s
  | .expelPortFence dt => Sys2Proof.Machine.execExpelPortFence dt s
  | .expelCut dt => Sys2Proof.Machine.execExpelCut dt s
  | .expelCollect dt => Sys2Proof.Machine.execExpelCollect dt s
  | .admBegin dt req => Sys2Proof.Machine.execAdmBegin dt req s
  | .admServe dt req => Sys2Proof.Machine.execAdmServe dt req s
  | .admAbort dt req => Sys2Proof.Machine.execAdmAbort dt req s
  | .admOpenReceive dt die record => Sys2Proof.Machine.execAdmOpenReceive dt die record s
  | .admRecordReceive dt die record => Sys2Proof.Machine.execAdmRecordReceive dt die record s
  | .admEndReceive dt record => Sys2Proof.Machine.execAdmEndReceive dt record s
  | .admStall dt => Sys2Proof.Machine.execAdmStall dt s
  | .admSealResult dt sum => Sys2Proof.Machine.execAdmSealResult dt sum s
  | .admFettleDone dt => Sys2Proof.Machine.execAdmFettleDone dt s
  | .admServeDone dt complete sum bytes records => Sys2Proof.Machine.execAdmServeDone dt complete sum bytes records s
  | .captureReceive dt capture => Sys2Proof.Machine.execCaptureReceive dt capture s
  | .barComputeDone dt bar upset => Sys2Proof.Machine.execBarComputeDone dt bar upset s
  | .captureTimeout dt bar slot => Sys2Proof.Machine.execCaptureTimeout dt bar slot s
  | .barSelfCheckDone dt bar pass => Sys2Proof.Machine.execBarSelfCheckDone dt bar pass s
  | .sdcStormClear dt => Sys2Proof.Machine.execSdcStormClear dt s
  | .tbEventAck dt req seq => Sys2Proof.Machine.execTbEventAck dt req seq s
  | .tbQuarantineClear dt req idx => Sys2Proof.Machine.execTbQuarantineClear dt req idx s
  | .tbProbeLoad dt req kernel => Sys2Proof.Machine.execTbProbeLoad dt req kernel s
  | .probeRunBar dt req kernel uid engine => Sys2Proof.Machine.execProbeRunBar dt req kernel uid engine s
  | .probeRunEngine dt req kernel uid engine => Sys2Proof.Machine.execProbeRunEngine dt req kernel uid engine s
  | .probeOpDone dt header engineResult upset => Sys2Proof.Machine.execProbeOpDone dt header engineResult upset s
  | .traceLineReceive dt die line => Sys2Proof.Machine.execTraceLineReceive dt die line s
  | .traceSwitchIssue dt => Sys2Proof.Machine.execTraceSwitchIssue dt s
  | .pmbusTransactionDone dt read => Sys2Proof.Machine.execPmbusTransactionDone dt read s
  | .pmbAlert dt addr status => Sys2Proof.Machine.execPmbAlert dt addr status s
  | .tbNowRead dt req => Sys2Proof.Machine.execTbNowRead dt req s
  | .markCycle dt core => Sys2Proof.Machine.execMarkCycle dt core s
  | .markReceive dt uid msg => Sys2Proof.Machine.execMarkReceive dt uid msg s
  | .loadReceive dt uid msg => Sys2Proof.Machine.execLoadReceive dt uid msg s
  | .stepMsgReceive dt uid msg => Sys2Proof.Machine.execStepMsgReceive dt uid msg s
  | .calReqReceive dt uid msg => Sys2Proof.Machine.execCalReqReceive dt uid msg s
  | .calEchoLaunch dt uid => Sys2Proof.Machine.execCalEchoLaunch dt uid s
  | .calEchoReceive dt core msg => Sys2Proof.Machine.execCalEchoReceive dt core msg s
  | .calSetReceive dt uid msg => Sys2Proof.Machine.execCalSetReceive dt uid msg s
  | .calEchoTimeout dt core => Sys2Proof.Machine.execCalEchoTimeout dt core s
  | .replicaFlywheel dt uid => Sys2Proof.Machine.execReplicaFlywheel dt uid s
  | .replicaLost dt uid => Sys2Proof.Machine.execReplicaLost dt uid s
  | .refclkLost dt => Sys2Proof.Machine.execRefclkLost dt s
  | .refclkBack dt => Sys2Proof.Machine.execRefclkBack dt s
  | .tickOutDue dt => Sys2Proof.Machine.execTickOutDue dt s
  | .tickInEdge dt edge => Sys2Proof.Machine.execTickInEdge dt edge s
  | .tickInMissing dt toggled level => Sys2Proof.Machine.execTickInMissing dt toggled level s
  | .syncSend dt port => Sys2Proof.Machine.execSyncSend dt port s
  | .syncReceive dt port msg => Sys2Proof.Machine.execSyncReceive dt port msg s
  | .gmDeclare dt => Sys2Proof.Machine.execGmDeclare dt s
  | .upstreamReselect dt => Sys2Proof.Machine.execUpstreamReselect dt s
  | .upstreamLost dt => Sys2Proof.Machine.execUpstreamLost dt s
  | .gmLost dt => Sys2Proof.Machine.execGmLost dt s
  | .linkTrained dt port => Sys2Proof.Machine.execLinkTrained dt port s
  | .loopMeasureDone dt port halves => Sys2Proof.Machine.execLoopMeasureDone dt port halves s
  | .discardWindowEnd dt => Sys2Proof.Machine.execDiscardWindowEnd dt s
  | .asymTimeout dt => Sys2Proof.Machine.execAsymTimeout dt s
  | .asymRetry dt => Sys2Proof.Machine.execAsymRetry dt s
  | .servoRestart dt req value => Sys2Proof.Machine.execServoRestart dt req value s
  | .timeQuery dt req => Sys2Proof.Machine.execTimeQuery dt req s
  | .timeAnswer dt t1 t2 t3 t4 => Sys2Proof.Machine.execTimeAnswer dt t1 t2 t3 t4 s
  | .txtsStamp dt id => Sys2Proof.Machine.execTxtsStamp dt id s
  | .txtsQueuePop dt req => Sys2Proof.Machine.execTxtsQueuePop dt req s
  | .porAssert dt => Sys2Proof.Machine.execPorAssert dt s
  | .porRelease dt => Sys2Proof.Machine.execPorRelease dt s
  | .warmReset dt => Sys2Proof.Machine.execWarmReset dt s
  | .resetNShort dt => Sys2Proof.Machine.execResetNShort dt s
  | .warmResetRelease dt => Sys2Proof.Machine.execWarmResetRelease dt s
  | .domainRelease dt n => Sys2Proof.Machine.execDomainRelease dt n s
  | .d8Wave dt w => Sys2Proof.Machine.execD8Wave dt w s
  | .clockLost dt domain die => Sys2Proof.Machine.execClockLost dt domain die s
  | .clockLostInService dt domain die => Sys2Proof.Machine.execClockLostInService dt domain die s
  | .clockTimeout dt domain die => Sys2Proof.Machine.execClockTimeout dt domain die s
  | .selfCheckDone dt core pass => Sys2Proof.Machine.execSelfCheckDone dt core pass s
  | .optionLoadingEnd dt read => Sys2Proof.Machine.execOptionLoadingEnd dt read s
  | .fwBoot dt core => Sys2Proof.Machine.execFwBoot dt core s
  | .stormRelease dt req value => Sys2Proof.Machine.execStormRelease dt req value s
  | .persistWriteDone dt ok => Sys2Proof.Machine.execPersistWriteDone dt ok s
  | .stage dt req idx sub off bytes => Sys2Proof.Machine.execStage dt req idx sub off bytes s
  | .commit dt req indivisible notify => Sys2Proof.Machine.execCommit dt req indivisible notify s
  | .blkOpen dt req idx sub dir off len => Sys2Proof.Machine.execBlkOpen dt req idx sub dir off len s
  | .blkData dt req block off bytes => Sys2Proof.Machine.execBlkData dt req block off bytes s
  | .blkClose dt req block crc => Sys2Proof.Machine.execBlkClose dt req block crc s
  | .blkDataResend dt block seq => Sys2Proof.Machine.execBlkDataResend dt block seq s
  | .blkTimeout dt block => Sys2Proof.Machine.execBlkTimeout dt block s
  | .notifyAck dt session seq => Sys2Proof.Machine.execNotifyAck dt session seq s
  | .notifyResend dt session seq => Sys2Proof.Machine.execNotifyResend dt session seq s
  | .claimSend dt => Sys2Proof.Machine.execClaimSend dt s
  | .offerAssign dt serial node count => Sys2Proof.Machine.execOfferAssign dt serial node count s
  | .offerRevoke dt serial => Sys2Proof.Machine.execOfferRevoke dt serial s
  | .sessionHello dt hello => Sys2Proof.Machine.execSessionHello dt hello s
  | .sessionClose dt session byPeer => Sys2Proof.Machine.execSessionClose dt session byPeer s
  | .sessionTimeout dt session => Sys2Proof.Machine.execSessionTimeout dt session s
  | .plcaInactive dt => Sys2Proof.Machine.execPlcaInactive dt s
  | .plcaReturn dt => Sys2Proof.Machine.execPlcaReturn dt s
  | .registerWrite dt req idx sub off bytes => Sys2Proof.Machine.execRegisterWrite dt req idx sub off bytes s
  | .fwUpdate dt req image => Sys2Proof.Machine.execFwUpdate dt req image s
  | .fwUpdateApply dt req value => Sys2Proof.Machine.execFwUpdateApply dt req value s
  | .fwUpdateStandbyReady dt => Sys2Proof.Machine.execFwUpdateStandbyReady dt s
  | .fwUpdateOldReady dt => Sys2Proof.Machine.execFwUpdateOldReady dt s
  | .fwUpdateTimeout dt => Sys2Proof.Machine.execFwUpdateTimeout dt s
  | .lcRequest dt req request => Sys2Proof.Machine.execLcRequest dt req request s
  | .lcFettleDone dt area ok => Sys2Proof.Machine.execLcFettleDone dt area ok s
  | .authChallenge dt req => Sys2Proof.Machine.execAuthChallenge dt req s
  | .authToken dt req token => Sys2Proof.Machine.execAuthToken dt req token s
  | .authEnded dt session => Sys2Proof.Machine.execAuthEnded dt session s
  | .mgrKeysWrite dt req k key => Sys2Proof.Machine.execMgrKeysWrite dt req k key s
  | .logAck dt req seq => Sys2Proof.Machine.execLogAck dt req seq s
  | .logRead dt req => Sys2Proof.Machine.execLogRead dt req s
  | .ringResponse dt die words secureLines => Sys2Proof.Machine.execRingResponse dt die words secureLines s
  | .ringTimeout dt die tag => Sys2Proof.Machine.execRingTimeout dt die tag s
  | .quenchIn dt => Sys2Proof.Machine.execQuenchIn dt s
  | .quenchInArm dt => Sys2Proof.Machine.execQuenchInArm dt s
  | .quenchInDeferred dt => Sys2Proof.Machine.execQuenchInDeferred dt s
  | .quenchInEntryFree dt => Sys2Proof.Machine.execQuenchInEntryFree dt s
  | .inputStuck dt => Sys2Proof.Machine.execInputStuck dt s
  | .jtagUpdateIr dt scan => Sys2Proof.Machine.execJtagUpdateIr dt scan s
  | .jtagTestReset dt => Sys2Proof.Machine.execJtagTestReset dt s
  | .chillEntry dt half => Sys2Proof.Machine.execChillEntry dt half s
  | .chillExit dt half => Sys2Proof.Machine.execChillExit dt half s
  | .linkDown dt port => Sys2Proof.Machine.execLinkDown dt port s
  | .traceStallTimeout dt core => Sys2Proof.Machine.execTraceStallTimeout dt core s
  | .optionWriteDone dt ok => Sys2Proof.Machine.execOptionWriteDone dt ok s

end Sys2Proof.Machine
end

