-- ==== Sys2Proof/Safety.lean ====
section
/-!
DEFINITION. The terms in which claims are stated: answering a next state, a request that is served,
and which parts of the state may change.
-/
namespace Sys2Proof.Machine

/-- An outcome is a next state. -/
def Answers (o : Host.Outcome State Fault Refusal) : Prop := ∃ t, o = .next t

/-- From `s`, `k` steps answer next states. -/
def SafeRun : Nat → State → Prop
  | 0, _ => True
  | k + 1, s => ∃ t, step s = .next t ∧ SafeRun k t

/-- The request `req`, arriving `dt` after the state `s`, is accepted for requester `c`, and the checks
that come before an object's own rules pass (R619, R634–R643, R746); `s1` is the state then. -/
def Served (s : State) (dt : Nat) (req : Req) (idx sub : Nat) (w : Way) (c : Ctx) (s1 : State) : Prop :=
  (s.begin dt).admitReq req = (s1, some c) ∧ s1.objCheck c.rank idx sub w = none

/-- A time-wire message of a type reaches a unit that receives it: no runner in reset, the CRC word
matches (R101, R103). -/
def Hears (s : State) (uid type : Nat) (m : List Nat) : Prop :=
  (uidIsRunner uid && (s.runner (uidDie uid)).inReset) = false ∧ msgCrcOk m = true ∧ msgType m = type

/-- The entries that quench, step or resume and stand open (R302). -/
def State.openActions (s : State) : List Nat :=
  (List.range 32).filter fun n =>
    (s.entry n).open && decide (1 ≤ (s.entry n).action) && decide ((s.entry n).action ≤ 4)

/-- The parts of the state. -/
inductive Part where
  | pending
  | elapsed
  | emitted
  | freeCount
  | fuses
  | topo
  | hub
  | tb
  | wireA
  | wireR
  | pod
  | frame
  | sched
  | units
  | qu
  | podCut
  | dump
  | hang
  | fm
  | adm
  | bar
  | trace
  | power
  | rst
  | backup
  | flash
  | logSeq
  | imageIds
  | eventSeqs
  | log
  | port
  | fw
  | lc
  | pins
  | dram
  deriving DecidableEq, Repr

/-- A part is the same in two states. -/
def State.sameAt (s t : State) : Part → Prop
  | .pending => t.pending = s.pending
  | .elapsed => t.elapsed = s.elapsed
  | .emitted => t.emitted = s.emitted
  | .freeCount => t.freeCount = s.freeCount
  | .fuses => t.fuses = s.fuses
  | .topo => t.topo = s.topo
  | .hub => t.hub = s.hub
  | .tb => t.tb = s.tb
  | .wireA => t.wireA = s.wireA
  | .wireR => t.wireR = s.wireR
  | .pod => t.pod = s.pod
  | .frame => t.frame = s.frame
  | .sched => t.sched = s.sched
  | .units => t.units = s.units
  | .qu => t.qu = s.qu
  | .podCut => t.podCut = s.podCut
  | .dump => t.dump = s.dump
  | .hang => t.hang = s.hang
  | .fm => t.fm = s.fm
  | .adm => t.adm = s.adm
  | .bar => t.bar = s.bar
  | .trace => t.trace = s.trace
  | .power => t.power = s.power
  | .rst => t.rst = s.rst
  | .backup => t.backup = s.backup
  | .flash => t.flash = s.flash
  | .logSeq => t.logSeq = s.logSeq
  | .imageIds => t.imageIds = s.imageIds
  | .eventSeqs => t.eventSeqs = s.eventSeqs
  | .log => t.log = s.log
  | .port => t.port = s.port
  | .fw => t.fw = s.fw
  | .lc => t.lc = s.lc
  | .pins => t.pins = s.pins
  | .dram => t.dram = s.dram

/-- Only the listed parts may differ. -/
def Changes (ps : List Part) (s t : State) : Prop := ∀ p, p ∉ ps → s.sameAt t p

/-- An address of the stacks in no header block of a trace buffer (R525). -/
def State.offHeaders (s : State) (a : Nat) : Prop :=
  ∀ die, die < 16 → a < stackAddr die s.trace.base ∨ stackAddr die s.trace.base + 128 ≤ a

/-- The lines that the frozen sinks hold fit below the ends of their buffers (R526, R538). -/
def State.heldFits (s : State) : Prop :=
  ∀ die, die < 16 → (s.sink die).heldLines = [] ∨ ((∀ l ∈ (s.sink die).heldLines, l.length = 64) ∧
    (s.sink die).writeOffset + 64 * (s.sink die).heldLines.length < s.trace.size)

/-- An address of the stacks where no held line goes at a thaw (R538). -/
def State.offHeld (s : State) (a : Nat) : Prop :=
  ∀ die, die < 16 → a < stackAddr die (s.trace.base + (s.sink die).writeOffset) ∨
    stackAddr die (s.trace.base + (s.sink die).writeOffset) + 64 * (s.sink die).heldLines.length ≤ a

/-- What every step keeps: memory in its canonical form, the phase of the release sequence within R589, the two
key stores alike (R662), and LC_STATE one of the four states of R666. -/
def State.Inv (s : State) : Prop :=
  Mem.wf s.dram ∧ s.rst.phase ≤ 10 ∧ s.lc.storeA = s.lc.storeB ∧ s.lcState ≤ 3

end Sys2Proof.Machine
end

