-- ==== Sys2Proof/Certificates/Slice0/Obligations.lean ====
section
/-!
DEFINITION. The statements for the provers, chapter by chapter. A statement holds of every state that meets its
premises, a state that no run reaches among them; the state after a command is named, with the field values that
the rules give it.
-/
open Sys2Proof Sys2Proof.Machine

/-! ## Chapter 03 -/

/-- The messages of the time wires (R99–R101, R107, R109, R111, R117, R125): a source sends MARK or LOAD
in slot A of each mark cycle; a COLD replica that accepts a MARK or LOAD tracks from the value of R107; a
STEP is registered; a CAL_REQ is noted with its arrival; a CAL_SET sets the delay of its source. -/
def Obligations.TimeWireMessages : Prop :=
  (∀ (dt core : Nat) (s : State), core < 2 → (s.wire core).sourcing = true →
    (s.wire core).start + (s.wire core).cycle * 16 * Config.stepsPerWave ≤ s.elapsed + dt →
    ∃ t, exec (.markCycle dt core) s = .next t ∧ (t.wire core).cycle = (s.wire core).cycle + 1 ∧
      t.emitted.head? = some ⟨.timeWire, core, wordsLe (stampMsg
        (wireWord0 (if 0 < (s.wire core).loadsLeft then 2 else 1) core (bit (core = s.activeCore))
          (s.wire core).cycle 0)
        (((s.begin dt).tbu core).ns16 (s.elapsed + dt)) (ofSigned 32 ((s.begin dt).tbu core).rate))⟩) ∧
  (∀ (dt uid : Nat) (msg : List Nat) (s : State) (d : Nat), Hears s uid 1 msg →
    ((s.begin dt).getRep uid).delayFor (msgSrc msg) = some d →
    msgAct msg = true → msgCorr (msgArrived msg uid) < 0xFFFF →
    ((s.begin dt).getRep uid).state = .cold → (uid = coreUid s.standbyCore → s.standbyHolds = false) →
    ∃ x : State, exec (.markReceive dt uid msg) s = .next x ∧ (x.getRep uid).state = .tracking ∧
      (x.getRep uid).clock.counting = true ∧
      (x.getRep uid).clock.read x.elapsed = trueAcc (msgArrived msg uid) d) ∧
  (∀ (dt uid : Nat) (msg : List Nat) (s : State) (d : Nat), Hears s uid 2 msg →
    ((s.begin dt).getRep uid).delayFor (msgSrc msg) = some d →
    msgAct msg = true → msgCorr (msgArrived msg uid) < 0xFFFF →
    (uid = coreUid s.standbyCore → s.standbyHolds = false) →
    ∃ x : State, exec (.loadReceive dt uid msg) s = .next x ∧ (x.getRep uid).state = .tracking ∧
      (x.getRep uid).clock.counting = true ∧
      (x.getRep uid).clock.read x.elapsed = trueAcc (msgArrived msg uid) d) ∧
  (∀ (dt uid : Nat) (msg : List Nat) (s : State), Hears s uid 3 msg →
    (∀ x ∈ ((s.begin dt).getRep uid).steps, x.1 ≠ msgWord msg 1 * 2 ^ 32 + msgWord msg 2) →
    (∀ x ∈ ((s.begin dt).getRep uid).applied, x.1 ≠ msgWord msg 1 * 2 ^ 32 + msgWord msg 2) →
    exec (.stepMsgReceive dt uid msg) s = .next ((s.begin dt).putRep uid { (s.begin dt).getRep uid with
      steps := ((s.begin dt).getRep uid).steps ++ [(msgWord msg 1 * 2 ^ 32 + msgWord msg 2,
        toSigned 64 (msgWord msg 3 * 2 ^ 32 + msgWord msg 4))] })) ∧
  (∀ (dt uid : Nat) (msg : List Nat) (s : State), Hears s uid 4 msg → msgTarget msg = uid →
    ∃ p, exec (.calReqReceive dt uid msg) s = .next ((s.begin dt).putRep uid { (s.begin dt).getRep uid with
      echo := ((s.begin dt).getRep uid).echo ++
        [⟨msgSrc msg, msgSeq msg, msgCorr (msgArrived msg uid), s.elapsed + dt, p⟩] }) ∧
      p = (if ((s.begin dt).getRep uid).state = .cold then none
        else some (((s.begin dt).getRep uid).clock.ns16 (s.elapsed + dt)))) ∧
  (∀ (dt uid : Nat) (msg : List Nat) (s : State), Hears s uid 6 msg → msgTarget msg = uid →
    ∃ r, exec (.calSetReceive dt uid msg) s = .next ((s.begin dt).putRep uid r) ∧
      r.delayFor (msgSrc msg) = some (msgWord msg 1) ∧
      ∀ src, (src = 0 ↔ msgSrc msg ≠ 0) → r.delayFor src = ((s.begin dt).getRep uid).delayFor src)

/-- Delay calibration (R105, R106, R109–R111, R114): each crossing adds its residence to CORR or RET_CORR, which stop
at 0xFFFF, and no other word changes on the way; the echo is sent 3,072 ns after its CAL_REQ; a new delay
within 50 ps of the value last set is sent in a CAL_SET; a request that goes unanswered for 8 mark cycles
is repeated once, and the third failed round is logged. That the readings of the converters stand after the six words is
the model's choice (log entry 156). -/
def Obligations.DelayCalibration : Prop :=
  (∀ (corr : Nat) (readings : List Nat), corr ≤ 0xFFFF →
    addResidence corr readings = Nat.min 0xFFFF (corr + (readings.map residence).sum)) ∧
  (∀ (msg : List Nat) (uid : Nat), (msgType msg = 1 ∨ msgType msg = 2 ∨ msgType msg = 4) →
    msgCorr (msgArrived msg uid) = addResidence (msgCorr msg)
      ((List.range (msgCrossings msg uid)).map fun i => msg.getD (6 + i) 0) ∧
    ∀ k, k < 6 → k ≠ 3 → msgWord (msgArrived msg uid) k = msgWord msg k) ∧
  (∀ (msg : List Nat) (uid : Nat), msgType msg = 5 →
    msgWord (msgArrived msg uid) 2 % 65536 = addResidence (msgWord msg 2 % 65536)
      ((List.range (msgCrossings msg uid)).map fun i => msg.getD (6 + i) 0) ∧
    msgWord (msgArrived msg uid) 2 / 65536 = msgWord msg 2 / 65536 ∧
    ∀ k, k < 6 → k ≠ 2 → msgWord (msgArrived msg uid) k = msgWord msg k) ∧
  (∀ k : Nat, 2 * (5 * (residence k : Int) - 8 * k).natAbs ≤ 5) ∧
  (∀ (dt uid : Nat) (s : State) (e : EchoDue) (rest : List EchoDue), ((s.begin dt).getRep uid).echo = e :: rest →
    3072 * 65536 ≤ ((s.begin dt).getRep uid).turnaround e (s.elapsed + dt) →
    exec (.calEchoLaunch dt uid) s = .next (((s.begin dt).emit .calEcho e.core (wordsLe (wireMsg
      (wireWord0 5 e.core (bit (e.core = s.activeCore)) e.seq uid)
      (((s.begin dt).getRep uid).turnaround e (s.elapsed + dt) % 2 ^ 32) (e.corr * 65536)
      (ofSigned 32 ((s.begin dt).getRep uid).lastErr) ((s.begin dt).getRep uid).state.code))).putRep uid
        { (s.begin dt).getRep uid with echo := rest })) ∧
  (∀ (dt core : Nat) (msg m : List Nat) (s : State) (q : CalReq) (d0 : Int), Hears s (coreUid core) 5 msg →
    m = msgArrived msg (coreUid core) →
      ((s.wire core).reqs.find? fun q => q.target = msgTarget msg && q.seq = msgSeq msg) = some q →
    msgWord m 2 / 65536 ≠ 0xFFFF → msgWord m 2 % 65536 ≠ 0xFFFF → msgWord m 4 % 256 ≠ 0 →
    ((s.wire core).target q.target).dSet = some d0 → ((s.wire core).target q.target).wanted ≠ 8 →
    ∀ d : Int, d = ((((s.begin dt).tbu core).ns16 (s.elapsed + dt) : Int) - q.t1 - msgWord m 1 -
        (msgWord m 2 / 65536 : Nat) * 256 - (msgWord m 2 % 65536 : Nat) * 256) / 2 →
    (d - d0).natAbs * 1000 ≤ 50 * 65536 →
    ∃ w, exec (.calEchoReceive dt core msg) s = .next ((s.begin dt).putWire core w) ∧
      w.setQueue = (s.wire core).setQueue ++ [(q.target, d)] ∧ w.reqs = (s.wire core).reqs.erase q) ∧
  (∀ (dt core : Nat) (s : State) (q : CalReq),
    ((s.wire core).reqs.find? fun q => decide (q.launch + 128 * Config.stepsPerWave ≤ s.elapsed + dt)) = some q →
    (q.repeated = false → exec (.calEchoTimeout dt core) s = .next ((s.begin dt).putWire core
      { s.wire core with reqs := (s.wire core).reqs.erase q, repeatReq := (s.wire core).repeatReq ++ [q.target] })) ∧
    (q.repeated = true → ((s.wire core).target q.target).failedRounds = 2 →
      ∃ w, exec (.calEchoTimeout dt core) s =
        .next (((s.begin dt).putWire core w).logged Code.calNoEcho (be 2 q.target))))

/-- A replica without marks, and REFCLK (R93–R95, R117): a tracking replica without a MARK for 2 mark
cycles flies on its last RATE; one without for 1,024 mark cycles is COLD, and the loss is logged; on loss of
REFCLK the TBU runs on its own oscillator and the servo holds over; when REFCLK is back it relocks. -/
def Obligations.ReplicaAndRefclkLoss : Prop :=
  (∀ (dt uid : Nat) (s : State), ((s.begin dt).getRep uid).state = .tracking →
    ((s.begin dt).getRep uid).lastMark + 2 * 16 * Config.stepsPerWave ≤ s.elapsed + dt →
    exec (.replicaFlywheel dt uid) s =
      .next ((s.begin dt).putRep uid { (s.begin dt).getRep uid with state := .flywheel })) ∧
  (∀ (dt uid : Nat) (s : State), ((s.begin dt).getRep uid).state = .flywheel →
    ((s.begin dt).getRep uid).lastMark + 1024 * 16 * Config.stepsPerWave ≤ s.elapsed + dt →
    ∃ r, exec (.replicaLost dt uid) s =
        .next (((s.begin dt).putRep uid r).logged Code.replicaLost (be 2 uid)) ∧
      r.state = .cold ∧ (r.clock.counting = decide (uid = coreUid s.standbyCore))) ∧
  (∀ (dt : Nat) (s : State), s.tb.refclkPresent = true →
    ∃ x : State, exec (.refclkLost dt) s =
        .next ((x.logged Code.refclkLost []).alsoStandby fun s => s.holdover Why.refclkLost) ∧
      x.tb.refclkPresent = false ∧ x.tb.dcoSince = some (s.elapsed + dt) ∧
      x.pod.servo.state = s.pod.servo.state) ∧
  (∀ (dt : Nat) (s : State), s.tb.refclkPresent = false →
    ∃ x : State, exec (.refclkBack dt) s =
        .next ((x.logged Code.refclkBack []).alsoStandby fun s => s.clearReason Why.refclkLost none) ∧
      x.tb.refclkPresent = true ∧ x.tb.dcoSince = none ∧ x.tb.active.drift = 0 ∧
      x.pod.servo.state = s.pod.servo.state)

/-- Reading the time and the board's time pins (R96, R97, R128, R130, R135–R137, R141): TB_NOW answers
PNS and latches the fraction for its requester; TICK_OUT rises at a due PNS; an edge of TICK_IN that is
accepted while the input is qualified feeds the servo; an outlier is ignored; an input without edges is
disqualified by its level. -/
def Obligations.TimeReadAndPins : Prop :=
  (∀ (dt : Nat) (req : Req) (s s1 : State) (c : Ctx), Served s dt req 0x2000 0 .read c s1 →
    ∃ x : State, exec (.tbNowRead dt req) s =
        .next (x.answerFlags c (s1.pendingFlag c.who 0x2000 0) Abort.ok (be 8 s1.pns)) ∧
      x.tb.fracLatch = Tab.put s1.tb.fracLatch c.latchKey (s1.pns16 % 65536) ∧ Changes [.tb] s1 x) ∧
  (∀ (dt n p : Nat) (s : State), (s.begin dt).pnsHere = some n →
    (s.begin dt).tickOutPeriod ((s.begin dt).tickOutModeAt n) = some p →
    s.tb.active.counting = true → n % p = 0 → (s.begin dt).tickOutHigh = false →
    ∃ t, exec (.tickOutDue dt) s = .next t ∧ t.tb.tickOutLast = some (s.elapsed + dt) ∧
      t.emitted = [⟨.tickOut, 0, be 8 n⟩] ∧ 10 * ((s.begin dt).pns16 - n * 65536 : Int).natAbs ≤ 65536) ∧
  (∀ (dt : Nat) (edge : TickEdge) (s : State) (st off : Int) (p : Nat), 20 ≤ edge.highNs →
    s.tb.active.counting = true →
    st = (s.begin dt).tickStamp s.tb.active → p = s.tickInPeriod * 65536 → off = st - divRound st p * p →
    s.tb.tickIn.state = 2 → s.pod.servo.state ≠ 0 →
    (∀ a, s.tb.tickIn.lastAccepted = some a → (p : Int) ≤ 2 * (st - a)) →
    ((off.natAbs ≤ 100 * 65536 → s.tickSteers = true →
      ∃ x : State, exec (.tickInEdge dt edge) s = .next (x.servoStep (nsOf16 off)) ∧
        x.tb.tickIn.lastAccepted = some st ∧ x.tb.tickIn.acceptedAt = some (s.elapsed + dt) ∧
        x.tb.tickIn.state = 2 ∧ x.pod.servo = { s.pod.servo with lastSample := s.tb.tickIn.acceptedAt }) ∧
     (100 * 65536 < off.natAbs → s.tb.tickIn.outliers < 2 →
      ∃ t, exec (.tickInEdge dt edge) s = .next t ∧ t.tb.tickIn.outliers = s.tb.tickIn.outliers + 1 ∧
        t.tb.tickIn.lastAccepted = s.tb.tickIn.lastAccepted ∧ t.pod.servo = s.pod.servo ∧
        t.tb.active = s.tb.active))) ∧
  (∀ (dt : Nat) (edge : TickEdge) (s : State) (st off : Int) (p : Nat), 20 ≤ edge.highNs →
    s.tb.active.counting = true → s.tickSteers = true → s.pod.servo.state = 0 →
    st = (s.begin dt).tickStamp s.tb.active → p = s.tickInPeriod * 65536 → off = st - divRound st p * p →
    s.tb.tickIn.state = 2 → (∀ a, s.tb.tickIn.lastAccepted = some a → (p : Int) ≤ 2 * (st - a)) →
    ∃ x : State, exec (.tickInEdge dt edge) s = .next (x.alignTo off) ∧ x.tb.active = s.tb.active ∧
      (x.alignTo off).pod.servo.state = 1) ∧
  (∀ (dt : Nat) (toggled level : Bool) (s : State) (a : Int), s.tb.tickIn.lastAccepted = some a →
    3 * ((s.tickInPeriod * 65536 : Nat) : Int) ≤ 2 * ((s.begin dt).tickStamp s.tb.active - a) →
    s.tb.tickIn.state < 4 ∨ 6 < s.tb.tickIn.state →
    ∃ x : State, exec (.tickInMissing dt toggled level) s =
        .next (State.tickLost (x.logged Code.tickInMissing [])) ∧
      x.tb.tickIn.state = (if toggled then 4 else if level then 6 else 5))

/-! ## Chapter 04 -/

/-- Time links (R159–R161, R165, R168–R170, R172): the next SYNC of a port leaves with the next SEQ; a
SYNC is kept with its receive stamp and makes its port's offer, and the upstream's is copied; a message
whose CRC does not match is counted for its port; training raises the port's generation and, on a port that carries
time-link messages, measures its fibre; a measurement's median ends it. -/
def Obligations.PodTimeLinks : Prop :=
  (∀ (dt port seq : Nat) (s : State), s.portSends port = true → s.frame.ticked = true →
    Tab.at s.pod.syncIndex port 0 < s.syncPerFrame →
    Tab.at s.pod.syncIndex port 0 * s.frame.lenNs ≤ ((s.begin dt).pns - s.frame.opened) * s.syncPerFrame →
    seq = (match (s.timePort port).seq with | some q => (q + 1) % 65536 | none => 0) →
    ∃ t, exec (.syncSend dt port) s = .next t ∧
      t.emitted = [⟨.sync, portUid port, (s.begin dt).syncMessage port seq⟩] ∧
      t.pod.syncIndex = Tab.put s.pod.syncIndex port (Tab.at s.pod.syncIndex port 0 + 1) ∧
      t.pod.ports = Tab.mod s.pod.ports port TimePort.fresh fun x =>
        { x with seq := some seq, txStamps := ((seq, (s.begin dt).phyStamp port) :: x.txStamps).take 64 }) ∧
  (∀ (dt port : Nat) (msg : List Byte) (s : State), port < 48 → s.timeLink port = true → msg.length = 72 →
    fieldBe msg 68 4 = crc32c (msg.take 68) → fieldBe msg 0 1 = 0x11 → bitOf (fieldBe msg 1 1) 2 = false →
    s.pod.role ≠ 1 →
    (∀ q, s.pod.upstream = some q → q ≠ port →
      exec (.syncReceive dt port msg) s = .next ((s.begin dt).drawn.modTimePort port fun x =>
        { peerLoopSeen (fieldBe msg 60 4) x with
          lastRx := some (fieldBe msg 2 2, (s.begin dt).phyStamp port), offer := some (s.offerFrom port msg) })) ∧
    (s.pod.upstream = some port → s.pod.seenPath = fieldBe msg 4 2 → s.pod.seenGm = fieldBe msg 8 8 →
      bitOf (fieldBe msg 1 1) 4 = false →
      ∃ t, exec (.syncReceive dt port msg) s = .next t ∧ t.pod.gmId = fieldBe msg 8 8 ∧
        t.pod.hops = Nat.min 255 (fieldBe msg 6 1 + 1) ∧ t.pod.gmCount = fieldBe msg 54 2 ∧
        (s.pod.boundOf = fieldBe msg 8 8 → t.pod.upBound = fieldBe msg 56 4) ∧
        t.pod.tickRef = bitOf (fieldBe msg 1 1) 5 ∧
        t.pod.upstream = some port)) ∧
  (∀ (dt port : Nat) (msg : List Byte) (s : State), port < 48 → s.timeLink port = true →
    (msg.length ≠ 72 ∨ fieldBe msg 68 4 ≠ crc32c (msg.take 68)) →
    exec (.syncReceive dt port msg) s = .next ((s.begin dt).modTimePort port fun x =>
      { x with syncCrc := inc32 x.syncCrc })) ∧
  (∀ (dt port : Nat) (s : State), port < 48 → s.pod.upstream ≠ some port →
    ∃ t, exec (.linkTrained dt port) s = .next t ∧
      t.units.ports = Tab.mod s.units.ports port OptPort.fresh (fun x => { x with linkUp := true }) ∧
      (s.pod.portMask.getLsbD port = true → (s.runner (portDie port)).fenced = false →
        t.pod.ports = Tab.mod (Tab.mod s.pod.ports port TimePort.fresh
            fun x => { x with generation := (x.generation + 1) % 256 }) port TimePort.fresh
          (fun x => { x with measuring := true, ownLoop := none }) ∧ t.emitted.length = 16) ∧
      (s.pod.portMask.getLsbD port = false →
        t.pod.ports = Tab.mod s.pod.ports port TimePort.fresh
          (fun x => { x with generation := (x.generation + 1) % 256 }) ∧ t.emitted = [])) ∧
  (∀ (dt port : Nat) (s : State), port < 48 →
    exec (.linkDown dt port) s = .next ((s.begin dt).modPort port fun x => { x with linkUp := false })) ∧
  (∀ (dt port : Nat) (halves : List Nat) (s : State), (s.timePort port).measuring = true →
    exec (.loopMeasureDone dt port halves) s = .next (((s.begin dt).modTimePort port fun x =>
      { x with measuring := false, ownLoop := some (loopResult halves) }).alsoStandby State.asymDecide))

/-- The tree (R153, R155–R157): a candidate that has held no better offer for 16 frames declares itself
grandmaster, at HOPS 0 and PATH_ID 0; a node moves to the offer that has ranked above its upstream for 16
frames and copies it; a silent upstream and a frozen GM_COUNT are told, the servo holds over, and the best
remaining offer is chosen. -/
def Obligations.PodTimeElection : Prop :=
  (∀ (dt f : Nat) (s : State), s.pod.role = 2 → s.pod.candidateSince = some f → f + 16 ≤ s.frame.number →
    s.betterThanSelf = false →
    ∃ t, exec (.gmDeclare dt) s = .next t ∧ t.pod.role = 1 ∧ t.pod.gmId = s.fuses.serial ∧ t.pod.hops = 0 ∧
      t.pod.pathId = 0 ∧ t.pod.upstream = none ∧
      (s.rst.tickSourceBit = false → t.pod.servo.state = 0 ∧ t.pod.shadow.state = 0)) ∧
  (∀ (dt q : Nat) (o : Offer) (s : State), s.bestOffer = some q → (s.timePort q).offer = some o →
    s.pod.role ≠ 1 → s.pod.upstream ≠ some q → s.upstreamOpen = true →
    ∃ t, exec (.upstreamReselect dt) s = .next t ∧ t.pod.upstream = some q ∧ t.pod.gmId = o.gmId ∧
      t.pod.hops = Nat.min 255 (o.hops + 1) ∧ t.pod.servo.windowFrom = some s.frame.number) ∧
  (∀ (dt p : Nat) (s : State), s.pod.upstream = some p → s.pod.role ≠ 1 → s.pod.heardAt + 4 ≤ s.frame.number →
    exec (.upstreamLost dt) s = .next ((((s.begin dt).told Code.upstreamLost (be 2 (portUid p))).modTimePort p
      fun x => { x with offer := none }).alsoStandby fun s => (s.holdover Why.upstreamLost).reselect)) ∧
  (∀ (dt p : Nat) (s : State), s.pod.upstream = some p → s.pod.role ≠ 1 →
    s.pod.gmChangedAt + 8 ≤ s.frame.number →
    ∃ x : State, exec (.gmLost dt) s = .next (x.alsoStandby fun s => (s.holdover Why.gmLost).reselect) ∧
      (∀ e ∈ x.pod.ports, ∀ o, e.2.offer = some o → o.gmId = s.pod.gmId → o.advancedAt = none) ∧
      x.pod.candidateSince = if s.pod.role = 2 then some s.frame.number else none)

/-- The servo's windows and RESTART (R179, R187, R188, R190, R191): after 8 frames of discard the node asks for both
delays, on a port that carries time-link messages; with the peer's delay unknown 16 frames later the asymmetry stays
unresolved by X, and A is kept; every 1,024 frames it is tried again; RESTART puts the servo FREE with I and RATE 0. -/
def Obligations.PodTimeServo : Prop :=
  (∀ (dt f p : Nat) (s : State), s.pod.servo.windowFrom = some f → f + 8 ≤ s.frame.number →
    s.pod.upstream = some p →
    ∃ t, exec (.discardWindowEnd dt) s = .next t ∧ t.pod.servo.windowFrom = none ∧
      t.pod.servo.windowEnded = some s.frame.number ∧ t.pod.servo.samples = [] ∧
      (t.timePort p).asking = true ∧ t.emitted.length = (if s.portSends p then 16 else 0)) ∧
  (∀ (dt f p : Nat) (s : State), s.pod.upstream = some p → s.pod.servo.windowEnded = some f →
    8 ≤ s.pod.servo.samples.length → (s.timePort p).peerLoop = 0xFFFFFFFF → f + 16 ≤ s.frame.number →
    ∃ t, exec (.asymTimeout dt) s = .next t ∧ t.pod.servo.asym = s.pod.servo.asym ∧
      t.pod.servo.unresolved =
        some (medianRat s.pod.servo.raws - s.pod.servo.asym - s.pod.servo.beforePath)) ∧
  (∀ (dt p : Nat) (s : State), s.pod.servo.unresolved.isSome = true → s.pod.servo.windowFrom = none →
    s.pod.servo.windowEnded = none → s.pod.servo.retryAt + 1024 ≤ s.frame.number → s.pod.upstream = some p →
    ∃ t, exec (.asymRetry dt) s = .next t ∧ t.pod.servo.retrying = true ∧
      t.pod.servo.retryAt = s.frame.number ∧ (t.timePort p).asking = true ∧
      t.emitted.length = (if s.portSends p then 16 else 0)) ∧
  (∀ (dt : Nat) (req : Req) (value : Nat) (s s1 : State) (c : Ctx), Served s dt req 0x2010 0x0A .write c s1 →
    (value = 1 → ∃ x : State, exec (.servoRestart dt req value) s = .next (x.answer c Abort.ok []) ∧
      x.pod.servo.state = 0 ∧ x.pod.servo.integral = 0 ∧ x.pod.servo.freqPpb = 0 ∧ x.tb.active.rate = 0 ∧
      x.pod.shadow.state = 0 ∧
      Changes [.tb, .pod] s1 x) ∧
    (value ≠ 1 → exec (.servoRestart dt req value) s = .next (s1.answer c Abort.valueRange [])))

/-- The management-path label (R195–R200): a QUERY is answered with PNS as T2 and with T3 0; an ANSWER
places the epoch; a transmit stamp is queued, or counted as an overflow while 16 are held; a read of the
oldest removes it. -/
def Obligations.ManagementTime : Prop :=
  (∀ (dt : Nat) (req : Req) (s s1 : State) (c : Ctx) (x : Session), (s.begin dt).admitReq req = (s1, some c) →
    s1.sessionOf c = some x →
    exec (.timeQuery dt req) s = .next (s1.sendIn .timeAnswer x 9 0 0
      (be 1 2 ++ be 1 0 ++ be 2 c.seq ++ be 8 s1.pns ++ be 8 0 ++ zeros 4))) ∧
  (∀ (dt t1 t2 t3 t4 : Nat) (s : State), ∃ t, exec (.timeAnswer dt t1 t2 t3 t4) s = .next t ∧
    t.tb.taiSeconds = ofSigned 64 ((((t2 : Int) - t1) + ((t3 : Int) - t4)) / 2 / 1000000000) ∧
    t.pod.taiResidual = (((t2 : Int) - t1) + ((t3 : Int) - t4)) / 2 % 1000000000 ∧
    t.tb.active = s.tb.active) ∧
  (∀ (dt id : Nat) (s : State), ∃ t, exec (.txtsStamp dt id) s = .next t ∧
    (s.pod.txts.length < 16 → t.pod.txts = s.pod.txts ++ [(id % 65536, (s.begin dt).pns)] ∧
      t.pod.txtsOverflow = s.pod.txtsOverflow) ∧
    (16 ≤ s.pod.txts.length → t.pod.txts = s.pod.txts ∧ t.pod.txtsOverflow = inc32 s.pod.txtsOverflow)) ∧
  (∀ (dt : Nat) (req : Req) (s s1 : State) (c : Ctx) (id tm : Nat) (rest : List (Nat × Nat)),
    Served s dt req 0x2030 1 .read c s1 → s1.pod.txts = (id, tm) :: rest →
    ∃ x : State, exec (.txtsQueuePop dt req) s =
        .next (x.answerFlags c (s1.pendingFlag c.who 0x2030 1) Abort.ok (be 2 id ++ be 8 tm)) ∧
      x.pod.txts = rest ∧ Changes [.pod] s1 x)

/-! ## Chapter 05, and the takeover of chapter 02 -/

/-- The frame (R55, R56, R67, R203–R205, R208, R215, R545, R563): a boundary that the count reaches opens a frame
with the next number and sends the tick wave, after the slot 15 that it may have passed over; a runner's report is
taken under the frame's number, and a tap that it has not heard is unresponsive; a diode invalid twice is failed and
logged; a die is held after 4 hot ticks and freed after 16 cool ones; slot 15 freezes the commit queue. -/
def Obligations.FrameRuns : Prop :=
  (∀ (dt : Nat) (a r : Bool) (s : State), s.tb.active.counting = true → s.frame.nextTick ≤ (s.begin dt).pns →
    s.frame.ticked = true → s.frame.frozen = false →
    exec (.frameTick dt a r) s = .next ((s.begin dt).slotFifteen.openFrame.slotZero a r)) ∧
  (∀ (dt : Nat) (a r : Bool) (s : State), s.tb.active.counting = true → s.frame.nextTick ≤ (s.begin dt).pns →
    (s.frame.ticked = false ∨ s.frame.frozen = true) →
    ∃ x : State, exec (.frameTick dt a r) s = .next (x.slotZero a r) ∧
      x.frame.number = (if s.frame.ticked then s.frame.number + 1 else 0) ∧
      x.frame.opened = s.frame.nextTick ∧ x.frame.nextTick = s.frame.nextTick + s.frame.lenNs ∧
      x.frame.frozen = false ∧ x.emitted = [⟨.tickWave, 0, be 8 s.frame.nextTick⟩] ∧
      Changes [.elapsed, .emitted, .frame] s x) ∧
  (∀ (dt die : Nat) (rep : FrameRep) (s : State), (s.runner die).inReset = false → (s.runner die).fenced = false →
    (s.runner die).reported = false → s.frame.ticked = true →
    ∃ t, exec (.frameReport dt die rep) s = .next t ∧
      t.hang.reports = s.hang.reports ++ [(s.frame.number, die, (s.begin dt).scanRep die rep)] ∧
      t.power.dies = s.power.dies ∧
      (t.units.runners = Tab.mod s.units.runners die Runner.fresh fun r =>
        { r with reported := true, missed := 0, lastReport := (s.begin dt).stampPns (runnerUid die)
                 untimed := decide (((s.begin dt).replica (runnerUid die)).state = .cold) }) ∧
      (∀ k, k < 8 → rep.beats.getD k none = none → t.health (tapUid (die * 8 + k)) = 4) ∧
      (∀ k h, k < 8 → rep.beats.getD k none = some h →
        ((s.tap (die * 8 + k)).inReset = false → (t.tap (die * 8 + k)).heartbeat = h) ∧
        ((s.tap (die * 8 + k)).inReset = true → Tab.sortedFrom 0 s.units.taps = true →
          (t.tap (die * 8 + k)).heartbeat = 0))) ∧
  (∀ (dt cluster : Nat) (s : State), cluster < 128 →
    2 ≤ (s.dieSensors (cluster / 8)).invalid.getD (cluster % 8) 0 →
    (s.dieSensors (cluster / 8)).diodeFail.getLsbD (cluster % 8) = false →
    exec (.sensorFail dt cluster) s = .next (((s.begin dt).modDie (cluster / 8) fun x =>
      { x with diodeFail := setBit x.diodeFail (cluster % 8) true }).logged Code.sensorFail
        (be 2 (tapUid cluster)))) ∧
  (∀ (dt die : Nat) (s : State), die < 16 → (∃ n ∈ (s.dieSensors die).hotTicks, 4 ≤ n) →
    ∃ t, exec (.commHoldSet dt die) s = .next t ∧ t.power.holdDies = setBit s.power.holdDies die true) ∧
  (∀ (dt die : Nat) (s : State), die < 16 → 16 ≤ (s.dieSensors die).coolTicks →
    ∃ t, exec (.commHoldClear dt die) s = .next t ∧ t.power.holdDies = setBit s.power.holdDies die false) ∧
  (∀ (dt : Nat) (s : State), s.frame.ticked = true →
    s.frame.opened + 15 * s.frame.lenNs / 16 ≤ (s.begin dt).pns →
    ∃ t, exec (.commitQueueFreeze dt) s = .next t ∧ t.frame.frozen = true ∧ t.frame.groups = s.frame.groups ∧
      (s.frame.frozen = false → t = (s.begin dt).slotFifteen))

/-- Entries of the table that stop, step and resume (R228, R247, R256, R277, R290, R294, R305, R731): an
accepted entry is RUNNING at once and in the sequencer's hand with its TIME, QU_STATE says what is arming, a
pod quench sends its order, and a resume lets a held stop go. -/
def Obligations.ScheduledQuenches : Prop :=
  (∀ (dt : Nat) (req : Req) (entry time flags : Nat) (s s1 : State) (c : Ctx) (e : SchedEntry), entry < 32 →
    Served s dt req 0x2050 (entry + 1) .write c s1 →
    s1.judge entry Act.quench time flags false = .accepted e →
    ∃ x : State, exec (.schedQuench dt req entry time flags) s = .next (x.answer c Abort.ok []) ∧
      x.qu.state = Qs.arming ∧ (x.entry entry).status = Stat.running ∧ (x.entry entry).time = e.time ∧
      ∃ h, x.qu.hand = some h ∧ h.entry = entry ∧ h.action = 1 ∧ h.time = e.time ∧ h.pod = false ∧
        h.targets = s1.selectable e.selection) ∧
  (∀ (dt : Nat) (req : Req) (entry time flags : Nat) (s s1 : State) (c : Ctx) (e : SchedEntry), entry < 32 →
    Served s dt req 0x2050 (entry + 1) .write c s1 →
    s1.judge entry Act.podQuench time flags false = .accepted e →
    ∃ x : State, exec (.schedPodQuench dt req entry time flags) s = .next (x.answer c Abort.ok []) ∧
      x.qu.state = Qs.arming ∧ x.podCut.order = some ((s1.qu.orderSeq + 1) % 65536, e.time, s1.pns) ∧
      ∃ h, x.qu.hand = some h ∧ h.entry = entry ∧ h.action = 2 ∧ h.time = e.time ∧ h.pod = true) ∧
  (∀ (dt : Nat) (req : Req) (entry time flags : Nat) (s s1 : State) (c : Ctx) (e : SchedEntry), entry < 32 →
    Served s dt req 0x2050 (entry + 1) .write c s1 →
    s1.judge entry Act.step time flags false = .accepted e →
    ∃ x : State, exec (.schedStep dt req entry time flags) s = .next (x.answer c Abort.ok []) ∧
      x.qu.state = Qs.stepArming ∧
      ∃ h, x.qu.hand = some h ∧ h.entry = entry ∧ h.action = 3 ∧ h.time = e.time ∧
        h.stepCycles = e.taken % 65536 ∧ h.stepNet = bitOf e.taken 16) ∧
  (∀ (dt : Nat) (req : Req) (entry time flags : Nat) (s s1 : State) (c : Ctx) (e : SchedEntry), entry < 32 →
    Served s dt req 0x2050 (entry + 1) .write c s1 →
    s1.judge entry Act.resume time flags false = .accepted e →
    ∃ x : State, exec (.schedResume dt req entry time flags) s = .next (x.answer c Abort.ok []) ∧
      x.qu.state = Qs.resumeArming ∧ x.pins.stopHolds = false ∧
      ∃ h, x.qu.hand = some h ∧ h.entry = entry ∧ h.action = 4 ∧ h.time = e.time)

/-- Entries of the table that wait, and EMPTY (R229, R240, R303): an accepted FRAME_LEN, TIME_STEP or
ROLE_SWAP is PENDING with its judged TIME; EMPTY frees a final entry, cancels one whose TIME lies ahead, and
is refused LATE otherwise. -/
def Obligations.ScheduledWaits : Prop :=
  (∀ (dt : Nat) (req : Req) (entry time flags : Nat) (s s1 : State) (c : Ctx) (e : SchedEntry), entry < 32 →
    Served s dt req 0x2050 (entry + 1) .write c s1 →
    (s1.judge entry Act.frameLen time flags false = .accepted e →
      ∃ x : State, exec (.schedFrameLen dt req entry time flags) s = .next (x.answer c Abort.ok []) ∧
        x.entry entry = { e with status := Stat.pending } ∧ e.action = 5) ∧
    (s1.judge entry Act.timeStep time flags false = .accepted e →
      ∃ x : State, exec (.schedTimeStep dt req entry time flags) s = .next (x.answer c Abort.ok []) ∧
        x.entry entry = { e with status := Stat.pending } ∧ e.action = 6) ∧
    (s1.judge entry Act.roleSwap time flags false = .accepted e →
      ∃ x : State, exec (.schedRoleSwap dt req entry time flags) s = .next (x.answer c Abort.ok []) ∧
        x.entry entry = { e with status := Stat.pending } ∧ e.action = 7)) ∧
  (∀ (dt : Nat) (req : Req) (entry : Nat) (s s1 : State) (c : Ctx), entry < 32 →
    Served s dt req 0x2050 (entry + 1) .write c s1 →
    ((s1.entry entry).open = false →
      exec (.schedEmpty dt req entry) s = .next ((s1.putEntry entry SchedEntry.free).answer c Abort.ok [])) ∧
    ((s1.entry entry).open = true → s1.qu.hand = none → (s1.entry entry).action ≠ 2 →
      s1.tb.active.read s1.elapsed < (s1.entry entry).time * Config.fracScale →
      exec (.schedEmpty dt req entry) s =
        .next (((s1.finishEntry entry Stat.cancelled).podOutcome entry).answer c Abort.ok [])) ∧
    ((s1.entry entry).open = true → s1.qu.hand = none →
      (s1.entry entry).time * Config.fracScale ≤ s1.tb.active.read s1.elapsed →
      exec (.schedEmpty dt req entry) s = .next (s1.answer c Abort.late [])))

/-- Entries that fall due, and what starts a takeover (R74, R79, R123, R238, R244): the new length takes
force and FRAME_LEN_NEXT reads 0; the TBU's count is moved by DELTA; a planned takeover starts; so does one at
a lockstep fault of the active core, which halts, and one at the loss of its clock-good. -/
def Obligations.DueEntriesAndFaults : Prop :=
  (∀ (dt n : Nat) (s : State), (s.begin dt).dueEntry n Act.frameLen = true →
    ∃ x : State, exec (.frameLenChange dt n) s = .next (x.completeEntry n) ∧
      x.frame.lenNs = s.frame.lenNext ∧ x.frame.lenNext = 0 ∧ Changes [.elapsed, .emitted, .frame] s x) ∧
  (∀ (dt n : Nat) (s : State), (s.begin dt).dueEntry n Act.timeStep = true →
    (s.passedEntries (s.entry n).time ((s.entry n).time + deltaOf (s.entry n).taken).toNat).filter
      (fun m => m ≠ n) = [] →
    ∃ x : State, exec (.timeStepApply dt n) s = .next ((x.completeEntry n).stopsFall.releasesFall) ∧
      x.tb.active = s.tb.active.addFrac (s.elapsed + dt) (deltaOf (s.entry n).taken * 2 ^ 48) ∧
      x.frame.nextTick = ((s.frame.nextTick : Int) + deltaOf (s.entry n).taken).toNat ∧
      x.frame.opened = ((s.frame.opened : Int) + deltaOf (s.entry n).taken).toNat) ∧
  (∀ (dt n : Nat) (s : State), (s.begin dt).dueEntry n Act.roleSwap = true → s.standbyThere = true →
    s.hub.takeover = none →
    ∃ (x : State) (k : Takeover), exec (.roleSwapDue dt n) s = .next (x.completeEntry n) ∧
      x.hub.takeover = some k ∧ k.trigger = .roleSwap ∧ k.phase = 0 ∧ k.start = (s.begin dt).pns ∧
      k.ladle = s.dump.slots) ∧
  (∀ (dt n : Nat) (s : State), (s.begin dt).dueEntry n Act.roleSwap = true → s.standbyThere = false →
    exec (.roleSwapDue dt n) s =
      .next (((s.begin dt).logged Code.standbyLost (be 2 (coreUid s.standbyCore))).finishEntry n Stat.failed)) ∧
  (∀ (dt : Nat) (s : State), (s.hub.core s.activeCore).proc = .running → s.standbyThere = true →
    s.hub.takeover = none →
    ∃ (t : State) (k : Takeover), exec (.lockstepFault dt s.activeCore) s = .next t ∧
      t.hub.takeover = some k ∧ k.trigger = .lockstep ∧ k.phase = 0 ∧
      (t.hub.core s.activeCore).proc = .halted) ∧
  (∀ (dt : Nat) (s : State), (s.hub.core s.activeCore).clockGood = true → s.standbyThere = true →
    s.hub.takeover = none →
    ∃ (t : State) (k : Takeover), exec (.tbuClockGoodLost dt) s = .next t ∧
      t.hub.takeover = some k ∧ k.trigger = .clockGood ∧ k.phase = 0 ∧
      (t.hub.core s.activeCore).clockGood = false)

/-- The takeover from W on (R71–R74, R76–R78, R85, R86, R221, R648): at W the roles change with the servos, what was
staged is discarded, what the old core wrote after S is not in the mirrors, and the keepers hold the pins for 100 ns
more; 0.5 µs later the old core is in reset; 2 µs after W the runners are told; 20 µs after W the takeover is announced
and open transfers have ended. The commands complete once their instant has come, in any state that a takeover in that
phase may stand in. -/
def Obligations.TakeoverSequence : Prop :=
  (∀ (dt : Nat) (s : State) (k : Takeover), s.hub.takeover = some k → k.phase = 0 →
    k.switchAt ≤ s.elapsed + dt →
    ∃ (x : State) (k' : Takeover), exec (.takeoverSwitch dt) s = .next ((x.runOverdue k).stopAtSwitch k) ∧
      x.hub.riserActive = !s.hub.riserActive ∧ x.hub.riserOwns = !s.hub.riserActive ∧
      x.hub.keeperUntil = s.elapsed + dt + 100 * Config.stepsPerNs ∧ x.frame.sets = [] ∧
      x.frame.groups = [] ∧ x.dump = s.dump.fromMirror k ∧ x.pod.servo.state = s.pod.shadow.state ∧
      x.tb.tickIn = s.tb.tickInStandby ∧ x.hub.takeover = some k' ∧ k'.phase = 1 ∧ k'.trigger = k.trigger ∧
      k'.stepPs = (s.begin dt).switchStep) ∧
  (∀ (dt : Nat) (s : State) (k : Takeover), s.hub.takeover = some k → k.phase = 1 →
    k.switchAt + 500 * Config.stepsPerNs ≤ s.elapsed + dt →
    ∃ t, exec (.takeoverOldReset dt) s = .next t ∧ t.hub.takeover = some { k with phase := 2 } ∧
      t.health (coreUid s.standbyCore) = 2 ∧ (t.hub.core s.standbyCore).heldInReset = true) ∧
  (∀ (dt : Nat) (s : State) (k : Takeover), s.hub.takeover = some k → k.phase = 2 →
    k.switchAt + 2000 * Config.stepsPerNs ≤ s.elapsed + dt →
    ∃ t, exec (.runnerActiveCast dt) s = .next t ∧ t.hub.takeover = some { k with phase := 3 } ∧
      t.emitted = [⟨.runnerCast, 2, le 2 s.activeUid⟩] ∧
      ∀ d, d < 16 → (s.runner d).inReset = false → (t.runner d).activeUid = s.activeUid) ∧
  (∀ (dt : Nat) (s : State) (k : Takeover), s.hub.takeover = some k → k.phase = 3 →
    k.switchAt + 20000 * Config.stepsPerNs ≤ s.elapsed + dt →
    ∃ x : State, exec (.takeoverNotify dt) s = .next (x.updateSwapped k) ∧ x.hub.takeover = none ∧
      x.port.blocks = [])

/-! ## Chapter 06 -/

/-- QU_CMD (R228, R248, R287, R294, R297, R300, R302, R307): ARM, STEP and RESUME enter the lowest free entry
with NOTIFY set and RUN_LATE clear, at QU_TIME or RESUME_TIME; CANCEL runs over every open entry and answers
LATE when R240 refuses one; PEEK starts one ring read and advances PEEK_SEQ. -/
def Obligations.QuenchCommands : Prop :=
  (∀ (dt : Nat) (req : Req) (s s1 : State) (c : Ctx) (n : Nat) (e : SchedEntry),
    Served s dt req 0x4102 0 .write c s1 → s1.freeEntry = some n →
    (s1.putEntry n (s1.entry n)).judge n Act.quench s1.qu.time 2 false = .accepted e →
    ∃ x : State, exec (.quCmdArm dt req) s = .next (x.answer c Abort.ok []) ∧ x.qu.state = Qs.arming ∧
      ∃ h, x.qu.hand = some h ∧ h.entry = n ∧ h.action = 1 ∧ h.time = s1.qu.time ∧ h.pod = false) ∧
  (∀ (dt : Nat) (req : Req) (s s1 : State) (c : Ctx) (n : Nat) (e : SchedEntry),
    Served s dt req 0x4102 0 .write c s1 → s1.freeEntry = some n →
    (s1.putEntry n { s1.entry n with param := s1.qu.stepCycles + 65536 * bit s1.qu.stepNet }).judge n Act.step
      s1.qu.time 2 false = .accepted e →
    ∃ x : State, exec (.quCmdStep dt req) s = .next (x.answer c Abort.ok []) ∧ x.qu.state = Qs.stepArming ∧
      ∃ h, x.qu.hand = some h ∧ h.entry = n ∧ h.action = 3 ∧ h.time = s1.qu.time ∧
        h.stepCycles = e.taken % 65536 ∧ h.stepNet = bitOf e.taken 16) ∧
  (∀ (dt : Nat) (req : Req) (s s1 : State) (c : Ctx) (n : Nat) (e : SchedEntry),
    Served s dt req 0x4102 0 .write c s1 → s1.freeEntry = some n →
    (s1.putEntry n (s1.entry n)).judge n Act.resume s1.qu.resumeTime 2 false = .accepted e →
    ∃ x : State, exec (.quCmdResume dt req) s = .next (x.answer c Abort.ok []) ∧
      x.qu.state = Qs.resumeArming ∧ x.pins.stopHolds = false ∧
      ∃ h, x.qu.hand = some h ∧ h.entry = n ∧ h.action = 4 ∧ h.time = s1.qu.resumeTime) ∧
  (∀ (dt : Nat) (req : Req) (s s1 : State) (c : Ctx), Served s dt req 0x4102 0 .write c s1 →
    (s1.openActions = [] → exec (.quCmdCancel dt req) s = .next (s1.answer c Abort.ok [])) ∧
    ∀ n, s1.openActions = [n] → s1.qu.hand = none → (s1.entry n).action ≠ 2 →
      exec (.quCmdCancel dt req) s =
        .next (if (s1.entry n).time * Config.fracScale ≤ s1.tb.active.read s1.elapsed then
            s1.answer c Abort.late []
          else ((s1.finishEntry n Stat.cancelled).podOutcome n).answer c Abort.ok [])) ∧
  (∀ (dt : Nat) (req : Req) (s s1 : State) (c : Ctx), Served s dt req 0x4102 0 .write c s1 →
    (∀ code, s1.peekRefusal = some code → exec (.quCmdPeek dt req) s = .next (s1.answer c code [])) ∧
    (s1.peekRefusal = none → s1.units.ringQueue = [] →
      s1.ringRoom (uidCluster s1.qu.peekUid / 8) (uidCluster s1.qu.peekUid % 8) = true →
      ∃ (x : State) (r : RingTxn), exec (.quCmdPeek dt req) s = .next (x.answer c Abort.ok []) ∧
        x.units.ring = s1.units.ring ++ [r] ∧ r.write = false ∧ r.window = s1.qu.peekWindow ∧
        r.offset = s1.qu.peekOffset ∧ r.len = s1.qu.peekLength / 4 ∧ x.qu.peekOut = true ∧
        x.qu.peekSeq = (s1.qu.peekSeq + 1) % 256))

/-- A cast at its target and at the hub (R251–R254, R257, R260, R261): a tap that takes an ARM_QUENCH arms its stop,
is counted on the cast's lane and wave and answers ACTED; a refused cast and a remembered retry are answered without
acting; a HOLD withdraws the arm of its own cast only, and not one that has fallen due; the hub notes a first
answer, sends a retry to the missing targets, and sets those that stay missing to 4. -/
def Obligations.CastsAndAnswers : Prop :=
  (∀ (dt t : Nat) (m : List Byte) (c : Cast) (s : State), Cast.ofOctets m = some c → t < 128 →
    c.targets.getLsbD t = true → c.kind = Cast.armQuench → c.retry = false →
    (s.begin dt).castRefusal t c = none →
    ((s.begin dt).replica (targetReplica t)).clock.read (s.elapsed + dt) < c.act * Config.fracScale →
    ∃ u, exec (.castReceive dt t m) s = .next u ∧ (u.tap t).stopArm = some c.id ∧ (u.tap t).stopAt = c.act ∧
      (c.lane ≠ 0 → u.qu.casts = s.qu.casts.map fun o =>
        if o.cast.lane = c.lane ∧ o.cast.wave = c.wave then { o with laneSum := o.laneSum + 1 } else o) ∧
      u.emitted.getLast? = some ⟨.castResponse, t, castResponseOctets c.id t Cast.acted
        ((s.begin dt).stampPns (targetReplica t) % 2 ^ 32)⟩) ∧
  (∀ (dt t : Nat) (m : List Byte) (c : Cast) (s : State), Cast.ofOctets m = some c →
    c.targets.getLsbD t = true → (s.begin dt).targetAlive t = true → 1 ≤ c.kind → c.kind ≤ 6 →
    (∀ st, c.retry = false → (s.begin dt).castRefusal t c = some st →
      exec (.castReceive dt t m) s = .next ((s.begin dt).answerCast t c.id st)) ∧
    ∀ r, c.retry = true → ((s.begin dt).memoryOf t).find? (fun r => r.id = c.id) = some r →
      exec (.castReceive dt t m) s =
        .next ((s.begin dt).emit .castResponse t (castResponseOctets c.id t r.status r.stamp))) ∧
  (∀ (dt t id : Nat) (w : Word32) (s : State), holdId w = some id → t < 128 →
    ∀ k, (s.tap t).stopArm = some k → (s.tap t).releaseArm = .none →
      ∃ u, exec (.holdReceive dt t w) s = .next u ∧
        (k ≠ id ∨ (s.tap t).stopAt ≤ (s.begin dt).replicaPns (targetReplica t) → u.tap t = s.tap t) ∧
        (k = id → (s.begin dt).replicaPns (targetReplica t) < (s.tap t).stopAt →
          u = (s.begin dt).modTap t fun x => { x with stopArm := none })) ∧
  (∀ (dt id t st stamp n : Nat) (s : State) (o : OpenCast), id < 65536 → t < 160 → st < 256 → stamp < 2 ^ 32 →
    s.openCast id = some o → o.cast.targets.getLsbD t = true → o.use = .entry n → s.qu.closing = none →
    exec (.castResponse dt (castResponseOctets id t st stamp)) s =
      .next (((if s.health (targetUid t) = 4 then (s.begin dt).setHealth (targetUid t) 0
        else s.begin dt).putCast (o.take t st stamp)).tidyCasts)) ∧
  (∀ (dt id : Nat) (s : State) (o : OpenCast), s.openCast id = some o → o.ended = false → o.missing ≠ [] →
    retryDue o.issued o.retries (s.elapsed + dt) = true →
    exec (.castRetry dt id) s = .next (((s.begin dt).putCast { o with retries := o.retries + 1 }).emit .cast 0
      { o.cast with retry := true, targets := targetSet o.missing }.octets)) ∧
  (∀ (dt id n : Nat) (s : State) (o : OpenCast), s.openCast id = some o → o.ended = false → o.missing ≠ [] →
    missingDue o.issued (s.elapsed + dt) = true → o.use = .entry n → s.qu.closing = none →
    ∃ u, exec (.castUnresponsive dt id) s = .next u ∧ ∀ m ∈ o.missing, u.health (targetUid m) = 4)

/-- From the decision to the final status (R42, R258, R259, R262, R264, R266, R304): an equal count, or a short
one under PROCEED, arms the quench; a short one under POSTPONE sends HOLD and moves the cut by one frame; an armed unit
stops once its own replica reaches the instant, and not before (R42); at T CUT_ID and CUT_PNS are set; with every target
in the cut the entry completes at T + 2 µs; a late cancel is logged with the targets that acted. -/
def Obligations.QuenchOutcome : Prop :=
  (∀ (dt : Nat) (s : State) (h : InHand) (o : OpenCast), s.qu.hand = some h → s.openCast h.castId = some o →
    h.decided = false → h.selecting = 0 → h.action = 1 → o.cast.deadline + 768 ≤ (s.begin dt).pns →
    s.hub.takeover = none →
    (o.laneSum = (targetsOf h.targets).length ∨ s.qu.mode = 0 →
      ∃ t, exec (.quenchDecision dt) s = .next t ∧ t.qu.state = Qs.armed ∧
        t.qu.hand = some { h with decided := true } ∧ t.qu.armCount = o.laneSum % 256) ∧
    (o.laneSum ≠ (targetsOf h.targets).length → s.qu.mode = 1 → h.pod = false → h.emergency = false →
      h.postponed < 3 →
      ∃ t h', exec (.quenchDecision dt) s = .next t ∧ t.qu.hand = some h' ∧ h'.time = h.time + s.lenAt h.time ∧
        h'.postponed = h.postponed + 1 ∧ t.qu.postponeCount = (s.qu.postponeCount + 1) % 256 ∧
        t.emitted.take 3 = [0, 1, 2].map fun k => ⟨.hold, k, le 4 (holdWord h.castId)⟩)) ∧
  (∀ (s : State) (u id t : Nat), u < 160 → s.stopArmOf u = some (id, t) →
    s.stopsFall.stopArmOf u = if s.dueAt u t then none else some (id, t)) ∧
  (∀ (dt n : Nat) (s q : State) (h : InHand) (o : OpenCast), q = (s.begin dt).stopsFall → q.qu.hand = some h →
    q.openCast h.castId = some o → h.action = 1 ∨ h.action = 2 → h.decided = true → h.cancelled = false →
    o.count = some n → n ≠ 0 → q.handDue h = true →
    ∃ t h', exec (.cutTaken dt) s = .next t ∧ t.qu.state = Qs.quenched ∧
      t.qu.cutId = (s.qu.cutId + 1) % 2 ^ 32 ∧ t.qu.cutPns = h.time ∧ t.qu.members = targetSet o.acted ∧
      t.qu.hand = none ∧ t.qu.closing = some h' ∧ h'.taken = true ∧ t.units = q.units) ∧
  (∀ (dt n : Nat) (s q : State) (h : InHand) (o : OpenCast), q = (s.begin dt).stopsFall → q.qu.closing = some h →
    q.openCast h.castId = some o → h.cancelled = false → h.membershipListed = false →
    h.time + 2000 ≤ q.pns → o.cast.targets = h.targets → o.acted = targetsOf h.targets →
    q.qu.members ≠ 0 → o.count = some n → n ≤ o.acted.length →
    (∀ c ∈ o.acted, c < 128 → q.stopMissed c = false) →
    ∃ x : State, exec (.quenchMembership dt) s = .next ((x.completeEntry h.entry).podOutcome h.entry) ∧
      x.qu.closing = none ∧ x.qu.members = q.qu.members ∧
      x.sched = (q.putEntry h.entry { q.entry h.entry with
        time := h.time, late := (q.entry h.entry).late || decide (0 < h.postponed) }).sched) ∧
  (∀ (dt n : Nat) (s : State) (h : InHand), (s.qu.lateCancels.find? fun h => h.entry = n) = some h →
    h.time + 2000 ≤ (s.begin dt).pns →
    ∃ x : State, exec (.quCancelLate dt n) s =
        .next (State.tidyCasts { x with qu := { x.qu with lateCancels := x.qu.lateCancels.erase h } }) ∧
      x = (s.begin dt).logged Code.quCancelLate (le 20 h.actors.toNat))

/-- Steps and resumes (R44, R289, R291, R292, R295, R296): a CORE_SELECT write that is late fails the step; an armed
unit acts once its own replica reaches the instant, and not before; at TIME QU_STATE is STEPPING and the networks of
a step with STEP_NET are to freeze again after E; a tap that has ended its step leaves the set of R292, one that has
not after 100 µs is logged once; at the TIME of a resume the entry completes and QU_STATE follows what is left. -/
def Obligations.StepsAndResumes : Prop :=
  (∀ (dt : Nat) (s : State) (h : InHand), s.qu.hand = some h → h.action = 3 → 0 < h.selecting →
    h.time ≤ (s.begin dt).pns + 1500 →
    ∃ x : State, exec (.stepSelectLate dt) s =
        .next ((x.logged Code.stepSelectLate (be 1 h.entry)).finishEntry h.entry Stat.failed) ∧
      x.qu.hand = none ∧ x.qu.state = Qs.quenched ∧
      (Tab.sortedFrom 0 s.units.taps = true → ∀ c ∈ targetsOf h.targets, c < 128 →
        (x.tap c).coreSelect = BitVec.allOnes 136)) ∧
  (∀ (s : State) (u id t : Nat), u < 160 → s.releaseArmOf u = some (id, t) → (u < 128 → s.chilled u = false) →
    (128 ≤ u → Tab.sortedFrom 0 s.units.runners = true ∧ Tab.sortedFrom 0 s.units.groups = true) →
    s.releasesFall.releaseArmOf u = if s.dueAt u t then none else some (id, t)) ∧
  (∀ (dt n : Nat) (s q : State) (h : InHand) (o : OpenCast), q = (s.begin dt).releasesFall → q.qu.hand = some h →
    h.action = 3 → h.decided = true → h.taken = false → h.cancelled = false → q.handDue h = true →
    q.openCast h.castId = some o → o.count = some n → n ≠ 0 → (∃ c ∈ q.releasedOf h, c < 128) →
    ∃ t h', exec (.stepStart dt) s = .next t ∧ t.qu.state = Qs.stepping ∧ t.qu.hand = some h' ∧
      h'.taken = true ∧ t.qu.cutPns = s.qu.cutPns ∧
      (h.stepNet = true → t.qu.refreeze = some (h.time + refreezeAfter h.stepCycles,
        targetSet ((q.releasedOf h).filter fun u => decide (144 ≤ u)))) ∧
      ∀ c, c < 128 → (t.qu.stepping.getLsbD c = true ↔ c ∈ q.releasedOf h)) ∧
  (∀ (dt tm : Nat) (groups : BitVec 160) (s : State), s.qu.refreeze = some (tm, groups) → tm ≤ (s.begin dt).pns →
    ∃ x : State, exec (.netRefreeze dt) s = .next x ∧ x.qu.refreeze = none ∧
      x.units = (((targetsOf groups).foldl (fun s u => s.freezeGroup (u - 144) tm) (s.begin dt)).units)) ∧
  (∀ (dt c : Nat) (s q : State), q = (s.begin dt).releasesFall → q.qu.stepping.getLsbD c = true →
    q.stepEnded c = true →
    ∃ x : State, exec (.stepPoll dt c) s = .next x.settleStep ∧
      x.qu.stepping = setBit q.qu.stepping c false ∧ x.units = (q.modTap c Tap.endStep).units) ∧
  (∀ (dt c from_ : Nat) (s : State), s.qu.stepping.getLsbD c = true → s.qu.overrun.getLsbD c = false →
    (s.begin dt).stepEnded c = false → Tab.find s.qu.stepFrom c = some from_ →
    from_ + 100000 ≤ (s.begin dt).pns →
    ∃ x : State, exec (.stepOverrun dt c) s = .next (x.logged Code.stepOverrun (be 2 (tapUid c))) ∧
      x.qu.overrun = setBit s.qu.overrun c true ∧ Changes [.elapsed, .emitted, .qu] s x) ∧
  (∀ (dt n : Nat) (s q : State) (h : InHand) (o : OpenCast), q = (s.begin dt).releasesFall → q.qu.hand = some h →
    h.action = 4 → h.decided = true → h.taken = false → h.cancelled = false → q.handDue h = true →
    q.openCast h.castId = some o → o.count = some n → (targetsOf h.targets).length ≤ n →
    ∃ x : State, exec (.resumeAtTime dt) s = .next (x.completeEntry h.entry) ∧ x.qu.hand = none ∧
      (x.qu.state = Qs.idle ∨ x.qu.state = Qs.mixed) ∧
      (x.qu.state = Qs.idle ↔ x.qu.members = 0) ∧ x.units = q.units)

/-- The pod-wide quench (R277–R283, R285, R446): the first accepted copy of an order goes on to every downstream
port and is entered as a QUENCH of this package's
QU_SET, or not at all while the package is fenced; a WITHDRAW in time cancels it; acknowledgements are
summed; copies 1 and 2 follow; the sums go upstream, and the grandmaster writes the totals at T + 140 µs. -/
def Obligations.PodQuench : Prop :=
  (∀ (dt port : Nat) (msg : List Byte) (s : State), s.cutAccepted port 1 msg = true →
    s.podCut.seen.contains (cutSeq msg, 1) = false →
    (∃ x : State, exec (.cutOrderReceive dt port msg) s = .next (x.enterOrder (cutSeq msg) (fieldBe msg 24 8)) ∧
      x.qu.orderSeq = cutSeq msg ∧
      x.podCut.order = some (cutSeq msg, fieldBe msg 24 8, fieldBe msg 32 8) ∧
      x.podCut.seen.head? = some (cutSeq msg, 1) ∧
      x.emitted = s.downstream.map fun p => ⟨.cutOrder, p, withCopy (cutMessage 1 0 (cutSeq msg) s.pod.hops
        s.pod.gmId s.fuses.serial (fieldBe msg 24 8) (fieldBe msg 32 8) 0 0 0) 0⟩) ∧
    (s.fm.fenceState = 2 → ∃ t, exec (.cutOrderReceive dt port msg) s = .next t ∧ t.podCut.ownIn = some false ∧
      t.sched = s.sched ∧ t.qu.hand = s.qu.hand) ∧
    ∀ n e, s.fm.fenceState ≠ 2 → s.openActions = [] → s.qu.state = Qs.idle → s.freeEntry = some n →
      (s.begin dt).judge n Act.quench (fieldBe msg 24 8) 2 true = .accepted e →
      ∃ t h, exec (.cutOrderReceive dt port msg) s = .next t ∧ t.qu.state = Qs.arming ∧ t.qu.hand = some h ∧
        h.entry = n ∧ h.time = fieldBe msg 24 8 ∧ h.pod = true) ∧
  (∀ (dt port n : Nat) (msg : List Byte) (s : State), s.cutAccepted port 2 msg = true →
    s.podCut.seen.contains (cutSeq msg, 2) = false →
    ((List.range 32).find? fun n =>
      (s.entry n).open && bitOf (s.entry n).flags 6 && (s.entry n).podOrder = cutSeq msg) = some n →
    ∃ x : State, exec (.cutWithdrawReceive dt port msg) s =
        .next (if (s.begin dt).pns + 2000 ≤ fieldBe msg 24 8 then (x.cancelEntry n).1 else x) ∧
      x.sched = s.sched ∧ x.qu = s.qu ∧ x.podCut.seen.head? = some (cutSeq msg, 2)) ∧
  (∀ (dt port t issue : Nat) (msg : List Byte) (s : State), cutKind msg = some 3 →
    s.podCut.order = some (cutSeq msg, t, issue) → fieldBe msg 8 8 = s.pod.gmId → port ∈ s.downstream →
    s.podCut.ackSent = false → s.podCut.summarised = false →
    exec (.cutAckReceive dt port msg) s = .next { s.begin dt with podCut := { s.podCut with
      sumIn := (s.podCut.sumIn + fieldBe msg 40 4) % 2 ^ 32
      sumOut := (s.podCut.sumOut + fieldBe msg 44 4) % 2 ^ 32
      sumClusters := (s.podCut.sumClusters + fieldBe msg 48 4) % 2 ^ 32 } }) ∧
  (∀ (dt at_ : Nat) (m : List Byte) (s : State), s.podCut.copies = [(m, 1, at_)] → at_ ≤ (s.begin dt).pns →
    fieldBe m 0 1 % 16 = 1 →
    ∃ t, exec (.orderCopySend dt) s = .next t ∧ t.podCut.copies = [(m, 2, at_ + 20000)] ∧
      t.emitted = s.downstream.map fun p => ⟨.cutOrder, p, withCopy m 1⟩) ∧
  (∀ (dt seq t issue p : Nat) (s : State), s.podCut.order = some (seq, t, issue) → s.pod.upstream = some p →
    s.podCut.ackSent = false → t + 20000 * (7 - s.pod.hops) ≤ (s.begin dt).pns →
    ∃ u, exec (.cutAckSend dt) s = .next u ∧ u.podCut.ackSent = true ∧
      u.emitted = [⟨.cutAck, p, cutMessage 3 0 seq s.pod.hops s.pod.gmId s.fuses.serial t issue
        (s.podCut.sumIn + s.ownCounts.1) (s.podCut.sumOut + s.ownCounts.2.1)
        (s.podCut.sumClusters + s.ownCounts.2.2)⟩]) ∧
  (∀ (dt seq t issue : Nat) (s : State), s.podCut.order = some (seq, t, issue) → s.pod.role = 1 →
    s.podCut.summarised = false → t + 140000 ≤ (s.begin dt).pns →
    ∃ x : State, exec (.podCutSummary dt) s = .next (x.told Code.podCutSummary (be 2 seq ++ be 4 x.qu.podInCut ++
        be 4 x.qu.podOut ++ be 4 x.qu.podClustersOut)) ∧ x.podCut.summarised = true ∧
      x.qu.podInCut = s.podCut.sumIn + s.ownCounts.1 ∧ x.qu.podOut = s.podCut.sumOut + s.ownCounts.2.1 ∧
      x.qu.podClustersOut = s.podCut.sumClusters + s.ownCounts.2.2)

/-- The board's stop and the test access port (R611, R727–R730, R732, R738–R740): an armed input that goes
low in phase D9 enters a QUENCH of the whole package 2.0 µs ahead; while the hub is fenced it is only
recorded; high for 1 µs arms the input again; a stop that waits is entered when it can be; a level that stays
low for a frame is reported once; an unlisted opcode acts as BYPASS, and Test-Logic-Reset selects it; a scan under
EXTEST or SAMPLE/PRELOAD loads the boundary register, which drives the pins in EXTEST, while HIGHZ floats them. -/
def Obligations.BoardStopAndTap : Prop :=
  (∀ (dt n : Nat) (s : State), s.pins.jtagOwns = false → s.pins.quenchArmed = true → s.rst.phase = 10 →
    (s.fm.fenceState ≠ 2 → s.hang.proc.l3Phase = 0 → s.hub.takeover = none → s.openActions = [] →
      s.qu.state = Qs.idle → s.freeEntry = some n →
      ∃ t h, exec (.quenchIn dt) s = .next t ∧ t.pins.stopHolds = true ∧ t.pins.quenchArmed = false ∧
        t.qu.state = Qs.arming ∧ t.qu.hand = some h ∧ h.entry = n ∧ h.emergency = true ∧
        h.time = (s.begin dt).earliest Act.quench) ∧
    (s.fm.fenceState = 2 → ∃ t, exec (.quenchIn dt) s = .next t ∧ t.pins.stopHolds = s.pins.stopHolds ∧
      t.qu = s.qu ∧ t.sched = s.sched ∧ t.pins.quenchArmed = false)) ∧
  (∀ (dt : Nat) (s : State), s.pins.quenchArmed = false → 1000 ≤ (s.begin dt).nsSince s.pins.quenchSince →
    exec (.quenchInArm dt) s =
      .next { s.begin dt with pins := { s.pins with quenchArmed := true, quenchHigh := true } }) ∧
  (∀ (dt n : Nat) (s : State), s.pins.quenchWaiting = true → s.hub.takeover = none → s.qu.state = Qs.idle →
    s.freeEntry = some n →
    ∃ t h, t.pins.quenchWaiting = false ∧ t.qu.hand = some h ∧ h.entry = n ∧ h.emergency = true ∧
      exec (.quenchInDeferred dt) s = .next t ∧ exec (.quenchInEntryFree dt) s = .next t) ∧
  (∀ (dt : Nat) (s : State), s.pins.quenchArmed = false → s.pins.quenchHigh = false →
    s.pins.stuckReported = false → s.rst.phase = 10 → s.pins.jtagOwns = false →
    s.frame.lenNs ≤ (s.begin dt).nsSince s.pins.quenchSince →
    exec (.inputStuck dt) s = .next (State.urged { s.begin dt with
      pins := { s.pins with stuckReported := true } } Code.inputStuck [])) ∧
  (∀ (dt op v : Nat) (s : State), s.pins.jtagIr ≤ 1 → ∃ t, exec (.jtagUpdateIr dt ⟨op, some v⟩) s = .next t ∧
    t.pins.boundary = BitVec.ofNat 28 v ∧
    (op % 64 = 0 → t.alertPulled = (BitVec.ofNat 28 v).getLsbD 5 ∧
      t.tickOutPin = (if (BitVec.ofNat 28 v).getLsbD 2 then some ((BitVec.ofNat 28 v).getLsbD 1) else none) ∧
      t.selectPin = (if (BitVec.ofNat 28 v).getLsbD 15 then some ((BitVec.ofNat 28 v).getLsbD 14) else none)) ∧
    (op % 64 = 2 → t.alertPulled = false ∧ t.tickOutPin = none ∧ t.selectPin = none)) ∧
  (∀ (dt op : Nat) (cells : Option Nat) (s : State), ∃ t, exec (.jtagUpdateIr dt ⟨op, cells⟩) s = .next t ∧
    (1 < s.pins.jtagIr → t.pins.boundary = s.pins.boundary) ∧
    t.pins.jtagIr = s.jtagActs (op % 64) ∧ t.pins.jtagOwns = jtagTakes (s.jtagActs (op % 64)) ∧
    (3 < op % 64 → op % 64 < 0x20 → t.pins.jtagIr = 0x3F)) ∧
  (∀ (dt : Nat) (s : State), ∃ t, exec (.jtagTestReset dt) s = .next t ∧ t.pins.jtagIr = 0x3F ∧
    t.pins.jtagOwns = false ∧ t.rst = s.rst)

/-! ## Chapter 07 -/

/-- Starting, stopping and letting go of shakeouts (R311, R312, R314, R316, R318, R322, R362, R363): START and
START_REF take the next IMAGE_ID or are refused; ABORT marks the shakeout; FETTLE_RESERVE and SO_ACK queue the
areas to be fettled, which end one by one while FETTLE is admitted; a reserve write invalidates the
reference and is refused while an image is held. -/
def Obligations.ShakeoutCommands : Prop :=
  (∀ (dt : Nat) (req : Req) (s s1 : State) (c : Ctx), Served s dt req 0x4201 0 .write c s1 →
    (s1.startRefusal = none →
      (∃ x : State, exec (.soStart dt req) s = .next (x.answer c Abort.ok []) ∧ x.dump.running.isSome ∧
        x.dump.imageId = s1.imageIds.next) ∧
      ∃ x : State, exec (.soStartRef dt req) s = .next (x.answer c Abort.ok []) ∧ x.dump.running.isSome ∧
        x.dump.imageId = s1.imageIds.next ∧ x.dump.refImage = 0) ∧
    (s1.dump.running.isSome → exec (.soStart dt req) s = .next (s1.answer c Abort.busy []) ∧
      exec (.soStartRef dt req) s = .next (s1.answer c Abort.busy [])) ∧
    (s1.lc.storeA.fettlePending = false → s1.recovering = false → s1.dump.running = none →
      s1.imageIds.ready = true → 2 ≤ s1.dump.tiers → s1.qu.state = Qs.idle →
      exec (.soStart dt req) s = .next (s1.answer c Abort.notQuenched []))) ∧
  (∀ (dt : Nat) (req : Req) (s s1 : State) (c : Ctx), Served s dt req 0x4201 0 .write c s1 →
    (s1.recovering = true → exec (.soAbort dt req) s = .next (s1.answer c Abort.busy [])) ∧
    (s1.recovering = false → s1.dump.running = none →
      exec (.soAbort dt req) s = .next (s1.answer c Abort.ok [])) ∧
    (s1.recovering = false → s1.dump.running.isSome → ∃ (x : State) (k : Shakeout), exec (.soAbort dt req) s =
      .next (x.answer c Abort.ok []) ∧ x.dump.running = some k ∧ k.aborting = true)) ∧
  (∀ (dt : Nat) (req : Req) (s s1 : State) (c : Ctx), Served s dt req 0x4201 0 .write c s1 →
    (s1.recovering = true ∨ s1.dump.running.isSome →
      exec (.soFettleReserve dt req) s = .next (s1.answer c Abort.busy [])) ∧
    (s1.recovering = false → s1.dump.running = none →
      ∃ x : State, exec (.soFettleReserve dt req) s = .next (x.answer c Abort.ok []) ∧ x.dump.refImage = 0 ∧
        ∀ j, j ∈ [FettleJob.refQuarters, .latestQuarters, .tier2Halves] → j ∈ x.dump.fettle)) ∧
  (∀ (dt image : Nat) (req : Req) (s s1 : State) (c : Ctx), Served s dt req 0x4211 0 .write c s1 →
    ((∀ n, n < 4 → (s1.dump.slot n).all (fun g => g.id ≠ image) = true) →
      exec (.soAck dt req image) s = .next (s1.answer c Abort.imageUnknown [])) ∧
    ∀ n g, image ≠ 0 → n < 4 → s1.dump.slot n = some g → g.id = image → s1.dump.running = none →
      (∀ m, m < n → (s1.dump.slot m).all (fun g => g.id ≠ image) = true) →
      ∃ x : State, exec (.soAck dt req image) s = .next (x.answer c Abort.ok []) ∧ x.dump.slot n = none ∧
        (s1.dump.latestArea.image = image → FettleJob.latestQuarters ∈ x.dump.fettle)) ∧
  (∀ (dt : Nat) (s : State), s.power.admitted.getLsbD 3 = true →
    exec (.reserveFettleDone dt) s = .next { s.begin dt with dump := { s.dump with fettle := s.dump.fettle.drop 1 } }) ∧
  (∀ (dt idx sub value : Nat) (req : Req) (s s1 : State) (c : Ctx) (r : ObjRow), idx = 0x4204 ∨ idx = 0x4205 →
    Served s dt req idx sub .write c s1 → objRow idx sub = some r → value < 2 ^ (8 * r.type.size) →
    valueFits r sub (be r.type.size value) = true →
    ((s1.objPut r.idx sub (be r.type.size value)).reserveBad = true →
      exec (.reserveWrite dt req idx sub value) s = .next (s1.answer c Abort.valueRange [])) ∧
    ((s1.objPut r.idx sub (be r.type.size value)).reserveBad = false →
      s1.dump.running = none → s1.dump.slots.any Option.isSome = false →
      ∃ x : State, exec (.reserveWrite dt req idx sub value) s = .next (x.answer c Abort.ok []) ∧
        x.dump.refImage = 0))

/-- Reads and writes of records (R41, R319, R329–R331, R338, R341): a read that completes with NOT_STOPPED, or of a slot
that runs, yields a NOT_COLLECTED record, which goes to both of its copies at one offset; one without completion within
50 µs goes to the tap ring; a record whose two writes fail is lost and logged, one that is stored is counted; a tier 0
record without completion within 50 µs goes on VC1. -/
def Obligations.ShakeoutRecords : Prop :=
  (∀ (dt die uid type off : Nat) (data : List Byte) (lines : List Nat) (s : State) (k : Shakeout),
    s.dump.running = some k → ((s.begin dt).bulkOut die type uid off).isSome → 0x10 ≤ type →
    ((s.begin dt).part die type uid).isSome → (recTier type = 2 → s.tier2Admitted = true) →
    ((recSecure type = true → s.chilled (uidCluster uid) = false) →
      ∃ (x : State) (r : Rec), exec (.debugReadComplete dt die uid type off 1 data lines) s = .next (x.feedDie die) ∧
        x.emitted = [⟨.stackWrite, die, be 8 (s.dump.areaBase k.ref (recTier type) false +
            (s.work die).place (recTier type)) ++ r.octets⟩,
          ⟨.stackWrite, die ^^^ 8, be 8 (s.dump.areaBase k.ref (recTier type) true +
            (s.work die).place (recTier type)) ++ r.octets⟩] ∧
        r.uid = uid ∧ r.type = type ∧ r.state = 2 ∧ r.reason = 0x10 ∧ r.stored = []) ∧
    ((s.begin dt).bulkStatus type uid 0 = 1 → exec (.debugReadComplete dt die uid type off 0 data lines) s =
      exec (.debugReadComplete dt die uid type off 1 data lines) s) ∧
    ((s.begin dt).bulkStatus type uid 0 = 0 →
      ∃ x : State, exec (.debugReadComplete dt die uid type off 0 data lines) s = .next (x.feedDie die) ∧
        x.dump.bytesRead = add64 s.dump.bytesRead (Nat.min bulkUnit (recLen type - off)))) ∧
  (∀ (dt die uid type off win : Nat) (s : State) (r : BulkRead), (s.begin dt).bulkOut die type uid off = some r →
    50000 ≤ (s.begin dt).nsSince r.issued → recWindow type = some win → s.tapFailed (uidCluster uid) = false →
    ((s.begin dt).part die type uid).isSome → (0x20 ≤ recKey type uid / 65536 → s.tier2Admitted = true) →
    s.units.ringQueue = [] → s.ringRoom (uidCluster uid / 8) (uidCluster uid % 8) = true →
    ∃ (x : State) (q : RingTxn), exec (.debugReadTimeout dt die uid type off) s = .next (x.feedDie die) ∧
      x.units.ring = s.units.ring ++ [q] ∧ q.window = win ∧ q.offset = off ∧ q.write = false) ∧
  (∀ (dt die uid type sub : Nat) (s : State) (k : Writing) (r : Rec),
    (s.begin dt).writingRec die uid type sub = some k → k.record = r → r.tier = 1 →
    (s.stackUp die = true → ∃ x : State,
      exec (.recordWriteComplete dt die uid type sub true true) s = .next (x.feedDie die) ∧
      x.dump.bytesStored = add64 s.dump.bytesStored r.stored.length) ∧
    ∃ x : State, exec (.recordWriteComplete dt die uid type sub false false) s =
      .next ((x.logged Code.soRecordLost (be 2 r.uid ++ be 1 r.type ++ be 4 r.sub)).feedDie die) ∧
      x.dump.bytesStored = s.dump.bytesStored) ∧
  (∀ (dt die uid type : Nat) (s : State) (k : Writing),
    (s.begin dt).writingRec die uid type 0 = some k → k.record.tier = 0 → 50000 ≤ (s.begin dt).nsSince k.since →
    ∃ t, exec (.ladleWriteTimeout dt die uid type) s = .next t ∧
      t.emitted = [⟨.runnerCast, die, k.record.octets⟩] ∧
      t.dump.bytesStored = add64 s.dump.bytesStored k.record.stored.length)

/-- Seals, losses and readout (R344, R347, R349, R350, R361): a part reported at the end of a tier is kept; a
sum equal to the parts is the seal, another is repeated once and then stands with SEAL_MISMATCH; a runner
without progress for 2 frames is lost; the header and a record are read as block transfers, a record of an
image with DUMP_SECURE only by a session that holds the scope. -/
def Obligations.ShakeoutSealsAndReadout : Prop :=
  (∀ (dt die tier : Nat) (s : State) (k : Shakeout) (g : Image), s.dump.running = some k → s.soImage = some g →
    die < 16 → tier < 3 → bitOf k.tiers tier = true → s.partIn die tier = false →
    (s.begin dt).tierDone g k die tier = true →
    ∃ x : State, exec (.sealPartReport dt die tier) s = .next x.soAdvance ∧ x.partIn die tier = true ∧
      (x.work die).sums = (s.work die).sums) ∧
  (∀ (dt sum : Nat) (s : State) (k : Shakeout) (g : Image) (w : SealWave), s.dump.running = some k →
    s.soImage = some g → k.sealWave = some w → w.wave + 768 ≤ (s.begin dt).pns →
    (sum = s.partsSum g w.tier → exec (.sealResult dt sum) s = .next ((s.begin dt).writeSeal w.tier sum)) ∧
    (sum ≠ s.partsSum g w.tier → w.repeated = false →
      exec (.sealResult dt sum) s = .next ((s.begin dt).nameWave w.tier true)) ∧
    (sum ≠ s.partsSum g w.tier → w.repeated = true → exec (.sealResult dt sum) s =
      .next (((((s.begin dt).soResult 2).logged Code.soSealMismatch (be 4 g.id ++ be 1 w.tier))).writeSeal w.tier
        (sum % 2 ^ 64)))) ∧
  (∀ (dt die tier : Nat) (s : State) (k : Shakeout), s.dump.running = some k → die < 16 → tier ∈ k.tierList →
    s.partIn die tier = false → 2 ≤ (s.work die).still →
    ∃ x : State, exec (.soRunnerLost dt die) s = .next (x.soLoseDie die) ∧ x.health (runnerUid die) = 4) ∧
  (∀ (dt : Nat) (req : Req) (s s1 : State) (c : Ctx) (g : Image), Served s dt req 0x4203 2 .blkRead c s1 →
    s1.selectedImage = some g → s1.blockRoom c.who = true →
    ∃ (x : State) (b : Block) (d : List Byte), exec (.soHeaderRead dt req) s =
        .next ((x.answerFlags c (s1.pendingFlag c.who 0x4203 2) Abort.ok d).pumpBlock (s.begin dt).newBlockId
          (524320 / blkUnit + 2)) ∧
      x.port.blocks = s1.port.blocks ++ [b] ∧ b.bytes = s1.imageOctets g ∧
      b.total = (s1.imageOctets g).length ∧ b.requester = c.who ∧ b.write = false) ∧
  (∀ (dt : Nat) (req : Req) (ownOk mirrorOk : Bool) (s s1 : State) (c : Ctx) (g : Image),
    Served s dt req 0x4203 4 .blkRead c s1 → s1.selectedImage = some g →
    (g.dumpSecure = true → s1.readsSecure c = false → exec (.soRecordRead dt req ownOk mirrorOk) s =
      .next ((s1.answer c Abort.notAuthorized []).pumpBlock (s.begin dt).newBlockId (524320 / blkUnit + 2))) ∧
    ∀ r, g.dumpSecure = false → (g.tier0.find? fun r => s1.keyed r.uid r.type r.sub) = some r →
      s1.blockRoom c.who = true →
      ∃ (x : State) (b : Block) (d : List Byte), exec (.soRecordRead dt req ownOk mirrorOk) s =
          .next ((x.answerFlags c (s1.pendingFlag c.who 0x4203 4) Abort.ok d).pumpBlock (s.begin dt).newBlockId
            (524320 / blkUnit + 2)) ∧
        x.port.blocks = s1.port.blocks ++ [b] ∧ b.bytes = r.octets ∧
        b.total = r.octets.length)

/-! ## Chapter 08 -/

/-- Verdicts and the procedure that they start (R208, R365–R374, R380–R382, R416, R424): the oldest report is
evaluated and its verdicts declared; a hung CCP, a silent runner read 4; what a WAITING procedure waits for
lets it go on; the collection starts at T + 2 µs; a runner without four ticks fences its die's ports. -/
def Obligations.HangVerdicts : Prop :=
  (∀ (dt f : Nat) (rest : List Nat) (s : State), s.hang.evalDue = f :: rest → (s.begin dt).inSlot 1 = true →
    ∃ x : State, exec (.reportEvaluation dt) s = .next x.watchViews.startWaiting ∧ x.hang.evalDue = rest ∧
      x.hang.evalFrame = f ∧ x.hang.reports = s.hang.reports.filter fun r => decide (f < r.1)) ∧
  (∀ (dt c : Nat) (s : State), c < 128 → s.beatDue c = true →
    ∃ x : State, exec (.hbMiss dt c) s =
        .next (x.takeVerdict ⟨.hbMiss, ccpUid c, 0, s.hang.evalFrame, (s.begin dt).pns⟩) ∧
      x.health (ccpUid c) = 4 ∧ x.hang = s.hang) ∧
  (∀ (dt uid e : Nat) (s : State), uidIsCore uid = true → uidPresent uid = true → e < 4 →
    s.engineDue (engineNumber uid e) = true →
    ∃ x : State, exec (.hangEngine dt uid e) s =
        .next (x.takeVerdict ⟨.engineHung, uid, e, s.hang.evalFrame, (s.begin dt).pns⟩) ∧
      x.hang.engines = (Tab.mod s.hang.engines (engineNumber uid e) EngineScan.fresh
        fun e => { e with hung := true }) ∧ x.hang.proc = s.hang.proc) ∧
  (∀ (dt die : Nat) (s : State), die < 16 → s.runnerSilentNow die = true → (s.runner die).inReset = false →
    (s.runner die).silent = false →
    ∃ x : State, exec (.runnerSilent dt die) s = .next (if s.hang.ceiling < 2 then x.holdEscalation 2
        else x.wantReset (runnerUid die) 3) ∧ x.health (runnerUid die) = 4 ∧ (x.runner die).silent = true ∧
      x.hang = s.hang) ∧
  (∀ (dt c : Nat) (s : State), c < 128 → s.health (tapUid c) = 4 →
    s.hang.hbLimitNow ≤ (Tab.at s.hang.beats c BeatWatch.fresh).tapSilentFrames →
    (Tab.at s.hang.beats c BeatWatch.fresh).unobserved = false →
    ∃ x : State, exec (.tapSilent dt c) s = .next (if s.hang.ceiling < 3 then x.holdEscalation 3
        else if x.recovering then x else x.startRecovery 4 (tapUid c)) ∧
      (Tab.at x.hang.beats c BeatWatch.fresh).unobserved = true) ∧
  (∀ (dt : Nat) (s : State), s.hangRunning = true → s.hang.proc.state = 10 →
    exec (.hangWaitClear dt) s = .next (if s.hang.proc.resumeWaits then (s.begin dt).procResume
      else if !s.dumpBusy && (s.qu.state = Qs.idle || s.qu.state = Qs.mixed || s.cutHolds s.hang.proc.scope) then
        (s.begin dt).procCut false
      else s.begin dt)) ∧
  (∀ (dt : Nat) (s : State), s.hang.proc.collectAt ≤ (s.begin dt).pns → s.dumpBusy = false →
    (s.begin dt).collectTiers = 3 → s.hangRunning = true → s.hang.proc.state = 2 →
    ∃ x : State, exec (.hangCollect dt) s = .next (x.ownShakeout 3 s.hang.proc.scope 1) ∧
      x.hang.proc = { s.hang.proc with state := 3 }) ∧
  (∀ (dt die : Nat) (s : State), die < 16 → (s.runner die).inReset = false → (s.runner die).fenced = false →
    (s.replica (runnerUid die)).state ≠ .cold → s.frame.ticked = true →
    s.frame.nextTick + 3 * s.frame.lenNs ≤ (s.begin dt).replicaPns (runnerUid die) →
    ∃ t, exec (.runnerNoTick dt die) s = .next t ∧ (t.runner die).fenced = true ∧
      ∀ p ∈ portsOf die, (t.optPort p).fenced = true)

/-- The counts that verdicts come from (R365, R366, R369): a heartbeat that changed clears its cluster's miss
count, one that did not adds to a count that runs; an engine that retired nothing while it held contexts and
was clocked at both scans adds to its stall count, one that retired or held nothing clears it; a scan finds an engine
clocked when its slot's CORE_CLOCK bit is 1 and its half is not chilled, and reads 0 in a cluster reset (R39). -/
def Obligations.MissAndStallCounts : Prop :=
  (∀ (s : State) (c f h : Nat), h ≠ (Tab.at s.hang.beats c BeatWatch.fresh).last →
    ∃ b, (s.watchBeat c f (some h)).hang.beats = Tab.set s.hang.beats c BeatWatch.fresh b ∧ b.miss = 0 ∧
      b.beaten = true ∧ b.changedFrame = f ∧ b.last = h) ∧
  (∀ (s : State) (c f h : Nat), h = (Tab.at s.hang.beats c BeatWatch.fresh).last →
    ∃ b, (s.watchBeat c f (some h)).hang.beats = Tab.set s.hang.beats c BeatWatch.fresh b ∧
      b.miss = (if s.health (ccpUid c) ≤ 1 ∧ s.health (tapUid c) = 0 ∧
        (Tab.at s.hang.beats c BeatWatch.fresh).beaten then (Tab.at s.hang.beats c BeatWatch.fresh).miss + 1
        else (Tab.at s.hang.beats c BeatWatch.fresh).miss)) ∧
  (∀ (p : EngineScan) (e : EngineReport) (live : Bool), (p.next e live).live = live ∧
    ((e.progress ≠ p.progress ∨ e.resident = 0 ∨ p.resident = 0) → (p.next e live).stall = 0) ∧
    (¬ (e.progress ≠ p.progress ∨ e.resident = 0 ∨ p.resident = 0) →
      (p.next e live).stall = (if (live && p.live) = true then p.stall + 1 else p.stall))) ∧
  (∀ (s : State) (die : Nat) (e : EngineReport),
    ((s.scanEngine die e).2 = true ↔ s.slotRuns (die * 8 + e.engine / 544) (e.engine % 544 / 4) = true ∧
      s.chilled (die * 8 + e.engine / 544) = false) ∧
    ((s.tap (die * 8 + e.engine / 544)).inReset = true → (s.scanEngine die e).1.progress = 0))

/-- Removal of contexts (R386–R391, R394, R396, R748): CONTEXT_REMOVE queues a NORMAL context, makes a
SUSPENDED one RETIRED and leaves a RETIRED one; a REMOVE cast takes up to 8 from the queue, under new epochs;
a target sets them, counts on lane 1 and answers; a complete count starts the drain, which leaves the contexts
SUSPENDED with HOLD_REGIONS; fettled by every die, a context is NORMAL. -/
def Obligations.ContextRemoval : Prop :=
  (∀ (dt ctx : Nat) (req : Req) (s s1 : State) (c : Ctx), Served s dt req 0x3110 0 .write c s1 →
    (∀ code, s1.removeRefusal ctx = some code → exec (.contextRemove dt req ctx) s = .next (s1.answer c code [])) ∧
    (s1.removeRefusal ctx = none → s1.ctxState ctx = Cx.normal → s1.queuedRemoval ctx = false →
      ∃ x : State, exec (.contextRemove dt req ctx) s = .next (x.answer c Abort.ok []) ∧
        x.hang.queue = s1.hang.queue ++ [⟨ctx, false, false⟩]) ∧
    (s1.removeRefusal ctx = none → s1.ctxState ctx = Cx.suspended → s1.power.admitted.getLsbD 3 = false →
      exec (.contextRemove dt req ctx) s = .next ((s1.moveCtx ctx Cx.retired).answer c Abort.ok [])) ∧
    (s1.removeRefusal ctx = none → s1.ctxState ctx = Cx.retired → s1.power.admitted.getLsbD 3 = false →
      exec (.contextRemove dt req ctx) s = .next (s1.answer c Abort.ok []))) ∧
  (∀ (dt : Nat) (s : State), s.openRemoves < 2 → s.hang.queue ≠ [] →
    ∃ (x : State) (o : CtxCast), exec (.removeCastIssue dt) s = .next x.resetMayStart ∧
      x.hang.casts = s.hang.casts ++ [o] ∧ o.kind = .remove ∧ o.targets = ctxTargets ∧
      o.contexts = (removalBatch s.hang.queue).map Removal.ctx ∧
      (∀ r, s.hang.queue = [r] → o.contexts = [r.ctx] ∧ o.hold = r.hold ∧ x.ctxState r.ctx = Cx.removing ∧
        x.ctxEpoch r.ctx = (s.ctxEpoch r.ctx + 1) % 256)) ∧
  (∀ (dt t st uid e : Nat) (m : List Byte) (c : CtxOrder) (s : State), CtxOrder.ofOctets m = some c → t < 128 →
    c.targets.getLsbD t = true → c.kind = 0x10 → c.retry = false →
    ∃ x : State, exec (.contextCastReceive dt t m st uid e) s =
        .next ((x.emit .laneOne c.id (be 8 1)).sendAnswer t c.id
          (if s.clusterReset t then Cx.inReset else Cx.acted)
          (x.stampPns (targetReplica t) % 2 ^ 32)) ∧
      x.hang.casts = (s.hang.casts.map fun o =>
        if o.id = c.id then { o with laneCount := o.laneCount + 1 } else o) ∧
      x.units = (if s.clusterReset t then s.units
        else ((s.begin dt).modTap t fun x => { x with epochs := c.apply x.epochs }).units)) ∧
  (∀ (dt id : Nat) (s : State) (o : CtxCast), s.ctxCast id = some o → o.kind = .remove → o.counted = false →
    s.removeComplete o = true →
    ∃ x : State, exec (.removeCountComplete dt id) s = .next x.procRemovals ∧
      x.ctxCast id = some { o with counted := true, drainAt := some ((s.begin dt).pns + s.hang.drainNs) }) ∧
  (∀ (dt id k e t : Nat) (s : State) (o : CtxCast), s.ctxCast id = some o → o.counted = true →
    o.drainAt = some t → t ≤ (s.begin dt).pns → o.contexts = [k] → o.epochs = [e] → o.hold = true →
    s.ctxState k = Cx.draining → (∀ r ∈ s.hang.aside, r.ctx ≠ k) → s.power.admitted.getLsbD 3 = false →
    ∃ x : State, exec (.drainElapsed dt id) s = .next x.procRemovals ∧ x.ctxState k = Cx.suspended ∧
      x.ctxEpoch k = s.ctxEpoch k) ∧
  (∀ (dt k die : Nat) (s : State), s.ctxState k = Cx.fettling → die < 16 →
    s.rst.released.getLsbD 7 = true →
    Tab.at s.hang.fettling k 0xFFFF = 2 ^ die →
    exec (.contextFettleDone dt k die) s = .next (State.moveCtx { s.begin dt with
      hang := { s.hang with fettling := Tab.del s.hang.fettling k } } k Cx.normal))

/-- Isolate replay (R254, R398–R401): ACTED names the engine, and the answer restores its cluster's entry;
REPLAY_DONE, REPLAY_FAULT and the refusals are the verdicts; a stall there makes the culprit; a replay that goes on
for REPLAY_LIMIT frames is judged INNOCENT and the next suspect follows. -/
def Obligations.IsolateReplay : Prop :=
  (∀ (dt id uid e : Nat) (s : State) (r : Replay), s.hang.replay = some r → r.castId = id →
    (r.acted = false → ∃ t, exec (.replayResponse dt id Cx.acted uid e) s = .next t ∧
      t.hang.replay = some { r with acted := true, uid := uid, engine := e, fromFrame := s.frame.number + 1 } ∧
      (Tab.sortedFrom 0 s.topo.health = true → ∀ c u, s.ctxCast id = some c → u ∈ targetsOf c.targets →
        s.health (targetUid u) = 4 → t.health (targetUid u) = 0)) ∧
    ∀ st v, replayOutcome st = some v →
      ∃ x : State, exec (.replayResponse dt id st uid e) s = .next (x.replayVerdict v) ∧
        x.hang.replay = some r ∧ x.hang.proc = s.hang.proc) ∧
  (∀ (dt : Nat) (s : State) (r : Replay), s.hang.replay = some r → r.acted = true →
    s.hang.progLimitNow ≤ r.stall →
    exec (.replayStall dt) s = .next ((s.begin dt).replayVerdict 2)) ∧
  (∀ (dt : Nat) (s : State) (r : Replay), s.hang.replay = some r → r.acted = true →
    s.hang.replayLimit ≤ r.frames →
    ∃ x : State, exec (.replayTimeout dt) s = .next ((x.requestRemoval r.ctx true true true).procRemovals) ∧ x.hang.replay = none ∧
      x.hang.proc.suspects = s.hang.proc.suspects.map fun y =>
        if y.ctx = r.ctx then { y with verdict := 1 } else y)

/-- Unit resets (R403–R409): accepted, the wrapper closes and UNIT_RESET_STATUS reads WRAPPING, or the
request is refused; the reset asserts 10 µs later, releases after 4,096 REFCLK cycles or at the RELEASE of
a HOLD, and is DONE; not done within 40 ms, a cluster is routed around and a runner is tried once more. -/
def Obligations.UnitResets : Prop :=
  (∀ (dt uid part : Nat) (att : Bool) (req : Req) (s s1 : State) (c : Ctx),
    Served s dt req 0x3010 0 .write c s1 →
    (∀ code, s1.resetRefusal uid 0 part att = some code →
      exec (.unitResetPulse dt req uid part att) s = .next (s1.answer c code [])) ∧
    (∀ code, s1.resetRefusal uid 1 part att = some code →
      exec (.unitResetHold dt req uid part att) s = .next (s1.answer c code [])) ∧
    ((resetKind uid part = some .cluster → s1.clusterBindings (uidCluster uid) = []) →
      (s1.resetRefusal uid 0 part att = none → ∃ x : State,
        exec (.unitResetPulse dt req uid part att) s = .next (x.answer c Abort.ok []) ∧
        x.hang.reset.state = 1 ∧ x.hang.reset.active = true ∧ x.hang.reset.uid = uid ∧
        x.hang.reset.mode = resetMode 0 part att) ∧
      (s1.resetRefusal uid 1 part att = none → ∃ x : State,
        exec (.unitResetHold dt req uid part att) s = .next (x.answer c Abort.ok []) ∧
        x.hang.reset.state = 1 ∧ x.hang.reset.active = true ∧ x.hang.reset.uid = uid ∧
        x.hang.reset.mode = resetMode 1 part att)) ∧
    (s1.resetRefusal uid 2 part att = none → ∃ x : State,
      exec (.unitResetRelease dt req uid part att) s = .next (x.releaseReset.answer c Abort.ok []) ∧
      x.hang.reset.mode = resetMode 2 part att ∧ x.hang.reset.since = some s1.elapsed)) ∧
  (∀ (dt t : Nat) (s : State), s.hang.reset.active = true → s.hang.reset.state = 1 → s.hang.reset.since = some t →
    t + 10000 * Config.stepsPerNs ≤ s.elapsed + dt →
    ∃ u, exec (.unitResetAssert dt) s = .next u ∧ u.hang.reset.state = 2 ∧
      u.hang.reset.assertedAt = s.elapsed + dt ∧
      u.emitted.getLast? = some ⟨.unitReset, s.hang.reset.uid, be 1 (modePart s.hang.reset.mode) ++ be 1 2⟩) ∧
  (∀ (dt : Nat) (s : State), s.hang.reset.active = true → s.hang.reset.state = 2 →
    modeAction s.hang.reset.mode ≠ 1 →
    s.hang.reset.assertedAt + 4096 * Config.stepsPerRefclk ≤ s.elapsed + dt →
    exec (.unitResetReleaseDue dt) s = .next (s.begin dt).releaseReset) ∧
  (∀ (dt : Nat) (s : State), s.hang.reset.active = true → s.hang.reset.state = 3 →
    s.hang.reset.kind = some .cluster →
    ∃ x : State, exec (.unitResetDone dt) s = .next (((x.procResetEnded 1).nextReset).nextProcedure) ∧
      x.hang.reset.state = 4 ∧ x.hang.reset.active = false ∧ x.hang.reset.donePns = (s.begin dt).pns) ∧
  (∀ (dt t : Nat) (s : State), s.hang.reset.active = true → modeAction s.hang.reset.mode = 0 →
    s.hang.reset.since = some t → t + 40000000 * Config.stepsPerNs ≤ s.elapsed + dt →
    (s.hang.reset.kind = some .cluster →
      ∃ x : State, exec (.l2Failed dt) s = .next (((x.procResetEnded 5).nextReset).nextProcedure) ∧
        x.hang.reset.state = 5 ∧ x.hang.reset.active = false) ∧
    (s.hang.reset.kind = some .runner → s.hang.reset.retried = false →
      ∃ x : State, exec (.l2Failed dt) s = .next x.beginReset ∧ x.hang.reset.retried = true ∧
        x.hang.reset.since = none ∧ x.hang.reset.uid = s.hang.reset.uid))

/-- Device recovery (R411, R412, R414): RECOVERY_LEVEL 3 starts phase A, another value or a write during
recovery is refused; each phase that ends starts the next, and phase G ends it well; a phase beyond its
maximum ends it FAILED; either end leaves the job phase at START_UP and ADM_STATE at IDLE (R429, R449). -/
def Obligations.DeviceRecovery : Prop :=
  (∀ (dt v : Nat) (req : Req) (s s1 : State) (c : Ctx), Served s dt req 0x3120 0 .write c s1 →
    (v ≠ 3 → exec (.recoveryLevel dt req v) s = .next (s1.answer c Abort.valueRange [])) ∧
    (s1.recovering = true → exec (.recoveryLevel dt req 3) s = .next (s1.answer c Abort.busy [])) ∧
    (s1.recovering = false → ∃ x : State, exec (.recoveryLevel dt req 3) s = .next (x.answer c Abort.ok []) ∧
      x.hang.proc.state = 9 ∧ x.hang.proc.l3Phase = 1 ∧ x.hang.proc.trigger = 7 ∧
      x.hang.l3Since = s1.elapsed)) ∧
  (∀ (dt : Nat) (s : State), s.hang.proc.l3Phase ≠ 0 → (s.begin dt).phaseDone s.hang.proc.l3Phase = true →
    ∃ t, exec (.l3PhaseEnd dt) s = .next t ∧
      (s.hang.proc.l3Phase = 7 → t.hang.proc.l3Phase = 0 ∧ t.hang.proc.state = 0 ∧ t.hang.proc.result = 1 ∧
        t.fm.markPhase = 1 ∧ t.adm.state = 0) ∧
      (s.hang.proc.l3Phase ≠ 7 → t.hang.proc.l3Phase = s.hang.proc.l3Phase + 1 ∧
        t.hang.l3Since = s.elapsed + dt)) ∧
  (∀ (dt : Nat) (s : State), s.hang.proc.l3Phase ≠ 0 →
    s.hang.l3Since + l3Max s.hang.proc.l3Phase * 1000 * Config.stepsPerNs < s.elapsed + dt →
    ∃ t, exec (.l3Failed dt) s = .next t ∧ t.hang.l3Failed = true ∧ t.hang.proc.result = 6 ∧
      t.hang.proc.l3Phase = 0 ∧ t.fm.markPhase = 1 ∧ t.adm.state = 0)

/-! ## Chapter 09 -/

/-- The step mark, liveness and SUSPECT (R421, R427, R428, R433, R435–R440): three equal words are a mark,
three that differ are logged; JOB_VIEW expires after 1,024 frames; SUSPECT is entered at the limit, takes its
own dump, reports its self-test and clears; a beacon not yet seen goes out on every other link-up port and on the
beacon wave, one that has been seen does not. -/
def Obligations.StepMarksAndSuspect : Prop :=
  (∀ (dt : Nat) (w0 w1 w2 : Word32) (s : State),
    (w0 = w1 → w1 = w2 → ∃ x : State, exec (.stepMark dt w0 w1 w2) s =
        .next ((x.mapMark.readmitStep).admitStep (w0.toNat % 2 ^ 30)) ∧ x.fm.stepMark = w0.toNat % 2 ^ 30 ∧
      x.fm.markPhase = w0.toNat / 2 ^ 30 ∧ Changes [.elapsed, .emitted, .fm] s x) ∧
    (¬ (w0 = w1 ∧ w1 = w2) → exec (.stepMark dt w0 w1 w2) s = .next ((s.begin dt).logged Code.stepMarkBad
      (be 4 w0.toNat ++ be 4 w1.toNat ++ be 4 w2.toNat)))) ∧
  (∀ (dt : Nat) (s : State), s.fm.jobView ≠ 0 → s.fm.jobViewAt + 1024 ≤ s.frame.number →
    exec (.jobViewExpire dt) s = .next { s.begin dt with fm := { s.fm with jobView := 0 } }) ∧
  (∀ (dt : Nat) (s : State), s.fm.suspectState = 0 → s.fm.disagreeLimit ≤ s.fm.disagree →
    ∃ x : State, exec (.suspectEnter dt) s = .next ((x.urged Code.suspectEntered
        (be 1 s.hubView ++ be 1 s.fm.jobView)).beacon Beacon.suspect) ∧ x.fm.suspectState = 1 ∧
      x.fm.suspectPns = (s.begin dt).pns ∧ x.fm.suspectImage = 0) ∧
  (∀ (dt : Nat) (s : State), s.fm.suspectState = 1 → s.fm.suspectPns + 1000 ≤ (s.begin dt).pns →
    s.suspectDumping = false →
    exec (.suspectDump dt) s = .next (if s.dumpBusy then ((s.begin dt).logged Code.suspectNoDump []).suspectTest
      else (s.begin dt).ownShakeout 1 (BitVec.allOnes 128) 3)) ∧
  (∀ (dt : Nat) (r : SelfTest) (s : State), (s.begin dt).testRipe = true →
    (s.begin dt).marchBlocked = false →
    (s.fm.suspectState = 2 → ∃ x : State, exec (.selfTestEnd dt r) s = .next x.suspectReport ∧
      x.fm.suspectState = 3 ∧ x.fm.probeFails = r.probeFails ∧ x.fm.marchErrors = r.marchErrors ∧
      x.fm.selftestResult = testResult ((s.begin dt).testSeen r)) ∧
    (s.fm.suspectState ≠ 2 → s.adm.state = 1 → ∃ x : State, exec (.selfTestEnd dt r) s =
      .next (x.admTested ((s.begin dt).testSeen r)) ∧
      x.fm.selftestResult = testResult ((s.begin dt).testSeen r) ∧ x.adm = s.adm)) ∧
  (∀ (dt : Nat) (s : State), s.fm.suspectState = 3 → s.fm.disagreeLimit ≤ s.fm.agreeFrames →
    ∃ x : State, exec (.suspectCleared dt) s = .next (x.logged Code.suspectCleared []) ∧
      x.fm = { s.fm with suspectState := 0, disagree := 0, agreeFrames := 0 }) ∧
  (∀ (dt : Nat) (req : Req) (s s1 : State) (c : Ctx), Served s dt req 0xB021 1 .write c s1 →
    (s1.fm.suspectState ≠ 3 → exec (.suspectCmdClear dt req) s = .next (s1.answer c Abort.busy [])) ∧
    (s1.fm.suspectState = 3 → ∃ x : State, exec (.suspectCmdClear dt req) s = .next (x.answer c Abort.ok []) ∧
      x.fm = { s1.fm with suspectState := 0, disagree := 0, agreeFrames := 0 })) ∧
  (∀ (dt port : Nat) (b : List Byte) (s : State), beaconFits b = true → port < 48 →
    (s.optPort port).linkUp = true → s.adm.state ≠ 2 →
    ∃ t, exec (.beaconReceive dt port b) s = .next t ∧
      ((∃ x ∈ (s.begin dt).seenNow, x.1 = fieldBe b 8 8 ∧ x.2.1 = fieldBe b 2 2) →
        t.emitted = [] ∧ t.hang.localBeacon = s.hang.localBeacon) ∧
      ((∀ x ∈ (s.begin dt).seenNow, ¬ (x.1 = fieldBe b 8 8 ∧ x.2.1 = fieldBe b 2 2)) →
        t.hang.localBeacon = (s.hang.localBeacon + 1) % 65536 ∧
        t.emitted = ((s.linkUpPorts.filter fun p => p ≠ port).map fun p => ⟨.beacon, p, b⟩) ++
          List.replicate 3 ⟨.beacon, 48, be 4 (beaconWord ((s.hang.localBeacon + 1) % 65536)
            (bitOf (fieldBe b 1 1) 0) (fieldBe b 24 2))⟩))

/-- Expulsion (R442–R448): a refused order is logged; an accepted EXPEL sets FENCE_SEQ and FENCING; 4 µs later
the ports are fenced and FENCE_STATE reads FENCED; then the cut, its image, and at its close what hung on it; an
accepted RELEASE lifts the fence. -/
def Obligations.Expulsion : Prop :=
  (∀ (dt : Nat) (o : List Byte) (req : Req) (s s1 : State) (c : Ctx), Served s dt req 0xB010 0 .blkWrite c s1 →
    (∀ code, s1.orderRefusal o = some code →
      exec (.expel dt req o) s =
        .next ((s1.logged Code.expelRefused (be 4 (fieldBe o 4 4) ++ be 1 code)).answer c code []) ∧
      exec (.expelRelease dt req o) s =
        .next ((s1.logged Code.expelRefused (be 4 (fieldBe o 4 4) ++ be 1 code)).answer c code [])) ∧
    (s1.orderRefusal o = none → fieldBe o 1 1 = 1 → s1.fm.fenceState = 0 →
      ∃ x : State, exec (.expel dt req o) s = .next (x.answer c Abort.ok []) ∧ x.fm.fenceState = 1 ∧
        x.fm.fenceSeq = fieldBe o 4 4 ∧ x.fm.expelPhase = 1 ∧ x.fm.expelAt = s1.pns) ∧
    (s1.orderRefusal o = none → fieldBe o 1 1 = 2 → s1.fm.fenceState ≠ 0 →
      ∃ x : State, exec (.expelRelease dt req o) s = .next (x.answer c Abort.ok []) ∧ x.fm.fenceState = 0 ∧
        x.fm.fenceSeq = fieldBe o 4 4 ∧ x.adm.state = 0)) ∧
  (∀ (dt : Nat) (s : State), s.fm.expelPhase = 1 → s.fm.expelAt + 4000 ≤ (s.begin dt).pns →
    ∃ t, exec (.expelPortFence dt) s = .next t ∧ t.fm.fenceState = 2 ∧ t.fm.fencePns = (s.begin dt).pns ∧
      t.fm.expelPhase = 2 ∧ ∀ p, p < 48 → (t.optPort p).fenced = true) ∧
  (∀ (dt : Nat) (s : State), s.fm.expelPhase = 2 →
    (s.qu.state = Qs.quenched → exec (.expelCut dt) s = .next { s.begin dt with fm := { s.fm with
      expelPhase := 3, expelCutAt := (s.begin dt).pns, expelEntry := none } }) ∧
    (s.qu.state = Qs.idle ∨ s.qu.state = Qs.mixed → ∀ x n,
      (s.begin dt).enterOwn Act.quench ((s.begin dt).earliest Act.quench) 0 wholePackage = (x, some n) →
      exec (.expelCut dt) s = .next { x with fm := { x.fm with
        expelPhase := 3, expelCutAt := (s.begin dt).earliest Act.quench, expelEntry := some n } })) ∧
  (∀ (dt : Nat) (s : State), s.fm.expelPhase = 3 → s.fm.expelCutAt + 2000 ≤ (s.begin dt).pns →
    s.dumpBusy = false → s.fm.expelEntry = none → s.fm.expelNoCut = false →
    s.soRefusal s.dump.tiers ≠ some Abort.notQuenched →
    ∃ x : State, exec (.expelCollect dt) s = .next (x.ownShakeout s.dump.tiers (BitVec.allOnes 128) 2) ∧
      x.fm = { s.fm with expelPhase := 4 }) ∧
  (∀ (dt : Nat) (s : State) (g : Image), s.soImage = some g → s.soClosable = true →
    ∃ x : State, exec (.shakeoutClose dt) s =
        .next (((x.procClosed g).expelClosed g).suspectClosed g).startWaiting ∧
      x.dump.running = none ∧ x.dump.status = 0)

/-- Starting and ending an admission (R454, R455, R457, R458): BEGIN starts the self-test, SERVE opens the
stream on the links to the partner, ABORT ends either; a stream that stalls, or whose end carries a status,
fails it; fettled regions read zero and the admission is FAILED. -/
def Obligations.AdmissionCommands : Prop :=
  (∀ (dt : Nat) (req : Req) (s s1 : State) (c : Ctx), Served s dt req 0xB000 0 .write c s1 →
    (∀ code, s1.beginRefusal = some code → exec (.admBegin dt req) s = .next (s1.answer c code [])) ∧
    (s1.beginRefusal = none → ∃ x : State, exec (.admBegin dt req) s = .next (x.answer c Abort.ok []) ∧
      x.adm.state = 1 ∧ x.adm.records = 0 ∧ x.adm.written = false ∧ x.bar.sweep = some 0 ∧
      x.fm.testSince = s1.elapsed)) ∧
  (∀ (dt : Nat) (req : Req) (s s1 : State) (c : Ctx), Served s dt req 0xB000 0 .write c s1 →
    (s1.adm.state ≠ 0 → exec (.admServe dt req) s = .next (s1.answer c Abort.busy [])) ∧
    (s1.adm.state = 0 → s1.adm.partner ≠ 0 → admSourceOk s1.adm.source = true →
      ∃ x : State, exec (.admServe dt req) s = .next (x.answer c Abort.ok []) ∧ x.adm.state = 8 ∧
        x.emitted = s1.emitted ++ s1.admLinks.map fun p =>
          ⟨.admStream, p, streamOctets 0x3E 0 (le 8 s1.fuses.serial ++ le 8 s1.adm.partner)⟩)) ∧
  (∀ (dt : Nat) (req : Req) (s s1 : State) (c : Ctx), Served s dt req 0xB000 0 .write c s1 →
    (s1.adm.state = 8 → ∃ x : State, exec (.admAbort dt req) s = .next (x.answer c Abort.ok []) ∧
      x.adm.state = 0) ∧
    (1 ≤ s1.adm.state → s1.adm.state ≤ 4 → ∃ x : State, exec (.admAbort dt req) s =
      .next (x.answer c Abort.ok []) ∧ x.adm.why = 6 ∧
      x.adm.state = (if s1.adm.written then 6 else 7))) ∧
  (∀ (dt : Nat) (s : State), s.adm.state = 2 → s.adm.lastFrame + 16 ≤ s.frame.number →
    exec (.admStall dt) s = .next ((s.begin dt).admFail 3)) ∧
  (∀ (dt : Nat) (s : State), s.adm.state = 6 → s.power.admitted.getLsbD 3 = true →
    ∃ t, exec (.admFettleDone dt) s = .next t ∧ t.adm.state = 7 ∧ t.adm.reason = s.adm.why ∧
      ∀ x ∈ s.adm.regions, ∀ a, stackAddr x.1 x.2.1 ≤ a → a < stackAddr x.1 x.2.1 + x.2.2 →
        Mem.read t.dram a = 0) ∧
  (∀ (dt sum bytes records : Nat) (ok : Bool) (s : State), s.adm.state = 8 →
    ∃ t, exec (.admServeDone dt ok sum bytes records) s = .next t ∧ t.adm.state = 0 ∧ t.adm.bytes = bytes ∧
      t.adm.records = records ∧ t.emitted = s.admLinks.map fun p =>
        ⟨.admStream, p, streamOctets 0x3F records (le 8 sum ++ le 8 (bit (!ok)) ++ le 8 bytes)⟩)

/-- The stream of an admission (R456, R457): ADM_OPEN of this pair opens it; a core's image goes to its
logical core, a region's octets to their destination, and a record whose CRC fails is only counted; ADM_END
names the reduction whose sum, equal to the seal over every record, verifies the stream. -/
def Obligations.AdmissionStream : Prop :=
  (∀ (dt die : Nat) (m : List Byte) (s : State) (r : StreamRec), streamRec m = some r → s.adm.state = 2 →
    r.type = 0x3E → die < 16 → r.crcOk = true → fieldLe r.payload 0 8 = s.adm.partner →
    fieldLe r.payload 8 8 = s.fuses.serial →
    exec (.admOpenReceive dt die m) s = .next { s.begin dt with
      adm := { s.adm with lastFrame := s.frame.number, opened := true } }) ∧
  (∀ (dt die : Nat) (m : List Byte) (s : State) (r : StreamRec), streamRec m = some r → s.adm.state = 2 →
    s.adm.opened = true → die < 16 →
    (r.crcOk = false → r.type = 0x30 ∨ r.type = 0x31 → ∃ x : State,
      exec (.admRecordReceive dt die m) s = .next (x.logged Code.admRecordCrc (be 1 die)) ∧
      x.adm.crcErrors = inc32 s.adm.crcErrors ∧ x.adm.records = s.adm.records ∧ x.dram = s.dram) ∧
    (r.crcOk = true → r.type = 0x30 → ∀ uid, s.logicalUid r.sub = some uid → ∃ t,
      exec (.admRecordReceive dt die m) s = .next t ∧ t.emitted = [⟨.admStream, 65536 + uid, r.payload⟩] ∧
      t.adm.records = inc32 s.adm.records ∧ t.adm.bytes = add64 s.adm.bytes r.payload.length) ∧
    (r.crcOk = true → r.type = 0x31 → r.sub < 16384 →
      s.destBad (fieldLe r.payload 0 8) (r.payload.drop 8).length = false → ∃ t,
      exec (.admRecordReceive dt die m) s = .next t ∧ t.adm.records = inc32 s.adm.records ∧
      t.dram = Mem.writeBytes s.dram (stackAddr (r.sub % 16) (fieldLe r.payload 0 8)) (r.payload.drop 8) ∧
      ∀ a, a < stackAddr (r.sub % 16) (fieldLe r.payload 0 8) ∨
          stackAddr (r.sub % 16) (fieldLe r.payload 0 8) + (r.payload.drop 8).length ≤ a →
        Mem.read t.dram a = Mem.read s.dram a)) ∧
  (∀ (dt : Nat) (m : List Byte) (s : State) (r : StreamRec), streamRec m = some r → s.adm.state = 2 →
    s.adm.opened = true → r.type = 0x3F → r.crcOk = true →
    ∃ x : State, exec (.admEndReceive dt m) s =
        .next (if fieldLe r.payload 8 8 ≠ 0 then x.admFail 3 else
          State.admWave { x with adm := { x.adm with state := 3 } } false) ∧
      x.adm.sealWanted = fieldLe r.payload 0 8 ∧ x.adm.endCount = r.sub ∧ x.adm.state = 2) ∧
  (∀ (dt sum w : Nat) (s : State), s.adm.state = 3 → s.adm.wave = some w → w + 768 ≤ (s.begin dt).pns →
    ∃ x : State, x.adm = { s.adm with sealGot := sum % 2 ^ 64, wave := none } ∧
      exec (.admSealResult dt sum) s = .next (
        if s.adm.crcErrors ≠ 0 ∨ s.adm.endCount ≠ s.adm.records then x.admFail 4
        else if sum % 2 ^ 64 = s.adm.sealWanted then
          State.logged { x with adm := { x.adm with state := 4 } } Code.admVerified (be 4 s.adm.records)
        else if s.adm.second then x.admFail 5 else x.admWave true))

/-! ## Chapters 10, 11 and 12 -/

/-- Background jobs (R565–R567): at slot 2 a new period begins, with the hub's credit and no job of the last
one; from slot 3 on a job without work ends. -/
def Obligations.BackgroundJobs : Prop :=
  (∀ (dt : Nat) (s : State), (s.begin dt).inSlot 2 = true → s.power.periodStart ≠ s.slotTwo →
    ∃ t, exec (.jobAdmission dt) s = .next t ∧ t.power.periodStart = s.slotTwo ∧
      (∀ j, j < 4 → s.jobPending j = false → t.power.admitted.getLsbD j = false) ∧
      ((∀ j, j < 4 → s.jobPending j = false) →
        t.power.credit = (((10 * s.power.hubCap - 65) * s.frame.lenNs * 16 : Nat) : Int))) ∧
  (∀ (dt slot : Nat) (s : State), 3 ≤ slot → slot ≤ 14 → (s.begin dt).inSlot slot = true →
    s.power.periodStart = s.slotTwo →
    ∃ t, exec (.slotJobCheck dt slot) s = .next t ∧ t.power.periodStart = s.power.periodStart ∧
      ∀ j, j < 4 → s.jobPending j = false → t.power.admitted.getLsbD j = false)

/-- Sampling and its answers (R471, R476, R479, R483, R486): slot 3 adds R × L to the credit, at most twice
that; a capture that agrees ends the sample, one that differs asks for a second computation; one that does not
come frees its slot; a bar passes or fails its self-check; a storm ends after 1,024 frames without an SDC. -/
def Obligations.Sampling : Prop :=
  (∀ (dt slot : Nat) (s : State), 3 ≤ slot → slot ≤ 14 → (s.begin dt).slotBegun slot = true →
    s.bar.slotDone < s.frame.number * 16 + slot →
    ∃ x : State, exec (.samplingSlot dt slot) s = .next (if bitOf (x.feedSweep 70000).power.grantedSlots slot &&
        (x.feedSweep 70000).ordersAllowed then (x.feedSweep 70000).sampleSlot slot else x.feedSweep 70000) ∧
      x.bar.slotDone = s.frame.number * 16 + slot ∧
      x.bar.credit = (if slot = 3 then (if 2 * s.frameCredit < s.bar.credit + s.frameCredit
        then 2 * s.frameCredit else s.bar.credit + s.frameCredit) else s.bar.credit)) ∧
  (∀ (dt : Nat) (m : CaptureMsg) (s : State) (o : BarOrder),
    (s.bar.orders.find? fun o => o.bar = m.bar && o.slot = m.slot) = some o →
    (Capture.ofOctets m.header m.body = none → ∃ x : State, exec (.captureReceive dt m) s = .next
        (((x.logged Code.tbCaptureCrc (be 2 o.uid ++ be 1 o.engine)).notCompared o 6).feedSweep 70000) ∧
      x.bar.orders = s.bar.orders.filter fun o => !(o.bar = m.bar && o.slot = m.slot)) ∧
    (∀ c, Capture.ofOctets m.header m.body = some c → c.orderId = o.orderId → c.status = 0 → c.format ≤ 8 →
      s.barState m.bar = 0 → ∃ x : State, x.bar.compared = add64 s.bar.compared 1 ∧
        x.bar.rechecks = s.bar.rechecks ∧
        exec (.captureReceive dt m) s = .next ((if c.compute m.upset = c.cOut then x
          else x.startRecheck (s.atCapture o c) c (c.compute m.upset)).feedSweep 70000))) ∧
  (∀ (dt bar slot : Nat) (s : State) (o : BarOrder),
    (s.bar.orders.find? fun o => o.bar = bar && o.slot = slot) = some o → o.deadline + 20000 ≤ (s.begin dt).pns →
    ∃ x : State, exec (.captureTimeout dt bar slot) s = .next ((x.notCompared o 6).feedSweep 70000) ∧
      x.bar.orders = s.bar.orders.filter fun o => !(o.bar = bar && o.slot = slot)) ∧
  (∀ (dt bar : Nat) (s : State), bar < 2 → s.barState bar = 1 →
    (∃ t, exec (.barSelfCheckDone dt bar true) s = .next t ∧ t.barState bar = 0) ∧
    ((∀ r ∈ s.bar.rechecks, r.secondBar ≠ bar) → ∃ t, exec (.barSelfCheckDone dt bar false) s = .next t ∧
      t.barState bar = 2 ∧ t.bar.events = s.bar.events)) ∧
  (∀ (dt : Nat) (s : State), s.bar.storm = true → s.bar.lastSdc + 1024 ≤ s.frame.number →
    exec (.sdcStormClear dt) s = .next { s.begin dt with bar := { s.bar with storm := false } })

/-- The second computation decides (R482–R484): the same result twice quarantines the engine and is an SDC;
C_OUT itself is a fault of the first bar, which checks itself; anything else is inconclusive, and both bars
check themselves. -/
def Obligations.SecondComputation : Prop :=
  (∀ (dt bar : Nat) (upset : List (Nat × Nat)) (s : State) (r : Recheck),
    (s.bar.rechecks.find? fun r => r.ready bar) = some r → s.barState bar = 0 →
    ∃ x : State, exec (.barComputeDone dt bar upset) s =
        .next ((x.decideMismatch r (r.capture.compute upset)).feedSweep 70000) ∧
      x.bar.rechecks = s.bar.rechecks.erase r ∧ Changes [.elapsed, .emitted, .bar] s x) ∧
  (∀ (s : State) (r : Recheck) (second : List Nat), s.eventSeqs.ready = true → s.bar.eventsWaiting = [] →
    (second = r.first → s.bar.storm = false →
      (s.bar.quarantinedAt.filter fun t => decide (s.frame.number < t + 1024)).length < 8 →
      (s.decideMismatch r second).bar.quarantine =
        setBit s.bar.quarantine (engineNumber r.order.uid r.order.engine) true ∧
      ((s.decideMismatch r second).bar.events.getLast?.map BarEvent.kind) =
        some (if r.order.inject then 2 else 1)) ∧
    (second ≠ r.first → second = r.capture.cOut →
      (s.decideMismatch r second).bar.quarantine = s.bar.quarantine ∧
      (s.decideMismatch r second).barState r.order.bar = 1 ∧
      ((s.decideMismatch r second).bar.events.getLast?.map BarEvent.kind) = some 3) ∧
    (second ≠ r.first → second ≠ r.capture.cOut →
      (s.decideMismatch r second).bar.quarantine = s.bar.quarantine ∧
      (s.barState 0 = 0 → (s.decideMismatch r second).barState 0 = 1) ∧
      (s.barState 1 = 0 → (s.decideMismatch r second).barState 1 = 1) ∧
      ((s.decideMismatch r second).bar.events.getLast?.map BarEvent.kind) = some 4))

/-- Events, quarantine and probe kernels (R485, R487, R491–R494): an event held is let go by its number, an
engine's bit is cleared by its index; a kernel that keeps the layout and the limits is held; a run starts on a
held kernel while none is in progress, and each op that agrees takes it one further. -/
def Obligations.EventsAndProbes : Prop :=
  (∀ (dt seq : Nat) (req : Req) (s s1 : State) (c : Ctx), Served s dt req 0x6010 3 .write c s1 →
    ((∃ e ∈ s1.bar.events, e.seq = seq) → ∃ x : State, exec (.tbEventAck dt req seq) s =
        .next (x.answer c Abort.ok []) ∧ x.bar.events = s1.bar.events.filter fun e => e.seq ≠ seq) ∧
    ((∀ e ∈ s1.bar.events, e.seq ≠ seq) →
      exec (.tbEventAck dt req seq) s = .next (s1.answer c Abort.imageUnknown []))) ∧
  (∀ (dt k : Nat) (req : Req) (s s1 : State) (c : Ctx), Served s dt req 0x6011 1 .write c s1 →
    (k < 69632 → ∃ x : State, exec (.tbQuarantineClear dt req k) s = .next (x.answer c Abort.ok []) ∧
      x.bar.quarantine = setBit s1.bar.quarantine k false) ∧
    (69632 ≤ k → exec (.tbQuarantineClear dt req k) s = .next (s1.answer c Abort.valueRange []))) ∧
  (∀ (dt : Nat) (b : List Byte) (req : Req) (s s1 : State) (c : Ctx), Served s dt req 0x6020 0 .blkWrite c s1 →
    (262144 < b.length → exec (.tbProbeLoad dt req b) s = .next (s1.answer c Abort.tooLarge [])) ∧
    (b.length ≤ 262144 → (⟨fieldBe b 8 4, b⟩ : Kernel).ok = false →
      exec (.tbProbeLoad dt req b) s = .next (s1.answer c Abort.valueRange [])) ∧
    (b.length ≤ 262144 → (⟨fieldBe b 8 4, b⟩ : Kernel).ok = true →
      (s1.bar.kernels.filter fun x => x.id ≠ fieldBe b 8 4).length < 4 →
      ((s1.bar.kernels.filter fun x => x.id ≠ fieldBe b 8 4).map fun x => x.bytes.length).sum + b.length ≤ 524288 →
      ∃ x : State, exec (.tbProbeLoad dt req b) s = .next (x.answer c Abort.ok []) ∧
        x.kernel (fieldBe b 8 4) = some ⟨fieldBe b 8 4, b⟩)) ∧
  (∀ (dt id uid e : Nat) (req : Req) (s s1 : State) (c : Ctx), Served s dt req 0x6021 0 .write c s1 →
    (s1.kernel id = none → exec (.probeRunBar dt req id uid e) s = .next (s1.answer c Abort.imageUnknown []) ∧
      exec (.probeRunEngine dt req id uid e) s = .next (s1.answer c Abort.imageUnknown [])) ∧
    ∀ k, s1.kernel id = some k → s1.bar.run = none →
      (∃ (x : State) (r : ProbeRun), exec (.probeRunBar dt req id uid e) s = .next (x.answer c Abort.ok []) ∧
        x.bar.run = some r ∧ r.kernel = id ∧ r.status = 4 ∧ r.onEngine = false ∧ r.seq = s1.bar.runSeq + 1) ∧
      (uidIsCore uid = true → uidPresent uid = true → e < 4 →
        ∃ (x : State) (r : ProbeRun), exec (.probeRunEngine dt req id uid e) s = .next (x.answer c Abort.ok []) ∧
          x.bar.run = some r ∧ r.kernel = id ∧ r.status = 4 ∧ r.onEngine = true ∧ r.uid = uid ∧ r.engine = e)) ∧
  (∀ (dt : Nat) (h : List Byte) (res : List Nat) (up : List (Nat × Nat)) (s : State) (r : ProbeRun) (k : Kernel),
    s.bar.run = some r → s.kernel r.kernel = some k → r.status = 4 →
    (r.onEngine = false → k.expected r.opsRun (k.compute r.opsRun r.prevBar up) = true → r.opsRun + 1 ≠ k.ops →
      ∃ t r', exec (.probeOpDone dt h res up) s = .next t ∧ t.bar.run = some r' ∧ r'.status = 4 ∧
        r'.opsRun = r.opsRun + 1 ∧ r'.prevBar = k.compute r.opsRun r.prevBar up) ∧
    (r.onEngine = true → h.length = 64 → fieldLe h 2 1 = 0 → res ≠ k.compute r.opsRun r.prevBar up →
      ∃ (x : State) (c : Capture) (o : BarOrder) (r' : ProbeRun), exec (.probeOpDone dt h res up) s =
          .next (x.startRecheck o c (k.compute r.opsRun r.prevBar up)) ∧
        o.inject = true ∧ o.uid = r.uid ∧ o.engine = r.engine ∧ x.bar.run = some r' ∧ r'.status = 1 ∧
        r'.opsRun = r.opsRun + 1))

/-- Trace lines, the switch and stalls (R504, R526, R529, R538): an open sink stores a line at its write
offset, a frozen one holds it, and the rest of the stacks stays as it is; the switch is cast once every runner
has written; a stall of 20 µs drops packets and is counted. -/
def Obligations.TraceLines : Prop :=
  (∀ (dt die : Nat) (l : List Byte) (s : State), die < 16 → l.length = 64 → s.sinkWorks die = true →
    ((s.sink die).frozen = true → exec (.traceLineReceive dt die l) s =
      .next ((s.begin dt).modSink die fun k => { k with heldLines := k.heldLines ++ [l] })) ∧
    ((s.sink die).frozen = false → (s.sink die).full = false → bitOf (fieldLe l 6 1) 1 = false →
      bitOf (fieldLe l 6 1) 2 = false →
      (s.sink die).writeOffset + 64 < s.trace.size →
      ∃ t, exec (.traceLineReceive dt die l) s = .next t ∧
        t.dram = Mem.writeBytes s.dram (stackAddr die (s.trace.base + (s.sink die).writeOffset)) l ∧
        ∀ a, a < stackAddr die (s.trace.base + (s.sink die).writeOffset) ∨
            stackAddr die (s.trace.base + (s.sink die).writeOffset) + 64 ≤ a →
          Mem.read t.dram a = Mem.read s.dram a)) ∧
  (∀ (dt : Nat) (s : State), (s.begin dt).traceSwitchReady = true →
    exec (.traceSwitchIssue dt) s = .next ((s.begin dt).traceSwitch s.trace.changed)) ∧
  (∀ (dt core : Nat) (s : State), uidIsCore core = true → uidPresent core = true →
    bitOf (s.traceCtrlOf (uidCluster core) (uidSlot core)) 0 = true →
    bitOf (s.traceCtrlOf (uidCluster core) (uidSlot core)) 2 = true →
    (s.tap (uidCluster core)).dropping.getLsbD (uidSlot core) = false →
    ∃ t, exec (.traceStallTimeout dt core) s = .next t ∧ t.trace.stallTimeouts = inc32 s.trace.stallTimeouts ∧
      (t.tap (uidCluster core)).dropping.getLsbD (uidSlot core) = true)

/-- The board regulators (R86, R548–R550): a word read goes into its rail's record and the sweep goes on; a failed
transaction is repeated once, and the second failure is a NAK, logged; one that was cut off does not end, and is issued
again; an alert sets RAIL_FAULT. -/
def Obligations.RegulatorSweep : Prop :=
  (∀ (dt : Nat) (w : PmbusWord) (s : State), s.power.pmbReissue = true →
    exec (.pmbusTransactionDone dt w) s = .next (s.begin dt) ∧
    ∀ k c, s.pmbNext = some (k, c) → s.pins.jtagOwns = false → s.pmbAgain.power.pmbReissue = false ∧
      s.pmbAgain.emitted = s.emitted ++ [⟨.pmbus, (s.rail k).address, be 1 (s.rail k).page ++ be 1 c⟩]) ∧
  (∀ (dt : Nat) (w : PmbusWord) (s : State), (s.begin dt).pmbNext = some (w.rail, w.command) →
    s.power.pmbReissue = false → s.pins.jtagOwns = false →
    (w.ok = true → (if s.findPlace 48 s.power.sweepRail = s.power.sweepRail then s.power.sweepCommand else 0) + 1 ≠
        (s.sweepCommands (s.findPlace 48 s.power.sweepRail)).length →
      ∃ x : State, exec (.pmbusTransactionDone dt w) s = .next x.pmbIssue ∧
        x.power.rails = Tab.mod s.power.rails w.rail Rail.fresh (fun r => r.take w.command w.word) ∧
        x.power.sweepRail = s.findPlace 48 s.power.sweepRail ∧
        x.power.sweepCommand =
          (if s.findPlace 48 s.power.sweepRail = s.power.sweepRail then s.power.sweepCommand else 0) + 1) ∧
    (w.ok = false → (s.rail w.rail).retried = false →
      ∃ x : State, exec (.pmbusTransactionDone dt w) s = .next x.pmbIssue ∧
        x.power.rails = Tab.mod s.power.rails w.rail Rail.fresh (fun r => { r with retried := true })) ∧
    (w.ok = false → (s.rail w.rail).retried = true →
      ∃ x : State, exec (.pmbusTransactionDone dt w) s =
          .next (((x.logged Code.pmbusNak (be 1 (x.rail w.rail).address)).leavePlace
            (s.findPlace 48 s.power.sweepRail)).pmbIssue) ∧
        x.power.rails = Tab.mod s.power.rails w.rail Rail.fresh
          (fun r => { r with retried := false, nak := true, status := 2 }))) ∧
  (∀ (dt addr st : Nat) (s : State), ∃ x : State, exec (.pmbAlert dt addr st) s =
      .next (x.told Code.railFault (be 1 addr ++ be 2 st)) ∧ x.power.railFault = true ∧
    x.power.cause.getLsbD 4 = true)

/-! ## Chapter 13 -/

/-- Resets (R574–R578, R582, R605, R606): POR keeps the backup domain, the fuses, what the flash holds and the
stacks' octets outside the trace buffers; its release counts one reset and starts the sequence before D0; RESET_N
keeps D0, D1, the active TBU and the backup record, counts one reset and goes back to D2, and its end resets the
flash, which is not read for 40 µs, before a PMBus STOP (R606, R610); a short low is only counted; while a test
instruction owns the pins, RESET_N does nothing (R740). -/
def Obligations.Resets : Prop :=
  (∀ (dt : Nat) (s : State), s.rst.porAsserted = false → ∃ t, exec (.porAssert dt) s = .next t ∧
    t.rst.porAsserted = true ∧ t.backup = s.backup ∧ t.fuses = s.fuses ∧
    (∀ a, s.inBuffers a = false → Mem.read t.dram a = Mem.read s.dram a) ∧
    t.flash = s.flash.cut ∧ t.pending = s.pending ∧ t.topo.rows = s.topo.rows ∧ t.lc.storeA = s.lc.storeA ∧
    t.pins.quenchHigh = s.pins.quenchHigh ∧ t.port = Port.fresh ∧ t.hub = Hub.fresh ∧ t.sched = [] ∧
    t.units = Units.fresh) ∧
  (∀ (dt : Nat) (s : State), s.rst.porAsserted = true → ∃ t, exec (.porRelease dt) s = .next t ∧
    t.rst.porAsserted = false ∧ t.rst.phase = 0 ∧ t.rst.released = 0 ∧ t.backup.valid = true ∧
    t.rst.times.getD 10 (s.elapsed + dt) = s.elapsed + dt ∧
    ((s.begin dt).backupLost = false → s.rst.counted = false →
      t.backup.resetCount = inc32 s.backup.resetCount ∧ t.backup.nodeId = s.backup.nodeId ∧
      t.backup.cause = 1 + 2 * bit (s.rst.resetNLow || s.rst.overlapPin)) ∧
    ((s.begin dt).backupLost = false → s.rst.counted = true → t.backup.resetCount = s.backup.resetCount ∧
      t.backup.cause = 3) ∧
    ((s.begin dt).backupLost = true → t.backup.resetCount = 1 ∧ t.backup.nodeId = 0 ∧ t.backup.fill = 1 ∧
      t.backup.lastWords = List.replicate 64 0)) ∧
  (∀ (dt : Nat) (s : State), s.rst.resetNLow = false → s.pins.jtagOwns = false → s.rst.porAsserted = false →
    ∃ t, exec (.warmReset dt) s = .next t ∧ t.rst.resetNLow = true ∧
      t.backup.cause = 2 ∧ t.backup.resetCount = inc32 s.backup.resetCount ∧
      (s.rst.phase < 2 → t.rst.phase = s.rst.phase) ∧
      (2 ≤ s.rst.phase → s.rst.phase ≠ 4 → t.rst.phase = 2 ∧ t.tb.active = s.tb.active ∧ t.fuses = s.fuses ∧
        (∀ a, s.inBuffers a = false → Mem.read t.dram a = Mem.read s.dram a) ∧ t.backup.nodeId = s.backup.nodeId ∧
        t.bar.quarantine = s.bar.quarantine ∧
        t.port.sessions = [] ∧ t.units.ports = [] ∧ t.fm.fenceState = s.fm.fenceState ∧
        t.hub.riserOwns = s.hub.riserOwns)) ∧
  (∀ (dt : Nat) (s : State), s.rst.resetNLow = false → s.pins.jtagOwns = false → s.rst.porAsserted = false →
    exec (.resetNShort dt) s = .next { s.begin dt with
      rst := { s.rst with resetIgnored := inc32 s.rst.resetIgnored } }) ∧
  (∀ (dt : Nat) (s : State), s.rst.resetNLow = true → ∃ t, exec (.warmResetRelease dt) s = .next t ∧
    t.rst.resetNLow = false ∧
    t.rst.loading = (s.rst.loading || (!s.rst.porAsserted && s.rst.phase = 4 && !s.rst.optionsDone)) ∧
    (s.rst.porAsserted = true → t.flash = s.flash ∧ t.emitted = []) ∧
    (s.rst.porAsserted = false →
      t.flash = { s.flash with
        selectHigh := s.elapsed + dt + 100 * Config.stepsPerNs
        readyAt := s.elapsed + dt + 100 * Config.stepsPerNs + 40000 * Config.stepsPerNs } ∧
      t.emitted = [⟨.flashCommand, 0, be 1 0x66⟩, ⟨.flashCommand, 0, be 1 0x99⟩, ⟨.pmbusStop, 0, []⟩]) ∧
    Changes [.elapsed, .emitted, .rst, .flash] s t) ∧
  (∀ (dt : Nat) (s : State), s.pins.jtagOwns = true →
    exec (.warmReset dt) s = .next (s.begin dt) ∧ exec (.resetNShort dt) s = .next (s.begin dt))

/-- The release sequence (R583, R585, R586, R588, R590): a domain is released when its gap has elapsed and its
clock has held, D8 in waves; a clock lost before D9 puts its domain and every later one back, one lost in
service only that die's. -/
def Obligations.ReleaseSequence : Prop :=
  (∀ (dt n : Nat) (s : State), n < 10 → n ≠ 8 → (s.begin dt).mayRelease n = true →
    (s.begin dt).gapOver n = true → (s.begin dt).clockAged n = true →
    ∃ t, exec (.domainRelease dt n) s = .next t ∧ t.rst = { s.rst with
        released := setBit s.rst.released n true, times := setAt s.rst.times n (s.elapsed + dt), phase := n + 1
        loading := n = 3, optionsDone := s.rst.optionsDone && decide (4 ≤ n) } ∧
      (n = 2 → t.hub.hubA.proc = .selfCheck ∧ t.hub.riser.proc = .selfCheck) ∧
      (n = 3 → s.rst.lostAt ≠ 0 → t.flash.readyAt =
        s.elapsed + dt + 100 * Config.stepsPerNs + 40000 * Config.stepsPerNs) ∧
      (n = 4 → ∀ die, die < 16 → s.dieHeld die 4 = false → (t.runner die).inReset = false) ∧
      (n = 5 → t.tb.active.counting = true ∧ t.tb.standby.counting = true) ∧
      (n = 5 → s.tb.active.counting = true → t.frame = s.frame) ∧
      (n = 5 → s.tb.active.counting = false → t.pns = 0 ∧ t.frame.number = 0) ∧
      (n = 9 → s.pins.quenchHigh = true → s.fm.fenceState ≠ 0 → t.fm.fenceState = 2 ∧
        ∀ p, p < 48 → (t.optPort p).fenced = true)) ∧
  (∀ (dt w : Nat) (s : State), w < 4 → (s.begin dt).mayRelease 8 = true → s.rst.d8Waves = w →
    (if w = 0 then (s.begin dt).gapOver 8 && (s.begin dt).clockAged 8
      else decide (s.rst.times.getD 8 0 + cycles (Nat.max 16384 (s.gapOf 8)) ≤ s.elapsed + dt)) = true →
    ∃ t, exec (.d8Wave dt w) s = .next t ∧ t.rst.d8Waves = w + 1 ∧ t.rst.phase = (if w = 3 then 9 else 8) ∧
      ∀ die, die < 16 → s.dieHeld die 8 = false → (t.tap (die * 8 + w)).inReset = false ∧
        (t.tap (die * 8 + w + 4)).inReset = false) ∧
  (∀ (dt d die : Nat) (s : State), s.rst.porAsserted = false → s.rst.phase < 10 → 1 ≤ d →
    s.rst.released.getLsbD d = true → s.dieHeld die d = false →
    ∃ x : State, exec (.clockLost dt d die) s = .next (x.logged Code.clockLost (be 1 d ++ be 1 die)) ∧
      x.rst = { s.rst.backTo d with clockLostCount := inc32 s.rst.clockLostCount, lostAt := s.elapsed + dt } ∧
      x.backup = s.backup ∧ x.dram = s.dram) ∧
  (∀ (dt d die : Nat) (s : State), s.rst.phase = 10 → dieClock d die = true → s.dieHeld die d = false →
    ∃ x : State, exec (.clockLostInService dt d die) s = .next (x.logged Code.clockLost (be 1 d ++ be 1 die)) ∧
      x.rst.phase = 10 ∧ x.rst.lostAt = s.elapsed + dt ∧
      (d = 4 → x.health (runnerUid die) = 2 ∧
        (Tab.sortedFrom 0 s.units.runners = true → (x.runner die).inReset = true)))

/-- Lost clocks and self-checks (R587, R590, R591, R609): a die whose clock is late is lost from that domain on
and the domain is released elsewhere; a core that passes runs its boot ROM, one that fails hands the pins to the
other, and both failing hold the sequence; STORM_RELEASE empties the ring and lifts the hold. -/
def Obligations.HoldsAndLosses : Prop :=
  (∀ (dt n die : Nat) (s : State), n ≠ 2 → n ≠ 3 → n ≠ 5 → n ≠ 8 → dieClock n die = true →
    s.dieHeld die n = false → (s.begin dt).mayRelease n = true → (s.begin dt).clockLate n = true →
    ∃ x : State, exec (.clockTimeout dt n die) s =
        .next ((x.logged Code.clockTimeout (be 1 die)).releaseDomain n) ∧
      x.rst = { s.rst with lostDies := setBit s.rst.lostDies die true, lostFrom := Tab.put s.rst.lostFrom die n }) ∧
  (∀ (dt core : Nat) (s : State), (s.hub.core core).proc = .selfCheck →
    (∃ t, exec (.selfCheckDone dt core true) s = .next t ∧ (t.hub.core core).proc = .bootRom ∧
      (t.hub.core core).selfCheckPassed = some true) ∧
    (core < 2 → (s.hub.core (1 - core)).proc = .failed →
      ∃ t, exec (.selfCheckDone dt core false) s = .next t ∧ t.rst.holdReason = 3 ∧
        t.hub.riserOwns = s.hub.riserOwns ∧ (t.hub.core core).proc = .failed) ∧
    (core < 2 → (s.hub.core (1 - core)).proc ≠ .failed → s.owner = core →
      ∃ t, exec (.selfCheckDone dt core false) s = .next t ∧ t.rst = s.rst ∧
        t.owner = 1 - core ∧ t.activeCore = 1 - core ∧ (t.hub.core core).proc = .failed)) ∧
  (∀ (dt v : Nat) (req : Req) (s s1 : State) (c : Ctx), Served s dt req 0x3020 1 .write c s1 →
    (v ≠ 1 → exec (.stormRelease dt req v) s = .next (s1.answer c Abort.valueRange [])) ∧
    (v = 1 → s1.rst.holdReason ≠ 1 → exec (.stormRelease dt req v) s = .next (s1.answer c Abort.busy [])) ∧
    (v = 1 → s1.rst.holdReason = 1 → ∃ x : State, exec (.stormRelease dt req v) s =
        .next ((x.logged Code.stormReleased []).answer c Abort.ok []) ∧
      x.rst = { s1.rst with holdReason := 0 } ∧ x.backup.fill = 0 ∧ x.backup.resetCount = s1.backup.resetCount))

/-! ## Option loading, firmware, ring ends, chill and lifecycle -/

/-- Option loading and the flash writes (R598, R599, R601, R602, R604, R607, R745): D3 ends with its results in
effect together; with no valid copy every RWP object is at its default; a write that reads back is the copy in
use, one that does not is made again; none of the three ends while the flash is not free (R86, R606, R740). -/
def Obligations.OptionLoading : Prop :=
  (∀ (dt : Nat) (r : OptionRead) (s : State), s.rst.loading = true → s.rst.resetNLow = false →
    (s.begin dt).flashFree = true → s.rst.times.getD 3 0 + loadLeastNs r * Config.stepsPerNs ≤ s.elapsed + dt →
    ∃ t, exec (.optionLoadingEnd dt r) s = .next t ∧ t.rst.loading = false ∧ t.rst.fromPor = false ∧
      t.rst.optionsDone = decide (t.rst.holdReason ≠ 2) ∧ t.rst.gapsNow = t.rst.gaps ∧
      t.backup.gaps = t.rst.gaps ∧ t.rst.stormRecent = t.backup.recent ∧
      (s.flash.option0.valid = false → s.flash.option1.valid = false →
        t.rst.strapCode = strapCodeOf r ∧ t.rst.strapAmbiguous = strapUnclear r ∧
        t.rst.roleBit = (if s.rst.fromPor then bitOf (strapCodeOf r) 3 else s.rst.roleBit) ∧
        t.rst.tickSourceBit = (if s.rst.fromPor then bitOf (strapCodeOf r) 0 else s.rst.tickSourceBit) ∧
        t.rst.gaps = List.replicate 10 4096 ∧ t.rst.stormLimit = 16 ∧ t.lc.mgrKeys = List.replicate 5 [] ∧
        t.pod.gmPriority = 128 ∧ (r.fuseBad = true → t.rst.holdReason = 2) ∧
        (r.fuseBad = false → s.rst.holdReason = 0 → t.rst.holdReason = bit (decide (16 < t.backup.recent))) ∧
        (s.flash.persist0.valid = false → s.flash.persist1.valid = false →
          t.fm.fenceState = 0 ∧ t.fm.fenceSeq = 0 ∧ t.logSeq.next = 1 ∧ t.imageIds.next = 1 ∧
          t.eventSeqs.next = 1 ∧ t.logSeq.ceiling = 65537 ∧ t.imageIds.ceiling = 65))) ∧
  (∀ (dt : Nat) (r : OptionRead) (ok : Bool) (s : State), (s.begin dt).flashFree = false →
    exec (.optionLoadingEnd dt r) s = .next (s.begin dt) ∧ exec (.persistWriteDone dt ok) s = .next (s.begin dt) ∧
    exec (.optionWriteDone dt ok) s = .next (s.begin dt)) ∧
  (∀ (dt : Nat) (s : State) (p : PersistCopy), (s.begin dt).flashFree = true →
    s.flash.persistWriting = some p → s.flash.persistDirty = false →
    s.log.waiting = [] → s.bar.eventsWaiting = [] →
    (∃ x : State, exec (.persistWriteDone dt true) s = .next x.startWaiting ∧ x.flash.persistNow = p ∧
      x.flash.persistWriting = none ∧ x.logSeq = { s.logSeq with persisted := p.logCeil } ∧
      x.imageIds = { s.imageIds with persisted := p.imageCeil } ∧
      x.eventSeqs = { s.eventSeqs with persisted := p.eventCeil }) ∧
    (∃ x p', exec (.persistWriteDone dt false) s = .next x ∧ x.flash.persistWriting = some p' ∧
      p'.fenceState = s.fm.fenceState ∧ p'.generation = (s.flash.persistNow.generation + 1) % 2 ^ 32 ∧
      x.flash.persistNow = s.flash.persistNow)) ∧
  (∀ (dt : Nat) (s : State) (c : OptionCopy), (s.begin dt).flashFree = true →
    s.flash.optionWriting = some c → s.flash.optionDirty = false →
    (∃ x : State, exec (.optionWriteDone dt true) s = .next x ∧ x.flash.optionNow = c ∧
      x.flash.optionWriting = none) ∧
    (∃ x c', exec (.optionWriteDone dt false) s = .next x ∧ x.flash.optionWriting = some c' ∧
      x.flash.optionNow = s.flash.optionNow ∧
      c'.generation = (s.flash.optionNow.generation + 1) % 2 ^ 32))

/-- Firmware (R592, R593, R655–R659, R685, R686): the boot ROM takes its slot, else the other, else none; an
update is stored and tested; APPLY restarts the standby; each later step of the update follows the one before. -/
def Obligations.FirmwareUpdate : Prop :=
  (∀ (dt core : Nat) (s : State), (s.begin dt).canBoot core = true →
    (s.imageFails (s.flash.slot (s.bootSlotOf core)) = none →
      ∃ t, exec (.fwBoot dt core) s = .next t ∧ (t.hub.core core).proc = .running ∧
        (t.hub.core core).fwSlot = s.bootSlotOf core ∧
        (t.hub.core core).fwVersion = fieldLe (s.flash.slot (s.bootSlotOf core)) 8 4) ∧
    ((s.imageFails (s.flash.slot (s.bootSlotOf core))).isSome = true →
      s.imageFails (s.flash.slot (1 - s.bootSlotOf core)) = none →
      ∃ x : State, exec (.fwBoot dt core) s = .next (x.logged Code.bootFallback (be 1 (1 - s.bootSlotOf core))) ∧
        (x.hub.core core).proc = .running ∧ (x.hub.core core).fwSlot = 1 - s.bootSlotOf core) ∧
    ((s.imageFails (s.flash.slot (s.bootSlotOf core))).isSome = true →
      (s.imageFails (s.flash.slot (1 - s.bootSlotOf core))).isSome = true →
      ∃ x : State, exec (.fwBoot dt core) s = .next (x.logged Code.bootNoImage []) ∧
        (x.hub.core core).noImage = true ∧ (x.hub.core core).proc = (s.hub.core core).proc)) ∧
  (∀ (dt : Nat) (b : List Byte) (req : Req) (s s1 : State) (c : Ctx), Served s dt req 0xA030 0 .blkWrite c s1 →
    (0x100000 < b.length → exec (.fwUpdate dt req b) s = .next (s1.answer c Abort.tooLarge [])) ∧
    (b.length ≤ 0x100000 → s1.updating = true → exec (.fwUpdate dt req b) s = .next (s1.answer c Abort.busy [])) ∧
    (b.length ≤ 0x100000 → s1.updating = false → ∀ code, s1.imageFails b = some code →
      ∃ x : State, exec (.fwUpdate dt req b) s = .next (x.answer c code []) ∧ x.fw.state = 7 ∧
        x.flash.slot s1.updateSlot = b ∧ x.flash.slot (1 - s1.updateSlot) = s1.flash.slot (1 - s1.updateSlot)) ∧
    (b.length ≤ 0x100000 → s1.updating = false → s1.imageFails b = none →
      ∃ x : State, exec (.fwUpdate dt req b) s = .next (x.answer c Abort.ok []) ∧ x.fw.state = 2 ∧
        x.fw.stagedVersion = fieldLe b 8 4 ∧ x.fw.newSlot = s1.updateSlot ∧ x.flash.slot s1.updateSlot = b)) ∧
  (∀ (dt v : Nat) (req : Req) (s s1 : State) (c : Ctx), Served s dt req 0xA030 2 .write c s1 →
    (v ≠ 1 → exec (.fwUpdateApply dt req v) s = .next (s1.answer c Abort.valueRange [])) ∧
    (v = 1 → s1.fwState ≠ 2 → exec (.fwUpdateApply dt req v) s = .next (s1.answer c Abort.fwNotVerified [])) ∧
    (v = 1 → s1.fwState = 2 → s1.shadowReady = false →
      exec (.fwUpdateApply dt req v) s = .next (s1.answer c Abort.standbyNotReady [])) ∧
    (v = 1 → s1.fwState = 2 → s1.shadowReady = true → s1.anyEntry [Act.roleSwap] [Stat.pending] = false →
      ∃ x : State, exec (.fwUpdateApply dt req v) s = .next (x.answer c Abort.ok []) ∧ x.fw.state = 3 ∧
        x.fw.since = s1.elapsed ∧ (x.hub.core s1.standbyCore).proc = .bootRom ∧
        (x.hub.core s1.standbyCore).wantSlot = some s1.fw.newSlot ∧
        x.hub.core s1.activeCore = s1.hub.core s1.activeCore)) ∧
  (∀ (dt n : Nat) (s : State), s.fw.state = 3 → s.shadowReady = true →
    (s.hub.core s.standbyCore).fwSlot = s.fw.newSlot → s.freeEntry = some n →
    ∃ t, exec (.fwUpdateStandbyReady dt) s = .next t ∧ t.fw.state = 4 ∧ (t.entry n).action = Act.roleSwap ∧
      (t.entry n).status = Stat.pending ∧
      (t.entry n).time = (s.begin dt).boundaryFrom ((s.begin dt).pns + 2 * s.frame.lenNs)) ∧
  (∀ (dt : Nat) (s : State), s.fw.state = 5 → s.shadowReady = true →
    (s.hub.core s.standbyCore).fwSlot = s.fw.newSlot →
    ∃ x : State, exec (.fwUpdateOldReady dt) s = .next (x.told Code.fwUpdateDone (be 4 s.fw.stagedVersion)) ∧
      x.fw = { s.fw with state := 6, bootSlot := s.fw.newSlot } ∧
      x.fuses.key0Revoked = (s.fuses.key0Revoked || s.fw.newRevoke) ∧
      x.fuses.rollback = (if s.rollbackCount < Nat.min s.fw.newRollback 64
        then 2 ^ (Nat.min s.fw.newRollback 64) - 1 else s.fuses.rollback)) ∧
  (∀ (dt : Nat) (s : State), s.fw.since + 1000000000 * Config.stepsPerNs ≤ s.elapsed + dt →
    (s.fw.state = 3 → ∃ x : State, exec (.fwUpdateTimeout dt) s = .next (x.failUpdate 1) ∧
      (x.hub.core s.standbyCore).proc = .bootRom ∧
      (x.hub.core s.standbyCore).wantSlot = some (s.hub.core s.activeCore).fwSlot) ∧
    (s.fw.state = 5 → ∃ x : State, exec (.fwUpdateTimeout dt) s = .next (x.failUpdate 2) ∧
      x.health (coreUid s.standbyCore) = 2))

/-- The ends of tap-ring transactions and chill (R25, R41, R48, R60, R66, R67, R273, R300): a good response ends its
transaction and shows the octets read, as the tap's own state has them, or NOT_STOPPED from a running slot (R39,
R41, where log entry 151 says how); a late OK response clears UNRESPONSIVE; one whose CRC does not match is asked
for once more, then ends with CRC_ERROR; no response for 50 µs ends it with TIMEOUT and the tap reads unresponsive;
chill entry stops every slot of the half's four clusters, exit runs again those that had not stood still before, and
no other half changes. -/
def Obligations.RingEndsAndChill : Prop :=
  (∀ (dt die : Nat) (words lines : List Nat) (s : State) (t : RingTxn),
    s.ringMatch die (words.headD 0) = some t →
    (ringFits t words = true → ringStatus (words.headD 0) = Rs.ok → t.write = false → ∀ uid, t.use = .peek uid →
      t.window ≠ 0x40 → securedLines t.window lines = [] → s.tapHealth (t.die * 8 + t.tap) ≠ 4 →
      ∃ (x : State) (p : PeekData), exec (.ringResponse dt die words lines) s = .next x.ringPump ∧
        x.qu.peek = some p ∧ p.uid = uid ∧
        ((s.begin dt).notStopped (t.die * 8 + t.tap) t.window t.slot = false → p.status = Rs.ok ∧
          p.data = (s.begin dt).tapData (t.die * 8 + t.tap) t.window t.offset (wordsLe (words.dropLast.drop 1))) ∧
        ((s.begin dt).notStopped (t.die * 8 + t.tap) t.window t.slot = true → p.status = Rs.notStopped ∧ p.data = []) ∧
        x.qu.peekOut = false ∧ x.units.ring = s.units.ring.filter fun u => !(u.die = t.die && u.tag = t.tag)) ∧
    (ringFits t words = true → ringStatus (words.headD 0) = Rs.notStopped →
      (s.begin dt).notStopped (t.die * 8 + t.tap) t.window t.slot = false →
      exec (.ringResponse dt die words lines) s = .next (s.begin dt)) ∧
    (ringFits t words = false → t.reissued = false →
      ∃ x : State, exec (.ringResponse dt die words lines) s = .next x ∧
        x.emitted = [⟨.ringRequest, t.die, wordsLe t.words⟩] ∧ Changes [.elapsed, .emitted, .units] s x) ∧
    (ringFits t words = false → t.reissued = true →
      exec (.ringResponse dt die words lines) s = .next (((((s.begin dt).modRunner t.die fun r =>
        { r with ringCrc := inc32 r.ringCrc }).logged Code.ringCrc
        (be 2 (tapUid (t.die * 8 + t.tap)))).ringEnds t Rs.crcError [] []).ringPump))) ∧
  (∀ (dt die c : Nat) (words lines : List Nat) (s : State), s.ringMatch die (words.headD 0) = none →
    strayOk die words = some c → s.tapHealth c = 4 → ∃ t, exec (.ringResponse dt die words lines) s = .next t ∧
      (Tab.sortedFrom 0 s.topo.health = true → t.tapHealth c = 0) ∧ Changes [.elapsed, .emitted, .topo] s t) ∧
  (∀ (dt die tag : Nat) (s : State) (t : RingTxn), ((s.ringOf die).find? fun t => t.tag = tag) = some t →
    50000 ≤ (s.begin dt).nsSince t.issued →
    ∃ x : State, exec (.ringTimeout dt die tag) s = .next ((x.ringEnds t Rs.timeout [] []).ringPump) ∧
      x.tapHealth (t.die * 8 + t.tap) = 4 ∧ Changes [.elapsed, .emitted, .topo] s x) ∧
  (∀ (dt half : Nat) (s : State), half < 32 → s.topo.chilled.getLsbD half = false →
    ∃ t, exec (.chillEntry dt half) s = .next t ∧ t.topo.chilled = setBit s.topo.chilled half true ∧
      (∀ c, c ∈ halfClusters half → (s.tap c).inReset = false → (t.tap c).coreClock = 0) ∧
      (∀ c, c ∉ halfClusters half → t.tap c = s.tap c) ∧ Changes [.elapsed, .emitted, .topo, .units] s t) ∧
  (∀ (dt half : Nat) (s : State), half < 32 → s.topo.chilled.getLsbD half = true →
    ∃ t, exec (.chillExit dt half) s = .next t ∧ t.topo.chilled = setBit s.topo.chilled half false ∧
      (∀ c, c ∈ halfClusters half → (s.tap c).inReset = false → (s.tap c).latchedStop = false →
        (s.tap c).latchedRelease = false → (t.tap c).coreClock = ~~~(s.tap c).stoppedSlots) ∧
      (∀ c, c ∈ halfClusters half → (s.tap c).inReset = false → (s.tap c).latchedStop = true →
        (s.tap c).latchedRelease = false →
        (t.tap c).coreClock = (~~~(s.tap c).stoppedSlots) &&& ~~~(s.tap c).coreSelect) ∧
      (∀ c, c ∉ halfClusters half → t.tap c = s.tap c) ∧
      Changes [.elapsed, .emitted, .topo, .units, .qu] s t)

/-- Lifecycle and debug authorization (R668–R672, R677–R680): a request that fails its checks is refused;
one that passes is answered, and then the key stores hold the new state, fettling starts and every session is
closed; the last area fettled ends it; a challenge is fresh and used once; a token is granted and ends. -/
def Obligations.LifecycleAndTokens : Prop :=
  (∀ (dt : Nat) (b : List Byte) (req : Req) (s s1 s2 : State) (c : Ctx), Served s dt req 0xA001 0 .blkWrite c s1 →
    (∀ code, s1.lcCheck c b = (s2, some code) → exec (.lcRequest dt req b) s = .next (s2.answer c code [])) ∧
    (s1.lcCheck c b = (s2, none) → ∃ x : State, exec (.lcRequest dt req b) s = .next
        (if fieldBe b 1 1 = 0 ∨ fieldBe b 1 1 = 3 then x.removeJob else x) ∧
      x.port.sessions = [] ∧ x.lc.storeA.lcState = fieldBe b 1 1 ∧
      x.lc.storeA.transitions = s1.lc.storeA.transitions + 1 ∧ x.lc.storeA.fettlePending = true ∧
      x.bar.events = [] ∧ x.bar.kernels = [] ∧ x.dump.running = none ∧ x.dump.slots = [none, none, none, none])) ∧
  (∀ (dt area : Nat) (s : State), s.lc.storeA.fettlePending = true → area < 7 →
    s.lc.fettleLeft.getLsbD area = true → s.lc.fettleFail.getLsbD area = false → area ≠ 2 →
    (∃ x : State, exec (.lcFettleDone dt area false) s = .next (x.urged Code.fettleFail (be 1 area)) ∧
      x.lc = { s.lc with fettleFail := setBit s.lc.fettleFail area true }) ∧
    (setBit s.lc.fettleLeft area false ≠ 0 → ∃ t, exec (.lcFettleDone dt area true) s = .next t ∧
      t.lc = { s.lc with fettleLeft := setBit s.lc.fettleLeft area false } ∧
      (area = 5 → ∀ a, Mem.read t.dram a = 0) ∧ (area ≠ 5 → t.dram = s.dram)) ∧
    (setBit s.lc.fettleLeft area false = 0 → ∃ x : State, exec (.lcFettleDone dt area true) s =
        .next (x.logged Code.lcFettled []).startWaiting ∧ x.lc.storeA.fettlePending = false ∧ x.lc.fettle = 0)) ∧
  (∀ (dt : Nat) (req : Req) (s s1 : State) (c : Ctx), Served s dt req 0xA010 0 .read c s1 →
    ∃ x : State, exec (.authChallenge dt req) s =
        .next (x.answerFlags c (s1.pendingFlag c.who 0xA010 0) Abort.ok s1.random16) ∧
      ∀ id, c.who = .session id → ∀ y, s1.port.session id = some y →
        x.port.session id = some { y with challenge := some s1.random16 }) ∧
  (∀ (dt : Nat) (b : List Byte) (req : Req) (s s1 s2 : State) (c : Ctx), Served s dt req 0xA011 0 .blkWrite c s1 →
    (∀ code, s1.tokenCheck c b = (s2, some code) → exec (.authToken dt req b) s = .next (s2.answer c code [])) ∧
    (s1.tokenCheck c b = (s2, none) → ∀ id, c.who = .session id → ∀ y, s2.port.session id = some y →
      ∃ x : State, exec (.authToken dt req b) s = .next
          ((x.logged Code.authGranted (be 2 (fieldBe b 2 2 % 32) ++ be 8 (fieldBe b 36 8))).answer c Abort.ok []) ∧
        x.port.session id = some { y with token := some ⟨fieldBe b 2 2 % 32, fieldBe b 36 8⟩ })) ∧
  (∀ (dt id : Nat) (s : State) (y : Session) (k : Token), s.port.session id = some y → y.token = some k →
    k.expiry ≤ (s.begin dt).pns → ∃ x : State, exec (.authEnded dt id) s =
        .next (x.logged Code.authEnded (be 2 y.id ++ be 2 k.scope)) ∧
      x.port.session id = some { y with token := none })

/-! ## Chapters 14 and 16: the management port and the dictionary -/

/-- WRITE and STAGE (R211, R212, R629, R630, R641): octets outside the value are refused; a value in range is in
force at once by WRITE, and joins the requester's change set by STAGE; a value out of range does neither. -/
def Obligations.WriteAndStage : Prop :=
  (∀ (dt idx sub off : Nat) (b : List Byte) (req : Req) (s s1 : State) (c : Ctx) (r : ObjRow),
    Served s dt req idx sub .write c s1 → objRow idx sub = some r →
    (r.rangeOk off b.length = false →
      exec (.registerWrite dt req idx sub off b) s = .next (s1.answer c Abort.badLength [])) ∧
    (r.rangeOk off b.length = true → ∀ v, s1.mergedValue c r sub off b = v → s1.ownWriteLow r sub v = none →
      s1.ownWriteHigh c r.idx sub v = none →
      (valueFits r sub v = false →
        exec (.registerWrite dt req idx sub off b) s = .next (s1.answer c Abort.valueRange [])) ∧
      (valueFits r sub v = true →
        exec (.registerWrite dt req idx sub off b) s = .next ((s1.objWrite r sub v).answer c Abort.ok [])))) ∧
  (∀ (dt idx sub off : Nat) (b : List Byte) (req : Req) (s s1 : State) (c : Ctx) (r : ObjRow),
    Served s dt req idx sub .stage c s1 → objRow idx sub = some r →
    (r.rangeOk off b.length = false →
      exec (.stage dt req idx sub off b) s = .next (s1.answer c Abort.badLength [])) ∧
    (off = 0 → b.length = r.type.size → r.rangeOk off b.length = true →
      stagedCopy (s1.changeSet c.who) idx sub = none → r.idx = idx → b.length ≤ 2048 →
      (s1.changeSet c.who).length < 1024 → setBytes (s1.changeSet c.who) + b.length ≤ 32768 →
      s1.lc.storeA.fettlePending = false →
      (valueFits r sub b = false → exec (.stage dt req idx sub off b) s =
        .next (s1.answer c Abort.valueRange [])) ∧
      (valueFits r sub b = true → ∃ x : State, exec (.stage dt req idx sub off b) s =
          .next (x.answer c Abort.ok []) ∧ x.changeSet c.who = s1.changeSet c.who ++ [⟨idx, sub, b⟩] ∧
        ∀ w, w ≠ c.who → x.changeSet w = s1.changeSet w)))

/-- COMMIT (R213–R218, R643): without a set it is refused; a set that makes one group is eligible from the next
tick on, or from the one after once the groups of this frame are fixed, and the set is gone; an indivisible set
too large for one group is refused and gone. -/
def Obligations.Commits : Prop :=
  ∀ (dt : Nat) (ind nt : Bool) (req : Req) (s s1 : State) (c : Ctx),
    (s.begin dt).admitReq req = (s1, some c) →
    (s1.changeSet c.who = [] → exec (.commit dt req ind nt) s = .next (s1.answer c Abort.noChangeSet [])) ∧
    (∀ l, splitGroups [] (s1.changeSet c.who) = [l] → ∃ (x : State) (d : List Byte),
      exec (.commit dt req ind nt) s = .next (x.answer c Abort.ok d) ∧
      x.frame.groups = s1.frame.groups ++ [⟨c.who, s1.frame.nextSetId, l,
        s1.nextNumber + bit (s1.frame.frozen || s1.slotBegun 15), true, nt⟩] ∧
      x.changeSet c.who = [] ∧ Changes [.frame] s1 x) ∧
    (1 < (splitGroups [] (s1.changeSet c.who)).length → ind = true →
      ∃ x : State, exec (.commit dt req ind nt) s = .next (x.answer c Abort.tooLarge []) ∧
        x.frame.groups = s1.frame.groups ∧ x.changeSet c.who = []) ∧
    (1 < (splitGroups [] (s1.changeSet c.who)).length → ind = false → ∃ (x : State) (d : List Byte),
      exec (.commit dt req ind nt) s = .next (x.answer c Abort.ok d) ∧
      x.frame.groups.length = s1.frame.groups.length + (splitGroups [] (s1.changeSet c.who)).length ∧
      x.changeSet c.who = [])

/-- Block transfers (R644, R645, R647): a transfer takes a place of at most four, two of one requester; its
frames fill its value (the PENDING flag in the answer to a read's opening is the model's reading, log entry 170);
a CRC that differs ends it without effect; a frame unacknowledged is sent up to 5 times
more; without a frame for 10 s it ends with TIMEOUT. -/
def Obligations.BlockTransfers : Prop :=
  (∀ (dt idx sub off len : Nat) (req : Req) (s s1 : State) (c : Ctx) (r : ObjRow),
    Served s dt req idx sub .blkWrite c s1 → objRow idx sub = some r → (idx ≠ 0xA030 ∨ s1.updating = false) →
    r.idx = idx →
    (s1.transferFits c r sub off len = false →
      exec (.blkOpen dt req idx sub 1 off len) s = .next (s1.answer c Abort.badLength [])) ∧
    (s1.transferFits c r sub off len = true → s1.blockRoom c.who = false →
      exec (.blkOpen dt req idx sub 1 off len) s = .next (s1.answer c Abort.busy [])) ∧
    (s1.transferFits c r sub off len = true → s1.blockRoom c.who = true → ∃ (x : State) (b : Block),
      exec (.blkOpen dt req idx sub 1 off len) s =
        .next (x.answer c Abort.ok (be 2 s1.newBlockId ++ zeros 2 ++ be 4 len)) ∧
      x.port.blocks = s1.port.blocks ++ [b] ∧ b.id = s1.newBlockId ∧ b.requester = c.who ∧ b.write = true ∧
      b.total = len ∧ b.offset = off ∧ b.bytes = [])) ∧
  (∀ (dt idx sub off len : Nat) (req : Req) (s s1 t : State) (c : Ctx) (r : ObjRow) (code : Nat) (value : List Byte),
    Served s dt req idx sub .blkRead c s1 → objRow idx sub = some r →
    s1.openedValue c idx sub = (t, code, value) → s1.blockRoom c.who = true →
    (code ≠ Abort.ok → exec (.blkOpen dt req idx sub 0 off len) s =
      .next ((s1.answer c code []).pumpBlock (s.begin dt).newBlockId (524320 / blkUnit + 2))) ∧
    (code = Abort.ok → off + len ≤ value.length → ∃ (x : State) (b : Block) (d : List Byte),
      exec (.blkOpen dt req idx sub 0 off len) s =
        .next ((x.answerFlags c (s1.pendingFlag c.who idx sub) Abort.ok d).pumpBlock (s.begin dt).newBlockId
          (524320 / blkUnit + 2)) ∧
      x.port.blocks = s1.port.blocks ++ [b] ∧ b.write = false ∧ b.requester = c.who ∧
      b.total = (if len = 0 then value.length - off else len) ∧ b.bytes = slice value off b.total)) ∧
  (∀ (dt id off : Nat) (d : List Byte) (req : Req) (s s1 : State) (c : Ctx),
    (s.begin dt).admitReq req = (s1, some c) →
    (s1.ownBlock c id = none → exec (.blkData dt req id off d) s = .next (s1.answer c Abort.blockUnknown [])) ∧
    ∀ b, s1.ownBlock c id = some b → b.write = true →
      (b.frameOk off d.length = false →
        exec (.blkData dt req id off d) s = .next (s1.answer c Abort.badLength [])) ∧
      (b.frameOk off d.length = true → ∃ (x : State) (b' : Block), exec (.blkData dt req id off d) s =
          .next (x.answer c Abort.ok []) ∧ x.port.block id = some b' ∧ b'.bytes = placeAt b.bytes off d ∧
        off ∈ b'.done ∧ b'.lastFrame = s1.elapsed)) ∧
  (∀ (dt id crc : Nat) (req : Req) (s s1 : State) (c : Ctx), (s.begin dt).admitReq req = (s1, some c) →
    (s1.ownBlock c id = none → exec (.blkClose dt req id crc) s = .next (s1.answer c Abort.blockUnknown [])) ∧
    ∀ b, s1.ownBlock c id = some b →
      (b.matches crc = false → exec (.blkClose dt req id crc) s =
        .next ((s1.dropBlock id).answer c Abort.blkCrc [])) ∧
      (b.matches crc = true → b.write = false → exec (.blkClose dt req id crc) s =
        .next ((s1.dropBlock id).answer c Abort.ok [])) ∧
      (b.matches crc = true → b.write = true → ∀ r, objRow b.idx b.sub = some r → b.idx ≠ 0xA001 →
        (s1.dropBlock id).objCheck c.rank b.idx b.sub .blkWrite = none → r.type = .blob → b.offset = 0 →
        exec (.blkClose dt req id crc) s =
          .next (((s1.dropBlock id).wholeWrite c r b.sub b.bytes).state.answer c
            ((s1.dropBlock id).wholeWrite c r b.sub b.bytes).code
            ((s1.dropBlock id).wholeWrite c r b.sub b.bytes).data))) ∧
  (∀ (dt id q : Nat) (s : State) (b : Block) (f : BlkSent) (sid : Nat) (y : Session), s.port.block id = some b →
    (b.sent.find? fun f => f.seq = q) = some f → f.sentAt + 200000000 * Config.stepsPerNs ≤ s.elapsed + dt →
    b.requester = .session sid → s.port.session sid = some y →
    (f.resends < 5 → ∃ t, exec (.blkDataResend dt id q) s = .next t ∧
      (t.port.block id).isSome = true ∧ t.emitted = [⟨.blkData, sid, (s.begin dt).sealed y 6 8 q 0
        (blkPayload id f.offset (slice b.bytes f.offset (Nat.min blkUnit (b.total - f.offset))))⟩]) ∧
    (5 ≤ f.resends → ∃ t, exec (.blkDataResend dt id q) s = .next t ∧ t.port.block id = none)) ∧
  (∀ (dt id : Nat) (s : State) (b : Block), s.port.block id = some b →
    b.lastFrame + 10000000000 * Config.stepsPerNs ≤ s.elapsed + dt →
    ∃ t, exec (.blkTimeout dt id) s = .next t ∧ t.port.block id = none ∧
      Changes [.elapsed, .emitted, .port] s t)

/-- The log's objects (R431, R711, R712): an acknowledgement marks exactly its urgent record; LOG_READ opens a
transfer over the records from LOG_READ_FROM on. -/
def Obligations.LogObjects : Prop :=
  (∀ (dt seq : Nat) (req : Req) (s s1 : State) (c : Ctx), Served s dt req 0x9002 0 .write c s1 →
    ((∀ r ∈ s1.log.records, ¬ (r.seq = seq ∧ r.urgent = true)) →
      exec (.logAck dt req seq) s = .next (s1.answer c Abort.recordUnknown [])) ∧
    ((∃ r ∈ s1.log.records, r.seq = seq ∧ r.urgent = true) → ∃ x : State, exec (.logAck dt req seq) s =
        .next (x.answer c Abort.ok []) ∧
      x.log.records.map LogRec.seq = s1.log.records.map LogRec.seq ∧
      (∀ r ∈ x.log.records, r.seq = seq → bitOf r.flags 2 = true) ∧
      (∀ r ∈ s1.log.records, r.seq ≠ seq → r ∈ x.log.records) ∧ Changes [.log] s1 x)) ∧
  (∀ (dt : Nat) (req : Req) (s s1 : State) (c : Ctx), Served s dt req 0x9001 0 .blkRead c s1 →
    (s1.blockRoom c.who = false → exec (.logRead dt req) s =
      .next ((s1.answer c Abort.busy []).pumpBlock (s.begin dt).newBlockId (524320 / blkUnit + 2))) ∧
    (s1.blockRoom c.who = true → ∃ (x : State) (b : Block), exec (.logRead dt req) s =
        .next ((x.answerFlags c (s1.pendingFlag c.who 0x9001 0) Abort.ok
          (be 2 s1.newBlockId ++ zeros 2 ++ be 4 s1.logRead.length)).pumpBlock
          (s.begin dt).newBlockId (524320 / blkUnit + 2)) ∧
      x.port.blocks = s1.port.blocks ++ [b] ∧ b.bytes = slice s1.logRead 0 s1.logRead.length ∧
      b.write = false ∧ b.requester = c.who))

/-- The address and PLCA (R615, R616, R621–R624, R626): an unaddressed hub claims every 100 ms; an OFFER that names
it assigns the address; PLCA follows the coordinator's beacons while the hub is addressed. -/
def Obligations.AddressAndPlca : Prop :=
  (∀ (dt : Nat) (s : State), (s.begin dt).claimDue = true → ∃ x : State, exec (.claimSend dt) s =
      .next (if !s.port.claimLogged && decide (s.port.claimSince + msSteps 10000 ≤ s.elapsed + dt)
        then x.logged Code.claimUnanswered [] else x) ∧ x.port.claimState = 1 ∧
    x.port.claimLast = some (s.elapsed + dt) ∧ x.emitted.length = 1 ∧ x.freeCount = s.freeCount + 1) ∧
  (∀ (dt serial node count : Nat) (s : State), s.endpointUp = true → serial = s.fuses.serial → 1 ≤ node →
    node ≤ 15 → ∃ x : State, exec (.offerAssign dt serial node count) s =
      .next (x.logged Code.nodeAssigned (be 1 node)) ∧ x.backup = { s.backup with nodeId := node } ∧
    x.port = { s.port with claimState := 2 } ∧ Changes [.elapsed, .emitted, .backup, .port] s x) ∧
  (∀ (dt : Nat) (s : State), exec (.plcaInactive dt) s =
    .next { s.begin dt with port := { s.port with plcaActive := false } }) ∧
  (∀ (dt : Nat) (s : State), s.endpointUp = true → (s.addressed = true → exec (.plcaReturn dt) s =
      .next { s.begin dt with port := { s.port with plcaActive := true } }) ∧
    (s.addressed = false → exec (.plcaReturn dt) s = .next (s.begin dt)))

/-- Sessions and notifications (R631–R636, R650, R651): a signed or unsigned HELLO with room opens a session at
its signer's level; a CLOSE or 60 s of silence closes it with its transfers; a NOTIFY is held until it is
acknowledged, sent again with RETRY, and given up after its fourth send. -/
def Obligations.SessionsAndNotify : Prop :=
  (∀ (dt : Nat) (hello : Hello) (s : State), (s.begin dt).frameFits hello.hdr = true → hello.hdr.session = 0 →
    hello.payload.length = 217 → fieldBe hello.payload 0 1 = 1 →
    (s.helloSigned hello.payload = false → exec (.sessionHello dt hello) s =
      .next ((s.begin dt).refuseHello hello.hdr Abort.level)) ∧
    (s.helloSigned hello.payload = true → 8 ≤ s.port.sessions.length → exec (.sessionHello dt hello) s =
      .next ((s.begin dt).refuseHello hello.hdr Abort.sessionLimit)) ∧
    (s.helloSigned hello.payload = true → s.port.sessions.length < 8 → ∃ t, exec (.sessionHello dt hello) s =
        .next t ∧ t.port.sessions.length = s.port.sessions.length + 1 ∧
      (t.port.sessions.getLast?.map Session.baseLevel) =
        some (s.helloLevel (fieldBe hello.payload 117 1)) ∧
      (t.port.sessions.getLast?.map Session.node) = some hello.hdr.source ∧
      (∀ y ∈ s.port.sessions, some y.id ≠ t.port.sessions.getLast?.map Session.id) ∧ t.emitted.length = 1)) ∧
  (∀ (dt id : Nat) (s : State) (y : Session), s.port.session id = some y →
    exec (.sessionClose dt id true) s = .next ((s.begin dt).closeSession id) ∧
    ((s.begin dt).closeSession id).port.session id = none ∧
    (∀ b ∈ ((s.begin dt).closeSession id).port.blocks, b.requester ≠ .session id) ∧
    (∃ x : State, exec (.sessionClose dt id false) s = .next (x.closeSession id) ∧ x.emitted.length = 1) ∧
    (y.lastFrame + msSteps 60000 ≤ s.elapsed + dt →
      exec (.sessionTimeout dt id) s = .next ((s.begin dt).closeSession id)) ∧
    (s.elapsed + dt < y.lastFrame + msSteps 60000 → exec (.sessionTimeout dt id) s = .next (s.begin dt))) ∧
  (∀ (dt id seq : Nat) (s : State) (y : Session), s.port.session id = some y → y.queue = [] →
    (∀ b ∈ s.port.blocks, ∀ f ∈ b.sent, f.seq ≠ seq) → ∃ t, exec (.notifyAck dt id seq) s = .next t ∧
      t.port.session id = some { y with
        lastFrame := s.elapsed + dt, unacked := y.unacked.filter fun u => u.seq ≠ seq }) ∧
  (∀ (dt id seq : Nat) (s : State) (y : Session) (u : Unacked), s.port.session id = some y →
    (y.unacked.find? fun u => u.seq = seq) = some u →
    u.firstSent + msSteps (notifyDue u.sends) ≤ s.elapsed + dt →
    (u.sends < 4 → s.elapsed + dt < u.firstSent + msSteps 800 → ∃ t, exec (.notifyResend dt id seq) s = .next t ∧
      t.emitted.length = 1 ∧ t.port.session id = some { y with
        unacked := y.unacked.map fun v => if v.seq = seq then { v with sends := v.sends + 1 } else v }) ∧
    (4 ≤ u.sends → y.queue = [] → ∃ t, exec (.notifyResend dt id seq) s = .next t ∧
      t.port.session id = some { y with unacked := y.unacked.filter fun v => v.seq ≠ seq }))

/-! ## Frames -/

/-- What the commands of chapters 03 to 08 and 11 leave unchanged: every part of the state that their lists do
not name, and every octet of the stacks outside the header blocks, the lines and the buffers that they write. -/
def Obligations.FramesOfTheHost : Prop :=
  ∀ (i : Instr) (s t : State), exec i s = .next t →
    match i with
    | .frameTick .. =>
      Changes [.elapsed, .emitted, .freeCount, .topo, .hub, .tb, .pod, .frame, .sched, .units, .qu, .dump,
        .hang, .fm, .adm, .bar, .trace, .power, .rst, .backup, .flash, .logSeq, .log, .port, .fw, .pins,
        .dram] s t ∧
      ((∀ g ∈ s.frame.groups, ∀ v ∈ g.values, v.idx ∉ [0x5020, 0x5021, 0x5022]) →
        ∀ a, s.offHeaders a → Mem.read t.dram a = Mem.read s.dram a) ∧
      (∀ g, s.frame.groups = [g] → ∀ a, (∀ die, die < 16 →
          a < stackAddr die t.trace.base ∨ stackAddr die t.trace.base + 4096 ≤ a) →
        Mem.read t.dram a = Mem.read s.dram a)
    | .cutTaken .. =>
      Changes [.elapsed, .emitted, .sched, .units, .qu, .podCut, .adm, .trace, .backup, .flash, .logSeq, .log,
        .port, .dram] s t ∧
      ∀ a, s.offHeaders a → Mem.read t.dram a = Mem.read s.dram a
    | .resumeAtTime .. =>
      Changes [.elapsed, .emitted, .sched, .units, .qu, .adm, .trace, .backup, .flash, .logSeq, .log, .port,
        .dram] s t ∧
      (s.heldFits → ∀ a, s.offHeld a → Mem.read t.dram a = Mem.read s.dram a)
    | .l3PhaseEnd .. =>
      Changes [.elapsed, .emitted, .freeCount, .topo, .units, .qu, .dump, .hang, .fm, .adm, .bar, .trace, .rst,
        .backup, .flash, .logSeq, .log, .port, .dram] s t ∧
      (s.heldFits → ∀ a, s.offHeld a → (s.hang.proc.l3Phase = 2 → s.inBuffers a = false) →
        Mem.read t.dram a = Mem.read s.dram a)
    | .traceLineReceive _ die l =>
      Changes [.elapsed, .emitted, .units, .trace, .dram] s t ∧
      (16 ≤ die ∨ l.length ≠ 64 ∨ s.sinkWorks die = false ∨ (s.sink die).frozen = true → t.dram = s.dram) ∧
      ∀ a, (a < stackAddr die s.trace.base ∨ stackAddr die s.trace.base + 128 ≤ a) →
        (a < stackAddr die (s.trace.base + (s.sink die).writeOffset) ∨
          stackAddr die (s.trace.base + (s.sink die).writeOffset) + 64 ≤ a) → Mem.read t.dram a = Mem.read s.dram a
    | .frameReport .. =>
      Changes [.elapsed, .emitted, .topo, .units, .dump, .hang, .trace] s t
    | .reportEvaluation .. =>
      Changes [.elapsed, .emitted, .units, .dump, .hang, .fm, .power, .backup, .flash, .logSeq, .imageIds, .log,
        .port] s t
    | .unitResetDone .. | .l2Failed .. =>
      Changes [.elapsed, .emitted, .freeCount, .topo, .sched, .units, .qu, .hang, .adm, .trace, .backup, .flash,
        .logSeq, .log, .port] s t
    | .hbMiss .. | .hangEngine .. =>
      Changes [.elapsed, .emitted, .freeCount, .topo, .sched, .units, .qu, .hang, .adm, .backup, .flash,
        .logSeq, .log, .port] s t
    | .runnerSilent .. =>
      Changes [.elapsed, .emitted, .freeCount, .topo, .units, .hang, .backup, .flash, .logSeq, .log, .port] s t
    | .tapSilent .. =>
      Changes [.elapsed, .emitted, .sched, .units, .qu, .podCut, .dump, .hang, .fm, .adm, .backup, .flash,
        .logSeq, .log, .port, .lc] s t
    | .sensorFail .. =>
      Changes [.elapsed, .emitted, .power, .backup, .flash, .logSeq, .log, .port] s t
    | .commHoldSet .. | .commHoldClear .. =>
      Changes [.elapsed, .emitted, .power] s t
    | .commitQueueFreeze .. =>
      Changes [.elapsed, .emitted, .frame, .flash, .logSeq, .log, .port] s t
    | .schedQuench .. | .quCmdArm .. =>
      Changes [.elapsed, .emitted, .tb, .frame, .sched, .units, .qu, .adm, .backup, .flash, .logSeq, .log,
        .port] s t
    | .schedPodQuench .. =>
      Changes [.elapsed, .emitted, .tb, .frame, .sched, .units, .qu, .podCut, .adm, .backup, .flash, .logSeq,
        .log, .port] s t
    | .schedStep .. | .quCmdStep .. =>
      Changes [.elapsed, .emitted, .freeCount, .tb, .frame, .sched, .units, .qu, .adm, .backup, .flash, .logSeq,
        .log, .port] s t
    | .schedResume .. | .quCmdResume .. =>
      Changes [.elapsed, .emitted, .tb, .frame, .sched, .units, .qu, .adm, .backup, .flash, .logSeq, .log,
        .port, .pins] s t
    | .schedFrameLen .. | .schedTimeStep .. | .schedRoleSwap .. =>
      Changes [.elapsed, .emitted, .tb, .frame, .sched, .adm, .backup, .flash, .logSeq, .log, .port] s t
    | .schedEmpty .. | .quCmdCancel .. =>
      Changes [.elapsed, .emitted, .tb, .frame, .sched, .units, .qu, .podCut, .adm, .backup, .flash, .logSeq,
        .log, .port] s t
    | .timeStepApply .. =>
      Changes [.elapsed, .emitted, .topo, .hub, .tb, .pod, .frame, .sched, .units, .qu, .adm, .trace, .power,
        .backup, .flash, .logSeq, .log, .port, .fw, .dram] s t ∧
      (s.heldFits → ∀ a, s.offHeaders a → s.offHeld a → Mem.read t.dram a = Mem.read s.dram a)
    | .frameLenChange .. =>
      Changes [.elapsed, .emitted, .frame, .sched, .adm, .backup, .flash, .logSeq, .log, .port] s t
    | .roleSwapDue .. =>
      Changes [.elapsed, .emitted, .topo, .hub, .tb, .sched, .adm, .backup, .flash, .logSeq, .log, .port,
        .fw] s t
    | .lockstepFault .. =>
      Changes [.elapsed, .emitted, .topo, .hub, .tb, .backup, .flash, .logSeq, .log, .port, .fw] s t
    | .tbuClockGoodLost .. =>
      Changes [.elapsed, .emitted, .hub, .tb, .backup, .flash, .logSeq, .log, .port, .fw] s t
    | .quCmdPeek .. =>
      Changes [.elapsed, .emitted, .tb, .frame, .units, .qu, .backup, .flash, .logSeq, .log, .port] s t
    | .castReceive .. | .stepSelectLate .. | .quCancelLate .. | .netRefreeze .. =>
      Changes [.elapsed, .emitted, .freeCount, .sched, .units, .qu, .adm, .backup, .flash, .logSeq, .log,
        .port] s t
    | .stepStart .. | .stepPoll .. =>
      Changes [.elapsed, .emitted, .sched, .units, .qu, .adm, .trace, .backup, .flash, .logSeq, .log, .port,
        .dram] s t ∧
      (s.heldFits → ∀ a, s.offHeld a → Mem.read t.dram a = Mem.read s.dram a)
    | .castResponse .. =>
      Changes [.elapsed, .emitted, .topo, .sched, .qu, .podCut, .hang, .adm, .trace, .backup, .flash, .logSeq,
        .log, .port] s t
    | .castRetry .. =>
      Changes [.elapsed, .emitted, .qu, .hang] s t
    | .castUnresponsive .. =>
      Changes [.elapsed, .emitted, .freeCount, .topo, .sched, .qu, .podCut, .hang, .adm, .bar, .trace, .backup,
        .flash, .logSeq, .log, .port] s t
    | .quenchDecision .. | .stepOverrun .. =>
      Changes [.elapsed, .emitted, .qu, .backup, .flash, .logSeq, .log, .port] s t
    | .holdReceive .. | .runnerNoTick .. | .linkDown .. =>
      Changes [.elapsed, .emitted, .units] s t
    | .quenchMembership .. =>
      Changes [.elapsed, .emitted, .sched, .units, .qu, .podCut, .adm, .trace, .backup, .flash, .logSeq, .log,
        .port, .dram] s t ∧
      ∀ a, s.offHeaders a → Mem.read t.dram a = Mem.read s.dram a
    | .cutWithdrawReceive .. =>
      Changes [.elapsed, .emitted, .sched, .units, .qu, .podCut, .adm, .backup, .flash, .logSeq, .log,
        .port] s t
    | .cutOrderReceive .. =>
      Changes [.elapsed, .emitted, .sched, .units, .qu, .podCut, .adm, .backup, .flash, .logSeq, .log,
        .port] s t
    | .cutAckReceive .. | .orderCopySend .. | .cutAckSend .. =>
      Changes [.elapsed, .emitted, .podCut] s t
    | .podCutSummary .. =>
      Changes [.elapsed, .emitted, .qu, .podCut, .backup, .flash, .logSeq, .log, .port] s t
    | .soStart .. | .soStartRef .. =>
      Changes [.elapsed, .emitted, .tb, .frame, .units, .dump, .backup, .flash, .logSeq, .imageIds, .log,
        .port] s t
    | .soAbort .. =>
      Changes [.elapsed, .emitted, .tb, .frame, .dump, .backup, .flash, .logSeq, .log, .port] s t
    | .soFettleReserve .. | .soAck .. =>
      Changes [.elapsed, .emitted, .tb, .frame, .dump, .backup, .flash, .logSeq, .log, .port] s t
    | .soRecordRead .. | .soHeaderRead .. =>
      Changes [.elapsed, .emitted, .freeCount, .tb, .frame, .backup, .flash, .logSeq, .log, .port] s t
    | .tbNowRead .. =>
      Changes [.elapsed, .emitted, .tb, .frame, .backup, .flash, .logSeq, .log, .port] s t
    | .reserveWrite .. =>
      Changes [.elapsed, .emitted, .tb, .pod, .frame, .sched, .qu, .dump, .hang, .fm, .adm, .bar, .trace,
        .power, .rst, .backup, .flash, .logSeq, .log, .port, .fw, .lc] s t
    | .debugReadComplete .. | .debugReadTimeout .. =>
      Changes [.elapsed, .emitted, .freeCount, .units, .dump] s t
    | .recordWriteComplete .. | .sealResult .. =>
      Changes [.elapsed, .emitted, .freeCount, .units, .dump, .backup, .flash, .logSeq, .log, .port] s t
    | .ladleWriteTimeout .. | .sealPartReport .. | .reserveFettleDone .. =>
      Changes [.elapsed, .emitted, .dump] s t
    | .soRunnerLost .. =>
      Changes [.elapsed, .emitted, .topo, .units, .dump, .backup, .flash, .logSeq, .log, .port] s t
    | .hangWaitClear .. =>
      Changes [.elapsed, .emitted, .freeCount, .topo, .sched, .units, .qu, .hang, .adm, .bar, .backup, .flash,
        .logSeq, .log, .port] s t
    | .hangCollect .. =>
      Changes [.elapsed, .emitted, .units, .dump, .hang, .backup, .flash, .logSeq, .imageIds, .log, .port] s t
    | .contextRemove .. =>
      Changes [.elapsed, .emitted, .tb, .frame, .hang, .backup, .flash, .logSeq, .log, .port] s t
    | .removeCastIssue .. =>
      Changes [.elapsed, .emitted, .freeCount, .topo, .qu, .hang, .backup, .flash, .logSeq, .log, .port] s t
    | .contextCastReceive .. =>
      Changes [.elapsed, .emitted, .units, .hang] s t
    | .removeCountComplete .. | .drainElapsed .. | .replayResponse .. | .replayStall .. | .replayTimeout .. =>
      Changes [.elapsed, .emitted, .freeCount, .topo, .qu, .hang, .bar, .backup, .flash, .logSeq, .log,
        .port] s t
    | .contextFettleDone .. =>
      Changes [.elapsed, .emitted, .hang] s t
    | .unitResetPulse .. | .unitResetHold .. =>
      Changes [.elapsed, .emitted, .freeCount, .topo, .tb, .frame, .hang, .backup, .flash, .logSeq, .log,
        .port] s t
    | .unitResetRelease .. =>
      Changes [.elapsed, .emitted, .freeCount, .topo, .hub, .tb, .wireA, .wireR, .pod, .frame, .sched, .units,
        .qu, .hang, .adm, .bar, .trace, .backup, .flash, .logSeq, .log, .port] s t
    | .unitResetAssert .. =>
      Changes [.elapsed, .emitted, .freeCount, .hub, .tb, .wireA, .wireR, .frame, .sched, .units, .qu, .dump,
        .hang, .adm, .bar, .trace, .backup, .flash, .logSeq, .log, .port] s t
    | .unitResetReleaseDue .. =>
      Changes [.elapsed, .emitted, .freeCount, .topo, .hub, .tb, .wireA, .wireR, .pod, .sched, .units, .qu,
        .hang, .adm, .bar, .trace, .backup, .flash, .logSeq, .log, .port] s t
    | .recoveryLevel .. =>
      Changes [.elapsed, .emitted, .tb, .frame, .sched, .units, .qu, .podCut, .dump, .hang, .fm, .adm, .backup,
        .flash, .logSeq, .log, .port, .lc] s t
    | .l3Failed .. =>
      Changes [.elapsed, .emitted, .hang, .fm, .adm, .backup, .flash, .logSeq, .log, .port] s t
    | .traceSwitchIssue .. =>
      Changes [.elapsed, .emitted, .qu, .trace] s t
    | .markCycle .. =>
      Changes [.elapsed, .emitted, .wireA, .wireR] s t
    | .markReceive .. | .loadReceive .. =>
      Changes [.elapsed, .emitted, .hub, .tb, .units, .backup, .flash, .logSeq, .log, .port] s t
    | .replicaLost .. =>
      Changes [.elapsed, .emitted, .tb, .units, .backup, .flash, .logSeq, .log, .port] s t
    | .stepMsgReceive .. | .calReqReceive .. | .calEchoLaunch .. | .calSetReceive .. | .replicaFlywheel .. =>
      Changes [.elapsed, .emitted, .tb, .units] s t
    | .calEchoReceive .. =>
      Changes [.elapsed, .emitted, .wireA, .wireR, .units, .backup, .flash, .logSeq, .log, .port] s t
    | .calEchoTimeout .. =>
      Changes [.elapsed, .emitted, .wireA, .wireR, .backup, .flash, .logSeq, .log, .port] s t
    | .refclkLost .. | .refclkBack .. =>
      Changes [.elapsed, .emitted, .freeCount, .tb, .pod, .units, .backup, .flash, .logSeq, .log, .port] s t
    | .tickOutDue .. =>
      Changes [.elapsed, .emitted, .tb] s t
    | .tickInEdge .. =>
      Changes [.elapsed, .emitted, .freeCount, .hub, .tb, .wireA, .wireR, .pod, .frame, .power, .backup, .flash,
        .logSeq, .log, .port] s t
    | .tickInMissing .. | .gmDeclare .. =>
      Changes [.elapsed, .emitted, .tb, .pod, .backup, .flash, .logSeq, .log, .port] s t
    | .syncSend .. =>
      Changes [.elapsed, .emitted, .freeCount, .pod] s t
    | .discardWindowEnd .. =>
      Changes [.elapsed, .emitted, .pod] s t
    | .asymRetry .. =>
      Changes [.elapsed, .emitted, .pod] s t
    | .txtsStamp .. =>
      Changes [.elapsed, .emitted, .pod] s t
    | .syncReceive .. =>
      Changes [.elapsed, .emitted, .freeCount, .hub, .tb, .wireA, .wireR, .pod, .frame, .power, .backup, .flash,
        .logSeq, .log, .port] s t
    | .upstreamReselect .. | .upstreamLost .. | .gmLost .. | .loopMeasureDone .. | .asymTimeout .. =>
      Changes [.elapsed, .emitted, .freeCount, .tb, .pod, .backup, .flash, .logSeq, .log, .port] s t
    | .linkTrained .. =>
      Changes [.elapsed, .emitted, .tb, .pod, .units, .backup, .flash, .logSeq, .log, .port] s t
    | .servoRestart .. =>
      Changes [.elapsed, .emitted, .tb, .pod, .frame, .backup, .flash, .logSeq, .log, .port] s t
    | .timeQuery .. =>
      Changes [.elapsed, .emitted, .port] s t
    | .timeAnswer .. =>
      Changes [.elapsed, .emitted, .tb, .pod] s t
    | .txtsQueuePop .. =>
      Changes [.elapsed, .emitted, .freeCount, .tb, .pod, .frame, .backup, .flash, .logSeq, .log, .port] s t
    | .ringResponse .. | .ringTimeout .. =>
      Changes [.elapsed, .emitted, .freeCount, .topo, .sched, .units, .qu, .dump, .hang, .adm, .backup, .flash,
        .logSeq, .log, .port] s t
    | .quenchIn .. | .quenchInDeferred .. | .quenchInEntryFree .. =>
      Changes [.elapsed, .emitted, .sched, .units, .qu, .podCut, .adm, .backup, .flash, .logSeq, .log, .port,
        .pins] s t
    | .quenchInArm .. =>
      Changes [.elapsed, .emitted, .pins] s t
    | .jtagUpdateIr .. | .jtagTestReset .. =>
      Changes [.elapsed, .emitted, .power, .flash, .pins] s t
    | .inputStuck .. =>
      Changes [.elapsed, .emitted, .backup, .flash, .logSeq, .log, .port, .pins] s t
    | .chillEntry .. =>
      Changes [.elapsed, .emitted, .topo, .units] s t
    | .chillExit .. =>
      Changes [.elapsed, .emitted, .topo, .units, .qu] s t
    | .traceStallTimeout .. =>
      Changes [.elapsed, .emitted, .units, .trace] s t
    | _ => True

/-- What the commands of chapters 09, 10, 12 to 16 and the takeover's leave unchanged: every part of the state that
their lists do not name, and every octet of the stacks outside the records, regions and buffers that they write. -/
def Obligations.FramesOfTheHub : Prop :=
  ∀ (i : Instr) (s t : State), exec i s = .next t →
    match i with
    | .admRecordReceive _ _ m =>
      Changes [.elapsed, .emitted, .adm, .backup, .flash, .logSeq, .log, .port, .dram] s t ∧
      (∀ r, streamRec m = some r → ∀ a, (a < stackAddr (r.sub % 16) (fieldLe r.payload 0 8) ∨
          stackAddr (r.sub % 16) (fieldLe r.payload 0 8) + (r.payload.drop 8).length ≤ a) →
        Mem.read t.dram a = Mem.read s.dram a) ∧
      ((streamRec m = none ∨ s.adm.state ≠ 2) → t.dram = s.dram)
    | .admFettleDone .. =>
      Changes [.elapsed, .emitted, .adm, .backup, .flash, .logSeq, .log, .port, .dram] s t ∧
      ∀ a, (∀ x ∈ s.adm.regions, a < stackAddr x.1 x.2.1 ∨ stackAddr x.1 x.2.1 + x.2.2 ≤ a) →
        Mem.read t.dram a = Mem.read s.dram a
    | .lcRequest .. =>
      Changes [.elapsed, .emitted, .freeCount, .topo, .tb, .frame, .sched, .units, .qu, .podCut, .dump, .hang,
        .fm, .adm, .bar, .trace, .backup, .flash, .logSeq, .log, .port, .lc, .dram] s t ∧
      ∀ a, (a % 2 ^ 37 < s.trace.base ∨ s.trace.base + s.trace.size ≤ a % 2 ^ 37) →
        Mem.read t.dram a = Mem.read s.dram a
    | .blkClose .. =>
      Changes [.elapsed, .emitted, .freeCount, .topo, .hub, .tb, .wireA, .wireR, .pod, .frame, .sched, .units,
        .qu, .podCut, .dump, .hang, .fm, .adm, .bar, .trace, .power, .rst, .backup, .flash, .logSeq, .imageIds,
        .log, .port, .fw, .lc, .pins, .dram] s t ∧
      ∀ a, (a % 2 ^ 37 < s.trace.base ∨ s.trace.base + s.trace.size ≤ a % 2 ^ 37) →
        Mem.read t.dram a = Mem.read s.dram a
    | .lcFettleDone _ area _ =>
      Changes [.elapsed, .emitted, .units, .dump, .backup, .flash, .logSeq, .imageIds, .log, .port, .lc,
        .dram] s t ∧
      (area ≠ 5 → t.dram = s.dram)
    | .porAssert .. | .warmReset .. =>
      t.pending = s.pending ∧ t.fuses = s.fuses ∧
      ∀ a, s.inBuffers a = false → Mem.read t.dram a = Mem.read s.dram a
    | .clockLost .. =>
      t.pending = s.pending ∧ t.fuses = s.fuses ∧ t.dram = s.dram
    | .jobAdmission .. | .slotJobCheck .. =>
      Changes [.elapsed, .emitted, .freeCount, .units, .dump, .hang, .power] s t
    | .samplingSlot .. | .captureTimeout .. | .sdcStormClear .. =>
      Changes [.elapsed, .emitted, .bar] s t
    | .takeoverSwitch .. =>
      Changes [.elapsed, .emitted, .topo, .hub, .tb, .wireA, .wireR, .pod, .frame, .sched, .units, .qu, .podCut,
        .dump, .adm, .bar, .trace, .power, .backup, .flash, .logSeq, .log, .port, .fw, .pins, .dram] s t ∧
      (s.heldFits → ∀ a, s.offHeaders a → s.offHeld a → Mem.read t.dram a = Mem.read s.dram a)
    | .takeoverOldReset .. =>
      Changes [.elapsed, .emitted, .topo, .hub, .tb, .wireA, .wireR, .frame, .units, .bar] s t
    | .runnerActiveCast .. =>
      Changes [.elapsed, .emitted, .hub, .units] s t
    | .takeoverNotify .. =>
      Changes [.elapsed, .emitted, .topo, .hub, .tb, .wireA, .wireR, .pod, .bar, .backup, .flash, .logSeq, .log,
        .port, .fw] s t
    | .shakeoutClose .. =>
      Changes [.elapsed, .emitted, .freeCount, .topo, .sched, .units, .qu, .dump, .hang, .fm, .adm, .bar,
        .backup, .flash, .logSeq, .imageIds, .log, .port] s t
    | .beaconReceive .. =>
      Changes [.elapsed, .emitted, .hang, .adm, .backup, .flash, .logSeq, .log, .port] s t
    | .stepMark .. =>
      Changes [.elapsed, .emitted, .freeCount, .topo, .sched, .units, .qu, .hang, .fm, .adm, .trace, .backup,
        .flash, .logSeq, .log, .port] s t
    | .jobViewExpire .. =>
      Changes [.elapsed, .emitted, .fm] s t
    | .suspectEnter .. =>
      Changes [.elapsed, .emitted, .hang, .fm, .backup, .flash, .logSeq, .log, .port] s t
    | .suspectDump .. =>
      Changes [.elapsed, .emitted, .units, .dump, .fm, .bar, .backup, .flash, .logSeq, .imageIds, .log,
        .port] s t
    | .selfTestEnd .. =>
      Changes [.elapsed, .emitted, .sched, .units, .qu, .dump, .fm, .adm, .backup, .flash, .logSeq, .log,
        .port] s t
    | .suspectCleared .. =>
      Changes [.elapsed, .emitted, .fm, .backup, .flash, .logSeq, .log, .port] s t
    | .suspectCmdClear .. =>
      Changes [.elapsed, .emitted, .tb, .frame, .fm, .backup, .flash, .logSeq, .log, .port] s t
    | .expel .. | .expelRelease .. =>
      Changes [.elapsed, .emitted, .tb, .frame, .sched, .units, .qu, .podCut, .dump, .hang, .fm, .adm, .backup,
        .flash, .logSeq, .log, .port] s t
    | .expelPortFence .. =>
      Changes [.elapsed, .emitted, .units, .fm, .flash] s t
    | .expelCut .. =>
      Changes [.elapsed, .emitted, .sched, .units, .qu, .fm, .adm, .backup, .flash, .logSeq, .log, .port] s t
    | .expelCollect .. =>
      Changes [.elapsed, .emitted, .units, .dump, .fm, .backup, .flash, .logSeq, .imageIds, .log, .port] s t
    | .admBegin .. =>
      Changes [.elapsed, .emitted, .tb, .frame, .dump, .fm, .adm, .bar, .backup, .flash, .logSeq, .log,
        .port] s t
    | .admServe .. =>
      Changes [.elapsed, .emitted, .tb, .frame, .adm, .backup, .flash, .logSeq, .log, .port] s t
    | .admAbort .. =>
      Changes [.elapsed, .emitted, .freeCount, .tb, .frame, .adm, .backup, .flash, .logSeq, .log, .port] s t
    | .admOpenReceive .. | .admEndReceive .. | .admStall .. | .admSealResult .. =>
      Changes [.elapsed, .emitted, .adm, .backup, .flash, .logSeq, .log, .port] s t
    | .admServeDone .. =>
      Changes [.elapsed, .emitted, .adm] s t
    | .captureReceive .. | .probeOpDone .. =>
      Changes [.elapsed, .emitted, .bar, .backup, .flash, .logSeq, .log, .port] s t
    | .barComputeDone .. =>
      Changes [.elapsed, .emitted, .topo, .hang, .bar, .backup, .flash, .logSeq, .eventSeqs, .log, .port] s t
    | .barSelfCheckDone .. =>
      Changes [.elapsed, .emitted, .freeCount, .bar, .backup, .flash, .logSeq, .eventSeqs, .log, .port] s t
    | .tbEventAck .. | .tbQuarantineClear .. | .tbProbeLoad .. | .probeRunBar .. | .probeRunEngine .. =>
      Changes [.elapsed, .emitted, .tb, .frame, .bar, .backup, .flash, .logSeq, .log, .port] s t
    | .pmbusTransactionDone .. | .pmbAlert .. =>
      Changes [.elapsed, .emitted, .power, .backup, .flash, .logSeq, .log, .port] s t
    | .porRelease .. =>
      Changes [.elapsed, .emitted, .freeCount, .rst, .backup, .log] s t
    | .resetNShort .. =>
      Changes [.elapsed, .emitted, .rst] s t
    | .warmResetRelease .. =>
      Changes [.elapsed, .emitted, .rst, .flash] s t
    | .domainRelease .. | .clockTimeout .. =>
      Changes [.elapsed, .emitted, .topo, .hub, .tb, .wireA, .wireR, .pod, .frame, .sched, .units, .qu, .podCut,
        .hang, .fm, .adm, .rst, .backup, .flash, .logSeq, .log, .port, .lc, .pins] s t
    | .d8Wave .. =>
      Changes [.elapsed, .emitted, .topo, .units, .rst] s t
    | .clockLostInService .. =>
      Changes [.elapsed, .emitted, .freeCount, .topo, .tb, .wireA, .wireR, .frame, .sched, .units, .qu, .dump,
        .hang, .adm, .bar, .trace, .rst, .backup, .flash, .logSeq, .log, .port] s t
    | .selfCheckDone .. =>
      Changes [.elapsed, .emitted, .hub, .tb, .pod, .rst, .backup, .flash, .logSeq, .log, .port] s t
    | .optionLoadingEnd .. =>
      Changes [.elapsed, .emitted, .freeCount, .tb, .pod, .frame, .sched, .qu, .dump, .hang, .fm, .adm, .bar,
        .trace, .power, .rst, .backup, .flash, .logSeq, .imageIds, .eventSeqs, .log, .port, .fw, .lc] s t
    | .fwBoot .. =>
      Changes [.elapsed, .emitted, .hub, .backup, .flash, .logSeq, .log, .port] s t
    | .stormRelease .. =>
      Changes [.elapsed, .emitted, .tb, .frame, .rst, .backup, .flash, .logSeq, .log, .port] s t
    | .persistWriteDone .. =>
      Changes [.elapsed, .emitted, .units, .dump, .bar, .backup, .flash, .logSeq, .imageIds, .eventSeqs, .log,
        .port] s t
    | .stage .. | .commit .. | .blkData .. | .offerRevoke .. | .sessionClose .. | .sessionTimeout ..
    | .logRead .. =>
      Changes [.elapsed, .emitted, .freeCount, .tb, .frame, .backup, .flash, .logSeq, .log, .port] s t
    | .authToken .. | .logAck .. =>
      Changes [.elapsed, .emitted, .tb, .frame, .backup, .flash, .logSeq, .log, .port] s t
    | .blkOpen .. =>
      Changes [.elapsed, .emitted, .freeCount, .tb, .pod, .frame, .backup, .flash, .logSeq, .log, .port] s t
    | .notifyAck .. =>
      Changes [.elapsed, .emitted, .freeCount, .port] s t
    | .blkDataResend .. | .blkTimeout .. | .notifyResend .. | .plcaInactive ..
    | .plcaReturn .. =>
      Changes [.elapsed, .emitted, .port] s t
    | .claimSend .. =>
      Changes [.elapsed, .emitted, .freeCount, .backup, .flash, .logSeq, .log, .port] s t
    | .offerAssign .. | .authEnded .. =>
      Changes [.elapsed, .emitted, .backup, .flash, .logSeq, .log, .port] s t
    | .sessionHello .. =>
      Changes [.elapsed, .emitted, .freeCount, .port] s t
    | .registerWrite .. =>
      Changes [.elapsed, .emitted, .freeCount, .topo, .hub, .tb, .wireA, .wireR, .pod, .frame, .sched, .units,
        .qu, .podCut, .dump, .hang, .fm, .adm, .bar, .trace, .power, .rst, .backup, .flash, .logSeq, .imageIds,
        .log, .port, .fw, .lc, .pins] s t
    | .fwUpdate .. | .fwUpdateApply .. =>
      Changes [.elapsed, .emitted, .hub, .tb, .frame, .backup, .flash, .logSeq, .log, .port, .fw] s t
    | .fwUpdateStandbyReady .. =>
      Changes [.elapsed, .emitted, .sched, .fw] s t
    | .fwUpdateOldReady .. =>
      Changes [.elapsed, .emitted, .fuses, .backup, .flash, .logSeq, .log, .port, .fw, .lc] s t
    | .fwUpdateTimeout .. =>
      Changes [.elapsed, .emitted, .topo, .hub, .tb, .wireA, .wireR, .frame, .units, .bar, .backup, .flash,
        .logSeq, .log, .port, .fw] s t
    | .authChallenge .. =>
      Changes [.elapsed, .emitted, .freeCount, .tb, .frame, .backup, .flash, .logSeq, .log, .port] s t
    | .mgrKeysWrite .. =>
      Changes [.elapsed, .emitted, .tb, .frame, .backup, .flash, .logSeq, .log, .port, .lc] s t
    | .optionWriteDone .. =>
      Changes [.elapsed, .emitted, .flash, .lc] s t
    | _ => True

/-! ## The whole machine -/

/-- A step takes the command at the front of the queue and runs it with the queue's rest; on an empty queue the
block idles (the model's choice, log entry 1). -/
def Obligations.StepRunsTheFront : Prop :=
  (∀ (s : State) (c : Instr) (rest : List Instr), step { s with pending := c :: rest } =
    exec c { s with pending := rest }) ∧
  (∀ s : State, s.pending = [] → step s = .next s) ∧
  (∀ s : State, Answers (step s)) ∧
  ∀ (s t : State), step s = .next t → t.pending = s.pending.tail

/-- From every state that meets the invariant, not only those of a run, a step gives a state that meets it:
memory stays canonical, the release sequence within its phases, the two key stores alike, LC_STATE legal. -/
def Obligations.StepKeepsInvariant : Prop :=
  ∀ s t : State, s.Inv → step s = .next t → t.Inv

/-- What reset leaves: the invariant holds, and the block is under POR (log entry 6) with every unit in reset and
nothing waiting, held or open (R574, R589), every replica COLD (R117), the gaps and STORM_LIMIT at the defaults of
R584 and R608, RESET_IGNORED 0 (R576). -/
def Obligations.ResetLeaves : Prop :=
  State.reset.Inv ∧ State.reset.pending = [] ∧ State.reset.rst.porAsserted = true ∧ State.reset.rst.phase = 0 ∧
  State.reset.rst.holdReason = 0 ∧ State.reset.rst.gaps = List.replicate 10 4096 ∧
  State.reset.rst.stormLimit = 16 ∧ State.reset.rst.resetIgnored = 0 ∧ State.reset.tb.active.counting = false ∧
  State.reset.qu.state = Qs.idle ∧ State.reset.sched = [] ∧ State.reset.port.sessions = [] ∧
  State.reset.port.blocks = [] ∧ State.reset.dram = [] ∧
  (∀ die, (State.reset.runner die).inReset = true) ∧ (∀ c, (State.reset.tap c).inReset = true) ∧
  (∀ uid, (State.reset.replica uid).state = .cold) ∧ ∀ ctx, State.reset.ctxState ctx = Cx.normal

/-- The lifecycle (R669): a request that passes its checks makes a listed transition with its effect on the keys,
and no other step, from any state whose key stores agree, changes LC_STATE except along the list. -/
def Obligations.LifecycleTransitions : Prop :=
  (∀ (dt : Nat) (b : List Byte) (req : Req) (s s1 s2 : State) (c : Ctx), Served s dt req 0xA001 0 .blkWrite c s1 →
    s1.lcCheck c b = (s2, none) → ∃ t, exec (.lcRequest dt req b) s = .next t ∧ t.lcState = fieldBe b 1 1 ∧
      ((s.lcState = 0 ∧ t.lcState = 1) ∨ (s.lcState = 1 ∧ t.lcState = 2) ∨ (s.lcState = 2 ∧ t.lcState = 1) ∨
        (s.lcState = 1 ∧ t.lcState = 3) ∨ (s.lcState = 2 ∧ t.lcState = 3) ∨ (s.lcState = 3 ∧ t.lcState = 0)) ∧
      (t.lcState = 2 → 3 ≤ (s.lc.mgrKeys.filter fun k => !k.isEmpty).length) ∧
      t.lc.storeA.ownerKey = (if s.lcState = 0 then slice b 28 97 else if t.lcState = 3 then []
        else s.lc.storeA.ownerKey) ∧
      t.lc.mgrKeys = (if t.lcState = 3 then List.replicate 5 [] else s.lc.mgrKeys)) ∧
  (∀ s t : State, s.lc.storeA = s.lc.storeB → step s = .next t → t.lcState = s.lcState ∨
    (s.lcState = 0 ∧ t.lcState = 1) ∨
    (s.lcState = 1 ∧ t.lcState = 2 ∧ 3 ≤ (s.lc.mgrKeys.filter fun k => !k.isEmpty).length) ∨
    (s.lcState = 2 ∧ t.lcState = 1) ∨ (s.lcState = 1 ∧ t.lcState = 3) ∨ (s.lcState = 2 ∧ t.lcState = 3) ∨
    (s.lcState = 3 ∧ t.lcState = 0))

/-- A write of MGR_KEYS entry i (R665): 97 octets that form a valid P-384 point are taken, 97 zero octets empty
the entry, any other value is refused with VALUE_RANGE, and every write while DEPLOYED with LEVEL. -/
def Obligations.ManagerKeys : Prop :=
  ∀ (dt i : Nat) (key : List Byte) (req : Req) (s s1 : State) (c : Ctx),
    Served s dt req 0xA020 (i + 1) .blkWrite c s1 →
    (s1.lcState = 2 → exec (.mgrKeysWrite dt req i key) s = .next (s1.answer c Abort.level [])) ∧
    (s1.lcState ≠ 2 → key.length = 97 → Config.validPoint key = true → key ≠ zeros 97 →
      ∃ x : State, exec (.mgrKeysWrite dt req i key) s = .next (x.answer c Abort.ok []) ∧
        x.lc.mgrKeys = setAt s1.lc.mgrKeys i key) ∧
    (s1.lcState ≠ 2 → key = zeros 97 →
      ∃ x : State, exec (.mgrKeysWrite dt req i key) s = .next (x.answer c Abort.ok []) ∧
        x.lc.mgrKeys = setAt s1.lc.mgrKeys i []) ∧
    (s1.lcState ≠ 2 → key ≠ zeros 97 → (key.length ≠ 97 ∨ Config.validPoint key = false) →
      exec (.mgrKeysWrite dt req i key) s = .next (s1.answer c Abort.valueRange []))

/-- An OFFER with NODE_ID 0 for the hub's serial (R625): every session is closed, the backup domain's NODE_ID is
0, NODE_REVOKED is logged, and a CLAIM with WANT_ID 0 is due. -/
def Obligations.OfferRevoked : Prop :=
  ∀ (dt serial : Nat) (s : State), s.endpointUp = true → serial = s.fuses.serial →
    ∃ x : State, exec (.offerRevoke dt serial) s = .next (x.logged Code.nodeRevoked []) ∧
      x.backup.nodeId = 0 ∧ x.port.sessions = [] ∧ x.port.claimState = 0 ∧ x.port.plcaActive = false ∧
      x.port.claimSince = s.elapsed + dt ∧ x.claimDue = true ∧ (x.claimPayload.drop 11).take 1 = [0]

/-- A replica between its states (R107, R116, R117, R147): every accepted MARK or LOAD leaves it TRACKING with the
message's RATE; its PNS is set to the value of R107 from COLD, on a LOAD, on the first message of the new source that
its SRC names when the error is at most 2 ns, on a large error in FLYWHEEL and on the fourth in a row in TRACKING; on
any other small error it is slewed, not set, and the first three large ones in a row are counted. -/
def Obligations.ReplicaTracking : Prop :=
  ∀ (r : Replica) (m : List Nat) (d now : Nat) (load : Bool) (e : Int),
    e = (trueAcc m d : Int) - ((r.clock.setRate now (toSigned 32 (msgWord m 4))).read now : Int) →
    (r.track m d now load).1.state = .tracking ∧ (r.track m d now load).1.lastMark = now ∧
    (r.track m d now load).1.clock.rate =
      clampInt (-Config.rateLimit) Config.rateLimit (toSigned 32 (msgWord m 4)) ∧
    (r.state = .cold ∨ load = true ∨ (r.firstOfSource = some (msgSrc m) ∧ e.natAbs ≤ twoNs) ∨
        (r.state = .flywheel ∧ twoNs < e.natAbs) ∨
        (r.state = .tracking ∧ twoNs < e.natAbs ∧ r.largeErrors = 3) →
      (r.track m d now load).1.clock.counting = true ∧ (r.track m d now load).1.clock.read now = trueAcc m d ∧
      (r.track m d now load).1.firstOfSource = none) ∧
    (r.state ≠ .cold → load = false → r.firstOfSource ≠ some (msgSrc m) → e.natAbs ≤ twoNs →
      (r.track m d now load).1.clock.slew = e ∧ (r.track m d now load).2 = false ∧
      (r.track m d now load).1.firstOfSource = r.firstOfSource) ∧
    (r.state = .tracking → load = false → twoNs < e.natAbs → r.largeErrors ≠ 3 →
      (r.track m d now load).1.largeErrors = r.largeErrors + 1 ∧ (r.track m d now load).2 = false) ∧
    ((r.track m d now load).2 = true ↔ (r.state = .flywheel ∧ (load = true ∨ twoNs < e.natAbs)) ∨
      (r.state = .tracking ∧ load = false ∧ twoNs < e.natAbs ∧ r.largeErrors = 3))
end

