-- ==== Sys2Proof/Laws/Frame.lean ====
section
/-!
SUPPORT. Laws of `Changes`: which parts of the state an operation may change.
-/
namespace Sys2Proof.Machine

theorem Changes.refl (ps : List Part) (s : State) : Changes ps s s := by
  intro p _; cases p <;> rfl

theorem Changes.trans {ps : List Part} {s t u : State} (h : Changes ps s t) (k : Changes ps t u) : Changes ps s u := by
  intro p hp
  have a := h p hp
  have b := k p hp
  cases p <;> exact Eq.trans b a

theorem Changes.mono {ps qs : List Part} {s t : State} (h : Changes ps s t) (sub : ps ⊆ qs) : Changes qs s t :=
  fun p hp => h p fun hm => hp (sub hm)

theorem Changes.ite {ps : List Part} {s a b : State} {c : Prop} [Decidable c] (h : Changes ps s a)
    (k : Changes ps s b) : Changes ps s (if c then a else b) := by
  split <;> assumption

theorem Changes.foldl {α : Type} {ps : List Part} {s : State} (f : State → α → State)
    (h : ∀ a x, Changes ps s a → Changes ps s (f a x)) (l : List α) (a : State) (ha : Changes ps s a) :
    Changes ps s (l.foldl f a) := by
  induction l generalizing a with
  | nil => exact ha
  | cons x l ih => exact ih (f a x) (h a x ha)

theorem Changes.foldlReply {α : Type} {ps : List Part} {s : State} (f : Reply → α → Reply)
    (h : ∀ a x, Changes ps s a.state → Changes ps s (f a x).state) (l : List α) (a : Reply)
    (ha : Changes ps s a.state) : Changes ps s (l.foldl f a).state := by
  induction l generalizing a with
  | nil => exact ha
  | cons x l ih => exact ih (f a x) (h a x ha)

theorem Changes.foldlFst {α β : Type} {ps : List Part} {s : State} (f : State × β → α → State × β)
    (h : ∀ a x, Changes ps s a.1 → Changes ps s (f a x).1) (l : List α) (a : State × β)
    (ha : Changes ps s a.1) : Changes ps s (l.foldl f a).1 := by
  induction l generalizing a with
  | nil => exact ha
  | cons x l ih => exact ih (f a x) (h a x ha)

theorem Changes.step {ps qs : List Part} {s t u : State} (h : Changes ps s t) (k : Changes qs t u) (sub : qs ⊆ ps) :
    Changes ps s u := h.trans (k.mono sub)

theorem Changes.onlyIf {ps : List Part} {s t : State} (c : Bool) (f : State → State) (h : Changes ps s t)
    (k : ∀ a, Changes ps s a → Changes ps s (f a)) : Changes ps s (t.onlyIf c f) := by
  unfold State.onlyIf
  split
  · exact k t h
  · exact h

theorem Changes.ofFst {α : Type} {ps : List Part} {s a : State} {b : α} {p : State × α} (h : Changes ps s p.1)
    (e : p = (a, b)) : Changes ps s a := by
  subst e; exact h

/-- A record update: each part is listed, or stays. -/
theorem Changes.mk {ps : List Part} {s x : State} {a1 a2 a3 a4 a5 a6 a7 a8 a9 a10 a11 a12 a13 a14 a15 a16 a17 a18 a19 a20 a21 a22 a23 a24 a25 a26 a27 a28 a29 a30 a31 a32 a33 a34} (h : Changes ps s x)
    (e1 : Part.elapsed ∈ ps ∨ a1 = x.elapsed)
    (e2 : Part.emitted ∈ ps ∨ a2 = x.emitted)
    (e3 : Part.freeCount ∈ ps ∨ a3 = x.freeCount)
    (e4 : Part.fuses ∈ ps ∨ a4 = x.fuses)
    (e5 : Part.topo ∈ ps ∨ a5 = x.topo)
    (e6 : Part.hub ∈ ps ∨ a6 = x.hub)
    (e7 : Part.tb ∈ ps ∨ a7 = x.tb)
    (e8 : Part.wireA ∈ ps ∨ a8 = x.wireA)
    (e9 : Part.wireR ∈ ps ∨ a9 = x.wireR)
    (e10 : Part.pod ∈ ps ∨ a10 = x.pod)
    (e11 : Part.frame ∈ ps ∨ a11 = x.frame)
    (e12 : Part.sched ∈ ps ∨ a12 = x.sched)
    (e13 : Part.units ∈ ps ∨ a13 = x.units)
    (e14 : Part.qu ∈ ps ∨ a14 = x.qu)
    (e15 : Part.podCut ∈ ps ∨ a15 = x.podCut)
    (e16 : Part.dump ∈ ps ∨ a16 = x.dump)
    (e17 : Part.hang ∈ ps ∨ a17 = x.hang)
    (e18 : Part.fm ∈ ps ∨ a18 = x.fm)
    (e19 : Part.adm ∈ ps ∨ a19 = x.adm)
    (e20 : Part.bar ∈ ps ∨ a20 = x.bar)
    (e21 : Part.trace ∈ ps ∨ a21 = x.trace)
    (e22 : Part.power ∈ ps ∨ a22 = x.power)
    (e23 : Part.rst ∈ ps ∨ a23 = x.rst)
    (e24 : Part.backup ∈ ps ∨ a24 = x.backup)
    (e25 : Part.flash ∈ ps ∨ a25 = x.flash)
    (e26 : Part.logSeq ∈ ps ∨ a26 = x.logSeq)
    (e27 : Part.imageIds ∈ ps ∨ a27 = x.imageIds)
    (e28 : Part.eventSeqs ∈ ps ∨ a28 = x.eventSeqs)
    (e29 : Part.log ∈ ps ∨ a29 = x.log)
    (e30 : Part.port ∈ ps ∨ a30 = x.port)
    (e31 : Part.fw ∈ ps ∨ a31 = x.fw)
    (e32 : Part.lc ∈ ps ∨ a32 = x.lc)
    (e33 : Part.pins ∈ ps ∨ a33 = x.pins)
    (e34 : Part.dram ∈ ps ∨ a34 = x.dram) :
    Changes ps s (State.mk x.pending a1 a2 a3 a4 a5 a6 a7 a8 a9 a10 a11 a12 a13 a14 a15 a16 a17 a18 a19 a20 a21 a22 a23 a24 a25 a26 a27 a28 a29 a30 a31 a32 a33 a34) := by
  refine h.trans ?_
  intro p hp
  cases p
  · rfl
  · exact e1.resolve_left hp
  · exact e2.resolve_left hp
  · exact e3.resolve_left hp
  · exact e4.resolve_left hp
  · exact e5.resolve_left hp
  · exact e6.resolve_left hp
  · exact e7.resolve_left hp
  · exact e8.resolve_left hp
  · exact e9.resolve_left hp
  · exact e10.resolve_left hp
  · exact e11.resolve_left hp
  · exact e12.resolve_left hp
  · exact e13.resolve_left hp
  · exact e14.resolve_left hp
  · exact e15.resolve_left hp
  · exact e16.resolve_left hp
  · exact e17.resolve_left hp
  · exact e18.resolve_left hp
  · exact e19.resolve_left hp
  · exact e20.resolve_left hp
  · exact e21.resolve_left hp
  · exact e22.resolve_left hp
  · exact e23.resolve_left hp
  · exact e24.resolve_left hp
  · exact e25.resolve_left hp
  · exact e26.resolve_left hp
  · exact e27.resolve_left hp
  · exact e28.resolve_left hp
  · exact e29.resolve_left hp
  · exact e30.resolve_left hp
  · exact e31.resolve_left hp
  · exact e32.resolve_left hp
  · exact e33.resolve_left hp
  · exact e34.resolve_left hp

/-- A record update of `x`, marked so that rewriting finds it by its form alone. -/
structure Changes.Upd (ps : List Part) (s x t : State) : Prop where
  prf : Changes ps s t

theorem Changes.mk_eq_upd {ps : List Part} {s x : State} {a1 a2 a3 a4 a5 a6 a7 a8 a9 a10 a11 a12 a13 a14 a15 a16 a17 a18 a19 a20 a21 a22 a23 a24 a25 a26 a27 a28 a29 a30 a31 a32 a33 a34} :
    Changes ps s (State.mk x.pending a1 a2 a3 a4 a5 a6 a7 a8 a9 a10 a11 a12 a13 a14 a15 a16 a17 a18 a19 a20 a21 a22 a23 a24 a25 a26 a27 a28 a29 a30 a31 a32 a33 a34) =
      Changes.Upd ps s x (State.mk x.pending a1 a2 a3 a4 a5 a6 a7 a8 a9 a10 a11 a12 a13 a14 a15 a16 a17 a18 a19 a20 a21 a22 a23 a24 a25 a26 a27 a28 a29 a30 a31 a32 a33 a34) :=
  propext ⟨fun h => ⟨h⟩, fun h => h.prf⟩

theorem Changes.upd {ps : List Part} {s x : State} {a1 a2 a3 a4 a5 a6 a7 a8 a9 a10 a11 a12 a13 a14 a15 a16 a17 a18 a19 a20 a21 a22 a23 a24 a25 a26 a27 a28 a29 a30 a31 a32 a33 a34} (h : Changes ps s x)
    (e1 : Part.elapsed ∈ ps ∨ a1 = x.elapsed)
    (e2 : Part.emitted ∈ ps ∨ a2 = x.emitted)
    (e3 : Part.freeCount ∈ ps ∨ a3 = x.freeCount)
    (e4 : Part.fuses ∈ ps ∨ a4 = x.fuses)
    (e5 : Part.topo ∈ ps ∨ a5 = x.topo)
    (e6 : Part.hub ∈ ps ∨ a6 = x.hub)
    (e7 : Part.tb ∈ ps ∨ a7 = x.tb)
    (e8 : Part.wireA ∈ ps ∨ a8 = x.wireA)
    (e9 : Part.wireR ∈ ps ∨ a9 = x.wireR)
    (e10 : Part.pod ∈ ps ∨ a10 = x.pod)
    (e11 : Part.frame ∈ ps ∨ a11 = x.frame)
    (e12 : Part.sched ∈ ps ∨ a12 = x.sched)
    (e13 : Part.units ∈ ps ∨ a13 = x.units)
    (e14 : Part.qu ∈ ps ∨ a14 = x.qu)
    (e15 : Part.podCut ∈ ps ∨ a15 = x.podCut)
    (e16 : Part.dump ∈ ps ∨ a16 = x.dump)
    (e17 : Part.hang ∈ ps ∨ a17 = x.hang)
    (e18 : Part.fm ∈ ps ∨ a18 = x.fm)
    (e19 : Part.adm ∈ ps ∨ a19 = x.adm)
    (e20 : Part.bar ∈ ps ∨ a20 = x.bar)
    (e21 : Part.trace ∈ ps ∨ a21 = x.trace)
    (e22 : Part.power ∈ ps ∨ a22 = x.power)
    (e23 : Part.rst ∈ ps ∨ a23 = x.rst)
    (e24 : Part.backup ∈ ps ∨ a24 = x.backup)
    (e25 : Part.flash ∈ ps ∨ a25 = x.flash)
    (e26 : Part.logSeq ∈ ps ∨ a26 = x.logSeq)
    (e27 : Part.imageIds ∈ ps ∨ a27 = x.imageIds)
    (e28 : Part.eventSeqs ∈ ps ∨ a28 = x.eventSeqs)
    (e29 : Part.log ∈ ps ∨ a29 = x.log)
    (e30 : Part.port ∈ ps ∨ a30 = x.port)
    (e31 : Part.fw ∈ ps ∨ a31 = x.fw)
    (e32 : Part.lc ∈ ps ∨ a32 = x.lc)
    (e33 : Part.pins ∈ ps ∨ a33 = x.pins)
    (e34 : Part.dram ∈ ps ∨ a34 = x.dram) :
    Changes.Upd ps s x (State.mk x.pending a1 a2 a3 a4 a5 a6 a7 a8 a9 a10 a11 a12 a13 a14 a15 a16 a17 a18 a19 a20 a21 a22 a23 a24 a25 a26 a27 a28 a29 a30 a31 a32 a33 a34) :=
  ⟨.mk h e1 e2 e3 e4 e5 e6 e7 e8 e9 e10 e11 e12 e13 e14 e15 e16 e17 e18 e19 e20 e21 e22 e23 e24 e25 e26 e27 e28 e29 e30 e31 e32 e33 e34⟩

/-- The state that an outcome answers. -/
def outState : Host.Outcome State Fault Refusal → State
  | .next t => t
  | _ => State.reset

theorem Changes.done {ps : List Part} {s0 x : State} (h : Changes ps s0 x) : Changes ps s0 (outState (done x)) := h

end Sys2Proof.Machine
end

