-- ==== Sys2Proof/Laws/FrameOps.lean ====
section
/-!
SUPPORT. Frames of the operations of Machine/Ops.lean: the parts of the state that each may change.
-/
namespace Sys2Proof.Machine

/-- What `State.begin` may change. -/
theorem State.begin_frame {ps : List Part} {s0 : State} (s : State) (dt : Nat) (hst : Changes ps s0 s) (hsub : [.elapsed, .emitted] ⊆ ps) :
    Changes ps s0 (State.begin s dt) := by
  unfold State.begin
  repeat' first
    | with_reducible assumption
    | (simp only [Changes.mk_eq_upd]; (with_reducible apply Changes.upd); (case e1 | e2 => exact Or.inl (hsub (by decide))); all_goals first | with_reducible exact Or.inr rfl | skip)

/-- What `State.emit` may change. -/
theorem State.emit_frame {ps : List Part} {s0 : State} (s : State) (kind : EmitKind) (dest : Nat) (data : List Byte) (hst : Changes ps s0 s) (hsub : [.emitted] ⊆ ps) :
    Changes ps s0 (State.emit s kind dest data) := by
  unfold State.emit
  repeat' first
    | with_reducible assumption
    | (simp only [Changes.mk_eq_upd]; (with_reducible apply Changes.upd); (case e2 => exact Or.inl (hsub (by decide))); all_goals first | with_reducible exact Or.inr rfl | skip)

/-- What `State.emitAll` may change. -/
theorem State.emitAll_frame {ps : List Part} {s0 : State} (s : State) (kind : EmitKind) (dests : List Nat) (data : List Byte) (hst : Changes ps s0 s) (hsub : [.emitted] ⊆ ps) :
    Changes ps s0 (State.emitAll s kind dests data) := by
  unfold State.emitAll
  repeat' first
    | with_reducible assumption
    | (simp only [Changes.mk_eq_upd]; (with_reducible apply Changes.upd); (case e2 => exact Or.inl (hsub (by decide))); all_goals first | with_reducible exact Or.inr rfl | skip)

/-- What `State.drawn` may change. -/
theorem State.drawn_frame {ps : List Part} {s0 : State} (s : State) (hst : Changes ps s0 s) (hsub : [.freeCount] ⊆ ps) :
    Changes ps s0 (State.drawn s) := by
  unfold State.drawn
  repeat' first
    | with_reducible assumption
    | (simp only [Changes.mk_eq_upd]; (with_reducible apply Changes.upd); (case e3 => exact Or.inl (hsub (by decide))); all_goals first | with_reducible exact Or.inr rfl | skip)

/-- What `State.modCore` may change. -/
theorem State.modCore_frame {ps : List Part} {s0 : State} (s : State) (n : Nat) (f : HubCore → HubCore) (hst : Changes ps s0 s) (hsub : [.hub] ⊆ ps) :
    Changes ps s0 (State.modCore s n f) := by
  unfold State.modCore
  repeat' first
    | with_reducible assumption
    | (simp only [Changes.mk_eq_upd]; (with_reducible apply Changes.upd); (case e6 => exact Or.inl (hsub (by decide))); all_goals first | with_reducible exact Or.inr rfl | skip)

/-- What `State.setHealth` may change. -/
theorem State.setHealth_frame {ps : List Part} {s0 : State} (s : State) (uid v : Nat) (hst : Changes ps s0 s) (hsub : [.topo] ⊆ ps) :
    Changes ps s0 (State.setHealth s uid v) := by
  unfold State.setHealth
  repeat' first
    | with_reducible assumption
    | ((fail_if_no_progress extract_lets a1))
    | dsimp only [a1]
    | (simp only [Changes.mk_eq_upd]; (with_reducible apply Changes.upd); (case e5 => exact Or.inl (hsub (by decide))); all_goals first | with_reducible exact Or.inr rfl | skip)

/-- What `State.persist` may change. -/
theorem State.persist_frame {ps : List Part} {s0 : State} (s : State) (hst : Changes ps s0 s) (hsub : [.flash] ⊆ ps) :
    Changes ps s0 (State.persist s) := by
  unfold State.persist
  repeat' first
    | with_reducible assumption
    | ((fail_if_no_progress extract_lets a1))
    | dsimp only [a1]
    | (simp only [Changes.mk_eq_upd]; (with_reducible apply Changes.upd); (case e25 => exact Or.inl (hsub (by decide))); all_goals first | with_reducible exact Or.inr rfl | skip)
    | split

/-- What `State.sendIn` may change. -/
theorem State.sendIn_frame {ps : List Part} {s0 : State} (s : State) (kind : EmitKind) (x : Session) (op flags ref : Nat) (payload : List Byte) (hst : Changes ps s0 s) (hsub : [.emitted, .port] ⊆ ps) :
    Changes ps s0 (State.sendIn s kind x op flags ref payload) := by
  unfold State.sendIn
  repeat' first
    | with_reducible assumption
    | ((with_reducible apply State.emit_frame); (case hsub => exact List.Subset.trans (by decide) hsub))
    | ((fail_if_no_progress extract_lets a1 a2))
    | dsimp only [a1]
    | dsimp only [a2]
    | (simp only [Changes.mk_eq_upd]; (with_reducible apply Changes.upd); (case e2 | e30 => exact Or.inl (hsub (by decide))); all_goals first | with_reducible exact Or.inr rfl | skip)

/-- What `State.pumpSession` may change. -/
theorem State.pumpSession_frame {ps : List Part} {s0 : State} (s : State) (id : Nat) (n0 : Nat) (hst : Changes ps s0 s) (hsub : [.emitted, .port] ⊆ ps) :
    Changes ps s0 (State.pumpSession s id n0) := by
  induction n0 generalizing s id with
  | zero => exact hst
  | succ n ih =>
  rw [State.pumpSession]
  repeat' first
    | with_reducible assumption
    | ((with_reducible apply State.emit_frame); (case hsub => exact List.Subset.trans (by decide) hsub))
    | with_reducible apply ih
    | with_reducible apply Changes.ite
    | (simp only [Changes.mk_eq_upd]; (with_reducible apply Changes.upd); (case e2 | e30 => exact Or.inl (hsub (by decide))); all_goals first | with_reducible exact Or.inr rfl | skip)
    | dsimp only
    | split

/-- What `State.queueNotify` may change. -/
theorem State.queueNotify_frame {ps : List Part} {s0 : State} (s : State) (r : LogRec) (x : Session) (hst : Changes ps s0 s) (hsub : [.emitted, .port] ⊆ ps) :
    Changes ps s0 (State.queueNotify s r x) := by
  unfold State.queueNotify
  repeat' first
    | with_reducible assumption
    | ((with_reducible apply State.pumpSession_frame); (case hsub => exact List.Subset.trans (by decide) hsub))
    | with_reducible apply Changes.ite
    | ((fail_if_no_progress extract_lets a1))
    | dsimp only [a1]
    | (simp only [Changes.mk_eq_upd]; (with_reducible apply Changes.upd); (case e2 | e30 => exact Or.inl (hsub (by decide))); all_goals first | with_reducible exact Or.inr rfl | skip)

/-- What `State.notifyAll` may change. -/
theorem State.notifyAll_frame {ps : List Part} {s0 : State} (s : State) (r : LogRec) (hst : Changes ps s0 s) (hsub : [.emitted, .port] ⊆ ps) :
    Changes ps s0 (State.notifyAll s r) := by
  unfold State.notifyAll
  repeat' first
    | with_reducible assumption
    | ((with_reducible apply State.queueNotify_frame); (case hsub => exact List.Subset.trans (by decide) hsub))
    | ((with_reducible apply Changes.foldl); (case' h => intro a x ha; try dsimp only))
    | split

/-- What `State.numberRecord` may change. -/
theorem State.numberRecord_frame {ps : List Part} {s0 : State} (s : State) (r : LogRec) (notify : Bool) (hst : Changes ps s0 s) (hsub : [.emitted, .flash, .logSeq, .log, .port] ⊆ ps) :
    Changes ps s0 (State.numberRecord s r notify) := by
  unfold State.numberRecord
  repeat' first
    | with_reducible assumption
    | ((with_reducible apply State.notifyAll_frame); (case hsub => exact List.Subset.trans (by decide) hsub))
    | ((with_reducible apply State.persist_frame); (case hsub => exact List.Subset.trans (by decide) hsub))
    | with_reducible apply Changes.ite
    | (simp only [Changes.mk_eq_upd]; (with_reducible apply Changes.upd); (case e2 | e25 | e26 | e29 | e30 => exact Or.inl (hsub (by decide))); all_goals first | with_reducible exact Or.inr rfl | skip)

/-- What `State.writeLastWords` may change. -/
theorem State.writeLastWords_frame {ps : List Part} {s0 : State} (s : State) (writer code : Nat) (detail : List Byte) (hst : Changes ps s0 s) (hsub : [.backup] ⊆ ps) :
    Changes ps s0 (State.writeLastWords s writer code detail) := by
  unfold State.writeLastWords
  repeat' first
    | with_reducible assumption
    | ((fail_if_no_progress extract_lets a1 a2))
    | dsimp only [a1]
    | dsimp only [a2]
    | (simp only [Changes.mk_eq_upd]; (with_reducible apply Changes.upd); (case e24 => exact Or.inl (hsub (by decide))); all_goals first | with_reducible exact Or.inr rfl | skip)

/-- What `State.note` may change. -/
theorem State.note_frame {ps : List Part} {s0 : State} (s : State) (code : Nat) (detail : List Byte) (urgent notify : Bool) (hst : Changes ps s0 s) (hsub : [.emitted, .backup, .flash, .logSeq, .log, .port] ⊆ ps) :
    Changes ps s0 (State.note s code detail urgent notify) := by
  unfold State.note
  repeat' first
    | with_reducible assumption
    | ((with_reducible apply State.numberRecord_frame); (case hsub => exact List.Subset.trans (by decide) hsub))
    | ((with_reducible apply State.writeLastWords_frame); (case hsub => exact List.Subset.trans (by decide) hsub))
    | with_reducible apply Changes.ite
    | ((fail_if_no_progress extract_lets a1))
    | dsimp only [a1]
    | (simp only [Changes.mk_eq_upd]; (with_reducible apply Changes.upd); (case e2 | e24 | e25 | e26 | e29 | e30 => exact Or.inl (hsub (by decide))); all_goals first | with_reducible exact Or.inr rfl | skip)

/-- What `State.logged` may change. -/
theorem State.logged_frame {ps : List Part} {s0 : State} (s : State) (code : Nat) (detail : List Byte) (hst : Changes ps s0 s) (hsub : [.emitted, .backup, .flash, .logSeq, .log, .port] ⊆ ps) :
    Changes ps s0 (State.logged s code detail) := by
  unfold State.logged
  repeat' first
    | with_reducible assumption
    | ((with_reducible apply State.note_frame); (case hsub => exact List.Subset.trans (by decide) hsub))

/-- What `State.told` may change. -/
theorem State.told_frame {ps : List Part} {s0 : State} (s : State) (code : Nat) (detail : List Byte) (hst : Changes ps s0 s) (hsub : [.emitted, .backup, .flash, .logSeq, .log, .port] ⊆ ps) :
    Changes ps s0 (State.told s code detail) := by
  unfold State.told
  repeat' first
    | with_reducible assumption
    | ((with_reducible apply State.note_frame); (case hsub => exact List.Subset.trans (by decide) hsub))

/-- What `State.urged` may change. -/
theorem State.urged_frame {ps : List Part} {s0 : State} (s : State) (code : Nat) (detail : List Byte) (hst : Changes ps s0 s) (hsub : [.emitted, .backup, .flash, .logSeq, .log, .port] ⊆ ps) :
    Changes ps s0 (State.urged s code detail) := by
  unfold State.urged
  repeat' first
    | with_reducible assumption
    | ((with_reducible apply State.note_frame); (case hsub => exact List.Subset.trans (by decide) hsub))

/-- What `State.drainLog` may change. -/
theorem State.drainLog_frame {ps : List Part} {s0 : State} (s : State) (n0 : Nat) (hst : Changes ps s0 s) (hsub : [.emitted, .flash, .logSeq, .log, .port] ⊆ ps) :
    Changes ps s0 (State.drainLog s n0) := by
  induction n0 generalizing s with
  | zero => exact hst
  | succ n ih =>
  rw [State.drainLog]
  repeat' first
    | with_reducible assumption
    | ((with_reducible apply State.numberRecord_frame); (case hsub => exact List.Subset.trans (by decide) hsub))
    | with_reducible apply ih
    | with_reducible apply Changes.ite
    | ((fail_if_no_progress extract_lets a1))
    | dsimp only [a1]
    | (simp only [Changes.mk_eq_upd]; (with_reducible apply Changes.upd); (case e2 | e25 | e26 | e29 | e30 => exact Or.inl (hsub (by decide))); all_goals first | with_reducible exact Or.inr rfl | skip)
    | split

/-- What `State.endToken` may change. -/
theorem State.endToken_frame {ps : List Part} {s0 : State} (s : State) (x : Session) (hst : Changes ps s0 s) (hsub : [.emitted, .backup, .flash, .logSeq, .log, .port] ⊆ ps) :
    Changes ps s0 (State.endToken s x) := by
  unfold State.endToken
  repeat' first
    | with_reducible assumption
    | ((with_reducible apply State.logged_frame); (case hsub => exact List.Subset.trans (by decide) hsub))
    | split

/-- What `State.endTokens` may change. -/
theorem State.endTokens_frame {ps : List Part} {s0 : State} (s : State) (hst : Changes ps s0 s) (hsub : [.emitted, .backup, .flash, .logSeq, .log, .port] ⊆ ps) :
    Changes ps s0 (State.endTokens s) := by
  unfold State.endTokens
  repeat' first
    | with_reducible assumption
    | ((with_reducible apply State.endToken_frame); (case hsub => exact List.Subset.trans (by decide) hsub))
    | (simp only [Changes.mk_eq_upd]; (with_reducible apply Changes.upd); (case e2 | e24 | e25 | e26 | e29 | e30 => exact Or.inl (hsub (by decide))); all_goals first | with_reducible exact Or.inr rfl | skip)
    | ((with_reducible apply Changes.foldl); (case' h => intro a x ha; try dsimp only))

/-- What `State.closeSession` may change. -/
theorem State.closeSession_frame {ps : List Part} {s0 : State} (s : State) (id : Nat) (hst : Changes ps s0 s) (hsub : [.emitted, .tb, .frame, .backup, .flash, .logSeq, .log, .port] ⊆ ps) :
    Changes ps s0 (State.closeSession s id) := by
  unfold State.closeSession
  repeat' first
    | with_reducible assumption
    | ((with_reducible apply State.endToken_frame); (case hsub => exact List.Subset.trans (by decide) hsub))
    | ((fail_if_no_progress extract_lets))
    | (simp only [Changes.mk_eq_upd]; (with_reducible apply Changes.upd); (case e2 | e7 | e11 | e24 | e25 | e26 | e29 | e30 => exact Or.inl (hsub (by decide))); all_goals first | with_reducible exact Or.inr rfl | skip)
    | split
    | dsimp +zetaDelta only

/-- What `State.closeAll` may change. -/
theorem State.closeAll_frame {ps : List Part} {s0 : State} (s : State) (hst : Changes ps s0 s) (hsub : [.emitted, .tb, .frame, .backup, .flash, .logSeq, .log, .port] ⊆ ps) :
    Changes ps s0 (State.closeAll s) := by
  unfold State.closeAll
  repeat' first
    | with_reducible assumption
    | ((with_reducible apply State.closeSession_frame); (case hsub => exact List.Subset.trans (by decide) hsub))
    | ((with_reducible apply Changes.foldl); (case' h => intro a x ha; try dsimp only))

/-- What `State.each` may change. -/
theorem State.each_frame {ps : List Part} {s0 : State} {α : Type} (s : State) (l : List α) (f : State → α → State) (hst : Changes ps s0 s) (h_f : ∀ (x0 : State) (x1 : α), Changes ps s0 x0 → Changes ps s0 (f x0 x1)) (hsub : [] ⊆ ps) :
    Changes ps s0 (State.each s l f) := by
  unfold State.each
  repeat' first
    | with_reducible assumption
    | with_reducible apply h_f
    | ((with_reducible apply Changes.foldl); (case' h => intro a x ha; try dsimp only))

/-- What `State.onlyIf` may change. -/
theorem State.onlyIf_frame {ps : List Part} {s0 : State} (s : State) (c : Bool) (f : State → State) (hst : Changes ps s0 s) (h_f : ∀ (x0 : State), Changes ps s0 x0 → Changes ps s0 (f x0)) (hsub : [] ⊆ ps) :
    Changes ps s0 (State.onlyIf s c f) := by
  unfold State.onlyIf
  repeat' first
    | with_reducible assumption
    | with_reducible apply h_f
    | with_reducible apply Changes.ite

end Sys2Proof.Machine
end

