-- ==== Sys2Proof/Laws/FrameServe.lean ====
section
/-!
SUPPORT. Frames of the operations of Machine/Serve.lean: the parts of the state that each may change.
-/
namespace Sys2Proof.Machine

/-- What `State.admitReq` may change. -/
theorem State.admitReq_frame {ps : List Part} {s0 : State} (s : State) (r : Req) (hst : Changes ps s0 s) (hsub : [.emitted, .port] ⊆ ps) :
    Changes ps s0 ((State.admitReq s r).1) := by
  unfold State.admitReq
  repeat' first
    | with_reducible assumption
    | ((with_reducible apply State.sendIn_frame); (case hsub => exact List.Subset.trans (by decide) hsub))
    | ((fail_if_no_progress extract_lets a1))
    | dsimp only [a1]
    | (simp only [Changes.mk_eq_upd]; (with_reducible apply Changes.upd); (case e2 | e30 => exact Or.inl (hsub (by decide))); all_goals first | with_reducible exact Or.inr rfl | skip)
    | split

/-- What `State.answerFlags` may change. -/
theorem State.answerFlags_frame {ps : List Part} {s0 : State} (s : State) (c : Ctx) (flags status : Nat) (data : List Byte) (hst : Changes ps s0 s) (hsub : [.emitted, .tb, .frame, .backup, .flash, .logSeq, .log, .port] ⊆ ps) :
    Changes ps s0 (State.answerFlags s c flags status data) := by
  unfold State.answerFlags
  repeat' first
    | with_reducible assumption
    | ((with_reducible apply State.closeSession_frame); (case hsub => exact List.Subset.trans (by decide) hsub))
    | ((with_reducible apply State.emit_frame); (case hsub => exact List.Subset.trans (by decide) hsub))
    | ((with_reducible apply State.sendIn_frame); (case hsub => exact List.Subset.trans (by decide) hsub))
    | with_reducible apply Changes.ite
    | ((fail_if_no_progress extract_lets a1))
    | dsimp only [a1]
    | (simp only [Changes.mk_eq_upd]; (with_reducible apply Changes.upd); (case e2 | e7 | e11 | e24 | e25 | e26 | e29 | e30 => exact Or.inl (hsub (by decide))); all_goals first | with_reducible exact Or.inr rfl | skip)
    | split

/-- What `State.answer` may change. -/
theorem State.answer_frame {ps : List Part} {s0 : State} (s : State) (c : Ctx) (status : Nat) (data : List Byte) (hst : Changes ps s0 s) (hsub : [.emitted, .tb, .frame, .backup, .flash, .logSeq, .log, .port] ⊆ ps) :
    Changes ps s0 (State.answer s c status data) := by
  unfold State.answer
  repeat' first
    | with_reducible assumption
    | ((with_reducible apply State.answerFlags_frame); (case hsub => exact List.Subset.trans (by decide) hsub))

/-- What `State.refuse` may change. -/
theorem State.refuse_frame {ps : List Part} {s0 : State} (s : State) (code : Nat) (hst : Changes ps s0 s) (hsub : [] ⊆ ps) :
    Changes ps s0 ((State.refuse s code).state) := by
  unfold State.refuse
  repeat' with_reducible assumption

/-- What `State.accept` may change. -/
theorem State.accept_frame {ps : List Part} {s0 : State} (s : State) (hst : Changes ps s0 s) (hsub : [] ⊆ ps) :
    Changes ps s0 ((State.accept s).state) := by
  unfold State.accept
  repeat' with_reducible assumption

/-- What `State.serve` may change. -/
theorem State.serve_frame {ps : List Part} {s0 : State} (s : State) (r : Req) (idx sub : Nat) (w : Way) (f : Ctx → State → Reply) (hst : Changes ps s0 s) (h_f : ∀ (x0 : Ctx) (x1 : State), Changes ps s0 x1 → Changes ps s0 ((f x0 x1).state)) (hsub : [.emitted, .tb, .frame, .backup, .flash, .logSeq, .log, .port] ⊆ ps) :
    Changes ps s0 (State.serve s r idx sub w f) := by
  unfold State.serve
  repeat' first
    | with_reducible assumption
    | with_reducible apply h_f
    | ((with_reducible apply State.admitReq_frame); (case hsub => exact List.Subset.trans (by decide) hsub))
    | ((with_reducible apply State.answer_frame); (case hsub => exact List.Subset.trans (by decide) hsub))
    | ((with_reducible apply State.answerFlags_frame); (case hsub => exact List.Subset.trans (by decide) hsub))
    | with_reducible apply Changes.ite
    | (with_reducible apply Changes.ofFst; rotate_left; (with_reducible assumption))
    | dsimp only
    | split

/-- What `State.serveAny` may change. -/
theorem State.serveAny_frame {ps : List Part} {s0 : State} (s : State) (r : Req) (f : Ctx → State → Reply) (hst : Changes ps s0 s) (h_f : ∀ (x0 : Ctx) (x1 : State), Changes ps s0 x1 → Changes ps s0 ((f x0 x1).state)) (hsub : [.emitted, .tb, .frame, .backup, .flash, .logSeq, .log, .port] ⊆ ps) :
    Changes ps s0 (State.serveAny s r f) := by
  unfold State.serveAny
  repeat' first
    | with_reducible assumption
    | with_reducible apply h_f
    | ((with_reducible apply State.admitReq_frame); (case hsub => exact List.Subset.trans (by decide) hsub))
    | ((with_reducible apply State.answer_frame); (case hsub => exact List.Subset.trans (by decide) hsub))
    | (with_reducible apply Changes.ofFst; rotate_left; (with_reducible assumption))
    | dsimp only
    | split

/-- What `State.serveThen` may change. -/
theorem State.serveThen_frame {ps : List Part} {s0 : State} (s : State) (r : Req) (idx sub : Nat) (w : Way) (check : Ctx → State → State × Option Nat) (effect : Ctx → State → State) (hst : Changes ps s0 s) (h_check : ∀ (x0 : Ctx) (x1 : State), Changes ps s0 x1 → Changes ps s0 ((check x0 x1).1)) (h_effect : ∀ (x0 : Ctx) (x1 : State), Changes ps s0 x1 → Changes ps s0 (effect x0 x1)) (hsub : [.emitted, .tb, .frame, .backup, .flash, .logSeq, .log, .port] ⊆ ps) :
    Changes ps s0 (State.serveThen s r idx sub w check effect) := by
  unfold State.serveThen
  repeat' first
    | with_reducible assumption
    | with_reducible apply h_check
    | with_reducible apply h_effect
    | ((with_reducible apply State.admitReq_frame); (case hsub => exact List.Subset.trans (by decide) hsub))
    | ((with_reducible apply State.answer_frame); (case hsub => exact List.Subset.trans (by decide) hsub))
    | (with_reducible apply Changes.ofFst; rotate_left; (with_reducible assumption))
    | split

end Sys2Proof.Machine
end

