-- ==== Sys2Proof/Laws/FrameBlockOps.lean ====
section
/-!
SUPPORT. Frames of the operations of Machine/BlockOps.lean: the parts of the state that each may change.
-/
namespace Sys2Proof.Machine

/-- What `State.dropBlock` may change. -/
theorem State.dropBlock_frame {ps : List Part} {s0 : State} (s : State) (id : Nat) (hst : Changes ps s0 s) (hsub : [.port] ⊆ ps) :
    Changes ps s0 (State.dropBlock s id) := by
  unfold State.dropBlock
  repeat' first
    | with_reducible assumption
    | ((fail_if_no_progress extract_lets a1))
    | dsimp only [a1]
    | (simp only [Changes.mk_eq_upd]; (with_reducible apply Changes.upd); (case e30 => exact Or.inl (hsub (by decide))); all_goals first | with_reducible exact Or.inr rfl | skip)

/-- What `State.pumpBlock` may change. -/
theorem State.pumpBlock_frame {ps : List Part} {s0 : State} (s : State) (id : Nat) (n0 : Nat) (hst : Changes ps s0 s) (hsub : [.emitted, .freeCount, .port] ⊆ ps) :
    Changes ps s0 (State.pumpBlock s id n0) := by
  induction n0 generalizing s id with
  | zero => exact hst
  | succ n ih =>
  rw [State.pumpBlock]
  repeat' first
    | with_reducible assumption
    | ((with_reducible apply State.drawn_frame); (case hsub => exact List.Subset.trans (by decide) hsub))
    | ((with_reducible apply State.emit_frame); (case hsub => exact List.Subset.trans (by decide) hsub))
    | ((with_reducible apply State.sendIn_frame); (case hsub => exact List.Subset.trans (by decide) hsub))
    | with_reducible apply ih
    | with_reducible apply Changes.ite
    | (simp only [Changes.mk_eq_upd]; (with_reducible apply Changes.upd); (case e2 | e3 | e30 => exact Or.inl (hsub (by decide))); all_goals first | with_reducible exact Or.inr rfl | skip)
    | dsimp only
    | split

/-- What `State.openBlock` may change. -/
theorem State.openBlock_frame {ps : List Part} {s0 : State} (s : State) (c : Ctx) (idx sub : Nat) (write : Bool) (off total : Nat) (bytes : List Byte) (image : Nat) (hst : Changes ps s0 s) (hsub : [.port] ⊆ ps) :
    Changes ps s0 ((State.openBlock s c idx sub write off total bytes image).state) := by
  unfold State.openBlock
  repeat' first
    | with_reducible assumption
    | ((fail_if_no_progress extract_lets a1 a2 a3))
    | dsimp only [a1]
    | dsimp only [a2]
    | dsimp only [a3]
    | (simp only [Changes.mk_eq_upd]; (with_reducible apply Changes.upd); (case e30 => exact Or.inl (hsub (by decide))); all_goals first | with_reducible exact Or.inr rfl | skip)

/-- What `State.openRead` may change. -/
theorem State.openRead_frame {ps : List Part} {s0 : State} (s : State) (c : Ctx) (idx sub off len : Nat) (value : List Byte) (hst : Changes ps s0 s) (hsub : [.port] ⊆ ps) :
    Changes ps s0 ((State.openRead s c idx sub off len value).state) := by
  unfold State.openRead
  repeat' first
    | with_reducible assumption
    | ((with_reducible apply State.openBlock_frame); (case hsub => exact List.Subset.trans (by decide) hsub))
    | ((with_reducible apply State.refuse_frame); (case hsub => exact List.Subset.trans (by decide) hsub))
    | ((fail_if_no_progress extract_lets a1 a2))
    | dsimp only [a1]
    | dsimp only [a2]
    | split

/-- What `State.serveRead` may change. -/
theorem State.serveRead_frame {ps : List Part} {s0 : State} (s : State) (r : Req) (idx sub off len : Nat) (f : Ctx → State → State × Nat × List Byte) (hst : Changes ps s0 s) (h_f : ∀ (x0 : Ctx) (x1 : State), Changes ps s0 x1 → Changes ps s0 ((f x0 x1).1)) (hsub : [.emitted, .freeCount, .tb, .frame, .backup, .flash, .logSeq, .log, .port] ⊆ ps) :
    Changes ps s0 (State.serveRead s r idx sub off len f) := by
  unfold State.serveRead
  repeat' first
    | with_reducible assumption
    | with_reducible apply h_f
    | ((with_reducible apply State.openRead_frame); (case hsub => exact List.Subset.trans (by decide) hsub))
    | ((with_reducible apply State.pumpBlock_frame); (case hsub => exact List.Subset.trans (by decide) hsub))
    | ((with_reducible apply State.refuse_frame); (case hsub => exact List.Subset.trans (by decide) hsub))
    | ((with_reducible apply State.serve_frame); (case' h_f => intro y0 y1 hy); (case hsub => exact List.Subset.trans (by decide) hsub))
    | dsimp only
    | split

/-- What `State.endBlocks` may change. -/
theorem State.endBlocks_frame {ps : List Part} {s0 : State} (s : State) (p : Block → Bool) (hst : Changes ps s0 s) (hsub : [.port] ⊆ ps) :
    Changes ps s0 (State.endBlocks s p) := by
  unfold State.endBlocks
  repeat' first
    | with_reducible assumption
    | ((fail_if_no_progress extract_lets a1))
    | dsimp only [a1]
    | (simp only [Changes.mk_eq_upd]; (with_reducible apply Changes.upd); (case e30 => exact Or.inl (hsub (by decide))); all_goals first | with_reducible exact Or.inr rfl | skip)

end Sys2Proof.Machine
end

