-- ==== Sys2Proof/Laws/FrameOperands.lean ====
section
/-!
SUPPORT. Frames of the operations of Machine/Operands.lean: the parts of the state that each may change.
-/
namespace Sys2Proof.Machine

/-- What `State.modTap` may change. -/
theorem State.modTap_frame {ps : List Part} {s0 : State} (s : State) (c : Nat) (f : Tap → Tap) (hst : Changes ps s0 s) (hsub : [.units] ⊆ ps) :
    Changes ps s0 (State.modTap s c f) := by
  unfold State.modTap
  repeat' first
    | with_reducible assumption
    | ((fail_if_no_progress extract_lets a1))
    | dsimp only [a1]
    | (simp only [Changes.mk_eq_upd]; (with_reducible apply Changes.upd); (case e13 => exact Or.inl (hsub (by decide))); all_goals first | with_reducible exact Or.inr rfl | skip)

/-- What `State.modRunner` may change. -/
theorem State.modRunner_frame {ps : List Part} {s0 : State} (s : State) (die : Nat) (f : Runner → Runner) (hst : Changes ps s0 s) (hsub : [.units] ⊆ ps) :
    Changes ps s0 (State.modRunner s die f) := by
  unfold State.modRunner
  repeat' first
    | with_reducible assumption
    | ((fail_if_no_progress extract_lets a1))
    | dsimp only [a1]
    | (simp only [Changes.mk_eq_upd]; (with_reducible apply Changes.upd); (case e13 => exact Or.inl (hsub (by decide))); all_goals first | with_reducible exact Or.inr rfl | skip)

/-- What `State.modGroup` may change. -/
theorem State.modGroup_frame {ps : List Part} {s0 : State} (s : State) (g : Nat) (f : NetGroup → NetGroup) (hst : Changes ps s0 s) (hsub : [.units] ⊆ ps) :
    Changes ps s0 (State.modGroup s g f) := by
  unfold State.modGroup
  repeat' first
    | with_reducible assumption
    | ((fail_if_no_progress extract_lets a1))
    | dsimp only [a1]
    | (simp only [Changes.mk_eq_upd]; (with_reducible apply Changes.upd); (case e13 => exact Or.inl (hsub (by decide))); all_goals first | with_reducible exact Or.inr rfl | skip)

/-- What `State.modPort` may change. -/
theorem State.modPort_frame {ps : List Part} {s0 : State} (s : State) (p : Nat) (f : OptPort → OptPort) (hst : Changes ps s0 s) (hsub : [.units] ⊆ ps) :
    Changes ps s0 (State.modPort s p f) := by
  unfold State.modPort
  repeat' first
    | with_reducible assumption
    | ((fail_if_no_progress extract_lets a1))
    | dsimp only [a1]
    | (simp only [Changes.mk_eq_upd]; (with_reducible apply Changes.upd); (case e13 => exact Or.inl (hsub (by decide))); all_goals first | with_reducible exact Or.inr rfl | skip)

/-- What `State.modReplica` may change. -/
theorem State.modReplica_frame {ps : List Part} {s0 : State} (s : State) (uid : Nat) (f : Replica → Replica) (hst : Changes ps s0 s) (hsub : [.units] ⊆ ps) :
    Changes ps s0 (State.modReplica s uid f) := by
  unfold State.modReplica
  repeat' first
    | with_reducible assumption
    | ((fail_if_no_progress extract_lets a1))
    | dsimp only [a1]
    | (simp only [Changes.mk_eq_upd]; (with_reducible apply Changes.upd); (case e13 => exact Or.inl (hsub (by decide))); all_goals first | with_reducible exact Or.inr rfl | skip)

end Sys2Proof.Machine
end

