-- ==== Sys2Proof/Laws/FrameFlags.lean ====
section
/-!
SUPPORT. Frames of the operations of Machine/Flags.lean: the parts of the state that each may change.
-/
namespace Sys2Proof.Machine

/-- What `State.cutFlag` may change. -/
theorem State.cutFlag_frame {ps : List Part} {s0 : State} (s : State) (i : Nat) (b : Bool) (hst : Changes ps s0 s) (hsub : [.qu] ⊆ ps) :
    Changes ps s0 (State.cutFlag s i b) := by
  unfold State.cutFlag
  repeat' first
    | with_reducible assumption
    | ((fail_if_no_progress extract_lets a1))
    | dsimp only [a1]
    | (simp only [Changes.mk_eq_upd]; (with_reducible apply Changes.upd); (case e14 => exact Or.inl (hsub (by decide))); all_goals first | with_reducible exact Or.inr rfl | skip)

end Sys2Proof.Machine
end

