-- ==== Sys2Proof/Laws/FrameTopology.lean ====
section
/-!
SUPPORT. Frames of the operations of Machine/Topology.lean: the parts of the state that each may change.
-/
namespace Sys2Proof.Machine

/-- What `State.putRow` may change. -/
theorem State.putRow_frame {ps : List Part} {s0 : State} (s : State) (r : Nat) (x : SpareRow) (hst : Changes ps s0 s) (hsub : [.topo] ⊆ ps) :
    Changes ps s0 (State.putRow s r x) := by
  unfold State.putRow
  repeat' first
    | with_reducible assumption
    | ((fail_if_no_progress extract_lets a1))
    | dsimp only [a1]
    | (simp only [Changes.mk_eq_upd]; (with_reducible apply Changes.upd); (case e5 => exact Or.inl (hsub (by decide))); all_goals first | with_reducible exact Or.inr rfl | skip)

/-- What `State.mapCommitted` may change. -/
theorem State.mapCommitted_frame {ps : List Part} {s0 : State} (s : State) (hst : Changes ps s0 s) (hsub : [.topo] ⊆ ps) :
    Changes ps s0 (State.mapCommitted s) := by
  unfold State.mapCommitted
  repeat' first
    | with_reducible assumption
    | ((fail_if_no_progress extract_lets a1))
    | dsimp only [a1]
    | (simp only [Changes.mk_eq_upd]; (with_reducible apply Changes.upd); (case e5 => exact Or.inl (hsub (by decide))); all_goals first | with_reducible exact Or.inr rfl | skip)

/-- What `State.coreFailed` may change. -/
theorem State.coreFailed_frame {ps : List Part} {s0 : State} (s : State) (uid : Nat) (hst : Changes ps s0 s) (hsub : [.topo] ⊆ ps) :
    Changes ps s0 (State.coreFailed s uid) := by
  unfold State.coreFailed
  repeat' first
    | with_reducible assumption
    | ((with_reducible apply State.putRow_frame); (case hsub => exact List.Subset.trans (by decide) hsub))

/-- What `State.mapStep` may change. -/
theorem State.mapStep_frame {ps : List Part} {s0 : State} (s : State) (hst : Changes ps s0 s) (hsub : [.topo] ⊆ ps) :
    Changes ps s0 (State.mapStep s) := by
  unfold State.mapStep
  repeat' first
    | with_reducible assumption
    | ((with_reducible apply State.mapCommitted_frame); (case hsub => exact List.Subset.trans (by decide) hsub))
    | ((with_reducible apply State.putRow_frame); (case hsub => exact List.Subset.trans (by decide) hsub))
    | ((with_reducible apply Changes.foldl); (case' h => intro a x ha; try dsimp only))
    | split

/-- What `State.routeCluster` may change. -/
theorem State.routeCluster_frame {ps : List Part} {s0 : State} (s : State) (c : Nat) (hst : Changes ps s0 s) (hsub : [.topo] ⊆ ps) :
    Changes ps s0 (State.routeCluster s c) := by
  unfold State.routeCluster
  repeat' first
    | with_reducible assumption
    | ((with_reducible apply State.mapCommitted_frame); (case hsub => exact List.Subset.trans (by decide) hsub))
    | ((with_reducible apply State.putRow_frame); (case hsub => exact List.Subset.trans (by decide) hsub))
    | ((with_reducible apply State.setHealth_frame); (case hsub => exact List.Subset.trans (by decide) hsub))
    | ((with_reducible apply Changes.foldl); (case' h => intro a x ha; try dsimp only))

/-- What `State.restoreClusters` may change. -/
theorem State.restoreClusters_frame {ps : List Part} {s0 : State} (s : State) (cs : List Nat) (hst : Changes ps s0 s) (hsub : [.topo] ⊆ ps) :
    Changes ps s0 (State.restoreClusters s cs) := by
  unfold State.restoreClusters
  repeat' first
    | with_reducible assumption
    | ((with_reducible apply State.mapCommitted_frame); (case hsub => exact List.Subset.trans (by decide) hsub))
    | ((with_reducible apply State.putRow_frame); (case hsub => exact List.Subset.trans (by decide) hsub))
    | with_reducible apply Changes.ite
    | ((with_reducible apply Changes.foldl); (case' h => intro a x ha; try dsimp only))

/-- What `State.restoreRows` may change. -/
theorem State.restoreRows_frame {ps : List Part} {s0 : State} (s : State) (hst : Changes ps s0 s) (hsub : [.topo] ⊆ ps) :
    Changes ps s0 (State.restoreRows s) := by
  unfold State.restoreRows
  repeat' first
    | with_reducible assumption
    | ((with_reducible apply State.mapCommitted_frame); (case hsub => exact List.Subset.trans (by decide) hsub))
    | ((with_reducible apply State.putRow_frame); (case hsub => exact List.Subset.trans (by decide) hsub))
    | ((fail_if_no_progress extract_lets a1))
    | dsimp only [a1]
    | ((with_reducible apply Changes.foldl); (case' h => intro a x ha; try dsimp only))
    | split

end Sys2Proof.Machine
end

