-- ==== Sys2Proof/Laws/FrameSched.lean ====
section
/-!
SUPPORT. Frames of the operations of Machine/Sched.lean: the parts of the state that each may change.
-/
namespace Sys2Proof.Machine

/-- What `State.putEntry` may change. -/
theorem State.putEntry_frame {ps : List Part} {s0 : State} (s : State) (n : Nat) (e : SchedEntry) (hst : Changes ps s0 s) (hsub : [.sched] ⊆ ps) :
    Changes ps s0 (State.putEntry s n e) := by
  unfold State.putEntry
  repeat' first
    | with_reducible assumption
    | (simp only [Changes.mk_eq_upd]; (with_reducible apply Changes.upd); (case e12 => exact Or.inl (hsub (by decide))); all_goals first | with_reducible exact Or.inr rfl | skip)

/-- What `State.notice` may change. -/
theorem State.notice_frame {ps : List Part} {s0 : State} (s : State) (kind : Nat) (detail : List Byte) (hst : Changes ps s0 s) (hsub : [.emitted, .port] ⊆ ps) :
    Changes ps s0 (State.notice s kind detail) := by
  unfold State.notice
  repeat' first
    | with_reducible assumption
    | ((with_reducible apply State.notifyAll_frame); (case hsub => exact List.Subset.trans (by decide) hsub))

/-- What `State.admFailed` may change. -/
theorem State.admFailed_frame {ps : List Part} {s0 : State} (s : State) (hst : Changes ps s0 s) (hsub : [.emitted, .adm, .backup, .flash, .logSeq, .log, .port] ⊆ ps) :
    Changes ps s0 (State.admFailed s) := by
  unfold State.admFailed
  repeat' first
    | with_reducible assumption
    | ((with_reducible apply State.urged_frame); (case hsub => exact List.Subset.trans (by decide) hsub))
    | (simp only [Changes.mk_eq_upd]; (with_reducible apply Changes.upd); (case e2 | e19 | e24 | e25 | e26 | e29 | e30 => exact Or.inl (hsub (by decide))); all_goals first | with_reducible exact Or.inr rfl | skip)

/-- What `State.admFail` may change. -/
theorem State.admFail_frame {ps : List Part} {s0 : State} (s : State) (why : Nat) (hst : Changes ps s0 s) (hsub : [.emitted, .adm, .backup, .flash, .logSeq, .log, .port] ⊆ ps) :
    Changes ps s0 (State.admFail s why) := by
  unfold State.admFail
  repeat' first
    | with_reducible assumption
    | ((with_reducible apply State.admFailed_frame); (case hsub => exact List.Subset.trans (by decide) hsub))
    | with_reducible apply Changes.ite
    | ((fail_if_no_progress extract_lets a1 a2))
    | dsimp only [a1]
    | dsimp only [a2]
    | (simp only [Changes.mk_eq_upd]; (with_reducible apply Changes.upd); (case e2 | e19 | e24 | e25 | e26 | e29 | e30 => exact Or.inl (hsub (by decide))); all_goals first | with_reducible exact Or.inr rfl | skip)

/-- What `State.finishEntry` may change. -/
theorem State.finishEntry_frame {ps : List Part} {s0 : State} (s : State) (n status : Nat) (hst : Changes ps s0 s) (hsub : [.emitted, .sched, .adm, .backup, .flash, .logSeq, .log, .port] ⊆ ps) :
    Changes ps s0 (State.finishEntry s n status) := by
  unfold State.finishEntry
  repeat' first
    | with_reducible assumption
    | ((with_reducible apply State.admFail_frame); (case hsub => exact List.Subset.trans (by decide) hsub))
    | ((with_reducible apply State.notice_frame); (case hsub => exact List.Subset.trans (by decide) hsub))
    | ((with_reducible apply State.putEntry_frame); (case hsub => exact List.Subset.trans (by decide) hsub))
    | with_reducible apply Changes.ite

/-- What `State.completeEntry` may change. -/
theorem State.completeEntry_frame {ps : List Part} {s0 : State} (s : State) (n : Nat) (hst : Changes ps s0 s) (hsub : [.emitted, .sched, .adm, .backup, .flash, .logSeq, .log, .port] ⊆ ps) :
    Changes ps s0 (State.completeEntry s n) := by
  unfold State.completeEntry
  repeat' first
    | with_reducible assumption
    | ((with_reducible apply State.finishEntry_frame); (case hsub => exact List.Subset.trans (by decide) hsub))

/-- What `State.schedWrite` may change. -/
theorem State.schedWrite_frame {ps : List Part} {s0 : State} (s : State) (n action time flags : Nat) (remote : Bool) (accept : Nat → SchedEntry → State → State) (hst : Changes ps s0 s) (h_accept : ∀ (x0 : Nat) (x1 : SchedEntry) (x2 : State), Changes ps s0 x2 → Changes ps s0 (accept x0 x1 x2)) (hsub : [.emitted, .sched, .adm, .backup, .flash, .logSeq, .log, .port] ⊆ ps) :
    Changes ps s0 ((State.schedWrite s n action time flags remote accept).1) := by
  unfold State.schedWrite
  repeat' first
    | with_reducible assumption
    | with_reducible apply h_accept
    | ((with_reducible apply State.finishEntry_frame); (case hsub => exact List.Subset.trans (by decide) hsub))
    | ((with_reducible apply State.logged_frame); (case hsub => exact List.Subset.trans (by decide) hsub))
    | ((with_reducible apply State.putEntry_frame); (case hsub => exact List.Subset.trans (by decide) hsub))
    | with_reducible apply Changes.ite
    | dsimp only
    | split

end Sys2Proof.Machine
end

