-- ==== Sys2Proof/Laws/FrameRing.lean ====
section
/-!
SUPPORT. Frames of the operations of Machine/Ring.lean: the parts of the state that each may change.
-/
namespace Sys2Proof.Machine

/-- What `State.ringIssue` may change. -/
theorem State.ringIssue_frame {ps : List Part} {s0 : State} (s : State) (t : RingTxn) (hst : Changes ps s0 s) (hsub : [.emitted, .units] ⊆ ps) :
    Changes ps s0 (State.ringIssue s t) := by
  unfold State.ringIssue
  repeat' first
    | with_reducible assumption
    | ((with_reducible apply State.emit_frame); (case hsub => exact List.Subset.trans (by decide) hsub))
    | ((fail_if_no_progress extract_lets a1))
    | dsimp only [a1]
    | (simp only [Changes.mk_eq_upd]; (with_reducible apply Changes.upd); (case e2 | e13 => exact Or.inl (hsub (by decide))); all_goals first | with_reducible exact Or.inr rfl | skip)

/-- What `State.ringPump` may change. -/
theorem State.ringPump_frame {ps : List Part} {s0 : State} (s : State) (hst : Changes ps s0 s) (hsub : [.emitted, .units] ⊆ ps) :
    Changes ps s0 (State.ringPump s) := by
  unfold State.ringPump
  repeat' first
    | with_reducible assumption
    | ((with_reducible apply State.ringIssue_frame); (case hsub => exact List.Subset.trans (by decide) hsub))
    | with_reducible apply Changes.ite
    | (simp only [Changes.mk_eq_upd]; (with_reducible apply Changes.upd); (case e2 | e13 => exact Or.inl (hsub (by decide))); all_goals first | with_reducible exact Or.inr rfl | skip)
    | ((with_reducible apply Changes.foldl); (case' h => intro a x ha; try dsimp only))

/-- What `State.ringStart` may change. -/
theorem State.ringStart_frame {ps : List Part} {s0 : State} (s : State) (t : RingTxn) (hst : Changes ps s0 s) (hsub : [.emitted, .units] ⊆ ps) :
    Changes ps s0 (State.ringStart s t) := by
  unfold State.ringStart
  repeat' first
    | with_reducible assumption
    | ((with_reducible apply State.ringPump_frame); (case hsub => exact List.Subset.trans (by decide) hsub))
    | ((fail_if_no_progress extract_lets a1))
    | dsimp only [a1]
    | (simp only [Changes.mk_eq_upd]; (with_reducible apply Changes.upd); (case e2 | e13 => exact Or.inl (hsub (by decide))); all_goals first | with_reducible exact Or.inr rfl | skip)

/-- What `State.ringDrop` may change. -/
theorem State.ringDrop_frame {ps : List Part} {s0 : State} (s : State) (p : RingTxn → Bool) (hst : Changes ps s0 s) (hsub : [.units] ⊆ ps) :
    Changes ps s0 (State.ringDrop s p) := by
  unfold State.ringDrop
  repeat' first
    | with_reducible assumption
    | ((fail_if_no_progress extract_lets a1))
    | dsimp only [a1]
    | (simp only [Changes.mk_eq_upd]; (with_reducible apply Changes.upd); (case e13 => exact Or.inl (hsub (by decide))); all_goals first | with_reducible exact Or.inr rfl | skip)

end Sys2Proof.Machine
end

