-- ==== Sys2Proof/Laws/FrameCasts.lean ====
section
/-!
SUPPORT. Frames of the operations of Machine/Casts.lean: the parts of the state that each may change.
-/
namespace Sys2Proof.Machine

/-- What `State.issueCast` may change. -/
theorem State.issueCast_frame {ps : List Part} {s0 : State} (s : State) (kind act lane : Nat) (targets : BitVec 160) (stepNet pod : Bool) (cycles : Nat) (use : CastUse) (hst : Changes ps s0 s) (hsub : [.emitted, .qu] ⊆ ps) :
    Changes ps s0 (State.issueCast s kind act lane targets stepNet pod cycles use) := by
  unfold State.issueCast
  repeat' first
    | with_reducible assumption
    | ((with_reducible apply State.emit_frame); (case hsub => exact List.Subset.trans (by decide) hsub))
    | ((fail_if_no_progress extract_lets a1))
    | dsimp only [a1]
    | (simp only [Changes.mk_eq_upd]; (with_reducible apply Changes.upd); (case e2 | e14 => exact Or.inl (hsub (by decide))); all_goals first | with_reducible exact Or.inr rfl | skip)

/-- What `State.putCast` may change. -/
theorem State.putCast_frame {ps : List Part} {s0 : State} (s : State) (o : OpenCast) (hst : Changes ps s0 s) (hsub : [.qu] ⊆ ps) :
    Changes ps s0 (State.putCast s o) := by
  unfold State.putCast
  repeat' first
    | with_reducible assumption
    | ((fail_if_no_progress extract_lets a1))
    | dsimp only [a1]
    | (simp only [Changes.mk_eq_upd]; (with_reducible apply Changes.upd); (case e14 => exact Or.inl (hsub (by decide))); all_goals first | with_reducible exact Or.inr rfl | skip)

/-- What `State.dropCast` may change. -/
theorem State.dropCast_frame {ps : List Part} {s0 : State} (s : State) (id : Nat) (hst : Changes ps s0 s) (hsub : [.qu] ⊆ ps) :
    Changes ps s0 (State.dropCast s id) := by
  unfold State.dropCast
  repeat' first
    | with_reducible assumption
    | ((fail_if_no_progress extract_lets a1))
    | dsimp only [a1]
    | (simp only [Changes.mk_eq_upd]; (with_reducible apply Changes.upd); (case e14 => exact Or.inl (hsub (by decide))); all_goals first | with_reducible exact Or.inr rfl | skip)

/-- What `State.tidyCasts` may change. -/
theorem State.tidyCasts_frame {ps : List Part} {s0 : State} (s : State) (hst : Changes ps s0 s) (hsub : [.qu] ⊆ ps) :
    Changes ps s0 (State.tidyCasts s) := by
  unfold State.tidyCasts
  repeat' first
    | with_reducible assumption
    | ((fail_if_no_progress extract_lets a1 a2))
    | dsimp only [a1]
    | dsimp only [a2]
    | (simp only [Changes.mk_eq_upd]; (with_reducible apply Changes.upd); (case e14 => exact Or.inl (hsub (by decide))); all_goals first | with_reducible exact Or.inr rfl | skip)

/-- What `State.sendCancel` may change. -/
theorem State.sendCancel_frame {ps : List Part} {s0 : State} (s : State) (targets : BitVec 160) (use : CastUse) (hst : Changes ps s0 s) (hsub : [.emitted, .qu] ⊆ ps) :
    Changes ps s0 (State.sendCancel s targets use) := by
  unfold State.sendCancel
  repeat' first
    | with_reducible assumption
    | ((with_reducible apply State.issueCast_frame); (case hsub => exact List.Subset.trans (by decide) hsub))
    | with_reducible apply Changes.ite

/-- What `State.sendHold` may change. -/
theorem State.sendHold_frame {ps : List Part} {s0 : State} (s : State) (id : Nat) (hst : Changes ps s0 s) (hsub : [.emitted] ⊆ ps) :
    Changes ps s0 (State.sendHold s id) := by
  unfold State.sendHold
  repeat' first
    | with_reducible assumption
    | ((with_reducible apply State.emit_frame); (case hsub => exact List.Subset.trans (by decide) hsub))

end Sys2Proof.Machine
end

