-- ==== Sys2Proof/Laws/FrameContextOps.lean ====
section
/-!
SUPPORT. Frames of the operations of Machine/ContextOps.lean: the parts of the state that each may change.
-/
namespace Sys2Proof.Machine

/-- What `State.setCtx` may change. -/
theorem State.setCtx_frame {ps : List Part} {s0 : State} (s : State) (ctx epoch state : Nat) (hst : Changes ps s0 s) (hsub : [.hang] ⊆ ps) :
    Changes ps s0 (State.setCtx s ctx epoch state) := by
  unfold State.setCtx
  repeat' first
    | with_reducible assumption
    | ((fail_if_no_progress extract_lets a1))
    | dsimp only [a1]
    | (simp only [Changes.mk_eq_upd]; (with_reducible apply Changes.upd); (case e17 => exact Or.inl (hsub (by decide))); all_goals first | with_reducible exact Or.inr rfl | skip)

/-- What `State.moveCtx` may change. -/
theorem State.moveCtx_frame {ps : List Part} {s0 : State} (s : State) (ctx state : Nat) (hst : Changes ps s0 s) (hsub : [.hang] ⊆ ps) :
    Changes ps s0 (State.moveCtx s ctx state) := by
  unfold State.moveCtx
  repeat' first
    | with_reducible assumption
    | ((with_reducible apply State.setCtx_frame); (case hsub => exact List.Subset.trans (by decide) hsub))

/-- What `State.issueCtx` may change. -/
theorem State.issueCtx_frame {ps : List Part} {s0 : State} (s : State) (kind : CtxKind) (hold : Bool) (contexts : List Nat) (targets : BitVec 160) (avoidUid avoidEngine : Nat) (hst : Changes ps s0 s) (hsub : [.emitted, .qu, .hang] ⊆ ps) :
    Changes ps s0 (State.issueCtx s kind hold contexts targets avoidUid avoidEngine) := by
  unfold State.issueCtx
  repeat' first
    | with_reducible assumption
    | ((with_reducible apply State.emit_frame); (case hsub => exact List.Subset.trans (by decide) hsub))
    | ((fail_if_no_progress extract_lets a1 a2))
    | dsimp only [a1]
    | dsimp only [a2]
    | (simp only [Changes.mk_eq_upd]; (with_reducible apply Changes.upd); (case e2 | e14 | e17 => exact Or.inl (hsub (by decide))); all_goals first | with_reducible exact Or.inr rfl | skip)

/-- What `State.putCtx` may change. -/
theorem State.putCtx_frame {ps : List Part} {s0 : State} (s : State) (c : CtxCast) (hst : Changes ps s0 s) (hsub : [.hang] ⊆ ps) :
    Changes ps s0 (State.putCtx s c) := by
  unfold State.putCtx
  repeat' first
    | with_reducible assumption
    | ((fail_if_no_progress extract_lets a1))
    | dsimp only [a1]
    | (simp only [Changes.mk_eq_upd]; (with_reducible apply Changes.upd); (case e17 => exact Or.inl (hsub (by decide))); all_goals first | with_reducible exact Or.inr rfl | skip)

/-- What `State.dropCtx` may change. -/
theorem State.dropCtx_frame {ps : List Part} {s0 : State} (s : State) (id : Nat) (hst : Changes ps s0 s) (hsub : [.hang] ⊆ ps) :
    Changes ps s0 (State.dropCtx s id) := by
  unfold State.dropCtx
  repeat' first
    | with_reducible assumption
    | ((fail_if_no_progress extract_lets a1))
    | dsimp only [a1]
    | (simp only [Changes.mk_eq_upd]; (with_reducible apply Changes.upd); (case e17 => exact Or.inl (hsub (by decide))); all_goals first | with_reducible exact Or.inr rfl | skip)

/-- What `State.queueRemoval` may change. -/
theorem State.queueRemoval_frame {ps : List Part} {s0 : State} (s : State) (r : Removal) (hst : Changes ps s0 s) (hsub : [.hang] ⊆ ps) :
    Changes ps s0 (State.queueRemoval s r) := by
  unfold State.queueRemoval
  repeat' first
    | with_reducible assumption
    | with_reducible apply Changes.ite
    | ((fail_if_no_progress extract_lets a1))
    | dsimp only [a1]
    | (simp only [Changes.mk_eq_upd]; (with_reducible apply Changes.upd); (case e17 => exact Or.inl (hsub (by decide))); all_goals first | with_reducible exact Or.inr rfl | skip)

/-- What `State.holdAside` may change. -/
theorem State.holdAside_frame {ps : List Part} {s0 : State} (s : State) (r : Removal) (hst : Changes ps s0 s) (hsub : [.hang] ⊆ ps) :
    Changes ps s0 (State.holdAside s r) := by
  unfold State.holdAside
  repeat' first
    | with_reducible assumption
    | ((fail_if_no_progress extract_lets a1))
    | dsimp only [a1]
    | (simp only [Changes.mk_eq_upd]; (with_reducible apply Changes.upd); (case e17 => exact Or.inl (hsub (by decide))); all_goals first | with_reducible exact Or.inr rfl | skip)

/-- What `State.requestRemoval` may change. -/
theorem State.requestRemoval_frame {ps : List Part} {s0 : State} (s : State) (ctx : Nat) (hold byHub culprit : Bool) (hst : Changes ps s0 s) (hsub : [.hang] ⊆ ps) :
    Changes ps s0 (State.requestRemoval s ctx hold byHub culprit) := by
  unfold State.requestRemoval
  repeat' first
    | with_reducible assumption
    | ((with_reducible apply State.holdAside_frame); (case hsub => exact List.Subset.trans (by decide) hsub))
    | ((with_reducible apply State.moveCtx_frame); (case hsub => exact List.Subset.trans (by decide) hsub))
    | ((with_reducible apply State.queueRemoval_frame); (case hsub => exact List.Subset.trans (by decide) hsub))
    | with_reducible apply Changes.ite

/-- What `State.releaseAside` may change. -/
theorem State.releaseAside_frame {ps : List Part} {s0 : State} (s : State) (ctx : Nat) (hst : Changes ps s0 s) (hsub : [.hang] ⊆ ps) :
    Changes ps s0 (State.releaseAside s ctx) := by
  unfold State.releaseAside
  repeat' first
    | with_reducible assumption
    | ((with_reducible apply State.moveCtx_frame); (case hsub => exact List.Subset.trans (by decide) hsub))
    | with_reducible apply Changes.ite
    | ((fail_if_no_progress extract_lets a1))
    | dsimp only [a1]
    | (simp only [Changes.mk_eq_upd]; (with_reducible apply Changes.upd); (case e17 => exact Or.inl (hsub (by decide))); all_goals first | with_reducible exact Or.inr rfl | skip)

/-- What `State.issueRemove` may change. -/
theorem State.issueRemove_frame {ps : List Part} {s0 : State} (s : State) (hst : Changes ps s0 s) (hsub : [.emitted, .qu, .hang] ⊆ ps) :
    Changes ps s0 (State.issueRemove s) := by
  unfold State.issueRemove
  repeat' first
    | with_reducible assumption
    | ((with_reducible apply State.issueCtx_frame); (case hsub => exact List.Subset.trans (by decide) hsub))
    | ((with_reducible apply State.setCtx_frame); (case hsub => exact List.Subset.trans (by decide) hsub))
    | ((fail_if_no_progress extract_lets a1))
    | dsimp only [a1]
    | (simp only [Changes.mk_eq_upd]; (with_reducible apply Changes.upd); (case e2 | e14 | e17 => exact Or.inl (hsub (by decide))); all_goals first | with_reducible exact Or.inr rfl | skip)
    | ((with_reducible apply Changes.foldl); (case' h => intro a x ha; try dsimp only))

/-- What `State.settleReadmit` may change. -/
theorem State.settleReadmit_frame {ps : List Part} {s0 : State} (s : State) (c : CtxCast) (hst : Changes ps s0 s) (hsub : [.hang] ⊆ ps) :
    Changes ps s0 (State.settleReadmit s c) := by
  unfold State.settleReadmit
  repeat' first
    | with_reducible assumption
    | ((with_reducible apply State.dropCtx_frame); (case hsub => exact List.Subset.trans (by decide) hsub))
    | ((with_reducible apply State.moveCtx_frame); (case hsub => exact List.Subset.trans (by decide) hsub))
    | with_reducible apply Changes.ite
    | ((with_reducible apply Changes.foldl); (case' h => intro a x ha; try dsimp only))

/-- What `State.ctxAnswer` may change. -/
theorem State.ctxAnswer_frame {ps : List Part} {s0 : State} (s : State) (id t status : Nat) (hst : Changes ps s0 s) (hsub : [.hang] ⊆ ps) :
    Changes ps s0 (State.ctxAnswer s id t status) := by
  unfold State.ctxAnswer
  repeat' first
    | with_reducible assumption
    | ((with_reducible apply State.putCtx_frame); (case hsub => exact List.Subset.trans (by decide) hsub))
    | ((with_reducible apply State.settleReadmit_frame); (case hsub => exact List.Subset.trans (by decide) hsub))
    | with_reducible apply Changes.ite
    | dsimp only
    | split

/-- What `State.fettleContexts` may change. -/
theorem State.fettleContexts_frame {ps : List Part} {s0 : State} (s : State) (hst : Changes ps s0 s) (hsub : [.emitted, .hang] ⊆ ps) :
    Changes ps s0 (State.fettleContexts s) := by
  unfold State.fettleContexts
  repeat' first
    | with_reducible assumption
    | ((with_reducible apply State.emit_frame); (case hsub => exact List.Subset.trans (by decide) hsub))
    | ((with_reducible apply State.moveCtx_frame); (case hsub => exact List.Subset.trans (by decide) hsub))
    | with_reducible apply Changes.ite
    | ((fail_if_no_progress extract_lets a1))
    | dsimp only [a1]
    | (simp only [Changes.mk_eq_upd]; (with_reducible apply Changes.upd); (case e2 | e17 => exact Or.inl (hsub (by decide))); all_goals first | with_reducible exact Or.inr rfl | skip)
    | ((with_reducible apply Changes.foldl); (case' h => intro a x ha; try dsimp only))

/-- What `State.drainCast` may change. -/
theorem State.drainCast_frame {ps : List Part} {s0 : State} (s : State) (c : CtxCast) (hst : Changes ps s0 s) (hsub : [.emitted, .hang, .backup, .flash, .logSeq, .log, .port] ⊆ ps) :
    Changes ps s0 (State.drainCast s c) := by
  unfold State.drainCast
  repeat' first
    | with_reducible assumption
    | ((with_reducible apply State.dropCtx_frame); (case hsub => exact List.Subset.trans (by decide) hsub))
    | ((with_reducible apply State.fettleContexts_frame); (case hsub => exact List.Subset.trans (by decide) hsub))
    | ((with_reducible apply State.logged_frame); (case hsub => exact List.Subset.trans (by decide) hsub))
    | ((with_reducible apply State.moveCtx_frame); (case hsub => exact List.Subset.trans (by decide) hsub))
    | ((with_reducible apply State.releaseAside_frame); (case hsub => exact List.Subset.trans (by decide) hsub))
    | with_reducible apply Changes.ite
    | ((with_reducible apply Changes.foldl); (case' h => intro a x ha; try dsimp only))

/-- What `State.readmit` may change. -/
theorem State.readmit_frame {ps : List Part} {s0 : State} (s : State) (l : List Nat) (hst : Changes ps s0 s) (hsub : [.emitted, .qu, .hang] ⊆ ps) :
    Changes ps s0 (State.readmit s l) := by
  unfold State.readmit
  repeat' first
    | with_reducible assumption
    | ((with_reducible apply State.issueCtx_frame); (case hsub => exact List.Subset.trans (by decide) hsub))
    | ((fail_if_no_progress extract_lets a1))
    | dsimp only [a1]
    | ((with_reducible apply Changes.foldl); (case' h => intro a x ha; try dsimp only))

end Sys2Proof.Machine
end

