-- ==== Sys2Proof/Laws/FrameTraceOps.lean ====
section
/-!
SUPPORT. Frames of the operations of Machine/TraceOps.lean: the parts of the state that each may change.
-/
namespace Sys2Proof.Machine

/-- What `State.modSink` may change. -/
theorem State.modSink_frame {ps : List Part} {s0 : State} (s : State) (die : Nat) (f : Sink → Sink) (hst : Changes ps s0 s) (hsub : [.trace] ⊆ ps) :
    Changes ps s0 (State.modSink s die f) := by
  unfold State.modSink
  repeat' first
    | with_reducible assumption
    | ((fail_if_no_progress extract_lets a1))
    | dsimp only [a1]
    | (simp only [Changes.mk_eq_upd]; (with_reducible apply Changes.upd); (case e21 => exact Or.inl (hsub (by decide))); all_goals first | with_reducible exact Or.inr rfl | skip)

/-- What `State.stackWrite` may change. -/
theorem State.stackWrite_frame {ps : List Part} {s0 : State} (s : State) (die off : Nat) (bytes : List Byte) (hst : Changes ps s0 s) (hsub : [.dram] ⊆ ps) :
    Changes ps s0 (State.stackWrite s die off bytes) := by
  unfold State.stackWrite
  repeat' first
    | with_reducible assumption
    | (simp only [Changes.mk_eq_upd]; (with_reducible apply Changes.upd); (case e34 => exact Or.inl (hsub (by decide))); all_goals first | with_reducible exact Or.inr rfl | skip)

/-- What `State.writeHeader` may change. -/
theorem State.writeHeader_frame {ps : List Part} {s0 : State} (s : State) (die : Nat) (hst : Changes ps s0 s) (hsub : [.trace, .dram] ⊆ ps) :
    Changes ps s0 (State.writeHeader s die) := by
  unfold State.writeHeader
  repeat' first
    | with_reducible assumption
    | ((with_reducible apply State.modSink_frame); (case hsub => exact List.Subset.trans (by decide) hsub))
    | ((with_reducible apply State.stackWrite_frame); (case hsub => exact List.Subset.trans (by decide) hsub))
    | with_reducible apply Changes.ite

/-- What `State.resetBuffers` may change. -/
theorem State.resetBuffers_frame {ps : List Part} {s0 : State} (s : State) (hst : Changes ps s0 s) (hsub : [.trace, .dram] ⊆ ps) :
    Changes ps s0 (State.resetBuffers s) := by
  unfold State.resetBuffers
  repeat' first
    | with_reducible assumption
    | ((with_reducible apply State.modSink_frame); (case hsub => exact List.Subset.trans (by decide) hsub))
    | ((with_reducible apply State.stackWrite_frame); (case hsub => exact List.Subset.trans (by decide) hsub))
    | ((with_reducible apply State.writeHeader_frame); (case hsub => exact List.Subset.trans (by decide) hsub))
    | ((fail_if_no_progress extract_lets a1 a2 a3))
    | dsimp only [a1]
    | dsimp only [a2]
    | dsimp only [a3]
    | (simp only [Changes.mk_eq_upd]; (with_reducible apply Changes.upd); (case e21 | e34 => exact Or.inl (hsub (by decide))); all_goals first | with_reducible exact Or.inr rfl | skip)
    | ((with_reducible apply Changes.foldl); (case' h => intro a x ha; try dsimp only))

/-- What `State.sinkLine` may change. -/
theorem State.sinkLine_frame {ps : List Part} {s0 : State} (s : State) (die : Nat) (line : List Byte) (hst : Changes ps s0 s) (hsub : [.trace, .dram] ⊆ ps) :
    Changes ps s0 (State.sinkLine s die line) := by
  unfold State.sinkLine
  repeat' first
    | with_reducible assumption
    | ((with_reducible apply State.modSink_frame); (case hsub => exact List.Subset.trans (by decide) hsub))
    | ((with_reducible apply State.stackWrite_frame); (case hsub => exact List.Subset.trans (by decide) hsub))
    | ((with_reducible apply State.writeHeader_frame); (case hsub => exact List.Subset.trans (by decide) hsub))
    | with_reducible apply Changes.ite
    | ((fail_if_no_progress extract_lets a1 a2); try (refine (have ha1 : Changes ps s0 a1 := ?_; ?_); rotate_left; clear_value a1))
    | dsimp only [a2]
    | (simp only [Changes.mk_eq_upd]; (with_reducible apply Changes.upd); (case e21 | e34 => exact Or.inl (hsub (by decide))); all_goals first | with_reducible exact Or.inr rfl | skip)

/-- What `State.countOvf` may change. -/
theorem State.countOvf_frame {ps : List Part} {s0 : State} (s : State) (die : Nat) (line : List Byte) (hst : Changes ps s0 s) (hsub : [.units, .trace] ⊆ ps) :
    Changes ps s0 (State.countOvf s die line) := by
  unfold State.countOvf
  repeat' first
    | with_reducible assumption
    | ((with_reducible apply State.modSink_frame); (case hsub => exact List.Subset.trans (by decide) hsub))
    | ((with_reducible apply State.modTap_frame); (case hsub => exact List.Subset.trans (by decide) hsub))
    | with_reducible apply Changes.ite
    | ((fail_if_no_progress extract_lets a1 a2 a3 a4 a5))
    | dsimp only [a1]
    | dsimp only [a2]
    | dsimp only [a3]
    | dsimp only [a4]
    | dsimp only [a5]
    | (simp only [Changes.mk_eq_upd]; (with_reducible apply Changes.upd); (case e13 | e21 => exact Or.inl (hsub (by decide))); all_goals first | with_reducible exact Or.inr rfl | skip)
    | split

/-- What `State.takeLine` may change. -/
theorem State.takeLine_frame {ps : List Part} {s0 : State} (s : State) (die : Nat) (line : List Byte) (hst : Changes ps s0 s) (hsub : [.units, .trace, .dram] ⊆ ps) :
    Changes ps s0 (State.takeLine s die line) := by
  unfold State.takeLine
  repeat' first
    | with_reducible assumption
    | ((with_reducible apply State.countOvf_frame); (case hsub => exact List.Subset.trans (by decide) hsub))
    | ((with_reducible apply State.sinkLine_frame); (case hsub => exact List.Subset.trans (by decide) hsub))

/-- What `State.freezeSink` may change. -/
theorem State.freezeSink_frame {ps : List Part} {s0 : State} (s : State) (die t : Nat) (hst : Changes ps s0 s) (hsub : [.trace, .dram] ⊆ ps) :
    Changes ps s0 (State.freezeSink s die t) := by
  unfold State.freezeSink
  repeat' first
    | with_reducible assumption
    | ((with_reducible apply State.modSink_frame); (case hsub => exact List.Subset.trans (by decide) hsub))
    | ((with_reducible apply State.writeHeader_frame); (case hsub => exact List.Subset.trans (by decide) hsub))

/-- What `State.thawSink` may change. -/
theorem State.thawSink_frame {ps : List Part} {s0 : State} (s : State) (die : Nat) (hst : Changes ps s0 s) (hsub : [.units, .trace, .dram] ⊆ ps) :
    Changes ps s0 (State.thawSink s die) := by
  unfold State.thawSink
  repeat' first
    | with_reducible assumption
    | ((with_reducible apply State.modSink_frame); (case hsub => exact List.Subset.trans (by decide) hsub))
    | ((with_reducible apply State.takeLine_frame); (case hsub => exact List.Subset.trans (by decide) hsub))
    | ((fail_if_no_progress extract_lets a1 a2))
    | dsimp only [a1]
    | dsimp only [a2]
    | ((with_reducible apply Changes.foldl); (case' h => intro a x ha; try dsimp only))

/-- What `State.resetSink` may change. -/
theorem State.resetSink_frame {ps : List Part} {s0 : State} (s : State) (die : Nat) (hst : Changes ps s0 s) (hsub : [.trace] ⊆ ps) :
    Changes ps s0 (State.resetSink s die) := by
  unfold State.resetSink
  repeat' first
    | with_reducible assumption
    | ((with_reducible apply State.modSink_frame); (case hsub => exact List.Subset.trans (by decide) hsub))

/-- What `State.traceSync` may change. -/
theorem State.traceSync_frame {ps : List Part} {s0 : State} (s : State) (hst : Changes ps s0 s) (hsub : [.emitted, .units, .trace] ⊆ ps) :
    Changes ps s0 (State.traceSync s) := by
  unfold State.traceSync
  repeat' first
    | with_reducible assumption
    | ((with_reducible apply State.ringStart_frame); (case hsub => exact List.Subset.trans (by decide) hsub))
    | (simp only [Changes.mk_eq_upd]; (with_reducible apply Changes.upd); (case e2 | e13 | e21 => exact Or.inl (hsub (by decide))); all_goals first | with_reducible exact Or.inr rfl | skip)
    | ((with_reducible apply Changes.foldl); (case' h => intro a x ha; try dsimp only))
    | split

/-- What `State.traceFollow` may change. -/
theorem State.traceFollow_frame {ps : List Part} {s0 : State} (s : State) (hst : Changes ps s0 s) (hsub : [.emitted, .units, .trace] ⊆ ps) :
    Changes ps s0 (State.traceFollow s) := by
  unfold State.traceFollow
  repeat' first
    | with_reducible assumption
    | ((with_reducible apply State.traceSync_frame); (case hsub => exact List.Subset.trans (by decide) hsub))
    | with_reducible apply Changes.ite

/-- What `State.traceWritten` may change. -/
theorem State.traceWritten_frame {ps : List Part} {s0 : State} (s : State) (t : RingTxn) (hst : Changes ps s0 s) (hsub : [.units] ⊆ ps) :
    Changes ps s0 (State.traceWritten s t) := by
  unfold State.traceWritten
  repeat' first
    | with_reducible assumption
    | ((with_reducible apply State.modTap_frame); (case hsub => exact List.Subset.trans (by decide) hsub))

/-- What `State.traceSwitch` may change. -/
theorem State.traceSwitch_frame {ps : List Part} {s0 : State} (s : State) (taps : BitVec 128) (hst : Changes ps s0 s) (hsub : [.emitted, .qu, .trace] ⊆ ps) :
    Changes ps s0 (State.traceSwitch s taps) := by
  unfold State.traceSwitch
  repeat' first
    | with_reducible assumption
    | ((with_reducible apply State.issueCast_frame); (case hsub => exact List.Subset.trans (by decide) hsub))
    | ((fail_if_no_progress extract_lets a1))
    | dsimp only [a1]
    | (simp only [Changes.mk_eq_upd]; (with_reducible apply Changes.upd); (case e2 | e14 | e21 => exact Or.inl (hsub (by decide))); all_goals first | with_reducible exact Or.inr rfl | skip)

/-- What `State.traceBoundary` may change. -/
theorem State.traceBoundary_frame {ps : List Part} {s0 : State} (s : State) (now : Nat) (hst : Changes ps s0 s) (hsub : [.emitted, .units, .qu, .trace] ⊆ ps) :
    Changes ps s0 (State.traceBoundary s now) := by
  unfold State.traceBoundary
  repeat' first
    | with_reducible assumption
    | ((with_reducible apply State.issueCast_frame); (case hsub => exact List.Subset.trans (by decide) hsub))
    | ((with_reducible apply State.modTap_frame); (case hsub => exact List.Subset.trans (by decide) hsub))
    | ((with_reducible apply State.traceSwitch_frame); (case hsub => exact List.Subset.trans (by decide) hsub))
    | with_reducible apply Changes.ite
    | (simp only [Changes.mk_eq_upd]; (with_reducible apply Changes.upd); (case e2 | e13 | e14 | e21 => exact Or.inl (hsub (by decide))); all_goals first | with_reducible exact Or.inr rfl | skip)
    | ((with_reducible apply Changes.foldl); (case' h => intro a x ha; try dsimp only))
    | dsimp only
    | split

/-- What `State.traceRetry` may change. -/
theorem State.traceRetry_frame {ps : List Part} {s0 : State} (s : State) (c : Nat) (hst : Changes ps s0 s) (hsub : [.emitted, .qu, .trace] ⊆ ps) :
    Changes ps s0 (State.traceRetry s c) := by
  unfold State.traceRetry
  repeat' first
    | with_reducible assumption
    | ((with_reducible apply State.traceSwitch_frame); (case hsub => exact List.Subset.trans (by decide) hsub))
    | with_reducible apply Changes.ite
    | ((fail_if_no_progress extract_lets a1))
    | dsimp only [a1]
    | (simp only [Changes.mk_eq_upd]; (with_reducible apply Changes.upd); (case e2 | e14 | e21 => exact Or.inl (hsub (by decide))); all_goals first | with_reducible exact Or.inr rfl | skip)

/-- What `State.traceScopesSync` may change. -/
theorem State.traceScopesSync_frame {ps : List Part} {s0 : State} (s : State) (hst : Changes ps s0 s) (hsub : [.emitted, .units, .trace] ⊆ ps) :
    Changes ps s0 (State.traceScopesSync s) := by
  unfold State.traceScopesSync
  repeat' first
    | with_reducible assumption
    | ((with_reducible apply State.traceSync_frame); (case hsub => exact List.Subset.trans (by decide) hsub))
    | with_reducible apply Changes.ite
    | ((fail_if_no_progress extract_lets a1))
    | dsimp only [a1]
    | (simp only [Changes.mk_eq_upd]; (with_reducible apply Changes.upd); (case e2 | e13 | e21 => exact Or.inl (hsub (by decide))); all_goals first | with_reducible exact Or.inr rfl | skip)

/-- What `State.traceDefaults` may change. -/
theorem State.traceDefaults_frame {ps : List Part} {s0 : State} (s : State) (hst : Changes ps s0 s) (hsub : [.trace] ⊆ ps) :
    Changes ps s0 (State.traceDefaults s) := by
  unfold State.traceDefaults
  repeat' first
    | with_reducible assumption
    | ((fail_if_no_progress extract_lets a1))
    | dsimp only [a1]
    | (simp only [Changes.mk_eq_upd]; (with_reducible apply Changes.upd); (case e21 => exact Or.inl (hsub (by decide))); all_goals first | with_reducible exact Or.inr rfl | skip)

end Sys2Proof.Machine
end

