-- ==== Sys2Proof/Laws/FrameQuenchOps.lean ====
section
/-!
SUPPORT. Frames of the operations of Machine/QuenchOps.lean: the parts of the state that each may change.
-/
namespace Sys2Proof.Machine

/-- What `State.listOut` may change. -/
theorem State.listOut_frame {ps : List Part} {s0 : State} (s : State) (ts : List Nat) (hst : Changes ps s0 s) (hsub : [.qu] ⊆ ps) :
    Changes ps s0 (State.listOut s ts) := by
  unfold State.listOut
  repeat' first
    | with_reducible assumption
    | with_reducible apply Changes.ite
    | (simp only [Changes.mk_eq_upd]; (with_reducible apply Changes.upd); (case e14 => exact Or.inl (hsub (by decide))); all_goals first | with_reducible exact Or.inr rfl | skip)
    | ((with_reducible apply Changes.foldl); (case' h => intro a x ha; try dsimp only))

/-- What `State.listIn` may change. -/
theorem State.listIn_frame {ps : List Part} {s0 : State} (s : State) (t : Nat) (hst : Changes ps s0 s) (hsub : [.qu] ⊆ ps) :
    Changes ps s0 (State.listIn s t) := by
  unfold State.listIn
  repeat' first
    | with_reducible assumption
    | with_reducible apply Changes.ite
    | ((fail_if_no_progress extract_lets a1))
    | dsimp only [a1]
    | (simp only [Changes.mk_eq_upd]; (with_reducible apply Changes.upd); (case e14 => exact Or.inl (hsub (by decide))); all_goals first | with_reducible exact Or.inr rfl | skip)

/-- What `State.selectAll` may change. -/
theorem State.selectAll_frame {ps : List Part} {s0 : State} (s : State) (ts : BitVec 160) (hst : Changes ps s0 s) (hsub : [.units] ⊆ ps) :
    Changes ps s0 (State.selectAll s ts) := by
  unfold State.selectAll
  repeat' first
    | with_reducible assumption
    | ((with_reducible apply State.modTap_frame); (case hsub => exact List.Subset.trans (by decide) hsub))
    | ((with_reducible apply Changes.foldl); (case' h => intro a x ha; try dsimp only))

/-- What `State.runEntry` may change. -/
theorem State.runEntry_frame {ps : List Part} {s0 : State} (s : State) (n : Nat) (hst : Changes ps s0 s) (hsub : [.sched] ⊆ ps) :
    Changes ps s0 (State.runEntry s n) := by
  unfold State.runEntry
  repeat' first
    | with_reducible assumption
    | ((with_reducible apply State.putEntry_frame); (case hsub => exact List.Subset.trans (by decide) hsub))

/-- What `State.armHand` may change. -/
theorem State.armHand_frame {ps : List Part} {s0 : State} (s : State) (h : InHand) (hst : Changes ps s0 s) (hsub : [.emitted, .qu] ⊆ ps) :
    Changes ps s0 (State.armHand s h) := by
  unfold State.armHand
  repeat' first
    | with_reducible assumption
    | ((with_reducible apply State.issueCast_frame); (case hsub => exact List.Subset.trans (by decide) hsub))
    | ((fail_if_no_progress extract_lets a1 a2 a3 a4))
    | dsimp only [a1]
    | dsimp only [a2]
    | dsimp only [a3]
    | dsimp only [a4]
    | (simp only [Changes.mk_eq_upd]; (with_reducible apply Changes.upd); (case e2 | e14 => exact Or.inl (hsub (by decide))); all_goals first | with_reducible exact Or.inr rfl | skip)

/-- What `State.acceptQuench` may change. -/
theorem State.acceptQuench_frame {ps : List Part} {s0 : State} (s : State) (n : Nat) (e : SchedEntry) (pod emergency : Bool) (hst : Changes ps s0 s) (hsub : [.emitted, .sched, .units, .qu] ⊆ ps) :
    Changes ps s0 (State.acceptQuench s n e pod emergency) := by
  unfold State.acceptQuench
  repeat' first
    | with_reducible assumption
    | ((with_reducible apply State.armHand_frame); (case hsub => exact List.Subset.trans (by decide) hsub))
    | ((with_reducible apply State.listOut_frame); (case hsub => exact List.Subset.trans (by decide) hsub))
    | ((with_reducible apply State.runEntry_frame); (case hsub => exact List.Subset.trans (by decide) hsub))
    | ((with_reducible apply State.selectAll_frame); (case hsub => exact List.Subset.trans (by decide) hsub))
    | ((fail_if_no_progress extract_lets a1))
    | dsimp only [a1]
    | (simp only [Changes.mk_eq_upd]; (with_reducible apply Changes.upd); (case e2 | e12 | e13 | e14 => exact Or.inl (hsub (by decide))); all_goals first | with_reducible exact Or.inr rfl | skip)

/-- What `State.acceptStep` may change. -/
theorem State.acceptStep_frame {ps : List Part} {s0 : State} (s : State) (n : Nat) (e : SchedEntry) (hst : Changes ps s0 s) (hsub : [.emitted, .freeCount, .sched, .units, .qu] ⊆ ps) :
    Changes ps s0 (State.acceptStep s n e) := by
  unfold State.acceptStep
  repeat' first
    | with_reducible assumption
    | ((with_reducible apply State.armHand_frame); (case hsub => exact List.Subset.trans (by decide) hsub))
    | ((with_reducible apply State.listOut_frame); (case hsub => exact List.Subset.trans (by decide) hsub))
    | ((with_reducible apply State.ringStart_frame); (case hsub => exact List.Subset.trans (by decide) hsub))
    | ((with_reducible apply State.runEntry_frame); (case hsub => exact List.Subset.trans (by decide) hsub))
    | with_reducible apply Changes.ite
    | ((fail_if_no_progress extract_lets a1 a2 a3 a4 a5))
    | dsimp only [a1]
    | dsimp only [a2]
    | dsimp only [a3]
    | dsimp only [a4]
    | dsimp only [a5]
    | (simp only [Changes.mk_eq_upd]; (with_reducible apply Changes.upd); (case e2 | e3 | e12 | e13 | e14 => exact Or.inl (hsub (by decide))); all_goals first | with_reducible exact Or.inr rfl | skip)
    | ((with_reducible apply Changes.foldl); (case' h => intro a x ha; try dsimp only))

/-- What `State.acceptResume` may change. -/
theorem State.acceptResume_frame {ps : List Part} {s0 : State} (s : State) (n : Nat) (e : SchedEntry) (hst : Changes ps s0 s) (hsub : [.emitted, .sched, .units, .qu] ⊆ ps) :
    Changes ps s0 (State.acceptResume s n e) := by
  unfold State.acceptResume
  repeat' first
    | with_reducible assumption
    | ((with_reducible apply State.armHand_frame); (case hsub => exact List.Subset.trans (by decide) hsub))
    | ((with_reducible apply State.listOut_frame); (case hsub => exact List.Subset.trans (by decide) hsub))
    | ((with_reducible apply State.runEntry_frame); (case hsub => exact List.Subset.trans (by decide) hsub))
    | ((with_reducible apply State.selectAll_frame); (case hsub => exact List.Subset.trans (by decide) hsub))
    | ((fail_if_no_progress extract_lets a1))
    | dsimp only [a1]
    | (simp only [Changes.mk_eq_upd]; (with_reducible apply Changes.upd); (case e2 | e12 | e13 | e14 => exact Or.inl (hsub (by decide))); all_goals first | with_reducible exact Or.inr rfl | skip)

/-- What `State.sendCopies` may change. -/
theorem State.sendCopies_frame {ps : List Part} {s0 : State} (s : State) (m : List Byte) (hst : Changes ps s0 s) (hsub : [.emitted, .podCut] ⊆ ps) :
    Changes ps s0 (State.sendCopies s m) := by
  unfold State.sendCopies
  repeat' first
    | with_reducible assumption
    | ((with_reducible apply State.emitAll_frame); (case hsub => exact List.Subset.trans (by decide) hsub))
    | ((fail_if_no_progress extract_lets a1 a2); try (refine (have ha1 : Changes ps s0 a1 := ?_; ?_); rotate_left; clear_value a1))
    | dsimp only [a2]
    | (simp only [Changes.mk_eq_upd]; (with_reducible apply Changes.upd); (case e2 | e15 => exact Or.inl (hsub (by decide))); all_goals first | with_reducible exact Or.inr rfl | skip)

/-- What `State.podOrder` may change. -/
theorem State.podOrder_frame {ps : List Part} {s0 : State} (s : State) (n : Nat) (t : Nat) (hst : Changes ps s0 s) (hsub : [.emitted, .sched, .qu, .podCut] ⊆ ps) :
    Changes ps s0 (State.podOrder s n t) := by
  unfold State.podOrder
  repeat' first
    | with_reducible assumption
    | ((with_reducible apply State.putEntry_frame); (case hsub => exact List.Subset.trans (by decide) hsub))
    | ((with_reducible apply State.sendCopies_frame); (case hsub => exact List.Subset.trans (by decide) hsub))
    | ((fail_if_no_progress extract_lets a1 a2))
    | dsimp only [a1]
    | dsimp only [a2]
    | (simp only [Changes.mk_eq_upd]; (with_reducible apply Changes.upd); (case e2 | e12 | e14 | e15 => exact Or.inl (hsub (by decide))); all_goals first | with_reducible exact Or.inr rfl | skip)

/-- What `State.podWithdraw` may change. -/
theorem State.podWithdraw_frame {ps : List Part} {s0 : State} (s : State) (n : Nat) (hst : Changes ps s0 s) (hsub : [.emitted, .sched, .qu, .podCut] ⊆ ps) :
    Changes ps s0 (State.podWithdraw s n) := by
  unfold State.podWithdraw
  repeat' first
    | with_reducible assumption
    | ((with_reducible apply State.sendCopies_frame); (case hsub => exact List.Subset.trans (by decide) hsub))
    | with_reducible apply Changes.ite
    | split

/-- What `State.podOutcome` may change. -/
theorem State.podOutcome_frame {ps : List Part} {s0 : State} (s : State) (n : Nat) (hst : Changes ps s0 s) (hsub : [.emitted, .sched, .qu, .podCut] ⊆ ps) :
    Changes ps s0 (State.podOutcome s n) := by
  unfold State.podOutcome
  repeat' first
    | with_reducible assumption
    | with_reducible apply Changes.ite
    | ((fail_if_no_progress extract_lets a1))
    | dsimp only [a1]
    | (simp only [Changes.mk_eq_upd]; (with_reducible apply Changes.upd); (case e2 | e12 | e14 | e15 => exact Or.inl (hsub (by decide))); all_goals first | with_reducible exact Or.inr rfl | skip)
    | split

/-- What `State.tapStop` may change. -/
theorem State.tapStop_frame {ps : List Part} {s0 : State} (s : State) (c t : Nat) (hst : Changes ps s0 s) (hsub : [.units] ⊆ ps) :
    Changes ps s0 (State.tapStop s c t) := by
  unfold State.tapStop
  repeat' first
    | with_reducible assumption
    | ((with_reducible apply State.modTap_frame); (case hsub => exact List.Subset.trans (by decide) hsub))

/-- What `State.tapRelease` may change. -/
theorem State.tapRelease_frame {ps : List Part} {s0 : State} (s : State) (c : Nat) (hst : Changes ps s0 s) (hsub : [.units] ⊆ ps) :
    Changes ps s0 (State.tapRelease s c) := by
  unfold State.tapRelease
  repeat' first
    | with_reducible assumption
    | ((with_reducible apply State.modTap_frame); (case hsub => exact List.Subset.trans (by decide) hsub))

/-- What `State.freezeGroup` may change. -/
theorem State.freezeGroup_frame {ps : List Part} {s0 : State} (s : State) (g t : Nat) (hst : Changes ps s0 s) (hsub : [.units] ⊆ ps) :
    Changes ps s0 (State.freezeGroup s g t) := by
  unfold State.freezeGroup
  repeat' first
    | with_reducible assumption
    | ((with_reducible apply State.modGroup_frame); (case hsub => exact List.Subset.trans (by decide) hsub))
    | ((with_reducible apply State.modPort_frame); (case hsub => exact List.Subset.trans (by decide) hsub))
    | ((fail_if_no_progress extract_lets a1); try (refine (have ha1 : Changes ps s0 a1 := ?_; ?_); rotate_left; clear_value a1))
    | ((with_reducible apply Changes.foldl); (case' h => intro a x ha; try dsimp only))

/-- What `State.thawGroup` may change. -/
theorem State.thawGroup_frame {ps : List Part} {s0 : State} (s : State) (g : Nat) (hst : Changes ps s0 s) (hsub : [.units] ⊆ ps) :
    Changes ps s0 (State.thawGroup s g) := by
  unfold State.thawGroup
  repeat' first
    | with_reducible assumption
    | ((with_reducible apply State.modGroup_frame); (case hsub => exact List.Subset.trans (by decide) hsub))
    | ((with_reducible apply State.modPort_frame); (case hsub => exact List.Subset.trans (by decide) hsub))
    | ((fail_if_no_progress extract_lets a1); try (refine (have ha1 : Changes ps s0 a1 := ?_; ?_); rotate_left; clear_value a1))
    | ((with_reducible apply Changes.foldl); (case' h => intro a x ha; try dsimp only))

/-- What `State.stopUnit` may change. -/
theorem State.stopUnit_frame {ps : List Part} {s0 : State} (s : State) (u t : Nat) (hst : Changes ps s0 s) (hsub : [.units, .trace, .dram] ⊆ ps) :
    Changes ps s0 (State.stopUnit s u t) := by
  unfold State.stopUnit
  repeat' first
    | with_reducible assumption
    | ((with_reducible apply State.freezeGroup_frame); (case hsub => exact List.Subset.trans (by decide) hsub))
    | ((with_reducible apply State.freezeSink_frame); (case hsub => exact List.Subset.trans (by decide) hsub))
    | ((with_reducible apply State.modRunner_frame); (case hsub => exact List.Subset.trans (by decide) hsub))
    | ((with_reducible apply State.tapStop_frame); (case hsub => exact List.Subset.trans (by decide) hsub))
    | with_reducible apply Changes.ite

/-- What `State.noteActor` may change. -/
theorem State.noteActor_frame {ps : List Part} {s0 : State} (s : State) (castId u : Nat) (hst : Changes ps s0 s) (hsub : [.qu] ⊆ ps) :
    Changes ps s0 (State.noteActor s castId u) := by
  unfold State.noteActor
  repeat' first
    | with_reducible assumption
    | ((fail_if_no_progress extract_lets a1 a2))
    | dsimp only [a1]
    | dsimp only [a2]
    | (simp only [Changes.mk_eq_upd]; (with_reducible apply Changes.upd); (case e14 => exact Or.inl (hsub (by decide))); all_goals first | with_reducible exact Or.inr rfl | skip)

/-- What `State.noteJump` may change. -/
theorem State.noteJump_frame {ps : List Part} {s0 : State} (s : State) (u t : Nat) (hst : Changes ps s0 s) (hsub : [.units] ⊆ ps) :
    Changes ps s0 (State.noteJump s u t) := by
  unfold State.noteJump
  repeat' first
    | with_reducible assumption
    | ((with_reducible apply State.modTap_frame); (case hsub => exact List.Subset.trans (by decide) hsub))
    | with_reducible apply Changes.ite

/-- What `State.stopsFall` may change. -/
theorem State.stopsFall_frame {ps : List Part} {s0 : State} (s : State) (hst : Changes ps s0 s) (hsub : [.units, .qu, .trace, .dram] ⊆ ps) :
    Changes ps s0 (State.stopsFall s) := by
  unfold State.stopsFall
  repeat' first
    | with_reducible assumption
    | ((with_reducible apply State.noteActor_frame); (case hsub => exact List.Subset.trans (by decide) hsub))
    | ((with_reducible apply State.noteJump_frame); (case hsub => exact List.Subset.trans (by decide) hsub))
    | ((with_reducible apply State.stopUnit_frame); (case hsub => exact List.Subset.trans (by decide) hsub))
    | with_reducible apply Changes.ite
    | ((with_reducible apply Changes.foldl); (case' h => intro a x ha; try dsimp only))
    | split

/-- What `State.takeCut` may change. -/
theorem State.takeCut_frame {ps : List Part} {s0 : State} (s : State) (h : InHand) (hst : Changes ps s0 s) (hsub : [.emitted, .sched, .qu, .podCut, .adm, .backup, .flash, .logSeq, .log, .port] ⊆ ps) :
    Changes ps s0 (State.takeCut s h) := by
  unfold State.takeCut
  repeat' first
    | with_reducible assumption
    | ((with_reducible apply State.cutFlag_frame); (case hsub => exact List.Subset.trans (by decide) hsub))
    | ((with_reducible apply State.finishEntry_frame); (case hsub => exact List.Subset.trans (by decide) hsub))
    | ((with_reducible apply State.listOut_frame); (case hsub => exact List.Subset.trans (by decide) hsub))
    | ((with_reducible apply State.logged_frame); (case hsub => exact List.Subset.trans (by decide) hsub))
    | ((with_reducible apply State.podOutcome_frame); (case hsub => exact List.Subset.trans (by decide) hsub))
    | ((with_reducible apply State.sendCancel_frame); (case hsub => exact List.Subset.trans (by decide) hsub))
    | ((with_reducible apply State.tidyCasts_frame); (case hsub => exact List.Subset.trans (by decide) hsub))
    | with_reducible apply Changes.ite
    | ((fail_if_no_progress extract_lets a1 a2))
    | dsimp only [a1]
    | dsimp only [a2]
    | (simp only [Changes.mk_eq_upd]; (with_reducible apply Changes.upd); (case e2 | e12 | e14 | e15 | e19 | e24 | e25 | e26 | e29 | e30 => exact Or.inl (hsub (by decide))); all_goals first | with_reducible exact Or.inr rfl | skip)

/-- What `State.checkStop` may change. -/
theorem State.checkStop_frame {ps : List Part} {s0 : State} (s : State) (c : Nat) (hst : Changes ps s0 s) (hsub : [.emitted, .qu, .backup, .flash, .logSeq, .log, .port] ⊆ ps) :
    Changes ps s0 (State.checkStop s c) := by
  unfold State.checkStop
  repeat' first
    | with_reducible assumption
    | ((with_reducible apply State.listOut_frame); (case hsub => exact List.Subset.trans (by decide) hsub))
    | ((with_reducible apply State.logged_frame); (case hsub => exact List.Subset.trans (by decide) hsub))
    | with_reducible apply Changes.ite
    | ((fail_if_no_progress extract_lets a1))
    | dsimp only [a1]
    | (simp only [Changes.mk_eq_upd]; (with_reducible apply Changes.upd); (case e2 | e14 | e24 | e25 | e26 | e29 | e30 => exact Or.inl (hsub (by decide))); all_goals first | with_reducible exact Or.inr rfl | skip)

/-- What `State.listMembers` may change. -/
theorem State.listMembers_frame {ps : List Part} {s0 : State} (s : State) (h : InHand) (hst : Changes ps s0 s) (hsub : [.emitted, .qu, .backup, .flash, .logSeq, .log, .port] ⊆ ps) :
    Changes ps s0 (State.listMembers s h) := by
  unfold State.listMembers
  repeat' first
    | with_reducible assumption
    | ((with_reducible apply State.checkStop_frame); (case hsub => exact List.Subset.trans (by decide) hsub))
    | ((with_reducible apply State.listOut_frame); (case hsub => exact List.Subset.trans (by decide) hsub))
    | ((with_reducible apply State.sendCancel_frame); (case hsub => exact List.Subset.trans (by decide) hsub))
    | ((fail_if_no_progress extract_lets a1 a2))
    | dsimp only [a1]
    | dsimp only [a2]
    | (simp only [Changes.mk_eq_upd]; (with_reducible apply Changes.upd); (case e2 | e14 | e24 | e25 | e26 | e29 | e30 => exact Or.inl (hsub (by decide))); all_goals first | with_reducible exact Or.inr rfl | skip)
    | ((with_reducible apply Changes.foldl); (case' h => intro a x ha; try dsimp only))
    | split

/-- What `State.joinCut` may change. -/
theorem State.joinCut_frame {ps : List Part} {s0 : State} (s : State) (h : InHand) (t : Nat) (hst : Changes ps s0 s) (hsub : [.emitted, .qu, .backup, .flash, .logSeq, .log, .port] ⊆ ps) :
    Changes ps s0 (State.joinCut s h t) := by
  unfold State.joinCut
  repeat' first
    | with_reducible assumption
    | ((with_reducible apply State.checkStop_frame); (case hsub => exact List.Subset.trans (by decide) hsub))
    | ((with_reducible apply State.listIn_frame); (case hsub => exact List.Subset.trans (by decide) hsub))
    | with_reducible apply Changes.ite
    | ((fail_if_no_progress extract_lets a1))
    | dsimp only [a1]
    | (simp only [Changes.mk_eq_upd]; (with_reducible apply Changes.upd); (case e2 | e14 | e24 | e25 | e26 | e29 | e30 => exact Or.inl (hsub (by decide))); all_goals first | with_reducible exact Or.inr rfl | skip)

/-- What `State.closeQuench` may change. -/
theorem State.closeQuench_frame {ps : List Part} {s0 : State} (s : State) (h : InHand) (hst : Changes ps s0 s) (hsub : [.emitted, .sched, .qu, .podCut, .adm, .backup, .flash, .logSeq, .log, .port] ⊆ ps) :
    Changes ps s0 (State.closeQuench s h) := by
  unfold State.closeQuench
  repeat' first
    | with_reducible assumption
    | ((with_reducible apply State.completeEntry_frame); (case hsub => exact List.Subset.trans (by decide) hsub))
    | ((with_reducible apply State.cutFlag_frame); (case hsub => exact List.Subset.trans (by decide) hsub))
    | ((with_reducible apply State.finishEntry_frame); (case hsub => exact List.Subset.trans (by decide) hsub))
    | ((with_reducible apply State.logged_frame); (case hsub => exact List.Subset.trans (by decide) hsub))
    | ((with_reducible apply State.podOutcome_frame); (case hsub => exact List.Subset.trans (by decide) hsub))
    | ((with_reducible apply State.putEntry_frame); (case hsub => exact List.Subset.trans (by decide) hsub))
    | ((with_reducible apply State.tidyCasts_frame); (case hsub => exact List.Subset.trans (by decide) hsub))
    | with_reducible apply Changes.ite
    | ((fail_if_no_progress extract_lets a1 a2))
    | dsimp only [a1]
    | dsimp only [a2]
    | (simp only [Changes.mk_eq_upd]; (with_reducible apply Changes.upd); (case e2 | e12 | e14 | e15 | e19 | e24 | e25 | e26 | e29 | e30 => exact Or.inl (hsub (by decide))); all_goals first | with_reducible exact Or.inr rfl | skip)

/-- What `State.settleQuench` may change. -/
theorem State.settleQuench_frame {ps : List Part} {s0 : State} (s : State) (hst : Changes ps s0 s) (hsub : [.emitted, .sched, .qu, .podCut, .adm, .backup, .flash, .logSeq, .log, .port] ⊆ ps) :
    Changes ps s0 (State.settleQuench s) := by
  unfold State.settleQuench
  repeat' first
    | with_reducible assumption
    | ((with_reducible apply State.closeQuench_frame); (case hsub => exact List.Subset.trans (by decide) hsub))
    | with_reducible apply Changes.ite
    | split

/-- What `State.cancelHand` may change. -/
theorem State.cancelHand_frame {ps : List Part} {s0 : State} (s : State) (h : InHand) (hst : Changes ps s0 s) (hsub : [.emitted, .units, .qu] ⊆ ps) :
    Changes ps s0 (State.cancelHand s h) := by
  unfold State.cancelHand
  repeat' first
    | with_reducible assumption
    | ((with_reducible apply State.dropCast_frame); (case hsub => exact List.Subset.trans (by decide) hsub))
    | ((with_reducible apply State.ringDrop_frame); (case hsub => exact List.Subset.trans (by decide) hsub))
    | ((with_reducible apply State.selectAll_frame); (case hsub => exact List.Subset.trans (by decide) hsub))
    | ((with_reducible apply State.sendCancel_frame); (case hsub => exact List.Subset.trans (by decide) hsub))
    | ((with_reducible apply State.sendHold_frame); (case hsub => exact List.Subset.trans (by decide) hsub))
    | with_reducible apply Changes.ite
    | ((fail_if_no_progress extract_lets a1 a2 a3); try (refine (have ha1 : Changes ps s0 a1 := ?_; ?_); rotate_left; clear_value a1); try (refine (have ha2 : Changes ps s0 a2 := ?_; ?_); rotate_left; clear_value a2))
    | dsimp only [a2]
    | dsimp only [a3]
    | (simp only [Changes.mk_eq_upd]; (with_reducible apply Changes.upd); (case e2 | e13 | e14 => exact Or.inl (hsub (by decide))); all_goals first | with_reducible exact Or.inr rfl | skip)

/-- What `State.cancelEntry` may change. -/
theorem State.cancelEntry_frame {ps : List Part} {s0 : State} (s : State) (n : Nat) (hst : Changes ps s0 s) (hsub : [.emitted, .sched, .units, .qu, .podCut, .adm, .backup, .flash, .logSeq, .log, .port] ⊆ ps) :
    Changes ps s0 ((State.cancelEntry s n).1) := by
  unfold State.cancelEntry
  repeat' first
    | with_reducible assumption
    | ((with_reducible apply State.cancelHand_frame); (case hsub => exact List.Subset.trans (by decide) hsub))
    | ((with_reducible apply State.finishEntry_frame); (case hsub => exact List.Subset.trans (by decide) hsub))
    | ((with_reducible apply State.podOutcome_frame); (case hsub => exact List.Subset.trans (by decide) hsub))
    | ((with_reducible apply State.podWithdraw_frame); (case hsub => exact List.Subset.trans (by decide) hsub))
    | ((with_reducible apply State.putEntry_frame); (case hsub => exact List.Subset.trans (by decide) hsub))
    | with_reducible apply Changes.ite
    | ((fail_if_no_progress extract_lets a1 a2 a3 a4 a5 a6))
    | dsimp only [a1]
    | dsimp only [a2]
    | dsimp only [a3]
    | dsimp only [a4]
    | dsimp only [a5]
    | dsimp only [a6]
    | split

/-- What `State.tapStep` may change. -/
theorem State.tapStep_frame {ps : List Part} {s0 : State} (s : State) (c : Nat) (hst : Changes ps s0 s) (hsub : [.emitted, .sched, .units, .qu, .adm, .backup, .flash, .logSeq, .log, .port] ⊆ ps) :
    Changes ps s0 (State.tapStep s c) := by
  unfold State.tapStep
  repeat' first
    | with_reducible assumption
    | ((with_reducible apply State.modTap_frame); (case hsub => exact List.Subset.trans (by decide) hsub))

/-- What `State.releaseUnit` may change. -/
theorem State.releaseUnit_frame {ps : List Part} {s0 : State} (s : State) (u : Nat) (hst : Changes ps s0 s) (hsub : [.emitted, .sched, .units, .qu, .adm, .trace, .backup, .flash, .logSeq, .log, .port, .dram] ⊆ ps) :
    Changes ps s0 (State.releaseUnit s u) := by
  unfold State.releaseUnit
  repeat' first
    | with_reducible assumption
    | ((with_reducible apply State.modRunner_frame); (case hsub => exact List.Subset.trans (by decide) hsub))
    | ((with_reducible apply State.tapRelease_frame); (case hsub => exact List.Subset.trans (by decide) hsub))
    | ((with_reducible apply State.tapStep_frame); (case hsub => exact List.Subset.trans (by decide) hsub))
    | ((with_reducible apply State.thawGroup_frame); (case hsub => exact List.Subset.trans (by decide) hsub))
    | ((with_reducible apply State.thawSink_frame); (case hsub => exact List.Subset.trans (by decide) hsub))
    | with_reducible apply Changes.ite

/-- What `State.releasesFall` may change. -/
theorem State.releasesFall_frame {ps : List Part} {s0 : State} (s : State) (hst : Changes ps s0 s) (hsub : [.emitted, .sched, .units, .qu, .adm, .trace, .backup, .flash, .logSeq, .log, .port, .dram] ⊆ ps) :
    Changes ps s0 (State.releasesFall s) := by
  unfold State.releasesFall
  repeat' first
    | with_reducible assumption
    | ((with_reducible apply State.noteActor_frame); (case hsub => exact List.Subset.trans (by decide) hsub))
    | ((with_reducible apply State.noteJump_frame); (case hsub => exact List.Subset.trans (by decide) hsub))
    | ((with_reducible apply State.releaseUnit_frame); (case hsub => exact List.Subset.trans (by decide) hsub))
    | with_reducible apply Changes.ite
    | ((with_reducible apply Changes.foldl); (case' h => intro a x ha; try dsimp only))
    | split

/-- What `State.afterRelease` may change. -/
theorem State.afterRelease_frame {ps : List Part} {s0 : State} (s : State) (castId : Nat) (hst : Changes ps s0 s) (hsub : [.qu] ⊆ ps) :
    Changes ps s0 (State.afterRelease s castId) := by
  unfold State.afterRelease
  repeat' first
    | with_reducible assumption
    | ((fail_if_no_progress extract_lets a1 a2))
    | dsimp only [a1]
    | dsimp only [a2]
    | (simp only [Changes.mk_eq_upd]; (with_reducible apply Changes.upd); (case e14 => exact Or.inl (hsub (by decide))); all_goals first | with_reducible exact Or.inr rfl | skip)

/-- What `State.endStep` may change. -/
theorem State.endStep_frame {ps : List Part} {s0 : State} (s : State) (h : InHand) (hst : Changes ps s0 s) (hsub : [.emitted, .sched, .units, .qu, .adm, .backup, .flash, .logSeq, .log, .port] ⊆ ps) :
    Changes ps s0 (State.endStep s h) := by
  unfold State.endStep
  repeat' first
    | with_reducible assumption
    | ((with_reducible apply State.completeEntry_frame); (case hsub => exact List.Subset.trans (by decide) hsub))
    | ((with_reducible apply State.selectAll_frame); (case hsub => exact List.Subset.trans (by decide) hsub))
    | ((with_reducible apply State.tidyCasts_frame); (case hsub => exact List.Subset.trans (by decide) hsub))
    | with_reducible apply Changes.ite
    | ((fail_if_no_progress extract_lets a1))
    | dsimp only [a1]
    | (simp only [Changes.mk_eq_upd]; (with_reducible apply Changes.upd); (case e2 | e12 | e13 | e14 | e19 | e24 | e25 | e26 | e29 | e30 => exact Or.inl (hsub (by decide))); all_goals first | with_reducible exact Or.inr rfl | skip)

/-- What `State.settleStep` may change. -/
theorem State.settleStep_frame {ps : List Part} {s0 : State} (s : State) (hst : Changes ps s0 s) (hsub : [.emitted, .sched, .units, .qu, .adm, .backup, .flash, .logSeq, .log, .port] ⊆ ps) :
    Changes ps s0 (State.settleStep s) := by
  unfold State.settleStep
  repeat' first
    | with_reducible assumption
    | ((with_reducible apply State.endStep_frame); (case hsub => exact List.Subset.trans (by decide) hsub))
    | with_reducible apply Changes.ite
    | split

/-- What `State.quEnter` may change. -/
theorem State.quEnter_frame {ps : List Part} {s0 : State} (s : State) (action time : Nat) (param : Option Nat) (accept : Nat → SchedEntry → State → State) (hst : Changes ps s0 s) (h_accept : ∀ (x0 : Nat) (x1 : SchedEntry) (x2 : State), Changes ps s0 x2 → Changes ps s0 (accept x0 x1 x2)) (hsub : [.emitted, .sched, .adm, .backup, .flash, .logSeq, .log, .port] ⊆ ps) :
    Changes ps s0 ((State.quEnter s action time param accept).1) := by
  unfold State.quEnter
  repeat' first
    | with_reducible assumption
    | with_reducible apply h_accept
    | ((with_reducible apply State.putEntry_frame); (case hsub => exact List.Subset.trans (by decide) hsub))
    | ((with_reducible apply State.schedWrite_frame); (case' h_accept => intro y0 y1 y2 hy); (case hsub => exact List.Subset.trans (by decide) hsub))
    | dsimp only
    | split

end Sys2Proof.Machine
end

