-- ==== Sys2Proof/Laws/FrameServoOps.lean ====
section
/-!
SUPPORT. Frames of the operations of Machine/ServoOps.lean: the parts of the state that each may change.
-/
namespace Sys2Proof.Machine

/-- What `State.noteStray` may change. -/
theorem State.noteStray_frame {ps : List Part} {s0 : State} (s : State) (hst : Changes ps s0 s) (hsub : [.hub] ⊆ ps) :
    Changes ps s0 (State.noteStray s) := by
  unfold State.noteStray
  repeat' first
    | with_reducible assumption
    | ((with_reducible apply State.modCore_frame); (case hsub => exact List.Subset.trans (by decide) hsub))
    | with_reducible apply Changes.ite

/-- What `State.putRep` may change. -/
theorem State.putRep_frame {ps : List Part} {s0 : State} (s : State) (uid : Nat) (r : Replica) (hst : Changes ps s0 s) (hsub : [.tb, .units] ⊆ ps) :
    Changes ps s0 (State.putRep s uid r) := by
  unfold State.putRep
  repeat' first
    | with_reducible assumption
    | ((with_reducible apply State.modReplica_frame); (case hsub => exact List.Subset.trans (by decide) hsub))
    | with_reducible apply Changes.ite
    | ((fail_if_no_progress extract_lets a1))
    | dsimp only [a1]
    | (simp only [Changes.mk_eq_upd]; (with_reducible apply Changes.upd); (case e7 | e13 => exact Or.inl (hsub (by decide))); all_goals first | with_reducible exact Or.inr rfl | skip)

/-- What `State.putWire` may change. -/
theorem State.putWire_frame {ps : List Part} {s0 : State} (s : State) (core : Nat) (w : Wire) (hst : Changes ps s0 s) (hsub : [.wireA, .wireR] ⊆ ps) :
    Changes ps s0 (State.putWire s core w) := by
  unfold State.putWire
  repeat' first
    | with_reducible assumption
    | with_reducible apply Changes.ite
    | (simp only [Changes.mk_eq_upd]; (with_reducible apply Changes.upd); (case e8 | e9 => exact Or.inl (hsub (by decide))); all_goals first | with_reducible exact Or.inr rfl | skip)

/-- What `countMarkCrc` may change. -/
theorem countMarkCrc_frame {ps : List Part} {s0 : State} (s : State) (uid : Nat) (hst : Changes ps s0 s) (hsub : [.units] ⊆ ps) :
    Changes ps s0 (countMarkCrc s uid) := by
  unfold countMarkCrc
  repeat' first
    | with_reducible assumption
    | ((with_reducible apply State.modRunner_frame); (case hsub => exact List.Subset.trans (by decide) hsub))

/-- What `State.startWire` may change. -/
theorem State.startWire_frame {ps : List Part} {s0 : State} (s : State) (core : Nat) (hst : Changes ps s0 s) (hsub : [.wireA, .wireR] ⊆ ps) :
    Changes ps s0 (State.startWire s core) := by
  unfold State.startWire
  repeat' first
    | with_reducible assumption
    | ((with_reducible apply State.putWire_frame); (case hsub => exact List.Subset.trans (by decide) hsub))

/-- What `State.timeLoad` may change. -/
theorem State.timeLoad_frame {ps : List Part} {s0 : State} (s : State) (shift : Int) (hst : Changes ps s0 s) (hsub : [.emitted, .hub, .tb, .wireA, .wireR, .frame, .power, .backup, .flash, .logSeq, .log, .port] ⊆ ps) :
    Changes ps s0 (State.timeLoad s shift) := by
  unfold State.timeLoad
  repeat' first
    | with_reducible assumption
    | ((with_reducible apply State.endTokens_frame); (case hsub => exact List.Subset.trans (by decide) hsub))
    | ((with_reducible apply State.logged_frame); (case hsub => exact List.Subset.trans (by decide) hsub))
    | ((with_reducible apply State.noteStray_frame); (case hsub => exact List.Subset.trans (by decide) hsub))
    | ((with_reducible apply State.putWire_frame); (case hsub => exact List.Subset.trans (by decide) hsub))
    | with_reducible apply Changes.ite
    | ((fail_if_no_progress extract_lets a1 a2 a3 a4 a5))
    | dsimp only [a1]
    | dsimp only [a2]
    | dsimp only [a3]
    | dsimp only [a4]
    | dsimp only [a5]
    | (simp only [Changes.mk_eq_upd]; (with_reducible apply Changes.upd); (case e2 | e6 | e7 | e8 | e9 | e11 | e22 | e24 | e25 | e26 | e29 | e30 => exact Or.inl (hsub (by decide))); all_goals first | with_reducible exact Or.inr rfl | skip)

/-- What `State.timeStepNow` may change. -/
theorem State.timeStepNow_frame {ps : List Part} {s0 : State} (s : State) (delta : Int) (hst : Changes ps s0 s) (hsub : [.emitted, .tb, .pod, .frame, .power, .backup, .flash, .logSeq, .log, .port] ⊆ ps) :
    Changes ps s0 (State.timeStepNow s delta) := by
  unfold State.timeStepNow
  repeat' first
    | with_reducible assumption
    | ((with_reducible apply State.endTokens_frame); (case hsub => exact List.Subset.trans (by decide) hsub))
    | with_reducible apply Changes.ite
    | ((fail_if_no_progress extract_lets a1 a2 a3 a4))
    | dsimp only [a1]
    | dsimp only [a2]
    | dsimp only [a3]
    | dsimp only [a4]
    | (simp only [Changes.mk_eq_upd]; (with_reducible apply Changes.upd); (case e2 | e7 | e10 | e11 | e22 | e24 | e25 | e26 | e29 | e30 => exact Or.inl (hsub (by decide))); all_goals first | with_reducible exact Or.inr rfl | skip)

/-- What `State.setFreq` may change. -/
theorem State.setFreq_frame {ps : List Part} {s0 : State} (s : State) (ppb : Int) (hst : Changes ps s0 s) (hsub : [.tb, .pod] ⊆ ps) :
    Changes ps s0 (State.setFreq s ppb) := by
  unfold State.setFreq
  repeat' first
    | with_reducible assumption
    | ((fail_if_no_progress extract_lets a1 a2))
    | dsimp only [a1]
    | dsimp only [a2]
    | (simp only [Changes.mk_eq_upd]; (with_reducible apply Changes.upd); (case e7 | e10 => exact Or.inl (hsub (by decide))); all_goals first | with_reducible exact Or.inr rfl | skip)

/-- What `State.modServo` may change. -/
theorem State.modServo_frame {ps : List Part} {s0 : State} (s : State) (f : Servo → Servo) (hst : Changes ps s0 s) (hsub : [.pod] ⊆ ps) :
    Changes ps s0 (State.modServo s f) := by
  unfold State.modServo
  repeat' first
    | with_reducible assumption
    | ((fail_if_no_progress extract_lets a1))
    | dsimp only [a1]
    | (simp only [Changes.mk_eq_upd]; (with_reducible apply Changes.upd); (case e10 => exact Or.inl (hsub (by decide))); all_goals first | with_reducible exact Or.inr rfl | skip)

/-- What `State.onShadow` may change. -/
theorem State.onShadow_frame {ps : List Part} {s0 : State} (f : State → State) (s : State) (hst : Changes ps s0 s) (h_f : ∀ (x0 : State), Changes ps s0 x0 → Changes ps s0 (f x0)) (hsub : [.pod] ⊆ ps) :
    Changes ps s0 (State.onShadow f s) := by
  unfold State.onShadow
  repeat' first
    | with_reducible assumption
    | ((fail_if_no_progress extract_lets a1))
    | dsimp only [a1]
    | (simp only [Changes.mk_eq_upd]; (with_reducible apply Changes.upd); (case e10 => exact Or.inl (hsub (by decide))); all_goals first | with_reducible exact Or.inr rfl | skip)

/-- What `State.alsoStandby` may change. -/
theorem State.alsoStandby_frame {ps : List Part} {s0 : State} (f : State → State) (s : State) (hst : Changes ps s0 s) (h_f : ∀ (x0 : State), Changes ps s0 x0 → Changes ps s0 (f x0)) (hsub : [.pod] ⊆ ps) :
    Changes ps s0 (State.alsoStandby f s) := by
  unfold State.alsoStandby
  repeat' first
    | with_reducible assumption
    | with_reducible apply h_f
    | ((fail_if_no_progress extract_lets a1 a2); try (refine (have ha1 : Changes ps s0 a1 := ?_; ?_); rotate_left; clear_value a1))
    | dsimp only [a2]
    | (simp only [Changes.mk_eq_upd]; (with_reducible apply Changes.upd); (case e10 => exact Or.inl (hsub (by decide))); all_goals first | with_reducible exact Or.inr rfl | skip)

/-- What `State.servoInput` may change. -/
theorem State.servoInput_frame {ps : List Part} {s0 : State} (s : State) (θ : Rat) (hst : Changes ps s0 s) (hsub : [.freeCount, .tb, .pod] ⊆ ps) :
    Changes ps s0 (State.servoInput s θ) := by
  unfold State.servoInput
  repeat' first
    | with_reducible assumption
    | ((with_reducible apply State.drawn_frame); (case hsub => exact List.Subset.trans (by decide) hsub))
    | ((with_reducible apply State.modServo_frame); (case hsub => exact List.Subset.trans (by decide) hsub))
    | ((with_reducible apply State.setFreq_frame); (case hsub => exact List.Subset.trans (by decide) hsub))
    | with_reducible apply Changes.ite

/-- What `State.acceptOffset` may change. -/
theorem State.acceptOffset_frame {ps : List Part} {s0 : State} (s : State) (θ : Rat) (hst : Changes ps s0 s) (hsub : [.pod] ⊆ ps) :
    Changes ps s0 (State.acceptOffset s θ) := by
  unfold State.acceptOffset
  repeat' first
    | with_reducible assumption
    | ((with_reducible apply State.modServo_frame); (case hsub => exact List.Subset.trans (by decide) hsub))

/-- What `State.settleGrowth` may change. -/
theorem State.settleGrowth_frame {ps : List Part} {s0 : State} (s : State) (hst : Changes ps s0 s) (hsub : [.pod] ⊆ ps) :
    Changes ps s0 (State.settleGrowth s) := by
  unfold State.settleGrowth
  repeat' first
    | with_reducible assumption
    | ((with_reducible apply State.modServo_frame); (case hsub => exact List.Subset.trans (by decide) hsub))

/-- What `State.holdover` may change. -/
theorem State.holdover_frame {ps : List Part} {s0 : State} (s : State) (why : Nat) (hst : Changes ps s0 s) (hsub : [.emitted, .tb, .pod, .backup, .flash, .logSeq, .log, .port] ⊆ ps) :
    Changes ps s0 (State.holdover s why) := by
  unfold State.holdover
  repeat' first
    | with_reducible assumption
    | ((with_reducible apply State.modServo_frame); (case hsub => exact List.Subset.trans (by decide) hsub))
    | ((with_reducible apply State.setFreq_frame); (case hsub => exact List.Subset.trans (by decide) hsub))
    | with_reducible apply Changes.ite

/-- What `State.lockWith` may change. -/
theorem State.lockWith_frame {ps : List Part} {s0 : State} (s : State) (θ : Rat) (hst : Changes ps s0 s) (hsub : [.freeCount, .tb, .pod] ⊆ ps) :
    Changes ps s0 (State.lockWith s θ) := by
  unfold State.lockWith
  repeat' first
    | with_reducible assumption
    | ((with_reducible apply State.acceptOffset_frame); (case hsub => exact List.Subset.trans (by decide) hsub))
    | ((with_reducible apply State.modServo_frame); (case hsub => exact List.Subset.trans (by decide) hsub))
    | ((with_reducible apply State.servoInput_frame); (case hsub => exact List.Subset.trans (by decide) hsub))

/-- What `State.exitTest` may change. -/
theorem State.exitTest_frame {ps : List Part} {s0 : State} (s : State) (θr : Rat) (hst : Changes ps s0 s) (hsub : [.emitted, .freeCount, .tb, .pod, .backup, .flash, .logSeq, .log, .port] ⊆ ps) :
    Changes ps s0 (State.exitTest s θr) := by
  unfold State.exitTest
  repeat' first
    | with_reducible assumption
    | ((with_reducible apply State.lockWith_frame); (case hsub => exact List.Subset.trans (by decide) hsub))
    | ((with_reducible apply State.logged_frame); (case hsub => exact List.Subset.trans (by decide) hsub))
    | ((with_reducible apply State.modServo_frame); (case hsub => exact List.Subset.trans (by decide) hsub))
    | with_reducible apply Changes.ite

/-- What `State.clearReason` may change. -/
theorem State.clearReason_frame {ps : List Part} {s0 : State} (s : State) (why : Nat) (resumed : Option Rat) (hst : Changes ps s0 s) (hsub : [.emitted, .freeCount, .tb, .pod, .backup, .flash, .logSeq, .log, .port] ⊆ ps) :
    Changes ps s0 (State.clearReason s why resumed) := by
  unfold State.clearReason
  repeat' first
    | with_reducible assumption
    | ((with_reducible apply State.exitTest_frame); (case hsub => exact List.Subset.trans (by decide) hsub))
    | ((with_reducible apply State.modServo_frame); (case hsub => exact List.Subset.trans (by decide) hsub))
    | with_reducible apply Changes.ite
    | ((fail_if_no_progress extract_lets a1 a2 a3))
    | dsimp only [a1]
    | dsimp only [a2]
    | dsimp only [a3]
    | split

/-- What `State.holdSample` may change. -/
theorem State.holdSample_frame {ps : List Part} {s0 : State} (s : State) (θ : Rat) (hst : Changes ps s0 s) (hsub : [.emitted, .freeCount, .tb, .pod, .backup, .flash, .logSeq, .log, .port] ⊆ ps) :
    Changes ps s0 (State.holdSample s θ) := by
  unfold State.holdSample
  repeat' first
    | with_reducible assumption
    | ((with_reducible apply State.clearReason_frame); (case hsub => exact List.Subset.trans (by decide) hsub))
    | ((with_reducible apply State.exitTest_frame); (case hsub => exact List.Subset.trans (by decide) hsub))
    | ((with_reducible apply State.modServo_frame); (case hsub => exact List.Subset.trans (by decide) hsub))
    | with_reducible apply Changes.ite

/-- What `State.servoStep` may change. -/
theorem State.servoStep_frame {ps : List Part} {s0 : State} (s : State) (θ : Rat) (hst : Changes ps s0 s) (hsub : [.emitted, .freeCount, .hub, .tb, .wireA, .wireR, .pod, .frame, .power, .backup, .flash, .logSeq, .log, .port] ⊆ ps) :
    Changes ps s0 (State.servoStep s θ) := by
  unfold State.servoStep
  repeat' first
    | with_reducible assumption
    | ((with_reducible apply State.acceptOffset_frame); (case hsub => exact List.Subset.trans (by decide) hsub))
    | ((with_reducible apply State.holdSample_frame); (case hsub => exact List.Subset.trans (by decide) hsub))
    | ((with_reducible apply State.holdover_frame); (case hsub => exact List.Subset.trans (by decide) hsub))
    | ((with_reducible apply State.logged_frame); (case hsub => exact List.Subset.trans (by decide) hsub))
    | ((with_reducible apply State.modServo_frame); (case hsub => exact List.Subset.trans (by decide) hsub))
    | ((with_reducible apply State.servoInput_frame); (case hsub => exact List.Subset.trans (by decide) hsub))
    | ((with_reducible apply State.timeLoad_frame); (case hsub => exact List.Subset.trans (by decide) hsub))
    | with_reducible apply Changes.ite

/-- What `State.servoRestart` may change. -/
theorem State.servoRestart_frame {ps : List Part} {s0 : State} (s : State) (hst : Changes ps s0 s) (hsub : [.tb, .pod] ⊆ ps) :
    Changes ps s0 (State.servoRestart s) := by
  unfold State.servoRestart
  repeat' first
    | with_reducible assumption
    | ((with_reducible apply State.modServo_frame); (case hsub => exact List.Subset.trans (by decide) hsub))
    | ((with_reducible apply State.setFreq_frame); (case hsub => exact List.Subset.trans (by decide) hsub))

/-- What `State.modTimePort` may change. -/
theorem State.modTimePort_frame {ps : List Part} {s0 : State} (s : State) (p : Nat) (f : TimePort → TimePort) (hst : Changes ps s0 s) (hsub : [.pod] ⊆ ps) :
    Changes ps s0 (State.modTimePort s p f) := by
  unfold State.modTimePort
  repeat' first
    | with_reducible assumption
    | ((fail_if_no_progress extract_lets a1))
    | dsimp only [a1]
    | (simp only [Changes.mk_eq_upd]; (with_reducible apply Changes.upd); (case e10 => exact Or.inl (hsub (by decide))); all_goals first | with_reducible exact Or.inr rfl | skip)

/-- What `State.follow` may change. -/
theorem State.follow_frame {ps : List Part} {s0 : State} (s : State) (p : Nat) (o : Offer) (hst : Changes ps s0 s) (hsub : [.pod] ⊆ ps) :
    Changes ps s0 (State.follow s p o) := by
  unfold State.follow
  repeat' first
    | with_reducible assumption
    | ((fail_if_no_progress extract_lets a1))
    | dsimp only [a1]
    | (simp only [Changes.mk_eq_upd]; (with_reducible apply Changes.upd); (case e10 => exact Or.inl (hsub (by decide))); all_goals first | with_reducible exact Or.inr rfl | skip)

/-- What `State.pathChange` may change. -/
theorem State.pathChange_frame {ps : List Part} {s0 : State} (s : State) (old new : Nat) (hst : Changes ps s0 s) (hsub : [.emitted, .tb, .pod, .backup, .flash, .logSeq, .log, .port] ⊆ ps) :
    Changes ps s0 (State.pathChange s old new) := by
  unfold State.pathChange
  repeat' first
    | with_reducible assumption
    | ((with_reducible apply State.holdover_frame); (case hsub => exact List.Subset.trans (by decide) hsub))
    | ((with_reducible apply State.logged_frame); (case hsub => exact List.Subset.trans (by decide) hsub))
    | ((with_reducible apply State.modServo_frame); (case hsub => exact List.Subset.trans (by decide) hsub))

/-- What `State.takeUpstream` may change. -/
theorem State.takeUpstream_frame {ps : List Part} {s0 : State} (s : State) (p : Nat) (hst : Changes ps s0 s) (hsub : [.emitted, .freeCount, .tb, .pod, .backup, .flash, .logSeq, .log, .port] ⊆ ps) :
    Changes ps s0 (State.takeUpstream s p) := by
  unfold State.takeUpstream
  repeat' first
    | with_reducible assumption
    | ((with_reducible apply State.clearReason_frame); (case hsub => exact List.Subset.trans (by decide) hsub))
    | ((with_reducible apply State.follow_frame); (case hsub => exact List.Subset.trans (by decide) hsub))
    | ((with_reducible apply State.pathChange_frame); (case hsub => exact List.Subset.trans (by decide) hsub))
    | ((fail_if_no_progress extract_lets a1 a2))
    | dsimp only [a1]
    | dsimp only [a2]
    | (simp only [Changes.mk_eq_upd]; (with_reducible apply Changes.upd); (case e2 | e3 | e7 | e10 | e24 | e25 | e26 | e29 | e30 => exact Or.inl (hsub (by decide))); all_goals first | with_reducible exact Or.inr rfl | skip)
    | split

/-- What `State.dropUpstream` may change. -/
theorem State.dropUpstream_frame {ps : List Part} {s0 : State} (s : State) (hst : Changes ps s0 s) (hsub : [.pod] ⊆ ps) :
    Changes ps s0 (State.dropUpstream s) := by
  unfold State.dropUpstream
  repeat' first
    | with_reducible assumption
    | ((fail_if_no_progress extract_lets a1))
    | dsimp only [a1]
    | (simp only [Changes.mk_eq_upd]; (with_reducible apply Changes.upd); (case e10 => exact Or.inl (hsub (by decide))); all_goals first | with_reducible exact Or.inr rfl | skip)

/-- What `State.startLoop` may change. -/
theorem State.startLoop_frame {ps : List Part} {s0 : State} (s : State) (p : Nat) (hst : Changes ps s0 s) (hsub : [.emitted, .pod] ⊆ ps) :
    Changes ps s0 (State.startLoop s p) := by
  unfold State.startLoop
  repeat' first
    | with_reducible assumption
    | ((with_reducible apply State.emit_frame); (case hsub => exact List.Subset.trans (by decide) hsub))
    | ((with_reducible apply State.modTimePort_frame); (case hsub => exact List.Subset.trans (by decide) hsub))
    | with_reducible apply Changes.ite
    | ((fail_if_no_progress extract_lets a1); try (refine (have ha1 : Changes ps s0 a1 := ?_; ?_); rotate_left; clear_value a1))
    | ((with_reducible apply Changes.foldl); (case' h => intro a x ha; try dsimp only))

/-- What `State.resolveAsym` may change. -/
theorem State.resolveAsym_frame {ps : List Part} {s0 : State} (s : State) (a : Rat) (hst : Changes ps s0 s) (hsub : [.emitted, .freeCount, .tb, .pod, .backup, .flash, .logSeq, .log, .port] ⊆ ps) :
    Changes ps s0 (State.resolveAsym s a) := by
  unfold State.resolveAsym
  repeat' first
    | with_reducible assumption
    | ((with_reducible apply State.acceptOffset_frame); (case hsub => exact List.Subset.trans (by decide) hsub))
    | ((with_reducible apply State.clearReason_frame); (case hsub => exact List.Subset.trans (by decide) hsub))
    | ((with_reducible apply State.exitTest_frame); (case hsub => exact List.Subset.trans (by decide) hsub))
    | ((with_reducible apply State.logged_frame); (case hsub => exact List.Subset.trans (by decide) hsub))
    | ((with_reducible apply State.modServo_frame); (case hsub => exact List.Subset.trans (by decide) hsub))
    | ((with_reducible apply State.servoInput_frame); (case hsub => exact List.Subset.trans (by decide) hsub))
    | ((with_reducible apply State.setFreq_frame); (case hsub => exact List.Subset.trans (by decide) hsub))
    | with_reducible apply Changes.ite

/-- What `State.unresolveAsym` may change. -/
theorem State.unresolveAsym_frame {ps : List Part} {s0 : State} (s : State) (hst : Changes ps s0 s) (hsub : [.emitted, .tb, .pod, .backup, .flash, .logSeq, .log, .port] ⊆ ps) :
    Changes ps s0 (State.unresolveAsym s) := by
  unfold State.unresolveAsym
  repeat' first
    | with_reducible assumption
    | ((with_reducible apply State.logged_frame); (case hsub => exact List.Subset.trans (by decide) hsub))
    | ((with_reducible apply State.modServo_frame); (case hsub => exact List.Subset.trans (by decide) hsub))

/-- What `State.asymDecide` may change. -/
theorem State.asymDecide_frame {ps : List Part} {s0 : State} (s : State) (hst : Changes ps s0 s) (hsub : [.emitted, .freeCount, .tb, .pod, .backup, .flash, .logSeq, .log, .port] ⊆ ps) :
    Changes ps s0 (State.asymDecide s) := by
  unfold State.asymDecide
  repeat' first
    | with_reducible assumption
    | ((with_reducible apply State.modServo_frame); (case hsub => exact List.Subset.trans (by decide) hsub))
    | ((with_reducible apply State.resolveAsym_frame); (case hsub => exact List.Subset.trans (by decide) hsub))
    | ((with_reducible apply State.unresolveAsym_frame); (case hsub => exact List.Subset.trans (by decide) hsub))
    | with_reducible apply Changes.ite
    | ((fail_if_no_progress extract_lets a1 a2))
    | dsimp only [a1]
    | dsimp only [a2]
    | split

/-- What `State.takeBound` may change. -/
theorem State.takeBound_frame {ps : List Part} {s0 : State} (s : State) (hst : Changes ps s0 s) (hsub : [.pod] ⊆ ps) :
    Changes ps s0 (State.takeBound s) := by
  unfold State.takeBound
  repeat' first
    | with_reducible assumption
    | ((fail_if_no_progress extract_lets a1))
    | dsimp only [a1]
    | (simp only [Changes.mk_eq_upd]; (with_reducible apply Changes.upd); (case e10 => exact Or.inl (hsub (by decide))); all_goals first | with_reducible exact Or.inr rfl | skip)
    | split

/-- What `State.linkSample` may change. -/
theorem State.linkSample_frame {ps : List Part} {s0 : State} (s : State) (raw rt : Rat) (hst : Changes ps s0 s) (hsub : [.emitted, .freeCount, .hub, .tb, .wireA, .wireR, .pod, .frame, .power, .backup, .flash, .logSeq, .log, .port] ⊆ ps) :
    Changes ps s0 (State.linkSample s raw rt) := by
  unfold State.linkSample
  repeat' first
    | with_reducible assumption
    | ((with_reducible apply State.asymDecide_frame); (case hsub => exact List.Subset.trans (by decide) hsub))
    | ((with_reducible apply State.modServo_frame); (case hsub => exact List.Subset.trans (by decide) hsub))
    | ((with_reducible apply State.servoStep_frame); (case hsub => exact List.Subset.trans (by decide) hsub))
    | ((with_reducible apply State.takeBound_frame); (case hsub => exact List.Subset.trans (by decide) hsub))
    | with_reducible apply Changes.ite

/-- What `State.slewStep` may change. -/
theorem State.slewStep_frame {ps : List Part} {s0 : State} (s : State) (hst : Changes ps s0 s) (hsub : [.freeCount, .tb, .pod] ⊆ ps) :
    Changes ps s0 (State.slewStep s) := by
  unfold State.slewStep
  repeat' first
    | with_reducible assumption
    | ((with_reducible apply State.lockWith_frame); (case hsub => exact List.Subset.trans (by decide) hsub))
    | ((with_reducible apply State.modServo_frame); (case hsub => exact List.Subset.trans (by decide) hsub))
    | with_reducible apply Changes.ite
    | ((fail_if_no_progress extract_lets a1))
    | dsimp only [a1]
    | (simp only [Changes.mk_eq_upd]; (with_reducible apply Changes.upd); (case e3 | e7 | e10 => exact Or.inl (hsub (by decide))); all_goals first | with_reducible exact Or.inr rfl | skip)

/-- What `State.podTick` may change. -/
theorem State.podTick_frame {ps : List Part} {s0 : State} (s : State) (hst : Changes ps s0 s) (hsub : [.pod] ⊆ ps) :
    Changes ps s0 (State.podTick s) := by
  unfold State.podTick
  repeat' first
    | with_reducible assumption
    | ((with_reducible apply State.modTimePort_frame); (case hsub => exact List.Subset.trans (by decide) hsub))
    | with_reducible apply Changes.ite
    | ((fail_if_no_progress extract_lets a1 a2 a3 a4 a5 a6))
    | dsimp only [a1]
    | dsimp only [a2]
    | dsimp only [a3]
    | dsimp only [a4]
    | dsimp only [a5]
    | dsimp only [a6]
    | (simp only [Changes.mk_eq_upd]; (with_reducible apply Changes.upd); (case e10 => exact Or.inl (hsub (by decide))); all_goals first | with_reducible exact Or.inr rfl | skip)
    | ((with_reducible apply Changes.foldl); (case' h => intro a x ha; try dsimp only))

end Sys2Proof.Machine
end

