-- ==== Sys2Proof/Laws/FrameTimeBase.lean ====
section
/-!
SUPPORT. Frames of the operations of Machine/TimeBase.lean: the parts of the state that each may change.
-/
namespace Sys2Proof.Machine

/-- What `State.onMsg` may change. -/
theorem State.onMsg_frame {ps : List Part} {s0 : State} (s : State) (uid type : Nat) (m : List Nat) (f : List Nat → State → State) (hst : Changes ps s0 s) (h_f : ∀ (x0 : List Nat) (x1 : State), Changes ps s0 x1 → Changes ps s0 (f x0 x1)) (hsub : [.units] ⊆ ps) :
    Changes ps s0 (State.onMsg s uid type m f) := by
  unfold State.onMsg
  repeat' first
    | with_reducible assumption
    | with_reducible apply h_f
    | ((with_reducible apply countMarkCrc_frame); (case hsub => exact List.Subset.trans (by decide) hsub))
    | with_reducible apply Changes.ite

/-- What `State.sendCalReq` may change. -/
theorem State.sendCalReq_frame {ps : List Part} {s0 : State} (s : State) (core uid : Nat) (repeated : Bool) (hst : Changes ps s0 s) (hsub : [.emitted, .wireA, .wireR] ⊆ ps) :
    Changes ps s0 (State.sendCalReq s core uid repeated) := by
  unfold State.sendCalReq
  repeat' first
    | with_reducible assumption
    | ((with_reducible apply State.emit_frame); (case hsub => exact List.Subset.trans (by decide) hsub))
    | ((with_reducible apply State.putWire_frame); (case hsub => exact List.Subset.trans (by decide) hsub))

/-- What `State.slotB` may change. -/
theorem State.slotB_frame {ps : List Part} {s0 : State} (s : State) (core : Nat) (hst : Changes ps s0 s) (hsub : [.emitted, .wireA, .wireR] ⊆ ps) :
    Changes ps s0 (State.slotB s core) := by
  unfold State.slotB
  repeat' first
    | with_reducible assumption
    | ((with_reducible apply State.emit_frame); (case hsub => exact List.Subset.trans (by decide) hsub))
    | ((with_reducible apply State.putWire_frame); (case hsub => exact List.Subset.trans (by decide) hsub))
    | ((with_reducible apply State.sendCalReq_frame); (case hsub => exact List.Subset.trans (by decide) hsub))
    | with_reducible apply Changes.ite
    | ((fail_if_no_progress extract_lets a1 a2 a3 a4))
    | dsimp only [a1]
    | dsimp only [a2]
    | dsimp only [a3]
    | dsimp only [a4]
    | split

/-- What `State.standbyMoved` may change. -/
theorem State.standbyMoved_frame {ps : List Part} {s0 : State} (s : State) (d : Int) (hst : Changes ps s0 s) (hsub : [.hub, .tb] ⊆ ps) :
    Changes ps s0 (State.standbyMoved s d) := by
  unfold State.standbyMoved
  repeat' first
    | with_reducible assumption
    | ((with_reducible apply State.noteStray_frame); (case hsub => exact List.Subset.trans (by decide) hsub))
    | ((fail_if_no_progress extract_lets a1))
    | dsimp only [a1]
    | (simp only [Changes.mk_eq_upd]; (with_reducible apply Changes.upd); (case e6 | e7 => exact Or.inl (hsub (by decide))); all_goals first | with_reducible exact Or.inr rfl | skip)

/-- What `State.trackMsg` may change. -/
theorem State.trackMsg_frame {ps : List Part} {s0 : State} (s : State) (uid : Nat) (m : List Nat) (load : Bool) (hst : Changes ps s0 s) (hsub : [.emitted, .hub, .tb, .units, .backup, .flash, .logSeq, .log, .port] ⊆ ps) :
    Changes ps s0 (State.trackMsg s uid m load) := by
  unfold State.trackMsg
  repeat' first
    | with_reducible assumption
    | ((with_reducible apply State.logged_frame); (case hsub => exact List.Subset.trans (by decide) hsub))
    | ((with_reducible apply State.putRep_frame); (case hsub => exact List.Subset.trans (by decide) hsub))
    | ((with_reducible apply State.standbyMoved_frame); (case hsub => exact List.Subset.trans (by decide) hsub))
    | with_reducible apply Changes.ite
    | ((fail_if_no_progress extract_lets a1 a2 a3))
    | dsimp only [a1]
    | dsimp only [a2]
    | dsimp only [a3]
    | split

/-- What `State.tickLost` may change. -/
theorem State.tickLost_frame {ps : List Part} {s0 : State} (s : State) (hst : Changes ps s0 s) (hsub : [.emitted, .tb, .pod, .backup, .flash, .logSeq, .log, .port] ⊆ ps) :
    Changes ps s0 (State.tickLost s) := by
  unfold State.tickLost
  repeat' first
    | with_reducible assumption
    | ((with_reducible apply State.holdover_frame); (case hsub => exact List.Subset.trans (by decide) hsub))
    | with_reducible apply Changes.ite

/-- What `State.alignTo` may change. -/
theorem State.alignTo_frame {ps : List Part} {s0 : State} (s : State) (off : Int) (hst : Changes ps s0 s) (hsub : [.emitted, .freeCount, .hub, .tb, .wireA, .wireR, .pod, .frame, .power, .backup, .flash, .logSeq, .log, .port] ⊆ ps) :
    Changes ps s0 (State.alignTo s off) := by
  unfold State.alignTo
  repeat' first
    | with_reducible assumption
    | ((with_reducible apply State.acceptOffset_frame); (case hsub => exact List.Subset.trans (by decide) hsub))
    | ((with_reducible apply State.modServo_frame); (case hsub => exact List.Subset.trans (by decide) hsub))
    | ((with_reducible apply State.servoInput_frame); (case hsub => exact List.Subset.trans (by decide) hsub))
    | ((with_reducible apply State.timeLoad_frame); (case hsub => exact List.Subset.trans (by decide) hsub))
    | with_reducible apply Changes.ite

/-- What `State.tickEdge` may change. -/
theorem State.tickEdge_frame {ps : List Part} {s0 : State} (s : State) (prev : Option Nat) (v : TickVerdict) (hst : Changes ps s0 s) (hsub : [.emitted, .freeCount, .hub, .tb, .wireA, .wireR, .pod, .frame, .power, .backup, .flash, .logSeq, .log, .port] ⊆ ps) :
    Changes ps s0 (State.tickEdge s prev v) := by
  unfold State.tickEdge
  repeat' first
    | with_reducible assumption
    | ((with_reducible apply State.alignTo_frame); (case hsub => exact List.Subset.trans (by decide) hsub))
    | ((with_reducible apply State.clearReason_frame); (case hsub => exact List.Subset.trans (by decide) hsub))
    | ((with_reducible apply State.logged_frame); (case hsub => exact List.Subset.trans (by decide) hsub))
    | ((with_reducible apply State.modServo_frame); (case hsub => exact List.Subset.trans (by decide) hsub))
    | ((with_reducible apply State.servoStep_frame); (case hsub => exact List.Subset.trans (by decide) hsub))
    | ((with_reducible apply State.tickLost_frame); (case hsub => exact List.Subset.trans (by decide) hsub))
    | with_reducible apply Changes.ite
    | ((fail_if_no_progress extract_lets a1 a2))
    | dsimp only [a1]
    | dsimp only [a2]
    | split

/-- What `State.standbyEdge` may change. -/
theorem State.standbyEdge_frame {ps : List Part} {s0 : State} (s : State) (x : TickIn × TickVerdict) (hst : Changes ps s0 s) (hsub : [.emitted, .freeCount, .hub, .tb, .wireA, .wireR, .pod, .frame, .power, .backup, .flash, .logSeq, .log, .port] ⊆ ps) :
    Changes ps s0 (State.standbyEdge s x) := by
  unfold State.standbyEdge
  repeat' first
    | with_reducible assumption
    | ((fail_if_no_progress extract_lets a1 a2))
    | dsimp only [a1]
    | dsimp only [a2]
    | (simp only [Changes.mk_eq_upd]; (with_reducible apply Changes.upd); (case e2 | e3 | e6 | e7 | e8 | e9 | e10 | e11 | e22 | e24 | e25 | e26 | e29 | e30 => exact Or.inl (hsub (by decide))); all_goals first | with_reducible exact Or.inr rfl | skip)

end Sys2Proof.Machine
end

