-- ==== Sys2Proof/Laws/FramePodTime.lean ====
section
/-!
SUPPORT. Frames of the operations of Machine/PodTime.lean: the parts of the state that each may change.
-/
namespace Sys2Proof.Machine

/-- What `State.heardUpstream` may change. -/
theorem State.heardUpstream_frame {ps : List Part} {s0 : State} (s : State) (p : Nat) (o : Offer) (hst : Changes ps s0 s) (hsub : [.emitted, .tb, .pod, .backup, .flash, .logSeq, .log, .port] ⊆ ps) :
    Changes ps s0 (State.heardUpstream s p o) := by
  unfold State.heardUpstream
  repeat' first
    | with_reducible assumption
    | ((with_reducible apply State.follow_frame); (case hsub => exact List.Subset.trans (by decide) hsub))
    | ((with_reducible apply State.pathChange_frame); (case hsub => exact List.Subset.trans (by decide) hsub))
    | with_reducible apply Changes.ite
    | ((fail_if_no_progress extract_lets a1))
    | dsimp only [a1]
    | (simp only [Changes.mk_eq_upd]; (with_reducible apply Changes.upd); (case e2 | e7 | e10 | e24 | e25 | e26 | e29 | e30 => exact Or.inl (hsub (by decide))); all_goals first | with_reducible exact Or.inr rfl | skip)

/-- What `State.takeExchange` may change. -/
theorem State.takeExchange_frame {ps : List Part} {s0 : State} (s : State) (e : Nat × Nat × Nat × Nat) (hst : Changes ps s0 s) (hsub : [.emitted, .freeCount, .hub, .tb, .wireA, .wireR, .pod, .frame, .power, .backup, .flash, .logSeq, .log, .port] ⊆ ps) :
    Changes ps s0 (State.takeExchange s e) := by
  unfold State.takeExchange
  repeat' first
    | with_reducible assumption
    | ((with_reducible apply State.linkSample_frame); (case hsub => exact List.Subset.trans (by decide) hsub))
    | with_reducible apply Changes.ite

/-- What `State.syncIn` may change. -/
theorem State.syncIn_frame {ps : List Part} {s0 : State} (s : State) (p : Nat) (m : List Byte) (hst : Changes ps s0 s) (hsub : [.emitted, .freeCount, .hub, .tb, .wireA, .wireR, .pod, .frame, .power, .backup, .flash, .logSeq, .log, .port] ⊆ ps) :
    Changes ps s0 (State.syncIn s p m) := by
  unfold State.syncIn
  repeat' first
    | with_reducible assumption
    | ((with_reducible apply State.drawn_frame); (case hsub => exact List.Subset.trans (by decide) hsub))
    | ((with_reducible apply State.heardUpstream_frame); (case hsub => exact List.Subset.trans (by decide) hsub))
    | ((with_reducible apply State.modTimePort_frame); (case hsub => exact List.Subset.trans (by decide) hsub))
    | ((with_reducible apply State.startLoop_frame); (case hsub => exact List.Subset.trans (by decide) hsub))
    | ((with_reducible apply State.takeExchange_frame); (case hsub => exact List.Subset.trans (by decide) hsub))
    | ((with_reducible apply State.takeUpstream_frame); (case hsub => exact List.Subset.trans (by decide) hsub))
    | with_reducible apply Changes.ite
    | ((fail_if_no_progress extract_lets a1))
    | dsimp only [a1]
    | (simp only [Changes.mk_eq_upd]; (with_reducible apply Changes.upd); (case e2 | e3 | e6 | e7 | e8 | e9 | e10 | e11 | e22 | e24 | e25 | e26 | e29 | e30 => exact Or.inl (hsub (by decide))); all_goals first | with_reducible exact Or.inr rfl | skip)
    | dsimp only
    | split

/-- What `State.servoAlone` may change. -/
theorem State.servoAlone_frame {ps : List Part} {s0 : State} (s : State) (hst : Changes ps s0 s) (hsub : [.emitted, .tb, .pod, .backup, .flash, .logSeq, .log, .port] ⊆ ps) :
    Changes ps s0 (State.servoAlone s) := by
  unfold State.servoAlone
  repeat' first
    | with_reducible assumption
    | ((with_reducible apply State.modServo_frame); (case hsub => exact List.Subset.trans (by decide) hsub))
    | with_reducible apply Changes.ite

/-- What `State.reselect` may change. -/
theorem State.reselect_frame {ps : List Part} {s0 : State} (s : State) (hst : Changes ps s0 s) (hsub : [.emitted, .freeCount, .tb, .pod, .backup, .flash, .logSeq, .log, .port] ⊆ ps) :
    Changes ps s0 (State.reselect s) := by
  unfold State.reselect
  repeat' first
    | with_reducible assumption
    | ((with_reducible apply State.dropUpstream_frame); (case hsub => exact List.Subset.trans (by decide) hsub))
    | ((with_reducible apply State.takeUpstream_frame); (case hsub => exact List.Subset.trans (by decide) hsub))
    | split

/-- What `State.askLoop` may change. -/
theorem State.askLoop_frame {ps : List Part} {s0 : State} (s : State) (hst : Changes ps s0 s) (hsub : [.emitted, .pod] ⊆ ps) :
    Changes ps s0 (State.askLoop s) := by
  unfold State.askLoop
  repeat' first
    | with_reducible assumption
    | ((with_reducible apply State.modTimePort_frame); (case hsub => exact List.Subset.trans (by decide) hsub))
    | ((with_reducible apply State.startLoop_frame); (case hsub => exact List.Subset.trans (by decide) hsub))
    | dsimp only
    | split

/-- What `State.endWindow` may change. -/
theorem State.endWindow_frame {ps : List Part} {s0 : State} (s : State) (hst : Changes ps s0 s) (hsub : [.emitted, .pod] ⊆ ps) :
    Changes ps s0 (State.endWindow s) := by
  unfold State.endWindow
  repeat' first
    | with_reducible assumption
    | ((with_reducible apply State.askLoop_frame); (case hsub => exact List.Subset.trans (by decide) hsub))
    | ((with_reducible apply State.modServo_frame); (case hsub => exact List.Subset.trans (by decide) hsub))
    | ((with_reducible apply State.onlyIf_frame); (case' h_f => intro y0 hy); (case hsub => exact List.Subset.trans (by decide) hsub))
    | split

/-- What `State.retryAsym` may change. -/
theorem State.retryAsym_frame {ps : List Part} {s0 : State} (s : State) (hst : Changes ps s0 s) (hsub : [.emitted, .pod] ⊆ ps) :
    Changes ps s0 (State.retryAsym s) := by
  unfold State.retryAsym
  repeat' first
    | with_reducible assumption
    | ((with_reducible apply State.askLoop_frame); (case hsub => exact List.Subset.trans (by decide) hsub))
    | ((with_reducible apply State.modServo_frame); (case hsub => exact List.Subset.trans (by decide) hsub))
    | ((with_reducible apply State.onlyIf_frame); (case' h_f => intro y0 hy); (case hsub => exact List.Subset.trans (by decide) hsub))

/-- What `State.cmdServoRestart` may change. -/
theorem State.cmdServoRestart_frame {ps : List Part} {s0 : State} (s : State) (value : Nat) (hst : Changes ps s0 s) (hsub : [.tb, .pod] ⊆ ps) :
    Changes ps s0 ((State.cmdServoRestart s value).state) := by
  unfold State.cmdServoRestart
  repeat' first
    | with_reducible assumption
    | ((with_reducible apply State.accept_frame); (case hsub => exact List.Subset.trans (by decide) hsub))
    | ((with_reducible apply State.alsoStandby_frame); (case' h_f => intro y0 hy); (case hsub => exact List.Subset.trans (by decide) hsub))
    | ((with_reducible apply State.refuse_frame); (case hsub => exact List.Subset.trans (by decide) hsub))
    | ((with_reducible apply State.servoRestart_frame); (case hsub => exact List.Subset.trans (by decide) hsub))
    | split

end Sys2Proof.Machine
end

