-- ==== Sys2Proof/Laws/FrameObjects.lean ====
section
/-!
SUPPORT. Frames of the operations of Machine/Objects.lean: the parts of the state that each may change.
-/
namespace Sys2Proof.Machine

/-- What `State.addDigest` may change. -/
theorem State.addDigest_frame {ps : List Part} {s0 : State} (s : State) (hst : Changes ps s0 s) (hsub : [.lc] ⊆ ps) :
    Changes ps s0 (State.addDigest s) := by
  unfold State.addDigest
  repeat' first
    | with_reducible assumption
    | with_reducible apply Changes.ite
    | ((fail_if_no_progress extract_lets a1 a2))
    | dsimp only [a1]
    | dsimp only [a2]
    | (simp only [Changes.mk_eq_upd]; (with_reducible apply Changes.upd); (case e32 => exact Or.inl (hsub (by decide))); all_goals first | with_reducible exact Or.inr rfl | skip)

/-- What `State.persistOptions` may change. -/
theorem State.persistOptions_frame {ps : List Part} {s0 : State} (s : State) (hst : Changes ps s0 s) (hsub : [.flash, .lc] ⊆ ps) :
    Changes ps s0 (State.persistOptions s) := by
  unfold State.persistOptions
  repeat' first
    | with_reducible assumption
    | ((with_reducible apply State.addDigest_frame); (case hsub => exact List.Subset.trans (by decide) hsub))
    | ((fail_if_no_progress extract_lets a1 a2); try (refine (have ha1 : Changes ps s0 a1 := ?_; ?_); rotate_left; clear_value a1))
    | dsimp only [a2]
    | (simp only [Changes.mk_eq_upd]; (with_reducible apply Changes.upd); (case e25 | e32 => exact Or.inl (hsub (by decide))); all_goals first | with_reducible exact Or.inr rfl | skip)
    | split

/-- What `State.setRailMap` may change. -/
theorem State.setRailMap_frame {ps : List Part} {s0 : State} (s : State) (b : List Byte) (hst : Changes ps s0 s) (hsub : [.power] ⊆ ps) :
    Changes ps s0 (State.setRailMap s b) := by
  unfold State.setRailMap
  repeat' first
    | with_reducible assumption
    | ((fail_if_no_progress extract_lets a1 a2 a3))
    | dsimp only [a1]
    | dsimp only [a2]
    | dsimp only [a3]
    | (simp only [Changes.mk_eq_upd]; (with_reducible apply Changes.upd); (case e22 => exact Or.inl (hsub (by decide))); all_goals first | with_reducible exact Or.inr rfl | skip)

/-- What `State.tickAgain` may change. -/
theorem State.tickAgain_frame {ps : List Part} {s0 : State} (s : State) (hst : Changes ps s0 s) (hsub : [.emitted, .tb, .pod, .backup, .flash, .logSeq, .log, .port] ⊆ ps) :
    Changes ps s0 (State.tickAgain s) := by
  unfold State.tickAgain
  repeat' first
    | with_reducible assumption
    | ((with_reducible apply State.onShadow_frame); (case' h_f => intro y0 hy); (case hsub => exact List.Subset.trans (by decide) hsub))
    | ((with_reducible apply State.tickLost_frame); (case hsub => exact List.Subset.trans (by decide) hsub))
    | with_reducible apply Changes.ite
    | ((fail_if_no_progress extract_lets a1))
    | dsimp only [a1]
    | (simp only [Changes.mk_eq_upd]; (with_reducible apply Changes.upd); (case e2 | e7 | e10 | e24 | e25 | e26 | e29 | e30 => exact Or.inl (hsub (by decide))); all_goals first | with_reducible exact Or.inr rfl | skip)

/-- What `State.setTickOut` may change. -/
theorem State.setTickOut_frame {ps : List Part} {s0 : State} (s : State) (v : Nat) (hst : Changes ps s0 s) (hsub : [.tb] ⊆ ps) :
    Changes ps s0 (State.setTickOut s v) := by
  unfold State.setTickOut
  repeat' first
    | with_reducible assumption
    | ((fail_if_no_progress extract_lets a1 a2))
    | dsimp only [a1]
    | dsimp only [a2]
    | (simp only [Changes.mk_eq_upd]; (with_reducible apply Changes.upd); (case e7 => exact Or.inl (hsub (by decide))); all_goals first | with_reducible exact Or.inr rfl | skip)

/-- What `State.setFrameLen` may change. -/
theorem State.setFrameLen_frame {ps : List Part} {s0 : State} (s : State) (v : Nat) (hst : Changes ps s0 s) (hsub : [.frame] ⊆ ps) :
    Changes ps s0 (State.setFrameLen s v) := by
  unfold State.setFrameLen
  repeat' first
    | with_reducible assumption
    | ((fail_if_no_progress extract_lets a1))
    | dsimp only [a1]
    | (simp only [Changes.mk_eq_upd]; (with_reducible apply Changes.upd); (case e11 => exact Or.inl (hsub (by decide))); all_goals first | with_reducible exact Or.inr rfl | skip)

/-- What `State.putTime` may change. -/
theorem State.putTime_frame {ps : List Part} {s0 : State} (s : State) (idx sub v : Nat) (hst : Changes ps s0 s) (hsub : [.emitted, .tb, .pod, .frame, .sched, .backup, .flash, .logSeq, .log, .port] ⊆ ps) :
    Changes ps s0 (State.putTime s idx sub v) := by
  unfold State.putTime
  repeat' first
    | with_reducible assumption
    | ((with_reducible apply State.alsoStandby_frame); (case' h_f => intro y0 hy); (case hsub => exact List.Subset.trans (by decide) hsub))
    | ((with_reducible apply State.modServo_frame); (case hsub => exact List.Subset.trans (by decide) hsub))
    | ((with_reducible apply State.putEntry_frame); (case hsub => exact List.Subset.trans (by decide) hsub))
    | ((with_reducible apply State.setFrameLen_frame); (case hsub => exact List.Subset.trans (by decide) hsub))
    | ((with_reducible apply State.setTickOut_frame); (case hsub => exact List.Subset.trans (by decide) hsub))
    | ((with_reducible apply State.tickAgain_frame); (case hsub => exact List.Subset.trans (by decide) hsub))
    | with_reducible apply Changes.ite
    | ((fail_if_no_progress extract_lets a1))
    | dsimp only [a1]
    | (simp only [Changes.mk_eq_upd]; (with_reducible apply Changes.upd); (case e2 | e7 | e10 | e11 | e12 | e24 | e25 | e26 | e29 | e30 => exact Or.inl (hsub (by decide))); all_goals first | with_reducible exact Or.inr rfl | skip)
    | split

/-- What `State.putRecovery` may change. -/
theorem State.putRecovery_frame {ps : List Part} {s0 : State} (s : State) (idx sub v : Nat) (hst : Changes ps s0 s) (hsub : [.hang, .rst] ⊆ ps) :
    Changes ps s0 (State.putRecovery s idx sub v) := by
  unfold State.putRecovery
  repeat' first
    | with_reducible assumption
    | ((fail_if_no_progress extract_lets a1))
    | dsimp only [a1]
    | (simp only [Changes.mk_eq_upd]; (with_reducible apply Changes.upd); (case e17 | e23 => exact Or.inl (hsub (by decide))); all_goals first | with_reducible exact Or.inr rfl | skip)
    | split

/-- What `State.putDump` may change. -/
theorem State.putDump_frame {ps : List Part} {s0 : State} (s : State) (idx sub : Nat) (b : List Byte) (hst : Changes ps s0 s) (hsub : [.qu, .dump] ⊆ ps) :
    Changes ps s0 (State.putDump s idx sub b) := by
  unfold State.putDump
  repeat' first
    | with_reducible assumption
    | ((fail_if_no_progress extract_lets a1 a2 a3))
    | dsimp only [a1]
    | dsimp only [a2]
    | dsimp only [a3]
    | (simp only [Changes.mk_eq_upd]; (with_reducible apply Changes.upd); (case e14 | e16 => exact Or.inl (hsub (by decide))); all_goals first | with_reducible exact Or.inr rfl | skip)
    | split

/-- What `State.putTrace` may change. -/
theorem State.putTrace_frame {ps : List Part} {s0 : State} (s : State) (idx sub : Nat) (b : List Byte) (hst : Changes ps s0 s) (hsub : [.trace] ⊆ ps) :
    Changes ps s0 (State.putTrace s idx sub b) := by
  unfold State.putTrace
  repeat' first
    | with_reducible assumption
    | with_reducible apply Changes.ite
    | ((fail_if_no_progress extract_lets a1 a2))
    | dsimp only [a1]
    | dsimp only [a2]
    | (simp only [Changes.mk_eq_upd]; (with_reducible apply Changes.upd); (case e21 => exact Or.inl (hsub (by decide))); all_goals first | with_reducible exact Or.inr rfl | skip)
    | split

/-- What `State.putPower` may change. -/
theorem State.putPower_frame {ps : List Part} {s0 : State} (s : State) (idx sub : Nat) (b : List Byte) (hst : Changes ps s0 s) (hsub : [.bar, .power] ⊆ ps) :
    Changes ps s0 (State.putPower s idx sub b) := by
  unfold State.putPower
  repeat' first
    | with_reducible assumption
    | ((with_reducible apply State.setRailMap_frame); (case hsub => exact List.Subset.trans (by decide) hsub))
    | ((fail_if_no_progress extract_lets a1 a2 a3))
    | dsimp only [a1]
    | dsimp only [a2]
    | dsimp only [a3]
    | (simp only [Changes.mk_eq_upd]; (with_reducible apply Changes.upd); (case e20 | e22 => exact Or.inl (hsub (by decide))); all_goals first | with_reducible exact Or.inr rfl | skip)
    | split

/-- What `State.putService` may change. -/
theorem State.putService_frame {ps : List Part} {s0 : State} (s : State) (idx sub : Nat) (b : List Byte) (hst : Changes ps s0 s) (hsub : [.fm, .adm, .log, .fw] ⊆ ps) :
    Changes ps s0 (State.putService s idx sub b) := by
  unfold State.putService
  repeat' first
    | with_reducible assumption
    | ((fail_if_no_progress extract_lets a1 a2 a3))
    | dsimp only [a1]
    | dsimp only [a2]
    | dsimp only [a3]
    | (simp only [Changes.mk_eq_upd]; (with_reducible apply Changes.upd); (case e18 | e19 | e29 | e31 => exact Or.inl (hsub (by decide))); all_goals first | with_reducible exact Or.inr rfl | skip)
    | split

/-- What `State.objPut` may change. -/
theorem State.objPut_frame {ps : List Part} {s0 : State} (s : State) (idx sub : Nat) (b : List Byte) (hst : Changes ps s0 s) (hsub : [.emitted, .tb, .pod, .frame, .sched, .qu, .dump, .hang, .fm, .adm, .bar, .trace, .power, .rst, .backup, .flash, .logSeq, .log, .port, .fw] ⊆ ps) :
    Changes ps s0 (State.objPut s idx sub b) := by
  unfold State.objPut
  repeat' first
    | with_reducible assumption
    | ((with_reducible apply State.putDump_frame); (case hsub => exact List.Subset.trans (by decide) hsub))
    | ((with_reducible apply State.putPower_frame); (case hsub => exact List.Subset.trans (by decide) hsub))
    | ((with_reducible apply State.putRecovery_frame); (case hsub => exact List.Subset.trans (by decide) hsub))
    | ((with_reducible apply State.putService_frame); (case hsub => exact List.Subset.trans (by decide) hsub))
    | ((with_reducible apply State.putTime_frame); (case hsub => exact List.Subset.trans (by decide) hsub))
    | ((with_reducible apply State.putTrace_frame); (case hsub => exact List.Subset.trans (by decide) hsub))
    | with_reducible apply Changes.ite

/-- What `State.objWrite` may change. -/
theorem State.objWrite_frame {ps : List Part} {s0 : State} (s : State) (r : ObjRow) (sub : Nat) (b : List Byte) (hst : Changes ps s0 s) (hsub : [.emitted, .tb, .pod, .frame, .sched, .qu, .dump, .hang, .fm, .adm, .bar, .trace, .power, .rst, .backup, .flash, .logSeq, .log, .port, .fw, .lc] ⊆ ps) :
    Changes ps s0 (State.objWrite s r sub b) := by
  unfold State.objWrite
  repeat' first
    | with_reducible assumption
    | ((with_reducible apply State.objPut_frame); (case hsub => exact List.Subset.trans (by decide) hsub))
    | ((with_reducible apply State.persistOptions_frame); (case hsub => exact List.Subset.trans (by decide) hsub))
    | with_reducible apply Changes.ite

/-- What `State.putGroup` may change. -/
theorem State.putGroup_frame {ps : List Part} {s0 : State} (s : State) (l : List Staged) (hst : Changes ps s0 s) (hsub : [.emitted, .tb, .pod, .frame, .sched, .qu, .dump, .hang, .fm, .adm, .bar, .trace, .power, .rst, .backup, .flash, .logSeq, .log, .port, .fw] ⊆ ps) :
    Changes ps s0 (State.putGroup s l) := by
  unfold State.putGroup
  repeat' first
    | with_reducible assumption
    | ((with_reducible apply State.objPut_frame); (case hsub => exact List.Subset.trans (by decide) hsub))
    | with_reducible apply Changes.ite
    | ((with_reducible apply Changes.foldl); (case' h => intro a x ha; try dsimp only))

/-- What `State.applyGroup` may change. -/
theorem State.applyGroup_frame {ps : List Part} {s0 : State} (s : State) (l : List Staged) (hst : Changes ps s0 s) (hsub : [.emitted, .tb, .pod, .frame, .sched, .units, .qu, .dump, .hang, .fm, .adm, .bar, .trace, .power, .rst, .backup, .flash, .logSeq, .log, .port, .fw, .dram] ⊆ ps) :
    Changes ps s0 (State.applyGroup s l) := by
  unfold State.applyGroup
  repeat' first
    | with_reducible assumption
    | ((with_reducible apply State.putGroup_frame); (case hsub => exact List.Subset.trans (by decide) hsub))
    | ((with_reducible apply State.resetBuffers_frame); (case hsub => exact List.Subset.trans (by decide) hsub))
    | ((with_reducible apply State.traceSync_frame); (case hsub => exact List.Subset.trans (by decide) hsub))
    | with_reducible apply Changes.ite

/-- What `State.runGroups` may change. -/
theorem State.runGroups_frame {ps : List Part} {s0 : State}  (n0 : Nat) (n1 : Nat) (n2 : State) (hst : Changes ps s0 n2) (hsub : [.emitted, .tb, .pod, .frame, .sched, .units, .qu, .dump, .hang, .fm, .adm, .bar, .trace, .power, .rst, .backup, .flash, .logSeq, .log, .port, .fw, .dram] ⊆ ps) :
    Changes ps s0 (State.runGroups n0 n1 n2) := by
  induction n0 generalizing n1 n2 with
  | zero => cases n1 <;> exact hst
  | succ n ih =>
  cases n1 with
  | zero => exact hst
  | succ k =>
  rw [State.runGroups]
  repeat' first
    | with_reducible assumption
    | ((with_reducible apply State.applyGroup_frame); (case hsub => exact List.Subset.trans (by decide) hsub))
    | ((with_reducible apply State.logged_frame); (case hsub => exact List.Subset.trans (by decide) hsub))
    | ((with_reducible apply State.notice_frame); (case hsub => exact List.Subset.trans (by decide) hsub))
    | with_reducible apply ih
    | with_reducible apply Changes.ite
    | ((fail_if_no_progress extract_lets a1))
    | dsimp only [a1]
    | (simp only [Changes.mk_eq_upd]; (with_reducible apply Changes.upd); (case e2 | e7 | e10 | e11 | e12 | e13 | e14 | e16 | e17 | e18 | e19 | e20 | e21 | e22 | e23 | e24 | e25 | e26 | e29 | e30 | e31 | e34 => exact Or.inl (hsub (by decide))); all_goals first | with_reducible exact Or.inr rfl | skip)
    | split

/-- What `State.commitTick` may change. -/
theorem State.commitTick_frame {ps : List Part} {s0 : State} (s : State) (hst : Changes ps s0 s) (hsub : [.emitted, .tb, .pod, .frame, .sched, .units, .qu, .dump, .hang, .fm, .adm, .bar, .trace, .power, .rst, .backup, .flash, .logSeq, .log, .port, .fw, .dram] ⊆ ps) :
    Changes ps s0 (State.commitTick s) := by
  unfold State.commitTick
  repeat' first
    | with_reducible assumption
    | ((with_reducible apply State.runGroups_frame); (case hsub => exact List.Subset.trans (by decide) hsub))

end Sys2Proof.Machine
end

