-- ==== Sys2Proof/Laws/FrameGovernor.lean ====
section
/-!
SUPPORT. Frames of the operations of Machine/Governor.lean: the parts of the state that each may change.
-/
namespace Sys2Proof.Machine

/-- What `State.modDie` may change. -/
theorem State.modDie_frame {ps : List Part} {s0 : State} (s : State) (die : Nat) (f : DieSensors → DieSensors) (hst : Changes ps s0 s) (hsub : [.power] ⊆ ps) :
    Changes ps s0 (State.modDie s die f) := by
  unfold State.modDie
  repeat' first
    | with_reducible assumption
    | ((fail_if_no_progress extract_lets a1))
    | dsimp only [a1]
    | (simp only [Changes.mk_eq_upd]; (with_reducible apply Changes.upd); (case e22 => exact Or.inl (hsub (by decide))); all_goals first | with_reducible exact Or.inr rfl | skip)

/-- What `State.countHeat` may change. -/
theorem State.countHeat_frame {ps : List Part} {s0 : State} (s : State) (die : Nat) (hst : Changes ps s0 s) (hsub : [.power] ⊆ ps) :
    Changes ps s0 (State.countHeat s die) := by
  unfold State.countHeat
  repeat' first
    | with_reducible assumption
    | ((with_reducible apply State.modDie_frame); (case hsub => exact List.Subset.trans (by decide) hsub))

/-- What `State.levelTick` may change. -/
theorem State.levelTick_frame {ps : List Part} {s0 : State} (s : State) (hst : Changes ps s0 s) (hsub : [.emitted, .power, .backup, .flash, .logSeq, .log, .port] ⊆ ps) :
    Changes ps s0 (State.levelTick s) := by
  unfold State.levelTick
  repeat' first
    | with_reducible assumption
    | ((with_reducible apply State.logged_frame); (case hsub => exact List.Subset.trans (by decide) hsub))
    | ((with_reducible apply State.urged_frame); (case hsub => exact List.Subset.trans (by decide) hsub))
    | with_reducible apply Changes.ite
    | (simp only [Changes.mk_eq_upd]; (with_reducible apply Changes.upd); (case e2 | e22 | e24 | e25 | e26 | e29 | e30 => exact Or.inl (hsub (by decide))); all_goals first | with_reducible exact Or.inr rfl | skip)

/-- What `State.governorTick` may change. -/
theorem State.governorTick_frame {ps : List Part} {s0 : State} (s : State) (hst : Changes ps s0 s)
    (hsub : [.emitted, .power, .backup, .flash, .logSeq, .log, .port] ⊆ ps) :
    Changes ps s0 (State.governorTick s) := by
  have c1 : Changes ps s0 ((List.range 16).foldl (fun s d =>
      let stale := s.dieStale d
      s.modDie d fun x => droopStep s.power.droopMv { x with stale := stale }) s) :=
    Changes.foldl _ (fun a x ha => State.modDie_frame _ _ _ ha (List.Subset.trans (by decide) hsub)) _ _ hst
  unfold State.governorTick
  extract_lets +onlyGivenNames a1
  replace c1 : Changes ps s0 a1 := c1
  clear_value a1
  extract_lets +onlyGivenNames p1 a2
  have c2 : Changes ps s0 a2 := by
    dsimp only [a2]
    simp only [Changes.mk_eq_upd]; (with_reducible apply Changes.upd); (case e22 => exact Or.inl (hsub (by decide))); all_goals first | with_reducible exact Or.inr rfl | skip
    exact c1
  clear_value a2
  extract_lets +onlyGivenNames b credits p2 a3
  clear_value credits
  have c3 : Changes ps s0 a3 := by
    dsimp only [a3]
    simp only [Changes.mk_eq_upd]; (with_reducible apply Changes.upd); (case e22 => exact Or.inl (hsub (by decide))); all_goals first | with_reducible exact Or.inr rfl | skip
    exact c2
  clear_value a3
  refine State.levelTick_frame _ (Changes.foldl _ (fun a x ha => ?_) _ _ c3) (List.Subset.trans (by decide) hsub)
  exact State.countHeat_frame _ _ ha (List.Subset.trans (by decide) hsub)

/-- What `State.sendPermit` may change. -/
theorem State.sendPermit_frame {ps : List Part} {s0 : State} (s : State) (hst : Changes ps s0 s) (hsub : [.emitted, .units, .power] ⊆ ps) :
    Changes ps s0 (State.sendPermit s) := by
  unfold State.sendPermit
  repeat' first
    | with_reducible assumption
    | ((with_reducible apply State.emit_frame); (case hsub => exact List.Subset.trans (by decide) hsub))
    | ((with_reducible apply State.modTap_frame); (case hsub => exact List.Subset.trans (by decide) hsub))
    | with_reducible apply Changes.ite
    | ((fail_if_no_progress extract_lets a1 a2 a3); try (refine (have ha1 : Changes ps s0 a1 := ?_; ?_); rotate_left; clear_value a1))
    | dsimp only [a2]
    | dsimp only [a3]
    | (simp only [Changes.mk_eq_upd]; (with_reducible apply Changes.upd); (case e2 | e13 | e22 => exact Or.inl (hsub (by decide))); all_goals first | with_reducible exact Or.inr rfl | skip)
    | ((with_reducible apply Changes.foldl); (case' h => intro a x ha; try dsimp only))

/-- What `State.missPermit` may change. -/
theorem State.missPermit_frame {ps : List Part} {s0 : State} (s : State) (hst : Changes ps s0 s) (hsub : [.units] ⊆ ps) :
    Changes ps s0 (State.missPermit s) := by
  unfold State.missPermit
  repeat' first
    | with_reducible assumption
    | ((with_reducible apply State.modRunner_frame); (case hsub => exact List.Subset.trans (by decide) hsub))
    | ((with_reducible apply State.modTap_frame); (case hsub => exact List.Subset.trans (by decide) hsub))
    | with_reducible apply Changes.ite
    | ((with_reducible apply Changes.foldl); (case' h => intro a x ha; try dsimp only))

end Sys2Proof.Machine
end

