-- ==== Sys2Proof/Laws/FrameTakeoverOps.lean ====
section
/-!
SUPPORT. Frames of the operations of Machine/TakeoverOps.lean: the parts of the state that each may change.
-/
namespace Sys2Proof.Machine

/-- What `State.failUpdate` may change. -/
theorem State.failUpdate_frame {ps : List Part} {s0 : State} (s : State) (reason : Nat) (hst : Changes ps s0 s) (hsub : [.emitted, .backup, .flash, .logSeq, .log, .port, .fw] ⊆ ps) :
    Changes ps s0 (State.failUpdate s reason) := by
  unfold State.failUpdate
  repeat' first
    | with_reducible assumption
    | ((with_reducible apply State.logged_frame); (case hsub => exact List.Subset.trans (by decide) hsub))
    | ((fail_if_no_progress extract_lets a1))
    | dsimp only [a1]
    | (simp only [Changes.mk_eq_upd]; (with_reducible apply Changes.upd); (case e2 | e24 | e25 | e26 | e29 | e30 | e31 => exact Or.inl (hsub (by decide))); all_goals first | with_reducible exact Or.inr rfl | skip)

/-- What `State.interruptUpdate` may change. -/
theorem State.interruptUpdate_frame {ps : List Part} {s0 : State} (s : State) (hst : Changes ps s0 s) (hsub : [.emitted, .hub, .backup, .flash, .logSeq, .log, .port, .fw] ⊆ ps) :
    Changes ps s0 (State.interruptUpdate s) := by
  unfold State.interruptUpdate
  repeat' first
    | with_reducible assumption
    | ((with_reducible apply State.failUpdate_frame); (case hsub => exact List.Subset.trans (by decide) hsub))
    | ((with_reducible apply State.modCore_frame); (case hsub => exact List.Subset.trans (by decide) hsub))
    | with_reducible apply Changes.ite

/-- What `State.standbyHold` may change. -/
theorem State.standbyHold_frame {ps : List Part} {s0 : State} (s : State) (hst : Changes ps s0 s) (hsub : [.tb] ⊆ ps) :
    Changes ps s0 (State.standbyHold s) := by
  unfold State.standbyHold
  repeat' first
    | with_reducible assumption
    | ((fail_if_no_progress extract_lets a1 a2))
    | dsimp only [a2]
    | (simp only [Changes.mk_eq_upd]; (with_reducible apply Changes.upd); (case e7 => exact Or.inl (hsub (by decide))); all_goals first | with_reducible exact Or.inr rfl | skip)

/-- What `State.takeoverStart` may change. -/
theorem State.takeoverStart_frame {ps : List Part} {s0 : State} (s : State) (t : TakeoverTrigger) (hst : Changes ps s0 s) (hsub : [.emitted, .hub, .tb, .backup, .flash, .logSeq, .log, .port, .fw] ⊆ ps) :
    Changes ps s0 (State.takeoverStart s t) := by
  unfold State.takeoverStart
  repeat' first
    | with_reducible assumption
    | ((with_reducible apply State.interruptUpdate_frame); (case hsub => exact List.Subset.trans (by decide) hsub))
    | ((with_reducible apply State.standbyHold_frame); (case hsub => exact List.Subset.trans (by decide) hsub))
    | with_reducible apply Changes.ite
    | ((fail_if_no_progress extract_lets a1 a2 a3 a4); try (refine (have ha1 : Changes ps s0 a1 := ?_; ?_); rotate_left; clear_value a1))
    | dsimp only [a2]
    | dsimp only [a3]
    | dsimp only [a4]
    | (simp only [Changes.mk_eq_upd]; (with_reducible apply Changes.upd); (case e2 | e6 | e7 | e24 | e25 | e26 | e29 | e30 | e31 => exact Or.inl (hsub (by decide))); all_goals first | with_reducible exact Or.inr rfl | skip)

/-- What `State.standbyLost` may change. -/
theorem State.standbyLost_frame {ps : List Part} {s0 : State} (s : State) (hst : Changes ps s0 s) (hsub : [.emitted, .topo, .backup, .flash, .logSeq, .log, .port] ⊆ ps) :
    Changes ps s0 (State.standbyLost s) := by
  unfold State.standbyLost
  repeat' first
    | with_reducible assumption
    | ((with_reducible apply State.setHealth_frame); (case hsub => exact List.Subset.trans (by decide) hsub))
    | ((with_reducible apply State.urged_frame); (case hsub => exact List.Subset.trans (by decide) hsub))

/-- What `State.dropSets` may change. -/
theorem State.dropSets_frame {ps : List Part} {s0 : State} (s : State) (gone : Nat → Bool) (hst : Changes ps s0 s) (hsub : [.frame] ⊆ ps) :
    Changes ps s0 (State.dropSets s gone) := by
  unfold State.dropSets
  repeat' first
    | with_reducible assumption
    | ((fail_if_no_progress extract_lets a1))
    | dsimp only [a1]
    | (simp only [Changes.mk_eq_upd]; (with_reducible apply Changes.upd); (case e11 => exact Or.inl (hsub (by decide))); all_goals first | with_reducible exact Or.inr rfl | skip)

/-- What `State.firmwareRestart` may change. -/
theorem State.firmwareRestart_frame {ps : List Part} {s0 : State} (s : State) (hst : Changes ps s0 s) (hsub : [.emitted, .hub, .frame, .backup, .flash, .logSeq, .log, .port, .fw] ⊆ ps) :
    Changes ps s0 (State.firmwareRestart s) := by
  unfold State.firmwareRestart
  repeat' first
    | with_reducible assumption
    | ((with_reducible apply State.dropSets_frame); (case hsub => exact List.Subset.trans (by decide) hsub))
    | ((with_reducible apply State.interruptUpdate_frame); (case hsub => exact List.Subset.trans (by decide) hsub))
    | ((with_reducible apply State.logged_frame); (case hsub => exact List.Subset.trans (by decide) hsub))
    | ((with_reducible apply State.modCore_frame); (case hsub => exact List.Subset.trans (by decide) hsub))

/-- What `State.beatTick` may change. -/
theorem State.beatTick_frame {ps : List Part} {s0 : State} (s : State) (beatA beatR : Bool) (hst : Changes ps s0 s) (hsub : [.hub] ⊆ ps) :
    Changes ps s0 (State.beatTick s beatA beatR) := by
  unfold State.beatTick
  repeat' first
    | with_reducible assumption
    | ((fail_if_no_progress extract_lets a1))
    | dsimp only [a1]
    | (simp only [Changes.mk_eq_upd]; (with_reducible apply Changes.upd); (case e6 => exact Or.inl (hsub (by decide))); all_goals first | with_reducible exact Or.inr rfl | skip)

/-- What `State.watchdogTick` may change. -/
theorem State.watchdogTick_frame {ps : List Part} {s0 : State} (s : State) (hst : Changes ps s0 s) (hsub : [.emitted, .topo, .hub, .tb, .frame, .backup, .flash, .logSeq, .log, .port, .fw] ⊆ ps) :
    Changes ps s0 (State.watchdogTick s) := by
  unfold State.watchdogTick
  repeat' first
    | with_reducible assumption
    | ((with_reducible apply State.firmwareRestart_frame); (case hsub => exact List.Subset.trans (by decide) hsub))
    | ((with_reducible apply State.standbyLost_frame); (case hsub => exact List.Subset.trans (by decide) hsub))
    | ((with_reducible apply State.takeoverStart_frame); (case hsub => exact List.Subset.trans (by decide) hsub))
    | with_reducible apply Changes.ite

/-- What `State.shadowTick` may change. -/
theorem State.shadowTick_frame {ps : List Part} {s0 : State} (s : State) (hst : Changes ps s0 s) (hsub : [.topo, .hub] ⊆ ps) :
    Changes ps s0 (State.shadowTick s) := by
  unfold State.shadowTick
  repeat' first
    | with_reducible assumption
    | ((with_reducible apply State.modCore_frame); (case hsub => exact List.Subset.trans (by decide) hsub))
    | ((with_reducible apply State.setHealth_frame); (case hsub => exact List.Subset.trans (by decide) hsub))
    | with_reducible apply Changes.ite

end Sys2Proof.Machine
end

