-- ==== Sys2Proof/Laws/FramePmbus.lean ====
section
/-!
SUPPORT. Frames of the operations of Machine/Pmbus.lean: the parts of the state that each may change.
-/
namespace Sys2Proof.Machine

/-- What `State.modRail` may change. -/
theorem State.modRail_frame {ps : List Part} {s0 : State} (s : State) (k : Nat) (f : Rail → Rail) (hst : Changes ps s0 s) (hsub : [.power] ⊆ ps) :
    Changes ps s0 (State.modRail s k f) := by
  unfold State.modRail
  repeat' first
    | with_reducible assumption
    | ((fail_if_no_progress extract_lets a1))
    | dsimp only [a1]
    | (simp only [Changes.mk_eq_upd]; (with_reducible apply Changes.upd); (case e22 => exact Or.inl (hsub (by decide))); all_goals first | with_reducible exact Or.inr rfl | skip)

/-- What `State.setRailFault` may change. -/
theorem State.setRailFault_frame {ps : List Part} {s0 : State} (s : State) (b : Bool) (hst : Changes ps s0 s) (hsub : [.power] ⊆ ps) :
    Changes ps s0 (State.setRailFault s b) := by
  unfold State.setRailFault
  repeat' first
    | with_reducible assumption
    | ((fail_if_no_progress extract_lets a1))
    | dsimp only [a1]
    | (simp only [Changes.mk_eq_upd]; (with_reducible apply Changes.upd); (case e22 => exact Or.inl (hsub (by decide))); all_goals first | with_reducible exact Or.inr rfl | skip)

/-- What `State.leavePlace` may change. -/
theorem State.leavePlace_frame {ps : List Part} {s0 : State} (s : State) (place : Nat) (hst : Changes ps s0 s) (hsub : [.power] ⊆ ps) :
    Changes ps s0 (State.leavePlace s place) := by
  unfold State.leavePlace
  repeat' first
    | with_reducible assumption
    | ((with_reducible apply State.setRailFault_frame); (case hsub => exact List.Subset.trans (by decide) hsub))
    | with_reducible apply Changes.ite
    | ((fail_if_no_progress extract_lets a1))
    | dsimp only [a1]
    | (simp only [Changes.mk_eq_upd]; (with_reducible apply Changes.upd); (case e22 => exact Or.inl (hsub (by decide))); all_goals first | with_reducible exact Or.inr rfl | skip)

/-- What `State.pmbIssue` may change. -/
theorem State.pmbIssue_frame {ps : List Part} {s0 : State} (s : State) (hst : Changes ps s0 s) (hsub : [.emitted] ⊆ ps) :
    Changes ps s0 (State.pmbIssue s) := by
  unfold State.pmbIssue
  repeat' first
    | with_reducible assumption
    | ((with_reducible apply State.emit_frame); (case hsub => exact List.Subset.trans (by decide) hsub))
    | split

/-- What `State.pmbAgain` may change. -/
theorem State.pmbAgain_frame {ps : List Part} {s0 : State} (s : State) (hst : Changes ps s0 s) (hsub : [.emitted, .power] ⊆ ps) :
    Changes ps s0 (State.pmbAgain s) := by
  unfold State.pmbAgain
  repeat' first
    | with_reducible assumption
    | ((with_reducible apply State.pmbIssue_frame); (case hsub => exact List.Subset.trans (by decide) hsub))
    | with_reducible apply Changes.ite
    | ((fail_if_no_progress extract_lets a1))
    | dsimp only [a1]
    | (simp only [Changes.mk_eq_upd]; (with_reducible apply Changes.upd); (case e2 | e22 => exact Or.inl (hsub (by decide))); all_goals first | with_reducible exact Or.inr rfl | skip)

/-- What `State.pmbCut` may change. -/
theorem State.pmbCut_frame {ps : List Part} {s0 : State} (s : State) (hst : Changes ps s0 s) (hsub : [.emitted, .power] ⊆ ps) :
    Changes ps s0 (State.pmbCut s) := by
  unfold State.pmbCut
  repeat' first
    | with_reducible assumption
    | ((with_reducible apply State.emit_frame); (case hsub => exact List.Subset.trans (by decide) hsub))
    | ((fail_if_no_progress extract_lets a1 a2); try (refine (have ha1 : Changes ps s0 a1 := ?_; ?_); rotate_left; clear_value a1))
    | dsimp only [a2]
    | (simp only [Changes.mk_eq_upd]; (with_reducible apply Changes.upd); (case e2 | e22 => exact Or.inl (hsub (by decide))); all_goals first | with_reducible exact Or.inr rfl | skip)

/-- What `State.busesAgain` may change. -/
theorem State.busesAgain_frame {ps : List Part} {s0 : State} (s : State) (hst : Changes ps s0 s) (hsub : [.emitted, .power, .flash] ⊆ ps) :
    Changes ps s0 (State.busesAgain s) := by
  unfold State.busesAgain
  repeat' first
    | with_reducible assumption
    | ((with_reducible apply State.pmbCut_frame); (case hsub => exact List.Subset.trans (by decide) hsub))
    | ((fail_if_no_progress extract_lets a1))
    | dsimp only [a1]
    | (simp only [Changes.mk_eq_upd]; (with_reducible apply Changes.upd); (case e2 | e22 | e25 => exact Or.inl (hsub (by decide))); all_goals first | with_reducible exact Or.inr rfl | skip)

end Sys2Proof.Machine
end

