-- ==== Sys2Proof/Laws/FrameFrameTick.lean ====
section
/-!
SUPPORT. Frames of the operations of Machine/FrameTick.lean: the parts of the state that each may change.
-/
namespace Sys2Proof.Machine

/-- What `State.missTick` may change. -/
theorem State.missTick_frame {ps : List Part} {s0 : State} (s : State) (hst : Changes ps s0 s) (hsub : [.units] ⊆ ps) :
    Changes ps s0 (State.missTick s) := by
  unfold State.missTick
  repeat' first
    | with_reducible assumption
    | ((with_reducible apply State.modRunner_frame); (case hsub => exact List.Subset.trans (by decide) hsub))
    | with_reducible apply Changes.ite
    | ((with_reducible apply Changes.foldl); (case' h => intro a x ha; try dsimp only))

/-- What `State.carryTick` may change. -/
theorem State.carryTick_frame {ps : List Part} {s0 : State} (s : State) (hst : Changes ps s0 s) (hsub : [.frame] ⊆ ps) :
    Changes ps s0 (State.carryTick s) := by
  unfold State.carryTick
  repeat' first
    | with_reducible assumption
    | with_reducible apply Changes.ite
    | ((fail_if_no_progress extract_lets a1))
    | dsimp only [a1]
    | (simp only [Changes.mk_eq_upd]; (with_reducible apply Changes.upd); (case e11 => exact Or.inl (hsub (by decide))); all_goals first | with_reducible exact Or.inr rfl | skip)

/-- What `State.slotFifteen` may change. -/
theorem State.slotFifteen_frame {ps : List Part} {s0 : State} (s : State) (hst : Changes ps s0 s) (hsub : [.emitted, .frame, .flash, .logSeq, .log, .port] ⊆ ps) :
    Changes ps s0 (State.slotFifteen s) := by
  unfold State.slotFifteen
  repeat' first
    | with_reducible assumption
    | ((with_reducible apply State.carryTick_frame); (case hsub => exact List.Subset.trans (by decide) hsub))
    | ((with_reducible apply State.drainLog_frame); (case hsub => exact List.Subset.trans (by decide) hsub))
    | ((fail_if_no_progress extract_lets a1 a2); try (refine (have ha1 : Changes ps s0 a1 := ?_; ?_); rotate_left; clear_value a1))
    | dsimp only [a2]
    | (simp only [Changes.mk_eq_upd]; (with_reducible apply Changes.upd); (case e2 | e11 | e25 | e26 | e29 | e30 => exact Or.inl (hsub (by decide))); all_goals first | with_reducible exact Or.inr rfl | skip)

/-- What `State.headerTick` may change. -/
theorem State.headerTick_frame {ps : List Part} {s0 : State} (s : State) (hst : Changes ps s0 s) (hsub : [.trace, .dram] ⊆ ps) :
    Changes ps s0 (State.headerTick s) := by
  unfold State.headerTick
  repeat' first
    | with_reducible assumption
    | ((with_reducible apply State.writeHeader_frame); (case hsub => exact List.Subset.trans (by decide) hsub))
    | with_reducible apply Changes.ite
    | ((with_reducible apply Changes.foldl); (case' h => intro a x ha; try dsimp only))

/-- What `State.quenchInTick` may change. -/
theorem State.quenchInTick_frame {ps : List Part} {s0 : State} (s : State) (hst : Changes ps s0 s) (hsub : [.emitted, .backup, .flash, .logSeq, .log, .port, .pins] ⊆ ps) :
    Changes ps s0 (State.quenchInTick s) := by
  unfold State.quenchInTick
  repeat' first
    | with_reducible assumption
    | ((with_reducible apply State.urged_frame); (case hsub => exact List.Subset.trans (by decide) hsub))
    | with_reducible apply Changes.ite
    | (simp only [Changes.mk_eq_upd]; (with_reducible apply Changes.upd); (case e2 | e24 | e25 | e26 | e29 | e30 | e33 => exact Or.inl (hsub (by decide))); all_goals first | with_reducible exact Or.inr rfl | skip)

/-- What `State.openFrame` may change. -/
theorem State.openFrame_frame {ps : List Part} {s0 : State} (s : State) (hst : Changes ps s0 s) (hsub : [.emitted, .frame] ⊆ ps) :
    Changes ps s0 (State.openFrame s) := by
  unfold State.openFrame
  repeat' first
    | with_reducible assumption
    | ((with_reducible apply State.emit_frame); (case hsub => exact List.Subset.trans (by decide) hsub))
    | (simp only [Changes.mk_eq_upd]; (with_reducible apply Changes.upd); (case e2 | e11 => exact Or.inl (hsub (by decide))); all_goals first | with_reducible exact Or.inr rfl | skip)

/-- What `State.permitTick` may change. -/
theorem State.permitTick_frame {ps : List Part} {s0 : State} (s : State) (hst : Changes ps s0 s) (hsub : [.emitted, .units, .power] ⊆ ps) :
    Changes ps s0 (State.permitTick s) := by
  unfold State.permitTick
  repeat' first
    | with_reducible assumption
    | ((with_reducible apply State.missPermit_frame); (case hsub => exact List.Subset.trans (by decide) hsub))
    | ((with_reducible apply State.sendPermit_frame); (case hsub => exact List.Subset.trans (by decide) hsub))
    | with_reducible apply Changes.ite

/-- What `State.slotZero` may change. -/
theorem State.slotZero_frame {ps : List Part} {s0 : State} (s : State) (beatA beatR : Bool) (hst : Changes ps s0 s) (hsub : [.emitted, .freeCount, .topo, .hub, .tb, .pod, .frame, .sched, .units, .qu, .dump, .hang, .fm, .adm, .bar, .trace, .power, .rst, .backup, .flash, .logSeq, .log, .port, .fw, .pins, .dram] ⊆ ps) :
    Changes ps s0 (State.slotZero s beatA beatR) := by
  unfold State.slotZero
  repeat' first
    | with_reducible assumption
    | ((with_reducible apply State.alsoStandby_frame); (case' h_f => intro y0 hy); (case hsub => exact List.Subset.trans (by decide) hsub))
    | ((with_reducible apply State.beatTick_frame); (case hsub => exact List.Subset.trans (by decide) hsub))
    | ((with_reducible apply State.commitTick_frame); (case hsub => exact List.Subset.trans (by decide) hsub))
    | ((with_reducible apply State.governorTick_frame); (case hsub => exact List.Subset.trans (by decide) hsub))
    | ((with_reducible apply State.headerTick_frame); (case hsub => exact List.Subset.trans (by decide) hsub))
    | ((with_reducible apply State.missTick_frame); (case hsub => exact List.Subset.trans (by decide) hsub))
    | ((with_reducible apply State.permitTick_frame); (case hsub => exact List.Subset.trans (by decide) hsub))
    | ((with_reducible apply State.pmbAgain_frame); (case hsub => exact List.Subset.trans (by decide) hsub))
    | ((with_reducible apply State.podTick_frame); (case hsub => exact List.Subset.trans (by decide) hsub))
    | ((with_reducible apply State.quenchInTick_frame); (case hsub => exact List.Subset.trans (by decide) hsub))
    | ((with_reducible apply State.shadowTick_frame); (case hsub => exact List.Subset.trans (by decide) hsub))
    | ((with_reducible apply State.slewStep_frame); (case hsub => exact List.Subset.trans (by decide) hsub))
    | ((with_reducible apply State.traceBoundary_frame); (case hsub => exact List.Subset.trans (by decide) hsub))
    | ((with_reducible apply State.traceScopesSync_frame); (case hsub => exact List.Subset.trans (by decide) hsub))
    | ((with_reducible apply State.watchdogTick_frame); (case hsub => exact List.Subset.trans (by decide) hsub))
    | (simp only [Changes.mk_eq_upd]; (with_reducible apply Changes.upd); (case e2 | e3 | e5 | e6 | e7 | e10 | e11 | e12 | e13 | e14 | e16 | e17 | e18 | e19 | e20 | e21 | e22 | e23 | e24 | e25 | e26 | e29 | e30 | e31 | e33 | e34 => exact Or.inl (hsub (by decide))); all_goals first | with_reducible exact Or.inr rfl | skip)

/-- What `State.scanTap` may change. -/
theorem State.scanTap_frame {ps : List Part} {s0 : State} (s : State) (c : Nat) (beat : Option Nat) (hst : Changes ps s0 s) (hsub : [.topo, .units] ⊆ ps) :
    Changes ps s0 (State.scanTap s c beat) := by
  unfold State.scanTap
  repeat' first
    | with_reducible assumption
    | ((with_reducible apply State.modTap_frame); (case hsub => exact List.Subset.trans (by decide) hsub))
    | ((with_reducible apply State.setHealth_frame); (case hsub => exact List.Subset.trans (by decide) hsub))
    | with_reducible apply Changes.ite
    | ((fail_if_no_progress extract_lets a1); try (refine (have ha1 : Changes ps s0 a1 := ?_; ?_); rotate_left; clear_value a1))
    | split

/-- What `State.scanProgress` may change. -/
theorem State.scanProgress_frame {ps : List Part} {s0 : State} (s : State) (die : Nat) (l : List (EngineReport × Bool)) (hst : Changes ps s0 s) (hsub : [.units] ⊆ ps) :
    Changes ps s0 (State.scanProgress s die l) := by
  unfold State.scanProgress
  repeat' first
    | with_reducible assumption
    | ((with_reducible apply State.modTap_frame); (case hsub => exact List.Subset.trans (by decide) hsub))
    | ((with_reducible apply Changes.foldl); (case' h => intro a x ha; try dsimp only))

end Sys2Proof.Machine
end

