-- ==== Sys2Proof/Laws/FrameSchedule.lean ====
section
/-!
SUPPORT. Frames of the operations of Machine/Schedule.lean: the parts of the state that each may change.
-/
namespace Sys2Proof.Machine

/-- What `State.entryWrite` may change. -/
theorem State.entryWrite_frame {ps : List Part} {s0 : State} (s : State) (entry action time flags : Nat) (accept : Nat → SchedEntry → State → State) (hst : Changes ps s0 s) (h_accept : ∀ (x0 : Nat) (x1 : SchedEntry) (x2 : State), Changes ps s0 x2 → Changes ps s0 (accept x0 x1 x2)) (hsub : [.emitted, .sched, .adm, .backup, .flash, .logSeq, .log, .port] ⊆ ps) :
    Changes ps s0 ((State.entryWrite s entry action time flags accept).state) := by
  unfold State.entryWrite
  repeat' first
    | with_reducible assumption
    | with_reducible apply h_accept
    | ((with_reducible apply State.schedWrite_frame); (case' h_accept => intro y0 y1 y2 hy); (case hsub => exact List.Subset.trans (by decide) hsub))

/-- What `State.emptyWrite` may change. -/
theorem State.emptyWrite_frame {ps : List Part} {s0 : State} (s : State) (entry : Nat) (hst : Changes ps s0 s) (hsub : [.emitted, .sched, .units, .qu, .podCut, .adm, .backup, .flash, .logSeq, .log, .port] ⊆ ps) :
    Changes ps s0 ((State.emptyWrite s entry).state) := by
  unfold State.emptyWrite
  repeat' first
    | with_reducible assumption
    | ((with_reducible apply State.cancelEntry_frame); (case hsub => exact List.Subset.trans (by decide) hsub))

/-- What `State.schedServe` may change. -/
theorem State.schedServe_frame {ps : List Part} {s0 : State} (s : State) (req : Req) (entry action time flags : Nat) (accept : Nat → SchedEntry → State → State) (hst : Changes ps s0 s) (h_accept : ∀ (x0 : Nat) (x1 : SchedEntry) (x2 : State), Changes ps s0 x2 → Changes ps s0 (accept x0 x1 x2)) (hsub : [.emitted, .tb, .frame, .sched, .adm, .backup, .flash, .logSeq, .log, .port] ⊆ ps) :
    Changes ps s0 (State.schedServe s req entry action time flags accept) := by
  unfold State.schedServe
  repeat' first
    | with_reducible assumption
    | with_reducible apply h_accept
    | ((with_reducible apply State.entryWrite_frame); (case' h_accept => intro y0 y1 y2 hy); (case hsub => exact List.Subset.trans (by decide) hsub))
    | ((with_reducible apply State.serve_frame); (case' h_f => intro y0 y1 hy); (case hsub => exact List.Subset.trans (by decide) hsub))

/-- What `State.releaseStop` may change. -/
theorem State.releaseStop_frame {ps : List Part} {s0 : State} (s : State) (hst : Changes ps s0 s) (hsub : [.pins] ⊆ ps) :
    Changes ps s0 (State.releaseStop s) := by
  unfold State.releaseStop
  repeat' first
    | with_reducible assumption
    | ((fail_if_no_progress extract_lets a1))
    | dsimp only [a1]
    | (simp only [Changes.mk_eq_upd]; (with_reducible apply Changes.upd); (case e33 => exact Or.inl (hsub (by decide))); all_goals first | with_reducible exact Or.inr rfl | skip)

/-- What `State.frameLenNow` may change. -/
theorem State.frameLenNow_frame {ps : List Part} {s0 : State} (s : State) (n : Nat) (hst : Changes ps s0 s) (hsub : [.emitted, .frame, .sched, .adm, .backup, .flash, .logSeq, .log, .port] ⊆ ps) :
    Changes ps s0 (State.frameLenNow s n) := by
  unfold State.frameLenNow
  repeat' first
    | with_reducible assumption
    | ((with_reducible apply State.completeEntry_frame); (case hsub => exact List.Subset.trans (by decide) hsub))
    | (simp only [Changes.mk_eq_upd]; (with_reducible apply Changes.upd); (case e2 | e11 | e12 | e19 | e24 | e25 | e26 | e29 | e30 => exact Or.inl (hsub (by decide))); all_goals first | with_reducible exact Or.inr rfl | skip)

/-- What `State.roleSwapNow` may change. -/
theorem State.roleSwapNow_frame {ps : List Part} {s0 : State} (s : State) (n : Nat) (hst : Changes ps s0 s) (hsub : [.emitted, .topo, .hub, .tb, .sched, .adm, .backup, .flash, .logSeq, .log, .port, .fw] ⊆ ps) :
    Changes ps s0 (State.roleSwapNow s n) := by
  unfold State.roleSwapNow
  repeat' first
    | with_reducible assumption
    | ((with_reducible apply State.completeEntry_frame); (case hsub => exact List.Subset.trans (by decide) hsub))
    | ((with_reducible apply State.finishEntry_frame); (case hsub => exact List.Subset.trans (by decide) hsub))
    | ((with_reducible apply State.logged_frame); (case hsub => exact List.Subset.trans (by decide) hsub))
    | ((with_reducible apply State.takeoverStart_frame); (case hsub => exact List.Subset.trans (by decide) hsub))
    | with_reducible apply Changes.ite

/-- What `State.lateEntry` may change. -/
theorem State.lateEntry_frame {ps : List Part} {s0 : State} (s : State) (n : Nat) (hst : Changes ps s0 s) (hsub : [.sched] ⊆ ps) :
    Changes ps s0 (State.lateEntry s n) := by
  unfold State.lateEntry
  repeat' first
    | with_reducible assumption
    | ((with_reducible apply State.putEntry_frame); (case hsub => exact List.Subset.trans (by decide) hsub))

/-- What `State.runPending` may change. -/
theorem State.runPending_frame {ps : List Part} {s0 : State}  (n0 : Nat) (n1 : Bool) (n2 : Nat) (n3 : State) (hst : Changes ps s0 n3) (hsub : [.emitted, .topo, .hub, .tb, .pod, .frame, .sched, .units, .qu, .adm, .trace, .power, .backup, .flash, .logSeq, .log, .port, .fw, .dram] ⊆ ps) :
    Changes ps s0 (State.runPending n0 n1 n2 n3) := by
  induction n0 generalizing n1 n2 n3 with
  | zero => exact hst
  | succ n ih =>
  rw [State.runPending]
  repeat' first
    | with_reducible assumption
    | ((with_reducible apply State.completeEntry_frame); (case hsub => exact List.Subset.trans (by decide) hsub))
    | ((with_reducible apply State.frameLenNow_frame); (case hsub => exact List.Subset.trans (by decide) hsub))
    | ((with_reducible apply State.lateEntry_frame); (case hsub => exact List.Subset.trans (by decide) hsub))
    | ((with_reducible apply State.releasesFall_frame); (case hsub => exact List.Subset.trans (by decide) hsub))
    | ((with_reducible apply State.roleSwapNow_frame); (case hsub => exact List.Subset.trans (by decide) hsub))
    | ((with_reducible apply State.stopsFall_frame); (case hsub => exact List.Subset.trans (by decide) hsub))
    | ((with_reducible apply State.timeStepNow_frame); (case hsub => exact List.Subset.trans (by decide) hsub))
    | with_reducible apply ih
    | with_reducible apply Changes.ite
    | ((with_reducible apply Changes.foldl); (case' h => intro a x ha; try dsimp only))

end Sys2Proof.Machine
end

