-- ==== Sys2Proof/Laws/FrameQuench.lean ====
section
/-!
SUPPORT. Frames of the operations of Machine/Quench.lean: the parts of the state that each may change.
-/
namespace Sys2Proof.Machine

/-- What `State.sendAnswer` may change. -/
theorem State.sendAnswer_frame {ps : List Part} {s0 : State} (s : State) (t id status stamp : Nat) (hst : Changes ps s0 s) (hsub : [.emitted, .units] ⊆ ps) :
    Changes ps s0 (State.sendAnswer s t id status stamp) := by
  unfold State.sendAnswer
  repeat' first
    | with_reducible assumption
    | ((with_reducible apply State.emit_frame); (case hsub => exact List.Subset.trans (by decide) hsub))
    | ((with_reducible apply State.modGroup_frame); (case hsub => exact List.Subset.trans (by decide) hsub))
    | ((with_reducible apply State.modRunner_frame); (case hsub => exact List.Subset.trans (by decide) hsub))
    | ((with_reducible apply State.modTap_frame); (case hsub => exact List.Subset.trans (by decide) hsub))
    | with_reducible apply Changes.ite

/-- What `State.answerCast` may change. -/
theorem State.answerCast_frame {ps : List Part} {s0 : State} (s : State) (t id status : Nat) (hst : Changes ps s0 s) (hsub : [.emitted, .units] ⊆ ps) :
    Changes ps s0 (State.answerCast s t id status) := by
  unfold State.answerCast
  repeat' first
    | with_reducible assumption
    | ((with_reducible apply State.sendAnswer_frame); (case hsub => exact List.Subset.trans (by decide) hsub))

/-- What `State.addLane` may change. -/
theorem State.addLane_frame {ps : List Part} {s0 : State} (s : State) (lane wave : Nat) (hst : Changes ps s0 s) (hsub : [.emitted, .qu] ⊆ ps) :
    Changes ps s0 (State.addLane s lane wave) := by
  unfold State.addLane
  repeat' first
    | with_reducible assumption
    | ((with_reducible apply State.emit_frame); (case hsub => exact List.Subset.trans (by decide) hsub))
    | with_reducible apply Changes.ite
    | ((fail_if_no_progress extract_lets a1))
    | dsimp only [a1]
    | (simp only [Changes.mk_eq_upd]; (with_reducible apply Changes.upd); (case e2 | e14 => exact Or.inl (hsub (by decide))); all_goals first | with_reducible exact Or.inr rfl | skip)

/-- What `State.lateActs` may change. -/
theorem State.lateActs_frame {ps : List Part} {s0 : State} (s : State) (t : Nat) (c : Cast) (hst : Changes ps s0 s) (hsub : [.emitted, .sched, .units, .qu, .adm, .backup, .flash, .logSeq, .log, .port] ⊆ ps) :
    Changes ps s0 (State.lateActs s t c) := by
  unfold State.lateActs
  repeat' first
    | with_reducible assumption
    | ((with_reducible apply State.modTap_frame); (case hsub => exact List.Subset.trans (by decide) hsub))
    | ((with_reducible apply State.tapRelease_frame); (case hsub => exact List.Subset.trans (by decide) hsub))
    | ((with_reducible apply State.tapStep_frame); (case hsub => exact List.Subset.trans (by decide) hsub))
    | ((with_reducible apply State.tapStop_frame); (case hsub => exact List.Subset.trans (by decide) hsub))
    | with_reducible apply Changes.ite

/-- What `State.actOnCast` may change. -/
theorem State.actOnCast_frame {ps : List Part} {s0 : State} (s : State) (t : Nat) (c : Cast) (hst : Changes ps s0 s) (hsub : [.emitted, .freeCount, .sched, .units, .qu, .adm, .backup, .flash, .logSeq, .log, .port] ⊆ ps) :
    Changes ps s0 (State.actOnCast s t c) := by
  unfold State.actOnCast
  repeat' first
    | with_reducible assumption
    | ((with_reducible apply State.addLane_frame); (case hsub => exact List.Subset.trans (by decide) hsub))
    | ((with_reducible apply State.answerCast_frame); (case hsub => exact List.Subset.trans (by decide) hsub))
    | ((with_reducible apply State.drawn_frame); (case hsub => exact List.Subset.trans (by decide) hsub))
    | ((with_reducible apply State.lateActs_frame); (case hsub => exact List.Subset.trans (by decide) hsub))
    | ((with_reducible apply State.modGroup_frame); (case hsub => exact List.Subset.trans (by decide) hsub))
    | ((with_reducible apply State.modRunner_frame); (case hsub => exact List.Subset.trans (by decide) hsub))
    | ((with_reducible apply State.modTap_frame); (case hsub => exact List.Subset.trans (by decide) hsub))
    | with_reducible apply Changes.ite

/-- What `State.switchAnswer` may change. -/
theorem State.switchAnswer_frame {ps : List Part} {s0 : State} (s : State) (t status : Nat) (hst : Changes ps s0 s) (hsub : [.emitted, .qu, .trace] ⊆ ps) :
    Changes ps s0 (State.switchAnswer s t status) := by
  unfold State.switchAnswer
  repeat' first
    | with_reducible assumption
    | ((with_reducible apply State.traceRetry_frame); (case hsub => exact List.Subset.trans (by decide) hsub))
    | with_reducible apply Changes.ite

/-- What `State.retryCast` may change. -/
theorem State.retryCast_frame {ps : List Part} {s0 : State} (s : State) (o : OpenCast) (hst : Changes ps s0 s) (hsub : [.emitted, .qu] ⊆ ps) :
    Changes ps s0 (State.retryCast s o) := by
  unfold State.retryCast
  repeat' first
    | with_reducible assumption
    | ((with_reducible apply State.emit_frame); (case hsub => exact List.Subset.trans (by decide) hsub))
    | ((with_reducible apply State.putCast_frame); (case hsub => exact List.Subset.trans (by decide) hsub))

/-- What `State.unresponsive` may change. -/
theorem State.unresponsive_frame {ps : List Part} {s0 : State} (s : State) (t : Nat) (hst : Changes ps s0 s) (hsub : [.emitted, .topo, .backup, .flash, .logSeq, .log, .port] ⊆ ps) :
    Changes ps s0 (State.unresponsive s t) := by
  unfold State.unresponsive
  repeat' first
    | with_reducible assumption
    | ((with_reducible apply State.setHealth_frame); (case hsub => exact List.Subset.trans (by decide) hsub))
    | ((with_reducible apply State.told_frame); (case hsub => exact List.Subset.trans (by decide) hsub))

/-- What `State.endCast` may change. -/
theorem State.endCast_frame {ps : List Part} {s0 : State} (s : State) (o : OpenCast) (hst : Changes ps s0 s) (hsub : [.emitted, .topo, .sched, .qu, .podCut, .adm, .trace, .backup, .flash, .logSeq, .log, .port] ⊆ ps) :
    Changes ps s0 (State.endCast s o) := by
  unfold State.endCast
  repeat' first
    | with_reducible assumption
    | ((with_reducible apply State.putCast_frame); (case hsub => exact List.Subset.trans (by decide) hsub))
    | ((with_reducible apply State.settleQuench_frame); (case hsub => exact List.Subset.trans (by decide) hsub))
    | ((with_reducible apply State.tidyCasts_frame); (case hsub => exact List.Subset.trans (by decide) hsub))
    | ((with_reducible apply State.traceRetry_frame); (case hsub => exact List.Subset.trans (by decide) hsub))
    | ((with_reducible apply State.unresponsive_frame); (case hsub => exact List.Subset.trans (by decide) hsub))
    | ((with_reducible apply Changes.foldl); (case' h => intro a x ha; try dsimp only))
    | split

/-- What `State.postpone` may change. -/
theorem State.postpone_frame {ps : List Part} {s0 : State} (s : State) (h : InHand) (hst : Changes ps s0 s) (hsub : [.emitted, .qu, .backup, .flash, .logSeq, .log, .port] ⊆ ps) :
    Changes ps s0 (State.postpone s h) := by
  unfold State.postpone
  repeat' first
    | with_reducible assumption
    | ((with_reducible apply State.armHand_frame); (case hsub => exact List.Subset.trans (by decide) hsub))
    | ((with_reducible apply State.listOut_frame); (case hsub => exact List.Subset.trans (by decide) hsub))
    | ((with_reducible apply State.logged_frame); (case hsub => exact List.Subset.trans (by decide) hsub))
    | ((with_reducible apply State.sendHold_frame); (case hsub => exact List.Subset.trans (by decide) hsub))
    | ((with_reducible apply State.tidyCasts_frame); (case hsub => exact List.Subset.trans (by decide) hsub))
    | ((fail_if_no_progress extract_lets a1))
    | dsimp only [a1]
    | (simp only [Changes.mk_eq_upd]; (with_reducible apply Changes.upd); (case e2 | e14 | e24 | e25 | e26 | e29 | e30 => exact Or.inl (hsub (by decide))); all_goals first | with_reducible exact Or.inr rfl | skip)

/-- What `State.decide_` may change. -/
theorem State.decide__frame {ps : List Part} {s0 : State} (s : State) (h : InHand) (o : OpenCast) (hst : Changes ps s0 s) (hsub : [.emitted, .qu, .backup, .flash, .logSeq, .log, .port] ⊆ ps) :
    Changes ps s0 (State.decide_ s h o) := by
  unfold State.decide_
  repeat' first
    | with_reducible assumption
    | ((with_reducible apply State.logged_frame); (case hsub => exact List.Subset.trans (by decide) hsub))
    | ((with_reducible apply State.postpone_frame); (case hsub => exact List.Subset.trans (by decide) hsub))
    | ((with_reducible apply State.putCast_frame); (case hsub => exact List.Subset.trans (by decide) hsub))
    | with_reducible apply Changes.ite
    | ((fail_if_no_progress extract_lets a1 a2 a3))
    | dsimp only [a1]
    | dsimp only [a2]
    | dsimp only [a3]
    | (simp only [Changes.mk_eq_upd]; (with_reducible apply Changes.upd); (case e2 | e14 | e24 | e25 | e26 | e29 | e30 => exact Or.inl (hsub (by decide))); all_goals first | with_reducible exact Or.inr rfl | skip)

/-- What `State.cancelledAtTime` may change. -/
theorem State.cancelledAtTime_frame {ps : List Part} {s0 : State} (s : State) (h : InHand) (hst : Changes ps s0 s) (hsub : [.qu] ⊆ ps) :
    Changes ps s0 (State.cancelledAtTime s h) := by
  unfold State.cancelledAtTime
  repeat' first
    | with_reducible assumption
    | ((with_reducible apply State.cutFlag_frame); (case hsub => exact List.Subset.trans (by decide) hsub))
    | with_reducible apply Changes.ite
    | ((fail_if_no_progress extract_lets a1))
    | dsimp only [a1]
    | (simp only [Changes.mk_eq_upd]; (with_reducible apply Changes.upd); (case e14 => exact Or.inl (hsub (by decide))); all_goals first | with_reducible exact Or.inr rfl | skip)

/-- What `State.startStep` may change. -/
theorem State.startStep_frame {ps : List Part} {s0 : State} (s : State) (h : InHand) (hst : Changes ps s0 s) (hsub : [.emitted, .sched, .units, .qu, .adm, .backup, .flash, .logSeq, .log, .port] ⊆ ps) :
    Changes ps s0 (State.startStep s h) := by
  unfold State.startStep
  repeat' first
    | with_reducible assumption
    | ((with_reducible apply State.cancelledAtTime_frame); (case hsub => exact List.Subset.trans (by decide) hsub))
    | ((with_reducible apply State.cutFlag_frame); (case hsub => exact List.Subset.trans (by decide) hsub))
    | ((with_reducible apply State.finishEntry_frame); (case hsub => exact List.Subset.trans (by decide) hsub))
    | ((with_reducible apply State.selectAll_frame); (case hsub => exact List.Subset.trans (by decide) hsub))
    | ((with_reducible apply State.settleStep_frame); (case hsub => exact List.Subset.trans (by decide) hsub))
    | ((with_reducible apply State.tidyCasts_frame); (case hsub => exact List.Subset.trans (by decide) hsub))
    | with_reducible apply Changes.ite
    | ((fail_if_no_progress extract_lets a1))
    | dsimp only [a1]
    | (simp only [Changes.mk_eq_upd]; (with_reducible apply Changes.upd); (case e2 | e12 | e13 | e14 | e19 | e24 | e25 | e26 | e29 | e30 => exact Or.inl (hsub (by decide))); all_goals first | with_reducible exact Or.inr rfl | skip)

/-- What `State.takeResume` may change. -/
theorem State.takeResume_frame {ps : List Part} {s0 : State} (s : State) (h : InHand) (hst : Changes ps s0 s) (hsub : [.emitted, .sched, .qu, .adm, .backup, .flash, .logSeq, .log, .port] ⊆ ps) :
    Changes ps s0 (State.takeResume s h) := by
  unfold State.takeResume
  repeat' first
    | with_reducible assumption
    | ((with_reducible apply State.afterRelease_frame); (case hsub => exact List.Subset.trans (by decide) hsub))
    | ((with_reducible apply State.cancelledAtTime_frame); (case hsub => exact List.Subset.trans (by decide) hsub))
    | ((with_reducible apply State.completeEntry_frame); (case hsub => exact List.Subset.trans (by decide) hsub))
    | ((with_reducible apply State.logged_frame); (case hsub => exact List.Subset.trans (by decide) hsub))
    | ((with_reducible apply State.tidyCasts_frame); (case hsub => exact List.Subset.trans (by decide) hsub))
    | with_reducible apply Changes.ite
    | ((fail_if_no_progress extract_lets a1 a2))
    | dsimp only [a1]
    | dsimp only [a2]
    | (simp only [Changes.mk_eq_upd]; (with_reducible apply Changes.upd); (case e2 | e12 | e14 | e19 | e24 | e25 | e26 | e29 | e30 => exact Or.inl (hsub (by decide))); all_goals first | with_reducible exact Or.inr rfl | skip)

/-- What `State.cmdQuCmdArm` may change. -/
theorem State.cmdQuCmdArm_frame {ps : List Part} {s0 : State} (s : State) (hst : Changes ps s0 s) (hsub : [.emitted, .sched, .units, .qu, .adm, .backup, .flash, .logSeq, .log, .port] ⊆ ps) :
    Changes ps s0 ((State.cmdQuCmdArm s).state) := by
  unfold State.cmdQuCmdArm
  repeat' first
    | with_reducible assumption
    | ((with_reducible apply State.acceptQuench_frame); (case hsub => exact List.Subset.trans (by decide) hsub))
    | ((with_reducible apply State.quEnter_frame); (case' h_accept => intro y0 y1 y2 hy); (case hsub => exact List.Subset.trans (by decide) hsub))

/-- What `State.cmdQuCmdStep` may change. -/
theorem State.cmdQuCmdStep_frame {ps : List Part} {s0 : State} (s : State) (hst : Changes ps s0 s) (hsub : [.emitted, .freeCount, .sched, .units, .qu, .adm, .backup, .flash, .logSeq, .log, .port] ⊆ ps) :
    Changes ps s0 ((State.cmdQuCmdStep s).state) := by
  unfold State.cmdQuCmdStep
  repeat' first
    | with_reducible assumption
    | ((with_reducible apply State.acceptStep_frame); (case hsub => exact List.Subset.trans (by decide) hsub))
    | ((with_reducible apply State.quEnter_frame); (case' h_accept => intro y0 y1 y2 hy); (case hsub => exact List.Subset.trans (by decide) hsub))

/-- What `State.cmdQuCmdResume` may change. -/
theorem State.cmdQuCmdResume_frame {ps : List Part} {s0 : State} (s : State) (hst : Changes ps s0 s) (hsub : [.emitted, .sched, .units, .qu, .adm, .backup, .flash, .logSeq, .log, .port, .pins] ⊆ ps) :
    Changes ps s0 ((State.cmdQuCmdResume s).state) := by
  unfold State.cmdQuCmdResume
  repeat' first
    | with_reducible assumption
    | ((with_reducible apply State.acceptResume_frame); (case hsub => exact List.Subset.trans (by decide) hsub))
    | ((with_reducible apply State.quEnter_frame); (case' h_accept => intro y0 y1 y2 hy); (case hsub => exact List.Subset.trans (by decide) hsub))
    | ((with_reducible apply State.releaseStop_frame); (case hsub => exact List.Subset.trans (by decide) hsub))

/-- What `State.cmdQuCmdCancel` may change. -/
theorem State.cmdQuCmdCancel_frame {ps : List Part} {s0 : State} (s : State) (hst : Changes ps s0 s) (hsub : [.emitted, .sched, .units, .qu, .podCut, .adm, .backup, .flash, .logSeq, .log, .port] ⊆ ps) :
    Changes ps s0 ((State.cmdQuCmdCancel s).state) := by
  unfold State.cmdQuCmdCancel
  repeat' first
    | with_reducible assumption
    | ((with_reducible apply State.accept_frame); (case hsub => exact List.Subset.trans (by decide) hsub))
    | ((with_reducible apply State.cancelEntry_frame); (case hsub => exact List.Subset.trans (by decide) hsub))
    | ((fail_if_no_progress extract_lets a1))
    | dsimp only [a1]
    | ((with_reducible apply Changes.foldlReply); (case' h => intro a x ha; try dsimp only))

/-- What `State.cmdQuCmdPeek` may change. -/
theorem State.cmdQuCmdPeek_frame {ps : List Part} {s0 : State} (s : State) (hst : Changes ps s0 s) (hsub : [.emitted, .units, .qu] ⊆ ps) :
    Changes ps s0 ((State.cmdQuCmdPeek s).state) := by
  unfold State.cmdQuCmdPeek
  repeat' first
    | with_reducible assumption
    | ((with_reducible apply State.accept_frame); (case hsub => exact List.Subset.trans (by decide) hsub))
    | ((with_reducible apply State.refuse_frame); (case hsub => exact List.Subset.trans (by decide) hsub))
    | ((with_reducible apply State.ringStart_frame); (case hsub => exact List.Subset.trans (by decide) hsub))
    | ((fail_if_no_progress extract_lets a1 a2 a3))
    | dsimp only [a1]
    | dsimp only [a2]
    | dsimp only [a3]
    | (simp only [Changes.mk_eq_upd]; (with_reducible apply Changes.upd); (case e2 | e13 | e14 => exact Or.inl (hsub (by decide))); all_goals first | with_reducible exact Or.inr rfl | skip)
    | split

end Sys2Proof.Machine
end

