-- ==== Sys2Proof/Laws/FramePodQuench.lean ====
section
/-!
SUPPORT. Frames of the operations of Machine/PodQuench.lean: the parts of the state that each may change.
-/
namespace Sys2Proof.Machine

/-- What `State.cutSeen` may change. -/
theorem State.cutSeen_frame {ps : List Part} {s0 : State} (s : State) (seq kind : Nat) (hst : Changes ps s0 s) (hsub : [.podCut] ⊆ ps) :
    Changes ps s0 (State.cutSeen s seq kind) := by
  unfold State.cutSeen
  repeat' first
    | with_reducible assumption
    | ((fail_if_no_progress extract_lets a1))
    | dsimp only [a1]
    | (simp only [Changes.mk_eq_upd]; (with_reducible apply Changes.upd); (case e15 => exact Or.inl (hsub (by decide))); all_goals first | with_reducible exact Or.inr rfl | skip)

/-- What `State.cutForward` may change. -/
theorem State.cutForward_frame {ps : List Part} {s0 : State} (s : State) (kind seq : Nat) (m : List Byte) (hst : Changes ps s0 s) (hsub : [.emitted, .podCut] ⊆ ps) :
    Changes ps s0 (State.cutForward s kind seq m) := by
  unfold State.cutForward
  repeat' first
    | with_reducible assumption
    | ((with_reducible apply State.sendCopies_frame); (case hsub => exact List.Subset.trans (by decide) hsub))

/-- What `State.podOut` may change. -/
theorem State.podOut_frame {ps : List Part} {s0 : State} (s : State) (hst : Changes ps s0 s) (hsub : [.podCut] ⊆ ps) :
    Changes ps s0 (State.podOut s) := by
  unfold State.podOut
  repeat' first
    | with_reducible assumption
    | ((fail_if_no_progress extract_lets a1))
    | dsimp only [a1]
    | (simp only [Changes.mk_eq_upd]; (with_reducible apply Changes.upd); (case e15 => exact Or.inl (hsub (by decide))); all_goals first | with_reducible exact Or.inr rfl | skip)

/-- What `State.supersede` may change. -/
theorem State.supersede_frame {ps : List Part} {s0 : State} (s : State) (hst : Changes ps s0 s) (hsub : [.emitted, .sched, .units, .qu, .podCut, .adm, .backup, .flash, .logSeq, .log, .port] ⊆ ps) :
    Changes ps s0 (State.supersede s) := by
  unfold State.supersede
  repeat' first
    | with_reducible assumption
    | ((with_reducible apply State.cancelEntry_frame); (case hsub => exact List.Subset.trans (by decide) hsub))
    | ((with_reducible apply State.logged_frame); (case hsub => exact List.Subset.trans (by decide) hsub))
    | ((with_reducible apply State.podOut_frame); (case hsub => exact List.Subset.trans (by decide) hsub))
    | with_reducible apply Changes.ite
    | ((fail_if_no_progress extract_lets a1))
    | dsimp only [a1]
    | ((with_reducible apply Changes.foldl); (case' h => intro a x ha; try dsimp only))

/-- What `State.enterOrder` may change. -/
theorem State.enterOrder_frame {ps : List Part} {s0 : State} (s : State) (seq t : Nat) (hst : Changes ps s0 s) (hsub : [.emitted, .sched, .units, .qu, .podCut, .adm, .backup, .flash, .logSeq, .log, .port] ⊆ ps) :
    Changes ps s0 (State.enterOrder s seq t) := by
  unfold State.enterOrder
  repeat' first
    | with_reducible assumption
    | ((with_reducible apply State.acceptQuench_frame); (case hsub => exact List.Subset.trans (by decide) hsub))
    | ((with_reducible apply State.logged_frame); (case hsub => exact List.Subset.trans (by decide) hsub))
    | ((with_reducible apply State.podOut_frame); (case hsub => exact List.Subset.trans (by decide) hsub))
    | ((with_reducible apply State.putEntry_frame); (case hsub => exact List.Subset.trans (by decide) hsub))
    | ((with_reducible apply State.schedWrite_frame); (case' h_accept => intro y0 y1 y2 hy); (case hsub => exact List.Subset.trans (by decide) hsub))
    | ((with_reducible apply State.supersede_frame); (case hsub => exact List.Subset.trans (by decide) hsub))
    | with_reducible apply Changes.ite
    | dsimp only
    | split

end Sys2Proof.Machine
end

