-- ==== Sys2Proof/Laws/FramePins.lean ====
section
/-!
SUPPORT. Frames of the operations of Machine/Pins.lean: the parts of the state that each may change.
-/
namespace Sys2Proof.Machine

/-- What `State.enterStop` may change. -/
theorem State.enterStop_frame {ps : List Part} {s0 : State} (s : State) (n : Nat) (hst : Changes ps s0 s) (hsub : [.emitted, .sched, .units, .qu] ⊆ ps) :
    Changes ps s0 (State.enterStop s n) := by
  unfold State.enterStop
  repeat' first
    | with_reducible assumption
    | ((with_reducible apply State.acceptQuench_frame); (case hsub => exact List.Subset.trans (by decide) hsub))
    | ((with_reducible apply State.putEntry_frame); (case hsub => exact List.Subset.trans (by decide) hsub))

/-- What `State.placeStop` may change. -/
theorem State.placeStop_frame {ps : List Part} {s0 : State} (s : State) (hst : Changes ps s0 s) (hsub : [.emitted, .sched, .units, .qu, .podCut, .adm, .backup, .flash, .logSeq, .log, .port, .pins] ⊆ ps) :
    Changes ps s0 (State.placeStop s) := by
  unfold State.placeStop
  repeat' first
    | with_reducible assumption
    | ((with_reducible apply State.cancelEntry_frame); (case hsub => exact List.Subset.trans (by decide) hsub))
    | ((with_reducible apply State.enterStop_frame); (case hsub => exact List.Subset.trans (by decide) hsub))
    | with_reducible apply Changes.ite
    | ((fail_if_no_progress extract_lets a1 a2 a3))
    | dsimp only [a1]
    | dsimp only [a2]
    | dsimp only [a3]
    | (simp only [Changes.mk_eq_upd]; (with_reducible apply Changes.upd); (case e2 | e12 | e13 | e14 | e15 | e19 | e24 | e25 | e26 | e29 | e30 | e33 => exact Or.inl (hsub (by decide))); all_goals first | with_reducible exact Or.inr rfl | skip)
    | split

/-- What `State.tryStop` may change. -/
theorem State.tryStop_frame {ps : List Part} {s0 : State} (s : State) (hst : Changes ps s0 s) (hsub : [.emitted, .sched, .units, .qu, .podCut, .adm, .backup, .flash, .logSeq, .log, .port, .pins] ⊆ ps) :
    Changes ps s0 (State.tryStop s) := by
  unfold State.tryStop
  repeat' first
    | with_reducible assumption
    | ((with_reducible apply State.placeStop_frame); (case hsub => exact List.Subset.trans (by decide) hsub))
    | with_reducible apply Changes.ite
    | ((fail_if_no_progress extract_lets a1))
    | dsimp only [a1]
    | (simp only [Changes.mk_eq_upd]; (with_reducible apply Changes.upd); (case e2 | e12 | e13 | e14 | e15 | e19 | e24 | e25 | e26 | e29 | e30 | e33 => exact Or.inl (hsub (by decide))); all_goals first | with_reducible exact Or.inr rfl | skip)

/-- What `State.stopCancels` may change. -/
theorem State.stopCancels_frame {ps : List Part} {s0 : State} (s : State) (hst : Changes ps s0 s) (hsub : [.emitted, .sched, .units, .qu, .podCut, .adm, .backup, .flash, .logSeq, .log, .port] ⊆ ps) :
    Changes ps s0 (State.stopCancels s) := by
  unfold State.stopCancels
  repeat' first
    | with_reducible assumption
    | ((with_reducible apply State.cancelEntry_frame); (case hsub => exact List.Subset.trans (by decide) hsub))
    | ((with_reducible apply State.logged_frame); (case hsub => exact List.Subset.trans (by decide) hsub))
    | with_reducible apply Changes.ite
    | ((fail_if_no_progress extract_lets a1))
    | dsimp only [a1]
    | ((with_reducible apply Changes.foldl); (case' h => intro a x ha; try dsimp only))

/-- What `State.logStop` may change. -/
theorem State.logStop_frame {ps : List Part} {s0 : State} (s : State) (hst : Changes ps s0 s) (hsub : [.emitted, .backup, .flash, .logSeq, .log, .port, .pins] ⊆ ps) :
    Changes ps s0 (State.logStop s) := by
  unfold State.logStop
  repeat' first
    | with_reducible assumption
    | ((with_reducible apply State.urged_frame); (case hsub => exact List.Subset.trans (by decide) hsub))
    | with_reducible apply Changes.ite
    | (simp only [Changes.mk_eq_upd]; (with_reducible apply Changes.upd); (case e2 | e24 | e25 | e26 | e29 | e30 | e33 => exact Or.inl (hsub (by decide))); all_goals first | with_reducible exact Or.inr rfl | skip)

/-- What `State.acceptStop` may change. -/
theorem State.acceptStop_frame {ps : List Part} {s0 : State} (s : State) (hst : Changes ps s0 s) (hsub : [.emitted, .sched, .units, .qu, .podCut, .adm, .backup, .flash, .logSeq, .log, .port, .pins] ⊆ ps) :
    Changes ps s0 (State.acceptStop s) := by
  unfold State.acceptStop
  repeat' first
    | with_reducible assumption
    | ((with_reducible apply State.logStop_frame); (case hsub => exact List.Subset.trans (by decide) hsub))
    | ((with_reducible apply State.stopCancels_frame); (case hsub => exact List.Subset.trans (by decide) hsub))
    | ((with_reducible apply State.tryStop_frame); (case hsub => exact List.Subset.trans (by decide) hsub))
    | with_reducible apply Changes.ite
    | ((fail_if_no_progress extract_lets a1 a2 a3 a4))
    | dsimp only [a1]
    | dsimp only [a2]
    | dsimp only [a3]
    | dsimp only [a4]
    | (simp only [Changes.mk_eq_upd]; (with_reducible apply Changes.upd); (case e2 | e12 | e13 | e14 | e15 | e19 | e24 | e25 | e26 | e29 | e30 | e33 => exact Or.inl (hsub (by decide))); all_goals first | with_reducible exact Or.inr rfl | skip)
    | split

/-- What `State.jtagSet` may change. -/
theorem State.jtagSet_frame {ps : List Part} {s0 : State} (s : State) (op : Nat) (hst : Changes ps s0 s) (hsub : [.emitted, .power, .flash, .pins] ⊆ ps) :
    Changes ps s0 (State.jtagSet s op) := by
  unfold State.jtagSet
  repeat' first
    | with_reducible assumption
    | ((with_reducible apply State.busesAgain_frame); (case hsub => exact List.Subset.trans (by decide) hsub))
    | with_reducible apply Changes.ite
    | ((fail_if_no_progress extract_lets a1))
    | dsimp only [a1]
    | (simp only [Changes.mk_eq_upd]; (with_reducible apply Changes.upd); (case e2 | e22 | e25 | e33 => exact Or.inl (hsub (by decide))); all_goals first | with_reducible exact Or.inr rfl | skip)

end Sys2Proof.Machine
end

