-- ==== Sys2Proof/Laws/FrameShakeoutOps.lean ====
section
/-!
SUPPORT. Frames of the operations of Machine/ShakeoutOps.lean: the parts of the state that each may change.
-/
namespace Sys2Proof.Machine

/-- What `State.modSo` may change. -/
theorem State.modSo_frame {ps : List Part} {s0 : State} (s : State) (f : Shakeout → Shakeout) (hst : Changes ps s0 s) (hsub : [.dump] ⊆ ps) :
    Changes ps s0 (State.modSo s f) := by
  unfold State.modSo
  repeat' first
    | with_reducible assumption
    | ((fail_if_no_progress extract_lets a1))
    | dsimp only [a1]
    | (simp only [Changes.mk_eq_upd]; (with_reducible apply Changes.upd); (case e16 => exact Or.inl (hsub (by decide))); all_goals first | with_reducible exact Or.inr rfl | skip)

/-- What `State.modWork` may change. -/
theorem State.modWork_frame {ps : List Part} {s0 : State} (s : State) (die : Nat) (f : DieWork → DieWork) (hst : Changes ps s0 s) (hsub : [.dump] ⊆ ps) :
    Changes ps s0 (State.modWork s die f) := by
  unfold State.modWork
  repeat' first
    | with_reducible assumption
    | ((with_reducible apply State.modSo_frame); (case hsub => exact List.Subset.trans (by decide) hsub))

/-- What `State.modSlot` may change. -/
theorem State.modSlot_frame {ps : List Part} {s0 : State} (s : State) (n : Nat) (f : Image → Image) (hst : Changes ps s0 s) (hsub : [.dump] ⊆ ps) :
    Changes ps s0 (State.modSlot s n f) := by
  unfold State.modSlot
  repeat' first
    | with_reducible assumption
    | ((fail_if_no_progress extract_lets a1))
    | dsimp only [a1]
    | (simp only [Changes.mk_eq_upd]; (with_reducible apply Changes.upd); (case e16 => exact Or.inl (hsub (by decide))); all_goals first | with_reducible exact Or.inr rfl | skip)

/-- What `State.modImage` may change. -/
theorem State.modImage_frame {ps : List Part} {s0 : State} (s : State) (f : Image → Image) (hst : Changes ps s0 s) (hsub : [.dump] ⊆ ps) :
    Changes ps s0 (State.modImage s f) := by
  unfold State.modImage
  repeat' first
    | with_reducible assumption
    | ((with_reducible apply State.modSlot_frame); (case hsub => exact List.Subset.trans (by decide) hsub))
    | split

/-- What `State.soResult` may change. -/
theorem State.soResult_frame {ps : List Part} {s0 : State} (s : State) (i : Nat) (hst : Changes ps s0 s) (hsub : [.dump] ⊆ ps) :
    Changes ps s0 (State.soResult s i) := by
  unfold State.soResult
  repeat' first
    | with_reducible assumption
    | ((with_reducible apply State.modImage_frame); (case hsub => exact List.Subset.trans (by decide) hsub))

/-- What `State.writeCopies` may change. -/
theorem State.writeCopies_frame {ps : List Part} {s0 : State} (s : State) (die : Nat) (r : Rec) (off : Nat) (hst : Changes ps s0 s) (hsub : [.emitted] ⊆ ps) :
    Changes ps s0 (State.writeCopies s die r off) := by
  unfold State.writeCopies
  repeat' first
    | with_reducible assumption
    | ((with_reducible apply State.emit_frame); (case hsub => exact List.Subset.trans (by decide) hsub))

/-- What `State.sendRec` may change. -/
theorem State.sendRec_frame {ps : List Part} {s0 : State} (s : State) (die : Nat) (r : Rec) (sum : Nat) (hst : Changes ps s0 s) (hsub : [.emitted, .dump] ⊆ ps) :
    Changes ps s0 (State.sendRec s die r sum) := by
  unfold State.sendRec
  repeat' first
    | with_reducible assumption
    | ((with_reducible apply State.emit_frame); (case hsub => exact List.Subset.trans (by decide) hsub))
    | ((with_reducible apply State.modWork_frame); (case hsub => exact List.Subset.trans (by decide) hsub))
    | ((with_reducible apply State.writeCopies_frame); (case hsub => exact List.Subset.trans (by decide) hsub))
    | with_reducible apply Changes.ite

/-- What `State.countUnreachable` may change. -/
theorem State.countUnreachable_frame {ps : List Part} {s0 : State} (s : State) (uid : Nat) (hst : Changes ps s0 s) (hsub : [.emitted, .dump] ⊆ ps) :
    Changes ps s0 (State.countUnreachable s uid) := by
  unfold State.countUnreachable
  repeat' first
    | with_reducible assumption
    | ((with_reducible apply State.modImage_frame); (case hsub => exact List.Subset.trans (by decide) hsub))
    | ((with_reducible apply State.soResult_frame); (case hsub => exact List.Subset.trans (by decide) hsub))
    | ((fail_if_no_progress extract_lets a1 a2); try (refine (have ha1 : Changes ps s0 a1 := ?_; ?_); rotate_left; clear_value a1))
    | dsimp only [a2]
    | (simp only [Changes.mk_eq_upd]; (with_reducible apply Changes.upd); (case e2 | e16 => exact Or.inl (hsub (by decide))); all_goals first | with_reducible exact Or.inr rfl | skip)

/-- What `State.unreachable` may change. -/
theorem State.unreachable_frame {ps : List Part} {s0 : State} (s : State) (die uid type reason : Nat) (hst : Changes ps s0 s) (hsub : [.emitted, .dump] ⊆ ps) :
    Changes ps s0 (State.unreachable s die uid type reason) := by
  unfold State.unreachable
  repeat' first
    | with_reducible assumption
    | ((with_reducible apply State.countUnreachable_frame); (case hsub => exact List.Subset.trans (by decide) hsub))
    | ((with_reducible apply State.sendRec_frame); (case hsub => exact List.Subset.trans (by decide) hsub))

/-- What `State.notCollected` may change. -/
theorem State.notCollected_frame {ps : List Part} {s0 : State} (s : State) (die uid type reason : Nat) (hst : Changes ps s0 s) (hsub : [.emitted, .dump] ⊆ ps) :
    Changes ps s0 (State.notCollected s die uid type reason) := by
  unfold State.notCollected
  repeat' first
    | with_reducible assumption
    | ((with_reducible apply State.sendRec_frame); (case hsub => exact List.Subset.trans (by decide) hsub))

/-- What `State.collected` may change. -/
theorem State.collected_frame {ps : List Part} {s0 : State} (s : State) (die : Nat) (p : PartRec) (hst : Changes ps s0 s) (hsub : [.emitted, .freeCount, .dump] ⊆ ps) :
    Changes ps s0 (State.collected s die p) := by
  unfold State.collected
  repeat' first
    | with_reducible assumption
    | ((with_reducible apply State.drawn_frame); (case hsub => exact List.Subset.trans (by decide) hsub))
    | ((with_reducible apply State.modImage_frame); (case hsub => exact List.Subset.trans (by decide) hsub))
    | ((with_reducible apply State.sendRec_frame); (case hsub => exact List.Subset.trans (by decide) hsub))
    | with_reducible apply Changes.ite
    | ((fail_if_no_progress extract_lets a1 a2 a3))
    | dsimp only [a1]
    | dsimp only [a2]
    | dsimp only [a3]
    | (simp only [Changes.mk_eq_upd]; (with_reducible apply Changes.upd); (case e2 | e3 | e16 => exact Or.inl (hsub (by decide))); all_goals first | with_reducible exact Or.inr rfl | skip)
    | split

/-- What `State.ringRecord` may change. -/
theorem State.ringRecord_frame {ps : List Part} {s0 : State} (s : State) (die type uid off : Nat) (hst : Changes ps s0 s) (hsub : [.emitted, .freeCount, .units, .dump] ⊆ ps) :
    Changes ps s0 (State.ringRecord s die type uid off) := by
  unfold State.ringRecord
  repeat' first
    | with_reducible assumption
    | ((with_reducible apply State.drawn_frame); (case hsub => exact List.Subset.trans (by decide) hsub))
    | ((with_reducible apply State.modWork_frame); (case hsub => exact List.Subset.trans (by decide) hsub))
    | ((with_reducible apply State.ringStart_frame); (case hsub => exact List.Subset.trans (by decide) hsub))
    | ((with_reducible apply State.unreachable_frame); (case hsub => exact List.Subset.trans (by decide) hsub))
    | with_reducible apply Changes.ite
    | ((fail_if_no_progress extract_lets a1 a2 a3))
    | dsimp only [a1]
    | dsimp only [a2]
    | dsimp only [a3]
    | split

/-- What `State.openPart` may change. -/
theorem State.openPart_frame {ps : List Part} {s0 : State} (s : State) (die type uid : Nat) (hst : Changes ps s0 s) (hsub : [.dump] ⊆ ps) :
    Changes ps s0 (State.openPart s die type uid) := by
  unfold State.openPart
  repeat' first
    | with_reducible assumption
    | ((with_reducible apply State.modWork_frame); (case hsub => exact List.Subset.trans (by decide) hsub))

/-- What `State.issueRanges` may change. -/
theorem State.issueRanges_frame {ps : List Part} {s0 : State} (s : State) (die type uid : Nat) (n0 : Nat) (hst : Changes ps s0 s) (hsub : [.emitted, .dump] ⊆ ps) :
    Changes ps s0 ((State.issueRanges s die type uid n0).1) := by
  induction n0 generalizing s die type uid with
  | zero => exact hst
  | succ n ih =>
  rw [State.issueRanges]
  repeat' first
    | with_reducible assumption
    | ((with_reducible apply State.emit_frame); (case hsub => exact List.Subset.trans (by decide) hsub))
    | ((with_reducible apply State.modWork_frame); (case hsub => exact List.Subset.trans (by decide) hsub))
    | with_reducible apply ih
    | ((fail_if_no_progress extract_lets a1); try (refine (have ha1 : Changes ps s0 a1 := ?_; ?_); rotate_left; clear_value a1))
    | split

/-- What `State.feedRecords` may change. -/
theorem State.feedRecords_frame {ps : List Part} {s0 : State} (s : State) (die : Nat) (n0 : List (Nat × Nat)) (hst : Changes ps s0 s) (hsub : [.emitted, .freeCount, .units, .dump] ⊆ ps) :
    Changes ps s0 (State.feedRecords s die n0) := by
  induction n0 generalizing s die with
  | nil => exact hst
  | cons y l ih =>
  rw [State.feedRecords.eq_def]
  repeat' first
    | with_reducible assumption
    | ((with_reducible apply State.issueRanges_frame); (case hsub => exact List.Subset.trans (by decide) hsub))
    | ((with_reducible apply State.modWork_frame); (case hsub => exact List.Subset.trans (by decide) hsub))
    | ((with_reducible apply State.notCollected_frame); (case hsub => exact List.Subset.trans (by decide) hsub))
    | ((with_reducible apply State.openPart_frame); (case hsub => exact List.Subset.trans (by decide) hsub))
    | ((with_reducible apply State.ringRecord_frame); (case hsub => exact List.Subset.trans (by decide) hsub))
    | with_reducible apply ih
    | with_reducible apply Changes.ite
    | ((fail_if_no_progress extract_lets a1 a2))
    | dsimp only [a1]
    | dsimp only [a2]
    | (with_reducible apply Changes.ofFst; rotate_left; (with_reducible assumption))
    | split

/-- What `State.modPart` may change. -/
theorem State.modPart_frame {ps : List Part} {s0 : State} (s : State) (die type uid : Nat) (f : PartRec → PartRec) (hst : Changes ps s0 s) (hsub : [.dump] ⊆ ps) :
    Changes ps s0 (State.modPart s die type uid f) := by
  unfold State.modPart
  repeat' first
    | with_reducible assumption
    | ((with_reducible apply State.modWork_frame); (case hsub => exact List.Subset.trans (by decide) hsub))

/-- What `State.dropPart` may change. -/
theorem State.dropPart_frame {ps : List Part} {s0 : State} (s : State) (die type uid : Nat) (hst : Changes ps s0 s) (hsub : [.units, .dump] ⊆ ps) :
    Changes ps s0 (State.dropPart s die type uid) := by
  unfold State.dropPart
  repeat' first
    | with_reducible assumption
    | ((with_reducible apply State.modWork_frame); (case hsub => exact List.Subset.trans (by decide) hsub))
    | ((with_reducible apply State.ringDrop_frame); (case hsub => exact List.Subset.trans (by decide) hsub))

/-- What `State.writePart` may change. -/
theorem State.writePart_frame {ps : List Part} {s0 : State} (s : State) (die type uid : Nat) (hst : Changes ps s0 s) (hsub : [.emitted, .freeCount, .dump] ⊆ ps) :
    Changes ps s0 (State.writePart s die type uid) := by
  unfold State.writePart
  repeat' first
    | with_reducible assumption
    | ((with_reducible apply State.collected_frame); (case hsub => exact List.Subset.trans (by decide) hsub))
    | ((with_reducible apply State.modWork_frame); (case hsub => exact List.Subset.trans (by decide) hsub))
    | with_reducible apply Changes.ite
    | split

/-- What `State.rangeRead` may change. -/
theorem State.rangeRead_frame {ps : List Part} {s0 : State} (s : State) (die type uid off : Nat) (data : List Byte) (lines : List Nat) (ring : Bool) (hst : Changes ps s0 s) (hsub : [.emitted, .freeCount, .units, .dump] ⊆ ps) :
    Changes ps s0 (State.rangeRead s die type uid off data lines ring) := by
  unfold State.rangeRead
  repeat' first
    | with_reducible assumption
    | ((with_reducible apply State.modPart_frame); (case hsub => exact List.Subset.trans (by decide) hsub))
    | ((with_reducible apply State.modTap_frame); (case hsub => exact List.Subset.trans (by decide) hsub))
    | ((with_reducible apply State.writePart_frame); (case hsub => exact List.Subset.trans (by decide) hsub))
    | with_reducible apply Changes.ite
    | ((fail_if_no_progress extract_lets a1))
    | dsimp only [a1]
    | (simp only [Changes.mk_eq_upd]; (with_reducible apply Changes.upd); (case e2 | e3 | e13 | e16 => exact Or.inl (hsub (by decide))); all_goals first | with_reducible exact Or.inr rfl | skip)

/-- What `State.endPart` may change. -/
theorem State.endPart_frame {ps : List Part} {s0 : State} (s : State) (die type uid state reason : Nat) (hst : Changes ps s0 s) (hsub : [.emitted, .units, .dump] ⊆ ps) :
    Changes ps s0 (State.endPart s die type uid state reason) := by
  unfold State.endPart
  repeat' first
    | with_reducible assumption
    | ((with_reducible apply State.dropPart_frame); (case hsub => exact List.Subset.trans (by decide) hsub))
    | ((with_reducible apply State.modPart_frame); (case hsub => exact List.Subset.trans (by decide) hsub))
    | ((with_reducible apply State.notCollected_frame); (case hsub => exact List.Subset.trans (by decide) hsub))
    | ((with_reducible apply State.ringDrop_frame); (case hsub => exact List.Subset.trans (by decide) hsub))
    | ((with_reducible apply State.unreachable_frame); (case hsub => exact List.Subset.trans (by decide) hsub))
    | with_reducible apply Changes.ite

/-- What `State.flushParts` may change. -/
theorem State.flushParts_frame {ps : List Part} {s0 : State} (s : State) (die : Nat) (hst : Changes ps s0 s) (hsub : [.emitted, .freeCount, .units, .dump] ⊆ ps) :
    Changes ps s0 (State.flushParts s die) := by
  unfold State.flushParts
  repeat' first
    | with_reducible assumption
    | ((with_reducible apply State.endPart_frame); (case hsub => exact List.Subset.trans (by decide) hsub))
    | ((with_reducible apply State.writePart_frame); (case hsub => exact List.Subset.trans (by decide) hsub))
    | with_reducible apply Changes.ite
    | ((with_reducible apply Changes.foldl); (case' h => intro a x ha; try dsimp only))
    | split

/-- What `State.feedDie` may change. -/
theorem State.feedDie_frame {ps : List Part} {s0 : State} (s : State) (die : Nat) (hst : Changes ps s0 s) (hsub : [.emitted, .freeCount, .units, .dump] ⊆ ps) :
    Changes ps s0 (State.feedDie s die) := by
  unfold State.feedDie
  repeat' first
    | with_reducible assumption
    | ((with_reducible apply State.feedRecords_frame); (case hsub => exact List.Subset.trans (by decide) hsub))
    | ((with_reducible apply State.flushParts_frame); (case hsub => exact List.Subset.trans (by decide) hsub))
    | ((with_reducible apply State.modWork_frame); (case hsub => exact List.Subset.trans (by decide) hsub))
    | with_reducible apply Changes.ite
    | ((fail_if_no_progress extract_lets a1))
    | dsimp only [a1]
    | split

/-- What `State.feedTier0` may change. -/
theorem State.feedTier0_frame {ps : List Part} {s0 : State} (s : State) (die : Nat) (n0 : Nat) (hst : Changes ps s0 s) (hsub : [.emitted, .units, .dump] ⊆ ps) :
    Changes ps s0 (State.feedTier0 s die n0) := by
  induction n0 generalizing s die with
  | zero => exact hst
  | succ n ih =>
  rw [State.feedTier0]
  repeat' first
    | with_reducible assumption
    | ((with_reducible apply State.modWork_frame); (case hsub => exact List.Subset.trans (by decide) hsub))
    | ((with_reducible apply State.ringStart_frame); (case hsub => exact List.Subset.trans (by decide) hsub))
    | with_reducible apply ih
    | with_reducible apply Changes.ite

/-- What `State.modCluster0` may change. -/
theorem State.modCluster0_frame {ps : List Part} {s0 : State} (s : State) (die c : Nat) (f : Tier0Cluster → Tier0Cluster) (hst : Changes ps s0 s) (hsub : [.dump] ⊆ ps) :
    Changes ps s0 (State.modCluster0 s die c f) := by
  unfold State.modCluster0
  repeat' first
    | with_reducible assumption
    | ((with_reducible apply State.modWork_frame); (case hsub => exact List.Subset.trans (by decide) hsub))

/-- What `State.fallbackLost` may change. -/
theorem State.fallbackLost_frame {ps : List Part} {s0 : State} (s : State) (die key : Nat) (hst : Changes ps s0 s) (hsub : [.emitted, .units, .dump] ⊆ ps) :
    Changes ps s0 (State.fallbackLost s die key) := by
  unfold State.fallbackLost
  repeat' first
    | with_reducible assumption
    | ((with_reducible apply State.endPart_frame); (case hsub => exact List.Subset.trans (by decide) hsub))
    | ((with_reducible apply State.modPart_frame); (case hsub => exact List.Subset.trans (by decide) hsub))
    | with_reducible apply Changes.ite
    | ((fail_if_no_progress extract_lets a1))
    | dsimp only [a1]
    | (simp only [Changes.mk_eq_upd]; (with_reducible apply Changes.upd); (case e2 | e13 | e16 => exact Or.inl (hsub (by decide))); all_goals first | with_reducible exact Or.inr rfl | skip)

/-- What `State.failTap` may change. -/
theorem State.failTap_frame {ps : List Part} {s0 : State} (s : State) (die c : Nat) (hst : Changes ps s0 s) (hsub : [.emitted, .units, .dump] ⊆ ps) :
    Changes ps s0 (State.failTap s die c) := by
  unfold State.failTap
  repeat' first
    | with_reducible assumption
    | ((with_reducible apply State.fallbackLost_frame); (case hsub => exact List.Subset.trans (by decide) hsub))
    | ((with_reducible apply State.modWork_frame); (case hsub => exact List.Subset.trans (by decide) hsub))
    | ((with_reducible apply State.ringDrop_frame); (case hsub => exact List.Subset.trans (by decide) hsub))
    | ((fail_if_no_progress extract_lets a1 a2 a3); try (refine (have ha1 : Changes ps s0 a1 := ?_; ?_); rotate_left; clear_value a1); try (refine (have ha2 : Changes ps s0 a2 := ?_; ?_); rotate_left; clear_value a2))
    | dsimp only [a3]
    | ((with_reducible apply Changes.foldl); (case' h => intro a x ha; try dsimp only))

/-- What `State.tier0Stamp` may change. -/
theorem State.tier0Stamp_frame {ps : List Part} {s0 : State} (s : State) (die c win : Nat) (hst : Changes ps s0 s) (hsub : [.dump] ⊆ ps) :
    Changes ps s0 (State.tier0Stamp s die c win) := by
  unfold State.tier0Stamp
  repeat' first
    | with_reducible assumption
    | ((with_reducible apply State.modCluster0_frame); (case hsub => exact List.Subset.trans (by decide) hsub))

/-- What `State.tier0Ended` may change. -/
theorem State.tier0Ended_frame {ps : List Part} {s0 : State} (s : State) (die item status : Nat) (data : List Byte) (hst : Changes ps s0 s) (hsub : [.emitted, .units, .dump] ⊆ ps) :
    Changes ps s0 (State.tier0Ended s die item status data) := by
  unfold State.tier0Ended
  repeat' first
    | with_reducible assumption
    | ((with_reducible apply State.failTap_frame); (case hsub => exact List.Subset.trans (by decide) hsub))
    | ((with_reducible apply State.modCluster0_frame); (case hsub => exact List.Subset.trans (by decide) hsub))
    | ((with_reducible apply State.modSo_frame); (case hsub => exact List.Subset.trans (by decide) hsub))
    | ((with_reducible apply State.modWork_frame); (case hsub => exact List.Subset.trans (by decide) hsub))
    | ((with_reducible apply State.tier0Stamp_frame); (case hsub => exact List.Subset.trans (by decide) hsub))
    | with_reducible apply Changes.ite

/-- What `State.tier0Rec` may change. -/
theorem State.tier0Rec_frame {ps : List Part} {s0 : State} (s : State) (die uid type : Nat) (data : List Byte) (lo : Option Nat) (hst : Changes ps s0 s) (hsub : [.emitted, .dump] ⊆ ps) :
    Changes ps s0 (State.tier0Rec s die uid type data lo) := by
  unfold State.tier0Rec
  repeat' first
    | with_reducible assumption
    | ((with_reducible apply State.sendRec_frame); (case hsub => exact List.Subset.trans (by decide) hsub))

/-- What `State.buildTier0` may change. -/
theorem State.buildTier0_frame {ps : List Part} {s0 : State} (s : State) (die : Nat) (hst : Changes ps s0 s) (hsub : [.emitted, .freeCount, .dump] ⊆ ps) :
    Changes ps s0 (State.buildTier0 s die) := by
  unfold State.buildTier0
  repeat' first
    | with_reducible assumption
    | ((with_reducible apply State.drawn_frame); (case hsub => exact List.Subset.trans (by decide) hsub))
    | ((with_reducible apply State.modWork_frame); (case hsub => exact List.Subset.trans (by decide) hsub))
    | ((with_reducible apply State.tier0Rec_frame); (case hsub => exact List.Subset.trans (by decide) hsub))
    | ((with_reducible apply State.unreachable_frame); (case hsub => exact List.Subset.trans (by decide) hsub))
    | with_reducible apply Changes.ite
    | ((fail_if_no_progress extract_lets a1); try (refine (have ha1 : Changes ps s0 a1 := ?_; ?_); rotate_left; clear_value a1))
    | dsimp only [a1]
    | ((with_reducible apply Changes.foldl); (case' h => intro a x ha; try dsimp only))

/-- What `State.soSettle` may change. -/
theorem State.soSettle_frame {ps : List Part} {s0 : State} (s : State) (hst : Changes ps s0 s) (hsub : [.dump] ⊆ ps) :
    Changes ps s0 (State.soSettle s) := by
  unfold State.soSettle
  repeat' first
    | with_reducible assumption
    | ((fail_if_no_progress extract_lets a1))
    | dsimp only [a1]
    | (simp only [Changes.mk_eq_upd]; (with_reducible apply Changes.upd); (case e16 => exact Or.inl (hsub (by decide))); all_goals first | with_reducible exact Or.inr rfl | skip)
    | split

/-- What `State.ladlePut` may change. -/
theorem State.ladlePut_frame {ps : List Part} {s0 : State} (s : State) (r : Rec) (hst : Changes ps s0 s) (hsub : [.dump] ⊆ ps) :
    Changes ps s0 (State.ladlePut s r) := by
  unfold State.ladlePut
  repeat' first
    | with_reducible assumption
    | ((with_reducible apply State.modImage_frame); (case hsub => exact List.Subset.trans (by decide) hsub))

/-- What `State.hubRecords` may change. -/
theorem State.hubRecords_frame {ps : List Part} {s0 : State} (s : State) (hst : Changes ps s0 s) (hsub : [.dump] ⊆ ps) :
    Changes ps s0 (State.hubRecords s) := by
  unfold State.hubRecords
  repeat' first
    | with_reducible assumption
    | ((with_reducible apply State.ladlePut_frame); (case hsub => exact List.Subset.trans (by decide) hsub))
    | ((with_reducible apply Changes.foldl); (case' h => intro a x ha; try dsimp only))

/-- What `State.nameWave` may change. -/
theorem State.nameWave_frame {ps : List Part} {s0 : State} (s : State) (tier : Nat) (again : Bool) (hst : Changes ps s0 s) (hsub : [.emitted, .dump] ⊆ ps) :
    Changes ps s0 (State.nameWave s tier again) := by
  unfold State.nameWave
  repeat' first
    | with_reducible assumption
    | ((with_reducible apply State.emit_frame); (case hsub => exact List.Subset.trans (by decide) hsub))
    | ((with_reducible apply State.modSo_frame); (case hsub => exact List.Subset.trans (by decide) hsub))
    | with_reducible apply Changes.ite
    | ((fail_if_no_progress extract_lets a1 a2 a3))
    | dsimp only [a1]
    | dsimp only [a2]
    | dsimp only [a3]
    | ((with_reducible apply Changes.foldl); (case' h => intro a x ha; try dsimp only))

/-- What `State.sealNext` may change. -/
theorem State.sealNext_frame {ps : List Part} {s0 : State} (s : State) (hst : Changes ps s0 s) (hsub : [.emitted, .dump] ⊆ ps) :
    Changes ps s0 (State.sealNext s) := by
  unfold State.sealNext
  repeat' first
    | with_reducible assumption
    | ((with_reducible apply State.hubRecords_frame); (case hsub => exact List.Subset.trans (by decide) hsub))
    | ((with_reducible apply State.nameWave_frame); (case hsub => exact List.Subset.trans (by decide) hsub))
    | with_reducible apply Changes.ite
    | split

/-- What `State.soAdvance` may change. -/
theorem State.soAdvance_frame {ps : List Part} {s0 : State} (s : State) (hst : Changes ps s0 s) (hsub : [.emitted, .dump] ⊆ ps) :
    Changes ps s0 (State.soAdvance s) := by
  unfold State.soAdvance
  repeat' first
    | with_reducible assumption
    | ((with_reducible apply State.sealNext_frame); (case hsub => exact List.Subset.trans (by decide) hsub))
    | ((with_reducible apply State.soSettle_frame); (case hsub => exact List.Subset.trans (by decide) hsub))

/-- What `State.openTier` may change. -/
theorem State.openTier_frame {ps : List Part} {s0 : State} (s : State) (g : Image) (tier : Nat) (hst : Changes ps s0 s) (hsub : [.emitted, .dump, .backup, .flash, .logSeq, .log, .port] ⊆ ps) :
    Changes ps s0 (State.openTier s g tier) := by
  unfold State.openTier
  repeat' first
    | with_reducible assumption
    | ((with_reducible apply State.logged_frame); (case hsub => exact List.Subset.trans (by decide) hsub))
    | ((with_reducible apply State.modImage_frame); (case hsub => exact List.Subset.trans (by decide) hsub))
    | ((with_reducible apply State.modSo_frame); (case hsub => exact List.Subset.trans (by decide) hsub))
    | ((with_reducible apply State.soResult_frame); (case hsub => exact List.Subset.trans (by decide) hsub))
    | with_reducible apply Changes.ite

/-- What `State.overwrite` may change. -/
theorem State.overwrite_frame {ps : List Part} {s0 : State} (s : State) (image : Nat) (tiers : List Nat) (hst : Changes ps s0 s) (hsub : [.emitted, .dump, .backup, .flash, .logSeq, .log, .port] ⊆ ps) :
    Changes ps s0 (State.overwrite s image tiers) := by
  unfold State.overwrite
  repeat' first
    | with_reducible assumption
    | ((with_reducible apply State.logged_frame); (case hsub => exact List.Subset.trans (by decide) hsub))
    | ((with_reducible apply State.modSlot_frame); (case hsub => exact List.Subset.trans (by decide) hsub))
    | with_reducible apply Changes.ite
    | ((fail_if_no_progress extract_lets a1))
    | dsimp only [a1]
    | split

/-- What `State.takeHalves` may change. -/
theorem State.takeHalves_frame {ps : List Part} {s0 : State} (s : State) (image : Nat) (hst : Changes ps s0 s) (hsub : [.emitted, .dump, .backup, .flash, .logSeq, .log, .port] ⊆ ps) :
    Changes ps s0 (State.takeHalves s image) := by
  unfold State.takeHalves
  repeat' first
    | with_reducible assumption
    | ((with_reducible apply State.overwrite_frame); (case hsub => exact List.Subset.trans (by decide) hsub))
    | ((fail_if_no_progress extract_lets a1 a2); try (refine (have ha1 : Changes ps s0 a1 := ?_; ?_); rotate_left; clear_value a1))
    | dsimp only [a2]
    | (simp only [Changes.mk_eq_upd]; (with_reducible apply Changes.upd); (case e2 | e16 | e24 | e25 | e26 | e29 | e30 => exact Or.inl (hsub (by decide))); all_goals first | with_reducible exact Or.inr rfl | skip)

/-- What `State.beginTier` may change. -/
theorem State.beginTier_frame {ps : List Part} {s0 : State} (s : State) (tier : Nat) (hst : Changes ps s0 s) (hsub : [.emitted, .dump, .backup, .flash, .logSeq, .log, .port] ⊆ ps) :
    Changes ps s0 (State.beginTier s tier) := by
  unfold State.beginTier
  repeat' first
    | with_reducible assumption
    | ((with_reducible apply State.openTier_frame); (case hsub => exact List.Subset.trans (by decide) hsub))
    | ((with_reducible apply State.takeHalves_frame); (case hsub => exact List.Subset.trans (by decide) hsub))
    | with_reducible apply Changes.ite
    | dsimp only
    | split

/-- What `State.takeImageId` may change. -/
theorem State.takeImageId_frame {ps : List Part} {s0 : State} (s : State) (hst : Changes ps s0 s) (hsub : [.flash, .imageIds] ⊆ ps) :
    Changes ps s0 ((State.takeImageId s).1) := by
  unfold State.takeImageId
  repeat' first
    | with_reducible assumption
    | ((with_reducible apply State.persist_frame); (case hsub => exact List.Subset.trans (by decide) hsub))
    | with_reducible apply Changes.ite
    | (simp only [Changes.mk_eq_upd]; (with_reducible apply Changes.upd); (case e25 | e27 => exact Or.inl (hsub (by decide))); all_goals first | with_reducible exact Or.inr rfl | skip)

/-- What `State.soBegin` may change. -/
theorem State.soBegin_frame {ps : List Part} {s0 : State} (s : State) (wantRef : Bool) (tiers : Nat) (scope : BitVec 128) (trigger : Nat) (hst : Changes ps s0 s) (hsub : [.emitted, .units, .dump, .backup, .flash, .logSeq, .imageIds, .log, .port] ⊆ ps) :
    Changes ps s0 (State.soBegin s wantRef tiers scope trigger) := by
  unfold State.soBegin
  repeat' first
    | with_reducible assumption
    | ((with_reducible apply State.beginTier_frame); (case hsub => exact List.Subset.trans (by decide) hsub))
    | ((with_reducible apply State.emit_frame); (case hsub => exact List.Subset.trans (by decide) hsub))
    | ((with_reducible apply State.feedTier0_frame); (case hsub => exact List.Subset.trans (by decide) hsub))
    | ((with_reducible apply State.logged_frame); (case hsub => exact List.Subset.trans (by decide) hsub))
    | ((with_reducible apply State.overwrite_frame); (case hsub => exact List.Subset.trans (by decide) hsub))
    | ((with_reducible apply State.soSettle_frame); (case hsub => exact List.Subset.trans (by decide) hsub))
    | ((with_reducible apply State.takeImageId_frame); (case hsub => exact List.Subset.trans (by decide) hsub))
    | with_reducible apply Changes.ite
    | ((fail_if_no_progress extract_lets a1))
    | dsimp only [a1]
    | (simp only [Changes.mk_eq_upd]; (with_reducible apply Changes.upd); (case e2 | e13 | e16 | e24 | e25 | e26 | e27 | e29 | e30 => exact Or.inl (hsub (by decide))); all_goals first | with_reducible exact Or.inr rfl | skip)
    | ((with_reducible apply Changes.foldl); (case' h => intro a x ha; try dsimp only))
    | split

/-- What `State.modArea` may change. -/
theorem State.modArea_frame {ps : List Part} {s0 : State} (s : State) (ref : Bool) (f : Area → Area) (hst : Changes ps s0 s) (hsub : [.dump] ⊆ ps) :
    Changes ps s0 (State.modArea s ref f) := by
  unfold State.modArea
  repeat' first
    | with_reducible assumption
    | with_reducible apply Changes.ite
    | ((fail_if_no_progress extract_lets a1))
    | dsimp only [a1]
    | (simp only [Changes.mk_eq_upd]; (with_reducible apply Changes.upd); (case e16 => exact Or.inl (hsub (by decide))); all_goals first | with_reducible exact Or.inr rfl | skip)

/-- What `State.writeArea` may change. -/
theorem State.writeArea_frame {ps : List Part} {s0 : State} (s : State) (ref : Bool) (tier die off : Nat) (b : List Byte) (hst : Changes ps s0 s) (hsub : [.emitted] ⊆ ps) :
    Changes ps s0 (State.writeArea s ref tier die off b) := by
  unfold State.writeArea
  repeat' first
    | with_reducible assumption
    | ((with_reducible apply State.emit_frame); (case hsub => exact List.Subset.trans (by decide) hsub))

/-- What `State.tier0Copy` may change. -/
theorem State.tier0Copy_frame {ps : List Part} {s0 : State} (s : State) (hst : Changes ps s0 s) (hsub : [.emitted, .dump] ⊆ ps) :
    Changes ps s0 (State.tier0Copy s) := by
  unfold State.tier0Copy
  repeat' first
    | with_reducible assumption
    | ((with_reducible apply State.modArea_frame); (case hsub => exact List.Subset.trans (by decide) hsub))
    | ((with_reducible apply State.modImage_frame); (case hsub => exact List.Subset.trans (by decide) hsub))
    | ((with_reducible apply State.writeArea_frame); (case hsub => exact List.Subset.trans (by decide) hsub))
    | ((fail_if_no_progress extract_lets a1 a2))
    | dsimp only [a1]
    | dsimp only [a2]
    | split

/-- What `State.tier0End` may change. -/
theorem State.tier0End_frame {ps : List Part} {s0 : State} (s : State) (hst : Changes ps s0 s) (hsub : [.dump] ⊆ ps) :
    Changes ps s0 (State.tier0End s) := by
  unfold State.tier0End
  repeat' first
    | with_reducible assumption
    | ((with_reducible apply State.modImage_frame); (case hsub => exact List.Subset.trans (by decide) hsub))

/-- What `State.writeSeal` may change. -/
theorem State.writeSeal_frame {ps : List Part} {s0 : State} (s : State) (tier sum : Nat) (hst : Changes ps s0 s) (hsub : [.emitted, .dump] ⊆ ps) :
    Changes ps s0 (State.writeSeal s tier sum) := by
  unfold State.writeSeal
  repeat' first
    | with_reducible assumption
    | ((with_reducible apply State.modImage_frame); (case hsub => exact List.Subset.trans (by decide) hsub))
    | ((with_reducible apply State.modSo_frame); (case hsub => exact List.Subset.trans (by decide) hsub))
    | ((with_reducible apply State.soAdvance_frame); (case hsub => exact List.Subset.trans (by decide) hsub))
    | ((with_reducible apply State.tier0Copy_frame); (case hsub => exact List.Subset.trans (by decide) hsub))
    | ((with_reducible apply State.tier0End_frame); (case hsub => exact List.Subset.trans (by decide) hsub))
    | with_reducible apply Changes.ite

/-- What `State.writeHeaders` may change. -/
theorem State.writeHeaders_frame {ps : List Part} {s0 : State} (s : State) (g : Image) (tiers : Nat) (header : List Byte) (hst : Changes ps s0 s) (hsub : [.emitted] ⊆ ps) :
    Changes ps s0 (State.writeHeaders s g tiers header) := by
  unfold State.writeHeaders
  repeat' first
    | with_reducible assumption
    | ((with_reducible apply State.writeArea_frame); (case hsub => exact List.Subset.trans (by decide) hsub))
    | ((fail_if_no_progress extract_lets a1 a2 a3))
    | dsimp only [a1]
    | dsimp only [a2]
    | dsimp only [a3]
    | ((with_reducible apply Changes.foldl); (case' h => intro a x ha; try dsimp only))

/-- What `State.soClose` may change. -/
theorem State.soClose_frame {ps : List Part} {s0 : State} (s : State) (hst : Changes ps s0 s) (hsub : [.emitted, .dump, .backup, .flash, .logSeq, .log, .port] ⊆ ps) :
    Changes ps s0 (State.soClose s) := by
  unfold State.soClose
  repeat' first
    | with_reducible assumption
    | ((with_reducible apply State.logged_frame); (case hsub => exact List.Subset.trans (by decide) hsub))
    | ((with_reducible apply State.modArea_frame); (case hsub => exact List.Subset.trans (by decide) hsub))
    | ((with_reducible apply State.modSlot_frame); (case hsub => exact List.Subset.trans (by decide) hsub))
    | ((with_reducible apply State.told_frame); (case hsub => exact List.Subset.trans (by decide) hsub))
    | ((with_reducible apply State.urged_frame); (case hsub => exact List.Subset.trans (by decide) hsub))
    | ((with_reducible apply State.writeHeaders_frame); (case hsub => exact List.Subset.trans (by decide) hsub))
    | with_reducible apply Changes.ite
    | (simp only [Changes.mk_eq_upd]; (with_reducible apply Changes.upd); (case e2 | e16 | e24 | e25 | e26 | e29 | e30 => exact Or.inl (hsub (by decide))); all_goals first | with_reducible exact Or.inr rfl | skip)
    | dsimp only
    | split

/-- What `State.soLoseDie` may change. -/
theorem State.soLoseDie_frame {ps : List Part} {s0 : State} (s : State) (die : Nat) (hst : Changes ps s0 s) (hsub : [.emitted, .units, .dump] ⊆ ps) :
    Changes ps s0 (State.soLoseDie s die) := by
  unfold State.soLoseDie
  repeat' first
    | with_reducible assumption
    | ((with_reducible apply State.countUnreachable_frame); (case hsub => exact List.Subset.trans (by decide) hsub))
    | ((with_reducible apply State.ladlePut_frame); (case hsub => exact List.Subset.trans (by decide) hsub))
    | ((with_reducible apply State.modImage_frame); (case hsub => exact List.Subset.trans (by decide) hsub))
    | ((with_reducible apply State.modWork_frame); (case hsub => exact List.Subset.trans (by decide) hsub))
    | ((with_reducible apply State.ringDrop_frame); (case hsub => exact List.Subset.trans (by decide) hsub))
    | ((with_reducible apply State.soAdvance_frame); (case hsub => exact List.Subset.trans (by decide) hsub))
    | with_reducible apply Changes.ite
    | ((fail_if_no_progress extract_lets a1 a2); try (refine (have ha1 : Changes ps s0 a1 := ?_; ?_); rotate_left; clear_value a1); try (refine (have ha2 : Changes ps s0 a2 := ?_; ?_); rotate_left; clear_value a2))
    | ((with_reducible apply Changes.foldl); (case' h => intro a x ha; try dsimp only))
    | dsimp only
    | split

/-- What `State.soLoseCluster` may change. -/
theorem State.soLoseCluster_frame {ps : List Part} {s0 : State} (s : State) (c : Nat) (hst : Changes ps s0 s) (hsub : [.emitted, .freeCount, .units, .dump] ⊆ ps) :
    Changes ps s0 (State.soLoseCluster s c) := by
  unfold State.soLoseCluster
  repeat' first
    | with_reducible assumption
    | ((with_reducible apply State.endPart_frame); (case hsub => exact List.Subset.trans (by decide) hsub))
    | ((with_reducible apply State.feedDie_frame); (case hsub => exact List.Subset.trans (by decide) hsub))
    | ((with_reducible apply State.modSo_frame); (case hsub => exact List.Subset.trans (by decide) hsub))
    | with_reducible apply Changes.ite
    | ((with_reducible apply Changes.foldl); (case' h => intro a x ha; try dsimp only))

end Sys2Proof.Machine
end

