-- ==== Sys2Proof/Laws/FrameShakeout.lean ====
section
/-!
SUPPORT. Frames of the operations of Machine/Shakeout.lean: the parts of the state that each may change.
-/
namespace Sys2Proof.Machine

/-- What `State.cmdSoStart` may change. -/
theorem State.cmdSoStart_frame {ps : List Part} {s0 : State} (s : State) (hst : Changes ps s0 s) (hsub : [.emitted, .units, .dump, .backup, .flash, .logSeq, .imageIds, .log, .port] ⊆ ps) :
    Changes ps s0 ((State.cmdSoStart s).state) := by
  unfold State.cmdSoStart
  repeat' first
    | with_reducible assumption
    | ((with_reducible apply State.accept_frame); (case hsub => exact List.Subset.trans (by decide) hsub))
    | ((with_reducible apply State.refuse_frame); (case hsub => exact List.Subset.trans (by decide) hsub))
    | ((with_reducible apply State.soBegin_frame); (case hsub => exact List.Subset.trans (by decide) hsub))
    | split

/-- What `State.cmdSoStartRef` may change. -/
theorem State.cmdSoStartRef_frame {ps : List Part} {s0 : State} (s : State) (hst : Changes ps s0 s) (hsub : [.emitted, .units, .dump, .backup, .flash, .logSeq, .imageIds, .log, .port] ⊆ ps) :
    Changes ps s0 ((State.cmdSoStartRef s).state) := by
  unfold State.cmdSoStartRef
  repeat' first
    | with_reducible assumption
    | ((with_reducible apply State.accept_frame); (case hsub => exact List.Subset.trans (by decide) hsub))
    | ((with_reducible apply State.refuse_frame); (case hsub => exact List.Subset.trans (by decide) hsub))
    | ((with_reducible apply State.soBegin_frame); (case hsub => exact List.Subset.trans (by decide) hsub))
    | split

/-- What `State.soAbort` may change. -/
theorem State.soAbort_frame {ps : List Part} {s0 : State} (s : State) (hst : Changes ps s0 s) (hsub : [.dump] ⊆ ps) :
    Changes ps s0 (State.soAbort s) := by
  unfold State.soAbort
  repeat' first
    | with_reducible assumption
    | ((with_reducible apply State.modImage_frame); (case hsub => exact List.Subset.trans (by decide) hsub))
    | ((with_reducible apply State.modSo_frame); (case hsub => exact List.Subset.trans (by decide) hsub))
    | ((with_reducible apply State.soResult_frame); (case hsub => exact List.Subset.trans (by decide) hsub))
    | ((with_reducible apply State.soSettle_frame); (case hsub => exact List.Subset.trans (by decide) hsub))
    | dsimp only
    | split

/-- What `State.cmdSoAbort` may change. -/
theorem State.cmdSoAbort_frame {ps : List Part} {s0 : State} (s : State) (hst : Changes ps s0 s) (hsub : [.dump] ⊆ ps) :
    Changes ps s0 ((State.cmdSoAbort s).state) := by
  unfold State.cmdSoAbort
  repeat' first
    | with_reducible assumption
    | ((with_reducible apply State.accept_frame); (case hsub => exact List.Subset.trans (by decide) hsub))
    | ((with_reducible apply State.refuse_frame); (case hsub => exact List.Subset.trans (by decide) hsub))
    | ((with_reducible apply State.soAbort_frame); (case hsub => exact List.Subset.trans (by decide) hsub))
    | split

/-- What `State.loseReserve` may change. -/
theorem State.loseReserve_frame {ps : List Part} {s0 : State} (s : State) (stack : Bool) (hst : Changes ps s0 s) (hsub : [.dump] ⊆ ps) :
    Changes ps s0 (State.loseReserve s stack) := by
  unfold State.loseReserve
  repeat' first
    | with_reducible assumption
    | ((with_reducible apply State.modSlot_frame); (case hsub => exact List.Subset.trans (by decide) hsub))
    | ((with_reducible apply Changes.foldl); (case' h => intro a x ha; try dsimp only))

/-- What `State.addFettle` may change. -/
theorem State.addFettle_frame {ps : List Part} {s0 : State} (s : State) (l : List FettleJob) (hst : Changes ps s0 s) (hsub : [.dump] ⊆ ps) :
    Changes ps s0 (State.addFettle s l) := by
  unfold State.addFettle
  repeat' first
    | with_reducible assumption
    | ((fail_if_no_progress extract_lets a1))
    | dsimp only [a1]
    | (simp only [Changes.mk_eq_upd]; (with_reducible apply Changes.upd); (case e16 => exact Or.inl (hsub (by decide))); all_goals first | with_reducible exact Or.inr rfl | skip)

/-- What `State.cmdSoFettleReserve` may change. -/
theorem State.cmdSoFettleReserve_frame {ps : List Part} {s0 : State} (s : State) (hst : Changes ps s0 s) (hsub : [.dump] ⊆ ps) :
    Changes ps s0 ((State.cmdSoFettleReserve s).state) := by
  unfold State.cmdSoFettleReserve
  repeat' first
    | with_reducible assumption
    | ((with_reducible apply State.accept_frame); (case hsub => exact List.Subset.trans (by decide) hsub))
    | ((with_reducible apply State.addFettle_frame); (case hsub => exact List.Subset.trans (by decide) hsub))
    | ((with_reducible apply State.loseReserve_frame); (case hsub => exact List.Subset.trans (by decide) hsub))
    | ((with_reducible apply State.refuse_frame); (case hsub => exact List.Subset.trans (by decide) hsub))
    | ((fail_if_no_progress extract_lets a1 a2); try (refine (have ha1 : Changes ps s0 a1 := ?_; ?_); rotate_left; clear_value a1))
    | dsimp only [a2]
    | (simp only [Changes.mk_eq_upd]; (with_reducible apply Changes.upd); (case e16 => exact Or.inl (hsub (by decide))); all_goals first | with_reducible exact Or.inr rfl | skip)
    | split

/-- What `State.cmdSoAck` may change. -/
theorem State.cmdSoAck_frame {ps : List Part} {s0 : State} (s : State) (image : Nat) (hst : Changes ps s0 s) (hsub : [.dump] ⊆ ps) :
    Changes ps s0 ((State.cmdSoAck s image).state) := by
  unfold State.cmdSoAck
  repeat' first
    | with_reducible assumption
    | ((with_reducible apply State.accept_frame); (case hsub => exact List.Subset.trans (by decide) hsub))
    | ((with_reducible apply State.addFettle_frame); (case hsub => exact List.Subset.trans (by decide) hsub))
    | ((with_reducible apply State.refuse_frame); (case hsub => exact List.Subset.trans (by decide) hsub))
    | ((fail_if_no_progress extract_lets a1 a2 a3 a4))
    | dsimp only [a1]
    | dsimp only [a2]
    | dsimp only [a3]
    | dsimp only [a4]
    | (simp only [Changes.mk_eq_upd]; (with_reducible apply Changes.upd); (case e16 => exact Or.inl (hsub (by decide))); all_goals first | with_reducible exact Or.inr rfl | skip)
    | split

/-- What `State.reserveWrite` may change. -/
theorem State.reserveWrite_frame {ps : List Part} {s0 : State} (s : State) (r : ObjRow) (sub : Nat) (b : List Byte) (hst : Changes ps s0 s) (hsub : [.emitted, .tb, .pod, .frame, .sched, .qu, .dump, .hang, .fm, .adm, .bar, .trace, .power, .rst, .backup, .flash, .logSeq, .log, .port, .fw, .lc] ⊆ ps) :
    Changes ps s0 ((State.reserveWrite s r sub b).state) := by
  unfold State.reserveWrite
  repeat' first
    | with_reducible assumption
    | ((with_reducible apply State.accept_frame); (case hsub => exact List.Subset.trans (by decide) hsub))
    | ((with_reducible apply State.objPut_frame); (case hsub => exact List.Subset.trans (by decide) hsub))
    | ((with_reducible apply State.objWrite_frame); (case hsub => exact List.Subset.trans (by decide) hsub))
    | ((with_reducible apply State.refuse_frame); (case hsub => exact List.Subset.trans (by decide) hsub))
    | ((fail_if_no_progress extract_lets a1 a2 a3); try (refine (have ha1 : Changes ps s0 a1 := ?_; ?_); rotate_left; clear_value a1); try (refine (have ha2 : Changes ps s0 a2 := ?_; ?_); rotate_left; clear_value a2))
    | dsimp only [a3]
    | (simp only [Changes.mk_eq_upd]; (with_reducible apply Changes.upd); (case e2 | e7 | e10 | e11 | e12 | e14 | e16 | e17 | e18 | e19 | e20 | e21 | e22 | e23 | e24 | e25 | e26 | e29 | e30 | e31 | e32 => exact Or.inl (hsub (by decide))); all_goals first | with_reducible exact Or.inr rfl | skip)
    | split

/-- What `State.bulkIn` may change. -/
theorem State.bulkIn_frame {ps : List Part} {s0 : State} (s : State) (die type uid off : Nat) (hst : Changes ps s0 s) (hsub : [.dump] ⊆ ps) :
    Changes ps s0 (State.bulkIn s die type uid off) := by
  unfold State.bulkIn
  repeat' first
    | with_reducible assumption
    | ((with_reducible apply State.modWork_frame); (case hsub => exact List.Subset.trans (by decide) hsub))

/-- What `State.ringSlot` may change. -/
theorem State.ringSlot_frame {ps : List Part} {s0 : State} (s : State) (die type uid : Nat) (hst : Changes ps s0 s) (hsub : [.dump] ⊆ ps) :
    Changes ps s0 (State.ringSlot s die type uid) := by
  unfold State.ringSlot
  repeat' first
    | with_reducible assumption
    | ((with_reducible apply State.modWork_frame); (case hsub => exact List.Subset.trans (by decide) hsub))
    | with_reducible apply Changes.ite

/-- What `State.bulkFailed` may change. -/
theorem State.bulkFailed_frame {ps : List Part} {s0 : State} (s : State) (die type uid off : Nat) (hst : Changes ps s0 s) (hsub : [.emitted, .freeCount, .units, .dump] ⊆ ps) :
    Changes ps s0 (State.bulkFailed s die type uid off) := by
  unfold State.bulkFailed
  repeat' first
    | with_reducible assumption
    | ((with_reducible apply State.fallbackLost_frame); (case hsub => exact List.Subset.trans (by decide) hsub))
    | ((with_reducible apply State.ringRecord_frame); (case hsub => exact List.Subset.trans (by decide) hsub))
    | with_reducible apply Changes.ite

/-- What `State.fallbackEnded` may change. -/
theorem State.fallbackEnded_frame {ps : List Part} {s0 : State} (s : State) (die key off status : Nat) (data : List Byte) (lines : List Nat) (hst : Changes ps s0 s) (hsub : [.emitted, .freeCount, .units, .dump] ⊆ ps) :
    Changes ps s0 (State.fallbackEnded s die key off status data lines) := by
  unfold State.fallbackEnded
  repeat' first
    | with_reducible assumption
    | ((with_reducible apply State.endPart_frame); (case hsub => exact List.Subset.trans (by decide) hsub))
    | ((with_reducible apply State.failTap_frame); (case hsub => exact List.Subset.trans (by decide) hsub))
    | ((with_reducible apply State.feedDie_frame); (case hsub => exact List.Subset.trans (by decide) hsub))
    | ((with_reducible apply State.rangeRead_frame); (case hsub => exact List.Subset.trans (by decide) hsub))
    | ((with_reducible apply State.ringRecord_frame); (case hsub => exact List.Subset.trans (by decide) hsub))
    | with_reducible apply Changes.ite
    | ((fail_if_no_progress extract_lets a1 a2 a3 a4 a5))
    | dsimp only [a1]
    | dsimp only [a2]
    | dsimp only [a3]
    | dsimp only [a4]
    | dsimp only [a5]
    | split

/-- What `State.recordStored` may change. -/
theorem State.recordStored_frame {ps : List Part} {s0 : State} (s : State) (die : Nat) (r : Rec) (sum : Nat) (hst : Changes ps s0 s) (hsub : [.dump] ⊆ ps) :
    Changes ps s0 (State.recordStored s die r sum) := by
  unfold State.recordStored
  repeat' first
    | with_reducible assumption
    | ((with_reducible apply State.ladlePut_frame); (case hsub => exact List.Subset.trans (by decide) hsub))
    | ((with_reducible apply State.modImage_frame); (case hsub => exact List.Subset.trans (by decide) hsub))
    | ((with_reducible apply State.modWork_frame); (case hsub => exact List.Subset.trans (by decide) hsub))
    | with_reducible apply Changes.ite
    | ((fail_if_no_progress extract_lets a1 a2 a3); try (refine (have ha1 : Changes ps s0 a1 := ?_; ?_); rotate_left; clear_value a1); try (refine (have ha2 : Changes ps s0 a2 := ?_; ?_); rotate_left; clear_value a2))
    | dsimp only [a3]
    | (simp only [Changes.mk_eq_upd]; (with_reducible apply Changes.upd); (case e16 => exact Or.inl (hsub (by decide))); all_goals first | with_reducible exact Or.inr rfl | skip)

/-- What `State.writeEnded` may change. -/
theorem State.writeEnded_frame {ps : List Part} {s0 : State} (s : State) (die uid type sub : Nat) (hst : Changes ps s0 s) (hsub : [.dump] ⊆ ps) :
    Changes ps s0 (State.writeEnded s die uid type sub) := by
  unfold State.writeEnded
  repeat' first
    | with_reducible assumption
    | ((with_reducible apply State.modWork_frame); (case hsub => exact List.Subset.trans (by decide) hsub))

/-- What `State.worsen` may change. -/
theorem State.worsen_frame {ps : List Part} {s0 : State} (s : State) (tier die state : Nat) (hst : Changes ps s0 s) (hsub : [.dump] ⊆ ps) :
    Changes ps s0 (State.worsen s tier die state) := by
  unfold State.worsen
  repeat' first
    | with_reducible assumption
    | ((with_reducible apply State.modImage_frame); (case hsub => exact List.Subset.trans (by decide) hsub))

/-- What `State.ladleStored` may change. -/
theorem State.ladleStored_frame {ps : List Part} {s0 : State} (s : State) (die : Nat) (r : Rec) (sum : Nat) (hst : Changes ps s0 s) (hsub : [.dump] ⊆ ps) :
    Changes ps s0 (State.ladleStored s die r sum) := by
  unfold State.ladleStored
  repeat' first
    | with_reducible assumption
    | ((with_reducible apply State.recordStored_frame); (case hsub => exact List.Subset.trans (by decide) hsub))
    | ((with_reducible apply State.writeEnded_frame); (case hsub => exact List.Subset.trans (by decide) hsub))

/-- What `State.reserveStored` may change. -/
theorem State.reserveStored_frame {ps : List Part} {s0 : State} (s : State) (die : Nat) (r : Rec) (sum : Nat) (own mirror : Bool) (hst : Changes ps s0 s) (hsub : [.emitted, .dump, .backup, .flash, .logSeq, .log, .port] ⊆ ps) :
    Changes ps s0 (State.reserveStored s die r sum own mirror) := by
  unfold State.reserveStored
  repeat' first
    | with_reducible assumption
    | ((with_reducible apply State.logged_frame); (case hsub => exact List.Subset.trans (by decide) hsub))
    | ((with_reducible apply State.modArea_frame); (case hsub => exact List.Subset.trans (by decide) hsub))
    | ((with_reducible apply State.modImage_frame); (case hsub => exact List.Subset.trans (by decide) hsub))
    | ((with_reducible apply State.recordStored_frame); (case hsub => exact List.Subset.trans (by decide) hsub))
    | ((with_reducible apply State.soResult_frame); (case hsub => exact List.Subset.trans (by decide) hsub))
    | ((with_reducible apply State.worsen_frame); (case hsub => exact List.Subset.trans (by decide) hsub))
    | ((with_reducible apply State.writeEnded_frame); (case hsub => exact List.Subset.trans (by decide) hsub))
    | with_reducible apply Changes.ite
    | ((fail_if_no_progress extract_lets a1))
    | dsimp only [a1]
    | (simp only [Changes.mk_eq_upd]; (with_reducible apply Changes.upd); (case e2 | e16 | e24 | e25 | e26 | e29 | e30 => exact Or.inl (hsub (by decide))); all_goals first | with_reducible exact Or.inr rfl | skip)

/-- What `State.endSection` may change. -/
theorem State.endSection_frame {ps : List Part} {s0 : State} (s : State) (g : Image) (die tier : Nat) (hst : Changes ps s0 s) (hsub : [.emitted, .dump] ⊆ ps) :
    Changes ps s0 (State.endSection s g die tier) := by
  unfold State.endSection
  repeat' first
    | with_reducible assumption
    | ((with_reducible apply State.modArea_frame); (case hsub => exact List.Subset.trans (by decide) hsub))
    | ((with_reducible apply State.modImage_frame); (case hsub => exact List.Subset.trans (by decide) hsub))
    | ((with_reducible apply State.modWork_frame); (case hsub => exact List.Subset.trans (by decide) hsub))
    | ((with_reducible apply State.writeCopies_frame); (case hsub => exact List.Subset.trans (by decide) hsub))
    | with_reducible apply Changes.ite
    | ((fail_if_no_progress extract_lets a1))
    | dsimp only [a1]
    | (simp only [Changes.mk_eq_upd]; (with_reducible apply Changes.upd); (case e2 | e16 => exact Or.inl (hsub (by decide))); all_goals first | with_reducible exact Or.inr rfl | skip)

end Sys2Proof.Machine
end

