-- ==== Sys2Proof/Laws/FrameBarOps.lean ====
section
/-!
SUPPORT. Frames of the operations of Machine/BarOps.lean: the parts of the state that each may change.
-/
namespace Sys2Proof.Machine

/-- What `State.setBar` may change. -/
theorem State.setBar_frame {ps : List Part} {s0 : State} (s : State) (bar v : Nat) (hst : Changes ps s0 s) (hsub : [.bar] ⊆ ps) :
    Changes ps s0 (State.setBar s bar v) := by
  unfold State.setBar
  repeat' first
    | with_reducible assumption
    | with_reducible apply Changes.ite
    | ((fail_if_no_progress extract_lets a1))
    | dsimp only [a1]
    | (simp only [Changes.mk_eq_upd]; (with_reducible apply Changes.upd); (case e20 => exact Or.inl (hsub (by decide))); all_goals first | with_reducible exact Or.inr rfl | skip)

/-- What `State.emptyBar` may change. -/
theorem State.emptyBar_frame {ps : List Part} {s0 : State} (s : State) (bar : Nat) (hst : Changes ps s0 s) (hsub : [.bar] ⊆ ps) :
    Changes ps s0 (State.emptyBar s bar) := by
  unfold State.emptyBar
  repeat' first
    | with_reducible assumption
    | ((fail_if_no_progress extract_lets a1))
    | dsimp only [a1]
    | (simp only [Changes.mk_eq_upd]; (with_reducible apply Changes.upd); (case e20 => exact Or.inl (hsub (by decide))); all_goals first | with_reducible exact Or.inr rfl | skip)

/-- What `State.modVisit` may change. -/
theorem State.modVisit_frame {ps : List Part} {s0 : State} (s : State) (k : Nat) (f : EngineVisit → EngineVisit) (hst : Changes ps s0 s) (hsub : [.bar] ⊆ ps) :
    Changes ps s0 (State.modVisit s k f) := by
  unfold State.modVisit
  repeat' first
    | with_reducible assumption
    | ((fail_if_no_progress extract_lets a1))
    | dsimp only [a1]
    | (simp only [Changes.mk_eq_upd]; (with_reducible apply Changes.upd); (case e20 => exact Or.inl (hsub (by decide))); all_goals first | with_reducible exact Or.inr rfl | skip)

/-- What `State.endRound` may change. -/
theorem State.endRound_frame {ps : List Part} {s0 : State} (s : State) (hst : Changes ps s0 s) (hsub : [.bar] ⊆ ps) :
    Changes ps s0 (State.endRound s) := by
  unfold State.endRound
  repeat' first
    | with_reducible assumption
    | ((fail_if_no_progress extract_lets a1 a2))
    | dsimp only [a1]
    | dsimp only [a2]
    | (simp only [Changes.mk_eq_upd]; (with_reducible apply Changes.upd); (case e20 => exact Or.inl (hsub (by decide))); all_goals first | with_reducible exact Or.inr rfl | skip)

/-- What `State.issueOrder` may change. -/
theorem State.issueOrder_frame {ps : List Part} {s0 : State} (s : State) (bar slot uid e : Nat) (probe : Option Nat) (hst : Changes ps s0 s) (hsub : [.emitted, .bar] ⊆ ps) :
    Changes ps s0 (State.issueOrder s bar slot uid e probe) := by
  unfold State.issueOrder
  repeat' first
    | with_reducible assumption
    | ((with_reducible apply State.emit_frame); (case hsub => exact List.Subset.trans (by decide) hsub))
    | ((with_reducible apply State.modVisit_frame); (case hsub => exact List.Subset.trans (by decide) hsub))
    | with_reducible apply Changes.ite
    | ((fail_if_no_progress extract_lets a1))
    | dsimp only [a1]
    | (simp only [Changes.mk_eq_upd]; (with_reducible apply Changes.upd); (case e2 | e20 => exact Or.inl (hsub (by decide))); all_goals first | with_reducible exact Or.inr rfl | skip)

/-- What `State.issueFirst` may change. -/
theorem State.issueFirst_frame {ps : List Part} {s0 : State}  (n0 : Nat) (n1 : State) (hst : Changes ps s0 n1) (hsub : [.emitted, .bar] ⊆ ps) :
    Changes ps s0 (State.issueFirst n0 n1) := by
  induction n0 generalizing n1 with
  | zero => exact hst
  | succ n ih =>
  rw [State.issueFirst]
  repeat' first
    | with_reducible assumption
    | ((with_reducible apply State.issueOrder_frame); (case hsub => exact List.Subset.trans (by decide) hsub))
    | with_reducible apply ih
    | ((fail_if_no_progress extract_lets a1))
    | dsimp only [a1]
    | (simp only [Changes.mk_eq_upd]; (with_reducible apply Changes.upd); (case e2 | e20 => exact Or.inl (hsub (by decide))); all_goals first | with_reducible exact Or.inr rfl | skip)
    | split

/-- What `State.feedSweep` may change. -/
theorem State.feedSweep_frame {ps : List Part} {s0 : State}  (n0 : Nat) (n1 : State) (hst : Changes ps s0 n1) (hsub : [.emitted, .bar] ⊆ ps) :
    Changes ps s0 (State.feedSweep n0 n1) := by
  induction n0 generalizing n1 with
  | zero => exact hst
  | succ n ih =>
  rw [State.feedSweep]
  repeat' first
    | with_reducible assumption
    | ((with_reducible apply State.issueOrder_frame); (case hsub => exact List.Subset.trans (by decide) hsub))
    | with_reducible apply ih
    | with_reducible apply Changes.ite
    | ((fail_if_no_progress extract_lets a1))
    | dsimp only [a1]
    | (simp only [Changes.mk_eq_upd]; (with_reducible apply Changes.upd); (case e2 | e20 => exact Or.inl (hsub (by decide))); all_goals first | with_reducible exact Or.inr rfl | skip)
    | split

/-- What `State.issueNext` may change. -/
theorem State.issueNext_frame {ps : List Part} {s0 : State}  (n0 : Nat) (n1 : Nat) (n2 : State) (hst : Changes ps s0 n2) (hsub : [.emitted, .bar] ⊆ ps) :
    Changes ps s0 (State.issueNext n0 n1 n2) := by
  induction n0 generalizing n1 n2 with
  | zero => cases n1 <;> exact hst
  | succ n ih =>
  cases n1 with
  | zero => exact hst
  | succ k =>
  rw [State.issueNext]
  repeat' first
    | with_reducible assumption
    | ((with_reducible apply State.endRound_frame); (case hsub => exact List.Subset.trans (by decide) hsub))
    | ((with_reducible apply State.issueOrder_frame); (case hsub => exact List.Subset.trans (by decide) hsub))
    | with_reducible apply ih
    | with_reducible apply Changes.ite
    | ((fail_if_no_progress extract_lets a1 a2))
    | dsimp only [a1]
    | dsimp only [a2]
    | (simp only [Changes.mk_eq_upd]; (with_reducible apply Changes.upd); (case e2 | e20 => exact Or.inl (hsub (by decide))); all_goals first | with_reducible exact Or.inr rfl | skip)
    | split

/-- What `State.nowCompared` may change. -/
theorem State.nowCompared_frame {ps : List Part} {s0 : State} (s : State) (o : BarOrder) (hst : Changes ps s0 s) (hsub : [.bar] ⊆ ps) :
    Changes ps s0 (State.nowCompared s o) := by
  unfold State.nowCompared
  repeat' first
    | with_reducible assumption
    | ((with_reducible apply State.modVisit_frame); (case hsub => exact List.Subset.trans (by decide) hsub))
    | with_reducible apply Changes.ite
    | ((fail_if_no_progress extract_lets a1))
    | dsimp only [a1]
    | (simp only [Changes.mk_eq_upd]; (with_reducible apply Changes.upd); (case e20 => exact Or.inl (hsub (by decide))); all_goals first | with_reducible exact Or.inr rfl | skip)

/-- What `State.notCompared` may change. -/
theorem State.notCompared_frame {ps : List Part} {s0 : State} (s : State) (o : BarOrder) (status : Nat) (hst : Changes ps s0 s) (hsub : [.bar] ⊆ ps) :
    Changes ps s0 (State.notCompared s o status) := by
  unfold State.notCompared
  repeat' first
    | with_reducible assumption
    | ((with_reducible apply State.modVisit_frame); (case hsub => exact List.Subset.trans (by decide) hsub))
    | with_reducible apply Changes.ite
    | ((fail_if_no_progress extract_lets a1))
    | dsimp only [a1]
    | (simp only [Changes.mk_eq_upd]; (with_reducible apply Changes.upd); (case e20 => exact Or.inl (hsub (by decide))); all_goals first | with_reducible exact Or.inr rfl | skip)

/-- What `State.dropOrder` may change. -/
theorem State.dropOrder_frame {ps : List Part} {s0 : State} (s : State) (bar slot : Nat) (hst : Changes ps s0 s) (hsub : [.bar] ⊆ ps) :
    Changes ps s0 (State.dropOrder s bar slot) := by
  unfold State.dropOrder
  repeat' first
    | with_reducible assumption
    | ((fail_if_no_progress extract_lets a1))
    | dsimp only [a1]
    | (simp only [Changes.mk_eq_upd]; (with_reducible apply Changes.upd); (case e20 => exact Or.inl (hsub (by decide))); all_goals first | with_reducible exact Or.inr rfl | skip)

/-- What `State.setQuarantine` may change. -/
theorem State.setQuarantine_frame {ps : List Part} {s0 : State} (s : State) (k : Nat) (b : Bool) (hst : Changes ps s0 s) (hsub : [.bar, .flash] ⊆ ps) :
    Changes ps s0 (State.setQuarantine s k b) := by
  unfold State.setQuarantine
  repeat' first
    | with_reducible assumption
    | ((with_reducible apply State.persist_frame); (case hsub => exact List.Subset.trans (by decide) hsub))
    | ((fail_if_no_progress extract_lets a1))
    | dsimp only [a1]
    | (simp only [Changes.mk_eq_upd]; (with_reducible apply Changes.upd); (case e20 | e25 => exact Or.inl (hsub (by decide))); all_goals first | with_reducible exact Or.inr rfl | skip)

/-- What `State.quarantineEngine` may change. -/
theorem State.quarantineEngine_frame {ps : List Part} {s0 : State} (s : State) (uid e : Nat) (hst : Changes ps s0 s) (hsub : [.emitted, .topo, .bar, .backup, .flash, .logSeq, .log, .port] ⊆ ps) :
    Changes ps s0 ((State.quarantineEngine s uid e).1) := by
  unfold State.quarantineEngine
  repeat' first
    | with_reducible assumption
    | ((with_reducible apply State.coreFailed_frame); (case hsub => exact List.Subset.trans (by decide) hsub))
    | ((with_reducible apply State.setQuarantine_frame); (case hsub => exact List.Subset.trans (by decide) hsub))
    | ((with_reducible apply State.urged_frame); (case hsub => exact List.Subset.trans (by decide) hsub))
    | ((fail_if_no_progress extract_lets a1 a2 a3 a4 a5))
    | dsimp only [a1]
    | dsimp only [a2]
    | dsimp only [a3]
    | dsimp only [a4]
    | dsimp only [a5]
    | (simp only [Changes.mk_eq_upd]; (with_reducible apply Changes.upd); (case e2 | e5 | e20 | e24 | e25 | e26 | e29 | e30 => exact Or.inl (hsub (by decide))); all_goals first | with_reducible exact Or.inr rfl | skip)
    | split

/-- What `State.storeEvent` may change. -/
theorem State.storeEvent_frame {ps : List Part} {s0 : State} (s : State) (e : BarEvent) (hst : Changes ps s0 s) (hsub : [.emitted, .bar, .backup, .flash, .logSeq, .eventSeqs, .log, .port] ⊆ ps) :
    Changes ps s0 (State.storeEvent s e) := by
  unfold State.storeEvent
  repeat' first
    | with_reducible assumption
    | ((with_reducible apply State.logged_frame); (case hsub => exact List.Subset.trans (by decide) hsub))
    | ((with_reducible apply State.note_frame); (case hsub => exact List.Subset.trans (by decide) hsub))
    | ((with_reducible apply State.persist_frame); (case hsub => exact List.Subset.trans (by decide) hsub))
    | with_reducible apply Changes.ite
    | ((fail_if_no_progress extract_lets a1 a2))
    | dsimp only [a1]
    | dsimp only [a2]
    | (simp only [Changes.mk_eq_upd]; (with_reducible apply Changes.upd); (case e2 | e20 | e24 | e25 | e26 | e28 | e29 | e30 => exact Or.inl (hsub (by decide))); all_goals first | with_reducible exact Or.inr rfl | skip)
    | split

/-- What `State.addEvent` may change. -/
theorem State.addEvent_frame {ps : List Part} {s0 : State} (s : State) (e : BarEvent) (hst : Changes ps s0 s) (hsub : [.emitted, .bar, .backup, .flash, .logSeq, .eventSeqs, .log, .port] ⊆ ps) :
    Changes ps s0 (State.addEvent s e) := by
  unfold State.addEvent
  repeat' first
    | with_reducible assumption
    | ((with_reducible apply State.storeEvent_frame); (case hsub => exact List.Subset.trans (by decide) hsub))
    | with_reducible apply Changes.ite
    | ((fail_if_no_progress extract_lets a1))
    | dsimp only [a1]
    | (simp only [Changes.mk_eq_upd]; (with_reducible apply Changes.upd); (case e2 | e20 | e24 | e25 | e26 | e28 | e29 | e30 => exact Or.inl (hsub (by decide))); all_goals first | with_reducible exact Or.inr rfl | skip)

/-- What `State.drainEvents` may change. -/
theorem State.drainEvents_frame {ps : List Part} {s0 : State} (s : State) (n0 : Nat) (hst : Changes ps s0 s) (hsub : [.emitted, .bar, .backup, .flash, .logSeq, .eventSeqs, .log, .port] ⊆ ps) :
    Changes ps s0 (State.drainEvents s n0) := by
  induction n0 generalizing s with
  | zero => exact hst
  | succ n ih =>
  rw [State.drainEvents]
  repeat' first
    | with_reducible assumption
    | ((with_reducible apply State.storeEvent_frame); (case hsub => exact List.Subset.trans (by decide) hsub))
    | with_reducible apply ih
    | with_reducible apply Changes.ite
    | ((fail_if_no_progress extract_lets a1))
    | dsimp only [a1]
    | (simp only [Changes.mk_eq_upd]; (with_reducible apply Changes.upd); (case e2 | e20 | e24 | e25 | e26 | e28 | e29 | e30 => exact Or.inl (hsub (by decide))); all_goals first | with_reducible exact Or.inr rfl | skip)
    | split

/-- What `State.culpritEngine` may change. -/
theorem State.culpritEngine_frame {ps : List Part} {s0 : State} (s : State) (uid e : Nat) (hst : Changes ps s0 s) (hsub : [.hang] ⊆ ps) :
    Changes ps s0 (State.culpritEngine s uid e) := by
  unfold State.culpritEngine
  repeat' first
    | with_reducible assumption
    | with_reducible apply Changes.ite
    | ((fail_if_no_progress extract_lets a1))
    | dsimp only [a1]
    | (simp only [Changes.mk_eq_upd]; (with_reducible apply Changes.upd); (case e17 => exact Or.inl (hsub (by decide))); all_goals first | with_reducible exact Or.inr rfl | skip)

/-- What `State.decideMismatch` may change. -/
theorem State.decideMismatch_frame {ps : List Part} {s0 : State} (s : State) (r : Recheck) (second : List Nat) (hst : Changes ps s0 s) (hsub : [.emitted, .topo, .hang, .bar, .backup, .flash, .logSeq, .eventSeqs, .log, .port] ⊆ ps) :
    Changes ps s0 (State.decideMismatch s r second) := by
  unfold State.decideMismatch
  repeat' first
    | with_reducible assumption
    | ((with_reducible apply State.addEvent_frame); (case hsub => exact List.Subset.trans (by decide) hsub))
    | ((with_reducible apply State.culpritEngine_frame); (case hsub => exact List.Subset.trans (by decide) hsub))
    | ((with_reducible apply State.quarantineEngine_frame); (case hsub => exact List.Subset.trans (by decide) hsub))
    | ((with_reducible apply State.setBar_frame); (case hsub => exact List.Subset.trans (by decide) hsub))
    | with_reducible apply Changes.ite
    | ((fail_if_no_progress extract_lets a1 a2 a3 a4); try (refine (have ha1 : Changes ps s0 a1 := ?_; ?_); rotate_left; clear_value a1))
    | dsimp only [a2]
    | dsimp only [a3]
    | dsimp only [a4]
    | (simp only [Changes.mk_eq_upd]; (with_reducible apply Changes.upd); (case e2 | e5 | e17 | e20 | e24 | e25 | e26 | e28 | e29 | e30 => exact Or.inl (hsub (by decide))); all_goals first | with_reducible exact Or.inr rfl | skip)

/-- What `State.decideFault` may change. -/
theorem State.decideFault_frame {ps : List Part} {s0 : State} (s : State) (r : Recheck) (hst : Changes ps s0 s) (hsub : [.emitted, .freeCount, .bar, .backup, .flash, .logSeq, .eventSeqs, .log, .port] ⊆ ps) :
    Changes ps s0 (State.decideFault s r) := by
  unfold State.decideFault
  repeat' first
    | with_reducible assumption
    | ((with_reducible apply State.addEvent_frame); (case hsub => exact List.Subset.trans (by decide) hsub))
    | ((with_reducible apply State.drawn_frame); (case hsub => exact List.Subset.trans (by decide) hsub))

/-- What `State.startRecheck` may change. -/
theorem State.startRecheck_frame {ps : List Part} {s0 : State} (s : State) (o : BarOrder) (c : Capture) (first : List Nat) (hst : Changes ps s0 s) (hsub : [.bar] ⊆ ps) :
    Changes ps s0 (State.startRecheck s o c first) := by
  unfold State.startRecheck
  repeat' first
    | with_reducible assumption
    | ((with_reducible apply State.setBar_frame); (case hsub => exact List.Subset.trans (by decide) hsub))
    | with_reducible apply Changes.ite
    | ((fail_if_no_progress extract_lets a1))
    | dsimp only [a1]
    | (simp only [Changes.mk_eq_upd]; (with_reducible apply Changes.upd); (case e20 => exact Or.inl (hsub (by decide))); all_goals first | with_reducible exact Or.inr rfl | skip)

/-- What `State.compareTile` may change. -/
theorem State.compareTile_frame {ps : List Part} {s0 : State} (s : State) (o : BarOrder) (c : Capture) (upset : List (Nat × Nat)) (hst : Changes ps s0 s) (hsub : [.bar] ⊆ ps) :
    Changes ps s0 (State.compareTile s o c upset) := by
  unfold State.compareTile
  repeat' first
    | with_reducible assumption
    | ((with_reducible apply State.nowCompared_frame); (case hsub => exact List.Subset.trans (by decide) hsub))
    | ((with_reducible apply State.startRecheck_frame); (case hsub => exact List.Subset.trans (by decide) hsub))
    | with_reducible apply Changes.ite
    | ((fail_if_no_progress extract_lets a1))
    | dsimp only [a1]
    | (simp only [Changes.mk_eq_upd]; (with_reducible apply Changes.upd); (case e20 => exact Or.inl (hsub (by decide))); all_goals first | with_reducible exact Or.inr rfl | skip)

/-- What `State.sendOp` may change. -/
theorem State.sendOp_frame {ps : List Part} {s0 : State} (s : State) (r : ProbeRun) (k : Kernel) (n : Nat) (hst : Changes ps s0 s) (hsub : [.emitted, .bar] ⊆ ps) :
    Changes ps s0 (State.sendOp s r k n) := by
  unfold State.sendOp
  repeat' first
    | with_reducible assumption
    | ((with_reducible apply State.emit_frame); (case hsub => exact List.Subset.trans (by decide) hsub))
    | with_reducible apply Changes.ite
    | ((fail_if_no_progress extract_lets a1 a2 a3 a4 a5 a6))
    | dsimp only [a1]
    | dsimp only [a2]
    | dsimp only [a3]
    | dsimp only [a4]
    | dsimp only [a5]
    | dsimp only [a6]
    | (simp only [Changes.mk_eq_upd]; (with_reducible apply Changes.upd); (case e2 | e20 => exact Or.inl (hsub (by decide))); all_goals first | with_reducible exact Or.inr rfl | skip)

end Sys2Proof.Machine
end

