-- ==== Sys2Proof/Laws/FrameHangOps.lean ====
section
/-!
SUPPORT. Frames of the operations of Machine/HangOps.lean: the parts of the state that each may change.
-/
namespace Sys2Proof.Machine

/-- What `State.launchBeacon` may change. -/
theorem State.launchBeacon_frame {ps : List Part} {s0 : State} (s : State) (replay : Bool) (cause : Nat) (hst : Changes ps s0 s) (hsub : [.emitted, .hang] ⊆ ps) :
    Changes ps s0 (State.launchBeacon s replay cause) := by
  unfold State.launchBeacon
  repeat' first
    | with_reducible assumption
    | ((with_reducible apply State.emit_frame); (case hsub => exact List.Subset.trans (by decide) hsub))
    | ((fail_if_no_progress extract_lets a1))
    | dsimp only [a1]
    | (simp only [Changes.mk_eq_upd]; (with_reducible apply Changes.upd); (case e2 | e17 => exact Or.inl (hsub (by decide))); all_goals first | with_reducible exact Or.inr rfl | skip)

/-- What `State.beacon` may change. -/
theorem State.beacon_frame {ps : List Part} {s0 : State} (s : State) (cause : Nat) (hst : Changes ps s0 s) (hsub : [.emitted, .hang] ⊆ ps) :
    Changes ps s0 (State.beacon s cause) := by
  unfold State.beacon
  repeat' first
    | with_reducible assumption
    | ((with_reducible apply State.emitAll_frame); (case hsub => exact List.Subset.trans (by decide) hsub))
    | ((with_reducible apply State.launchBeacon_frame); (case hsub => exact List.Subset.trans (by decide) hsub))
    | with_reducible apply Changes.ite
    | ((fail_if_no_progress extract_lets a1))
    | dsimp only [a1]
    | (simp only [Changes.mk_eq_upd]; (with_reducible apply Changes.upd); (case e2 | e17 => exact Or.inl (hsub (by decide))); all_goals first | with_reducible exact Or.inr rfl | skip)

/-- What `State.holdEscalation` may change. -/
theorem State.holdEscalation_frame {ps : List Part} {s0 : State} (s : State) (level : Nat) (hst : Changes ps s0 s) (hsub : [.emitted, .hang, .backup, .flash, .logSeq, .log, .port] ⊆ ps) :
    Changes ps s0 (State.holdEscalation s level) := by
  unfold State.holdEscalation
  repeat' first
    | with_reducible assumption
    | ((with_reducible apply State.urged_frame); (case hsub => exact List.Subset.trans (by decide) hsub))
    | ((fail_if_no_progress extract_lets a1))
    | dsimp only [a1]
    | (simp only [Changes.mk_eq_upd]; (with_reducible apply Changes.upd); (case e2 | e17 | e24 | e25 | e26 | e29 | e30 => exact Or.inl (hsub (by decide))); all_goals first | with_reducible exact Or.inr rfl | skip)

/-- What `State.modProc` may change. -/
theorem State.modProc_frame {ps : List Part} {s0 : State} (s : State) (f : Procedure → Procedure) (hst : Changes ps s0 s) (hsub : [.hang] ⊆ ps) :
    Changes ps s0 (State.modProc s f) := by
  unfold State.modProc
  repeat' first
    | with_reducible assumption
    | ((fail_if_no_progress extract_lets a1))
    | dsimp only [a1]
    | (simp only [Changes.mk_eq_upd]; (with_reducible apply Changes.upd); (case e17 => exact Or.inl (hsub (by decide))); all_goals first | with_reducible exact Or.inr rfl | skip)

/-- What `State.modReset` may change. -/
theorem State.modReset_frame {ps : List Part} {s0 : State} (s : State) (f : UnitReset → UnitReset) (hst : Changes ps s0 s) (hsub : [.hang] ⊆ ps) :
    Changes ps s0 (State.modReset s f) := by
  unfold State.modReset
  repeat' first
    | with_reducible assumption
    | ((fail_if_no_progress extract_lets a1))
    | dsimp only [a1]
    | (simp only [Changes.mk_eq_upd]; (with_reducible apply Changes.upd); (case e17 => exact Or.inl (hsub (by decide))); all_goals first | with_reducible exact Or.inr rfl | skip)

/-- What `State.showReset` may change. -/
theorem State.showReset_frame {ps : List Part} {s0 : State} (s : State) (uid trigger : Nat) (hst : Changes ps s0 s) (hsub : [.hang] ⊆ ps) :
    Changes ps s0 (State.showReset s uid trigger) := by
  unfold State.showReset
  repeat' first
    | with_reducible assumption
    | ((with_reducible apply State.modProc_frame); (case hsub => exact List.Subset.trans (by decide) hsub))
    | with_reducible apply Changes.ite

/-- What `State.wrapReset` may change. -/
theorem State.wrapReset_frame {ps : List Part} {s0 : State} (s : State) (hst : Changes ps s0 s) (hsub : [.emitted, .freeCount, .topo, .hang, .backup, .flash, .logSeq, .log, .port] ⊆ ps) :
    Changes ps s0 (State.wrapReset s) := by
  unfold State.wrapReset
  repeat' first
    | with_reducible assumption
    | ((with_reducible apply State.drawn_frame); (case hsub => exact List.Subset.trans (by decide) hsub))
    | ((with_reducible apply State.emit_frame); (case hsub => exact List.Subset.trans (by decide) hsub))
    | ((with_reducible apply State.logged_frame); (case hsub => exact List.Subset.trans (by decide) hsub))
    | ((with_reducible apply State.modReset_frame); (case hsub => exact List.Subset.trans (by decide) hsub))
    | ((with_reducible apply State.setHealth_frame); (case hsub => exact List.Subset.trans (by decide) hsub))
    | with_reducible apply Changes.ite

/-- What `State.resetMayStart` may change. -/
theorem State.resetMayStart_frame {ps : List Part} {s0 : State} (s : State) (hst : Changes ps s0 s) (hsub : [.emitted, .freeCount, .topo, .hang, .backup, .flash, .logSeq, .log, .port] ⊆ ps) :
    Changes ps s0 (State.resetMayStart s) := by
  unfold State.resetMayStart
  repeat' first
    | with_reducible assumption
    | ((with_reducible apply State.modReset_frame); (case hsub => exact List.Subset.trans (by decide) hsub))
    | ((with_reducible apply State.wrapReset_frame); (case hsub => exact List.Subset.trans (by decide) hsub))
    | with_reducible apply Changes.ite

/-- What `State.beginReset` may change. -/
theorem State.beginReset_frame {ps : List Part} {s0 : State} (s : State) (hst : Changes ps s0 s) (hsub : [.emitted, .freeCount, .topo, .hang, .backup, .flash, .logSeq, .log, .port] ⊆ ps) :
    Changes ps s0 (State.beginReset s) := by
  unfold State.beginReset
  repeat' first
    | with_reducible assumption
    | ((with_reducible apply State.beacon_frame); (case hsub => exact List.Subset.trans (by decide) hsub))
    | ((with_reducible apply State.modReset_frame); (case hsub => exact List.Subset.trans (by decide) hsub))
    | ((with_reducible apply State.requestRemoval_frame); (case hsub => exact List.Subset.trans (by decide) hsub))
    | ((with_reducible apply State.resetMayStart_frame); (case hsub => exact List.Subset.trans (by decide) hsub))
    | ((with_reducible apply State.wrapReset_frame); (case hsub => exact List.Subset.trans (by decide) hsub))
    | with_reducible apply Changes.ite
    | ((with_reducible apply Changes.foldl); (case' h => intro a x ha; try dsimp only))

/-- What `State.acceptReset` may change. -/
theorem State.acceptReset_frame {ps : List Part} {s0 : State} (s : State) (uid mode : Nat) (byHub : Bool) (trigger : Nat) (hst : Changes ps s0 s) (hsub : [.emitted, .freeCount, .topo, .hang, .backup, .flash, .logSeq, .log, .port] ⊆ ps) :
    Changes ps s0 (State.acceptReset s uid mode byHub trigger) := by
  unfold State.acceptReset
  repeat' first
    | with_reducible assumption
    | ((with_reducible apply State.beginReset_frame); (case hsub => exact List.Subset.trans (by decide) hsub))
    | ((with_reducible apply State.modReset_frame); (case hsub => exact List.Subset.trans (by decide) hsub))
    | ((with_reducible apply State.showReset_frame); (case hsub => exact List.Subset.trans (by decide) hsub))
    | with_reducible apply Changes.ite

/-- What `State.nextReset` may change. -/
theorem State.nextReset_frame {ps : List Part} {s0 : State} (s : State) (hst : Changes ps s0 s) (hsub : [.emitted, .freeCount, .topo, .hang, .backup, .flash, .logSeq, .log, .port] ⊆ ps) :
    Changes ps s0 (State.nextReset s) := by
  unfold State.nextReset
  repeat' first
    | with_reducible assumption
    | ((with_reducible apply State.acceptReset_frame); (case hsub => exact List.Subset.trans (by decide) hsub))
    | ((with_reducible apply State.modReset_frame); (case hsub => exact List.Subset.trans (by decide) hsub))
    | with_reducible apply Changes.ite
    | split

/-- What `State.wantReset` may change. -/
theorem State.wantReset_frame {ps : List Part} {s0 : State} (s : State) (uid trigger : Nat) (hst : Changes ps s0 s) (hsub : [.emitted, .freeCount, .topo, .hang, .backup, .flash, .logSeq, .log, .port] ⊆ ps) :
    Changes ps s0 (State.wantReset s uid trigger) := by
  unfold State.wantReset
  repeat' first
    | with_reducible assumption
    | ((with_reducible apply State.modReset_frame); (case hsub => exact List.Subset.trans (by decide) hsub))
    | ((with_reducible apply State.nextReset_frame); (case hsub => exact List.Subset.trans (by decide) hsub))
    | with_reducible apply Changes.ite

/-- What `State.forgetCluster` may change. -/
theorem State.forgetCluster_frame {ps : List Part} {s0 : State} (s : State) (c : Nat) (hst : Changes ps s0 s) (hsub : [.hang] ⊆ ps) :
    Changes ps s0 (State.forgetCluster s c) := by
  unfold State.forgetCluster
  repeat' first
    | with_reducible assumption
    | ((fail_if_no_progress extract_lets a1))
    | dsimp only [a1]
    | (simp only [Changes.mk_eq_upd]; (with_reducible apply Changes.upd); (case e17 => exact Or.inl (hsub (by decide))); all_goals first | with_reducible exact Or.inr rfl | skip)

/-- What `State.forgetClusters` may change. -/
theorem State.forgetClusters_frame {ps : List Part} {s0 : State} (s : State) (hst : Changes ps s0 s) (hsub : [.hang] ⊆ ps) :
    Changes ps s0 (State.forgetClusters s) := by
  unfold State.forgetClusters
  repeat' first
    | with_reducible assumption
    | ((fail_if_no_progress extract_lets a1))
    | dsimp only [a1]
    | (simp only [Changes.mk_eq_upd]; (with_reducible apply Changes.upd); (case e17 => exact Or.inl (hsub (by decide))); all_goals first | with_reducible exact Or.inr rfl | skip)

/-- What `State.leaveCut` may change. -/
theorem State.leaveCut_frame {ps : List Part} {s0 : State} (s : State) (c : Nat) (hst : Changes ps s0 s) (hsub : [.emitted, .sched, .units, .qu, .adm, .backup, .flash, .logSeq, .log, .port] ⊆ ps) :
    Changes ps s0 (State.leaveCut s c) := by
  unfold State.leaveCut
  repeat' first
    | with_reducible assumption
    | ((with_reducible apply State.settleStep_frame); (case hsub => exact List.Subset.trans (by decide) hsub))
    | (simp only [Changes.mk_eq_upd]; (with_reducible apply Changes.upd); (case e2 | e12 | e13 | e14 | e19 | e24 | e25 | e26 | e29 | e30 => exact Or.inl (hsub (by decide))); all_goals first | with_reducible exact Or.inr rfl | skip)

/-- What `State.endStalls` may change. -/
theorem State.endStalls_frame {ps : List Part} {s0 : State} (s : State) (c : Nat) (hst : Changes ps s0 s) (hsub : [.hang] ⊆ ps) :
    Changes ps s0 (State.endStalls s c) := by
  unfold State.endStalls
  repeat' first
    | with_reducible assumption
    | ((fail_if_no_progress extract_lets a1))
    | dsimp only [a1]
    | (simp only [Changes.mk_eq_upd]; (with_reducible apply Changes.upd); (case e17 => exact Or.inl (hsub (by decide))); all_goals first | with_reducible exact Or.inr rfl | skip)

/-- What `State.endOrders` may change. -/
theorem State.endOrders_frame {ps : List Part} {s0 : State} (s : State) (p : Nat → Bool) (hst : Changes ps s0 s) (hsub : [.bar] ⊆ ps) :
    Changes ps s0 (State.endOrders s p) := by
  unfold State.endOrders
  repeat' first
    | with_reducible assumption
    | ((with_reducible apply State.dropOrder_frame); (case hsub => exact List.Subset.trans (by decide) hsub))
    | ((with_reducible apply State.notCompared_frame); (case hsub => exact List.Subset.trans (by decide) hsub))
    | ((with_reducible apply Changes.foldl); (case' h => intro a x ha; try dsimp only))

/-- What `State.assertCluster` may change. -/
theorem State.assertCluster_frame {ps : List Part} {s0 : State} (s : State) (c : Nat) (hst : Changes ps s0 s) (hsub : [.emitted, .freeCount, .frame, .sched, .units, .qu, .dump, .hang, .adm, .bar, .backup, .flash, .logSeq, .log, .port] ⊆ ps) :
    Changes ps s0 (State.assertCluster s c) := by
  unfold State.assertCluster
  repeat' first
    | with_reducible assumption
    | ((with_reducible apply State.dropSets_frame); (case hsub => exact List.Subset.trans (by decide) hsub))
    | ((with_reducible apply State.endOrders_frame); (case hsub => exact List.Subset.trans (by decide) hsub))
    | ((with_reducible apply State.endStalls_frame); (case hsub => exact List.Subset.trans (by decide) hsub))
    | ((with_reducible apply State.forgetCluster_frame); (case hsub => exact List.Subset.trans (by decide) hsub))
    | ((with_reducible apply State.leaveCut_frame); (case hsub => exact List.Subset.trans (by decide) hsub))
    | ((with_reducible apply State.modTap_frame); (case hsub => exact List.Subset.trans (by decide) hsub))
    | ((with_reducible apply State.soLoseCluster_frame); (case hsub => exact List.Subset.trans (by decide) hsub))

/-- What `State.forgetCal` may change. -/
theorem State.forgetCal_frame {ps : List Part} {s0 : State} (s : State) (uid : Nat) (hst : Changes ps s0 s) (hsub : [.wireA, .wireR] ⊆ ps) :
    Changes ps s0 (State.forgetCal s uid) := by
  unfold State.forgetCal
  repeat' first
    | with_reducible assumption
    | ((fail_if_no_progress extract_lets a1))
    | dsimp only [a1]
    | (simp only [Changes.mk_eq_upd]; (with_reducible apply Changes.upd); (case e8 | e9 => exact Or.inl (hsub (by decide))); all_goals first | with_reducible exact Or.inr rfl | skip)

/-- What `State.resetRep` may change. -/
theorem State.resetRep_frame {ps : List Part} {s0 : State} (s : State) (uid : Nat) (hst : Changes ps s0 s) (hsub : [.tb, .wireA, .wireR, .units] ⊆ ps) :
    Changes ps s0 (State.resetRep s uid) := by
  unfold State.resetRep
  repeat' first
    | with_reducible assumption
    | ((with_reducible apply State.forgetCal_frame); (case hsub => exact List.Subset.trans (by decide) hsub))
    | ((with_reducible apply State.putRep_frame); (case hsub => exact List.Subset.trans (by decide) hsub))

/-- What `State.admLose` may change. -/
theorem State.admLose_frame {ps : List Part} {s0 : State} (s : State) (die : Nat) (hst : Changes ps s0 s) (hsub : [.adm] ⊆ ps) :
    Changes ps s0 (State.admLose s die) := by
  unfold State.admLose
  repeat' first
    | with_reducible assumption
    | ((fail_if_no_progress extract_lets a1))
    | dsimp only [a1]
    | (simp only [Changes.mk_eq_upd]; (with_reducible apply Changes.upd); (case e19 => exact Or.inl (hsub (by decide))); all_goals first | with_reducible exact Or.inr rfl | skip)

/-- What `State.admRestore` may change. -/
theorem State.admRestore_frame {ps : List Part} {s0 : State} (s : State) (die : Nat) (hst : Changes ps s0 s) (hsub : [.adm] ⊆ ps) :
    Changes ps s0 (State.admRestore s die) := by
  unfold State.admRestore
  repeat' first
    | with_reducible assumption
    | ((fail_if_no_progress extract_lets a1))
    | dsimp only [a1]
    | (simp only [Changes.mk_eq_upd]; (with_reducible apply Changes.upd); (case e19 => exact Or.inl (hsub (by decide))); all_goals first | with_reducible exact Or.inr rfl | skip)

/-- What `State.assertRunner` may change. -/
theorem State.assertRunner_frame {ps : List Part} {s0 : State} (s : State) (die : Nat) (hst : Changes ps s0 s) (hsub : [.emitted, .tb, .wireA, .wireR, .frame, .units, .dump, .hang, .adm, .trace] ⊆ ps) :
    Changes ps s0 (State.assertRunner s die) := by
  unfold State.assertRunner
  repeat' first
    | with_reducible assumption
    | ((with_reducible apply State.admLose_frame); (case hsub => exact List.Subset.trans (by decide) hsub))
    | ((with_reducible apply State.dropSets_frame); (case hsub => exact List.Subset.trans (by decide) hsub))
    | ((with_reducible apply State.modRunner_frame); (case hsub => exact List.Subset.trans (by decide) hsub))
    | ((with_reducible apply State.resetRep_frame); (case hsub => exact List.Subset.trans (by decide) hsub))
    | ((with_reducible apply State.resetSink_frame); (case hsub => exact List.Subset.trans (by decide) hsub))
    | ((with_reducible apply State.soLoseDie_frame); (case hsub => exact List.Subset.trans (by decide) hsub))
    | ((fail_if_no_progress extract_lets a1 a2 a3 a4); try (refine (have ha1 : Changes ps s0 a1 := ?_; ?_); rotate_left; clear_value a1); try (refine (have ha2 : Changes ps s0 a2 := ?_; ?_); rotate_left; clear_value a2); try (refine (have ha3 : Changes ps s0 a3 := ?_; ?_); rotate_left; clear_value a3))
    | dsimp only [a4]
    | (simp only [Changes.mk_eq_upd]; (with_reducible apply Changes.upd); (case e2 | e7 | e8 | e9 | e11 | e13 | e16 | e17 | e19 | e21 => exact Or.inl (hsub (by decide))); all_goals first | with_reducible exact Or.inr rfl | skip)

/-- What `State.coreDown` may change. -/
theorem State.coreDown_frame {ps : List Part} {s0 : State} (s : State) (core : Nat) (hst : Changes ps s0 s) (hsub : [.hub, .tb, .wireA, .wireR, .frame, .units, .bar] ⊆ ps) :
    Changes ps s0 (State.coreDown s core) := by
  unfold State.coreDown
  repeat' first
    | with_reducible assumption
    | ((with_reducible apply State.dropSets_frame); (case hsub => exact List.Subset.trans (by decide) hsub))
    | ((with_reducible apply State.emptyBar_frame); (case hsub => exact List.Subset.trans (by decide) hsub))
    | ((with_reducible apply State.modCore_frame); (case hsub => exact List.Subset.trans (by decide) hsub))
    | ((with_reducible apply State.putWire_frame); (case hsub => exact List.Subset.trans (by decide) hsub))
    | ((with_reducible apply State.resetRep_frame); (case hsub => exact List.Subset.trans (by decide) hsub))
    | ((with_reducible apply State.setBar_frame); (case hsub => exact List.Subset.trans (by decide) hsub))

/-- What `State.coreUp` may change. -/
theorem State.coreUp_frame {ps : List Part} {s0 : State} (s : State) (core : Nat) (hst : Changes ps s0 s) (hsub : [.hub, .tb, .wireA, .wireR, .pod, .bar] ⊆ ps) :
    Changes ps s0 (State.coreUp s core) := by
  unfold State.coreUp
  repeat' first
    | with_reducible assumption
    | ((with_reducible apply State.modCore_frame); (case hsub => exact List.Subset.trans (by decide) hsub))
    | ((with_reducible apply State.setBar_frame); (case hsub => exact List.Subset.trans (by decide) hsub))
    | ((with_reducible apply State.startWire_frame); (case hsub => exact List.Subset.trans (by decide) hsub))
    | with_reducible apply Changes.ite
    | ((fail_if_no_progress extract_lets a1 a2 a3))
    | dsimp only [a1]
    | dsimp only [a2]
    | dsimp only [a3]
    | (simp only [Changes.mk_eq_upd]; (with_reducible apply Changes.upd); (case e6 | e7 | e8 | e9 | e10 | e20 => exact Or.inl (hsub (by decide))); all_goals first | with_reducible exact Or.inr rfl | skip)

/-- What `State.reserveGone` may change. -/
theorem State.reserveGone_frame {ps : List Part} {s0 : State} (s : State) (hst : Changes ps s0 s) (hsub : [.dump] ⊆ ps) :
    Changes ps s0 (State.reserveGone s) := by
  unfold State.reserveGone
  repeat' first
    | with_reducible assumption
    | ((with_reducible apply State.loseReserve_frame); (case hsub => exact List.Subset.trans (by decide) hsub))
    | ((fail_if_no_progress extract_lets a1 a2); try (refine (have ha1 : Changes ps s0 a1 := ?_; ?_); rotate_left; clear_value a1))
    | dsimp only [a2]
    | (simp only [Changes.mk_eq_upd]; (with_reducible apply Changes.upd); (case e16 => exact Or.inl (hsub (by decide))); all_goals first | with_reducible exact Or.inr rfl | skip)

/-- What `State.assertPart` may change. -/
theorem State.assertPart_frame {ps : List Part} {s0 : State} (s : State) (uid part : Nat) (hst : Changes ps s0 s) (hsub : [.emitted, .freeCount, .hub, .tb, .wireA, .wireR, .frame, .sched, .units, .qu, .dump, .hang, .adm, .bar, .trace, .backup, .flash, .logSeq, .log, .port] ⊆ ps) :
    Changes ps s0 (State.assertPart s uid part) := by
  unfold State.assertPart
  repeat' first
    | with_reducible assumption
    | ((with_reducible apply State.assertCluster_frame); (case hsub => exact List.Subset.trans (by decide) hsub))
    | ((with_reducible apply State.assertRunner_frame); (case hsub => exact List.Subset.trans (by decide) hsub))
    | ((with_reducible apply State.coreDown_frame); (case hsub => exact List.Subset.trans (by decide) hsub))
    | ((with_reducible apply State.emptyBar_frame); (case hsub => exact List.Subset.trans (by decide) hsub))
    | ((with_reducible apply State.modCore_frame); (case hsub => exact List.Subset.trans (by decide) hsub))
    | ((with_reducible apply State.reserveGone_frame); (case hsub => exact List.Subset.trans (by decide) hsub))
    | ((with_reducible apply State.resetSink_frame); (case hsub => exact List.Subset.trans (by decide) hsub))
    | ((with_reducible apply State.setBar_frame); (case hsub => exact List.Subset.trans (by decide) hsub))
    | with_reducible apply Changes.ite

/-- What `State.releasePart` may change. -/
theorem State.releasePart_frame {ps : List Part} {s0 : State} (s : State) (uid part : Nat) (hst : Changes ps s0 s) (hsub : [.hub, .tb, .wireA, .wireR, .pod, .units, .adm, .bar] ⊆ ps) :
    Changes ps s0 (State.releasePart s uid part) := by
  unfold State.releasePart
  repeat' first
    | with_reducible assumption
    | ((with_reducible apply State.admRestore_frame); (case hsub => exact List.Subset.trans (by decide) hsub))
    | ((with_reducible apply State.coreUp_frame); (case hsub => exact List.Subset.trans (by decide) hsub))
    | ((with_reducible apply State.modCore_frame); (case hsub => exact List.Subset.trans (by decide) hsub))
    | ((with_reducible apply State.modRunner_frame); (case hsub => exact List.Subset.trans (by decide) hsub))
    | ((with_reducible apply State.modTap_frame); (case hsub => exact List.Subset.trans (by decide) hsub))
    | ((with_reducible apply State.setBar_frame); (case hsub => exact List.Subset.trans (by decide) hsub))
    | with_reducible apply Changes.ite

/-- What `State.addSuspects` may change. -/
theorem State.addSuspects_frame {ps : List Part} {s0 : State} (s : State) (l : List (Nat × Nat)) (avoid : Option (Nat × Nat)) (hst : Changes ps s0 s) (hsub : [.hang] ⊆ ps) :
    Changes ps s0 (State.addSuspects s l avoid) := by
  unfold State.addSuspects
  repeat' first
    | with_reducible assumption
    | ((with_reducible apply State.modProc_frame); (case hsub => exact List.Subset.trans (by decide) hsub))

/-- What `State.endProcedure` may change. -/
theorem State.endProcedure_frame {ps : List Part} {s0 : State} (s : State) (result : Nat) (hst : Changes ps s0 s) (hsub : [.emitted, .hang, .backup, .flash, .logSeq, .log, .port] ⊆ ps) :
    Changes ps s0 (State.endProcedure s result) := by
  unfold State.endProcedure
  repeat' first
    | with_reducible assumption
    | ((with_reducible apply State.modProc_frame); (case hsub => exact List.Subset.trans (by decide) hsub))
    | ((with_reducible apply State.told_frame); (case hsub => exact List.Subset.trans (by decide) hsub))
    | ((with_reducible apply State.urged_frame); (case hsub => exact List.Subset.trans (by decide) hsub))
    | with_reducible apply Changes.ite
    | ((fail_if_no_progress extract_lets a1))
    | dsimp only [a1]
    | (simp only [Changes.mk_eq_upd]; (with_reducible apply Changes.upd); (case e2 | e17 | e24 | e25 | e26 | e29 | e30 => exact Or.inl (hsub (by decide))); all_goals first | with_reducible exact Or.inr rfl | skip)

/-- What `State.setCulprit` may change. -/
theorem State.setCulprit_frame {ps : List Part} {s0 : State} (s : State) (kind ctx uid engine : Nat) (hst : Changes ps s0 s) (hsub : [.hang] ⊆ ps) :
    Changes ps s0 (State.setCulprit s kind ctx uid engine) := by
  unfold State.setCulprit
  repeat' first
    | with_reducible assumption
    | ((with_reducible apply State.modProc_frame); (case hsub => exact List.Subset.trans (by decide) hsub))

/-- What `State.procNoCut` may change. -/
theorem State.procNoCut_frame {ps : List Part} {s0 : State} (s : State) (hst : Changes ps s0 s) (hsub : [.emitted, .hang, .backup, .flash, .logSeq, .log, .port] ⊆ ps) :
    Changes ps s0 (State.procNoCut s) := by
  unfold State.procNoCut
  repeat' first
    | with_reducible assumption
    | ((with_reducible apply State.logged_frame); (case hsub => exact List.Subset.trans (by decide) hsub))
    | ((with_reducible apply State.modProc_frame); (case hsub => exact List.Subset.trans (by decide) hsub))

/-- What `State.enterOwn` may change. -/
theorem State.enterOwn_frame {ps : List Part} {s0 : State} (s : State) (action time flags : Nat) (selection : BitVec 160) (hst : Changes ps s0 s) (hsub : [.emitted, .sched, .units, .qu, .adm, .backup, .flash, .logSeq, .log, .port] ⊆ ps) :
    Changes ps s0 ((State.enterOwn s action time flags selection).1) := by
  unfold State.enterOwn
  repeat' first
    | with_reducible assumption
    | ((with_reducible apply State.acceptQuench_frame); (case hsub => exact List.Subset.trans (by decide) hsub))
    | ((with_reducible apply State.acceptResume_frame); (case hsub => exact List.Subset.trans (by decide) hsub))
    | ((with_reducible apply State.finishEntry_frame); (case hsub => exact List.Subset.trans (by decide) hsub))
    | ((with_reducible apply State.putEntry_frame); (case hsub => exact List.Subset.trans (by decide) hsub))
    | with_reducible apply Changes.ite
    | dsimp only
    | split

/-- What `State.procCut` may change. -/
theorem State.procCut_frame {ps : List Part} {s0 : State} (s : State) (first : Bool) (hst : Changes ps s0 s) (hsub : [.emitted, .sched, .units, .qu, .hang, .adm, .backup, .flash, .logSeq, .log, .port] ⊆ ps) :
    Changes ps s0 (State.procCut s first) := by
  unfold State.procCut
  repeat' first
    | with_reducible assumption
    | ((with_reducible apply State.enterOwn_frame); (case hsub => exact List.Subset.trans (by decide) hsub))
    | ((with_reducible apply State.logged_frame); (case hsub => exact List.Subset.trans (by decide) hsub))
    | ((with_reducible apply State.modProc_frame); (case hsub => exact List.Subset.trans (by decide) hsub))
    | ((with_reducible apply State.procNoCut_frame); (case hsub => exact List.Subset.trans (by decide) hsub))
    | with_reducible apply Changes.ite
    | ((fail_if_no_progress extract_lets a1))
    | dsimp only [a1]
    | (with_reducible apply Changes.ofFst; rotate_left; (with_reducible assumption))
    | split

/-- What `State.procResets` may change. -/
theorem State.procResets_frame {ps : List Part} {s0 : State} (s : State) (hst : Changes ps s0 s) (hsub : [.emitted, .freeCount, .topo, .hang, .backup, .flash, .logSeq, .log, .port] ⊆ ps) :
    Changes ps s0 (State.procResets s) := by
  unfold State.procResets
  repeat' first
    | with_reducible assumption
    | ((with_reducible apply State.endProcedure_frame); (case hsub => exact List.Subset.trans (by decide) hsub))
    | ((with_reducible apply State.modProc_frame); (case hsub => exact List.Subset.trans (by decide) hsub))
    | ((with_reducible apply State.wantReset_frame); (case hsub => exact List.Subset.trans (by decide) hsub))
    | with_reducible apply Changes.ite
    | split

/-- What `State.procEscalate` may change. -/
theorem State.procEscalate_frame {ps : List Part} {s0 : State} (s : State) (hst : Changes ps s0 s) (hsub : [.emitted, .freeCount, .topo, .hang, .backup, .flash, .logSeq, .log, .port] ⊆ ps) :
    Changes ps s0 (State.procEscalate s) := by
  unfold State.procEscalate
  repeat' first
    | with_reducible assumption
    | ((with_reducible apply State.endProcedure_frame); (case hsub => exact List.Subset.trans (by decide) hsub))
    | ((with_reducible apply State.holdEscalation_frame); (case hsub => exact List.Subset.trans (by decide) hsub))
    | ((with_reducible apply State.modProc_frame); (case hsub => exact List.Subset.trans (by decide) hsub))
    | ((with_reducible apply State.procResets_frame); (case hsub => exact List.Subset.trans (by decide) hsub))
    | with_reducible apply Changes.ite

/-- What `State.procGathered` may change. -/
theorem State.procGathered_frame {ps : List Part} {s0 : State} (s : State) (hst : Changes ps s0 s) (hsub : [.emitted, .freeCount, .topo, .sched, .units, .qu, .hang, .adm, .backup, .flash, .logSeq, .log, .port] ⊆ ps) :
    Changes ps s0 (State.procGathered s) := by
  unfold State.procGathered
  repeat' first
    | with_reducible assumption
    | ((with_reducible apply State.beacon_frame); (case hsub => exact List.Subset.trans (by decide) hsub))
    | ((with_reducible apply State.procCut_frame); (case hsub => exact List.Subset.trans (by decide) hsub))
    | ((with_reducible apply State.procEscalate_frame); (case hsub => exact List.Subset.trans (by decide) hsub))
    | with_reducible apply Changes.ite

/-- What `State.joinVerdict` may change. -/
theorem State.joinVerdict_frame {ps : List Part} {s0 : State} (s : State) (v : Verdict) (hst : Changes ps s0 s) (hsub : [.emitted, .units, .hang] ⊆ ps) :
    Changes ps s0 (State.joinVerdict s v) := by
  unfold State.joinVerdict
  repeat' first
    | with_reducible assumption
    | ((with_reducible apply State.addSuspects_frame); (case hsub => exact List.Subset.trans (by decide) hsub))
    | ((with_reducible apply State.modProc_frame); (case hsub => exact List.Subset.trans (by decide) hsub))
    | ((with_reducible apply State.ringStart_frame); (case hsub => exact List.Subset.trans (by decide) hsub))
    | with_reducible apply Changes.ite

/-- What `State.startProcedure` may change. -/
theorem State.startProcedure_frame {ps : List Part} {s0 : State} (s : State) (v : Verdict) (hst : Changes ps s0 s) (hsub : [.emitted, .units, .hang] ⊆ ps) :
    Changes ps s0 (State.startProcedure s v) := by
  unfold State.startProcedure
  repeat' first
    | with_reducible assumption
    | ((with_reducible apply State.joinVerdict_frame); (case hsub => exact List.Subset.trans (by decide) hsub))
    | ((with_reducible apply State.modProc_frame); (case hsub => exact List.Subset.trans (by decide) hsub))

/-- What `State.nextProcedure` may change. -/
theorem State.nextProcedure_frame {ps : List Part} {s0 : State} (s : State) (hst : Changes ps s0 s) (hsub : [.emitted, .freeCount, .topo, .sched, .units, .qu, .hang, .adm, .backup, .flash, .logSeq, .log, .port] ⊆ ps) :
    Changes ps s0 (State.nextProcedure s) := by
  unfold State.nextProcedure
  repeat' first
    | with_reducible assumption
    | ((with_reducible apply State.joinVerdict_frame); (case hsub => exact List.Subset.trans (by decide) hsub))
    | ((with_reducible apply State.modProc_frame); (case hsub => exact List.Subset.trans (by decide) hsub))
    | ((with_reducible apply State.procGathered_frame); (case hsub => exact List.Subset.trans (by decide) hsub))
    | ((with_reducible apply State.startProcedure_frame); (case hsub => exact List.Subset.trans (by decide) hsub))
    | with_reducible apply Changes.ite
    | ((with_reducible apply Changes.foldl); (case' h => intro a x ha; try dsimp only))
    | dsimp only
    | split

/-- What `State.takeVerdict` may change. -/
theorem State.takeVerdict_frame {ps : List Part} {s0 : State} (s : State) (v : Verdict) (hst : Changes ps s0 s) (hsub : [.emitted, .freeCount, .topo, .sched, .units, .qu, .hang, .adm, .backup, .flash, .logSeq, .log, .port] ⊆ ps) :
    Changes ps s0 (State.takeVerdict s v) := by
  unfold State.takeVerdict
  repeat' first
    | with_reducible assumption
    | ((with_reducible apply State.holdEscalation_frame); (case hsub => exact List.Subset.trans (by decide) hsub))
    | ((with_reducible apply State.joinVerdict_frame); (case hsub => exact List.Subset.trans (by decide) hsub))
    | ((with_reducible apply State.modProc_frame); (case hsub => exact List.Subset.trans (by decide) hsub))
    | ((with_reducible apply State.procGathered_frame); (case hsub => exact List.Subset.trans (by decide) hsub))
    | ((with_reducible apply State.startProcedure_frame); (case hsub => exact List.Subset.trans (by decide) hsub))
    | ((with_reducible apply State.told_frame); (case hsub => exact List.Subset.trans (by decide) hsub))
    | with_reducible apply Changes.ite

/-- What `State.bindingsRead` may change. -/
theorem State.bindingsRead_frame {ps : List Part} {s0 : State} (s : State) (c engine : Nat) (ok : Bool) (data : List Byte) (hst : Changes ps s0 s) (hsub : [.emitted, .freeCount, .topo, .sched, .units, .qu, .hang, .adm, .backup, .flash, .logSeq, .log, .port] ⊆ ps) :
    Changes ps s0 (State.bindingsRead s c engine ok data) := by
  unfold State.bindingsRead
  repeat' first
    | with_reducible assumption
    | ((with_reducible apply State.addSuspects_frame); (case hsub => exact List.Subset.trans (by decide) hsub))
    | ((with_reducible apply State.logged_frame); (case hsub => exact List.Subset.trans (by decide) hsub))
    | ((with_reducible apply State.modProc_frame); (case hsub => exact List.Subset.trans (by decide) hsub))
    | ((with_reducible apply State.procGathered_frame); (case hsub => exact List.Subset.trans (by decide) hsub))
    | with_reducible apply Changes.ite
    | split

/-- What `State.judge_` may change. -/
theorem State.judge__frame {ps : List Part} {s0 : State} (s : State) (ctx verdict : Nat) (hst : Changes ps s0 s) (hsub : [.hang] ⊆ ps) :
    Changes ps s0 (State.judge_ s ctx verdict) := by
  unfold State.judge_
  repeat' first
    | with_reducible assumption
    | ((with_reducible apply State.modProc_frame); (case hsub => exact List.Subset.trans (by decide) hsub))

/-- What `State.engineProbe` may change. -/
theorem State.engineProbe_frame {ps : List Part} {s0 : State} (s : State) (uid engine : Nat) (hst : Changes ps s0 s) (hsub : [.bar] ⊆ ps) :
    Changes ps s0 (State.engineProbe s uid engine) := by
  unfold State.engineProbe
  repeat' first
    | with_reducible assumption
    | ((fail_if_no_progress extract_lets a1))
    | dsimp only [a1]
    | (simp only [Changes.mk_eq_upd]; (with_reducible apply Changes.upd); (case e20 => exact Or.inl (hsub (by decide))); all_goals first | with_reducible exact Or.inr rfl | skip)

/-- What `State.probeHung` may change. -/
theorem State.probeHung_frame {ps : List Part} {s0 : State} (s : State) (hst : Changes ps s0 s) (hsub : [.emitted, .bar, .backup, .flash, .logSeq, .log, .port] ⊆ ps) :
    Changes ps s0 (State.probeHung s) := by
  unfold State.probeHung
  repeat' first
    | with_reducible assumption
    | ((with_reducible apply State.engineProbe_frame); (case hsub => exact List.Subset.trans (by decide) hsub))
    | ((with_reducible apply State.logged_frame); (case hsub => exact List.Subset.trans (by decide) hsub))
    | ((with_reducible apply Changes.foldl); (case' h => intro a x ha; try dsimp only))

/-- What `State.replayOver` may change. -/
theorem State.replayOver_frame {ps : List Part} {s0 : State} (s : State) (hst : Changes ps s0 s) (hsub : [.emitted, .freeCount, .topo, .hang, .bar, .backup, .flash, .logSeq, .log, .port] ⊆ ps) :
    Changes ps s0 (State.replayOver s) := by
  unfold State.replayOver
  repeat' first
    | with_reducible assumption
    | ((with_reducible apply State.probeHung_frame); (case hsub => exact List.Subset.trans (by decide) hsub))
    | ((with_reducible apply State.procResets_frame); (case hsub => exact List.Subset.trans (by decide) hsub))
    | ((with_reducible apply State.setCulprit_frame); (case hsub => exact List.Subset.trans (by decide) hsub))
    | with_reducible apply Changes.ite
    | ((fail_if_no_progress extract_lets a1))
    | dsimp only [a1]
    | (simp only [Changes.mk_eq_upd]; (with_reducible apply Changes.upd); (case e2 | e3 | e5 | e17 | e20 | e24 | e25 | e26 | e29 | e30 => exact Or.inl (hsub (by decide))); all_goals first | with_reducible exact Or.inr rfl | skip)
    | split

/-- What `State.replayNext` may change. -/
theorem State.replayNext_frame {ps : List Part} {s0 : State}  (n0 : Nat) (n1 : State) (hst : Changes ps s0 n1) (hsub : [.emitted, .freeCount, .topo, .qu, .hang, .bar, .backup, .flash, .logSeq, .log, .port] ⊆ ps) :
    Changes ps s0 (State.replayNext n0 n1) := by
  induction n0 generalizing n1 with
  | zero => exact State.replayOver_frame _ hst (List.Subset.trans (by decide) hsub)
  | succ n ih =>
  rw [State.replayNext]
  repeat' first
    | with_reducible assumption
    | ((with_reducible apply State.issueCtx_frame); (case hsub => exact List.Subset.trans (by decide) hsub))
    | ((with_reducible apply State.judge__frame); (case hsub => exact List.Subset.trans (by decide) hsub))
    | ((with_reducible apply State.modProc_frame); (case hsub => exact List.Subset.trans (by decide) hsub))
    | ((with_reducible apply State.moveCtx_frame); (case hsub => exact List.Subset.trans (by decide) hsub))
    | ((with_reducible apply State.replayOver_frame); (case hsub => exact List.Subset.trans (by decide) hsub))
    | with_reducible apply ih
    | with_reducible apply Changes.ite
    | ((fail_if_no_progress extract_lets a1))
    | dsimp only [a1]
    | (simp only [Changes.mk_eq_upd]; (with_reducible apply Changes.upd); (case e2 | e3 | e5 | e14 | e17 | e20 | e24 | e25 | e26 | e29 | e30 => exact Or.inl (hsub (by decide))); all_goals first | with_reducible exact Or.inr rfl | skip)
    | split

/-- What `State.procRemovals` may change. -/
theorem State.procRemovals_frame {ps : List Part} {s0 : State} (s : State) (hst : Changes ps s0 s) (hsub : [.emitted, .freeCount, .topo, .qu, .hang, .bar, .backup, .flash, .logSeq, .log, .port] ⊆ ps) :
    Changes ps s0 (State.procRemovals s) := by
  unfold State.procRemovals
  repeat' first
    | with_reducible assumption
    | ((with_reducible apply State.modProc_frame); (case hsub => exact List.Subset.trans (by decide) hsub))
    | ((with_reducible apply State.replayNext_frame); (case hsub => exact List.Subset.trans (by decide) hsub))
    | with_reducible apply Changes.ite

/-- What `State.procRemove` may change. -/
theorem State.procRemove_frame {ps : List Part} {s0 : State} (s : State) (hst : Changes ps s0 s) (hsub : [.emitted, .freeCount, .topo, .qu, .hang, .bar, .backup, .flash, .logSeq, .log, .port] ⊆ ps) :
    Changes ps s0 (State.procRemove s) := by
  unfold State.procRemove
  repeat' first
    | with_reducible assumption
    | ((with_reducible apply State.modProc_frame); (case hsub => exact List.Subset.trans (by decide) hsub))
    | ((with_reducible apply State.procRemovals_frame); (case hsub => exact List.Subset.trans (by decide) hsub))
    | ((with_reducible apply State.requestRemoval_frame); (case hsub => exact List.Subset.trans (by decide) hsub))
    | ((with_reducible apply Changes.foldl); (case' h => intro a x ha; try dsimp only))

/-- What `State.replayVerdict` may change. -/
theorem State.replayVerdict_frame {ps : List Part} {s0 : State} (s : State) (verdict : Nat) (hst : Changes ps s0 s) (hsub : [.emitted, .freeCount, .topo, .qu, .hang, .bar, .backup, .flash, .logSeq, .log, .port] ⊆ ps) :
    Changes ps s0 (State.replayVerdict s verdict) := by
  unfold State.replayVerdict
  repeat' first
    | with_reducible assumption
    | ((with_reducible apply State.dropCtx_frame); (case hsub => exact List.Subset.trans (by decide) hsub))
    | ((with_reducible apply State.judge__frame); (case hsub => exact List.Subset.trans (by decide) hsub))
    | ((with_reducible apply State.moveCtx_frame); (case hsub => exact List.Subset.trans (by decide) hsub))
    | ((with_reducible apply State.releaseAside_frame); (case hsub => exact List.Subset.trans (by decide) hsub))
    | ((with_reducible apply State.replayNext_frame); (case hsub => exact List.Subset.trans (by decide) hsub))
    | ((with_reducible apply State.requestRemoval_frame); (case hsub => exact List.Subset.trans (by decide) hsub))
    | ((with_reducible apply State.setCulprit_frame); (case hsub => exact List.Subset.trans (by decide) hsub))
    | with_reducible apply Changes.ite
    | (simp only [Changes.mk_eq_upd]; (with_reducible apply Changes.upd); (case e2 | e3 | e5 | e14 | e17 | e20 | e24 | e25 | e26 | e29 | e30 => exact Or.inl (hsub (by decide))); all_goals first | with_reducible exact Or.inr rfl | skip)
    | dsimp only
    | split

/-- What `State.procResume` may change. -/
theorem State.procResume_frame {ps : List Part} {s0 : State} (s : State) (hst : Changes ps s0 s) (hsub : [.emitted, .freeCount, .topo, .sched, .units, .qu, .hang, .adm, .bar, .backup, .flash, .logSeq, .log, .port] ⊆ ps) :
    Changes ps s0 (State.procResume s) := by
  unfold State.procResume
  repeat' first
    | with_reducible assumption
    | ((with_reducible apply State.enterOwn_frame); (case hsub => exact List.Subset.trans (by decide) hsub))
    | ((with_reducible apply State.modProc_frame); (case hsub => exact List.Subset.trans (by decide) hsub))
    | ((with_reducible apply State.procRemove_frame); (case hsub => exact List.Subset.trans (by decide) hsub))
    | with_reducible apply Changes.ite
    | (with_reducible apply Changes.ofFst; rotate_left; (with_reducible assumption))
    | split

/-- What `State.ownShakeout` may change. -/
theorem State.ownShakeout_frame {ps : List Part} {s0 : State} (s : State) (tiers : Nat) (scope : BitVec 128) (trigger : Nat) (hst : Changes ps s0 s) (hsub : [.emitted, .units, .dump, .backup, .flash, .logSeq, .imageIds, .log, .port] ⊆ ps) :
    Changes ps s0 (State.ownShakeout s tiers scope trigger) := by
  unfold State.ownShakeout
  repeat' first
    | with_reducible assumption
    | ((with_reducible apply State.soBegin_frame); (case hsub => exact List.Subset.trans (by decide) hsub))
    | with_reducible apply Changes.ite
    | ((fail_if_no_progress extract_lets a1))
    | dsimp only [a1]
    | (simp only [Changes.mk_eq_upd]; (with_reducible apply Changes.upd); (case e2 | e13 | e16 | e24 | e25 | e26 | e27 | e29 | e30 => exact Or.inl (hsub (by decide))); all_goals first | with_reducible exact Or.inr rfl | skip)

/-- What `State.startWaiting` may change. -/
theorem State.startWaiting_frame {ps : List Part} {s0 : State} (s : State) (hst : Changes ps s0 s) (hsub : [.emitted, .units, .dump, .backup, .flash, .logSeq, .imageIds, .log, .port] ⊆ ps) :
    Changes ps s0 (State.startWaiting s) := by
  unfold State.startWaiting
  repeat' first
    | with_reducible assumption
    | ((with_reducible apply State.soBegin_frame); (case hsub => exact List.Subset.trans (by decide) hsub))
    | with_reducible apply Changes.ite
    | ((fail_if_no_progress extract_lets a1))
    | dsimp only [a1]
    | (simp only [Changes.mk_eq_upd]; (with_reducible apply Changes.upd); (case e2 | e13 | e16 | e24 | e25 | e26 | e27 | e29 | e30 => exact Or.inl (hsub (by decide))); all_goals first | with_reducible exact Or.inr rfl | skip)
    | split

/-- What `State.procClosed` may change. -/
theorem State.procClosed_frame {ps : List Part} {s0 : State} (s : State) (g : Image) (hst : Changes ps s0 s) (hsub : [.emitted, .freeCount, .topo, .sched, .units, .qu, .hang, .adm, .bar, .backup, .flash, .logSeq, .log, .port] ⊆ ps) :
    Changes ps s0 (State.procClosed s g) := by
  unfold State.procClosed
  repeat' first
    | with_reducible assumption
    | ((with_reducible apply State.modProc_frame); (case hsub => exact List.Subset.trans (by decide) hsub))
    | ((with_reducible apply State.procRemove_frame); (case hsub => exact List.Subset.trans (by decide) hsub))
    | ((with_reducible apply State.procResume_frame); (case hsub => exact List.Subset.trans (by decide) hsub))
    | with_reducible apply Changes.ite

/-- What `State.procResetEnded` may change. -/
theorem State.procResetEnded_frame {ps : List Part} {s0 : State} (s : State) (result : Nat) (hst : Changes ps s0 s) (hsub : [.emitted, .freeCount, .topo, .hang, .backup, .flash, .logSeq, .log, .port] ⊆ ps) :
    Changes ps s0 (State.procResetEnded s result) := by
  unfold State.procResetEnded
  repeat' first
    | with_reducible assumption
    | ((with_reducible apply State.modProc_frame); (case hsub => exact List.Subset.trans (by decide) hsub))
    | ((with_reducible apply State.procResets_frame); (case hsub => exact List.Subset.trans (by decide) hsub))
    | with_reducible apply Changes.ite

/-- What `State.resetDone` may change. -/
theorem State.resetDone_frame {ps : List Part} {s0 : State} (s : State) (hst : Changes ps s0 s) (hsub : [.emitted, .freeCount, .topo, .sched, .units, .qu, .hang, .adm, .trace, .backup, .flash, .logSeq, .log, .port] ⊆ ps) :
    Changes ps s0 (State.resetDone s) := by
  unfold State.resetDone
  repeat' first
    | with_reducible assumption
    | ((with_reducible apply State.modReset_frame); (case hsub => exact List.Subset.trans (by decide) hsub))
    | ((with_reducible apply State.nextProcedure_frame); (case hsub => exact List.Subset.trans (by decide) hsub))
    | ((with_reducible apply State.nextReset_frame); (case hsub => exact List.Subset.trans (by decide) hsub))
    | ((with_reducible apply State.procResetEnded_frame); (case hsub => exact List.Subset.trans (by decide) hsub))
    | ((with_reducible apply State.restoreClusters_frame); (case hsub => exact List.Subset.trans (by decide) hsub))
    | ((with_reducible apply State.setHealth_frame); (case hsub => exact List.Subset.trans (by decide) hsub))
    | ((with_reducible apply State.traceFollow_frame); (case hsub => exact List.Subset.trans (by decide) hsub))
    | with_reducible apply Changes.ite

/-- What `State.releaseReset` may change. -/
theorem State.releaseReset_frame {ps : List Part} {s0 : State} (s : State) (hst : Changes ps s0 s) (hsub : [.emitted, .freeCount, .topo, .hub, .tb, .wireA, .wireR, .pod, .sched, .units, .qu, .hang, .adm, .bar, .trace, .backup, .flash, .logSeq, .log, .port] ⊆ ps) :
    Changes ps s0 (State.releaseReset s) := by
  unfold State.releaseReset
  repeat' first
    | with_reducible assumption
    | ((with_reducible apply State.emit_frame); (case hsub => exact List.Subset.trans (by decide) hsub))
    | ((with_reducible apply State.modReset_frame); (case hsub => exact List.Subset.trans (by decide) hsub))
    | ((with_reducible apply State.releasePart_frame); (case hsub => exact List.Subset.trans (by decide) hsub))
    | ((with_reducible apply State.resetDone_frame); (case hsub => exact List.Subset.trans (by decide) hsub))
    | with_reducible apply Changes.ite

/-- What `State.cancelCuts` may change. -/
theorem State.cancelCuts_frame {ps : List Part} {s0 : State} (s : State) (hst : Changes ps s0 s) (hsub : [.emitted, .sched, .units, .qu, .podCut, .adm, .backup, .flash, .logSeq, .log, .port] ⊆ ps) :
    Changes ps s0 (State.cancelCuts s) := by
  unfold State.cancelCuts
  repeat' first
    | with_reducible assumption
    | ((with_reducible apply State.cancelEntry_frame); (case hsub => exact List.Subset.trans (by decide) hsub))
    | ((fail_if_no_progress extract_lets a1))
    | dsimp only [a1]
    | ((with_reducible apply Changes.foldl); (case' h => intro a x ha; try dsimp only))

/-- What `State.fencePorts` may change. -/
theorem State.fencePorts_frame {ps : List Part} {s0 : State} (s : State) (on : Bool) (hst : Changes ps s0 s) (hsub : [.units] ⊆ ps) :
    Changes ps s0 (State.fencePorts s on) := by
  unfold State.fencePorts
  repeat' first
    | with_reducible assumption
    | ((with_reducible apply State.modPort_frame); (case hsub => exact List.Subset.trans (by decide) hsub))
    | ((with_reducible apply Changes.foldl); (case' h => intro a x ha; try dsimp only))

/-- What `State.retireAll` may change. -/
theorem State.retireAll_frame {ps : List Part} {s0 : State} (s : State) (hst : Changes ps s0 s) (hsub : [.emitted, .hang] ⊆ ps) :
    Changes ps s0 (State.retireAll s) := by
  unfold State.retireAll
  repeat' first
    | with_reducible assumption
    | ((with_reducible apply State.fettleContexts_frame); (case hsub => exact List.Subset.trans (by decide) hsub))
    | ((fail_if_no_progress extract_lets a1))
    | dsimp only [a1]
    | (simp only [Changes.mk_eq_upd]; (with_reducible apply Changes.upd); (case e2 | e17 => exact Or.inl (hsub (by decide))); all_goals first | with_reducible exact Or.inr rfl | skip)

/-- What `State.endResets` may change. -/
theorem State.endResets_frame {ps : List Part} {s0 : State} (s : State) (hst : Changes ps s0 s) (hsub : [.hang] ⊆ ps) :
    Changes ps s0 (State.endResets s) := by
  unfold State.endResets
  repeat' first
    | with_reducible assumption
    | ((with_reducible apply State.modReset_frame); (case hsub => exact List.Subset.trans (by decide) hsub))

/-- What `State.endSuspect` may change. -/
theorem State.endSuspect_frame {ps : List Part} {s0 : State} (s : State) (hst : Changes ps s0 s) (hsub : [.fm] ⊆ ps) :
    Changes ps s0 (State.endSuspect s) := by
  unfold State.endSuspect
  repeat' first
    | with_reducible assumption
    | ((fail_if_no_progress extract_lets a1))
    | dsimp only [a1]
    | (simp only [Changes.mk_eq_upd]; (with_reducible apply Changes.upd); (case e18 => exact Or.inl (hsub (by decide))); all_goals first | with_reducible exact Or.inr rfl | skip)

/-- What `State.startRecovery` may change. -/
theorem State.startRecovery_frame {ps : List Part} {s0 : State} (s : State) (trigger uid : Nat) (hst : Changes ps s0 s) (hsub : [.emitted, .sched, .units, .qu, .podCut, .dump, .hang, .fm, .adm, .backup, .flash, .logSeq, .log, .port, .lc] ⊆ ps) :
    Changes ps s0 (State.startRecovery s trigger uid) := by
  unfold State.startRecovery
  repeat' first
    | with_reducible assumption
    | ((with_reducible apply State.beacon_frame); (case hsub => exact List.Subset.trans (by decide) hsub))
    | ((with_reducible apply State.cancelCuts_frame); (case hsub => exact List.Subset.trans (by decide) hsub))
    | ((with_reducible apply State.endResets_frame); (case hsub => exact List.Subset.trans (by decide) hsub))
    | ((with_reducible apply State.endSuspect_frame); (case hsub => exact List.Subset.trans (by decide) hsub))
    | ((with_reducible apply State.enterOwn_frame); (case hsub => exact List.Subset.trans (by decide) hsub))
    | ((with_reducible apply State.fencePorts_frame); (case hsub => exact List.Subset.trans (by decide) hsub))
    | ((with_reducible apply State.modProc_frame); (case hsub => exact List.Subset.trans (by decide) hsub))
    | ((with_reducible apply State.retireAll_frame); (case hsub => exact List.Subset.trans (by decide) hsub))
    | ((with_reducible apply State.soAbort_frame); (case hsub => exact List.Subset.trans (by decide) hsub))
    | with_reducible apply Changes.ite
    | ((fail_if_no_progress extract_lets a1 a2); try (refine (have ha1 : Changes ps s0 a1 := ?_; ?_); rotate_left; clear_value a1); try (refine (have ha2 : Changes ps s0 a2 := ?_; ?_); rotate_left; clear_value a2))
    | (simp only [Changes.mk_eq_upd]; (with_reducible apply Changes.upd); (case e2 | e12 | e13 | e14 | e15 | e16 | e17 | e18 | e19 | e24 | e25 | e26 | e29 | e30 | e32 => exact Or.inl (hsub (by decide))); all_goals first | with_reducible exact Or.inr rfl | skip)
    | (with_reducible apply Changes.ofFst; rotate_left; (with_reducible assumption))
    | split
    | dsimp +zetaDelta only

end Sys2Proof.Machine
end

