-- ==== Sys2Proof/Laws/FrameContext.lean ====
section
/-!
SUPPORT. Frames of the operations of Machine/Context.lean: the parts of the state that each may change.
-/
namespace Sys2Proof.Machine

/-- What `State.cmdContextRemove` may change. -/
theorem State.cmdContextRemove_frame {ps : List Part} {s0 : State} (s : State) (ctx : Nat) (hst : Changes ps s0 s) (hsub : [.emitted, .hang] ⊆ ps) :
    Changes ps s0 ((State.cmdContextRemove s ctx).state) := by
  unfold State.cmdContextRemove
  repeat' first
    | with_reducible assumption
    | ((with_reducible apply State.accept_frame); (case hsub => exact List.Subset.trans (by decide) hsub))
    | ((with_reducible apply State.fettleContexts_frame); (case hsub => exact List.Subset.trans (by decide) hsub))
    | ((with_reducible apply State.refuse_frame); (case hsub => exact List.Subset.trans (by decide) hsub))
    | ((with_reducible apply State.requestRemoval_frame); (case hsub => exact List.Subset.trans (by decide) hsub))
    | split

/-- What `State.actOnOrder` may change. -/
theorem State.actOnOrder_frame {ps : List Part} {s0 : State} (s : State) (t : Nat) (c : CtxOrder) (hst : Changes ps s0 s) (hsub : [.emitted, .units, .hang] ⊆ ps) :
    Changes ps s0 (State.actOnOrder s t c) := by
  unfold State.actOnOrder
  repeat' first
    | with_reducible assumption
    | ((with_reducible apply State.emit_frame); (case hsub => exact List.Subset.trans (by decide) hsub))
    | ((with_reducible apply State.modGroup_frame); (case hsub => exact List.Subset.trans (by decide) hsub))
    | ((with_reducible apply State.modTap_frame); (case hsub => exact List.Subset.trans (by decide) hsub))
    | ((with_reducible apply State.sendAnswer_frame); (case hsub => exact List.Subset.trans (by decide) hsub))
    | with_reducible apply Changes.ite
    | ((fail_if_no_progress extract_lets a1))
    | dsimp only [a1]
    | (simp only [Changes.mk_eq_upd]; (with_reducible apply Changes.upd); (case e2 | e13 | e17 => exact Or.inl (hsub (by decide))); all_goals first | with_reducible exact Or.inr rfl | skip)

/-- What `State.targetsHeard` may change. -/
theorem State.targetsHeard_frame {ps : List Part} {s0 : State} (s : State) (ts : List Nat) (hst : Changes ps s0 s) (hsub : [.topo] ⊆ ps) :
    Changes ps s0 (State.targetsHeard s ts) := by
  unfold State.targetsHeard
  repeat' first
    | with_reducible assumption
    | ((with_reducible apply State.setHealth_frame); (case hsub => exact List.Subset.trans (by decide) hsub))
    | with_reducible apply Changes.ite
    | ((with_reducible apply Changes.foldl); (case' h => intro a x ha; try dsimp only))

/-- What `State.stallRemove` may change. -/
theorem State.stallRemove_frame {ps : List Part} {s0 : State} (s : State) (t : Nat) (hst : Changes ps s0 s) (hsub : [.emitted, .freeCount, .topo, .hang, .backup, .flash, .logSeq, .log, .port] ⊆ ps) :
    Changes ps s0 (State.stallRemove s t) := by
  unfold State.stallRemove
  repeat' first
    | with_reducible assumption
    | ((with_reducible apply State.holdEscalation_frame); (case hsub => exact List.Subset.trans (by decide) hsub))
    | ((with_reducible apply State.logged_frame); (case hsub => exact List.Subset.trans (by decide) hsub))
    | ((with_reducible apply State.wantReset_frame); (case hsub => exact List.Subset.trans (by decide) hsub))
    | with_reducible apply Changes.ite

/-- What `State.endCtx` may change. -/
theorem State.endCtx_frame {ps : List Part} {s0 : State} (s : State) (c : CtxCast) (hst : Changes ps s0 s) (hsub : [.emitted, .freeCount, .topo, .qu, .hang, .bar, .backup, .flash, .logSeq, .log, .port] ⊆ ps) :
    Changes ps s0 (State.endCtx s c) := by
  unfold State.endCtx
  repeat' first
    | with_reducible assumption
    | ((with_reducible apply State.dropCtx_frame); (case hsub => exact List.Subset.trans (by decide) hsub))
    | ((with_reducible apply State.putCtx_frame); (case hsub => exact List.Subset.trans (by decide) hsub))
    | ((with_reducible apply State.replayVerdict_frame); (case hsub => exact List.Subset.trans (by decide) hsub))
    | ((with_reducible apply State.stallRemove_frame); (case hsub => exact List.Subset.trans (by decide) hsub))
    | ((with_reducible apply State.unresponsive_frame); (case hsub => exact List.Subset.trans (by decide) hsub))
    | with_reducible apply Changes.ite
    | ((fail_if_no_progress extract_lets a1 a2 a3))
    | dsimp only [a1]
    | dsimp only [a2]
    | dsimp only [a3]
    | ((with_reducible apply Changes.foldl); (case' h => intro a x ha; try dsimp only))
    | split

end Sys2Proof.Machine
end

