-- ==== Sys2Proof/Laws/FrameUnitReset.lean ====
section
/-!
SUPPORT. Frames of the operations of Machine/UnitReset.lean: the parts of the state that each may change.
-/
namespace Sys2Proof.Machine

/-- What `State.cmdUnitResetPulse` may change. -/
theorem State.cmdUnitResetPulse_frame {ps : List Part} {s0 : State} (s : State) (uid part : Nat) (attested : Bool) (hst : Changes ps s0 s) (hsub : [.emitted, .freeCount, .topo, .hang, .backup, .flash, .logSeq, .log, .port] ⊆ ps) :
    Changes ps s0 ((State.cmdUnitResetPulse s uid part attested).state) := by
  unfold State.cmdUnitResetPulse
  repeat' first
    | with_reducible assumption
    | ((with_reducible apply State.accept_frame); (case hsub => exact List.Subset.trans (by decide) hsub))
    | ((with_reducible apply State.acceptReset_frame); (case hsub => exact List.Subset.trans (by decide) hsub))
    | ((with_reducible apply State.refuse_frame); (case hsub => exact List.Subset.trans (by decide) hsub))
    | split

/-- What `State.cmdUnitResetHold` may change. -/
theorem State.cmdUnitResetHold_frame {ps : List Part} {s0 : State} (s : State) (uid part : Nat) (attested : Bool) (hst : Changes ps s0 s) (hsub : [.emitted, .freeCount, .topo, .hang, .backup, .flash, .logSeq, .log, .port] ⊆ ps) :
    Changes ps s0 ((State.cmdUnitResetHold s uid part attested).state) := by
  unfold State.cmdUnitResetHold
  repeat' first
    | with_reducible assumption
    | ((with_reducible apply State.accept_frame); (case hsub => exact List.Subset.trans (by decide) hsub))
    | ((with_reducible apply State.acceptReset_frame); (case hsub => exact List.Subset.trans (by decide) hsub))
    | ((with_reducible apply State.refuse_frame); (case hsub => exact List.Subset.trans (by decide) hsub))
    | split

/-- What `State.cmdUnitResetRelease` may change. -/
theorem State.cmdUnitResetRelease_frame {ps : List Part} {s0 : State} (s : State) (uid part : Nat) (attested : Bool) (hst : Changes ps s0 s) (hsub : [.emitted, .freeCount, .topo, .hub, .tb, .wireA, .wireR, .pod, .sched, .units, .qu, .hang, .adm, .bar, .trace, .backup, .flash, .logSeq, .log, .port] ⊆ ps) :
    Changes ps s0 ((State.cmdUnitResetRelease s uid part attested).state) := by
  unfold State.cmdUnitResetRelease
  repeat' first
    | with_reducible assumption
    | ((with_reducible apply State.accept_frame); (case hsub => exact List.Subset.trans (by decide) hsub))
    | ((with_reducible apply State.modReset_frame); (case hsub => exact List.Subset.trans (by decide) hsub))
    | ((with_reducible apply State.refuse_frame); (case hsub => exact List.Subset.trans (by decide) hsub))
    | ((with_reducible apply State.releaseReset_frame); (case hsub => exact List.Subset.trans (by decide) hsub))
    | ((fail_if_no_progress extract_lets a1 a2))
    | dsimp only [a1]
    | dsimp only [a2]
    | split

/-- What `State.cmdRecoveryLevel` may change. -/
theorem State.cmdRecoveryLevel_frame {ps : List Part} {s0 : State} (s : State) (value : Nat) (hst : Changes ps s0 s) (hsub : [.emitted, .sched, .units, .qu, .podCut, .dump, .hang, .fm, .adm, .backup, .flash, .logSeq, .log, .port, .lc] ⊆ ps) :
    Changes ps s0 ((State.cmdRecoveryLevel s value).state) := by
  unfold State.cmdRecoveryLevel
  repeat' first
    | with_reducible assumption
    | ((with_reducible apply State.accept_frame); (case hsub => exact List.Subset.trans (by decide) hsub))
    | ((with_reducible apply State.refuse_frame); (case hsub => exact List.Subset.trans (by decide) hsub))
    | ((with_reducible apply State.startRecovery_frame); (case hsub => exact List.Subset.trans (by decide) hsub))
    | split

/-- What `State.recoveryReset` may change. -/
theorem State.recoveryReset_frame {ps : List Part} {s0 : State} (s : State) (hst : Changes ps s0 s) (hsub : [.topo, .units, .qu, .hang, .bar, .trace, .rst, .dram] ⊆ ps) :
    Changes ps s0 (State.recoveryReset s) := by
  unfold State.recoveryReset
  repeat' first
    | with_reducible assumption
    | ((with_reducible apply State.endOrders_frame); (case hsub => exact List.Subset.trans (by decide) hsub))
    | ((with_reducible apply State.forgetClusters_frame); (case hsub => exact List.Subset.trans (by decide) hsub))
    | ((with_reducible apply State.modGroup_frame); (case hsub => exact List.Subset.trans (by decide) hsub))
    | ((with_reducible apply State.modPort_frame); (case hsub => exact List.Subset.trans (by decide) hsub))
    | ((with_reducible apply State.modRunner_frame); (case hsub => exact List.Subset.trans (by decide) hsub))
    | ((with_reducible apply State.modTap_frame); (case hsub => exact List.Subset.trans (by decide) hsub))
    | ((with_reducible apply State.setHealth_frame); (case hsub => exact List.Subset.trans (by decide) hsub))
    | ((with_reducible apply State.thawSink_frame); (case hsub => exact List.Subset.trans (by decide) hsub))
    | with_reducible apply Changes.ite
    | ((fail_if_no_progress extract_lets a1 a2 a3 a4 a5 a6); try (refine (have ha1 : Changes ps s0 a1 := ?_; ?_); rotate_left; clear_value a1); try (refine (have ha2 : Changes ps s0 a2 := ?_; ?_); rotate_left; clear_value a2); try (refine (have ha3 : Changes ps s0 a3 := ?_; ?_); rotate_left; clear_value a3); try (refine (have ha4 : Changes ps s0 a4 := ?_; ?_); rotate_left; clear_value a4); try (refine (have ha5 : Changes ps s0 a5 := ?_; ?_); rotate_left; clear_value a5))
    | dsimp only [a1]
    | dsimp only [a3]
    | dsimp only [a4]
    | dsimp only [a5]
    | dsimp only [a6]
    | (simp only [Changes.mk_eq_upd]; (with_reducible apply Changes.upd); (case e5 | e13 | e14 | e17 | e20 | e21 | e23 | e34 => exact Or.inl (hsub (by decide))); all_goals first | with_reducible exact Or.inr rfl | skip)
    | ((with_reducible apply Changes.foldl); (case' h => intro a x ha; try dsimp only))

/-- What `State.forgiveRow` may change. -/
theorem State.forgiveRow_frame {ps : List Part} {s0 : State} (s : State) (r : Nat) (hst : Changes ps s0 s) (hsub : [.topo] ⊆ ps) :
    Changes ps s0 (State.forgiveRow s r) := by
  unfold State.forgiveRow
  repeat' first
    | with_reducible assumption
    | ((with_reducible apply State.putRow_frame); (case hsub => exact List.Subset.trans (by decide) hsub))

/-- What `State.recoveryRows` may change. -/
theorem State.recoveryRows_frame {ps : List Part} {s0 : State} (s : State) (hst : Changes ps s0 s)
    (hsub : [.emitted, .units, .topo, .trace] ⊆ ps) : Changes ps s0 (State.recoveryRows s) := by
  unfold State.recoveryRows
  have ht : [Part.topo] ⊆ ps := List.Subset.trans (by decide) hsub
  extract_lets a1
  have h1 : Changes ps s0 a1 := by
    apply State.restoreRows_frame (hsub := ht)
    exact Changes.foldl _ (fun a x ha => State.forgiveRow_frame _ _ ha ht) _ _ hst
  clear_value a1
  apply State.traceFollow_frame (hsub := List.Subset.trans (by decide) hsub)
  refine Changes.foldl _ (fun a x ha => ?_) _ _ h1
  apply Changes.ite _ ha
  exact State.setHealth_frame _ _ _ ha ht

/-- What `State.memoryLost` may change. -/
theorem State.memoryLost_frame {ps : List Part} {s0 : State} (s : State) (hst : Changes ps s0 s) (hsub : [.freeCount, .dump, .trace, .dram] ⊆ ps) :
    Changes ps s0 (State.memoryLost s) := by
  unfold State.memoryLost
  repeat' first
    | with_reducible assumption
    | ((with_reducible apply State.drawn_frame); (case hsub => exact List.Subset.trans (by decide) hsub))
    | ((with_reducible apply State.modSink_frame); (case hsub => exact List.Subset.trans (by decide) hsub))
    | ((with_reducible apply State.reserveGone_frame); (case hsub => exact List.Subset.trans (by decide) hsub))
    | ((fail_if_no_progress extract_lets a1 a2); try (refine (have ha1 : Changes ps s0 a1 := ?_; ?_); rotate_left; clear_value a1); try (refine (have ha2 : Changes ps s0 a2 := ?_; ?_); rotate_left; clear_value a2))
    | dsimp only [a2]
    | (simp only [Changes.mk_eq_upd]; (with_reducible apply Changes.upd); (case e3 | e16 | e21 | e34 => exact Or.inl (hsub (by decide))); all_goals first | with_reducible exact Or.inr rfl | skip)
    | ((with_reducible apply Changes.foldl); (case' h => intro a x ha; try dsimp only))

/-- What `State.liftFence` may change. -/
theorem State.liftFence_frame {ps : List Part} {s0 : State} (s : State) (hst : Changes ps s0 s) (hsub : [.units] ⊆ ps) :
    Changes ps s0 (State.liftFence s) := by
  unfold State.liftFence
  repeat' first
    | with_reducible assumption
    | ((with_reducible apply State.modPort_frame); (case hsub => exact List.Subset.trans (by decide) hsub))
    | with_reducible apply Changes.ite
    | ((with_reducible apply Changes.foldl); (case' h => intro a x ha; try dsimp only))

/-- What `State.recoveryEnds` may change. -/
theorem State.recoveryEnds_frame {ps : List Part} {s0 : State} (s : State) (result : Nat) (hst : Changes ps s0 s) (hsub : [.hang, .fm, .adm] ⊆ ps) :
    Changes ps s0 (State.recoveryEnds s result) := by
  unfold State.recoveryEnds
  repeat' first
    | with_reducible assumption
    | ((with_reducible apply State.modProc_frame); (case hsub => exact List.Subset.trans (by decide) hsub))
    | ((fail_if_no_progress extract_lets a1 a2); try (refine (have ha1 : Changes ps s0 a1 := ?_; ?_); rotate_left; clear_value a1))
    | dsimp only [a2]
    | (simp only [Changes.mk_eq_upd]; (with_reducible apply Changes.upd); (case e17 | e18 | e19 => exact Or.inl (hsub (by decide))); all_goals first | with_reducible exact Or.inr rfl | skip)

/-- What `State.recoveryDone` may change. -/
theorem State.recoveryDone_frame {ps : List Part} {s0 : State} (s : State) (hst : Changes ps s0 s) (hsub : [.emitted, .units, .hang, .fm, .adm, .backup, .flash, .logSeq, .log, .port] ⊆ ps) :
    Changes ps s0 (State.recoveryDone s) := by
  unfold State.recoveryDone
  repeat' first
    | with_reducible assumption
    | ((with_reducible apply State.liftFence_frame); (case hsub => exact List.Subset.trans (by decide) hsub))
    | ((with_reducible apply State.recoveryEnds_frame); (case hsub => exact List.Subset.trans (by decide) hsub))
    | ((with_reducible apply State.told_frame); (case hsub => exact List.Subset.trans (by decide) hsub))

end Sys2Proof.Machine
end

