-- ==== Sys2Proof/Laws/FrameHang.lean ====
section
/-!
SUPPORT. Frames of the operations of Machine/Hang.lean: the parts of the state that each may change.
-/
namespace Sys2Proof.Machine

/-- What `State.watchBeat` may change. -/
theorem State.watchBeat_frame {ps : List Part} {s0 : State} (s : State) (c frame : Nat) (beat : Option Nat) (hst : Changes ps s0 s) (hsub : [.hang] ⊆ ps) :
    Changes ps s0 (State.watchBeat s c frame beat) := by
  unfold State.watchBeat
  repeat' first
    | with_reducible assumption
    | ((fail_if_no_progress extract_lets a1 a2 a3))
    | dsimp only [a1]
    | dsimp only [a2]
    | dsimp only [a3]
    | (simp only [Changes.mk_eq_upd]; (with_reducible apply Changes.upd); (case e17 => exact Or.inl (hsub (by decide))); all_goals first | with_reducible exact Or.inr rfl | skip)
    | split

/-- What `State.watchTap` may change. -/
theorem State.watchTap_frame {ps : List Part} {s0 : State} (s : State) (c : Nat) (hst : Changes ps s0 s) (hsub : [.hang] ⊆ ps) :
    Changes ps s0 (State.watchTap s c) := by
  unfold State.watchTap
  repeat' first
    | with_reducible assumption
    | ((fail_if_no_progress extract_lets a1 a2))
    | dsimp only [a1]
    | dsimp only [a2]
    | (simp only [Changes.mk_eq_upd]; (with_reducible apply Changes.upd); (case e17 => exact Or.inl (hsub (by decide))); all_goals first | with_reducible exact Or.inr rfl | skip)

/-- What `State.watchEngines` may change. -/
theorem State.watchEngines_frame {ps : List Part} {s0 : State} (s : State) (die frame : Nat) (l : List (EngineReport × Bool)) (hst : Changes ps s0 s) (hsub : [.hang] ⊆ ps) :
    Changes ps s0 (State.watchEngines s die frame l) := by
  unfold State.watchEngines
  repeat' first
    | with_reducible assumption
    | ((fail_if_no_progress extract_lets a1 a2 a3 a4 a5))
    | dsimp only [a1]
    | dsimp only [a2]
    | dsimp only [a3]
    | dsimp only [a4]
    | dsimp only [a5]
    | (simp only [Changes.mk_eq_upd]; (with_reducible apply Changes.upd); (case e17 => exact Or.inl (hsub (by decide))); all_goals first | with_reducible exact Or.inr rfl | skip)

/-- What `State.evaluateDie` may change. -/
theorem State.evaluateDie_frame {ps : List Part} {s0 : State} (s : State) (frame die : Nat) (hst : Changes ps s0 s) (hsub : [.hang, .power] ⊆ ps) :
    Changes ps s0 (State.evaluateDie s frame die) := by
  unfold State.evaluateDie
  repeat' first
    | with_reducible assumption
    | ((with_reducible apply State.modDie_frame); (case hsub => exact List.Subset.trans (by decide) hsub))
    | ((with_reducible apply State.watchBeat_frame); (case hsub => exact List.Subset.trans (by decide) hsub))
    | ((with_reducible apply State.watchEngines_frame); (case hsub => exact List.Subset.trans (by decide) hsub))
    | ((with_reducible apply State.watchTap_frame); (case hsub => exact List.Subset.trans (by decide) hsub))
    | with_reducible apply Changes.ite
    | ((fail_if_no_progress extract_lets a1); try (refine (have ha1 : Changes ps s0 a1 := ?_; ?_); rotate_left; clear_value a1))
    | dsimp only [a1]
    | ((with_reducible apply Changes.foldl); (case' h => intro a x ha; try dsimp only))
    | dsimp only
    | split

/-- What `State.watchViews` may change. -/
theorem State.watchViews_frame {ps : List Part} {s0 : State} (s : State) (hst : Changes ps s0 s) (hsub : [.fm] ⊆ ps) :
    Changes ps s0 (State.watchViews s) := by
  unfold State.watchViews
  repeat' first
    | with_reducible assumption
    | ((fail_if_no_progress extract_lets a1 a2 a3))
    | dsimp only [a1]
    | dsimp only [a2]
    | dsimp only [a3]
    | (simp only [Changes.mk_eq_upd]; (with_reducible apply Changes.upd); (case e18 => exact Or.inl (hsub (by decide))); all_goals first | with_reducible exact Or.inr rfl | skip)

end Sys2Proof.Machine
end

