-- ==== Sys2Proof/Laws/FrameFaultOps.lean ====
section
/-!
SUPPORT. Frames of the operations of Machine/FaultOps.lean: the parts of the state that each may change.
-/
namespace Sys2Proof.Machine

/-- What `State.marchReference` may change. -/
theorem State.marchReference_frame {ps : List Part} {s0 : State} (s : State) (hst : Changes ps s0 s) (hsub : [.emitted, .dump, .fm, .backup, .flash, .logSeq, .log, .port] ⊆ ps) :
    Changes ps s0 (State.marchReference s) := by
  unfold State.marchReference
  repeat' first
    | with_reducible assumption
    | ((with_reducible apply State.overwrite_frame); (case hsub => exact List.Subset.trans (by decide) hsub))
    | ((fail_if_no_progress extract_lets a1 a2); try (refine (have ha1 : Changes ps s0 a1 := ?_; ?_); rotate_left; clear_value a1))
    | dsimp only [a2]
    | (simp only [Changes.mk_eq_upd]; (with_reducible apply Changes.upd); (case e2 | e16 | e18 | e24 | e25 | e26 | e29 | e30 => exact Or.inl (hsub (by decide))); all_goals first | with_reducible exact Or.inr rfl | skip)

/-- What `State.startTest` may change. -/
theorem State.startTest_frame {ps : List Part} {s0 : State} (s : State) (hst : Changes ps s0 s) (hsub : [.emitted, .dump, .fm, .bar, .backup, .flash, .logSeq, .log, .port] ⊆ ps) :
    Changes ps s0 (State.startTest s) := by
  unfold State.startTest
  repeat' first
    | with_reducible assumption
    | ((with_reducible apply State.marchReference_frame); (case hsub => exact List.Subset.trans (by decide) hsub))
    | with_reducible apply Changes.ite
    | ((fail_if_no_progress extract_lets a1 a2))
    | dsimp only [a1]
    | dsimp only [a2]
    | (simp only [Changes.mk_eq_upd]; (with_reducible apply Changes.upd); (case e2 | e16 | e18 | e20 | e24 | e25 | e26 | e29 | e30 => exact Or.inl (hsub (by decide))); all_goals first | with_reducible exact Or.inr rfl | skip)

/-- What `State.marchAfter` may change. -/
theorem State.marchAfter_frame {ps : List Part} {s0 : State} (s : State) (hst : Changes ps s0 s) (hsub : [.emitted, .dump, .fm, .backup, .flash, .logSeq, .log, .port] ⊆ ps) :
    Changes ps s0 (State.marchAfter s) := by
  unfold State.marchAfter
  repeat' first
    | with_reducible assumption
    | ((with_reducible apply State.marchReference_frame); (case hsub => exact List.Subset.trans (by decide) hsub))
    | with_reducible apply Changes.ite

/-- What `State.putTest` may change. -/
theorem State.putTest_frame {ps : List Part} {s0 : State} (s : State) (r : SelfTest) (hst : Changes ps s0 s) (hsub : [.emitted, .dump, .fm, .backup, .flash, .logSeq, .log, .port] ⊆ ps) :
    Changes ps s0 (State.putTest s r) := by
  unfold State.putTest
  repeat' first
    | with_reducible assumption
    | ((with_reducible apply State.marchAfter_frame); (case hsub => exact List.Subset.trans (by decide) hsub))
    | ((fail_if_no_progress extract_lets a1 a2); try (refine (have ha1 : Changes ps s0 a1 := ?_; ?_); rotate_left; clear_value a1))
    | dsimp only [a2]
    | (simp only [Changes.mk_eq_upd]; (with_reducible apply Changes.upd); (case e2 | e16 | e18 | e24 | e25 | e26 | e29 | e30 => exact Or.inl (hsub (by decide))); all_goals first | with_reducible exact Or.inr rfl | skip)

/-- What `State.suspectTest` may change. -/
theorem State.suspectTest_frame {ps : List Part} {s0 : State} (s : State) (hst : Changes ps s0 s) (hsub : [.emitted, .dump, .fm, .bar, .backup, .flash, .logSeq, .log, .port] ⊆ ps) :
    Changes ps s0 (State.suspectTest s) := by
  unfold State.suspectTest
  repeat' first
    | with_reducible assumption
    | ((with_reducible apply State.startTest_frame); (case hsub => exact List.Subset.trans (by decide) hsub))
    | ((fail_if_no_progress extract_lets a1))
    | dsimp only [a1]
    | (simp only [Changes.mk_eq_upd]; (with_reducible apply Changes.upd); (case e2 | e16 | e18 | e20 | e24 | e25 | e26 | e29 | e30 => exact Or.inl (hsub (by decide))); all_goals first | with_reducible exact Or.inr rfl | skip)

/-- What `State.expelEnds` may change. -/
theorem State.expelEnds_frame {ps : List Part} {s0 : State} (s : State) (hst : Changes ps s0 s) (hsub : [.emitted, .hang, .fm, .adm, .backup, .flash, .logSeq, .log, .port] ⊆ ps) :
    Changes ps s0 (State.expelEnds s) := by
  unfold State.expelEnds
  repeat' first
    | with_reducible assumption
    | ((with_reducible apply State.admFail_frame); (case hsub => exact List.Subset.trans (by decide) hsub))
    | ((with_reducible apply State.endProcedure_frame); (case hsub => exact List.Subset.trans (by decide) hsub))
    | ((with_reducible apply State.endSuspect_frame); (case hsub => exact List.Subset.trans (by decide) hsub))
    | ((with_reducible apply State.logged_frame); (case hsub => exact List.Subset.trans (by decide) hsub))
    | ((with_reducible apply State.modProc_frame); (case hsub => exact List.Subset.trans (by decide) hsub))
    | ((with_reducible apply State.urged_frame); (case hsub => exact List.Subset.trans (by decide) hsub))
    | with_reducible apply Changes.ite
    | ((fail_if_no_progress extract_lets a1 a2))
    | dsimp only [a1]
    | dsimp only [a2]
    | (simp only [Changes.mk_eq_upd]; (with_reducible apply Changes.upd); (case e2 | e17 | e18 | e19 | e24 | e25 | e26 | e29 | e30 => exact Or.inl (hsub (by decide))); all_goals first | with_reducible exact Or.inr rfl | skip)

/-- What `State.acceptExpel` may change. -/
theorem State.acceptExpel_frame {ps : List Part} {s0 : State} (s : State) (o : List Byte) (hst : Changes ps s0 s) (hsub : [.emitted, .sched, .units, .qu, .podCut, .dump, .hang, .fm, .adm, .backup, .flash, .logSeq, .log, .port] ⊆ ps) :
    Changes ps s0 (State.acceptExpel s o) := by
  unfold State.acceptExpel
  repeat' first
    | with_reducible assumption
    | ((with_reducible apply State.beacon_frame); (case hsub => exact List.Subset.trans (by decide) hsub))
    | ((with_reducible apply State.cancelCuts_frame); (case hsub => exact List.Subset.trans (by decide) hsub))
    | ((with_reducible apply State.expelEnds_frame); (case hsub => exact List.Subset.trans (by decide) hsub))
    | ((with_reducible apply State.persist_frame); (case hsub => exact List.Subset.trans (by decide) hsub))
    | ((with_reducible apply State.soAbort_frame); (case hsub => exact List.Subset.trans (by decide) hsub))
    | ((with_reducible apply State.urged_frame); (case hsub => exact List.Subset.trans (by decide) hsub))
    | with_reducible apply Changes.ite
    | ((fail_if_no_progress extract_lets a1 a2 a3 a4 a5); try (refine (have ha1 : Changes ps s0 a1 := ?_; ?_); rotate_left; clear_value a1))
    | dsimp only [a1]
    | dsimp only [a2]
    | dsimp only [a3]
    | dsimp only [a4]
    | dsimp only [a5]
    | (simp only [Changes.mk_eq_upd]; (with_reducible apply Changes.upd); (case e2 | e12 | e13 | e14 | e15 | e16 | e17 | e18 | e19 | e24 | e25 | e26 | e29 | e30 => exact Or.inl (hsub (by decide))); all_goals first | with_reducible exact Or.inr rfl | skip)

/-- What `State.acceptRelease` may change. -/
theorem State.acceptRelease_frame {ps : List Part} {s0 : State} (s : State) (o : List Byte) (hst : Changes ps s0 s) (hsub : [.emitted, .units, .fm, .adm, .backup, .flash, .logSeq, .log, .port] ⊆ ps) :
    Changes ps s0 (State.acceptRelease s o) := by
  unfold State.acceptRelease
  repeat' first
    | with_reducible assumption
    | ((with_reducible apply State.liftFence_frame); (case hsub => exact List.Subset.trans (by decide) hsub))
    | ((with_reducible apply State.persist_frame); (case hsub => exact List.Subset.trans (by decide) hsub))
    | ((with_reducible apply State.urged_frame); (case hsub => exact List.Subset.trans (by decide) hsub))
    | with_reducible apply Changes.ite
    | ((fail_if_no_progress extract_lets a1 a2 a3))
    | dsimp only [a1]
    | dsimp only [a2]
    | dsimp only [a3]
    | (simp only [Changes.mk_eq_upd]; (with_reducible apply Changes.upd); (case e2 | e13 | e18 | e19 | e24 | e25 | e26 | e29 | e30 => exact Or.inl (hsub (by decide))); all_goals first | with_reducible exact Or.inr rfl | skip)

/-- What `State.orderWrite` may change. -/
theorem State.orderWrite_frame {ps : List Part} {s0 : State} (s : State) (o : List Byte) (hst : Changes ps s0 s) (hsub : [.emitted, .sched, .units, .qu, .podCut, .dump, .hang, .fm, .adm, .backup, .flash, .logSeq, .log, .port] ⊆ ps) :
    Changes ps s0 ((State.orderWrite s o).state) := by
  unfold State.orderWrite
  repeat' first
    | with_reducible assumption
    | ((with_reducible apply State.accept_frame); (case hsub => exact List.Subset.trans (by decide) hsub))
    | ((with_reducible apply State.acceptExpel_frame); (case hsub => exact List.Subset.trans (by decide) hsub))
    | ((with_reducible apply State.acceptRelease_frame); (case hsub => exact List.Subset.trans (by decide) hsub))
    | ((with_reducible apply State.logged_frame); (case hsub => exact List.Subset.trans (by decide) hsub))
    | split

/-- What `State.putShort` may change. -/
theorem State.putShort_frame {ps : List Part} {s0 : State} (s : State) (hst : Changes ps s0 s) (hsub : [.adm] ⊆ ps) :
    Changes ps s0 (State.putShort s) := by
  unfold State.putShort
  repeat' first
    | with_reducible assumption
    | ((fail_if_no_progress extract_lets a1 a2 a3))
    | dsimp only [a1]
    | dsimp only [a2]
    | dsimp only [a3]
    | (simp only [Changes.mk_eq_upd]; (with_reducible apply Changes.upd); (case e19 => exact Or.inl (hsub (by decide))); all_goals first | with_reducible exact Or.inr rfl | skip)

/-- What `State.admHeard` may change. -/
theorem State.admHeard_frame {ps : List Part} {s0 : State} (s : State) (hst : Changes ps s0 s) (hsub : [.adm] ⊆ ps) :
    Changes ps s0 (State.admHeard s) := by
  unfold State.admHeard
  repeat' first
    | with_reducible assumption
    | ((fail_if_no_progress extract_lets a1))
    | dsimp only [a1]
    | (simp only [Changes.mk_eq_upd]; (with_reducible apply Changes.upd); (case e19 => exact Or.inl (hsub (by decide))); all_goals first | with_reducible exact Or.inr rfl | skip)

/-- What `State.admBadCrc` may change. -/
theorem State.admBadCrc_frame {ps : List Part} {s0 : State} (s : State) (die : Nat) (hst : Changes ps s0 s) (hsub : [.emitted, .adm, .backup, .flash, .logSeq, .log, .port] ⊆ ps) :
    Changes ps s0 (State.admBadCrc s die) := by
  unfold State.admBadCrc
  repeat' first
    | with_reducible assumption
    | ((with_reducible apply State.logged_frame); (case hsub => exact List.Subset.trans (by decide) hsub))
    | ((fail_if_no_progress extract_lets a1))
    | dsimp only [a1]
    | (simp only [Changes.mk_eq_upd]; (with_reducible apply Changes.upd); (case e2 | e19 | e24 | e25 | e26 | e29 | e30 => exact Or.inl (hsub (by decide))); all_goals first | with_reducible exact Or.inr rfl | skip)

/-- What `State.admCount` may change. -/
theorem State.admCount_frame {ps : List Part} {s0 : State} (s : State) (die bytes : Nat) (payload : List Byte) (hst : Changes ps s0 s) (hsub : [.adm] ⊆ ps) :
    Changes ps s0 (State.admCount s die bytes payload) := by
  unfold State.admCount
  repeat' first
    | with_reducible assumption
    | ((fail_if_no_progress extract_lets a1 a2))
    | dsimp only [a1]
    | dsimp only [a2]
    | (simp only [Changes.mk_eq_upd]; (with_reducible apply Changes.upd); (case e19 => exact Or.inl (hsub (by decide))); all_goals first | with_reducible exact Or.inr rfl | skip)

/-- What `State.admWave` may change. -/
theorem State.admWave_frame {ps : List Part} {s0 : State} (s : State) (second : Bool) (hst : Changes ps s0 s) (hsub : [.emitted, .adm] ⊆ ps) :
    Changes ps s0 (State.admWave s second) := by
  unfold State.admWave
  repeat' first
    | with_reducible assumption
    | ((with_reducible apply State.emit_frame); (case hsub => exact List.Subset.trans (by decide) hsub))
    | ((fail_if_no_progress extract_lets a1 a2 a3))
    | dsimp only [a1]
    | dsimp only [a2]
    | dsimp only [a3]
    | (simp only [Changes.mk_eq_upd]; (with_reducible apply Changes.upd); (case e2 | e19 => exact Or.inl (hsub (by decide))); all_goals first | with_reducible exact Or.inr rfl | skip)
    | ((with_reducible apply Changes.foldl); (case' h => intro a x ha; try dsimp only))

end Sys2Proof.Machine
end

