-- ==== Sys2Proof/Laws/FrameFaultMgmt.lean ====
section
/-!
SUPPORT. Frames of the operations of Machine/FaultMgmt.lean: the parts of the state that each may change.
-/
namespace Sys2Proof.Machine

/-- What `State.readmitStep` may change. -/
theorem State.readmitStep_frame {ps : List Part} {s0 : State} (s : State) (hst : Changes ps s0 s) (hsub : [.emitted, .freeCount, .topo, .sched, .units, .qu, .hang, .adm, .backup, .flash, .logSeq, .log, .port] ⊆ ps) :
    Changes ps s0 (State.readmitStep s) := by
  unfold State.readmitStep
  repeat' first
    | with_reducible assumption
    | ((with_reducible apply State.endProcedure_frame); (case hsub => exact List.Subset.trans (by decide) hsub))
    | ((with_reducible apply State.modReset_frame); (case hsub => exact List.Subset.trans (by decide) hsub))
    | ((with_reducible apply State.nextProcedure_frame); (case hsub => exact List.Subset.trans (by decide) hsub))
    | ((with_reducible apply State.readmit_frame); (case hsub => exact List.Subset.trans (by decide) hsub))
    | with_reducible apply Changes.ite

/-- What `State.admitStep` may change. -/
theorem State.admitStep_frame {ps : List Part} {s0 : State} (s : State) (step : Nat) (hst : Changes ps s0 s) (hsub : [.emitted, .sched, .units, .qu, .adm, .backup, .flash, .logSeq, .log, .port] ⊆ ps) :
    Changes ps s0 (State.admitStep s step) := by
  unfold State.admitStep
  repeat' first
    | with_reducible assumption
    | ((with_reducible apply State.admFail_frame); (case hsub => exact List.Subset.trans (by decide) hsub))
    | ((with_reducible apply State.enterOwn_frame); (case hsub => exact List.Subset.trans (by decide) hsub))
    | ((with_reducible apply State.putShort_frame); (case hsub => exact List.Subset.trans (by decide) hsub))
    | ((with_reducible apply State.told_frame); (case hsub => exact List.Subset.trans (by decide) hsub))
    | with_reducible apply Changes.ite
    | (simp only [Changes.mk_eq_upd]; (with_reducible apply Changes.upd); (case e2 | e12 | e13 | e14 | e19 | e24 | e25 | e26 | e29 | e30 => exact Or.inl (hsub (by decide))); all_goals first | with_reducible exact Or.inr rfl | skip)
    | (with_reducible apply Changes.ofFst; rotate_left; (with_reducible assumption))
    | dsimp only
    | split

/-- What `State.mapMark` may change. -/
theorem State.mapMark_frame {ps : List Part} {s0 : State} (s : State) (hst : Changes ps s0 s) (hsub : [.emitted, .topo, .units, .trace] ⊆ ps) :
    Changes ps s0 (State.mapMark s) := by
  unfold State.mapMark
  repeat' first
    | with_reducible assumption
    | ((with_reducible apply State.mapStep_frame); (case hsub => exact List.Subset.trans (by decide) hsub))
    | ((with_reducible apply State.traceFollow_frame); (case hsub => exact List.Subset.trans (by decide) hsub))
    | with_reducible apply Changes.ite

/-- What `State.suspectReport` may change. -/
theorem State.suspectReport_frame {ps : List Part} {s0 : State} (s : State) (hst : Changes ps s0 s) (hsub : [.emitted, .backup, .flash, .logSeq, .log, .port] ⊆ ps) :
    Changes ps s0 (State.suspectReport s) := by
  unfold State.suspectReport
  repeat' first
    | with_reducible assumption
    | ((with_reducible apply State.urged_frame); (case hsub => exact List.Subset.trans (by decide) hsub))

/-- What `State.admCut` may change. -/
theorem State.admCut_frame {ps : List Part} {s0 : State} (s : State) (hst : Changes ps s0 s) (hsub : [.emitted, .sched, .units, .qu, .adm, .backup, .flash, .logSeq, .log, .port] ⊆ ps) :
    Changes ps s0 (State.admCut s) := by
  unfold State.admCut
  repeat' first
    | with_reducible assumption
    | ((with_reducible apply State.admFail_frame); (case hsub => exact List.Subset.trans (by decide) hsub))
    | ((with_reducible apply State.enterOwn_frame); (case hsub => exact List.Subset.trans (by decide) hsub))
    | with_reducible apply Changes.ite
    | ((fail_if_no_progress extract_lets a1))
    | dsimp only [a1]
    | (simp only [Changes.mk_eq_upd]; (with_reducible apply Changes.upd); (case e2 | e12 | e13 | e14 | e19 | e24 | e25 | e26 | e29 | e30 => exact Or.inl (hsub (by decide))); all_goals first | with_reducible exact Or.inr rfl | skip)
    | (with_reducible apply Changes.ofFst; rotate_left; (with_reducible assumption))
    | split

/-- What `State.admTested` may change. -/
theorem State.admTested_frame {ps : List Part} {s0 : State} (s : State) (r : SelfTest) (hst : Changes ps s0 s) (hsub : [.emitted, .sched, .units, .qu, .adm, .backup, .flash, .logSeq, .log, .port] ⊆ ps) :
    Changes ps s0 (State.admTested s r) := by
  unfold State.admTested
  repeat' first
    | with_reducible assumption
    | ((with_reducible apply State.admCut_frame); (case hsub => exact List.Subset.trans (by decide) hsub))
    | ((with_reducible apply State.admFail_frame); (case hsub => exact List.Subset.trans (by decide) hsub))
    | ((with_reducible apply State.putShort_frame); (case hsub => exact List.Subset.trans (by decide) hsub))
    | with_reducible apply Changes.ite

/-- What `State.cmdSuspectCmdClear` may change. -/
theorem State.cmdSuspectCmdClear_frame {ps : List Part} {s0 : State} (s : State) (hst : Changes ps s0 s) (hsub : [.fm] ⊆ ps) :
    Changes ps s0 ((State.cmdSuspectCmdClear s).state) := by
  unfold State.cmdSuspectCmdClear
  repeat' first
    | with_reducible assumption
    | ((with_reducible apply State.accept_frame); (case hsub => exact List.Subset.trans (by decide) hsub))
    | ((with_reducible apply State.endSuspect_frame); (case hsub => exact List.Subset.trans (by decide) hsub))
    | ((with_reducible apply State.refuse_frame); (case hsub => exact List.Subset.trans (by decide) hsub))
    | split

/-- What `State.expelWithoutCut` may change. -/
theorem State.expelWithoutCut_frame {ps : List Part} {s0 : State} (s : State) (hst : Changes ps s0 s) (hsub : [.emitted, .fm, .backup, .flash, .logSeq, .log, .port] ⊆ ps) :
    Changes ps s0 (State.expelWithoutCut s) := by
  unfold State.expelWithoutCut
  repeat' first
    | with_reducible assumption
    | ((with_reducible apply State.logged_frame); (case hsub => exact List.Subset.trans (by decide) hsub))
    | ((fail_if_no_progress extract_lets a1))
    | dsimp only [a1]
    | (simp only [Changes.mk_eq_upd]; (with_reducible apply Changes.upd); (case e2 | e18 | e24 | e25 | e26 | e29 | e30 => exact Or.inl (hsub (by decide))); all_goals first | with_reducible exact Or.inr rfl | skip)

/-- What `State.expelClosed` may change. -/
theorem State.expelClosed_frame {ps : List Part} {s0 : State} (s : State) (g : Image) (hst : Changes ps s0 s) (hsub : [.emitted, .fm, .backup, .flash, .logSeq, .log, .port] ⊆ ps) :
    Changes ps s0 (State.expelClosed s g) := by
  unfold State.expelClosed
  repeat' first
    | with_reducible assumption
    | ((with_reducible apply State.urged_frame); (case hsub => exact List.Subset.trans (by decide) hsub))
    | with_reducible apply Changes.ite
    | ((fail_if_no_progress extract_lets a1))
    | dsimp only [a1]
    | (simp only [Changes.mk_eq_upd]; (with_reducible apply Changes.upd); (case e2 | e18 | e24 | e25 | e26 | e29 | e30 => exact Or.inl (hsub (by decide))); all_goals first | with_reducible exact Or.inr rfl | skip)

/-- What `State.suspectClosed` may change. -/
theorem State.suspectClosed_frame {ps : List Part} {s0 : State} (s : State) (g : Image) (hst : Changes ps s0 s) (hsub : [.emitted, .dump, .fm, .bar, .backup, .flash, .logSeq, .log, .port] ⊆ ps) :
    Changes ps s0 (State.suspectClosed s g) := by
  unfold State.suspectClosed
  repeat' first
    | with_reducible assumption
    | ((with_reducible apply State.suspectTest_frame); (case hsub => exact List.Subset.trans (by decide) hsub))
    | with_reducible apply Changes.ite
    | ((fail_if_no_progress extract_lets a1))
    | dsimp only [a1]
    | (simp only [Changes.mk_eq_upd]; (with_reducible apply Changes.upd); (case e2 | e16 | e18 | e20 | e24 | e25 | e26 | e29 | e30 => exact Or.inl (hsub (by decide))); all_goals first | with_reducible exact Or.inr rfl | skip)

end Sys2Proof.Machine
end

