-- ==== Sys2Proof/Laws/FrameAdmit.lean ====
section
/-!
SUPPORT. Frames of the operations of Machine/Admit.lean: the parts of the state that each may change.
-/
namespace Sys2Proof.Machine

/-- What `State.cmdAdmBegin` may change. -/
theorem State.cmdAdmBegin_frame {ps : List Part} {s0 : State} (s : State) (hst : Changes ps s0 s) (hsub : [.emitted, .dump, .fm, .adm, .bar, .backup, .flash, .logSeq, .log, .port] ⊆ ps) :
    Changes ps s0 ((State.cmdAdmBegin s).state) := by
  unfold State.cmdAdmBegin
  repeat' first
    | with_reducible assumption
    | ((with_reducible apply State.accept_frame); (case hsub => exact List.Subset.trans (by decide) hsub))
    | ((with_reducible apply State.refuse_frame); (case hsub => exact List.Subset.trans (by decide) hsub))
    | ((with_reducible apply State.startTest_frame); (case hsub => exact List.Subset.trans (by decide) hsub))
    | ((fail_if_no_progress extract_lets a1 a2))
    | dsimp only [a1]
    | dsimp only [a2]
    | (simp only [Changes.mk_eq_upd]; (with_reducible apply Changes.upd); (case e2 | e16 | e18 | e19 | e20 | e24 | e25 | e26 | e29 | e30 => exact Or.inl (hsub (by decide))); all_goals first | with_reducible exact Or.inr rfl | skip)
    | split

/-- What `State.cmdAdmServe` may change. -/
theorem State.cmdAdmServe_frame {ps : List Part} {s0 : State} (s : State) (hst : Changes ps s0 s) (hsub : [.emitted, .adm] ⊆ ps) :
    Changes ps s0 ((State.cmdAdmServe s).state) := by
  unfold State.cmdAdmServe
  repeat' first
    | with_reducible assumption
    | ((with_reducible apply State.accept_frame); (case hsub => exact List.Subset.trans (by decide) hsub))
    | ((with_reducible apply State.emitAll_frame); (case hsub => exact List.Subset.trans (by decide) hsub))
    | ((with_reducible apply State.refuse_frame); (case hsub => exact List.Subset.trans (by decide) hsub))
    | ((fail_if_no_progress extract_lets a1 a2))
    | dsimp only [a1]
    | dsimp only [a2]
    | (simp only [Changes.mk_eq_upd]; (with_reducible apply Changes.upd); (case e2 | e19 => exact Or.inl (hsub (by decide))); all_goals first | with_reducible exact Or.inr rfl | skip)
    | split

/-- What `State.endStream` may change. -/
theorem State.endStream_frame {ps : List Part} {s0 : State} (s : State) (count sum status bytes : Nat) (hst : Changes ps s0 s) (hsub : [.emitted, .adm] ⊆ ps) :
    Changes ps s0 (State.endStream s count sum status bytes) := by
  unfold State.endStream
  repeat' first
    | with_reducible assumption
    | ((with_reducible apply State.emitAll_frame); (case hsub => exact List.Subset.trans (by decide) hsub))
    | ((fail_if_no_progress extract_lets a1 a2); try (refine (have ha1 : Changes ps s0 a1 := ?_; ?_); rotate_left; clear_value a1))
    | dsimp only [a2]
    | (simp only [Changes.mk_eq_upd]; (with_reducible apply Changes.upd); (case e2 | e19 => exact Or.inl (hsub (by decide))); all_goals first | with_reducible exact Or.inr rfl | skip)

/-- What `State.cmdAdmAbort` may change. -/
theorem State.cmdAdmAbort_frame {ps : List Part} {s0 : State} (s : State) (hst : Changes ps s0 s) (hsub : [.emitted, .freeCount, .adm, .backup, .flash, .logSeq, .log, .port] ⊆ ps) :
    Changes ps s0 ((State.cmdAdmAbort s).state) := by
  unfold State.cmdAdmAbort
  repeat' first
    | with_reducible assumption
    | ((with_reducible apply State.accept_frame); (case hsub => exact List.Subset.trans (by decide) hsub))
    | ((with_reducible apply State.admFail_frame); (case hsub => exact List.Subset.trans (by decide) hsub))
    | ((with_reducible apply State.drawn_frame); (case hsub => exact List.Subset.trans (by decide) hsub))
    | ((with_reducible apply State.endStream_frame); (case hsub => exact List.Subset.trans (by decide) hsub))
    | ((fail_if_no_progress extract_lets a1))
    | dsimp only [a1]
    | split

/-- What `State.admCore` may change. -/
theorem State.admCore_frame {ps : List Part} {s0 : State} (s : State) (die : Nat) (r : StreamRec) (hst : Changes ps s0 s) (hsub : [.emitted, .adm, .backup, .flash, .logSeq, .log, .port] ⊆ ps) :
    Changes ps s0 (State.admCore s die r) := by
  unfold State.admCore
  repeat' first
    | with_reducible assumption
    | ((with_reducible apply State.admCount_frame); (case hsub => exact List.Subset.trans (by decide) hsub))
    | ((with_reducible apply State.admFail_frame); (case hsub => exact List.Subset.trans (by decide) hsub))
    | ((with_reducible apply State.emit_frame); (case hsub => exact List.Subset.trans (by decide) hsub))
    | split

/-- What `State.admRegion` may change. -/
theorem State.admRegion_frame {ps : List Part} {s0 : State} (s : State) (die : Nat) (r : StreamRec) (hst : Changes ps s0 s) (hsub : [.emitted, .adm, .backup, .flash, .logSeq, .log, .port, .dram] ⊆ ps) :
    Changes ps s0 (State.admRegion s die r) := by
  unfold State.admRegion
  repeat' first
    | with_reducible assumption
    | ((with_reducible apply State.admCount_frame); (case hsub => exact List.Subset.trans (by decide) hsub))
    | ((with_reducible apply State.admFail_frame); (case hsub => exact List.Subset.trans (by decide) hsub))
    | ((with_reducible apply State.stackWrite_frame); (case hsub => exact List.Subset.trans (by decide) hsub))
    | with_reducible apply Changes.ite
    | ((fail_if_no_progress extract_lets a1 a2); try (refine (have ha1 : Changes ps s0 a1 := ?_; ?_); rotate_left; clear_value a1))
    | dsimp only [a2]
    | (simp only [Changes.mk_eq_upd]; (with_reducible apply Changes.upd); (case e2 | e19 | e24 | e25 | e26 | e29 | e30 | e34 => exact Or.inl (hsub (by decide))); all_goals first | with_reducible exact Or.inr rfl | skip)

end Sys2Proof.Machine
end

