-- ==== Sys2Proof/Laws/FrameJobs.lean ====
section
/-!
SUPPORT. Frames of the operations of Machine/Jobs.lean: the parts of the state that each may change.
-/
namespace Sys2Proof.Machine

/-- What `State.admitJob` may change. -/
theorem State.admitJob_frame {ps : List Part} {s0 : State} (s : State) (slot j : Nat) (hst : Changes ps s0 s) (hsub : [.power] ⊆ ps) :
    Changes ps s0 (State.admitJob s slot j) := by
  unfold State.admitJob
  repeat' first
    | with_reducible assumption
    | with_reducible apply Changes.ite
    | (simp only [Changes.mk_eq_upd]; (with_reducible apply Changes.upd); (case e22 => exact Or.inl (hsub (by decide))); all_goals first | with_reducible exact Or.inr rfl | skip)

/-- What `State.jobsBegin` may change. -/
theorem State.jobsBegin_frame {ps : List Part} {s0 : State} (s : State) (before : BitVec 4) (hst : Changes ps s0 s) (hsub : [.emitted, .freeCount, .units, .dump, .hang] ⊆ ps) :
    Changes ps s0 (State.jobsBegin s before) := by
  unfold State.jobsBegin
  repeat' first
    | with_reducible assumption
    | ((with_reducible apply State.feedDie_frame); (case hsub => exact List.Subset.trans (by decide) hsub))
    | ((with_reducible apply State.fettleContexts_frame); (case hsub => exact List.Subset.trans (by decide) hsub))
    | with_reducible apply Changes.ite
    | ((with_reducible apply Changes.foldl); (case' h => intro a x ha; try dsimp only))

/-- What `State.newPeriod` may change. -/
theorem State.newPeriod_frame {ps : List Part} {s0 : State} (s : State) (at_ : Nat) (hst : Changes ps s0 s) (hsub : [.power] ⊆ ps) :
    Changes ps s0 (State.newPeriod s at_) := by
  unfold State.newPeriod
  repeat' first
    | with_reducible assumption
    | ((fail_if_no_progress extract_lets a1))
    | dsimp only [a1]
    | (simp only [Changes.mk_eq_upd]; (with_reducible apply Changes.upd); (case e22 => exact Or.inl (hsub (by decide))); all_goals first | with_reducible exact Or.inr rfl | skip)

/-- What `State.ageJobs` may change. -/
theorem State.ageJobs_frame {ps : List Part} {s0 : State} (s : State) (starved : List Nat) (hst : Changes ps s0 s) (hsub : [.power] ⊆ ps) :
    Changes ps s0 (State.ageJobs s starved) := by
  unfold State.ageJobs
  repeat' first
    | with_reducible assumption
    | ((fail_if_no_progress extract_lets a1))
    | dsimp only [a1]
    | (simp only [Changes.mk_eq_upd]; (with_reducible apply Changes.upd); (case e22 => exact Or.inl (hsub (by decide))); all_goals first | with_reducible exact Or.inr rfl | skip)

/-- What `State.endJob` may change. -/
theorem State.endJob_frame {ps : List Part} {s0 : State} (slot : Nat) (s : State) (j : Nat) (hst : Changes ps s0 s) (hsub : [.power] ⊆ ps) :
    Changes ps s0 (State.endJob slot s j) := by
  unfold State.endJob
  repeat' first
    | with_reducible assumption
    | with_reducible apply Changes.ite
    | ((fail_if_no_progress extract_lets a1))
    | dsimp only [a1]
    | (simp only [Changes.mk_eq_upd]; (with_reducible apply Changes.upd); (case e22 => exact Or.inl (hsub (by decide))); all_goals first | with_reducible exact Or.inr rfl | skip)

end Sys2Proof.Machine
end

