-- ==== Sys2Proof/Laws/FrameBar.lean ====
section
/-!
SUPPORT. Frames of the operations of Machine/Bar.lean: the parts of the state that each may change.
-/
namespace Sys2Proof.Machine

/-- What `State.addCredit` may change. -/
theorem State.addCredit_frame {ps : List Part} {s0 : State} (s : State) (hst : Changes ps s0 s) (hsub : [.bar] ⊆ ps) :
    Changes ps s0 (State.addCredit s) := by
  unfold State.addCredit
  repeat' first
    | with_reducible assumption
    | ((fail_if_no_progress extract_lets a1 a2 a3))
    | dsimp only [a1]
    | dsimp only [a2]
    | dsimp only [a3]
    | (simp only [Changes.mk_eq_upd]; (with_reducible apply Changes.upd); (case e20 => exact Or.inl (hsub (by decide))); all_goals first | with_reducible exact Or.inr rfl | skip)

/-- What `State.sampleSlot` may change. -/
theorem State.sampleSlot_frame {ps : List Part} {s0 : State} (s : State) (slot : Nat) (hst : Changes ps s0 s) (hsub : [.emitted, .bar] ⊆ ps) :
    Changes ps s0 (State.sampleSlot s slot) := by
  unfold State.sampleSlot
  repeat' first
    | with_reducible assumption
    | ((with_reducible apply State.issueFirst_frame); (case hsub => exact List.Subset.trans (by decide) hsub))
    | ((with_reducible apply State.issueNext_frame); (case hsub => exact List.Subset.trans (by decide) hsub))

/-- What `State.cmdTbEventAck` may change. -/
theorem State.cmdTbEventAck_frame {ps : List Part} {s0 : State} (s : State) (seq : Nat) (hst : Changes ps s0 s) (hsub : [.bar] ⊆ ps) :
    Changes ps s0 ((State.cmdTbEventAck s seq).state) := by
  unfold State.cmdTbEventAck
  repeat' first
    | with_reducible assumption
    | ((with_reducible apply State.accept_frame); (case hsub => exact List.Subset.trans (by decide) hsub))
    | ((with_reducible apply State.refuse_frame); (case hsub => exact List.Subset.trans (by decide) hsub))
    | ((fail_if_no_progress extract_lets a1))
    | dsimp only [a1]
    | (simp only [Changes.mk_eq_upd]; (with_reducible apply Changes.upd); (case e20 => exact Or.inl (hsub (by decide))); all_goals first | with_reducible exact Or.inr rfl | skip)
    | split

/-- What `State.cmdTbQuarantineClear` may change. -/
theorem State.cmdTbQuarantineClear_frame {ps : List Part} {s0 : State} (s : State) (idx : Nat) (hst : Changes ps s0 s) (hsub : [.bar, .flash] ⊆ ps) :
    Changes ps s0 ((State.cmdTbQuarantineClear s idx).state) := by
  unfold State.cmdTbQuarantineClear
  repeat' first
    | with_reducible assumption
    | ((with_reducible apply State.accept_frame); (case hsub => exact List.Subset.trans (by decide) hsub))
    | ((with_reducible apply State.refuse_frame); (case hsub => exact List.Subset.trans (by decide) hsub))
    | ((with_reducible apply State.setQuarantine_frame); (case hsub => exact List.Subset.trans (by decide) hsub))
    | split

/-- What `State.loadKernel` may change. -/
theorem State.loadKernel_frame {ps : List Part} {s0 : State} (s : State) (bytes : List Byte) (hst : Changes ps s0 s) (hsub : [.bar] ⊆ ps) :
    Changes ps s0 ((State.loadKernel s bytes).state) := by
  unfold State.loadKernel
  repeat' first
    | with_reducible assumption
    | ((with_reducible apply State.accept_frame); (case hsub => exact List.Subset.trans (by decide) hsub))
    | ((with_reducible apply State.refuse_frame); (case hsub => exact List.Subset.trans (by decide) hsub))
    | ((fail_if_no_progress extract_lets a1 a2 a3 a4 a5))
    | dsimp only [a1]
    | dsimp only [a2]
    | dsimp only [a3]
    | dsimp only [a4]
    | dsimp only [a5]
    | (simp only [Changes.mk_eq_upd]; (with_reducible apply Changes.upd); (case e20 => exact Or.inl (hsub (by decide))); all_goals first | with_reducible exact Or.inr rfl | skip)
    | split

/-- What `State.startRun` may change. -/
theorem State.startRun_frame {ps : List Part} {s0 : State} (s : State) (kernel uid engine : Nat) (onEngine : Bool) (hst : Changes ps s0 s) (hsub : [.emitted, .bar] ⊆ ps) :
    Changes ps s0 ((State.startRun s kernel uid engine onEngine).state) := by
  unfold State.startRun
  repeat' first
    | with_reducible assumption
    | ((with_reducible apply State.accept_frame); (case hsub => exact List.Subset.trans (by decide) hsub))
    | ((with_reducible apply State.refuse_frame); (case hsub => exact List.Subset.trans (by decide) hsub))
    | ((with_reducible apply State.sendOp_frame); (case hsub => exact List.Subset.trans (by decide) hsub))
    | ((fail_if_no_progress extract_lets a1 a2))
    | dsimp only [a1]
    | dsimp only [a2]
    | (simp only [Changes.mk_eq_upd]; (with_reducible apply Changes.upd); (case e2 | e20 => exact Or.inl (hsub (by decide))); all_goals first | with_reducible exact Or.inr rfl | skip)
    | split

end Sys2Proof.Machine
end

