-- ==== Sys2Proof/Laws/FrameTakeover.lean ====
section
/-!
SUPPORT. Frames of the operations of Machine/Takeover.lean: the parts of the state that each may change.
-/
namespace Sys2Proof.Machine

/-- What `State.takeoverAt` may change. -/
theorem State.takeoverAt_frame {ps : List Part} {s0 : State} (s : State) (phase ns : Nat) (f : Takeover → State → State) (hst : Changes ps s0 s) (h_f : ∀ (x0 : Takeover) (x1 : State), Changes ps s0 x1 → Changes ps s0 (f x0 x1)) (hsub : [] ⊆ ps) :
    Changes ps s0 (State.takeoverAt s phase ns f) := by
  unfold State.takeoverAt
  repeat' first
    | with_reducible assumption
    | with_reducible apply h_f
    | with_reducible apply Changes.ite
    | split

/-- What `State.swapRoles` may change. -/
theorem State.swapRoles_frame {ps : List Part} {s0 : State} (s : State) (hst : Changes ps s0 s) (hsub : [.hub, .tb, .wireA, .wireR, .pod, .units] ⊆ ps) :
    Changes ps s0 (State.swapRoles s) := by
  unfold State.swapRoles
  repeat' first
    | with_reducible assumption
    | ((with_reducible apply State.modCore_frame); (case hsub => exact List.Subset.trans (by decide) hsub))
    | ((with_reducible apply State.modReplica_frame); (case hsub => exact List.Subset.trans (by decide) hsub))
    | ((with_reducible apply State.putWire_frame); (case hsub => exact List.Subset.trans (by decide) hsub))
    | ((with_reducible apply State.setFreq_frame); (case hsub => exact List.Subset.trans (by decide) hsub))
    | ((with_reducible apply State.startWire_frame); (case hsub => exact List.Subset.trans (by decide) hsub))
    | ((fail_if_no_progress extract_lets a1 a2 a3 a4 a5 a6 a7))
    | dsimp only [a2]
    | dsimp only [a3]
    | dsimp only [a4]
    | dsimp only [a5]
    | dsimp only [a6]
    | dsimp only [a7]
    | (simp only [Changes.mk_eq_upd]; (with_reducible apply Changes.upd); (case e6 | e7 | e8 | e9 | e10 | e13 => exact Or.inl (hsub (by decide))); all_goals first | with_reducible exact Or.inr rfl | skip)
    | ((with_reducible apply Changes.foldl); (case' h => intro a x ha; try dsimp only))

/-- What `State.resendTier0` may change. -/
theorem State.resendTier0_frame {ps : List Part} {s0 : State} (s : State) (hst : Changes ps s0 s) (hsub : [.emitted] ⊆ ps) :
    Changes ps s0 (State.resendTier0 s) := by
  unfold State.resendTier0
  repeat' first
    | with_reducible assumption
    | ((with_reducible apply State.emit_frame); (case hsub => exact List.Subset.trans (by decide) hsub))
    | with_reducible apply Changes.ite
    | ((with_reducible apply Changes.foldl); (case' h => intro a x ha; try dsimp only))
    | split

/-- What `State.fromMirrors` may change. -/
theorem State.fromMirrors_frame {ps : List Part} {s0 : State} (s : State) (k : Takeover) (hst : Changes ps s0 s) (hsub : [.dump, .log] ⊆ ps) :
    Changes ps s0 (State.fromMirrors s k) := by
  unfold State.fromMirrors
  repeat' first
    | with_reducible assumption
    | (simp only [Changes.mk_eq_upd]; (with_reducible apply Changes.upd); (case e16 | e29 => exact Or.inl (hsub (by decide))); all_goals first | with_reducible exact Or.inr rfl | skip)

/-- What `State.loseStaged` may change. -/
theorem State.loseStaged_frame {ps : List Part} {s0 : State} (s : State) (hst : Changes ps s0 s) (hsub : [.frame] ⊆ ps) :
    Changes ps s0 ((State.loseStaged s).1) := by
  unfold State.loseStaged
  repeat' first
    | with_reducible assumption
    | ((fail_if_no_progress extract_lets a1))
    | dsimp only [a1]
    | (simp only [Changes.mk_eq_upd]; (with_reducible apply Changes.upd); (case e11 => exact Or.inl (hsub (by decide))); all_goals first | with_reducible exact Or.inr rfl | skip)

/-- What `State.reissueRemovals` may change. -/
theorem State.reissueRemovals_frame {ps : List Part} {s0 : State} (s : State) (hst : Changes ps s0 s) (hsub : [.emitted] ⊆ ps) :
    Changes ps s0 (State.reissueRemovals s) := by
  unfold State.reissueRemovals
  repeat' first
    | with_reducible assumption
    | ((with_reducible apply State.emit_frame); (case hsub => exact List.Subset.trans (by decide) hsub))
    | with_reducible apply Changes.ite
    | ((with_reducible apply Changes.foldl); (case' h => intro a x ha; try dsimp only))

/-- What `State.overdueEntry` may change. -/
theorem State.overdueEntry_frame {ps : List Part} {s0 : State} (s : State) (n : Nat) (hst : Changes ps s0 s) (hsub : [.emitted, .topo, .hub, .tb, .pod, .frame, .sched, .units, .qu, .adm, .trace, .power, .backup, .flash, .logSeq, .log, .port, .fw, .dram] ⊆ ps) :
    Changes ps s0 (State.overdueEntry s n) := by
  unfold State.overdueEntry
  repeat' first
    | with_reducible assumption
    | ((with_reducible apply State.completeEntry_frame); (case hsub => exact List.Subset.trans (by decide) hsub))
    | ((with_reducible apply State.lateEntry_frame); (case hsub => exact List.Subset.trans (by decide) hsub))
    | ((with_reducible apply State.runPending_frame); (case hsub => exact List.Subset.trans (by decide) hsub))
    | with_reducible apply Changes.ite

/-- What `State.runOverdue` may change. -/
theorem State.runOverdue_frame {ps : List Part} {s0 : State} (s : State) (k : Takeover) (hst : Changes ps s0 s) (hsub : [.emitted, .topo, .hub, .tb, .pod, .frame, .sched, .units, .qu, .adm, .trace, .power, .backup, .flash, .logSeq, .log, .port, .fw, .dram] ⊆ ps) :
    Changes ps s0 (State.runOverdue s k) := by
  unfold State.runOverdue
  repeat' first
    | with_reducible assumption
    | ((with_reducible apply State.overdueEntry_frame); (case hsub => exact List.Subset.trans (by decide) hsub))
    | ((with_reducible apply Changes.foldl); (case' h => intro a x ha; try dsimp only))

/-- What `State.stopAtSwitch` may change. -/
theorem State.stopAtSwitch_frame {ps : List Part} {s0 : State} (s : State) (k : Takeover) (hst : Changes ps s0 s) (hsub : [.emitted, .sched, .units, .qu, .podCut, .adm, .backup, .flash, .logSeq, .log, .port, .pins] ⊆ ps) :
    Changes ps s0 (State.stopAtSwitch s k) := by
  unfold State.stopAtSwitch
  repeat' first
    | with_reducible assumption
    | ((with_reducible apply State.stopCancels_frame); (case hsub => exact List.Subset.trans (by decide) hsub))
    | ((with_reducible apply State.tryStop_frame); (case hsub => exact List.Subset.trans (by decide) hsub))
    | with_reducible apply Changes.ite

/-- What `State.endTransfers` may change. -/
theorem State.endTransfers_frame {ps : List Part} {s0 : State} (s : State) (hst : Changes ps s0 s) (hsub : [.emitted, .port] ⊆ ps) :
    Changes ps s0 (State.endTransfers s) := by
  unfold State.endTransfers
  repeat' first
    | with_reducible assumption
    | ((with_reducible apply State.emit_frame); (case hsub => exact List.Subset.trans (by decide) hsub))
    | ((with_reducible apply State.sendIn_frame); (case hsub => exact List.Subset.trans (by decide) hsub))
    | ((fail_if_no_progress extract_lets a1 a2); try (refine (have ha1 : Changes ps s0 a1 := ?_; ?_); rotate_left; clear_value a1))
    | dsimp only [a1]
    | dsimp only [a2]
    | (simp only [Changes.mk_eq_upd]; (with_reducible apply Changes.upd); (case e2 | e30 => exact Or.inl (hsub (by decide))); all_goals first | with_reducible exact Or.inr rfl | skip)
    | ((with_reducible apply Changes.foldl); (case' h => intro a x ha; try dsimp only))
    | split

/-- What `State.updateSwapped` may change. -/
theorem State.updateSwapped_frame {ps : List Part} {s0 : State} (s : State) (k : Takeover) (hst : Changes ps s0 s) (hsub : [.topo, .hub, .tb, .wireA, .wireR, .pod, .bar, .fw] ⊆ ps) :
    Changes ps s0 (State.updateSwapped s k) := by
  unfold State.updateSwapped
  repeat' first
    | with_reducible assumption
    | ((with_reducible apply State.coreUp_frame); (case hsub => exact List.Subset.trans (by decide) hsub))
    | ((with_reducible apply State.modCore_frame); (case hsub => exact List.Subset.trans (by decide) hsub))
    | ((with_reducible apply State.setHealth_frame); (case hsub => exact List.Subset.trans (by decide) hsub))
    | with_reducible apply Changes.ite
    | ((fail_if_no_progress extract_lets a1 a2 a3 a4 a5))
    | dsimp only [a1]
    | dsimp only [a2]
    | dsimp only [a3]
    | dsimp only [a4]
    | dsimp only [a5]
    | (simp only [Changes.mk_eq_upd]; (with_reducible apply Changes.upd); (case e5 | e6 | e7 | e8 | e9 | e10 | e20 | e31 => exact Or.inl (hsub (by decide))); all_goals first | with_reducible exact Or.inr rfl | skip)

end Sys2Proof.Machine
end

