-- ==== Sys2Proof/Laws/FrameResetOps.lean ====
section
/-!
SUPPORT. Frames of the operations of Machine/ResetOps.lean: the parts of the state that each may change.
-/
namespace Sys2Proof.Machine

/-- What `State.countReset` may change. -/
theorem State.countReset_frame {ps : List Part} {s0 : State} (s : State) (cause : Nat) (hst : Changes ps s0 s) (hsub : [.backup] ⊆ ps) :
    Changes ps s0 (State.countReset s cause) := by
  unfold State.countReset
  repeat' first
    | with_reducible assumption
    | ((fail_if_no_progress extract_lets a1 a2))
    | dsimp only [a1]
    | dsimp only [a2]
    | (simp only [Changes.mk_eq_upd]; (with_reducible apply Changes.upd); (case e24 => exact Or.inl (hsub (by decide))); all_goals first | with_reducible exact Or.inr rfl | skip)

/-- What `State.controllerWords` may change. -/
theorem State.controllerWords_frame {ps : List Part} {s0 : State} (s : State) (code : Nat) (hst : Changes ps s0 s) (hsub : [.backup] ⊆ ps) :
    Changes ps s0 (State.controllerWords s code) := by
  unfold State.controllerWords
  repeat' first
    | with_reducible assumption
    | ((with_reducible apply State.writeLastWords_frame); (case hsub => exact List.Subset.trans (by decide) hsub))

/-- What `State.endShakeout` may change. -/
theorem State.endShakeout_frame {ps : List Part} {s0 : State} (s : State) (hst : Changes ps s0 s) (hsub : [.dump] ⊆ ps) :
    Changes ps s0 (State.endShakeout s) := by
  unfold State.endShakeout
  repeat' first
    | with_reducible assumption
    | ((with_reducible apply State.modSlot_frame); (case hsub => exact List.Subset.trans (by decide) hsub))
    | with_reducible apply Changes.ite
    | ((fail_if_no_progress extract_lets a1 a2))
    | dsimp only [a1]
    | dsimp only [a2]
    | (simp only [Changes.mk_eq_upd]; (with_reducible apply Changes.upd); (case e16 => exact Or.inl (hsub (by decide))); all_goals first | with_reducible exact Or.inr rfl | skip)
    | split

/-- What `State.modRst` may change. -/
theorem State.modRst_frame {ps : List Part} {s0 : State} (s : State) (f : Reset → Reset) (hst : Changes ps s0 s) (hsub : [.rst] ⊆ ps) :
    Changes ps s0 (State.modRst s f) := by
  unfold State.modRst
  repeat' first
    | with_reducible assumption
    | (simp only [Changes.mk_eq_upd]; (with_reducible apply Changes.upd); (case e23 => exact Or.inl (hsub (by decide))); all_goals first | with_reducible exact Or.inr rfl | skip)

/-- What `State.coresStart` may change. -/
theorem State.coresStart_frame {ps : List Part} {s0 : State} (s : State) (hst : Changes ps s0 s) (hsub : [.hub] ⊆ ps) :
    Changes ps s0 (State.coresStart s) := by
  unfold State.coresStart
  repeat' first
    | with_reducible assumption
    | ((fail_if_no_progress extract_lets a1 a2))
    | dsimp only [a1]
    | dsimp only [a2]
    | (simp only [Changes.mk_eq_upd]; (with_reducible apply Changes.upd); (case e6 => exact Or.inl (hsub (by decide))); all_goals first | with_reducible exact Or.inr rfl | skip)

/-- What `State.refettle` may change. -/
theorem State.refettle_frame {ps : List Part} {s0 : State} (s : State) (hst : Changes ps s0 s) (hsub : [.lc] ⊆ ps) :
    Changes ps s0 (State.refettle s) := by
  unfold State.refettle
  repeat' first
    | with_reducible assumption
    | with_reducible apply Changes.ite
    | ((fail_if_no_progress extract_lets a1 a2))
    | dsimp only [a1]
    | dsimp only [a2]
    | (simp only [Changes.mk_eq_upd]; (with_reducible apply Changes.upd); (case e32 => exact Or.inl (hsub (by decide))); all_goals first | with_reducible exact Or.inr rfl | skip)

/-- What `State.runnerUp` may change. -/
theorem State.runnerUp_frame {ps : List Part} {s0 : State} (s : State) (die : Nat) (hst : Changes ps s0 s) (hsub : [.tb, .wireA, .wireR, .units] ⊆ ps) :
    Changes ps s0 (State.runnerUp s die) := by
  unfold State.runnerUp
  repeat' first
    | with_reducible assumption
    | ((with_reducible apply State.modRunner_frame); (case hsub => exact List.Subset.trans (by decide) hsub))
    | ((with_reducible apply State.resetRep_frame); (case hsub => exact List.Subset.trans (by decide) hsub))
    | ((with_reducible apply Changes.foldl); (case' h => intro a x ha; try dsimp only))

/-- What `State.standbyUp` may change. -/
theorem State.standbyUp_frame {ps : List Part} {s0 : State} (s : State) (hst : Changes ps s0 s) (hsub : [.tb] ⊆ ps) :
    Changes ps s0 (State.standbyUp s) := by
  unfold State.standbyUp
  repeat' first
    | with_reducible assumption
    | with_reducible apply Changes.ite
    | ((fail_if_no_progress extract_lets a1))
    | dsimp only [a1]
    | (simp only [Changes.mk_eq_upd]; (with_reducible apply Changes.upd); (case e7 => exact Or.inl (hsub (by decide))); all_goals first | with_reducible exact Or.inr rfl | skip)

/-- What `State.timeUp` may change. -/
theorem State.timeUp_frame {ps : List Part} {s0 : State} (s : State) (hst : Changes ps s0 s) (hsub : [.hub, .tb, .wireA, .wireR, .frame] ⊆ ps) :
    Changes ps s0 (State.timeUp s) := by
  unfold State.timeUp
  repeat' first
    | with_reducible assumption
    | ((with_reducible apply State.modCore_frame); (case hsub => exact List.Subset.trans (by decide) hsub))
    | ((with_reducible apply State.standbyUp_frame); (case hsub => exact List.Subset.trans (by decide) hsub))
    | ((with_reducible apply State.startWire_frame); (case hsub => exact List.Subset.trans (by decide) hsub))
    | with_reducible apply Changes.ite
    | ((fail_if_no_progress extract_lets a1 a2 a3); try (refine (have ha1 : Changes ps s0 a1 := ?_; ?_); rotate_left; clear_value a1))
    | dsimp only [a2]
    | dsimp only [a3]
    | (simp only [Changes.mk_eq_upd]; (with_reducible apply Changes.upd); (case e6 | e7 | e8 | e9 | e11 => exact Or.inl (hsub (by decide))); all_goals first | with_reducible exact Or.inr rfl | skip)
    | ((with_reducible apply Changes.foldl); (case' h => intro a x ha; try dsimp only))

/-- What `State.memoryUp` may change. -/
theorem State.memoryUp_frame {ps : List Part} {s0 : State} (s : State) (hst : Changes ps s0 s) (hsub : [.emitted, .hang] ⊆ ps) :
    Changes ps s0 (State.memoryUp s) := by
  unfold State.memoryUp
  repeat' first
    | with_reducible assumption
    | ((with_reducible apply State.emit_frame); (case hsub => exact List.Subset.trans (by decide) hsub))
    | (simp only [Changes.mk_eq_upd]; (with_reducible apply Changes.upd); (case e2 | e17 => exact Or.inl (hsub (by decide))); all_goals first | with_reducible exact Or.inr rfl | skip)
    | ((with_reducible apply Changes.foldl); (case' h => intro a x ha; try dsimp only))

/-- What `State.clusterUp` may change. -/
theorem State.clusterUp_frame {ps : List Part} {s0 : State} (s : State) (c : Nat) (hst : Changes ps s0 s) (hsub : [.topo, .units] ⊆ ps) :
    Changes ps s0 (State.clusterUp s c) := by
  unfold State.clusterUp
  repeat' first
    | with_reducible assumption
    | ((with_reducible apply State.modTap_frame); (case hsub => exact List.Subset.trans (by decide) hsub))
    | ((with_reducible apply State.setHealth_frame); (case hsub => exact List.Subset.trans (by decide) hsub))
    | with_reducible apply Changes.ite

/-- What `State.waveUp` may change. -/
theorem State.waveUp_frame {ps : List Part} {s0 : State} (s : State) (w : Nat) (hst : Changes ps s0 s) (hsub : [.topo, .units, .rst] ⊆ ps) :
    Changes ps s0 (State.waveUp s w) := by
  unfold State.waveUp
  repeat' first
    | with_reducible assumption
    | ((with_reducible apply State.clusterUp_frame); (case hsub => exact List.Subset.trans (by decide) hsub))
    | ((with_reducible apply State.modRst_frame); (case hsub => exact List.Subset.trans (by decide) hsub))
    | ((with_reducible apply Changes.foldl); (case' h => intro a x ha; try dsimp only))

/-- What `State.portsUp` may change. -/
theorem State.portsUp_frame {ps : List Part} {s0 : State} (s : State) (hst : Changes ps s0 s) (hsub : [.emitted, .sched, .units, .qu, .podCut, .fm, .adm, .backup, .flash, .logSeq, .log, .port, .pins] ⊆ ps) :
    Changes ps s0 (State.portsUp s) := by
  unfold State.portsUp
  repeat' first
    | with_reducible assumption
    | ((with_reducible apply State.acceptStop_frame); (case hsub => exact List.Subset.trans (by decide) hsub))
    | ((with_reducible apply State.fencePorts_frame); (case hsub => exact List.Subset.trans (by decide) hsub))
    | ((with_reducible apply State.persist_frame); (case hsub => exact List.Subset.trans (by decide) hsub))
    | with_reducible apply Changes.ite
    | ((fail_if_no_progress extract_lets a1))
    | dsimp only [a1]
    | (simp only [Changes.mk_eq_upd]; (with_reducible apply Changes.upd); (case e2 | e12 | e13 | e14 | e15 | e18 | e19 | e24 | e25 | e26 | e29 | e30 | e33 => exact Or.inl (hsub (by decide))); all_goals first | with_reducible exact Or.inr rfl | skip)

/-- What `State.flashReset` may change. -/
theorem State.flashReset_frame {ps : List Part} {s0 : State} (s : State) (hst : Changes ps s0 s) (hsub : [.emitted, .flash] ⊆ ps) :
    Changes ps s0 (State.flashReset s) := by
  unfold State.flashReset
  repeat' first
    | with_reducible assumption
    | ((with_reducible apply State.emit_frame); (case hsub => exact List.Subset.trans (by decide) hsub))
    | ((fail_if_no_progress extract_lets a1 a2 a3))
    | dsimp only [a1]
    | dsimp only [a2]
    | dsimp only [a3]
    | (simp only [Changes.mk_eq_upd]; (with_reducible apply Changes.upd); (case e2 | e25 => exact Or.inl (hsub (by decide))); all_goals first | with_reducible exact Or.inr rfl | skip)

/-- What `State.releaseDomain` may change. -/
theorem State.releaseDomain_frame {ps : List Part} {s0 : State} (s : State) (n : Nat) (hst : Changes ps s0 s) (hsub : [.emitted, .topo, .hub, .tb, .wireA, .wireR, .frame, .sched, .units, .qu, .podCut, .hang, .fm, .adm, .rst, .backup, .flash, .logSeq, .log, .port, .lc, .pins] ⊆ ps) :
    Changes ps s0 (State.releaseDomain s n) := by
  unfold State.releaseDomain
  repeat' first
    | with_reducible assumption
    | ((with_reducible apply State.coresStart_frame); (case hsub => exact List.Subset.trans (by decide) hsub))
    | ((with_reducible apply State.flashReset_frame); (case hsub => exact List.Subset.trans (by decide) hsub))
    | ((with_reducible apply State.memoryUp_frame); (case hsub => exact List.Subset.trans (by decide) hsub))
    | ((with_reducible apply State.modRst_frame); (case hsub => exact List.Subset.trans (by decide) hsub))
    | ((with_reducible apply State.portsUp_frame); (case hsub => exact List.Subset.trans (by decide) hsub))
    | ((with_reducible apply State.refettle_frame); (case hsub => exact List.Subset.trans (by decide) hsub))
    | ((with_reducible apply State.runnerUp_frame); (case hsub => exact List.Subset.trans (by decide) hsub))
    | ((with_reducible apply State.timeUp_frame); (case hsub => exact List.Subset.trans (by decide) hsub))
    | ((with_reducible apply State.waveUp_frame); (case hsub => exact List.Subset.trans (by decide) hsub))
    | with_reducible apply Changes.ite
    | ((with_reducible apply Changes.foldl); (case' h => intro a x ha; try dsimp only))

/-- What `State.coreFails` may change. -/
theorem State.coreFails_frame {ps : List Part} {s0 : State} (s : State) (core : Nat) (hst : Changes ps s0 s) (hsub : [.emitted, .hub, .tb, .pod, .rst, .backup, .flash, .logSeq, .log, .port] ⊆ ps) :
    Changes ps s0 (State.coreFails s core) := by
  unfold State.coreFails
  repeat' first
    | with_reducible assumption
    | ((with_reducible apply State.controllerWords_frame); (case hsub => exact List.Subset.trans (by decide) hsub))
    | ((with_reducible apply State.logged_frame); (case hsub => exact List.Subset.trans (by decide) hsub))
    | ((with_reducible apply State.modCore_frame); (case hsub => exact List.Subset.trans (by decide) hsub))
    | ((with_reducible apply State.modRst_frame); (case hsub => exact List.Subset.trans (by decide) hsub))
    | with_reducible apply Changes.ite
    | ((fail_if_no_progress extract_lets a1 a2 a3 a4))
    | dsimp only [a1]
    | dsimp only [a2]
    | dsimp only [a3]
    | dsimp only [a4]
    | (simp only [Changes.mk_eq_upd]; (with_reducible apply Changes.upd); (case e2 | e6 | e7 | e10 | e23 | e24 | e25 | e26 | e29 | e30 => exact Or.inl (hsub (by decide))); all_goals first | with_reducible exact Or.inr rfl | skip)

end Sys2Proof.Machine
end

