-- ==== Sys2Proof/Laws/FrameReset.lean ====
section
/-!
SUPPORT. Frames of the operations of Machine/Reset.lean: the parts of the state that each may change.
-/
namespace Sys2Proof.Machine

/-- What `State.checkBackup` may change. -/
theorem State.checkBackup_frame {ps : List Part} {s0 : State} (s : State) (hst : Changes ps s0 s) (hsub : [.freeCount, .backup] ⊆ ps) :
    Changes ps s0 (State.checkBackup s) := by
  unfold State.checkBackup
  repeat' first
    | with_reducible assumption
    | ((with_reducible apply State.drawn_frame); (case hsub => exact List.Subset.trans (by decide) hsub))
    | with_reducible apply Changes.ite
    | ((fail_if_no_progress extract_lets a1))
    | dsimp only [a1]
    | (simp only [Changes.mk_eq_upd]; (with_reducible apply Changes.upd); (case e3 | e24 => exact Or.inl (hsub (by decide))); all_goals first | with_reducible exact Or.inr rfl | skip)

/-- What `State.dieBack` may change. -/
theorem State.dieBack_frame {ps : List Part} {s0 : State} (s : State) (die n : Nat) (hst : Changes ps s0 s) (hsub : [.topo, .units, .adm, .rst] ⊆ ps) :
    Changes ps s0 (State.dieBack s die n) := by
  unfold State.dieBack
  repeat' first
    | with_reducible assumption
    | ((with_reducible apply State.admRestore_frame); (case hsub => exact List.Subset.trans (by decide) hsub))
    | ((with_reducible apply State.clusterUp_frame); (case hsub => exact List.Subset.trans (by decide) hsub))
    | ((with_reducible apply State.modRst_frame); (case hsub => exact List.Subset.trans (by decide) hsub))
    | ((with_reducible apply State.modRunner_frame); (case hsub => exact List.Subset.trans (by decide) hsub))
    | ((with_reducible apply State.setHealth_frame); (case hsub => exact List.Subset.trans (by decide) hsub))
    | with_reducible apply Changes.ite
    | ((with_reducible apply Changes.foldl); (case' h => intro a x ha; try dsimp only))

/-- What `State.dieDown` may change. -/
theorem State.dieDown_frame {ps : List Part} {s0 : State} (s : State) (die n : Nat) (hst : Changes ps s0 s) (hsub : [.emitted, .freeCount, .topo, .tb, .wireA, .wireR, .frame, .sched, .units, .qu, .dump, .hang, .adm, .bar, .trace, .rst, .backup, .flash, .logSeq, .log, .port] ⊆ ps) :
    Changes ps s0 (State.dieDown s die n) := by
  unfold State.dieDown
  repeat' first
    | with_reducible assumption
    | ((with_reducible apply State.assertCluster_frame); (case hsub => exact List.Subset.trans (by decide) hsub))
    | ((with_reducible apply State.assertRunner_frame); (case hsub => exact List.Subset.trans (by decide) hsub))
    | ((with_reducible apply State.modPort_frame); (case hsub => exact List.Subset.trans (by decide) hsub))
    | ((with_reducible apply State.modRst_frame); (case hsub => exact List.Subset.trans (by decide) hsub))
    | ((with_reducible apply State.modTap_frame); (case hsub => exact List.Subset.trans (by decide) hsub))
    | ((with_reducible apply State.reserveGone_frame); (case hsub => exact List.Subset.trans (by decide) hsub))
    | ((with_reducible apply State.resetRep_frame); (case hsub => exact List.Subset.trans (by decide) hsub))
    | ((with_reducible apply State.setHealth_frame); (case hsub => exact List.Subset.trans (by decide) hsub))
    | with_reducible apply Changes.ite
    | ((fail_if_no_progress extract_lets a1 a2); try (refine (have ha1 : Changes ps s0 a1 := ?_; ?_); rotate_left; clear_value a1))
    | dsimp only [a2]
    | ((with_reducible apply Changes.foldl); (case' h => intro a x ha; try dsimp only))

/-- What `State.loseDie` may change. -/
theorem State.loseDie_frame {ps : List Part} {s0 : State} (s : State) (die n : Nat) (hst : Changes ps s0 s) (hsub : [.topo, .units, .rst] ⊆ ps) :
    Changes ps s0 (State.loseDie s die n) := by
  unfold State.loseDie
  repeat' first
    | with_reducible assumption
    | ((with_reducible apply State.modRst_frame); (case hsub => exact List.Subset.trans (by decide) hsub))
    | ((with_reducible apply State.modRunner_frame); (case hsub => exact List.Subset.trans (by decide) hsub))
    | ((with_reducible apply State.modTap_frame); (case hsub => exact List.Subset.trans (by decide) hsub))
    | ((with_reducible apply State.setHealth_frame); (case hsub => exact List.Subset.trans (by decide) hsub))
    | with_reducible apply Changes.ite
    | ((with_reducible apply Changes.foldl); (case' h => intro a x ha; try dsimp only))

/-- What `State.cmdStormRelease` may change. -/
theorem State.cmdStormRelease_frame {ps : List Part} {s0 : State} (s : State) (value : Nat) (hst : Changes ps s0 s) (hsub : [.emitted, .rst, .backup, .flash, .logSeq, .log, .port] ⊆ ps) :
    Changes ps s0 ((State.cmdStormRelease s value).state) := by
  unfold State.cmdStormRelease
  repeat' first
    | with_reducible assumption
    | ((with_reducible apply State.accept_frame); (case hsub => exact List.Subset.trans (by decide) hsub))
    | ((with_reducible apply State.logged_frame); (case hsub => exact List.Subset.trans (by decide) hsub))
    | ((with_reducible apply State.modRst_frame); (case hsub => exact List.Subset.trans (by decide) hsub))
    | ((with_reducible apply State.refuse_frame); (case hsub => exact List.Subset.trans (by decide) hsub))
    | ((fail_if_no_progress extract_lets a1 a2 a3); try (refine (have ha1 : Changes ps s0 a1 := ?_; ?_); rotate_left; clear_value a1))
    | dsimp only [a2]
    | dsimp only [a3]
    | (simp only [Changes.mk_eq_upd]; (with_reducible apply Changes.upd); (case e2 | e23 | e24 | e25 | e26 | e29 | e30 => exact Or.inl (hsub (by decide))); all_goals first | with_reducible exact Or.inr rfl | skip)
    | split

end Sys2Proof.Machine
end

