-- ==== Sys2Proof/Laws/FrameOptions.lean ====
section
/-!
SUPPORT. Frames of the operations of Machine/Options.lean: the parts of the state that each may change.
-/
namespace Sys2Proof.Machine

/-- What `State.takeStrap` may change. -/
theorem State.takeStrap_frame {ps : List Part} {s0 : State} (s : State) (r : OptionRead) (hst : Changes ps s0 s) (hsub : [.emitted, .freeCount, .pod, .rst, .backup, .flash, .logSeq, .log, .port] ⊆ ps) :
    Changes ps s0 (State.takeStrap s r) := by
  unfold State.takeStrap
  repeat' first
    | with_reducible assumption
    | ((with_reducible apply State.drawn_frame); (case hsub => exact List.Subset.trans (by decide) hsub))
    | ((with_reducible apply State.logged_frame); (case hsub => exact List.Subset.trans (by decide) hsub))
    | ((with_reducible apply State.modRst_frame); (case hsub => exact List.Subset.trans (by decide) hsub))
    | with_reducible apply Changes.ite
    | ((fail_if_no_progress extract_lets a1 a2); try (refine (have ha1 : Changes ps s0 a1 := ?_; ?_); rotate_left; clear_value a1))
    | dsimp only [a2]
    | (simp only [Changes.mk_eq_upd]; (with_reducible apply Changes.upd); (case e2 | e3 | e10 | e23 | e24 | e25 | e26 | e29 | e30 => exact Or.inl (hsub (by decide))); all_goals first | with_reducible exact Or.inr rfl | skip)

/-- What `State.rwpDefaults` may change. -/
theorem State.rwpDefaults_frame {ps : List Part} {s0 : State} (s : State) (hst : Changes ps s0 s) (hsub : [.pod, .dump, .power, .rst, .fw, .lc] ⊆ ps) :
    Changes ps s0 (State.rwpDefaults s) := by
  unfold State.rwpDefaults
  repeat' first
    | with_reducible assumption
    | ((fail_if_no_progress extract_lets a1))
    | dsimp only [a1]
    | (simp only [Changes.mk_eq_upd]; (with_reducible apply Changes.upd); (case e10 | e16 | e22 | e23 | e31 | e32 => exact Or.inl (hsub (by decide))); all_goals first | with_reducible exact Or.inr rfl | skip)

/-- What `State.loadOption` may change. -/
theorem State.loadOption_frame {ps : List Part} {s0 : State} (s : State) (e : Staged) (hst : Changes ps s0 s) (hsub : [.emitted, .tb, .pod, .frame, .sched, .qu, .dump, .hang, .fm, .adm, .bar, .trace, .power, .rst, .backup, .flash, .logSeq, .log, .port, .fw, .lc] ⊆ ps) :
    Changes ps s0 (State.loadOption s e) := by
  unfold State.loadOption
  repeat' first
    | with_reducible assumption
    | ((with_reducible apply State.logged_frame); (case hsub => exact List.Subset.trans (by decide) hsub))
    | ((with_reducible apply State.objPut_frame); (case hsub => exact List.Subset.trans (by decide) hsub))
    | with_reducible apply Changes.ite
    | ((fail_if_no_progress extract_lets a1))
    | dsimp only [a1]
    | (simp only [Changes.mk_eq_upd]; (with_reducible apply Changes.upd); (case e2 | e7 | e10 | e11 | e12 | e14 | e16 | e17 | e18 | e19 | e20 | e21 | e22 | e23 | e24 | e25 | e26 | e29 | e30 | e31 | e32 => exact Or.inl (hsub (by decide))); all_goals first | with_reducible exact Or.inr rfl | skip)

/-- What `State.loadOptions` may change. -/
theorem State.loadOptions_frame {ps : List Part} {s0 : State} (s : State) (hst : Changes ps s0 s) (hsub : [.emitted, .tb, .pod, .frame, .sched, .qu, .dump, .hang, .fm, .adm, .bar, .trace, .power, .rst, .backup, .flash, .logSeq, .log, .port, .fw, .lc] ⊆ ps) :
    Changes ps s0 (State.loadOptions s) := by
  unfold State.loadOptions
  repeat' first
    | with_reducible assumption
    | ((with_reducible apply State.loadOption_frame); (case hsub => exact List.Subset.trans (by decide) hsub))
    | ((with_reducible apply State.logged_frame); (case hsub => exact List.Subset.trans (by decide) hsub))
    | ((with_reducible apply State.rwpDefaults_frame); (case hsub => exact List.Subset.trans (by decide) hsub))
    | with_reducible apply Changes.ite
    | ((fail_if_no_progress extract_lets a1 a2))
    | dsimp only [a1]
    | dsimp only [a2]
    | (simp only [Changes.mk_eq_upd]; (with_reducible apply Changes.upd); (case e2 | e7 | e10 | e11 | e12 | e14 | e16 | e17 | e18 | e19 | e20 | e21 | e22 | e23 | e24 | e25 | e26 | e29 | e30 | e31 | e32 => exact Or.inl (hsub (by decide))); all_goals first | with_reducible exact Or.inr rfl | skip)
    | ((with_reducible apply Changes.foldl); (case' h => intro a x ha; try dsimp only))
    | split

/-- What `State.loadKeys` may change. -/
theorem State.loadKeys_frame {ps : List Part} {s0 : State} (s : State) (hst : Changes ps s0 s) (hsub : [.emitted, .backup, .flash, .logSeq, .log, .port, .lc] ⊆ ps) :
    Changes ps s0 (State.loadKeys s) := by
  unfold State.loadKeys
  repeat' first
    | with_reducible assumption
    | ((with_reducible apply State.urged_frame); (case hsub => exact List.Subset.trans (by decide) hsub))
    | with_reducible apply Changes.ite
    | ((fail_if_no_progress extract_lets a1 a2))
    | dsimp only [a1]
    | dsimp only [a2]
    | (simp only [Changes.mk_eq_upd]; (with_reducible apply Changes.upd); (case e2 | e24 | e25 | e26 | e29 | e30 | e32 => exact Or.inl (hsub (by decide))); all_goals first | with_reducible exact Or.inr rfl | skip)

/-- What `State.loadPersist` may change. -/
theorem State.loadPersist_frame {ps : List Part} {s0 : State} (s : State) (hst : Changes ps s0 s) (hsub : [.emitted, .fm, .bar, .backup, .flash, .logSeq, .imageIds, .eventSeqs, .log, .port] ⊆ ps) :
    Changes ps s0 (State.loadPersist s) := by
  unfold State.loadPersist
  repeat' first
    | with_reducible assumption
    | ((with_reducible apply State.logged_frame); (case hsub => exact List.Subset.trans (by decide) hsub))
    | ((with_reducible apply State.persist_frame); (case hsub => exact List.Subset.trans (by decide) hsub))
    | with_reducible apply Changes.ite
    | ((fail_if_no_progress extract_lets a1 a2 a3))
    | dsimp only [a1]
    | dsimp only [a2]
    | dsimp only [a3]
    | (simp only [Changes.mk_eq_upd]; (with_reducible apply Changes.upd); (case e2 | e18 | e20 | e24 | e25 | e26 | e27 | e28 | e29 | e30 => exact Or.inl (hsub (by decide))); all_goals first | with_reducible exact Or.inr rfl | skip)

/-- What `State.takeFuses` may change. -/
theorem State.takeFuses_frame {ps : List Part} {s0 : State} (s : State) (r : OptionRead) (hst : Changes ps s0 s) (hsub : [.emitted, .rst, .backup, .flash, .logSeq, .log, .port] ⊆ ps) :
    Changes ps s0 (State.takeFuses s r) := by
  unfold State.takeFuses
  repeat' first
    | with_reducible assumption
    | ((with_reducible apply State.logged_frame); (case hsub => exact List.Subset.trans (by decide) hsub))
    | ((with_reducible apply State.modRst_frame); (case hsub => exact List.Subset.trans (by decide) hsub))
    | with_reducible apply Changes.ite
    | ((with_reducible apply Changes.foldl); (case' h => intro a x ha; try dsimp only))

/-- What `State.stormCheck` may change. -/
theorem State.stormCheck_frame {ps : List Part} {s0 : State} (s : State) (hst : Changes ps s0 s) (hsub : [.emitted, .rst, .backup, .flash, .logSeq, .log, .port] ⊆ ps) :
    Changes ps s0 (State.stormCheck s) := by
  unfold State.stormCheck
  repeat' first
    | with_reducible assumption
    | ((with_reducible apply State.controllerWords_frame); (case hsub => exact List.Subset.trans (by decide) hsub))
    | ((with_reducible apply State.logged_frame); (case hsub => exact List.Subset.trans (by decide) hsub))
    | ((with_reducible apply State.modRst_frame); (case hsub => exact List.Subset.trans (by decide) hsub))
    | with_reducible apply Changes.ite

/-- What `State.takeGaps` may change. -/
theorem State.takeGaps_frame {ps : List Part} {s0 : State} (s : State) (hst : Changes ps s0 s) (hsub : [.rst, .backup] ⊆ ps) :
    Changes ps s0 (State.takeGaps s) := by
  unfold State.takeGaps
  repeat' first
    | with_reducible assumption
    | ((with_reducible apply State.modRst_frame); (case hsub => exact List.Subset.trans (by decide) hsub))
    | ((fail_if_no_progress extract_lets a1 a2); try (refine (have ha1 : Changes ps s0 a1 := ?_; ?_); rotate_left; clear_value a1))
    | dsimp only [a2]
    | (simp only [Changes.mk_eq_upd]; (with_reducible apply Changes.upd); (case e23 | e24 => exact Or.inl (hsub (by decide))); all_goals first | with_reducible exact Or.inr rfl | skip)

/-- What `State.persistEnds` may change. -/
theorem State.persistEnds_frame {ps : List Part} {s0 : State} (s : State) (p : PersistCopy) (hst : Changes ps s0 s) (hsub : [.flash, .logSeq, .imageIds, .eventSeqs] ⊆ ps) :
    Changes ps s0 (State.persistEnds s p) := by
  unfold State.persistEnds
  repeat' first
    | with_reducible assumption
    | ((fail_if_no_progress extract_lets a1 a2 a3))
    | dsimp only [a1]
    | dsimp only [a2]
    | dsimp only [a3]
    | (simp only [Changes.mk_eq_upd]; (with_reducible apply Changes.upd); (case e25 | e26 | e27 | e28 => exact Or.inl (hsub (by decide))); all_goals first | with_reducible exact Or.inr rfl | skip)

/-- What `State.dropDigests` may change. -/
theorem State.dropDigests_frame {ps : List Part} {s0 : State} (s : State) (c : OptionCopy) (hst : Changes ps s0 s) (hsub : [.lc] ⊆ ps) :
    Changes ps s0 (State.dropDigests s c) := by
  unfold State.dropDigests
  repeat' first
    | with_reducible assumption
    | ((fail_if_no_progress extract_lets a1 a2))
    | dsimp only [a1]
    | dsimp only [a2]
    | (simp only [Changes.mk_eq_upd]; (with_reducible apply Changes.upd); (case e32 => exact Or.inl (hsub (by decide))); all_goals first | with_reducible exact Or.inr rfl | skip)

end Sys2Proof.Machine
end

