-- ==== Sys2Proof/Laws/FrameFirmware.lean ====
section
/-!
SUPPORT. Frames of the operations of Machine/Firmware.lean: the parts of the state that each may change.
-/
namespace Sys2Proof.Machine

/-- What `State.bootFrom` may change. -/
theorem State.bootFrom_frame {ps : List Part} {s0 : State} (s : State) (core slot : Nat) (hst : Changes ps s0 s) (hsub : [.hub] ⊆ ps) :
    Changes ps s0 (State.bootFrom s core slot) := by
  unfold State.bootFrom
  repeat' first
    | with_reducible assumption
    | ((with_reducible apply State.modCore_frame); (case hsub => exact List.Subset.trans (by decide) hsub))

/-- What `State.bootRom` may change. -/
theorem State.bootRom_frame {ps : List Part} {s0 : State} (s : State) (core : Nat) (hst : Changes ps s0 s) (hsub : [.emitted, .hub, .backup, .flash, .logSeq, .log, .port] ⊆ ps) :
    Changes ps s0 (State.bootRom s core) := by
  unfold State.bootRom
  repeat' first
    | with_reducible assumption
    | ((with_reducible apply State.bootFrom_frame); (case hsub => exact List.Subset.trans (by decide) hsub))
    | ((with_reducible apply State.logged_frame); (case hsub => exact List.Subset.trans (by decide) hsub))
    | ((with_reducible apply State.modCore_frame); (case hsub => exact List.Subset.trans (by decide) hsub))
    | with_reducible apply Changes.ite

/-- What `State.takeImage` may change. -/
theorem State.takeImage_frame {ps : List Part} {s0 : State} (s : State) (b : List Byte) (hst : Changes ps s0 s) (hsub : [.hub, .flash, .fw] ⊆ ps) :
    Changes ps s0 ((State.takeImage s b).state) := by
  unfold State.takeImage
  repeat' first
    | with_reducible assumption
    | ((with_reducible apply State.accept_frame); (case hsub => exact List.Subset.trans (by decide) hsub))
    | ((with_reducible apply State.bootFrom_frame); (case hsub => exact List.Subset.trans (by decide) hsub))
    | with_reducible apply Changes.ite
    | ((fail_if_no_progress extract_lets a1 a2 a3 a4 a5 a6))
    | dsimp only [a1]
    | dsimp only [a2]
    | dsimp only [a3]
    | dsimp only [a4]
    | dsimp only [a5]
    | dsimp only [a6]
    | (simp only [Changes.mk_eq_upd]; (with_reducible apply Changes.upd); (case e6 | e25 | e31 => exact Or.inl (hsub (by decide))); all_goals first | with_reducible exact Or.inr rfl | skip)
    | split

/-- What `State.cmdFwUpdate` may change. -/
theorem State.cmdFwUpdate_frame {ps : List Part} {s0 : State} (s : State) (image : List Byte) (hst : Changes ps s0 s) (hsub : [.hub, .flash, .fw] ⊆ ps) :
    Changes ps s0 ((State.cmdFwUpdate s image).state) := by
  unfold State.cmdFwUpdate
  repeat' first
    | with_reducible assumption
    | ((with_reducible apply State.refuse_frame); (case hsub => exact List.Subset.trans (by decide) hsub))
    | ((with_reducible apply State.takeImage_frame); (case hsub => exact List.Subset.trans (by decide) hsub))
    | split

/-- What `State.cmdFwUpdateApply` may change. -/
theorem State.cmdFwUpdateApply_frame {ps : List Part} {s0 : State} (s : State) (value : Nat) (hst : Changes ps s0 s) (hsub : [.hub, .fw] ⊆ ps) :
    Changes ps s0 ((State.cmdFwUpdateApply s value).state) := by
  unfold State.cmdFwUpdateApply
  repeat' first
    | with_reducible assumption
    | ((with_reducible apply State.accept_frame); (case hsub => exact List.Subset.trans (by decide) hsub))
    | ((with_reducible apply State.modCore_frame); (case hsub => exact List.Subset.trans (by decide) hsub))
    | ((with_reducible apply State.refuse_frame); (case hsub => exact List.Subset.trans (by decide) hsub))
    | ((fail_if_no_progress extract_lets a1 a2 a3))
    | dsimp only [a1]
    | dsimp only [a2]
    | dsimp only [a3]
    | (simp only [Changes.mk_eq_upd]; (with_reducible apply Changes.upd); (case e6 | e31 => exact Or.inl (hsub (by decide))); all_goals first | with_reducible exact Or.inr rfl | skip)
    | split

/-- What `State.enterSwap` may change. -/
theorem State.enterSwap_frame {ps : List Part} {s0 : State} (s : State) (n : Nat) (hst : Changes ps s0 s) (hsub : [.sched, .fw] ⊆ ps) :
    Changes ps s0 (State.enterSwap s n) := by
  unfold State.enterSwap
  repeat' first
    | with_reducible assumption
    | ((with_reducible apply State.putEntry_frame); (case hsub => exact List.Subset.trans (by decide) hsub))
    | ((fail_if_no_progress extract_lets a1 a2 a3 a4))
    | dsimp only [a1]
    | dsimp only [a2]
    | dsimp only [a3]
    | dsimp only [a4]
    | (simp only [Changes.mk_eq_upd]; (with_reducible apply Changes.upd); (case e12 | e31 => exact Or.inl (hsub (by decide))); all_goals first | with_reducible exact Or.inr rfl | skip)

/-- What `State.blowFuses` may change. -/
theorem State.blowFuses_frame {ps : List Part} {s0 : State} (s : State) (hst : Changes ps s0 s) (hsub : [.fuses] ⊆ ps) :
    Changes ps s0 (State.blowFuses s) := by
  unfold State.blowFuses
  repeat' first
    | with_reducible assumption
    | ((fail_if_no_progress extract_lets a1 a2 a3))
    | dsimp only [a1]
    | dsimp only [a2]
    | dsimp only [a3]
    | (simp only [Changes.mk_eq_upd]; (with_reducible apply Changes.upd); (case e4 => exact Or.inl (hsub (by decide))); all_goals first | with_reducible exact Or.inr rfl | skip)

end Sys2Proof.Machine
end

