-- ==== Sys2Proof/Laws/FrameRingMsg.lean ====
section
/-!
SUPPORT. Frames of the operations of Machine/RingMsg.lean: the parts of the state that each may change.
-/
namespace Sys2Proof.Machine

/-- What `State.peekEnded` may change. -/
theorem State.peekEnded_frame {ps : List Part} {s0 : State} (s : State) (t : RingTxn) (uid status : Nat) (data : List Byte) (lines : List Nat) (hst : Changes ps s0 s) (hsub : [.qu] ⊆ ps) :
    Changes ps s0 (State.peekEnded s t uid status data lines) := by
  unfold State.peekEnded
  repeat' first
    | with_reducible assumption
    | ((fail_if_no_progress extract_lets a1 a2 a3 a4))
    | dsimp only [a1]
    | dsimp only [a2]
    | dsimp only [a3]
    | dsimp only [a4]
    | (simp only [Changes.mk_eq_upd]; (with_reducible apply Changes.upd); (case e14 => exact Or.inl (hsub (by decide))); all_goals first | with_reducible exact Or.inr rfl | skip)

/-- What `State.selectEnded` may change. -/
theorem State.selectEnded_frame {ps : List Part} {s0 : State} (s : State) (t : RingTxn) (status : Nat) (hst : Changes ps s0 s) (hsub : [.emitted, .units, .qu] ⊆ ps) :
    Changes ps s0 (State.selectEnded s t status) := by
  unfold State.selectEnded
  repeat' first
    | with_reducible assumption
    | ((with_reducible apply State.armHand_frame); (case hsub => exact List.Subset.trans (by decide) hsub))
    | ((with_reducible apply State.modTap_frame); (case hsub => exact List.Subset.trans (by decide) hsub))
    | with_reducible apply Changes.ite
    | ((fail_if_no_progress extract_lets a1 a2); try (refine (have ha1 : Changes ps s0 a1 := ?_; ?_); rotate_left; clear_value a1))
    | dsimp only [a2]
    | (simp only [Changes.mk_eq_upd]; (with_reducible apply Changes.upd); (case e2 | e13 | e14 => exact Or.inl (hsub (by decide))); all_goals first | with_reducible exact Or.inr rfl | skip)
    | split

/-- What `State.cacheBindings` may change. -/
theorem State.cacheBindings_frame {ps : List Part} {s0 : State} (s : State) (t : RingTxn) (data : List Byte) (hst : Changes ps s0 s) (hsub : [.hang] ⊆ ps) :
    Changes ps s0 (State.cacheBindings s t data) := by
  unfold State.cacheBindings
  repeat' first
    | with_reducible assumption
    | with_reducible apply Changes.ite
    | ((fail_if_no_progress extract_lets a1 a2))
    | dsimp only [a1]
    | dsimp only [a2]
    | (simp only [Changes.mk_eq_upd]; (with_reducible apply Changes.upd); (case e17 => exact Or.inl (hsub (by decide))); all_goals first | with_reducible exact Or.inr rfl | skip)

/-- What `State.ringEnds` may change. -/
theorem State.ringEnds_frame {ps : List Part} {s0 : State} (s : State) (t : RingTxn) (status : Nat) (data : List Byte) (lines : List Nat) (hst : Changes ps s0 s) (hsub : [.emitted, .freeCount, .topo, .sched, .units, .qu, .dump, .hang, .adm, .backup, .flash, .logSeq, .log, .port] ⊆ ps) :
    Changes ps s0 (State.ringEnds s t status data lines) := by
  unfold State.ringEnds
  repeat' first
    | with_reducible assumption
    | ((with_reducible apply State.bindingsRead_frame); (case hsub => exact List.Subset.trans (by decide) hsub))
    | ((with_reducible apply State.buildTier0_frame); (case hsub => exact List.Subset.trans (by decide) hsub))
    | ((with_reducible apply State.cacheBindings_frame); (case hsub => exact List.Subset.trans (by decide) hsub))
    | ((with_reducible apply State.fallbackEnded_frame); (case hsub => exact List.Subset.trans (by decide) hsub))
    | ((with_reducible apply State.feedDie_frame); (case hsub => exact List.Subset.trans (by decide) hsub))
    | ((with_reducible apply State.feedTier0_frame); (case hsub => exact List.Subset.trans (by decide) hsub))
    | ((with_reducible apply State.modTap_frame); (case hsub => exact List.Subset.trans (by decide) hsub))
    | ((with_reducible apply State.peekEnded_frame); (case hsub => exact List.Subset.trans (by decide) hsub))
    | ((with_reducible apply State.selectEnded_frame); (case hsub => exact List.Subset.trans (by decide) hsub))
    | ((with_reducible apply State.tier0Ended_frame); (case hsub => exact List.Subset.trans (by decide) hsub))
    | ((with_reducible apply State.traceWritten_frame); (case hsub => exact List.Subset.trans (by decide) hsub))
    | with_reducible apply Changes.ite
    | ((fail_if_no_progress extract_lets a1 a2 a3 a4 a5 a6))
    | dsimp only [a1]
    | dsimp only [a2]
    | dsimp only [a3]
    | dsimp only [a4]
    | dsimp only [a5]
    | dsimp only [a6]
    | (simp only [Changes.mk_eq_upd]; (with_reducible apply Changes.upd); (case e2 | e3 | e5 | e12 | e13 | e14 | e16 | e17 | e19 | e24 | e25 | e26 | e29 | e30 => exact Or.inl (hsub (by decide))); all_goals first | with_reducible exact Or.inr rfl | skip)
    | split

/-- What `State.ringAgain` may change. -/
theorem State.ringAgain_frame {ps : List Part} {s0 : State} (s : State) (t : RingTxn) (hst : Changes ps s0 s) (hsub : [.emitted, .units] ⊆ ps) :
    Changes ps s0 (State.ringAgain s t) := by
  unfold State.ringAgain
  repeat' first
    | with_reducible assumption
    | ((with_reducible apply State.emit_frame); (case hsub => exact List.Subset.trans (by decide) hsub))
    | ((fail_if_no_progress extract_lets a1))
    | dsimp only [a1]
    | (simp only [Changes.mk_eq_upd]; (with_reducible apply Changes.upd); (case e2 | e13 => exact Or.inl (hsub (by decide))); all_goals first | with_reducible exact Or.inr rfl | skip)

/-- What `State.tapHeard` may change. -/
theorem State.tapHeard_frame {ps : List Part} {s0 : State} (s : State) (c : Nat) (hst : Changes ps s0 s) (hsub : [.topo] ⊆ ps) :
    Changes ps s0 (State.tapHeard s c) := by
  unfold State.tapHeard
  repeat' first
    | with_reducible assumption
    | ((with_reducible apply State.setHealth_frame); (case hsub => exact List.Subset.trans (by decide) hsub))
    | with_reducible apply Changes.ite

/-- What `State.ringAnswered` may change. -/
theorem State.ringAnswered_frame {ps : List Part} {s0 : State} (s : State) (t : RingTxn) (status : Nat) (data : List Byte) (lines : List Nat) (hst : Changes ps s0 s) (hsub : [.emitted, .freeCount, .topo, .sched, .units, .qu, .dump, .hang, .adm, .backup, .flash, .logSeq, .log, .port] ⊆ ps) :
    Changes ps s0 (State.ringAnswered s t status data lines) := by
  unfold State.ringAnswered
  repeat' first
    | with_reducible assumption
    | ((with_reducible apply State.ringEnds_frame); (case hsub => exact List.Subset.trans (by decide) hsub))
    | with_reducible apply Changes.ite

end Sys2Proof.Machine
end

