-- ==== Sys2Proof/Laws/FrameChill.lean ====
section
/-!
SUPPORT. Frames of the operations of Machine/Chill.lean: the parts of the state that each may change.
-/
namespace Sys2Proof.Machine

/-- What `State.setChilled` may change. -/
theorem State.setChilled_frame {ps : List Part} {s0 : State} (s : State) (half : Nat) (b : Bool) (hst : Changes ps s0 s) (hsub : [.topo] ⊆ ps) :
    Changes ps s0 (State.setChilled s half b) := by
  unfold State.setChilled
  repeat' first
    | with_reducible assumption
    | ((fail_if_no_progress extract_lets a1))
    | dsimp only [a1]
    | (simp only [Changes.mk_eq_upd]; (with_reducible apply Changes.upd); (case e5 => exact Or.inl (hsub (by decide))); all_goals first | with_reducible exact Or.inr rfl | skip)

/-- What `State.stepFromNow` may change. -/
theorem State.stepFromNow_frame {ps : List Part} {s0 : State} (s : State) (c : Nat) (hst : Changes ps s0 s) (hsub : [.qu] ⊆ ps) :
    Changes ps s0 (State.stepFromNow s c) := by
  unfold State.stepFromNow
  repeat' first
    | with_reducible assumption
    | with_reducible apply Changes.ite
    | ((fail_if_no_progress extract_lets a1))
    | dsimp only [a1]
    | (simp only [Changes.mk_eq_upd]; (with_reducible apply Changes.upd); (case e14 => exact Or.inl (hsub (by decide))); all_goals first | with_reducible exact Or.inr rfl | skip)

end Sys2Proof.Machine
end

