-- ==== Sys2Proof/Laws/FrameLifecycle.lean ====
section
/-!
SUPPORT. Frames of the operations of Machine/Lifecycle.lean: the parts of the state that each may change.
-/
namespace Sys2Proof.Machine

/-- What `State.useChallenge` may change. -/
theorem State.useChallenge_frame {ps : List Part} {s0 : State} (s : State) (c : Ctx) (hst : Changes ps s0 s) (hsub : [.port] ⊆ ps) :
    Changes ps s0 (State.useChallenge s c) := by
  unfold State.useChallenge
  repeat' first
    | with_reducible assumption
    | (simp only [Changes.mk_eq_upd]; (with_reducible apply Changes.upd); (case e30 => exact Or.inl (hsub (by decide))); all_goals first | with_reducible exact Or.inr rfl | skip)
    | split

/-- What `State.newChallenge` may change. -/
theorem State.newChallenge_frame {ps : List Part} {s0 : State} (s : State) (c : Ctx) (hst : Changes ps s0 s) (hsub : [.freeCount, .port] ⊆ ps) :
    Changes ps s0 ((State.newChallenge s c).1) := by
  unfold State.newChallenge
  repeat' first
    | with_reducible assumption
    | ((with_reducible apply State.drawn_frame); (case hsub => exact List.Subset.trans (by decide) hsub))
    | ((fail_if_no_progress extract_lets a1 a2))
    | dsimp only [a1]
    | dsimp only [a2]
    | (simp only [Changes.mk_eq_upd]; (with_reducible apply Changes.upd); (case e3 | e30 => exact Or.inl (hsub (by decide))); all_goals first | with_reducible exact Or.inr rfl | skip)
    | split

/-- What `State.lcCheck` may change. -/
theorem State.lcCheck_frame {ps : List Part} {s0 : State} (s : State) (c : Ctx) (b : List Byte) (hst : Changes ps s0 s) (hsub : [.port] ⊆ ps) :
    Changes ps s0 ((State.lcCheck s c b).1) := by
  unfold State.lcCheck
  repeat' first
    | with_reducible assumption
    | ((with_reducible apply State.useChallenge_frame); (case hsub => exact List.Subset.trans (by decide) hsub))
    | ((fail_if_no_progress extract_lets a1 a2))
    | dsimp only [a1]
    | dsimp only [a2]
    | split

/-- What `State.lcStores` may change. -/
theorem State.lcStores_frame {ps : List Part} {s0 : State} (s : State) (after : Nat) (owner : List Byte) (hst : Changes ps s0 s) (hsub : [.flash, .lc] ⊆ ps) :
    Changes ps s0 (State.lcStores s after owner) := by
  unfold State.lcStores
  repeat' first
    | with_reducible assumption
    | ((with_reducible apply State.persistOptions_frame); (case hsub => exact List.Subset.trans (by decide) hsub))
    | with_reducible apply Changes.ite
    | ((fail_if_no_progress extract_lets a1))
    | dsimp only [a1]
    | (simp only [Changes.mk_eq_upd]; (with_reducible apply Changes.upd); (case e25 | e32 => exact Or.inl (hsub (by decide))); all_goals first | with_reducible exact Or.inr rfl | skip)

/-- What `State.lcDump` may change. -/
theorem State.lcDump_frame {ps : List Part} {s0 : State} (s : State) (hst : Changes ps s0 s) (hsub : [.emitted, .freeCount, .topo, .sched, .units, .qu, .dump, .hang, .fm, .adm, .bar, .backup, .flash, .logSeq, .log, .port] ⊆ ps) :
    Changes ps s0 (State.lcDump s) := by
  unfold State.lcDump
  repeat' first
    | with_reducible assumption
    | ((with_reducible apply State.expelClosed_frame); (case hsub => exact List.Subset.trans (by decide) hsub))
    | ((with_reducible apply State.procClosed_frame); (case hsub => exact List.Subset.trans (by decide) hsub))
    | ((with_reducible apply State.ringDrop_frame); (case hsub => exact List.Subset.trans (by decide) hsub))
    | ((with_reducible apply State.suspectClosed_frame); (case hsub => exact List.Subset.trans (by decide) hsub))
    | ((fail_if_no_progress extract_lets a1 a2 a3 a4))
    | dsimp only [a1]
    | dsimp only [a2]
    | dsimp only [a3]
    | dsimp only [a4]
    | (simp only [Changes.mk_eq_upd]; (with_reducible apply Changes.upd); (case e2 | e3 | e5 | e12 | e13 | e14 | e16 | e17 | e18 | e19 | e20 | e24 | e25 | e26 | e29 | e30 => exact Or.inl (hsub (by decide))); all_goals first | with_reducible exact Or.inr rfl | skip)
    | split

/-- What `State.lcBars` may change. -/
theorem State.lcBars_frame {ps : List Part} {s0 : State} (s : State) (hst : Changes ps s0 s) (hsub : [.bar] ⊆ ps) :
    Changes ps s0 (State.lcBars s) := by
  unfold State.lcBars
  repeat' first
    | with_reducible assumption
    | ((with_reducible apply State.emptyBar_frame); (case hsub => exact List.Subset.trans (by decide) hsub))
    | ((fail_if_no_progress extract_lets a1 a2); try (refine (have ha1 : Changes ps s0 a1 := ?_; ?_); rotate_left; clear_value a1))
    | dsimp only [a2]
    | (simp only [Changes.mk_eq_upd]; (with_reducible apply Changes.upd); (case e20 => exact Or.inl (hsub (by decide))); all_goals first | with_reducible exact Or.inr rfl | skip)

/-- What `State.wipeBuffers` may change. -/
theorem State.wipeBuffers_frame {ps : List Part} {s0 : State} (s : State) (hst : Changes ps s0 s) (hsub : [.dram] ⊆ ps) :
    Changes ps s0 (State.wipeBuffers s) := by
  unfold State.wipeBuffers
  repeat' first
    | with_reducible assumption
    | (simp only [Changes.mk_eq_upd]; (with_reducible apply Changes.upd); (case e34 => exact Or.inl (hsub (by decide))); all_goals first | with_reducible exact Or.inr rfl | skip)

/-- What `State.lcTrace` may change. -/
theorem State.lcTrace_frame {ps : List Part} {s0 : State} (s : State) (hst : Changes ps s0 s) (hsub : [.emitted, .units, .qu, .trace, .dram] ⊆ ps) :
    Changes ps s0 (State.lcTrace s) := by
  unfold State.lcTrace
  repeat' first
    | with_reducible assumption
    | ((with_reducible apply State.issueCast_frame); (case hsub => exact List.Subset.trans (by decide) hsub))
    | ((with_reducible apply State.traceDefaults_frame); (case hsub => exact List.Subset.trans (by decide) hsub))
    | ((with_reducible apply State.traceSync_frame); (case hsub => exact List.Subset.trans (by decide) hsub))
    | ((with_reducible apply State.wipeBuffers_frame); (case hsub => exact List.Subset.trans (by decide) hsub))
    | with_reducible apply Changes.ite
    | ((fail_if_no_progress extract_lets a1 a2))
    | dsimp only [a1]
    | dsimp only [a2]
    | (simp only [Changes.mk_eq_upd]; (with_reducible apply Changes.upd); (case e2 | e13 | e14 | e21 | e34 => exact Or.inl (hsub (by decide))); all_goals first | with_reducible exact Or.inr rfl | skip)

/-- What `State.removeJob` may change. -/
theorem State.removeJob_frame {ps : List Part} {s0 : State} (s : State) (hst : Changes ps s0 s) (hsub : [.emitted, .sched, .units, .qu, .podCut, .hang, .adm, .backup, .flash, .logSeq, .log, .port, .lc] ⊆ ps) :
    Changes ps s0 (State.removeJob s) := by
  unfold State.removeJob
  repeat' first
    | with_reducible assumption
    | ((with_reducible apply State.cancelCuts_frame); (case hsub => exact List.Subset.trans (by decide) hsub))
    | ((with_reducible apply State.endProcedure_frame); (case hsub => exact List.Subset.trans (by decide) hsub))
    | ((with_reducible apply State.enterOwn_frame); (case hsub => exact List.Subset.trans (by decide) hsub))
    | ((with_reducible apply State.fencePorts_frame); (case hsub => exact List.Subset.trans (by decide) hsub))
    | ((with_reducible apply State.retireAll_frame); (case hsub => exact List.Subset.trans (by decide) hsub))
    | with_reducible apply Changes.ite
    | ((fail_if_no_progress extract_lets a1 a2 a3 a4 a5); try (refine (have ha1 : Changes ps s0 a1 := ?_; ?_); rotate_left; clear_value a1); try (refine (have ha2 : Changes ps s0 a2 := ?_; ?_); rotate_left; clear_value a2); try (refine (have ha3 : Changes ps s0 a3 := ?_; ?_); rotate_left; clear_value a3); try (refine (have ha4 : Changes ps s0 a4 := ?_; ?_); rotate_left; clear_value a4))
    | dsimp only [a5]
    | (simp only [Changes.mk_eq_upd]; (with_reducible apply Changes.upd); (case e2 | e12 | e13 | e14 | e15 | e17 | e19 | e24 | e25 | e26 | e29 | e30 | e32 => exact Or.inl (hsub (by decide))); all_goals first | with_reducible exact Or.inr rfl | skip)

/-- What `State.lcLog` may change. -/
theorem State.lcLog_frame {ps : List Part} {s0 : State} (s : State) (hst : Changes ps s0 s) (hsub : [.backup, .log] ⊆ ps) :
    Changes ps s0 (State.lcLog s) := by
  unfold State.lcLog
  repeat' first
    | with_reducible assumption
    | ((fail_if_no_progress extract_lets a1))
    | dsimp only [a1]
    | (simp only [Changes.mk_eq_upd]; (with_reducible apply Changes.upd); (case e24 | e29 => exact Or.inl (hsub (by decide))); all_goals first | with_reducible exact Or.inr rfl | skip)

/-- What `State.lcChange` may change. -/
theorem State.lcChange_frame {ps : List Part} {s0 : State} (s : State) (b : List Byte) (hst : Changes ps s0 s) (hsub : [.emitted, .freeCount, .topo, .tb, .frame, .sched, .units, .qu, .podCut, .dump, .hang, .fm, .adm, .bar, .trace, .backup, .flash, .logSeq, .log, .port, .lc, .dram] ⊆ ps) :
    Changes ps s0 (State.lcChange s b) := by
  unfold State.lcChange
  repeat' first
    | with_reducible assumption
    | ((with_reducible apply State.closeAll_frame); (case hsub => exact List.Subset.trans (by decide) hsub))
    | ((with_reducible apply State.lcBars_frame); (case hsub => exact List.Subset.trans (by decide) hsub))
    | ((with_reducible apply State.lcDump_frame); (case hsub => exact List.Subset.trans (by decide) hsub))
    | ((with_reducible apply State.lcLog_frame); (case hsub => exact List.Subset.trans (by decide) hsub))
    | ((with_reducible apply State.lcStores_frame); (case hsub => exact List.Subset.trans (by decide) hsub))
    | ((with_reducible apply State.lcTrace_frame); (case hsub => exact List.Subset.trans (by decide) hsub))
    | ((with_reducible apply State.logged_frame); (case hsub => exact List.Subset.trans (by decide) hsub))
    | ((with_reducible apply State.removeJob_frame); (case hsub => exact List.Subset.trans (by decide) hsub))
    | with_reducible apply Changes.ite

/-- What `State.lcFettled` may change. -/
theorem State.lcFettled_frame {ps : List Part} {s0 : State} (s : State) (hst : Changes ps s0 s) (hsub : [.emitted, .backup, .flash, .logSeq, .log, .port, .lc] ⊆ ps) :
    Changes ps s0 (State.lcFettled s) := by
  unfold State.lcFettled
  repeat' first
    | with_reducible assumption
    | ((with_reducible apply State.logged_frame); (case hsub => exact List.Subset.trans (by decide) hsub))
    | ((fail_if_no_progress extract_lets a1 a2))
    | dsimp only [a1]
    | dsimp only [a2]
    | (simp only [Changes.mk_eq_upd]; (with_reducible apply Changes.upd); (case e2 | e24 | e25 | e26 | e29 | e30 | e32 => exact Or.inl (hsub (by decide))); all_goals first | with_reducible exact Or.inr rfl | skip)

/-- What `State.tokenCheck` may change. -/
theorem State.tokenCheck_frame {ps : List Part} {s0 : State} (s : State) (c : Ctx) (b : List Byte) (hst : Changes ps s0 s) (hsub : [.port] ⊆ ps) :
    Changes ps s0 ((State.tokenCheck s c b).1) := by
  unfold State.tokenCheck
  repeat' first
    | with_reducible assumption
    | ((with_reducible apply State.useChallenge_frame); (case hsub => exact List.Subset.trans (by decide) hsub))
    | ((fail_if_no_progress extract_lets a1 a2))
    | dsimp only [a1]
    | dsimp only [a2]
    | split

/-- What `State.grantToken` may change. -/
theorem State.grantToken_frame {ps : List Part} {s0 : State} (s : State) (c : Ctx) (b : List Byte) (hst : Changes ps s0 s) (hsub : [.emitted, .backup, .flash, .logSeq, .log, .port] ⊆ ps) :
    Changes ps s0 (State.grantToken s c b) := by
  unfold State.grantToken
  repeat' first
    | with_reducible assumption
    | ((with_reducible apply State.logged_frame); (case hsub => exact List.Subset.trans (by decide) hsub))
    | ((fail_if_no_progress extract_lets a1))
    | dsimp only [a1]
    | (simp only [Changes.mk_eq_upd]; (with_reducible apply Changes.upd); (case e2 | e24 | e25 | e26 | e29 | e30 => exact Or.inl (hsub (by decide))); all_goals first | with_reducible exact Or.inr rfl | skip)
    | split

/-- What `State.tokenWrite` may change. -/
theorem State.tokenWrite_frame {ps : List Part} {s0 : State} (s : State) (c : Ctx) (b : List Byte) (hst : Changes ps s0 s) (hsub : [.emitted, .backup, .flash, .logSeq, .log, .port] ⊆ ps) :
    Changes ps s0 ((State.tokenWrite s c b).state) := by
  unfold State.tokenWrite
  repeat' first
    | with_reducible assumption
    | ((with_reducible apply State.accept_frame); (case hsub => exact List.Subset.trans (by decide) hsub))
    | ((with_reducible apply State.grantToken_frame); (case hsub => exact List.Subset.trans (by decide) hsub))
    | ((with_reducible apply State.tokenCheck_frame); (case hsub => exact List.Subset.trans (by decide) hsub))
    | (with_reducible apply Changes.ofFst; rotate_left; (with_reducible assumption))
    | split

/-- What `State.keyWrite` may change. -/
theorem State.keyWrite_frame {ps : List Part} {s0 : State} (s : State) (i : Nat) (key : List Byte) (hst : Changes ps s0 s) (hsub : [.flash, .lc] ⊆ ps) :
    Changes ps s0 ((State.keyWrite s i key).state) := by
  unfold State.keyWrite
  repeat' first
    | with_reducible assumption
    | ((with_reducible apply State.accept_frame); (case hsub => exact List.Subset.trans (by decide) hsub))
    | ((with_reducible apply State.persistOptions_frame); (case hsub => exact List.Subset.trans (by decide) hsub))
    | ((with_reducible apply State.refuse_frame); (case hsub => exact List.Subset.trans (by decide) hsub))
    | ((fail_if_no_progress extract_lets a1 a2 a3))
    | dsimp only [a1]
    | dsimp only [a2]
    | dsimp only [a3]
    | (simp only [Changes.mk_eq_upd]; (with_reducible apply Changes.upd); (case e25 | e32 => exact Or.inl (hsub (by decide))); all_goals first | with_reducible exact Or.inr rfl | skip)
    | split

end Sys2Proof.Machine
end

