-- ==== Sys2Proof/Laws/FrameAccess.lean ====
section
/-!
SUPPORT. Frames of the operations of Machine/Access.lean: the parts of the state that each may change.
-/
namespace Sys2Proof.Machine

/-- What `State.quCmd` may change. -/
theorem State.quCmd_frame {ps : List Part} {s0 : State} (s : State) (v : Nat) (hst : Changes ps s0 s) (hsub : [.emitted, .freeCount, .sched, .units, .qu, .podCut, .adm, .backup, .flash, .logSeq, .log, .port, .pins] ⊆ ps) :
    Changes ps s0 ((State.quCmd s v).state) := by
  unfold State.quCmd
  repeat' first
    | with_reducible assumption
    | ((with_reducible apply State.cmdQuCmdArm_frame); (case hsub => exact List.Subset.trans (by decide) hsub))
    | ((with_reducible apply State.cmdQuCmdCancel_frame); (case hsub => exact List.Subset.trans (by decide) hsub))
    | ((with_reducible apply State.cmdQuCmdPeek_frame); (case hsub => exact List.Subset.trans (by decide) hsub))
    | ((with_reducible apply State.cmdQuCmdResume_frame); (case hsub => exact List.Subset.trans (by decide) hsub))
    | ((with_reducible apply State.cmdQuCmdStep_frame); (case hsub => exact List.Subset.trans (by decide) hsub))
    | ((with_reducible apply State.refuse_frame); (case hsub => exact List.Subset.trans (by decide) hsub))
    | split

/-- What `State.soCmd` may change. -/
theorem State.soCmd_frame {ps : List Part} {s0 : State} (s : State) (v : Nat) (hst : Changes ps s0 s) (hsub : [.emitted, .units, .dump, .backup, .flash, .logSeq, .imageIds, .log, .port] ⊆ ps) :
    Changes ps s0 ((State.soCmd s v).state) := by
  unfold State.soCmd
  repeat' first
    | with_reducible assumption
    | ((with_reducible apply State.cmdSoAbort_frame); (case hsub => exact List.Subset.trans (by decide) hsub))
    | ((with_reducible apply State.cmdSoFettleReserve_frame); (case hsub => exact List.Subset.trans (by decide) hsub))
    | ((with_reducible apply State.cmdSoStart_frame); (case hsub => exact List.Subset.trans (by decide) hsub))
    | ((with_reducible apply State.cmdSoStartRef_frame); (case hsub => exact List.Subset.trans (by decide) hsub))
    | ((with_reducible apply State.refuse_frame); (case hsub => exact List.Subset.trans (by decide) hsub))
    | split

/-- What `State.admCmd` may change. -/
theorem State.admCmd_frame {ps : List Part} {s0 : State} (s : State) (v : Nat) (hst : Changes ps s0 s) (hsub : [.emitted, .freeCount, .dump, .fm, .adm, .bar, .backup, .flash, .logSeq, .log, .port] ⊆ ps) :
    Changes ps s0 ((State.admCmd s v).state) := by
  unfold State.admCmd
  repeat' first
    | with_reducible assumption
    | ((with_reducible apply State.cmdAdmAbort_frame); (case hsub => exact List.Subset.trans (by decide) hsub))
    | ((with_reducible apply State.cmdAdmBegin_frame); (case hsub => exact List.Subset.trans (by decide) hsub))
    | ((with_reducible apply State.cmdAdmServe_frame); (case hsub => exact List.Subset.trans (by decide) hsub))
    | ((with_reducible apply State.refuse_frame); (case hsub => exact List.Subset.trans (by decide) hsub))
    | split

/-- What `State.suspectCmd` may change. -/
theorem State.suspectCmd_frame {ps : List Part} {s0 : State} (s : State) (v : Nat) (hst : Changes ps s0 s) (hsub : [.fm] ⊆ ps) :
    Changes ps s0 ((State.suspectCmd s v).state) := by
  unfold State.suspectCmd
  repeat' first
    | with_reducible assumption
    | ((with_reducible apply State.cmdSuspectCmdClear_frame); (case hsub => exact List.Subset.trans (by decide) hsub))
    | ((with_reducible apply State.refuse_frame); (case hsub => exact List.Subset.trans (by decide) hsub))
    | split

/-- What `State.resetCmd` may change. -/
theorem State.resetCmd_frame {ps : List Part} {s0 : State} (s : State) (uid mode : Nat) (hst : Changes ps s0 s) (hsub : [.emitted, .freeCount, .topo, .hub, .tb, .wireA, .wireR, .pod, .sched, .units, .qu, .hang, .adm, .bar, .trace, .backup, .flash, .logSeq, .log, .port] ⊆ ps) :
    Changes ps s0 ((State.resetCmd s uid mode).state) := by
  unfold State.resetCmd
  repeat' first
    | with_reducible assumption
    | ((with_reducible apply State.cmdUnitResetHold_frame); (case hsub => exact List.Subset.trans (by decide) hsub))
    | ((with_reducible apply State.cmdUnitResetPulse_frame); (case hsub => exact List.Subset.trans (by decide) hsub))
    | ((with_reducible apply State.cmdUnitResetRelease_frame); (case hsub => exact List.Subset.trans (by decide) hsub))
    | ((with_reducible apply State.refuse_frame); (case hsub => exact List.Subset.trans (by decide) hsub))
    | ((fail_if_no_progress extract_lets a1 a2))
    | dsimp only [a1]
    | dsimp only [a2]
    | split

/-- What `State.probeCmd` may change. -/
theorem State.probeCmd_frame {ps : List Part} {s0 : State} (s : State) (b : List Byte) (hst : Changes ps s0 s) (hsub : [.emitted, .bar] ⊆ ps) :
    Changes ps s0 ((State.probeCmd s b).state) := by
  unfold State.probeCmd
  repeat' first
    | with_reducible assumption
    | ((with_reducible apply State.refuse_frame); (case hsub => exact List.Subset.trans (by decide) hsub))
    | ((with_reducible apply State.startRun_frame); (case hsub => exact List.Subset.trans (by decide) hsub))
    | ((fail_if_no_progress extract_lets a1))
    | dsimp only [a1]
    | split

/-- What `State.entryAccepted` may change. -/
theorem State.entryAccepted_frame {ps : List Part} {s0 : State} (action n : Nat) (e : SchedEntry) (s : State) (hst : Changes ps s0 s) (hsub : [.emitted, .freeCount, .sched, .units, .qu, .podCut, .pins] ⊆ ps) :
    Changes ps s0 (State.entryAccepted action n e s) := by
  unfold State.entryAccepted
  repeat' first
    | with_reducible assumption
    | ((with_reducible apply State.acceptQuench_frame); (case hsub => exact List.Subset.trans (by decide) hsub))
    | ((with_reducible apply State.acceptResume_frame); (case hsub => exact List.Subset.trans (by decide) hsub))
    | ((with_reducible apply State.acceptStep_frame); (case hsub => exact List.Subset.trans (by decide) hsub))
    | ((with_reducible apply State.podOrder_frame); (case hsub => exact List.Subset.trans (by decide) hsub))
    | ((with_reducible apply State.releaseStop_frame); (case hsub => exact List.Subset.trans (by decide) hsub))
    | split

/-- What `State.entryCmd` may change. -/
theorem State.entryCmd_frame {ps : List Part} {s0 : State} (s : State) (n : Nat) (b : List Byte) (hst : Changes ps s0 s) (hsub : [.emitted, .freeCount, .sched, .units, .qu, .podCut, .adm, .backup, .flash, .logSeq, .log, .port, .pins] ⊆ ps) :
    Changes ps s0 ((State.entryCmd s n b).state) := by
  unfold State.entryCmd
  repeat' first
    | with_reducible assumption
    | ((with_reducible apply State.emptyWrite_frame); (case hsub => exact List.Subset.trans (by decide) hsub))
    | ((with_reducible apply State.entryAccepted_frame); (case hsub => exact List.Subset.trans (by decide) hsub))
    | ((with_reducible apply State.entryWrite_frame); (case' h_accept => intro y0 y1 y2 hy); (case hsub => exact List.Subset.trans (by decide) hsub))
    | ((fail_if_no_progress extract_lets a1))
    | dsimp only [a1]
    | split

/-- What `State.ackLog` may change. -/
theorem State.ackLog_frame {ps : List Part} {s0 : State} (s : State) (seq : Nat) (hst : Changes ps s0 s) (hsub : [.log] ⊆ ps) :
    Changes ps s0 ((State.ackLog s seq).state) := by
  unfold State.ackLog
  repeat' first
    | with_reducible assumption
    | ((with_reducible apply State.accept_frame); (case hsub => exact List.Subset.trans (by decide) hsub))
    | ((with_reducible apply State.refuse_frame); (case hsub => exact List.Subset.trans (by decide) hsub))
    | ((fail_if_no_progress extract_lets a1 a2))
    | dsimp only [a1]
    | dsimp only [a2]
    | (simp only [Changes.mk_eq_upd]; (with_reducible apply Changes.upd); (case e29 => exact Or.inl (hsub (by decide))); all_goals first | with_reducible exact Or.inr rfl | skip)
    | split

/-- What `State.ownWriteLow` may change. -/
theorem State.ownWriteLow_frame {ps : List Part} {s0 : State} (s : State) (r : ObjRow) (sub : Nat) (b : List Byte) (hst : Changes ps s0 s)
    (hsub : [.emitted, .freeCount, .topo, .hub, .tb, .wireA, .wireR, .pod, .frame, .sched, .units, .qu, .podCut, .dump, .hang, .fm, .adm, .bar, .trace, .power, .rst, .backup, .flash, .logSeq, .imageIds, .log, .port, .fw, .lc, .pins] ⊆ ps)
    (a : Reply) (h : s.ownWriteLow r sub b = some a) : Changes ps s0 a.state := by
  unfold State.ownWriteLow at h
  extract_lets v at h
  split at h
  all_goals try (split at h)
  all_goals first
    | obtain rfl := Option.some.inj h
    | cases h
  all_goals first
    | with_reducible exact State.cmdContextRemove_frame (hst := hst) (hsub := List.Subset.trans (by decide) hsub) ..
    | with_reducible exact State.cmdRecoveryLevel_frame (hst := hst) (hsub := List.Subset.trans (by decide) hsub) ..
    | with_reducible exact State.cmdServoRestart_frame (hst := hst) (hsub := List.Subset.trans (by decide) hsub) ..
    | with_reducible exact State.cmdSoAck_frame (hst := hst) (hsub := List.Subset.trans (by decide) hsub) ..
    | with_reducible exact State.cmdStormRelease_frame (hst := hst) (hsub := List.Subset.trans (by decide) hsub) ..
    | with_reducible exact State.entryCmd_frame (hst := hst) (hsub := List.Subset.trans (by decide) hsub) ..
    | with_reducible exact State.quCmd_frame (hst := hst) (hsub := List.Subset.trans (by decide) hsub) ..
    | with_reducible exact State.reserveWrite_frame (hst := hst) (hsub := List.Subset.trans (by decide) hsub) ..
    | with_reducible exact State.resetCmd_frame (hst := hst) (hsub := List.Subset.trans (by decide) hsub) ..
    | with_reducible exact State.soCmd_frame (hst := hst) (hsub := List.Subset.trans (by decide) hsub) ..

/-- What `State.ownWriteHigh` may change. -/
theorem State.ownWriteHigh_frame {ps : List Part} {s0 : State} (s : State) (c : Ctx) (idx sub : Nat) (b : List Byte) (hst : Changes ps s0 s)
    (hsub : [.emitted, .freeCount, .hub, .sched, .units, .qu, .podCut, .dump, .hang, .fm, .adm, .bar, .backup, .flash, .logSeq, .log, .port, .fw, .lc] ⊆ ps)
    (a : Reply) (h : s.ownWriteHigh c idx sub b = some a) : Changes ps s0 a.state := by
  unfold State.ownWriteHigh at h
  extract_lets v at h
  split at h
  all_goals try (split at h)
  all_goals first
    | obtain rfl := Option.some.inj h
    | cases h
  all_goals first
    | with_reducible exact State.ackLog_frame (hst := hst) (hsub := List.Subset.trans (by decide) hsub) ..
    | with_reducible exact State.admCmd_frame (hst := hst) (hsub := List.Subset.trans (by decide) hsub) ..
    | with_reducible exact State.cmdFwUpdate_frame (hst := hst) (hsub := List.Subset.trans (by decide) hsub) ..
    | with_reducible exact State.cmdFwUpdateApply_frame (hst := hst) (hsub := List.Subset.trans (by decide) hsub) ..
    | with_reducible exact State.cmdTbEventAck_frame (hst := hst) (hsub := List.Subset.trans (by decide) hsub) ..
    | with_reducible exact State.cmdTbQuarantineClear_frame (hst := hst) (hsub := List.Subset.trans (by decide) hsub) ..
    | with_reducible exact State.keyWrite_frame (hst := hst) (hsub := List.Subset.trans (by decide) hsub) ..
    | with_reducible exact State.loadKernel_frame (hst := hst) (hsub := List.Subset.trans (by decide) hsub) ..
    | with_reducible exact State.orderWrite_frame (hst := hst) (hsub := List.Subset.trans (by decide) hsub) ..
    | with_reducible exact State.probeCmd_frame (hst := hst) (hsub := List.Subset.trans (by decide) hsub) ..
    | with_reducible exact State.suspectCmd_frame (hst := hst) (hsub := List.Subset.trans (by decide) hsub) ..
    | with_reducible exact State.tokenWrite_frame (hst := hst) (hsub := List.Subset.trans (by decide) hsub) ..

/-- What `State.wholeWrite` may change. -/
theorem State.wholeWrite_frame {ps : List Part} {s0 : State} (s : State) (c : Ctx) (r : ObjRow) (sub : Nat)
    (b : List Byte) (hst : Changes ps s0 s)
    (hsub : [.emitted, .freeCount, .topo, .hub, .tb, .wireA, .wireR, .pod, .frame, .sched, .units, .qu, .podCut, .dump, .hang, .fm, .adm, .bar, .trace, .power, .rst, .backup, .flash, .logSeq, .imageIds, .log, .port, .fw, .lc, .pins] ⊆ ps) :
    Changes ps s0 ((State.wholeWrite s c r sub b).state) := by
  unfold State.wholeWrite
  split
  · next a h =>
    cases hl : s.ownWriteLow r sub b with
    | some a' =>
      rw [hl] at h
      obtain rfl := Option.some.inj h
      exact State.ownWriteLow_frame s r sub b hst (List.Subset.trans (by decide) hsub) _ hl
    | none =>
      rw [hl] at h
      exact State.ownWriteHigh_frame s c r.idx sub b hst (List.Subset.trans (by decide) hsub) _ h
  · split
    · exact State.accept_frame _ (State.objWrite_frame _ _ _ _ hst (List.Subset.trans (by decide) hsub)) (by simp)
    · exact State.refuse_frame _ _ hst (by simp)

/-- What `State.putSet` may change. -/
theorem State.putSet_frame {ps : List Part} {s0 : State} (s : State) (who : Requester) (l : List Staged) (hst : Changes ps s0 s) (hsub : [.frame] ⊆ ps) :
    Changes ps s0 (State.putSet s who l) := by
  unfold State.putSet
  repeat' first
    | with_reducible assumption
    | ((fail_if_no_progress extract_lets a1 a2))
    | dsimp only [a1]
    | dsimp only [a2]
    | (simp only [Changes.mk_eq_upd]; (with_reducible apply Changes.upd); (case e11 => exact Or.inl (hsub (by decide))); all_goals first | with_reducible exact Or.inr rfl | skip)

/-- What `State.stageValue` may change. -/
theorem State.stageValue_frame {ps : List Part} {s0 : State} (s : State) (c : Ctx) (r : ObjRow) (sub : Nat) (b : List Byte) (hst : Changes ps s0 s) (hsub : [.frame] ⊆ ps) :
    Changes ps s0 ((State.stageValue s c r sub b).state) := by
  unfold State.stageValue
  repeat' first
    | with_reducible assumption
    | ((with_reducible apply State.accept_frame); (case hsub => exact List.Subset.trans (by decide) hsub))
    | ((with_reducible apply State.putSet_frame); (case hsub => exact List.Subset.trans (by decide) hsub))
    | ((with_reducible apply State.refuse_frame); (case hsub => exact List.Subset.trans (by decide) hsub))
    | ((fail_if_no_progress extract_lets a1))
    | dsimp only [a1]
    | split

/-- What `State.dropSet` may change. -/
theorem State.dropSet_frame {ps : List Part} {s0 : State} (s : State) (who : Requester) (hst : Changes ps s0 s) (hsub : [.frame] ⊆ ps) :
    Changes ps s0 (State.dropSet s who) := by
  unfold State.dropSet
  repeat' first
    | with_reducible assumption
    | ((fail_if_no_progress extract_lets a1))
    | dsimp only [a1]
    | (simp only [Changes.mk_eq_upd]; (with_reducible apply Changes.upd); (case e11 => exact Or.inl (hsub (by decide))); all_goals first | with_reducible exact Or.inr rfl | skip)

/-- What `State.commitSet` may change. -/
theorem State.commitSet_frame {ps : List Part} {s0 : State} (s : State) (c : Ctx) (indivisible notify : Bool) (hst : Changes ps s0 s) (hsub : [.frame] ⊆ ps) :
    Changes ps s0 ((State.commitSet s c indivisible notify).state) := by
  unfold State.commitSet
  repeat' first
    | with_reducible assumption
    | ((with_reducible apply State.dropSet_frame); (case hsub => exact List.Subset.trans (by decide) hsub))
    | ((with_reducible apply State.refuse_frame); (case hsub => exact List.Subset.trans (by decide) hsub))
    | ((fail_if_no_progress extract_lets a1 a2 a3 a4 a5 a6))
    | dsimp only [a1]
    | dsimp only [a2]
    | dsimp only [a3]
    | dsimp only [a4]
    | dsimp only [a5]
    | dsimp only [a6]
    | (simp only [Changes.mk_eq_upd]; (with_reducible apply Changes.upd); (case e11 => exact Or.inl (hsub (by decide))); all_goals first | with_reducible exact Or.inr rfl | skip)
    | split

/-- What `State.openedValue` may change. -/
theorem State.openedValue_frame {ps : List Part} {s0 : State} (s : State) (c : Ctx) (idx sub : Nat) (hst : Changes ps s0 s) (hsub : [.freeCount, .tb, .pod, .port] ⊆ ps) :
    Changes ps s0 ((State.openedValue s c idx sub).1) := by
  unfold State.openedValue
  repeat' first
    | with_reducible assumption
    | ((with_reducible apply State.drawn_frame); (case hsub => exact List.Subset.trans (by decide) hsub))
    | ((with_reducible apply State.newChallenge_frame); (case hsub => exact List.Subset.trans (by decide) hsub))
    | ((fail_if_no_progress extract_lets a1 a2 a3))
    | dsimp only [a1]
    | dsimp only [a2]
    | dsimp only [a3]
    | (simp only [Changes.mk_eq_upd]; (with_reducible apply Changes.upd); (case e3 | e7 | e10 | e30 => exact Or.inl (hsub (by decide))); all_goals first | with_reducible exact Or.inr rfl | skip)
    | split

/-- What `State.openWrite` may change. -/
theorem State.openWrite_frame {ps : List Part} {s0 : State} (s : State) (c : Ctx) (r : ObjRow) (sub off len : Nat) (hst : Changes ps s0 s) (hsub : [.port] ⊆ ps) :
    Changes ps s0 ((State.openWrite s c r sub off len).state) := by
  unfold State.openWrite
  repeat' first
    | with_reducible assumption
    | ((with_reducible apply State.openBlock_frame); (case hsub => exact List.Subset.trans (by decide) hsub))
    | ((with_reducible apply State.refuse_frame); (case hsub => exact List.Subset.trans (by decide) hsub))
    | split

/-- What `State.openAsRead` may change. -/
theorem State.openAsRead_frame {ps : List Part} {s0 : State} (s : State) (c : Ctx) (idx sub off len : Nat) (hst : Changes ps s0 s) (hsub : [.freeCount, .tb, .pod, .port] ⊆ ps) :
    Changes ps s0 ((State.openAsRead s c idx sub off len).state) := by
  unfold State.openAsRead
  repeat' first
    | with_reducible assumption
    | ((with_reducible apply State.openRead_frame); (case hsub => exact List.Subset.trans (by decide) hsub))
    | ((with_reducible apply State.openedValue_frame); (case hsub => exact List.Subset.trans (by decide) hsub))
    | ((with_reducible apply State.refuse_frame); (case hsub => exact List.Subset.trans (by decide) hsub))
    | dsimp only
    | split

/-- What `State.takeData` may change. -/
theorem State.takeData_frame {ps : List Part} {s0 : State} (s : State) (c : Ctx) (id off : Nat) (data : List Byte) (hst : Changes ps s0 s) (hsub : [.port] ⊆ ps) :
    Changes ps s0 ((State.takeData s c id off data).state) := by
  unfold State.takeData
  repeat' first
    | with_reducible assumption
    | ((with_reducible apply State.accept_frame); (case hsub => exact List.Subset.trans (by decide) hsub))
    | ((with_reducible apply State.refuse_frame); (case hsub => exact List.Subset.trans (by decide) hsub))
    | (simp only [Changes.mk_eq_upd]; (with_reducible apply Changes.upd); (case e30 => exact Or.inl (hsub (by decide))); all_goals first | with_reducible exact Or.inr rfl | skip)
    | dsimp only
    | split

/-- What `State.closeLcRequest` may change. -/
theorem State.closeLcRequest_frame {ps : List Part} {s0 : State} (s : State) (c : Ctx) (b : List Byte) (hst : Changes ps s0 s) (hsub : [.emitted, .freeCount, .topo, .tb, .frame, .sched, .units, .qu, .podCut, .dump, .hang, .fm, .adm, .bar, .trace, .backup, .flash, .logSeq, .log, .port, .lc, .dram] ⊆ ps) :
    Changes ps s0 (State.closeLcRequest s c b) := by
  unfold State.closeLcRequest
  repeat' first
    | with_reducible assumption
    | ((with_reducible apply State.answer_frame); (case hsub => exact List.Subset.trans (by decide) hsub))
    | ((with_reducible apply State.lcChange_frame); (case hsub => exact List.Subset.trans (by decide) hsub))
    | ((with_reducible apply State.lcCheck_frame); (case hsub => exact List.Subset.trans (by decide) hsub))
    | (with_reducible apply Changes.ofFst; rotate_left; (with_reducible assumption))
    | split

/-- What `State.closeWrite` may change. -/
theorem State.closeWrite_frame {ps : List Part} {s0 : State} (s : State) (c : Ctx) (b : Block) (hst : Changes ps s0 s) (hsub : [.emitted, .freeCount, .topo, .hub, .tb, .wireA, .wireR, .pod, .frame, .sched, .units, .qu, .podCut, .dump, .hang, .fm, .adm, .bar, .trace, .power, .rst, .backup, .flash, .logSeq, .imageIds, .log, .port, .fw, .lc, .pins, .dram] ⊆ ps) :
    Changes ps s0 (State.closeWrite s c b) := by
  unfold State.closeWrite
  repeat' first
    | with_reducible assumption
    | ((with_reducible apply State.answer_frame); (case hsub => exact List.Subset.trans (by decide) hsub))
    | ((with_reducible apply State.closeLcRequest_frame); (case hsub => exact List.Subset.trans (by decide) hsub))
    | ((with_reducible apply State.wholeWrite_frame); (case hsub => exact List.Subset.trans (by decide) hsub))
    | with_reducible apply Changes.ite
    | dsimp only
    | split

/-- What `State.closeBlock` may change. -/
theorem State.closeBlock_frame {ps : List Part} {s0 : State} (s : State) (c : Ctx) (id crc : Nat) (hst : Changes ps s0 s) (hsub : [.emitted, .freeCount, .topo, .hub, .tb, .wireA, .wireR, .pod, .frame, .sched, .units, .qu, .podCut, .dump, .hang, .fm, .adm, .bar, .trace, .power, .rst, .backup, .flash, .logSeq, .imageIds, .log, .port, .fw, .lc, .pins, .dram] ⊆ ps) :
    Changes ps s0 (State.closeBlock s c id crc) := by
  unfold State.closeBlock
  repeat' first
    | with_reducible assumption
    | ((with_reducible apply State.answer_frame); (case hsub => exact List.Subset.trans (by decide) hsub))
    | ((with_reducible apply State.closeWrite_frame); (case hsub => exact List.Subset.trans (by decide) hsub))
    | ((with_reducible apply State.dropBlock_frame); (case hsub => exact List.Subset.trans (by decide) hsub))
    | with_reducible apply Changes.ite
    | ((fail_if_no_progress extract_lets a1); try (refine (have ha1 : Changes ps s0 a1 := ?_; ?_); rotate_left; clear_value a1))
    | split

/-- What `State.timeOutBlock` may change. -/
theorem State.timeOutBlock_frame {ps : List Part} {s0 : State} (s : State) (b : Block) (hst : Changes ps s0 s) (hsub : [.emitted, .port] ⊆ ps) :
    Changes ps s0 (State.timeOutBlock s b) := by
  unfold State.timeOutBlock
  repeat' first
    | with_reducible assumption
    | ((with_reducible apply State.dropBlock_frame); (case hsub => exact List.Subset.trans (by decide) hsub))
    | ((with_reducible apply State.emit_frame); (case hsub => exact List.Subset.trans (by decide) hsub))
    | ((with_reducible apply State.sendIn_frame); (case hsub => exact List.Subset.trans (by decide) hsub))
    | ((fail_if_no_progress extract_lets a1); try (refine (have ha1 : Changes ps s0 a1 := ?_; ?_); rotate_left; clear_value a1))
    | split

/-- What `State.resendData` may change. -/
theorem State.resendData_frame {ps : List Part} {s0 : State} (s : State) (b : Block) (f : BlkSent) (hst : Changes ps s0 s) (hsub : [.emitted, .port] ⊆ ps) :
    Changes ps s0 (State.resendData s b f) := by
  unfold State.resendData
  repeat' first
    | with_reducible assumption
    | ((with_reducible apply State.emit_frame); (case hsub => exact List.Subset.trans (by decide) hsub))
    | ((fail_if_no_progress extract_lets a1 a2))
    | dsimp only [a1]
    | dsimp only [a2]
    | (simp only [Changes.mk_eq_upd]; (with_reducible apply Changes.upd); (case e2 | e30 => exact Or.inl (hsub (by decide))); all_goals first | with_reducible exact Or.inr rfl | skip)
    | split

end Sys2Proof.Machine
end

