-- ==== Sys2Proof/Laws/ExecAccess.lean ====
section
/-!
SUPPORT. What the commands of Access.lean may change: one lemma per meaning.
-/
namespace Sys2Proof.Machine

/-- What `execRegisterWrite` may change. -/
theorem execRegisterWrite_frame {ps : List Part} {s0 : State} (dt : Nat) (req : Req) (idx sub off : Nat) (bytes : List Byte) (s : State) (hst : Changes ps s0 s) (hsub : [.elapsed, .emitted, .freeCount, .topo, .hub, .tb, .wireA, .wireR, .pod, .frame, .sched, .units, .qu, .podCut, .dump, .hang, .fm, .adm, .bar, .trace, .power, .rst, .backup, .flash, .logSeq, .imageIds, .log, .port, .fw, .lc, .pins] ⊆ ps) :
    Changes ps s0 (outState (execRegisterWrite dt req idx sub off bytes s)) := by
  unfold execRegisterWrite
  repeat' first
    | with_reducible apply Changes.done
    | with_reducible assumption
    | ((with_reducible apply State.begin_frame); (case hsub => exact List.Subset.trans (by decide) hsub))
    | ((with_reducible apply State.refuse_frame); (case hsub => exact List.Subset.trans (by decide) hsub))
    | ((with_reducible apply State.serve_frame); (case' h_f => intro y0 y1 hy); (case hsub => exact List.Subset.trans (by decide) hsub))
    | ((with_reducible apply State.wholeWrite_frame); (case hsub => exact List.Subset.trans (by decide) hsub))
    | split

/-- What `execStage` may change. -/
theorem execStage_frame {ps : List Part} {s0 : State} (dt : Nat) (req : Req) (idx sub off : Nat) (bytes : List Byte) (s : State) (hst : Changes ps s0 s) (hsub : [.elapsed, .emitted, .tb, .frame, .backup, .flash, .logSeq, .log, .port] ⊆ ps) :
    Changes ps s0 (outState (execStage dt req idx sub off bytes s)) := by
  unfold execStage
  repeat' first
    | with_reducible apply Changes.done
    | with_reducible assumption
    | ((with_reducible apply State.begin_frame); (case hsub => exact List.Subset.trans (by decide) hsub))
    | ((with_reducible apply State.refuse_frame); (case hsub => exact List.Subset.trans (by decide) hsub))
    | ((with_reducible apply State.serve_frame); (case' h_f => intro y0 y1 hy); (case hsub => exact List.Subset.trans (by decide) hsub))
    | ((with_reducible apply State.stageValue_frame); (case hsub => exact List.Subset.trans (by decide) hsub))
    | dsimp only
    | split

/-- What `execCommit` may change. -/
theorem execCommit_frame {ps : List Part} {s0 : State} (dt : Nat) (req : Req) (indivisible notify : Bool) (s : State) (hst : Changes ps s0 s) (hsub : [.elapsed, .emitted, .tb, .frame, .backup, .flash, .logSeq, .log, .port] ⊆ ps) :
    Changes ps s0 (outState (execCommit dt req indivisible notify s)) := by
  unfold execCommit
  repeat' first
    | with_reducible apply Changes.done
    | with_reducible assumption
    | ((with_reducible apply State.begin_frame); (case hsub => exact List.Subset.trans (by decide) hsub))
    | ((with_reducible apply State.commitSet_frame); (case hsub => exact List.Subset.trans (by decide) hsub))
    | ((with_reducible apply State.serveAny_frame); (case' h_f => intro y0 y1 hy); (case hsub => exact List.Subset.trans (by decide) hsub))

/-- What `execLogAck` may change. -/
theorem execLogAck_frame {ps : List Part} {s0 : State} (dt : Nat) (req : Req) (seq : Nat) (s : State) (hst : Changes ps s0 s) (hsub : [.elapsed, .emitted, .tb, .frame, .backup, .flash, .logSeq, .log, .port] ⊆ ps) :
    Changes ps s0 (outState (execLogAck dt req seq s)) := by
  unfold execLogAck
  repeat' first
    | with_reducible apply Changes.done
    | with_reducible assumption
    | ((with_reducible apply State.ackLog_frame); (case hsub => exact List.Subset.trans (by decide) hsub))
    | ((with_reducible apply State.begin_frame); (case hsub => exact List.Subset.trans (by decide) hsub))
    | ((with_reducible apply State.serve_frame); (case' h_f => intro y0 y1 hy); (case hsub => exact List.Subset.trans (by decide) hsub))

/-- What `execLogRead` may change. -/
theorem execLogRead_frame {ps : List Part} {s0 : State} (dt : Nat) (req : Req) (s : State) (hst : Changes ps s0 s) (hsub : [.elapsed, .emitted, .freeCount, .tb, .frame, .backup, .flash, .logSeq, .log, .port] ⊆ ps) :
    Changes ps s0 (outState (execLogRead dt req s)) := by
  unfold execLogRead
  repeat' first
    | with_reducible apply Changes.done
    | with_reducible assumption
    | ((with_reducible apply State.begin_frame); (case hsub => exact List.Subset.trans (by decide) hsub))
    | ((with_reducible apply State.serveRead_frame); (case' h_f => intro y0 y1 hy); (case hsub => exact List.Subset.trans (by decide) hsub))

/-- What `execBlkOpen` may change. -/
theorem execBlkOpen_frame {ps : List Part} {s0 : State} (dt : Nat) (req : Req) (idx sub dir off len : Nat) (s : State) (hst : Changes ps s0 s) (hsub : [.elapsed, .emitted, .freeCount, .tb, .pod, .frame, .backup, .flash, .logSeq, .log, .port] ⊆ ps) :
    Changes ps s0 (outState (execBlkOpen dt req idx sub dir off len s)) := by
  unfold execBlkOpen
  repeat' first
    | with_reducible apply Changes.done
    | with_reducible assumption
    | ((with_reducible apply State.begin_frame); (case hsub => exact List.Subset.trans (by decide) hsub))
    | ((with_reducible apply State.openAsRead_frame); (case hsub => exact List.Subset.trans (by decide) hsub))
    | ((with_reducible apply State.openWrite_frame); (case hsub => exact List.Subset.trans (by decide) hsub))
    | ((with_reducible apply State.pumpBlock_frame); (case hsub => exact List.Subset.trans (by decide) hsub))
    | ((with_reducible apply State.refuse_frame); (case hsub => exact List.Subset.trans (by decide) hsub))
    | ((with_reducible apply State.serve_frame); (case' h_f => intro y0 y1 hy); (case hsub => exact List.Subset.trans (by decide) hsub))
    | with_reducible apply Changes.ite
    | split

/-- What `execBlkData` may change. -/
theorem execBlkData_frame {ps : List Part} {s0 : State} (dt : Nat) (req : Req) (block off : Nat) (bytes : List Byte) (s : State) (hst : Changes ps s0 s) (hsub : [.elapsed, .emitted, .tb, .frame, .backup, .flash, .logSeq, .log, .port] ⊆ ps) :
    Changes ps s0 (outState (execBlkData dt req block off bytes s)) := by
  unfold execBlkData
  repeat' first
    | with_reducible apply Changes.done
    | with_reducible assumption
    | ((with_reducible apply State.begin_frame); (case hsub => exact List.Subset.trans (by decide) hsub))
    | ((with_reducible apply State.serveAny_frame); (case' h_f => intro y0 y1 hy); (case hsub => exact List.Subset.trans (by decide) hsub))
    | ((with_reducible apply State.takeData_frame); (case hsub => exact List.Subset.trans (by decide) hsub))

/-- What `execBlkClose` may change. -/
theorem execBlkClose_frame {ps : List Part} {s0 : State} (dt : Nat) (req : Req) (block crc : Nat) (s : State) (hst : Changes ps s0 s) (hsub : [.elapsed, .emitted, .freeCount, .topo, .hub, .tb, .wireA, .wireR, .pod, .frame, .sched, .units, .qu, .podCut, .dump, .hang, .fm, .adm, .bar, .trace, .power, .rst, .backup, .flash, .logSeq, .imageIds, .log, .port, .fw, .lc, .pins, .dram] ⊆ ps) :
    Changes ps s0 (outState (execBlkClose dt req block crc s)) := by
  unfold execBlkClose
  repeat' first
    | with_reducible apply Changes.done
    | with_reducible assumption
    | ((with_reducible apply State.admitReq_frame); (case hsub => exact List.Subset.trans (by decide) hsub))
    | ((with_reducible apply State.begin_frame); (case hsub => exact List.Subset.trans (by decide) hsub))
    | ((with_reducible apply State.closeBlock_frame); (case hsub => exact List.Subset.trans (by decide) hsub))
    | (with_reducible apply Changes.ofFst; rotate_left; (with_reducible assumption))
    | split

/-- What `execBlkDataResend` may change. -/
theorem execBlkDataResend_frame {ps : List Part} {s0 : State} (dt : Nat) (block seq : Nat) (s : State) (hst : Changes ps s0 s) (hsub : [.elapsed, .emitted, .port] ⊆ ps) :
    Changes ps s0 (outState (execBlkDataResend dt block seq s)) := by
  unfold execBlkDataResend
  repeat' first
    | with_reducible apply Changes.done
    | with_reducible assumption
    | ((with_reducible apply State.begin_frame); (case hsub => exact List.Subset.trans (by decide) hsub))
    | ((with_reducible apply State.onlyIf_frame); (case' h_f => intro y0 hy); (case hsub => exact List.Subset.trans (by decide) hsub))
    | ((with_reducible apply State.resendData_frame); (case hsub => exact List.Subset.trans (by decide) hsub))
    | ((with_reducible apply State.timeOutBlock_frame); (case hsub => exact List.Subset.trans (by decide) hsub))
    | with_reducible apply Changes.ite
    | split

/-- What `execBlkTimeout` may change. -/
theorem execBlkTimeout_frame {ps : List Part} {s0 : State} (dt : Nat) (block : Nat) (s : State) (hst : Changes ps s0 s) (hsub : [.elapsed, .emitted, .port] ⊆ ps) :
    Changes ps s0 (outState (execBlkTimeout dt block s)) := by
  unfold execBlkTimeout
  repeat' first
    | with_reducible apply Changes.done
    | with_reducible assumption
    | ((with_reducible apply State.begin_frame); (case hsub => exact List.Subset.trans (by decide) hsub))
    | ((with_reducible apply State.onlyIf_frame); (case' h_f => intro y0 hy); (case hsub => exact List.Subset.trans (by decide) hsub))
    | ((with_reducible apply State.timeOutBlock_frame); (case hsub => exact List.Subset.trans (by decide) hsub))
    | split

end Sys2Proof.Machine
end

