-- ==== Sys2Proof/Laws/ExecAdmit.lean ====
section
/-!
SUPPORT. What the commands of Admit.lean may change: one lemma per meaning.
-/
namespace Sys2Proof.Machine

/-- What `execAdmBegin` may change. -/
theorem execAdmBegin_frame {ps : List Part} {s0 : State} (dt : Nat) (req : Req) (s : State) (hst : Changes ps s0 s) (hsub : [.elapsed, .emitted, .tb, .frame, .dump, .fm, .adm, .bar, .backup, .flash, .logSeq, .log, .port] ⊆ ps) :
    Changes ps s0 (outState (execAdmBegin dt req s)) := by
  unfold execAdmBegin
  repeat' first
    | with_reducible apply Changes.done
    | with_reducible assumption
    | ((with_reducible apply State.begin_frame); (case hsub => exact List.Subset.trans (by decide) hsub))
    | ((with_reducible apply State.cmdAdmBegin_frame); (case hsub => exact List.Subset.trans (by decide) hsub))
    | ((with_reducible apply State.serve_frame); (case' h_f => intro y0 y1 hy); (case hsub => exact List.Subset.trans (by decide) hsub))

/-- What `execAdmServe` may change. -/
theorem execAdmServe_frame {ps : List Part} {s0 : State} (dt : Nat) (req : Req) (s : State) (hst : Changes ps s0 s) (hsub : [.elapsed, .emitted, .tb, .frame, .adm, .backup, .flash, .logSeq, .log, .port] ⊆ ps) :
    Changes ps s0 (outState (execAdmServe dt req s)) := by
  unfold execAdmServe
  repeat' first
    | with_reducible apply Changes.done
    | with_reducible assumption
    | ((with_reducible apply State.begin_frame); (case hsub => exact List.Subset.trans (by decide) hsub))
    | ((with_reducible apply State.cmdAdmServe_frame); (case hsub => exact List.Subset.trans (by decide) hsub))
    | ((with_reducible apply State.serve_frame); (case' h_f => intro y0 y1 hy); (case hsub => exact List.Subset.trans (by decide) hsub))

/-- What `execAdmAbort` may change. -/
theorem execAdmAbort_frame {ps : List Part} {s0 : State} (dt : Nat) (req : Req) (s : State) (hst : Changes ps s0 s) (hsub : [.elapsed, .emitted, .freeCount, .tb, .frame, .adm, .backup, .flash, .logSeq, .log, .port] ⊆ ps) :
    Changes ps s0 (outState (execAdmAbort dt req s)) := by
  unfold execAdmAbort
  repeat' first
    | with_reducible apply Changes.done
    | with_reducible assumption
    | ((with_reducible apply State.begin_frame); (case hsub => exact List.Subset.trans (by decide) hsub))
    | ((with_reducible apply State.cmdAdmAbort_frame); (case hsub => exact List.Subset.trans (by decide) hsub))
    | ((with_reducible apply State.serve_frame); (case' h_f => intro y0 y1 hy); (case hsub => exact List.Subset.trans (by decide) hsub))

/-- What `execAdmOpenReceive` may change. -/
theorem execAdmOpenReceive_frame {ps : List Part} {s0 : State} (dt : Nat) (die : Nat) (record : List Byte) (s : State) (hst : Changes ps s0 s) (hsub : [.elapsed, .emitted, .adm, .backup, .flash, .logSeq, .log, .port] ⊆ ps) :
    Changes ps s0 (outState (execAdmOpenReceive dt die record s)) := by
  unfold execAdmOpenReceive
  repeat' first
    | with_reducible apply Changes.done
    | with_reducible assumption
    | ((with_reducible apply State.admBadCrc_frame); (case hsub => exact List.Subset.trans (by decide) hsub))
    | ((with_reducible apply State.admHeard_frame); (case hsub => exact List.Subset.trans (by decide) hsub))
    | ((with_reducible apply State.begin_frame); (case hsub => exact List.Subset.trans (by decide) hsub))
    | ((with_reducible apply State.onlyIf_frame); (case' h_f => intro y0 hy); (case hsub => exact List.Subset.trans (by decide) hsub))
    | with_reducible apply Changes.ite
    | (simp only [Changes.mk_eq_upd]; (with_reducible apply Changes.upd); (case e1 | e2 | e19 | e24 | e25 | e26 | e29 | e30 => exact Or.inl (hsub (by decide))); all_goals first | with_reducible exact Or.inr rfl | skip)
    | dsimp only
    | split

/-- What `execAdmRecordReceive` may change. -/
theorem execAdmRecordReceive_frame {ps : List Part} {s0 : State} (dt : Nat) (die : Nat) (record : List Byte) (s : State) (hst : Changes ps s0 s) (hsub : [.elapsed, .emitted, .adm, .backup, .flash, .logSeq, .log, .port, .dram] ⊆ ps) :
    Changes ps s0 (outState (execAdmRecordReceive dt die record s)) := by
  unfold execAdmRecordReceive
  repeat' first
    | with_reducible apply Changes.done
    | with_reducible assumption
    | ((with_reducible apply State.admBadCrc_frame); (case hsub => exact List.Subset.trans (by decide) hsub))
    | ((with_reducible apply State.admCore_frame); (case hsub => exact List.Subset.trans (by decide) hsub))
    | ((with_reducible apply State.admHeard_frame); (case hsub => exact List.Subset.trans (by decide) hsub))
    | ((with_reducible apply State.admRegion_frame); (case hsub => exact List.Subset.trans (by decide) hsub))
    | ((with_reducible apply State.begin_frame); (case hsub => exact List.Subset.trans (by decide) hsub))
    | ((with_reducible apply State.onlyIf_frame); (case' h_f => intro y0 hy); (case hsub => exact List.Subset.trans (by decide) hsub))
    | with_reducible apply Changes.ite
    | dsimp only
    | split

/-- What `execAdmEndReceive` may change. -/
theorem execAdmEndReceive_frame {ps : List Part} {s0 : State} (dt : Nat) (record : List Byte) (s : State) (hst : Changes ps s0 s) (hsub : [.elapsed, .emitted, .adm, .backup, .flash, .logSeq, .log, .port] ⊆ ps) :
    Changes ps s0 (outState (execAdmEndReceive dt record s)) := by
  unfold execAdmEndReceive
  repeat' first
    | with_reducible apply Changes.done
    | with_reducible assumption
    | ((with_reducible apply State.admBadCrc_frame); (case hsub => exact List.Subset.trans (by decide) hsub))
    | ((with_reducible apply State.admFail_frame); (case hsub => exact List.Subset.trans (by decide) hsub))
    | ((with_reducible apply State.admHeard_frame); (case hsub => exact List.Subset.trans (by decide) hsub))
    | ((with_reducible apply State.admWave_frame); (case hsub => exact List.Subset.trans (by decide) hsub))
    | ((with_reducible apply State.begin_frame); (case hsub => exact List.Subset.trans (by decide) hsub))
    | ((with_reducible apply State.onlyIf_frame); (case' h_f => intro y0 hy); (case hsub => exact List.Subset.trans (by decide) hsub))
    | with_reducible apply Changes.ite
    | (simp only [Changes.mk_eq_upd]; (with_reducible apply Changes.upd); (case e1 | e2 | e19 | e24 | e25 | e26 | e29 | e30 => exact Or.inl (hsub (by decide))); all_goals first | with_reducible exact Or.inr rfl | skip)
    | dsimp only
    | split

/-- What `execAdmStall` may change. -/
theorem execAdmStall_frame {ps : List Part} {s0 : State} (dt : Nat) (s : State) (hst : Changes ps s0 s) (hsub : [.elapsed, .emitted, .adm, .backup, .flash, .logSeq, .log, .port] ⊆ ps) :
    Changes ps s0 (outState (execAdmStall dt s)) := by
  unfold execAdmStall
  repeat' first
    | with_reducible apply Changes.done
    | with_reducible assumption
    | ((with_reducible apply State.admFail_frame); (case hsub => exact List.Subset.trans (by decide) hsub))
    | ((with_reducible apply State.begin_frame); (case hsub => exact List.Subset.trans (by decide) hsub))
    | ((with_reducible apply State.onlyIf_frame); (case' h_f => intro y0 hy); (case hsub => exact List.Subset.trans (by decide) hsub))

/-- What `execAdmSealResult` may change. -/
theorem execAdmSealResult_frame {ps : List Part} {s0 : State} (dt : Nat) (sum : Nat) (s : State) (hst : Changes ps s0 s) (hsub : [.elapsed, .emitted, .adm, .backup, .flash, .logSeq, .log, .port] ⊆ ps) :
    Changes ps s0 (outState (execAdmSealResult dt sum s)) := by
  unfold execAdmSealResult
  repeat' first
    | with_reducible apply Changes.done
    | with_reducible assumption
    | ((with_reducible apply State.admFail_frame); (case hsub => exact List.Subset.trans (by decide) hsub))
    | ((with_reducible apply State.admWave_frame); (case hsub => exact List.Subset.trans (by decide) hsub))
    | ((with_reducible apply State.begin_frame); (case hsub => exact List.Subset.trans (by decide) hsub))
    | ((with_reducible apply State.logged_frame); (case hsub => exact List.Subset.trans (by decide) hsub))
    | ((with_reducible apply State.onlyIf_frame); (case' h_f => intro y0 hy); (case hsub => exact List.Subset.trans (by decide) hsub))
    | with_reducible apply Changes.ite
    | ((fail_if_no_progress extract_lets a1 a2))
    | dsimp only [a1]
    | dsimp only [a2]
    | (simp only [Changes.mk_eq_upd]; (with_reducible apply Changes.upd); (case e1 | e2 | e19 | e24 | e25 | e26 | e29 | e30 => exact Or.inl (hsub (by decide))); all_goals first | with_reducible exact Or.inr rfl | skip)

/-- What `execAdmFettleDone` may change. -/
theorem execAdmFettleDone_frame {ps : List Part} {s0 : State} (dt : Nat) (s : State) (hst : Changes ps s0 s) (hsub : [.elapsed, .emitted, .adm, .backup, .flash, .logSeq, .log, .port, .dram] ⊆ ps) :
    Changes ps s0 (outState (execAdmFettleDone dt s)) := by
  unfold execAdmFettleDone
  repeat' first
    | with_reducible apply Changes.done
    | with_reducible assumption
    | ((with_reducible apply State.admFailed_frame); (case hsub => exact List.Subset.trans (by decide) hsub))
    | ((with_reducible apply State.begin_frame); (case hsub => exact List.Subset.trans (by decide) hsub))
    | ((with_reducible apply State.onlyIf_frame); (case' h_f => intro y0 hy); (case hsub => exact List.Subset.trans (by decide) hsub))
    | ((fail_if_no_progress extract_lets a1))
    | dsimp only [a1]
    | (simp only [Changes.mk_eq_upd]; (with_reducible apply Changes.upd); (case e1 | e2 | e19 | e24 | e25 | e26 | e29 | e30 | e34 => exact Or.inl (hsub (by decide))); all_goals first | with_reducible exact Or.inr rfl | skip)

/-- What `execAdmServeDone` may change. -/
theorem execAdmServeDone_frame {ps : List Part} {s0 : State} (dt : Nat) (complete : Bool) (sum bytes records : Nat) (s : State) (hst : Changes ps s0 s) (hsub : [.elapsed, .emitted, .adm] ⊆ ps) :
    Changes ps s0 (outState (execAdmServeDone dt complete sum bytes records s)) := by
  unfold execAdmServeDone
  repeat' first
    | with_reducible apply Changes.done
    | with_reducible assumption
    | ((with_reducible apply State.begin_frame); (case hsub => exact List.Subset.trans (by decide) hsub))
    | ((with_reducible apply State.endStream_frame); (case hsub => exact List.Subset.trans (by decide) hsub))
    | ((with_reducible apply State.onlyIf_frame); (case' h_f => intro y0 hy); (case hsub => exact List.Subset.trans (by decide) hsub))

end Sys2Proof.Machine
end

