-- ==== Sys2Proof/Laws/ExecBar.lean ====
section
/-!
SUPPORT. What the commands of Bar.lean may change: one lemma per meaning.
-/
namespace Sys2Proof.Machine

/-- What `execSamplingSlot` may change. -/
theorem execSamplingSlot_frame {ps : List Part} {s0 : State} (dt slot : Nat) (s : State) (hst : Changes ps s0 s) (hsub : [.elapsed, .emitted, .bar] ⊆ ps) :
    Changes ps s0 (outState (execSamplingSlot dt slot s)) := by
  unfold execSamplingSlot
  repeat' first
    | with_reducible apply Changes.done
    | with_reducible assumption
    | ((with_reducible apply State.addCredit_frame); (case hsub => exact List.Subset.trans (by decide) hsub))
    | ((with_reducible apply State.begin_frame); (case hsub => exact List.Subset.trans (by decide) hsub))
    | ((with_reducible apply State.feedSweep_frame); (case hsub => exact List.Subset.trans (by decide) hsub))
    | ((with_reducible apply State.onlyIf_frame); (case' h_f => intro y0 hy); (case hsub => exact List.Subset.trans (by decide) hsub))
    | ((with_reducible apply State.sampleSlot_frame); (case hsub => exact List.Subset.trans (by decide) hsub))
    | with_reducible apply Changes.ite
    | ((fail_if_no_progress extract_lets a1))
    | dsimp only [a1]
    | (simp only [Changes.mk_eq_upd]; (with_reducible apply Changes.upd); (case e1 | e2 | e20 => exact Or.inl (hsub (by decide))); all_goals first | with_reducible exact Or.inr rfl | skip)

/-- What `execCaptureReceive` may change. -/
theorem execCaptureReceive_frame {ps : List Part} {s0 : State} (dt : Nat) (capture : CaptureMsg) (s : State) (hst : Changes ps s0 s) (hsub : [.elapsed, .emitted, .bar, .backup, .flash, .logSeq, .log, .port] ⊆ ps) :
    Changes ps s0 (outState (execCaptureReceive dt capture s)) := by
  unfold execCaptureReceive
  repeat' first
    | with_reducible apply Changes.done
    | with_reducible assumption
    | ((with_reducible apply State.begin_frame); (case hsub => exact List.Subset.trans (by decide) hsub))
    | ((with_reducible apply State.compareTile_frame); (case hsub => exact List.Subset.trans (by decide) hsub))
    | ((with_reducible apply State.dropOrder_frame); (case hsub => exact List.Subset.trans (by decide) hsub))
    | ((with_reducible apply State.feedSweep_frame); (case hsub => exact List.Subset.trans (by decide) hsub))
    | ((with_reducible apply State.logged_frame); (case hsub => exact List.Subset.trans (by decide) hsub))
    | ((with_reducible apply State.notCompared_frame); (case hsub => exact List.Subset.trans (by decide) hsub))
    | with_reducible apply Changes.ite
    | ((fail_if_no_progress extract_lets a1); try (refine (have ha1 : Changes ps s0 a1 := ?_; ?_); rotate_left; clear_value a1))
    | dsimp only
    | split

/-- What `execCaptureTimeout` may change. -/
theorem execCaptureTimeout_frame {ps : List Part} {s0 : State} (dt bar slot : Nat) (s : State) (hst : Changes ps s0 s) (hsub : [.elapsed, .emitted, .bar] ⊆ ps) :
    Changes ps s0 (outState (execCaptureTimeout dt bar slot s)) := by
  unfold execCaptureTimeout
  repeat' first
    | with_reducible apply Changes.done
    | with_reducible assumption
    | ((with_reducible apply State.begin_frame); (case hsub => exact List.Subset.trans (by decide) hsub))
    | ((with_reducible apply State.dropOrder_frame); (case hsub => exact List.Subset.trans (by decide) hsub))
    | ((with_reducible apply State.feedSweep_frame); (case hsub => exact List.Subset.trans (by decide) hsub))
    | ((with_reducible apply State.notCompared_frame); (case hsub => exact List.Subset.trans (by decide) hsub))
    | with_reducible apply Changes.ite
    | split

/-- What `execBarComputeDone` may change. -/
theorem execBarComputeDone_frame {ps : List Part} {s0 : State} (dt bar : Nat) (upset : List (Nat × Nat)) (s : State) (hst : Changes ps s0 s) (hsub : [.elapsed, .emitted, .topo, .hang, .bar, .backup, .flash, .logSeq, .eventSeqs, .log, .port] ⊆ ps) :
    Changes ps s0 (outState (execBarComputeDone dt bar upset s)) := by
  unfold execBarComputeDone
  repeat' first
    | with_reducible apply Changes.done
    | with_reducible assumption
    | ((with_reducible apply State.begin_frame); (case hsub => exact List.Subset.trans (by decide) hsub))
    | ((with_reducible apply State.decideMismatch_frame); (case hsub => exact List.Subset.trans (by decide) hsub))
    | ((with_reducible apply State.feedSweep_frame); (case hsub => exact List.Subset.trans (by decide) hsub))
    | with_reducible apply Changes.ite
    | ((fail_if_no_progress extract_lets a1))
    | dsimp only [a1]
    | (simp only [Changes.mk_eq_upd]; (with_reducible apply Changes.upd); (case e1 | e2 | e5 | e17 | e20 | e24 | e25 | e26 | e28 | e29 | e30 => exact Or.inl (hsub (by decide))); all_goals first | with_reducible exact Or.inr rfl | skip)
    | split

/-- What `execBarSelfCheckDone` may change. -/
theorem execBarSelfCheckDone_frame {ps : List Part} {s0 : State} (dt bar : Nat) (pass : Bool) (s : State) (hst : Changes ps s0 s) (hsub : [.elapsed, .emitted, .freeCount, .bar, .backup, .flash, .logSeq, .eventSeqs, .log, .port] ⊆ ps) :
    Changes ps s0 (outState (execBarSelfCheckDone dt bar pass s)) := by
  unfold execBarSelfCheckDone
  repeat' first
    | with_reducible apply Changes.done
    | with_reducible assumption
    | ((with_reducible apply State.begin_frame); (case hsub => exact List.Subset.trans (by decide) hsub))
    | ((with_reducible apply State.decideFault_frame); (case hsub => exact List.Subset.trans (by decide) hsub))
    | ((with_reducible apply State.logged_frame); (case hsub => exact List.Subset.trans (by decide) hsub))
    | ((with_reducible apply State.onlyIf_frame); (case' h_f => intro y0 hy); (case hsub => exact List.Subset.trans (by decide) hsub))
    | ((with_reducible apply State.setBar_frame); (case hsub => exact List.Subset.trans (by decide) hsub))
    | with_reducible apply Changes.ite
    | ((fail_if_no_progress extract_lets a1 a2 a3 a4); try (refine (have ha1 : Changes ps s0 a1 := ?_; ?_); rotate_left; clear_value a1))
    | dsimp only [a1]
    | dsimp only [a2]
    | dsimp only [a3]
    | dsimp only [a4]
    | (simp only [Changes.mk_eq_upd]; (with_reducible apply Changes.upd); (case e1 | e2 | e3 | e20 | e24 | e25 | e26 | e28 | e29 | e30 => exact Or.inl (hsub (by decide))); all_goals first | with_reducible exact Or.inr rfl | skip)
    | ((with_reducible apply Changes.foldl); (case' h => intro a x ha; try dsimp only))

/-- What `execSdcStormClear` may change. -/
theorem execSdcStormClear_frame {ps : List Part} {s0 : State} (dt : Nat) (s : State) (hst : Changes ps s0 s) (hsub : [.elapsed, .emitted, .bar] ⊆ ps) :
    Changes ps s0 (outState (execSdcStormClear dt s)) := by
  unfold execSdcStormClear
  repeat' first
    | with_reducible apply Changes.done
    | with_reducible assumption
    | ((with_reducible apply State.begin_frame); (case hsub => exact List.Subset.trans (by decide) hsub))
    | ((with_reducible apply State.onlyIf_frame); (case' h_f => intro y0 hy); (case hsub => exact List.Subset.trans (by decide) hsub))
    | ((fail_if_no_progress extract_lets a1))
    | dsimp only [a1]
    | (simp only [Changes.mk_eq_upd]; (with_reducible apply Changes.upd); (case e1 | e2 | e20 => exact Or.inl (hsub (by decide))); all_goals first | with_reducible exact Or.inr rfl | skip)

/-- What `execTbEventAck` may change. -/
theorem execTbEventAck_frame {ps : List Part} {s0 : State} (dt : Nat) (req : Req) (seq : Nat) (s : State) (hst : Changes ps s0 s) (hsub : [.elapsed, .emitted, .tb, .frame, .bar, .backup, .flash, .logSeq, .log, .port] ⊆ ps) :
    Changes ps s0 (outState (execTbEventAck dt req seq s)) := by
  unfold execTbEventAck
  repeat' first
    | with_reducible apply Changes.done
    | with_reducible assumption
    | ((with_reducible apply State.begin_frame); (case hsub => exact List.Subset.trans (by decide) hsub))
    | ((with_reducible apply State.cmdTbEventAck_frame); (case hsub => exact List.Subset.trans (by decide) hsub))
    | ((with_reducible apply State.serve_frame); (case' h_f => intro y0 y1 hy); (case hsub => exact List.Subset.trans (by decide) hsub))

/-- What `execTbQuarantineClear` may change. -/
theorem execTbQuarantineClear_frame {ps : List Part} {s0 : State} (dt : Nat) (req : Req) (idx : Nat) (s : State) (hst : Changes ps s0 s) (hsub : [.elapsed, .emitted, .tb, .frame, .bar, .backup, .flash, .logSeq, .log, .port] ⊆ ps) :
    Changes ps s0 (outState (execTbQuarantineClear dt req idx s)) := by
  unfold execTbQuarantineClear
  repeat' first
    | with_reducible apply Changes.done
    | with_reducible assumption
    | ((with_reducible apply State.begin_frame); (case hsub => exact List.Subset.trans (by decide) hsub))
    | ((with_reducible apply State.cmdTbQuarantineClear_frame); (case hsub => exact List.Subset.trans (by decide) hsub))
    | ((with_reducible apply State.serve_frame); (case' h_f => intro y0 y1 hy); (case hsub => exact List.Subset.trans (by decide) hsub))

/-- What `execTbProbeLoad` may change. -/
theorem execTbProbeLoad_frame {ps : List Part} {s0 : State} (dt : Nat) (req : Req) (kernel : List Byte) (s : State) (hst : Changes ps s0 s) (hsub : [.elapsed, .emitted, .tb, .frame, .bar, .backup, .flash, .logSeq, .log, .port] ⊆ ps) :
    Changes ps s0 (outState (execTbProbeLoad dt req kernel s)) := by
  unfold execTbProbeLoad
  repeat' first
    | with_reducible apply Changes.done
    | with_reducible assumption
    | ((with_reducible apply State.begin_frame); (case hsub => exact List.Subset.trans (by decide) hsub))
    | ((with_reducible apply State.loadKernel_frame); (case hsub => exact List.Subset.trans (by decide) hsub))
    | ((with_reducible apply State.serve_frame); (case' h_f => intro y0 y1 hy); (case hsub => exact List.Subset.trans (by decide) hsub))

/-- What `execProbeRunBar` may change. -/
theorem execProbeRunBar_frame {ps : List Part} {s0 : State} (dt : Nat) (req : Req) (kernel uid engine : Nat) (s : State) (hst : Changes ps s0 s) (hsub : [.elapsed, .emitted, .tb, .frame, .bar, .backup, .flash, .logSeq, .log, .port] ⊆ ps) :
    Changes ps s0 (outState (execProbeRunBar dt req kernel uid engine s)) := by
  unfold execProbeRunBar
  repeat' first
    | with_reducible apply Changes.done
    | with_reducible assumption
    | ((with_reducible apply State.begin_frame); (case hsub => exact List.Subset.trans (by decide) hsub))
    | ((with_reducible apply State.serve_frame); (case' h_f => intro y0 y1 hy); (case hsub => exact List.Subset.trans (by decide) hsub))
    | ((with_reducible apply State.startRun_frame); (case hsub => exact List.Subset.trans (by decide) hsub))

/-- What `execProbeRunEngine` may change. -/
theorem execProbeRunEngine_frame {ps : List Part} {s0 : State} (dt : Nat) (req : Req) (kernel uid engine : Nat) (s : State) (hst : Changes ps s0 s) (hsub : [.elapsed, .emitted, .tb, .frame, .bar, .backup, .flash, .logSeq, .log, .port] ⊆ ps) :
    Changes ps s0 (outState (execProbeRunEngine dt req kernel uid engine s)) := by
  unfold execProbeRunEngine
  repeat' first
    | with_reducible apply Changes.done
    | with_reducible assumption
    | ((with_reducible apply State.begin_frame); (case hsub => exact List.Subset.trans (by decide) hsub))
    | ((with_reducible apply State.serve_frame); (case' h_f => intro y0 y1 hy); (case hsub => exact List.Subset.trans (by decide) hsub))
    | ((with_reducible apply State.startRun_frame); (case hsub => exact List.Subset.trans (by decide) hsub))

/-- What `execProbeOpDone` may change. -/
theorem execProbeOpDone_frame {ps : List Part} {s0 : State} (dt : Nat) (header : List Byte) (engineResult : List Nat) (upset : List (Nat × Nat)) (s : State) (hst : Changes ps s0 s) (hsub : [.elapsed, .emitted, .bar, .backup, .flash, .logSeq, .log, .port] ⊆ ps) :
    Changes ps s0 (outState (execProbeOpDone dt header engineResult upset s)) := by
  unfold execProbeOpDone
  repeat' first
    | with_reducible apply Changes.done
    | with_reducible assumption
    | ((with_reducible apply State.begin_frame); (case hsub => exact List.Subset.trans (by decide) hsub))
    | ((with_reducible apply State.logged_frame); (case hsub => exact List.Subset.trans (by decide) hsub))
    | ((with_reducible apply State.sendOp_frame); (case hsub => exact List.Subset.trans (by decide) hsub))
    | ((with_reducible apply State.startRecheck_frame); (case hsub => exact List.Subset.trans (by decide) hsub))
    | with_reducible apply Changes.ite
    | ((fail_if_no_progress extract_lets a1))
    | dsimp only [a1]
    | (simp only [Changes.mk_eq_upd]; (with_reducible apply Changes.upd); (case e1 | e2 | e20 | e24 | e25 | e26 | e29 | e30 => exact Or.inl (hsub (by decide))); all_goals first | with_reducible exact Or.inr rfl | skip)
    | split

end Sys2Proof.Machine
end

