-- ==== Sys2Proof/Laws/ExecChill.lean ====
section
/-!
SUPPORT. What the commands of Chill.lean may change: one lemma per meaning.
-/
namespace Sys2Proof.Machine

/-- What `execChillEntry` may change. -/
theorem execChillEntry_frame {ps : List Part} {s0 : State} (dt : Nat) (half : Nat) (s : State) (hst : Changes ps s0 s) (hsub : [.elapsed, .emitted, .topo, .units] ⊆ ps) :
    Changes ps s0 (outState (execChillEntry dt half s)) := by
  unfold execChillEntry
  repeat' first
    | with_reducible apply Changes.done
    | with_reducible assumption
    | ((with_reducible apply State.begin_frame); (case hsub => exact List.Subset.trans (by decide) hsub))
    | ((with_reducible apply State.modTap_frame); (case hsub => exact List.Subset.trans (by decide) hsub))
    | ((with_reducible apply State.onlyIf_frame); (case' h_f => intro y0 hy); (case hsub => exact List.Subset.trans (by decide) hsub))
    | ((with_reducible apply State.setChilled_frame); (case hsub => exact List.Subset.trans (by decide) hsub))
    | ((with_reducible apply Changes.foldl); (case' h => intro a x ha; try dsimp only))

/-- What `execChillExit` may change. -/
theorem execChillExit_frame {ps : List Part} {s0 : State} (dt : Nat) (half : Nat) (s : State) (hst : Changes ps s0 s) (hsub : [.elapsed, .emitted, .topo, .units, .qu] ⊆ ps) :
    Changes ps s0 (outState (execChillExit dt half s)) := by
  unfold execChillExit
  repeat' first
    | with_reducible apply Changes.done
    | with_reducible assumption
    | ((with_reducible apply State.begin_frame); (case hsub => exact List.Subset.trans (by decide) hsub))
    | ((with_reducible apply State.modTap_frame); (case hsub => exact List.Subset.trans (by decide) hsub))
    | ((with_reducible apply State.onlyIf_frame); (case' h_f => intro y0 hy); (case hsub => exact List.Subset.trans (by decide) hsub))
    | ((with_reducible apply State.setChilled_frame); (case hsub => exact List.Subset.trans (by decide) hsub))
    | ((with_reducible apply State.stepFromNow_frame); (case hsub => exact List.Subset.trans (by decide) hsub))
    | ((with_reducible apply Changes.foldl); (case' h => intro a x ha; try dsimp only))

end Sys2Proof.Machine
end

