-- ==== Sys2Proof/Laws/ExecContext.lean ====
section
/-!
SUPPORT. What the commands of Context.lean may change: one lemma per meaning.
-/
namespace Sys2Proof.Machine

/-- What `execContextRemove` may change. -/
theorem execContextRemove_frame {ps : List Part} {s0 : State} (dt : Nat) (req : Req) (ctx : Nat) (s : State) (hst : Changes ps s0 s) (hsub : [.elapsed, .emitted, .tb, .frame, .hang, .backup, .flash, .logSeq, .log, .port] ⊆ ps) :
    Changes ps s0 (outState (execContextRemove dt req ctx s)) := by
  unfold execContextRemove
  repeat' first
    | with_reducible apply Changes.done
    | with_reducible assumption
    | ((with_reducible apply State.begin_frame); (case hsub => exact List.Subset.trans (by decide) hsub))
    | ((with_reducible apply State.cmdContextRemove_frame); (case hsub => exact List.Subset.trans (by decide) hsub))
    | ((with_reducible apply State.serve_frame); (case' h_f => intro y0 y1 hy); (case hsub => exact List.Subset.trans (by decide) hsub))

/-- What `execRemoveCastIssue` may change. -/
theorem execRemoveCastIssue_frame {ps : List Part} {s0 : State} (dt : Nat) (s : State) (hst : Changes ps s0 s) (hsub : [.elapsed, .emitted, .freeCount, .topo, .qu, .hang, .backup, .flash, .logSeq, .log, .port] ⊆ ps) :
    Changes ps s0 (outState (execRemoveCastIssue dt s)) := by
  unfold execRemoveCastIssue
  repeat' first
    | with_reducible apply Changes.done
    | with_reducible assumption
    | ((with_reducible apply State.begin_frame); (case hsub => exact List.Subset.trans (by decide) hsub))
    | ((with_reducible apply State.issueRemove_frame); (case hsub => exact List.Subset.trans (by decide) hsub))
    | ((with_reducible apply State.onlyIf_frame); (case' h_f => intro y0 hy); (case hsub => exact List.Subset.trans (by decide) hsub))
    | ((with_reducible apply State.resetMayStart_frame); (case hsub => exact List.Subset.trans (by decide) hsub))

/-- What `execContextCastReceive` may change. -/
theorem execContextCastReceive_frame {ps : List Part} {s0 : State} (dt : Nat) (target : Nat) (cast : List Byte) (status uid engine : Nat) (s : State) (hst : Changes ps s0 s) (hsub : [.elapsed, .emitted, .units, .hang] ⊆ ps) :
    Changes ps s0 (outState (execContextCastReceive dt target cast status uid engine s)) := by
  unfold execContextCastReceive
  repeat' first
    | with_reducible apply Changes.done
    | with_reducible assumption
    | ((with_reducible apply State.actOnOrder_frame); (case hsub => exact List.Subset.trans (by decide) hsub))
    | ((with_reducible apply State.begin_frame); (case hsub => exact List.Subset.trans (by decide) hsub))
    | ((with_reducible apply State.emit_frame); (case hsub => exact List.Subset.trans (by decide) hsub))
    | ((with_reducible apply State.onlyIf_frame); (case' h_f => intro y0 hy); (case hsub => exact List.Subset.trans (by decide) hsub))
    | ((with_reducible apply State.sendAnswer_frame); (case hsub => exact List.Subset.trans (by decide) hsub))
    | with_reducible apply Changes.ite
    | split

/-- What `execRemoveCountComplete` may change. -/
theorem execRemoveCountComplete_frame {ps : List Part} {s0 : State} (dt : Nat) (castId : Nat) (s : State) (hst : Changes ps s0 s) (hsub : [.elapsed, .emitted, .freeCount, .topo, .qu, .hang, .bar, .backup, .flash, .logSeq, .log, .port] ⊆ ps) :
    Changes ps s0 (outState (execRemoveCountComplete dt castId s)) := by
  unfold execRemoveCountComplete
  repeat' first
    | with_reducible apply Changes.done
    | with_reducible assumption
    | ((with_reducible apply State.begin_frame); (case hsub => exact List.Subset.trans (by decide) hsub))
    | ((with_reducible apply State.moveCtx_frame); (case hsub => exact List.Subset.trans (by decide) hsub))
    | ((with_reducible apply State.onlyIf_frame); (case' h_f => intro y0 hy); (case hsub => exact List.Subset.trans (by decide) hsub))
    | ((with_reducible apply State.procRemovals_frame); (case hsub => exact List.Subset.trans (by decide) hsub))
    | ((with_reducible apply State.putCtx_frame); (case hsub => exact List.Subset.trans (by decide) hsub))
    | with_reducible apply Changes.ite
    | ((with_reducible apply Changes.foldl); (case' h => intro a x ha; try dsimp only))
    | dsimp only
    | split

/-- What `execDrainElapsed` may change. -/
theorem execDrainElapsed_frame {ps : List Part} {s0 : State} (dt : Nat) (castId : Nat) (s : State) (hst : Changes ps s0 s) (hsub : [.elapsed, .emitted, .freeCount, .topo, .qu, .hang, .bar, .backup, .flash, .logSeq, .log, .port] ⊆ ps) :
    Changes ps s0 (outState (execDrainElapsed dt castId s)) := by
  unfold execDrainElapsed
  repeat' first
    | with_reducible apply Changes.done
    | with_reducible assumption
    | ((with_reducible apply State.begin_frame); (case hsub => exact List.Subset.trans (by decide) hsub))
    | ((with_reducible apply State.drainCast_frame); (case hsub => exact List.Subset.trans (by decide) hsub))
    | ((with_reducible apply State.onlyIf_frame); (case' h_f => intro y0 hy); (case hsub => exact List.Subset.trans (by decide) hsub))
    | ((with_reducible apply State.procRemovals_frame); (case hsub => exact List.Subset.trans (by decide) hsub))
    | split

/-- What `execContextFettleDone` may change. -/
theorem execContextFettleDone_frame {ps : List Part} {s0 : State} (dt : Nat) (ctx die : Nat) (s : State) (hst : Changes ps s0 s) (hsub : [.elapsed, .emitted, .hang] ⊆ ps) :
    Changes ps s0 (outState (execContextFettleDone dt ctx die s)) := by
  unfold execContextFettleDone
  repeat' first
    | with_reducible apply Changes.done
    | with_reducible assumption
    | ((with_reducible apply State.begin_frame); (case hsub => exact List.Subset.trans (by decide) hsub))
    | ((with_reducible apply State.moveCtx_frame); (case hsub => exact List.Subset.trans (by decide) hsub))
    | ((with_reducible apply State.onlyIf_frame); (case' h_f => intro y0 hy); (case hsub => exact List.Subset.trans (by decide) hsub))
    | with_reducible apply Changes.ite
    | ((fail_if_no_progress extract_lets a1))
    | dsimp only [a1]
    | (simp only [Changes.mk_eq_upd]; (with_reducible apply Changes.upd); (case e1 | e2 | e17 => exact Or.inl (hsub (by decide))); all_goals first | with_reducible exact Or.inr rfl | skip)

/-- What `execReplayResponse` may change. -/
theorem execReplayResponse_frame {ps : List Part} {s0 : State} (dt : Nat) (castId status uid engine : Nat) (s : State) (hst : Changes ps s0 s) (hsub : [.elapsed, .emitted, .freeCount, .topo, .qu, .hang, .bar, .backup, .flash, .logSeq, .log, .port] ⊆ ps) :
    Changes ps s0 (outState (execReplayResponse dt castId status uid engine s)) := by
  unfold execReplayResponse
  repeat' first
    | with_reducible apply Changes.done
    | with_reducible assumption
    | ((with_reducible apply State.begin_frame); (case hsub => exact List.Subset.trans (by decide) hsub))
    | ((with_reducible apply State.onlyIf_frame); (case' h_f => intro y0 hy); (case hsub => exact List.Subset.trans (by decide) hsub))
    | ((with_reducible apply State.putCtx_frame); (case hsub => exact List.Subset.trans (by decide) hsub))
    | ((with_reducible apply State.replayVerdict_frame); (case hsub => exact List.Subset.trans (by decide) hsub))
    | ((with_reducible apply State.targetsHeard_frame); (case hsub => exact List.Subset.trans (by decide) hsub))
    | with_reducible apply Changes.ite
    | (simp only [Changes.mk_eq_upd]; (with_reducible apply Changes.upd); (case e1 | e2 | e3 | e5 | e14 | e17 | e20 | e24 | e25 | e26 | e29 | e30 => exact Or.inl (hsub (by decide))); all_goals first | with_reducible exact Or.inr rfl | skip)
    | dsimp only
    | split

/-- What `execReplayStall` may change. -/
theorem execReplayStall_frame {ps : List Part} {s0 : State} (dt : Nat) (s : State) (hst : Changes ps s0 s) (hsub : [.elapsed, .emitted, .freeCount, .topo, .qu, .hang, .bar, .backup, .flash, .logSeq, .log, .port] ⊆ ps) :
    Changes ps s0 (outState (execReplayStall dt s)) := by
  unfold execReplayStall
  repeat' first
    | with_reducible apply Changes.done
    | with_reducible assumption
    | ((with_reducible apply State.begin_frame); (case hsub => exact List.Subset.trans (by decide) hsub))
    | ((with_reducible apply State.onlyIf_frame); (case' h_f => intro y0 hy); (case hsub => exact List.Subset.trans (by decide) hsub))
    | ((with_reducible apply State.replayVerdict_frame); (case hsub => exact List.Subset.trans (by decide) hsub))
    | split

/-- What `execReplayTimeout` may change. -/
theorem execReplayTimeout_frame {ps : List Part} {s0 : State} (dt : Nat) (s : State) (hst : Changes ps s0 s) (hsub : [.elapsed, .emitted, .freeCount, .topo, .qu, .hang, .bar, .backup, .flash, .logSeq, .log, .port] ⊆ ps) :
    Changes ps s0 (outState (execReplayTimeout dt s)) := by
  unfold execReplayTimeout
  repeat' first
    | with_reducible apply Changes.done
    | with_reducible assumption
    | ((with_reducible apply State.begin_frame); (case hsub => exact List.Subset.trans (by decide) hsub))
    | ((with_reducible apply State.dropCtx_frame); (case hsub => exact List.Subset.trans (by decide) hsub))
    | ((with_reducible apply State.judge__frame); (case hsub => exact List.Subset.trans (by decide) hsub))
    | ((with_reducible apply State.logged_frame); (case hsub => exact List.Subset.trans (by decide) hsub))
    | ((with_reducible apply State.onlyIf_frame); (case' h_f => intro y0 hy); (case hsub => exact List.Subset.trans (by decide) hsub))
    | ((with_reducible apply State.procRemovals_frame); (case hsub => exact List.Subset.trans (by decide) hsub))
    | ((with_reducible apply State.requestRemoval_frame); (case hsub => exact List.Subset.trans (by decide) hsub))
    | (simp only [Changes.mk_eq_upd]; (with_reducible apply Changes.upd); (case e1 | e2 | e3 | e5 | e14 | e17 | e20 | e24 | e25 | e26 | e29 | e30 => exact Or.inl (hsub (by decide))); all_goals first | with_reducible exact Or.inr rfl | skip)
    | dsimp only
    | split

/-- What `execCastRetry` may change. -/
theorem execCastRetry_frame {ps : List Part} {s0 : State} (dt : Nat) (castId : Nat) (s : State) (hst : Changes ps s0 s) (hsub : [.elapsed, .emitted, .qu, .hang] ⊆ ps) :
    Changes ps s0 (outState (execCastRetry dt castId s)) := by
  unfold execCastRetry
  repeat' first
    | with_reducible apply Changes.done
    | with_reducible assumption
    | ((with_reducible apply State.begin_frame); (case hsub => exact List.Subset.trans (by decide) hsub))
    | ((with_reducible apply State.emit_frame); (case hsub => exact List.Subset.trans (by decide) hsub))
    | ((with_reducible apply State.onlyIf_frame); (case' h_f => intro y0 hy); (case hsub => exact List.Subset.trans (by decide) hsub))
    | ((with_reducible apply State.putCtx_frame); (case hsub => exact List.Subset.trans (by decide) hsub))
    | ((with_reducible apply State.retryCast_frame); (case hsub => exact List.Subset.trans (by decide) hsub))
    | split

/-- What `execCastUnresponsive` may change. -/
theorem execCastUnresponsive_frame {ps : List Part} {s0 : State} (dt : Nat) (castId : Nat) (s : State) (hst : Changes ps s0 s) (hsub : [.elapsed, .emitted, .freeCount, .topo, .sched, .qu, .podCut, .hang, .adm, .bar, .trace, .backup, .flash, .logSeq, .log, .port] ⊆ ps) :
    Changes ps s0 (outState (execCastUnresponsive dt castId s)) := by
  unfold execCastUnresponsive
  repeat' first
    | with_reducible apply Changes.done
    | with_reducible assumption
    | ((with_reducible apply State.begin_frame); (case hsub => exact List.Subset.trans (by decide) hsub))
    | ((with_reducible apply State.endCast_frame); (case hsub => exact List.Subset.trans (by decide) hsub))
    | ((with_reducible apply State.endCtx_frame); (case hsub => exact List.Subset.trans (by decide) hsub))
    | ((with_reducible apply State.onlyIf_frame); (case' h_f => intro y0 hy); (case hsub => exact List.Subset.trans (by decide) hsub))
    | split

end Sys2Proof.Machine
end

