-- ==== Sys2Proof/Laws/ExecFaultMgmt.lean ====
section
/-!
SUPPORT. What the commands of FaultMgmt.lean may change: one lemma per meaning.
-/
namespace Sys2Proof.Machine

/-- What `execStepMark` may change. -/
theorem execStepMark_frame {ps : List Part} {s0 : State} (dt : Nat) (w0 w1 w2 : Word32) (s : State) (hst : Changes ps s0 s) (hsub : [.elapsed, .emitted, .freeCount, .topo, .sched, .units, .qu, .hang, .fm, .adm, .trace, .backup, .flash, .logSeq, .log, .port] ⊆ ps) :
    Changes ps s0 (outState (execStepMark dt w0 w1 w2 s)) := by
  unfold execStepMark
  repeat' first
    | with_reducible apply Changes.done
    | with_reducible assumption
    | ((with_reducible apply State.admitStep_frame); (case hsub => exact List.Subset.trans (by decide) hsub))
    | ((with_reducible apply State.begin_frame); (case hsub => exact List.Subset.trans (by decide) hsub))
    | ((with_reducible apply State.logged_frame); (case hsub => exact List.Subset.trans (by decide) hsub))
    | ((with_reducible apply State.mapMark_frame); (case hsub => exact List.Subset.trans (by decide) hsub))
    | ((with_reducible apply State.readmitStep_frame); (case hsub => exact List.Subset.trans (by decide) hsub))
    | with_reducible apply Changes.ite
    | ((fail_if_no_progress extract_lets a1))
    | dsimp only [a1]
    | (simp only [Changes.mk_eq_upd]; (with_reducible apply Changes.upd); (case e1 | e2 | e3 | e5 | e12 | e13 | e14 | e17 | e18 | e19 | e21 | e24 | e25 | e26 | e29 | e30 => exact Or.inl (hsub (by decide))); all_goals first | with_reducible exact Or.inr rfl | skip)

/-- What `execJobViewExpire` may change. -/
theorem execJobViewExpire_frame {ps : List Part} {s0 : State} (dt : Nat) (s : State) (hst : Changes ps s0 s) (hsub : [.elapsed, .emitted, .fm] ⊆ ps) :
    Changes ps s0 (outState (execJobViewExpire dt s)) := by
  unfold execJobViewExpire
  repeat' first
    | with_reducible apply Changes.done
    | with_reducible assumption
    | ((with_reducible apply State.begin_frame); (case hsub => exact List.Subset.trans (by decide) hsub))
    | ((with_reducible apply State.onlyIf_frame); (case' h_f => intro y0 hy); (case hsub => exact List.Subset.trans (by decide) hsub))
    | ((fail_if_no_progress extract_lets a1))
    | dsimp only [a1]
    | (simp only [Changes.mk_eq_upd]; (with_reducible apply Changes.upd); (case e1 | e2 | e18 => exact Or.inl (hsub (by decide))); all_goals first | with_reducible exact Or.inr rfl | skip)

/-- What `execSuspectEnter` may change. -/
theorem execSuspectEnter_frame {ps : List Part} {s0 : State} (dt : Nat) (s : State) (hst : Changes ps s0 s) (hsub : [.elapsed, .emitted, .hang, .fm, .backup, .flash, .logSeq, .log, .port] ⊆ ps) :
    Changes ps s0 (outState (execSuspectEnter dt s)) := by
  unfold execSuspectEnter
  repeat' first
    | with_reducible apply Changes.done
    | with_reducible assumption
    | ((with_reducible apply State.beacon_frame); (case hsub => exact List.Subset.trans (by decide) hsub))
    | ((with_reducible apply State.begin_frame); (case hsub => exact List.Subset.trans (by decide) hsub))
    | ((with_reducible apply State.onlyIf_frame); (case' h_f => intro y0 hy); (case hsub => exact List.Subset.trans (by decide) hsub))
    | ((with_reducible apply State.urged_frame); (case hsub => exact List.Subset.trans (by decide) hsub))
    | ((fail_if_no_progress extract_lets a1))
    | dsimp only [a1]
    | (simp only [Changes.mk_eq_upd]; (with_reducible apply Changes.upd); (case e1 | e2 | e17 | e18 | e24 | e25 | e26 | e29 | e30 => exact Or.inl (hsub (by decide))); all_goals first | with_reducible exact Or.inr rfl | skip)

/-- What `execSuspectDump` may change. -/
theorem execSuspectDump_frame {ps : List Part} {s0 : State} (dt : Nat) (s : State) (hst : Changes ps s0 s) (hsub : [.elapsed, .emitted, .units, .dump, .fm, .bar, .backup, .flash, .logSeq, .imageIds, .log, .port] ⊆ ps) :
    Changes ps s0 (outState (execSuspectDump dt s)) := by
  unfold execSuspectDump
  repeat' first
    | with_reducible apply Changes.done
    | with_reducible assumption
    | ((with_reducible apply State.begin_frame); (case hsub => exact List.Subset.trans (by decide) hsub))
    | ((with_reducible apply State.logged_frame); (case hsub => exact List.Subset.trans (by decide) hsub))
    | ((with_reducible apply State.onlyIf_frame); (case' h_f => intro y0 hy); (case hsub => exact List.Subset.trans (by decide) hsub))
    | ((with_reducible apply State.ownShakeout_frame); (case hsub => exact List.Subset.trans (by decide) hsub))
    | ((with_reducible apply State.suspectTest_frame); (case hsub => exact List.Subset.trans (by decide) hsub))
    | with_reducible apply Changes.ite

/-- What `execSelfTestEnd` may change. -/
theorem execSelfTestEnd_frame {ps : List Part} {s0 : State} (dt : Nat) (results : SelfTest) (s : State) (hst : Changes ps s0 s) (hsub : [.elapsed, .emitted, .sched, .units, .qu, .dump, .fm, .adm, .backup, .flash, .logSeq, .log, .port] ⊆ ps) :
    Changes ps s0 (outState (execSelfTestEnd dt results s)) := by
  unfold execSelfTestEnd
  repeat' first
    | with_reducible apply Changes.done
    | with_reducible assumption
    | ((with_reducible apply State.admTested_frame); (case hsub => exact List.Subset.trans (by decide) hsub))
    | ((with_reducible apply State.begin_frame); (case hsub => exact List.Subset.trans (by decide) hsub))
    | ((with_reducible apply State.onlyIf_frame); (case' h_f => intro y0 hy); (case hsub => exact List.Subset.trans (by decide) hsub))
    | ((with_reducible apply State.putTest_frame); (case hsub => exact List.Subset.trans (by decide) hsub))
    | ((with_reducible apply State.suspectReport_frame); (case hsub => exact List.Subset.trans (by decide) hsub))
    | with_reducible apply Changes.ite
    | ((fail_if_no_progress extract_lets a1))
    | dsimp only [a1]
    | (simp only [Changes.mk_eq_upd]; (with_reducible apply Changes.upd); (case e1 | e2 | e12 | e13 | e14 | e16 | e18 | e19 | e24 | e25 | e26 | e29 | e30 => exact Or.inl (hsub (by decide))); all_goals first | with_reducible exact Or.inr rfl | skip)

/-- What `execSuspectCleared` may change. -/
theorem execSuspectCleared_frame {ps : List Part} {s0 : State} (dt : Nat) (s : State) (hst : Changes ps s0 s) (hsub : [.elapsed, .emitted, .fm, .backup, .flash, .logSeq, .log, .port] ⊆ ps) :
    Changes ps s0 (outState (execSuspectCleared dt s)) := by
  unfold execSuspectCleared
  repeat' first
    | with_reducible apply Changes.done
    | with_reducible assumption
    | ((with_reducible apply State.begin_frame); (case hsub => exact List.Subset.trans (by decide) hsub))
    | ((with_reducible apply State.endSuspect_frame); (case hsub => exact List.Subset.trans (by decide) hsub))
    | ((with_reducible apply State.logged_frame); (case hsub => exact List.Subset.trans (by decide) hsub))
    | ((with_reducible apply State.onlyIf_frame); (case' h_f => intro y0 hy); (case hsub => exact List.Subset.trans (by decide) hsub))

/-- What `execSuspectCmdClear` may change. -/
theorem execSuspectCmdClear_frame {ps : List Part} {s0 : State} (dt : Nat) (req : Req) (s : State) (hst : Changes ps s0 s) (hsub : [.elapsed, .emitted, .tb, .frame, .fm, .backup, .flash, .logSeq, .log, .port] ⊆ ps) :
    Changes ps s0 (outState (execSuspectCmdClear dt req s)) := by
  unfold execSuspectCmdClear
  repeat' first
    | with_reducible apply Changes.done
    | with_reducible assumption
    | ((with_reducible apply State.begin_frame); (case hsub => exact List.Subset.trans (by decide) hsub))
    | ((with_reducible apply State.cmdSuspectCmdClear_frame); (case hsub => exact List.Subset.trans (by decide) hsub))
    | ((with_reducible apply State.serve_frame); (case' h_f => intro y0 y1 hy); (case hsub => exact List.Subset.trans (by decide) hsub))

/-- What `execExpel` may change. -/
theorem execExpel_frame {ps : List Part} {s0 : State} (dt : Nat) (req : Req) (order : List Byte) (s : State) (hst : Changes ps s0 s) (hsub : [.elapsed, .emitted, .tb, .frame, .sched, .units, .qu, .podCut, .dump, .hang, .fm, .adm, .backup, .flash, .logSeq, .log, .port] ⊆ ps) :
    Changes ps s0 (outState (execExpel dt req order s)) := by
  unfold execExpel
  repeat' first
    | with_reducible apply Changes.done
    | with_reducible assumption
    | ((with_reducible apply State.begin_frame); (case hsub => exact List.Subset.trans (by decide) hsub))
    | ((with_reducible apply State.orderWrite_frame); (case hsub => exact List.Subset.trans (by decide) hsub))
    | ((with_reducible apply State.serve_frame); (case' h_f => intro y0 y1 hy); (case hsub => exact List.Subset.trans (by decide) hsub))

/-- What `execExpelRelease` may change. -/
theorem execExpelRelease_frame {ps : List Part} {s0 : State} (dt : Nat) (req : Req) (order : List Byte) (s : State) (hst : Changes ps s0 s) (hsub : [.elapsed, .emitted, .tb, .frame, .sched, .units, .qu, .podCut, .dump, .hang, .fm, .adm, .backup, .flash, .logSeq, .log, .port] ⊆ ps) :
    Changes ps s0 (outState (execExpelRelease dt req order s)) := by
  unfold execExpelRelease
  repeat' first
    | with_reducible apply Changes.done
    | with_reducible assumption
    | ((with_reducible apply State.begin_frame); (case hsub => exact List.Subset.trans (by decide) hsub))
    | ((with_reducible apply State.orderWrite_frame); (case hsub => exact List.Subset.trans (by decide) hsub))
    | ((with_reducible apply State.serve_frame); (case' h_f => intro y0 y1 hy); (case hsub => exact List.Subset.trans (by decide) hsub))

/-- What `execExpelPortFence` may change. -/
theorem execExpelPortFence_frame {ps : List Part} {s0 : State} (dt : Nat) (s : State) (hst : Changes ps s0 s) (hsub : [.elapsed, .emitted, .units, .fm, .flash] ⊆ ps) :
    Changes ps s0 (outState (execExpelPortFence dt s)) := by
  unfold execExpelPortFence
  repeat' first
    | with_reducible apply Changes.done
    | with_reducible assumption
    | ((with_reducible apply State.begin_frame); (case hsub => exact List.Subset.trans (by decide) hsub))
    | ((with_reducible apply State.fencePorts_frame); (case hsub => exact List.Subset.trans (by decide) hsub))
    | ((with_reducible apply State.onlyIf_frame); (case' h_f => intro y0 hy); (case hsub => exact List.Subset.trans (by decide) hsub))
    | ((with_reducible apply State.persist_frame); (case hsub => exact List.Subset.trans (by decide) hsub))
    | ((fail_if_no_progress extract_lets a1))
    | dsimp only [a1]
    | (simp only [Changes.mk_eq_upd]; (with_reducible apply Changes.upd); (case e1 | e2 | e13 | e18 | e25 => exact Or.inl (hsub (by decide))); all_goals first | with_reducible exact Or.inr rfl | skip)

/-- What `execExpelCut` may change. -/
theorem execExpelCut_frame {ps : List Part} {s0 : State} (dt : Nat) (s : State) (hst : Changes ps s0 s) (hsub : [.elapsed, .emitted, .sched, .units, .qu, .fm, .adm, .backup, .flash, .logSeq, .log, .port] ⊆ ps) :
    Changes ps s0 (outState (execExpelCut dt s)) := by
  unfold execExpelCut
  repeat' first
    | with_reducible apply Changes.done
    | with_reducible assumption
    | ((with_reducible apply State.begin_frame); (case hsub => exact List.Subset.trans (by decide) hsub))
    | ((with_reducible apply State.enterOwn_frame); (case hsub => exact List.Subset.trans (by decide) hsub))
    | ((with_reducible apply State.expelWithoutCut_frame); (case hsub => exact List.Subset.trans (by decide) hsub))
    | ((with_reducible apply State.onlyIf_frame); (case' h_f => intro y0 hy); (case hsub => exact List.Subset.trans (by decide) hsub))
    | with_reducible apply Changes.ite
    | ((fail_if_no_progress extract_lets a1))
    | dsimp only [a1]
    | (simp only [Changes.mk_eq_upd]; (with_reducible apply Changes.upd); (case e1 | e2 | e12 | e13 | e14 | e18 | e19 | e24 | e25 | e26 | e29 | e30 => exact Or.inl (hsub (by decide))); all_goals first | with_reducible exact Or.inr rfl | skip)
    | (with_reducible apply Changes.ofFst; rotate_left; (with_reducible assumption))
    | split

/-- What `execExpelCollect` may change. -/
theorem execExpelCollect_frame {ps : List Part} {s0 : State} (dt : Nat) (s : State) (hst : Changes ps s0 s) (hsub : [.elapsed, .emitted, .units, .dump, .fm, .backup, .flash, .logSeq, .imageIds, .log, .port] ⊆ ps) :
    Changes ps s0 (outState (execExpelCollect dt s)) := by
  unfold execExpelCollect
  repeat' first
    | with_reducible apply Changes.done
    | with_reducible assumption
    | ((with_reducible apply State.begin_frame); (case hsub => exact List.Subset.trans (by decide) hsub))
    | ((with_reducible apply State.expelWithoutCut_frame); (case hsub => exact List.Subset.trans (by decide) hsub))
    | ((with_reducible apply State.onlyIf_frame); (case' h_f => intro y0 hy); (case hsub => exact List.Subset.trans (by decide) hsub))
    | ((with_reducible apply State.ownShakeout_frame); (case hsub => exact List.Subset.trans (by decide) hsub))
    | with_reducible apply Changes.ite
    | ((fail_if_no_progress extract_lets a1))
    | dsimp only [a1]
    | (simp only [Changes.mk_eq_upd]; (with_reducible apply Changes.upd); (case e1 | e2 | e13 | e16 | e18 | e24 | e25 | e26 | e27 | e29 | e30 => exact Or.inl (hsub (by decide))); all_goals first | with_reducible exact Or.inr rfl | skip)

/-- What `execShakeoutClose` may change. -/
theorem execShakeoutClose_frame {ps : List Part} {s0 : State} (dt : Nat) (s : State) (hst : Changes ps s0 s) (hsub : [.elapsed, .emitted, .freeCount, .topo, .sched, .units, .qu, .dump, .hang, .fm, .adm, .bar, .backup, .flash, .logSeq, .imageIds, .log, .port] ⊆ ps) :
    Changes ps s0 (outState (execShakeoutClose dt s)) := by
  unfold execShakeoutClose
  repeat' first
    | with_reducible apply Changes.done
    | with_reducible assumption
    | ((with_reducible apply State.begin_frame); (case hsub => exact List.Subset.trans (by decide) hsub))
    | ((with_reducible apply State.expelClosed_frame); (case hsub => exact List.Subset.trans (by decide) hsub))
    | ((with_reducible apply State.marchAfter_frame); (case hsub => exact List.Subset.trans (by decide) hsub))
    | ((with_reducible apply State.onlyIf_frame); (case' h_f => intro y0 hy); (case hsub => exact List.Subset.trans (by decide) hsub))
    | ((with_reducible apply State.procClosed_frame); (case hsub => exact List.Subset.trans (by decide) hsub))
    | ((with_reducible apply State.soClose_frame); (case hsub => exact List.Subset.trans (by decide) hsub))
    | ((with_reducible apply State.startWaiting_frame); (case hsub => exact List.Subset.trans (by decide) hsub))
    | ((with_reducible apply State.suspectClosed_frame); (case hsub => exact List.Subset.trans (by decide) hsub))
    | dsimp only
    | split

/-- What `execBeaconReceive` may change. -/
theorem execBeaconReceive_frame {ps : List Part} {s0 : State} (dt : Nat) (port : Nat) (beacon : List Byte) (s : State) (hst : Changes ps s0 s) (hsub : [.elapsed, .emitted, .hang, .adm, .backup, .flash, .logSeq, .log, .port] ⊆ ps) :
    Changes ps s0 (outState (execBeaconReceive dt port beacon s)) := by
  unfold execBeaconReceive
  repeat' first
    | with_reducible apply Changes.done
    | with_reducible assumption
    | ((with_reducible apply State.admFail_frame); (case hsub => exact List.Subset.trans (by decide) hsub))
    | ((with_reducible apply State.begin_frame); (case hsub => exact List.Subset.trans (by decide) hsub))
    | ((with_reducible apply State.emitAll_frame); (case hsub => exact List.Subset.trans (by decide) hsub))
    | ((with_reducible apply State.launchBeacon_frame); (case hsub => exact List.Subset.trans (by decide) hsub))
    | ((with_reducible apply State.onlyIf_frame); (case' h_f => intro y0 hy); (case hsub => exact List.Subset.trans (by decide) hsub))
    | with_reducible apply Changes.ite
    | ((fail_if_no_progress extract_lets a1))
    | dsimp only [a1]
    | (simp only [Changes.mk_eq_upd]; (with_reducible apply Changes.upd); (case e1 | e2 | e17 | e19 | e24 | e25 | e26 | e29 | e30 => exact Or.inl (hsub (by decide))); all_goals first | with_reducible exact Or.inr rfl | skip)

end Sys2Proof.Machine
end

