-- ==== Sys2Proof/Laws/ExecFirmware.lean ====
section
/-!
SUPPORT. What the commands of Firmware.lean may change: one lemma per meaning.
-/
namespace Sys2Proof.Machine

/-- What `execFwBoot` may change. -/
theorem execFwBoot_frame {ps : List Part} {s0 : State} (dt : Nat) (core : Nat) (s : State) (hst : Changes ps s0 s) (hsub : [.elapsed, .emitted, .hub, .backup, .flash, .logSeq, .log, .port] ⊆ ps) :
    Changes ps s0 (outState (execFwBoot dt core s)) := by
  unfold execFwBoot
  repeat' first
    | with_reducible apply Changes.done
    | with_reducible assumption
    | ((with_reducible apply State.begin_frame); (case hsub => exact List.Subset.trans (by decide) hsub))
    | ((with_reducible apply State.bootRom_frame); (case hsub => exact List.Subset.trans (by decide) hsub))
    | ((with_reducible apply State.onlyIf_frame); (case' h_f => intro y0 hy); (case hsub => exact List.Subset.trans (by decide) hsub))

/-- What `execFwUpdate` may change. -/
theorem execFwUpdate_frame {ps : List Part} {s0 : State} (dt : Nat) (req : Req) (image : List Byte) (s : State) (hst : Changes ps s0 s) (hsub : [.elapsed, .emitted, .hub, .tb, .frame, .backup, .flash, .logSeq, .log, .port, .fw] ⊆ ps) :
    Changes ps s0 (outState (execFwUpdate dt req image s)) := by
  unfold execFwUpdate
  repeat' first
    | with_reducible apply Changes.done
    | with_reducible assumption
    | ((with_reducible apply State.begin_frame); (case hsub => exact List.Subset.trans (by decide) hsub))
    | ((with_reducible apply State.cmdFwUpdate_frame); (case hsub => exact List.Subset.trans (by decide) hsub))
    | ((with_reducible apply State.serve_frame); (case' h_f => intro y0 y1 hy); (case hsub => exact List.Subset.trans (by decide) hsub))

/-- What `execFwUpdateApply` may change. -/
theorem execFwUpdateApply_frame {ps : List Part} {s0 : State} (dt : Nat) (req : Req) (value : Nat) (s : State) (hst : Changes ps s0 s) (hsub : [.elapsed, .emitted, .hub, .tb, .frame, .backup, .flash, .logSeq, .log, .port, .fw] ⊆ ps) :
    Changes ps s0 (outState (execFwUpdateApply dt req value s)) := by
  unfold execFwUpdateApply
  repeat' first
    | with_reducible apply Changes.done
    | with_reducible assumption
    | ((with_reducible apply State.begin_frame); (case hsub => exact List.Subset.trans (by decide) hsub))
    | ((with_reducible apply State.cmdFwUpdateApply_frame); (case hsub => exact List.Subset.trans (by decide) hsub))
    | ((with_reducible apply State.serve_frame); (case' h_f => intro y0 y1 hy); (case hsub => exact List.Subset.trans (by decide) hsub))

/-- What `execFwUpdateStandbyReady` may change. -/
theorem execFwUpdateStandbyReady_frame {ps : List Part} {s0 : State} (dt : Nat) (s : State) (hst : Changes ps s0 s) (hsub : [.elapsed, .emitted, .sched, .fw] ⊆ ps) :
    Changes ps s0 (outState (execFwUpdateStandbyReady dt s)) := by
  unfold execFwUpdateStandbyReady
  repeat' first
    | with_reducible apply Changes.done
    | with_reducible assumption
    | ((with_reducible apply State.begin_frame); (case hsub => exact List.Subset.trans (by decide) hsub))
    | ((with_reducible apply State.enterSwap_frame); (case hsub => exact List.Subset.trans (by decide) hsub))
    | ((with_reducible apply State.onlyIf_frame); (case' h_f => intro y0 hy); (case hsub => exact List.Subset.trans (by decide) hsub))
    | split

/-- What `execFwUpdateOldReady` may change. -/
theorem execFwUpdateOldReady_frame {ps : List Part} {s0 : State} (dt : Nat) (s : State) (hst : Changes ps s0 s) (hsub : [.elapsed, .emitted, .fuses, .backup, .flash, .logSeq, .log, .port, .fw, .lc] ⊆ ps) :
    Changes ps s0 (outState (execFwUpdateOldReady dt s)) := by
  unfold execFwUpdateOldReady
  repeat' first
    | with_reducible apply Changes.done
    | with_reducible assumption
    | ((with_reducible apply State.begin_frame); (case hsub => exact List.Subset.trans (by decide) hsub))
    | ((with_reducible apply State.blowFuses_frame); (case hsub => exact List.Subset.trans (by decide) hsub))
    | ((with_reducible apply State.onlyIf_frame); (case' h_f => intro y0 hy); (case hsub => exact List.Subset.trans (by decide) hsub))
    | ((with_reducible apply State.persistOptions_frame); (case hsub => exact List.Subset.trans (by decide) hsub))
    | ((with_reducible apply State.told_frame); (case hsub => exact List.Subset.trans (by decide) hsub))
    | ((fail_if_no_progress extract_lets a1))
    | dsimp only [a1]
    | (simp only [Changes.mk_eq_upd]; (with_reducible apply Changes.upd); (case e1 | e2 | e4 | e24 | e25 | e26 | e29 | e30 | e31 | e32 => exact Or.inl (hsub (by decide))); all_goals first | with_reducible exact Or.inr rfl | skip)

/-- What `execFwUpdateTimeout` may change. -/
theorem execFwUpdateTimeout_frame {ps : List Part} {s0 : State} (dt : Nat) (s : State) (hst : Changes ps s0 s) (hsub : [.elapsed, .emitted, .topo, .hub, .tb, .wireA, .wireR, .frame, .units, .bar, .backup, .flash, .logSeq, .log, .port, .fw] ⊆ ps) :
    Changes ps s0 (outState (execFwUpdateTimeout dt s)) := by
  unfold execFwUpdateTimeout
  repeat' first
    | with_reducible apply Changes.done
    | with_reducible assumption
    | ((with_reducible apply State.begin_frame); (case hsub => exact List.Subset.trans (by decide) hsub))
    | ((with_reducible apply State.coreDown_frame); (case hsub => exact List.Subset.trans (by decide) hsub))
    | ((with_reducible apply State.failUpdate_frame); (case hsub => exact List.Subset.trans (by decide) hsub))
    | ((with_reducible apply State.modCore_frame); (case hsub => exact List.Subset.trans (by decide) hsub))
    | ((with_reducible apply State.onlyIf_frame); (case' h_f => intro y0 hy); (case hsub => exact List.Subset.trans (by decide) hsub))
    | ((with_reducible apply State.setHealth_frame); (case hsub => exact List.Subset.trans (by decide) hsub))
    | with_reducible apply Changes.ite

end Sys2Proof.Machine
end

