-- ==== Sys2Proof/Laws/ExecFrameTick.lean ====
section
/-!
SUPPORT. What the commands of FrameTick.lean may change: one lemma per meaning.
-/
namespace Sys2Proof.Machine

/-- What `execFrameTick` may change. -/
theorem execFrameTick_frame {ps : List Part} {s0 : State} (dt : Nat) (beatA beatR : Bool) (s : State) (hst : Changes ps s0 s) (hsub : [.elapsed, .emitted, .freeCount, .topo, .hub, .tb, .pod, .frame, .sched, .units, .qu, .dump, .hang, .fm, .adm, .bar, .trace, .power, .rst, .backup, .flash, .logSeq, .log, .port, .fw, .pins, .dram] ⊆ ps) :
    Changes ps s0 (outState (execFrameTick dt beatA beatR s)) := by
  unfold execFrameTick
  repeat' first
    | with_reducible apply Changes.done
    | with_reducible assumption
    | ((with_reducible apply State.begin_frame); (case hsub => exact List.Subset.trans (by decide) hsub))
    | ((with_reducible apply State.onlyIf_frame); (case' h_f => intro y0 hy); (case hsub => exact List.Subset.trans (by decide) hsub))
    | ((with_reducible apply State.openFrame_frame); (case hsub => exact List.Subset.trans (by decide) hsub))
    | ((with_reducible apply State.slotFifteen_frame); (case hsub => exact List.Subset.trans (by decide) hsub))
    | ((with_reducible apply State.slotZero_frame); (case hsub => exact List.Subset.trans (by decide) hsub))
    | with_reducible apply Changes.ite

/-- What `execFrameReport` may change. -/
theorem execFrameReport_frame {ps : List Part} {s0 : State} (dt : Nat) (die : Nat) (rep : FrameRep) (s : State) (hst : Changes ps s0 s) (hsub : [.elapsed, .emitted, .topo, .units, .dump, .hang, .trace] ⊆ ps) :
    Changes ps s0 (outState (execFrameReport dt die rep s)) := by
  unfold execFrameReport
  repeat' first
    | with_reducible apply Changes.done
    | with_reducible assumption
    | ((with_reducible apply State.begin_frame); (case hsub => exact List.Subset.trans (by decide) hsub))
    | ((with_reducible apply State.modRunner_frame); (case hsub => exact List.Subset.trans (by decide) hsub))
    | ((with_reducible apply State.modSink_frame); (case hsub => exact List.Subset.trans (by decide) hsub))
    | ((with_reducible apply State.onlyIf_frame); (case' h_f => intro y0 hy); (case hsub => exact List.Subset.trans (by decide) hsub))
    | ((with_reducible apply State.scanProgress_frame); (case hsub => exact List.Subset.trans (by decide) hsub))
    | ((with_reducible apply State.scanTap_frame); (case hsub => exact List.Subset.trans (by decide) hsub))
    | ((fail_if_no_progress extract_lets a1 a2 a3 a4 a5 a6 a7 a8 a9 a10 a11 a12))
    | dsimp only [a1]
    | dsimp only [a2]
    | dsimp only [a3]
    | dsimp only [a4]
    | dsimp only [a5]
    | dsimp only [a6]
    | dsimp only [a7]
    | dsimp only [a8]
    | dsimp only [a9]
    | dsimp only [a10]
    | dsimp only [a11]
    | dsimp only [a12]
    | (simp only [Changes.mk_eq_upd]; (with_reducible apply Changes.upd); (case e1 | e2 | e5 | e13 | e16 | e17 | e21 => exact Or.inl (hsub (by decide))); all_goals first | with_reducible exact Or.inr rfl | skip)
    | ((with_reducible apply Changes.foldl); (case' h => intro a x ha; try dsimp only))
    | split

/-- What `execSensorFail` may change. -/
theorem execSensorFail_frame {ps : List Part} {s0 : State} (dt : Nat) (cluster : Nat) (s : State) (hst : Changes ps s0 s) (hsub : [.elapsed, .emitted, .power, .backup, .flash, .logSeq, .log, .port] ⊆ ps) :
    Changes ps s0 (outState (execSensorFail dt cluster s)) := by
  unfold execSensorFail
  repeat' first
    | with_reducible apply Changes.done
    | with_reducible assumption
    | ((with_reducible apply State.begin_frame); (case hsub => exact List.Subset.trans (by decide) hsub))
    | ((with_reducible apply State.logged_frame); (case hsub => exact List.Subset.trans (by decide) hsub))
    | ((with_reducible apply State.modDie_frame); (case hsub => exact List.Subset.trans (by decide) hsub))
    | ((with_reducible apply State.onlyIf_frame); (case' h_f => intro y0 hy); (case hsub => exact List.Subset.trans (by decide) hsub))

/-- What `execCommHoldSet` may change. -/
theorem execCommHoldSet_frame {ps : List Part} {s0 : State} (dt : Nat) (die : Nat) (s : State) (hst : Changes ps s0 s) (hsub : [.elapsed, .emitted, .power] ⊆ ps) :
    Changes ps s0 (outState (execCommHoldSet dt die s)) := by
  unfold execCommHoldSet
  repeat' first
    | with_reducible apply Changes.done
    | with_reducible assumption
    | ((with_reducible apply State.begin_frame); (case hsub => exact List.Subset.trans (by decide) hsub))
    | ((with_reducible apply State.onlyIf_frame); (case' h_f => intro y0 hy); (case hsub => exact List.Subset.trans (by decide) hsub))
    | ((fail_if_no_progress extract_lets a1))
    | dsimp only [a1]
    | (simp only [Changes.mk_eq_upd]; (with_reducible apply Changes.upd); (case e1 | e2 | e22 => exact Or.inl (hsub (by decide))); all_goals first | with_reducible exact Or.inr rfl | skip)

/-- What `execCommHoldClear` may change. -/
theorem execCommHoldClear_frame {ps : List Part} {s0 : State} (dt : Nat) (die : Nat) (s : State) (hst : Changes ps s0 s) (hsub : [.elapsed, .emitted, .power] ⊆ ps) :
    Changes ps s0 (outState (execCommHoldClear dt die s)) := by
  unfold execCommHoldClear
  repeat' first
    | with_reducible apply Changes.done
    | with_reducible assumption
    | ((with_reducible apply State.begin_frame); (case hsub => exact List.Subset.trans (by decide) hsub))
    | ((with_reducible apply State.onlyIf_frame); (case' h_f => intro y0 hy); (case hsub => exact List.Subset.trans (by decide) hsub))
    | ((fail_if_no_progress extract_lets a1))
    | dsimp only [a1]
    | (simp only [Changes.mk_eq_upd]; (with_reducible apply Changes.upd); (case e1 | e2 | e22 => exact Or.inl (hsub (by decide))); all_goals first | with_reducible exact Or.inr rfl | skip)

/-- What `execCommitQueueFreeze` may change. -/
theorem execCommitQueueFreeze_frame {ps : List Part} {s0 : State} (dt : Nat) (s : State) (hst : Changes ps s0 s) (hsub : [.elapsed, .emitted, .frame, .flash, .logSeq, .log, .port] ⊆ ps) :
    Changes ps s0 (outState (execCommitQueueFreeze dt s)) := by
  unfold execCommitQueueFreeze
  repeat' first
    | with_reducible apply Changes.done
    | with_reducible assumption
    | ((with_reducible apply State.begin_frame); (case hsub => exact List.Subset.trans (by decide) hsub))
    | ((with_reducible apply State.onlyIf_frame); (case' h_f => intro y0 hy); (case hsub => exact List.Subset.trans (by decide) hsub))
    | ((with_reducible apply State.slotFifteen_frame); (case hsub => exact List.Subset.trans (by decide) hsub))

end Sys2Proof.Machine
end

