-- ==== Sys2Proof/Laws/ExecHang.lean ====
section
/-!
SUPPORT. What the commands of Hang.lean may change: one lemma per meaning.
-/
namespace Sys2Proof.Machine

/-- What `execReportEvaluation` may change. -/
theorem execReportEvaluation_frame {ps : List Part} {s0 : State} (dt : Nat) (s : State) (hst : Changes ps s0 s) (hsub : [.elapsed, .emitted, .units, .dump, .hang, .fm, .power, .backup, .flash, .logSeq, .imageIds, .log, .port] ⊆ ps) :
    Changes ps s0 (outState (execReportEvaluation dt s)) := by
  unfold execReportEvaluation
  repeat' first
    | with_reducible apply Changes.done
    | with_reducible assumption
    | ((with_reducible apply State.begin_frame); (case hsub => exact List.Subset.trans (by decide) hsub))
    | ((with_reducible apply State.evaluateDie_frame); (case hsub => exact List.Subset.trans (by decide) hsub))
    | ((with_reducible apply State.onlyIf_frame); (case' h_f => intro y0 hy); (case hsub => exact List.Subset.trans (by decide) hsub))
    | ((with_reducible apply State.startWaiting_frame); (case hsub => exact List.Subset.trans (by decide) hsub))
    | ((with_reducible apply State.watchViews_frame); (case hsub => exact List.Subset.trans (by decide) hsub))
    | (simp only [Changes.mk_eq_upd]; (with_reducible apply Changes.upd); (case e1 | e2 | e13 | e16 | e17 | e18 | e22 | e24 | e25 | e26 | e27 | e29 | e30 => exact Or.inl (hsub (by decide))); all_goals first | with_reducible exact Or.inr rfl | skip)
    | ((with_reducible apply Changes.foldl); (case' h => intro a x ha; try dsimp only))
    | dsimp only
    | split

/-- What `execHbMiss` may change. -/
theorem execHbMiss_frame {ps : List Part} {s0 : State} (dt : Nat) (cluster : Nat) (s : State) (hst : Changes ps s0 s) (hsub : [.elapsed, .emitted, .freeCount, .topo, .sched, .units, .qu, .hang, .adm, .backup, .flash, .logSeq, .log, .port] ⊆ ps) :
    Changes ps s0 (outState (execHbMiss dt cluster s)) := by
  unfold execHbMiss
  repeat' first
    | with_reducible apply Changes.done
    | with_reducible assumption
    | ((with_reducible apply State.begin_frame); (case hsub => exact List.Subset.trans (by decide) hsub))
    | ((with_reducible apply State.onlyIf_frame); (case' h_f => intro y0 hy); (case hsub => exact List.Subset.trans (by decide) hsub))
    | ((with_reducible apply State.setHealth_frame); (case hsub => exact List.Subset.trans (by decide) hsub))
    | ((with_reducible apply State.takeVerdict_frame); (case hsub => exact List.Subset.trans (by decide) hsub))
    | ((with_reducible apply State.told_frame); (case hsub => exact List.Subset.trans (by decide) hsub))

/-- What `execHangEngine` may change. -/
theorem execHangEngine_frame {ps : List Part} {s0 : State} (dt : Nat) (uid engine : Nat) (s : State) (hst : Changes ps s0 s) (hsub : [.elapsed, .emitted, .freeCount, .topo, .sched, .units, .qu, .hang, .adm, .backup, .flash, .logSeq, .log, .port] ⊆ ps) :
    Changes ps s0 (outState (execHangEngine dt uid engine s)) := by
  unfold execHangEngine
  repeat' first
    | with_reducible apply Changes.done
    | with_reducible assumption
    | ((with_reducible apply State.begin_frame); (case hsub => exact List.Subset.trans (by decide) hsub))
    | ((with_reducible apply State.onlyIf_frame); (case' h_f => intro y0 hy); (case hsub => exact List.Subset.trans (by decide) hsub))
    | ((with_reducible apply State.takeVerdict_frame); (case hsub => exact List.Subset.trans (by decide) hsub))
    | ((with_reducible apply State.told_frame); (case hsub => exact List.Subset.trans (by decide) hsub))
    | (simp only [Changes.mk_eq_upd]; (with_reducible apply Changes.upd); (case e1 | e2 | e3 | e5 | e12 | e13 | e14 | e17 | e19 | e24 | e25 | e26 | e29 | e30 => exact Or.inl (hsub (by decide))); all_goals first | with_reducible exact Or.inr rfl | skip)

/-- What `execRunnerSilent` may change. -/
theorem execRunnerSilent_frame {ps : List Part} {s0 : State} (dt : Nat) (die : Nat) (s : State) (hst : Changes ps s0 s) (hsub : [.elapsed, .emitted, .freeCount, .topo, .units, .hang, .backup, .flash, .logSeq, .log, .port] ⊆ ps) :
    Changes ps s0 (outState (execRunnerSilent dt die s)) := by
  unfold execRunnerSilent
  repeat' first
    | with_reducible apply Changes.done
    | with_reducible assumption
    | ((with_reducible apply State.begin_frame); (case hsub => exact List.Subset.trans (by decide) hsub))
    | ((with_reducible apply State.holdEscalation_frame); (case hsub => exact List.Subset.trans (by decide) hsub))
    | ((with_reducible apply State.modRunner_frame); (case hsub => exact List.Subset.trans (by decide) hsub))
    | ((with_reducible apply State.onlyIf_frame); (case' h_f => intro y0 hy); (case hsub => exact List.Subset.trans (by decide) hsub))
    | ((with_reducible apply State.setHealth_frame); (case hsub => exact List.Subset.trans (by decide) hsub))
    | ((with_reducible apply State.urged_frame); (case hsub => exact List.Subset.trans (by decide) hsub))
    | ((with_reducible apply State.wantReset_frame); (case hsub => exact List.Subset.trans (by decide) hsub))
    | with_reducible apply Changes.ite

/-- What `execTapSilent` may change. -/
theorem execTapSilent_frame {ps : List Part} {s0 : State} (dt : Nat) (cluster : Nat) (s : State) (hst : Changes ps s0 s) (hsub : [.elapsed, .emitted, .sched, .units, .qu, .podCut, .dump, .hang, .fm, .adm, .backup, .flash, .logSeq, .log, .port, .lc] ⊆ ps) :
    Changes ps s0 (outState (execTapSilent dt cluster s)) := by
  unfold execTapSilent
  repeat' first
    | with_reducible apply Changes.done
    | with_reducible assumption
    | ((with_reducible apply State.begin_frame); (case hsub => exact List.Subset.trans (by decide) hsub))
    | ((with_reducible apply State.holdEscalation_frame); (case hsub => exact List.Subset.trans (by decide) hsub))
    | ((with_reducible apply State.onlyIf_frame); (case' h_f => intro y0 hy); (case hsub => exact List.Subset.trans (by decide) hsub))
    | ((with_reducible apply State.startRecovery_frame); (case hsub => exact List.Subset.trans (by decide) hsub))
    | ((with_reducible apply State.urged_frame); (case hsub => exact List.Subset.trans (by decide) hsub))
    | with_reducible apply Changes.ite
    | (simp only [Changes.mk_eq_upd]; (with_reducible apply Changes.upd); (case e1 | e2 | e12 | e13 | e14 | e15 | e16 | e17 | e18 | e19 | e24 | e25 | e26 | e29 | e30 | e32 => exact Or.inl (hsub (by decide))); all_goals first | with_reducible exact Or.inr rfl | skip)

/-- What `execHangWaitClear` may change. -/
theorem execHangWaitClear_frame {ps : List Part} {s0 : State} (dt : Nat) (s : State) (hst : Changes ps s0 s) (hsub : [.elapsed, .emitted, .freeCount, .topo, .sched, .units, .qu, .hang, .adm, .bar, .backup, .flash, .logSeq, .log, .port] ⊆ ps) :
    Changes ps s0 (outState (execHangWaitClear dt s)) := by
  unfold execHangWaitClear
  repeat' first
    | with_reducible apply Changes.done
    | with_reducible assumption
    | ((with_reducible apply State.begin_frame); (case hsub => exact List.Subset.trans (by decide) hsub))
    | ((with_reducible apply State.onlyIf_frame); (case' h_f => intro y0 hy); (case hsub => exact List.Subset.trans (by decide) hsub))
    | ((with_reducible apply State.procCut_frame); (case hsub => exact List.Subset.trans (by decide) hsub))
    | ((with_reducible apply State.procResume_frame); (case hsub => exact List.Subset.trans (by decide) hsub))
    | with_reducible apply Changes.ite

/-- What `execHangCollect` may change. -/
theorem execHangCollect_frame {ps : List Part} {s0 : State} (dt : Nat) (s : State) (hst : Changes ps s0 s) (hsub : [.elapsed, .emitted, .units, .dump, .hang, .backup, .flash, .logSeq, .imageIds, .log, .port] ⊆ ps) :
    Changes ps s0 (outState (execHangCollect dt s)) := by
  unfold execHangCollect
  repeat' first
    | with_reducible apply Changes.done
    | with_reducible assumption
    | ((with_reducible apply State.begin_frame); (case hsub => exact List.Subset.trans (by decide) hsub))
    | ((with_reducible apply State.modProc_frame); (case hsub => exact List.Subset.trans (by decide) hsub))
    | ((with_reducible apply State.onlyIf_frame); (case' h_f => intro y0 hy); (case hsub => exact List.Subset.trans (by decide) hsub))
    | ((with_reducible apply State.ownShakeout_frame); (case hsub => exact List.Subset.trans (by decide) hsub))
    | ((with_reducible apply State.procNoCut_frame); (case hsub => exact List.Subset.trans (by decide) hsub))
    | with_reducible apply Changes.ite

/-- What `execRunnerNoTick` may change. -/
theorem execRunnerNoTick_frame {ps : List Part} {s0 : State} (dt : Nat) (die : Nat) (s : State) (hst : Changes ps s0 s) (hsub : [.elapsed, .emitted, .units] ⊆ ps) :
    Changes ps s0 (outState (execRunnerNoTick dt die s)) := by
  unfold execRunnerNoTick
  repeat' first
    | with_reducible apply Changes.done
    | with_reducible assumption
    | ((with_reducible apply State.begin_frame); (case hsub => exact List.Subset.trans (by decide) hsub))
    | ((with_reducible apply State.modPort_frame); (case hsub => exact List.Subset.trans (by decide) hsub))
    | ((with_reducible apply State.modRunner_frame); (case hsub => exact List.Subset.trans (by decide) hsub))
    | ((with_reducible apply State.onlyIf_frame); (case' h_f => intro y0 hy); (case hsub => exact List.Subset.trans (by decide) hsub))
    | ((fail_if_no_progress extract_lets a1); try (refine (have ha1 : Changes ps s0 a1 := ?_; ?_); rotate_left; clear_value a1))
    | ((with_reducible apply Changes.foldl); (case' h => intro a x ha; try dsimp only))

end Sys2Proof.Machine
end

