-- ==== Sys2Proof/Laws/ExecJobs.lean ====
section
/-!
SUPPORT. What the commands of Jobs.lean may change: one lemma per meaning.
-/
namespace Sys2Proof.Machine

/-- What `execJobAdmission` may change. -/
theorem execJobAdmission_frame {ps : List Part} {s0 : State} (dt : Nat) (s : State) (hst : Changes ps s0 s) (hsub : [.elapsed, .emitted, .freeCount, .units, .dump, .hang, .power] ⊆ ps) :
    Changes ps s0 (outState (execJobAdmission dt s)) := by
  unfold execJobAdmission
  repeat' first
    | with_reducible apply Changes.done
    | with_reducible assumption
    | ((with_reducible apply State.admitJob_frame); (case hsub => exact List.Subset.trans (by decide) hsub))
    | ((with_reducible apply State.ageJobs_frame); (case hsub => exact List.Subset.trans (by decide) hsub))
    | ((with_reducible apply State.begin_frame); (case hsub => exact List.Subset.trans (by decide) hsub))
    | ((with_reducible apply State.jobsBegin_frame); (case hsub => exact List.Subset.trans (by decide) hsub))
    | ((with_reducible apply State.newPeriod_frame); (case hsub => exact List.Subset.trans (by decide) hsub))
    | ((with_reducible apply State.onlyIf_frame); (case' h_f => intro y0 hy); (case hsub => exact List.Subset.trans (by decide) hsub))
    | ((with_reducible apply Changes.foldl); (case' h => intro a x ha; try dsimp only))

/-- What `execSlotJobCheck` may change. -/
theorem execSlotJobCheck_frame {ps : List Part} {s0 : State} (dt slot : Nat) (s : State) (hst : Changes ps s0 s) (hsub : [.elapsed, .emitted, .freeCount, .units, .dump, .hang, .power] ⊆ ps) :
    Changes ps s0 (outState (execSlotJobCheck dt slot s)) := by
  unfold execSlotJobCheck
  repeat' first
    | with_reducible apply Changes.done
    | with_reducible assumption
    | ((with_reducible apply State.admitJob_frame); (case hsub => exact List.Subset.trans (by decide) hsub))
    | ((with_reducible apply State.begin_frame); (case hsub => exact List.Subset.trans (by decide) hsub))
    | ((with_reducible apply State.endJob_frame); (case hsub => exact List.Subset.trans (by decide) hsub))
    | ((with_reducible apply State.jobsBegin_frame); (case hsub => exact List.Subset.trans (by decide) hsub))
    | ((with_reducible apply State.onlyIf_frame); (case' h_f => intro y0 hy); (case hsub => exact List.Subset.trans (by decide) hsub))
    | ((with_reducible apply Changes.foldl); (case' h => intro a x ha; try dsimp only))

end Sys2Proof.Machine
end

