-- ==== Sys2Proof/Laws/ExecLifecycle.lean ====
section
/-!
SUPPORT. What the commands of Lifecycle.lean may change: one lemma per meaning.
-/
namespace Sys2Proof.Machine

/-- What `execAuthChallenge` may change. -/
theorem execAuthChallenge_frame {ps : List Part} {s0 : State} (dt : Nat) (req : Req) (s : State) (hst : Changes ps s0 s) (hsub : [.elapsed, .emitted, .freeCount, .tb, .frame, .backup, .flash, .logSeq, .log, .port] ⊆ ps) :
    Changes ps s0 (outState (execAuthChallenge dt req s)) := by
  unfold execAuthChallenge
  repeat' first
    | with_reducible apply Changes.done
    | with_reducible assumption
    | ((with_reducible apply State.begin_frame); (case hsub => exact List.Subset.trans (by decide) hsub))
    | ((with_reducible apply State.newChallenge_frame); (case hsub => exact List.Subset.trans (by decide) hsub))
    | ((with_reducible apply State.serve_frame); (case' h_f => intro y0 y1 hy); (case hsub => exact List.Subset.trans (by decide) hsub))

/-- What `execLcRequest` may change. -/
theorem execLcRequest_frame {ps : List Part} {s0 : State} (dt : Nat) (req : Req) (request : List Byte) (s : State) (hst : Changes ps s0 s) (hsub : [.elapsed, .emitted, .freeCount, .topo, .tb, .frame, .sched, .units, .qu, .podCut, .dump, .hang, .fm, .adm, .bar, .trace, .backup, .flash, .logSeq, .log, .port, .lc, .dram] ⊆ ps) :
    Changes ps s0 (outState (execLcRequest dt req request s)) := by
  unfold execLcRequest
  repeat' first
    | with_reducible apply Changes.done
    | with_reducible assumption
    | ((with_reducible apply State.begin_frame); (case hsub => exact List.Subset.trans (by decide) hsub))
    | ((with_reducible apply State.lcChange_frame); (case hsub => exact List.Subset.trans (by decide) hsub))
    | ((with_reducible apply State.lcCheck_frame); (case hsub => exact List.Subset.trans (by decide) hsub))
    | ((with_reducible apply State.serveThen_frame); (case' h_check => intro y0 y1 hy); (case' h_effect => intro y0 y1 hy); (case hsub => exact List.Subset.trans (by decide) hsub))

/-- What `execLcFettleDone` may change. -/
theorem execLcFettleDone_frame {ps : List Part} {s0 : State} (dt : Nat) (area : Nat) (ok : Bool) (s : State) (hst : Changes ps s0 s) (hsub : [.elapsed, .emitted, .units, .dump, .backup, .flash, .logSeq, .imageIds, .log, .port, .lc, .dram] ⊆ ps) :
    Changes ps s0 (outState (execLcFettleDone dt area ok s)) := by
  unfold execLcFettleDone
  repeat' first
    | with_reducible apply Changes.done
    | with_reducible assumption
    | ((with_reducible apply State.begin_frame); (case hsub => exact List.Subset.trans (by decide) hsub))
    | ((with_reducible apply State.lcFettled_frame); (case hsub => exact List.Subset.trans (by decide) hsub))
    | ((with_reducible apply State.onlyIf_frame); (case' h_f => intro y0 hy); (case hsub => exact List.Subset.trans (by decide) hsub))
    | ((with_reducible apply State.startWaiting_frame); (case hsub => exact List.Subset.trans (by decide) hsub))
    | ((with_reducible apply State.urged_frame); (case hsub => exact List.Subset.trans (by decide) hsub))
    | with_reducible apply Changes.ite
    | (simp only [Changes.mk_eq_upd]; (with_reducible apply Changes.upd); (case e1 | e2 | e13 | e16 | e24 | e25 | e26 | e27 | e29 | e30 | e32 | e34 => exact Or.inl (hsub (by decide))); all_goals first | with_reducible exact Or.inr rfl | skip)

/-- What `execAuthToken` may change. -/
theorem execAuthToken_frame {ps : List Part} {s0 : State} (dt : Nat) (req : Req) (token : List Byte) (s : State) (hst : Changes ps s0 s) (hsub : [.elapsed, .emitted, .tb, .frame, .backup, .flash, .logSeq, .log, .port] ⊆ ps) :
    Changes ps s0 (outState (execAuthToken dt req token s)) := by
  unfold execAuthToken
  repeat' first
    | with_reducible apply Changes.done
    | with_reducible assumption
    | ((with_reducible apply State.begin_frame); (case hsub => exact List.Subset.trans (by decide) hsub))
    | ((with_reducible apply State.serve_frame); (case' h_f => intro y0 y1 hy); (case hsub => exact List.Subset.trans (by decide) hsub))
    | ((with_reducible apply State.tokenWrite_frame); (case hsub => exact List.Subset.trans (by decide) hsub))

/-- What `execAuthEnded` may change. -/
theorem execAuthEnded_frame {ps : List Part} {s0 : State} (dt : Nat) (session : Nat) (s : State) (hst : Changes ps s0 s) (hsub : [.elapsed, .emitted, .backup, .flash, .logSeq, .log, .port] ⊆ ps) :
    Changes ps s0 (outState (execAuthEnded dt session s)) := by
  unfold execAuthEnded
  repeat' first
    | with_reducible apply Changes.done
    | with_reducible assumption
    | ((with_reducible apply State.begin_frame); (case hsub => exact List.Subset.trans (by decide) hsub))
    | ((with_reducible apply State.endToken_frame); (case hsub => exact List.Subset.trans (by decide) hsub))
    | ((with_reducible apply State.onlyIf_frame); (case' h_f => intro y0 hy); (case hsub => exact List.Subset.trans (by decide) hsub))
    | (simp only [Changes.mk_eq_upd]; (with_reducible apply Changes.upd); (case e1 | e2 | e24 | e25 | e26 | e29 | e30 => exact Or.inl (hsub (by decide))); all_goals first | with_reducible exact Or.inr rfl | skip)
    | split

/-- What `execMgrKeysWrite` may change. -/
theorem execMgrKeysWrite_frame {ps : List Part} {s0 : State} (dt : Nat) (req : Req) (i : Nat) (key : List Byte) (s : State) (hst : Changes ps s0 s) (hsub : [.elapsed, .emitted, .tb, .frame, .backup, .flash, .logSeq, .log, .port, .lc] ⊆ ps) :
    Changes ps s0 (outState (execMgrKeysWrite dt req i key s)) := by
  unfold execMgrKeysWrite
  repeat' first
    | with_reducible apply Changes.done
    | with_reducible assumption
    | ((with_reducible apply State.begin_frame); (case hsub => exact List.Subset.trans (by decide) hsub))
    | ((with_reducible apply State.keyWrite_frame); (case hsub => exact List.Subset.trans (by decide) hsub))
    | ((with_reducible apply State.serve_frame); (case' h_f => intro y0 y1 hy); (case hsub => exact List.Subset.trans (by decide) hsub))

end Sys2Proof.Machine
end

