-- ==== Sys2Proof/Laws/ExecOptions.lean ====
section
/-!
SUPPORT. What the commands of Options.lean may change: one lemma per meaning.
-/
namespace Sys2Proof.Machine

/-- What `execOptionLoadingEnd` may change. -/
theorem execOptionLoadingEnd_frame {ps : List Part} {s0 : State} (dt : Nat) (read : OptionRead) (s : State) (hst : Changes ps s0 s) (hsub : [.elapsed, .emitted, .freeCount, .tb, .pod, .frame, .sched, .qu, .dump, .hang, .fm, .adm, .bar, .trace, .power, .rst, .backup, .flash, .logSeq, .imageIds, .eventSeqs, .log, .port, .fw, .lc] ⊆ ps) :
    Changes ps s0 (outState (execOptionLoadingEnd dt read s)) := by
  unfold execOptionLoadingEnd
  repeat' first
    | with_reducible apply Changes.done
    | with_reducible assumption
    | ((with_reducible apply State.begin_frame); (case hsub => exact List.Subset.trans (by decide) hsub))
    | ((with_reducible apply State.loadKeys_frame); (case hsub => exact List.Subset.trans (by decide) hsub))
    | ((with_reducible apply State.loadOptions_frame); (case hsub => exact List.Subset.trans (by decide) hsub))
    | ((with_reducible apply State.loadPersist_frame); (case hsub => exact List.Subset.trans (by decide) hsub))
    | ((with_reducible apply State.modRst_frame); (case hsub => exact List.Subset.trans (by decide) hsub))
    | ((with_reducible apply State.onlyIf_frame); (case' h_f => intro y0 hy); (case hsub => exact List.Subset.trans (by decide) hsub))
    | ((with_reducible apply State.stormCheck_frame); (case hsub => exact List.Subset.trans (by decide) hsub))
    | ((with_reducible apply State.takeFuses_frame); (case hsub => exact List.Subset.trans (by decide) hsub))
    | ((with_reducible apply State.takeGaps_frame); (case hsub => exact List.Subset.trans (by decide) hsub))
    | ((with_reducible apply State.takeStrap_frame); (case hsub => exact List.Subset.trans (by decide) hsub))

/-- What `execPersistWriteDone` may change. -/
theorem execPersistWriteDone_frame {ps : List Part} {s0 : State} (dt : Nat) (ok : Bool) (s : State) (hst : Changes ps s0 s) (hsub : [.elapsed, .emitted, .units, .dump, .bar, .backup, .flash, .logSeq, .imageIds, .eventSeqs, .log, .port] ⊆ ps) :
    Changes ps s0 (outState (execPersistWriteDone dt ok s)) := by
  unfold execPersistWriteDone
  repeat' first
    | with_reducible apply Changes.done
    | with_reducible assumption
    | ((with_reducible apply State.begin_frame); (case hsub => exact List.Subset.trans (by decide) hsub))
    | ((with_reducible apply State.drainEvents_frame); (case hsub => exact List.Subset.trans (by decide) hsub))
    | ((with_reducible apply State.drainLog_frame); (case hsub => exact List.Subset.trans (by decide) hsub))
    | ((with_reducible apply State.persist_frame); (case hsub => exact List.Subset.trans (by decide) hsub))
    | ((with_reducible apply State.persistEnds_frame); (case hsub => exact List.Subset.trans (by decide) hsub))
    | ((with_reducible apply State.startWaiting_frame); (case hsub => exact List.Subset.trans (by decide) hsub))
    | with_reducible apply Changes.ite
    | ((fail_if_no_progress extract_lets a1))
    | dsimp only [a1]
    | (simp only [Changes.mk_eq_upd]; (with_reducible apply Changes.upd); (case e1 | e2 | e13 | e16 | e20 | e24 | e25 | e26 | e27 | e28 | e29 | e30 => exact Or.inl (hsub (by decide))); all_goals first | with_reducible exact Or.inr rfl | skip)
    | split

/-- What `execOptionWriteDone` may change. -/
theorem execOptionWriteDone_frame {ps : List Part} {s0 : State} (dt : Nat) (ok : Bool) (s : State) (hst : Changes ps s0 s) (hsub : [.elapsed, .emitted, .flash, .lc] ⊆ ps) :
    Changes ps s0 (outState (execOptionWriteDone dt ok s)) := by
  unfold execOptionWriteDone
  repeat' first
    | with_reducible apply Changes.done
    | with_reducible assumption
    | ((with_reducible apply State.begin_frame); (case hsub => exact List.Subset.trans (by decide) hsub))
    | ((with_reducible apply State.dropDigests_frame); (case hsub => exact List.Subset.trans (by decide) hsub))
    | ((with_reducible apply State.persistOptions_frame); (case hsub => exact List.Subset.trans (by decide) hsub))
    | with_reducible apply Changes.ite
    | ((fail_if_no_progress extract_lets a1))
    | dsimp only [a1]
    | (simp only [Changes.mk_eq_upd]; (with_reducible apply Changes.upd); (case e1 | e2 | e25 | e32 => exact Or.inl (hsub (by decide))); all_goals first | with_reducible exact Or.inr rfl | skip)
    | split

end Sys2Proof.Machine
end

