-- ==== Sys2Proof/Laws/ExecPins.lean ====
section
/-!
SUPPORT. What the commands of Pins.lean may change: one lemma per meaning.
-/
namespace Sys2Proof.Machine

/-- What `execQuenchIn` may change. -/
theorem execQuenchIn_frame {ps : List Part} {s0 : State} (dt : Nat) (s : State) (hst : Changes ps s0 s) (hsub : [.elapsed, .emitted, .sched, .units, .qu, .podCut, .adm, .backup, .flash, .logSeq, .log, .port, .pins] ⊆ ps) :
    Changes ps s0 (outState (execQuenchIn dt s)) := by
  unfold execQuenchIn
  repeat' first
    | with_reducible apply Changes.done
    | with_reducible assumption
    | ((with_reducible apply State.acceptStop_frame); (case hsub => exact List.Subset.trans (by decide) hsub))
    | ((with_reducible apply State.begin_frame); (case hsub => exact List.Subset.trans (by decide) hsub))
    | with_reducible apply Changes.ite
    | ((fail_if_no_progress extract_lets a1))
    | dsimp only [a1]
    | (simp only [Changes.mk_eq_upd]; (with_reducible apply Changes.upd); (case e1 | e2 | e12 | e13 | e14 | e15 | e19 | e24 | e25 | e26 | e29 | e30 | e33 => exact Or.inl (hsub (by decide))); all_goals first | with_reducible exact Or.inr rfl | skip)

/-- What `execQuenchInArm` may change. -/
theorem execQuenchInArm_frame {ps : List Part} {s0 : State} (dt : Nat) (s : State) (hst : Changes ps s0 s) (hsub : [.elapsed, .emitted, .pins] ⊆ ps) :
    Changes ps s0 (outState (execQuenchInArm dt s)) := by
  unfold execQuenchInArm
  repeat' first
    | with_reducible apply Changes.done
    | with_reducible assumption
    | ((with_reducible apply State.begin_frame); (case hsub => exact List.Subset.trans (by decide) hsub))
    | ((with_reducible apply State.onlyIf_frame); (case' h_f => intro y0 hy); (case hsub => exact List.Subset.trans (by decide) hsub))
    | ((fail_if_no_progress extract_lets a1))
    | dsimp only [a1]
    | (simp only [Changes.mk_eq_upd]; (with_reducible apply Changes.upd); (case e1 | e2 | e33 => exact Or.inl (hsub (by decide))); all_goals first | with_reducible exact Or.inr rfl | skip)

/-- What `execQuenchInDeferred` may change. -/
theorem execQuenchInDeferred_frame {ps : List Part} {s0 : State} (dt : Nat) (s : State) (hst : Changes ps s0 s) (hsub : [.elapsed, .emitted, .sched, .units, .qu, .podCut, .adm, .backup, .flash, .logSeq, .log, .port, .pins] ⊆ ps) :
    Changes ps s0 (outState (execQuenchInDeferred dt s)) := by
  unfold execQuenchInDeferred
  repeat' first
    | with_reducible apply Changes.done
    | with_reducible assumption
    | ((with_reducible apply State.begin_frame); (case hsub => exact List.Subset.trans (by decide) hsub))
    | ((with_reducible apply State.onlyIf_frame); (case' h_f => intro y0 hy); (case hsub => exact List.Subset.trans (by decide) hsub))
    | ((with_reducible apply State.tryStop_frame); (case hsub => exact List.Subset.trans (by decide) hsub))

/-- What `execQuenchInEntryFree` may change. -/
theorem execQuenchInEntryFree_frame {ps : List Part} {s0 : State} (dt : Nat) (s : State) (hst : Changes ps s0 s) (hsub : [.elapsed, .emitted, .sched, .units, .qu, .podCut, .adm, .backup, .flash, .logSeq, .log, .port, .pins] ⊆ ps) :
    Changes ps s0 (outState (execQuenchInEntryFree dt s)) := by
  unfold execQuenchInEntryFree
  repeat' first
    | with_reducible apply Changes.done
    | with_reducible assumption
    | ((with_reducible apply State.begin_frame); (case hsub => exact List.Subset.trans (by decide) hsub))
    | ((with_reducible apply State.onlyIf_frame); (case' h_f => intro y0 hy); (case hsub => exact List.Subset.trans (by decide) hsub))
    | ((with_reducible apply State.tryStop_frame); (case hsub => exact List.Subset.trans (by decide) hsub))

/-- What `execInputStuck` may change. -/
theorem execInputStuck_frame {ps : List Part} {s0 : State} (dt : Nat) (s : State) (hst : Changes ps s0 s) (hsub : [.elapsed, .emitted, .backup, .flash, .logSeq, .log, .port, .pins] ⊆ ps) :
    Changes ps s0 (outState (execInputStuck dt s)) := by
  unfold execInputStuck
  repeat' first
    | with_reducible apply Changes.done
    | with_reducible assumption
    | ((with_reducible apply State.begin_frame); (case hsub => exact List.Subset.trans (by decide) hsub))
    | ((with_reducible apply State.onlyIf_frame); (case' h_f => intro y0 hy); (case hsub => exact List.Subset.trans (by decide) hsub))
    | ((with_reducible apply State.urged_frame); (case hsub => exact List.Subset.trans (by decide) hsub))
    | ((fail_if_no_progress extract_lets a1))
    | dsimp only [a1]
    | (simp only [Changes.mk_eq_upd]; (with_reducible apply Changes.upd); (case e1 | e2 | e24 | e25 | e26 | e29 | e30 | e33 => exact Or.inl (hsub (by decide))); all_goals first | with_reducible exact Or.inr rfl | skip)

/-- What `execJtagUpdateIr` may change. -/
theorem execJtagUpdateIr_frame {ps : List Part} {s0 : State} (dt : Nat) (scan : JtagScan) (s : State) (hst : Changes ps s0 s) (hsub : [.elapsed, .emitted, .power, .flash, .pins] ⊆ ps) :
    Changes ps s0 (outState (execJtagUpdateIr dt scan s)) := by
  unfold execJtagUpdateIr
  repeat' first
    | with_reducible apply Changes.done
    | with_reducible assumption
    | ((with_reducible apply State.begin_frame); (case hsub => exact List.Subset.trans (by decide) hsub))
    | ((with_reducible apply State.jtagSet_frame); (case hsub => exact List.Subset.trans (by decide) hsub))
    | (simp only [Changes.mk_eq_upd]; (with_reducible apply Changes.upd); (case e1 | e2 | e22 | e25 | e33 => exact Or.inl (hsub (by decide))); all_goals first | with_reducible exact Or.inr rfl | skip)

/-- What `execJtagTestReset` may change. -/
theorem execJtagTestReset_frame {ps : List Part} {s0 : State} (dt : Nat) (s : State) (hst : Changes ps s0 s) (hsub : [.elapsed, .emitted, .power, .flash, .pins] ⊆ ps) :
    Changes ps s0 (outState (execJtagTestReset dt s)) := by
  unfold execJtagTestReset
  repeat' first
    | with_reducible apply Changes.done
    | with_reducible assumption
    | ((with_reducible apply State.begin_frame); (case hsub => exact List.Subset.trans (by decide) hsub))
    | ((with_reducible apply State.jtagSet_frame); (case hsub => exact List.Subset.trans (by decide) hsub))

end Sys2Proof.Machine
end

