-- ==== Sys2Proof/Laws/ExecPmbus.lean ====
section
/-!
SUPPORT. What the commands of Pmbus.lean may change: one lemma per meaning.
-/
namespace Sys2Proof.Machine

/-- What `execPmbusTransactionDone` may change. -/
theorem execPmbusTransactionDone_frame {ps : List Part} {s0 : State} (dt : Nat) (read : PmbusWord) (s : State) (hst : Changes ps s0 s) (hsub : [.elapsed, .emitted, .power, .backup, .flash, .logSeq, .log, .port] ⊆ ps) :
    Changes ps s0 (outState (execPmbusTransactionDone dt read s)) := by
  unfold execPmbusTransactionDone
  repeat' first
    | with_reducible apply Changes.done
    | with_reducible assumption
    | ((with_reducible apply State.begin_frame); (case hsub => exact List.Subset.trans (by decide) hsub))
    | ((with_reducible apply State.leavePlace_frame); (case hsub => exact List.Subset.trans (by decide) hsub))
    | ((with_reducible apply State.logged_frame); (case hsub => exact List.Subset.trans (by decide) hsub))
    | ((with_reducible apply State.modRail_frame); (case hsub => exact List.Subset.trans (by decide) hsub))
    | ((with_reducible apply State.onlyIf_frame); (case' h_f => intro y0 hy); (case hsub => exact List.Subset.trans (by decide) hsub))
    | ((with_reducible apply State.pmbIssue_frame); (case hsub => exact List.Subset.trans (by decide) hsub))
    | with_reducible apply Changes.ite
    | ((fail_if_no_progress extract_lets a1 a2 a3))
    | dsimp only [a1]
    | dsimp only [a2]
    | dsimp only [a3]
    | (simp only [Changes.mk_eq_upd]; (with_reducible apply Changes.upd); (case e1 | e2 | e22 | e24 | e25 | e26 | e29 | e30 => exact Or.inl (hsub (by decide))); all_goals first | with_reducible exact Or.inr rfl | skip)

/-- What `execPmbAlert` may change. -/
theorem execPmbAlert_frame {ps : List Part} {s0 : State} (dt addr status : Nat) (s : State) (hst : Changes ps s0 s) (hsub : [.elapsed, .emitted, .power, .backup, .flash, .logSeq, .log, .port] ⊆ ps) :
    Changes ps s0 (outState (execPmbAlert dt addr status s)) := by
  unfold execPmbAlert
  repeat' first
    | with_reducible apply Changes.done
    | with_reducible assumption
    | ((with_reducible apply State.begin_frame); (case hsub => exact List.Subset.trans (by decide) hsub))
    | ((with_reducible apply State.modRail_frame); (case hsub => exact List.Subset.trans (by decide) hsub))
    | ((with_reducible apply State.setRailFault_frame); (case hsub => exact List.Subset.trans (by decide) hsub))
    | ((with_reducible apply State.told_frame); (case hsub => exact List.Subset.trans (by decide) hsub))
    | with_reducible apply Changes.ite
    | ((with_reducible apply Changes.foldl); (case' h => intro a x ha; try dsimp only))

end Sys2Proof.Machine
end

