-- ==== Sys2Proof/Laws/FramePort.lean ====
section
/-!
SUPPORT. Frames of the operations of Machine/Port.lean: the parts of the state that each may change.
-/
namespace Sys2Proof.Machine

/-- What `State.refuseHello` may change. -/
theorem State.refuseHello_frame {ps : List Part} {s0 : State} (s : State) (h : PortHdr) (code : Nat) (hst : Changes ps s0 s) (hsub : [.emitted, .freeCount] ⊆ ps) :
    Changes ps s0 (State.refuseHello s h code) := by
  unfold State.refuseHello
  repeat' first
    | with_reducible assumption
    | ((with_reducible apply State.drawn_frame); (case hsub => exact List.Subset.trans (by decide) hsub))
    | ((with_reducible apply State.emit_frame); (case hsub => exact List.Subset.trans (by decide) hsub))

/-- What `State.openSession` may change. -/
theorem State.openSession_frame {ps : List Part} {s0 : State} (s : State) (h : PortHdr) (p : List Byte) (hst : Changes ps s0 s) (hsub : [.emitted, .freeCount, .port] ⊆ ps) :
    Changes ps s0 (State.openSession s h p) := by
  unfold State.openSession
  repeat' first
    | with_reducible assumption
    | ((with_reducible apply State.drawn_frame); (case hsub => exact List.Subset.trans (by decide) hsub))
    | ((with_reducible apply State.sendIn_frame); (case hsub => exact List.Subset.trans (by decide) hsub))
    | ((fail_if_no_progress extract_lets a1))
    | dsimp only [a1]
    | (simp only [Changes.mk_eq_upd]; (with_reducible apply Changes.upd); (case e2 | e3 | e30 => exact Or.inl (hsub (by decide))); all_goals first | with_reducible exact Or.inr rfl | skip)

/-- What `State.countTagFail` may change. -/
theorem State.countTagFail_frame {ps : List Part} {s0 : State} (s : State) (hst : Changes ps s0 s) (hsub : [.port] ⊆ ps) :
    Changes ps s0 (State.countTagFail s) := by
  unfold State.countTagFail
  repeat' first
    | with_reducible assumption
    | ((fail_if_no_progress extract_lets a1))
    | dsimp only [a1]
    | (simp only [Changes.mk_eq_upd]; (with_reducible apply Changes.upd); (case e30 => exact Or.inl (hsub (by decide))); all_goals first | with_reducible exact Or.inr rfl | skip)

/-- What `State.ackData` may change. -/
theorem State.ackData_frame {ps : List Part} {s0 : State} (s : State) (session seq : Nat) (hst : Changes ps s0 s) (hsub : [.emitted, .freeCount, .port] ⊆ ps) :
    Changes ps s0 (State.ackData s session seq) := by
  unfold State.ackData
  repeat' first
    | with_reducible assumption
    | ((with_reducible apply State.pumpBlock_frame); (case hsub => exact List.Subset.trans (by decide) hsub))
    | (simp only [Changes.mk_eq_upd]; (with_reducible apply Changes.upd); (case e2 | e3 | e30 => exact Or.inl (hsub (by decide))); all_goals first | with_reducible exact Or.inr rfl | skip)
    | dsimp only
    | split

end Sys2Proof.Machine
end

