-- ==== Sys2Proof/Laws/ExecReset.lean ====
section
/-!
SUPPORT. What the commands of Reset.lean may change: one lemma per meaning.
-/
namespace Sys2Proof.Machine

/-- What `execPorRelease` may change. -/
theorem execPorRelease_frame {ps : List Part} {s0 : State} (dt : Nat) (s : State) (hst : Changes ps s0 s) (hsub : [.elapsed, .emitted, .freeCount, .rst, .backup, .log] ⊆ ps) :
    Changes ps s0 (outState (execPorRelease dt s)) := by
  unfold execPorRelease
  repeat' first
    | with_reducible apply Changes.done
    | with_reducible assumption
    | ((with_reducible apply State.begin_frame); (case hsub => exact List.Subset.trans (by decide) hsub))
    | ((with_reducible apply State.checkBackup_frame); (case hsub => exact List.Subset.trans (by decide) hsub))
    | ((with_reducible apply State.countReset_frame); (case hsub => exact List.Subset.trans (by decide) hsub))
    | ((with_reducible apply State.onlyIf_frame); (case' h_f => intro y0 hy); (case hsub => exact List.Subset.trans (by decide) hsub))
    | with_reducible apply Changes.ite
    | ((fail_if_no_progress extract_lets a1 a2 a3 a4 a5 a6 a7 a8 a9))
    | dsimp only [a1]
    | dsimp only [a2]
    | dsimp only [a3]
    | dsimp only [a4]
    | dsimp only [a5]
    | dsimp only [a6]
    | dsimp only [a7]
    | dsimp only [a8]
    | dsimp only [a9]
    | (simp only [Changes.mk_eq_upd]; (with_reducible apply Changes.upd); (case e1 | e2 | e3 | e23 | e24 | e29 => exact Or.inl (hsub (by decide))); all_goals first | with_reducible exact Or.inr rfl | skip)

/-- What `execResetNShort` may change. -/
theorem execResetNShort_frame {ps : List Part} {s0 : State} (dt : Nat) (s : State) (hst : Changes ps s0 s) (hsub : [.elapsed, .emitted, .rst] ⊆ ps) :
    Changes ps s0 (outState (execResetNShort dt s)) := by
  unfold execResetNShort
  repeat' first
    | with_reducible apply Changes.done
    | with_reducible assumption
    | ((with_reducible apply State.begin_frame); (case hsub => exact List.Subset.trans (by decide) hsub))
    | ((with_reducible apply State.modRst_frame); (case hsub => exact List.Subset.trans (by decide) hsub))
    | ((with_reducible apply State.onlyIf_frame); (case' h_f => intro y0 hy); (case hsub => exact List.Subset.trans (by decide) hsub))

/-- What `execWarmResetRelease` may change. -/
theorem execWarmResetRelease_frame {ps : List Part} {s0 : State} (dt : Nat) (s : State) (hst : Changes ps s0 s) (hsub : [.elapsed, .emitted, .rst, .flash] ⊆ ps) :
    Changes ps s0 (outState (execWarmResetRelease dt s)) := by
  unfold execWarmResetRelease
  repeat' first
    | with_reducible apply Changes.done
    | with_reducible assumption
    | ((with_reducible apply State.begin_frame); (case hsub => exact List.Subset.trans (by decide) hsub))
    | ((with_reducible apply State.emit_frame); (case hsub => exact List.Subset.trans (by decide) hsub))
    | ((with_reducible apply State.flashReset_frame); (case hsub => exact List.Subset.trans (by decide) hsub))
    | ((with_reducible apply State.modRst_frame); (case hsub => exact List.Subset.trans (by decide) hsub))
    | ((with_reducible apply State.onlyIf_frame); (case' h_f => intro y0 hy); (case hsub => exact List.Subset.trans (by decide) hsub))
    | with_reducible apply Changes.ite

/-- What `execDomainRelease` may change. -/
theorem execDomainRelease_frame {ps : List Part} {s0 : State} (dt : Nat) (n : Nat) (s : State) (hst : Changes ps s0 s) (hsub : [.elapsed, .emitted, .topo, .hub, .tb, .wireA, .wireR, .frame, .sched, .units, .qu, .podCut, .hang, .fm, .adm, .rst, .backup, .flash, .logSeq, .log, .port, .lc, .pins] ⊆ ps) :
    Changes ps s0 (outState (execDomainRelease dt n s)) := by
  unfold execDomainRelease
  repeat' first
    | with_reducible apply Changes.done
    | with_reducible assumption
    | ((with_reducible apply State.begin_frame); (case hsub => exact List.Subset.trans (by decide) hsub))
    | ((with_reducible apply State.dieBack_frame); (case hsub => exact List.Subset.trans (by decide) hsub))
    | ((with_reducible apply State.releaseDomain_frame); (case hsub => exact List.Subset.trans (by decide) hsub))
    | with_reducible apply Changes.ite
    | ((with_reducible apply Changes.foldl); (case' h => intro a x ha; try dsimp only))

/-- What `execD8Wave` may change. -/
theorem execD8Wave_frame {ps : List Part} {s0 : State} (dt : Nat) (w : Nat) (s : State) (hst : Changes ps s0 s) (hsub : [.elapsed, .emitted, .topo, .units, .rst] ⊆ ps) :
    Changes ps s0 (outState (execD8Wave dt w s)) := by
  unfold execD8Wave
  repeat' first
    | with_reducible apply Changes.done
    | with_reducible assumption
    | ((with_reducible apply State.begin_frame); (case hsub => exact List.Subset.trans (by decide) hsub))
    | ((with_reducible apply State.onlyIf_frame); (case' h_f => intro y0 hy); (case hsub => exact List.Subset.trans (by decide) hsub))
    | ((with_reducible apply State.waveUp_frame); (case hsub => exact List.Subset.trans (by decide) hsub))

/-- What `execClockLostInService` may change. -/
theorem execClockLostInService_frame {ps : List Part} {s0 : State} (dt : Nat) (domain die : Nat) (s : State) (hst : Changes ps s0 s) (hsub : [.elapsed, .emitted, .freeCount, .topo, .tb, .wireA, .wireR, .frame, .sched, .units, .qu, .dump, .hang, .adm, .bar, .trace, .rst, .backup, .flash, .logSeq, .log, .port] ⊆ ps) :
    Changes ps s0 (outState (execClockLostInService dt domain die s)) := by
  unfold execClockLostInService
  repeat' first
    | with_reducible apply Changes.done
    | with_reducible assumption
    | ((with_reducible apply State.begin_frame); (case hsub => exact List.Subset.trans (by decide) hsub))
    | ((with_reducible apply State.dieDown_frame); (case hsub => exact List.Subset.trans (by decide) hsub))
    | ((with_reducible apply State.logged_frame); (case hsub => exact List.Subset.trans (by decide) hsub))
    | ((with_reducible apply State.modRst_frame); (case hsub => exact List.Subset.trans (by decide) hsub))
    | ((with_reducible apply State.onlyIf_frame); (case' h_f => intro y0 hy); (case hsub => exact List.Subset.trans (by decide) hsub))
    | ((with_reducible apply Changes.foldl); (case' h => intro a x ha; try dsimp only))

/-- What `execClockTimeout` may change. -/
theorem execClockTimeout_frame {ps : List Part} {s0 : State} (dt : Nat) (domain die : Nat) (s : State) (hst : Changes ps s0 s) (hsub : [.elapsed, .emitted, .topo, .hub, .tb, .wireA, .wireR, .pod, .frame, .sched, .units, .qu, .podCut, .hang, .fm, .adm, .rst, .backup, .flash, .logSeq, .log, .port, .lc, .pins] ⊆ ps) :
    Changes ps s0 (outState (execClockTimeout dt domain die s)) := by
  unfold execClockTimeout
  repeat' first
    | with_reducible apply Changes.done
    | with_reducible assumption
    | ((with_reducible apply State.begin_frame); (case hsub => exact List.Subset.trans (by decide) hsub))
    | ((with_reducible apply State.coreFails_frame); (case hsub => exact List.Subset.trans (by decide) hsub))
    | ((with_reducible apply State.logged_frame); (case hsub => exact List.Subset.trans (by decide) hsub))
    | ((with_reducible apply State.loseDie_frame); (case hsub => exact List.Subset.trans (by decide) hsub))
    | ((with_reducible apply State.onlyIf_frame); (case' h_f => intro y0 hy); (case hsub => exact List.Subset.trans (by decide) hsub))
    | ((with_reducible apply State.releaseDomain_frame); (case hsub => exact List.Subset.trans (by decide) hsub))
    | with_reducible apply Changes.ite

/-- What `execSelfCheckDone` may change. -/
theorem execSelfCheckDone_frame {ps : List Part} {s0 : State} (dt : Nat) (core : Nat) (pass : Bool) (s : State) (hst : Changes ps s0 s) (hsub : [.elapsed, .emitted, .hub, .tb, .pod, .rst, .backup, .flash, .logSeq, .log, .port] ⊆ ps) :
    Changes ps s0 (outState (execSelfCheckDone dt core pass s)) := by
  unfold execSelfCheckDone
  repeat' first
    | with_reducible apply Changes.done
    | with_reducible assumption
    | ((with_reducible apply State.begin_frame); (case hsub => exact List.Subset.trans (by decide) hsub))
    | ((with_reducible apply State.coreFails_frame); (case hsub => exact List.Subset.trans (by decide) hsub))
    | ((with_reducible apply State.modCore_frame); (case hsub => exact List.Subset.trans (by decide) hsub))
    | ((with_reducible apply State.onlyIf_frame); (case' h_f => intro y0 hy); (case hsub => exact List.Subset.trans (by decide) hsub))
    | with_reducible apply Changes.ite
    | ((fail_if_no_progress extract_lets a1))
    | dsimp only [a1]
    | (simp only [Changes.mk_eq_upd]; (with_reducible apply Changes.upd); (case e1 | e2 | e6 | e7 | e10 | e23 | e24 | e25 | e26 | e29 | e30 => exact Or.inl (hsub (by decide))); all_goals first | with_reducible exact Or.inr rfl | skip)

/-- What `execStormRelease` may change. -/
theorem execStormRelease_frame {ps : List Part} {s0 : State} (dt : Nat) (req : Req) (value : Nat) (s : State) (hst : Changes ps s0 s) (hsub : [.elapsed, .emitted, .tb, .frame, .rst, .backup, .flash, .logSeq, .log, .port] ⊆ ps) :
    Changes ps s0 (outState (execStormRelease dt req value s)) := by
  unfold execStormRelease
  repeat' first
    | with_reducible apply Changes.done
    | with_reducible assumption
    | ((with_reducible apply State.begin_frame); (case hsub => exact List.Subset.trans (by decide) hsub))
    | ((with_reducible apply State.cmdStormRelease_frame); (case hsub => exact List.Subset.trans (by decide) hsub))
    | ((with_reducible apply State.serve_frame); (case' h_f => intro y0 y1 hy); (case hsub => exact List.Subset.trans (by decide) hsub))

end Sys2Proof.Machine
end

