-- ==== Sys2Proof/Laws/ExecSchedule.lean ====
section
/-!
SUPPORT. What the commands of Schedule.lean may change: one lemma per meaning.
-/
namespace Sys2Proof.Machine

/-- What `execSchedQuench` may change. -/
theorem execSchedQuench_frame {ps : List Part} {s0 : State} (dt : Nat) (req : Req) (entry time flags : Nat) (s : State) (hst : Changes ps s0 s) (hsub : [.elapsed, .emitted, .tb, .frame, .sched, .units, .qu, .adm, .backup, .flash, .logSeq, .log, .port] ⊆ ps) :
    Changes ps s0 (outState (execSchedQuench dt req entry time flags s)) := by
  unfold execSchedQuench
  repeat' first
    | with_reducible apply Changes.done
    | with_reducible assumption
    | ((with_reducible apply State.acceptQuench_frame); (case hsub => exact List.Subset.trans (by decide) hsub))
    | ((with_reducible apply State.begin_frame); (case hsub => exact List.Subset.trans (by decide) hsub))
    | ((with_reducible apply State.schedServe_frame); (case' h_accept => intro y0 y1 y2 hy); (case hsub => exact List.Subset.trans (by decide) hsub))

/-- What `execSchedPodQuench` may change. -/
theorem execSchedPodQuench_frame {ps : List Part} {s0 : State} (dt : Nat) (req : Req) (entry time flags : Nat) (s : State) (hst : Changes ps s0 s) (hsub : [.elapsed, .emitted, .tb, .frame, .sched, .units, .qu, .podCut, .adm, .backup, .flash, .logSeq, .log, .port] ⊆ ps) :
    Changes ps s0 (outState (execSchedPodQuench dt req entry time flags s)) := by
  unfold execSchedPodQuench
  repeat' first
    | with_reducible apply Changes.done
    | with_reducible assumption
    | ((with_reducible apply State.acceptQuench_frame); (case hsub => exact List.Subset.trans (by decide) hsub))
    | ((with_reducible apply State.begin_frame); (case hsub => exact List.Subset.trans (by decide) hsub))
    | ((with_reducible apply State.podOrder_frame); (case hsub => exact List.Subset.trans (by decide) hsub))
    | ((with_reducible apply State.schedServe_frame); (case' h_accept => intro y0 y1 y2 hy); (case hsub => exact List.Subset.trans (by decide) hsub))

/-- What `execSchedStep` may change. -/
theorem execSchedStep_frame {ps : List Part} {s0 : State} (dt : Nat) (req : Req) (entry time flags : Nat) (s : State) (hst : Changes ps s0 s) (hsub : [.elapsed, .emitted, .freeCount, .tb, .frame, .sched, .units, .qu, .adm, .backup, .flash, .logSeq, .log, .port] ⊆ ps) :
    Changes ps s0 (outState (execSchedStep dt req entry time flags s)) := by
  unfold execSchedStep
  repeat' first
    | with_reducible apply Changes.done
    | with_reducible assumption
    | ((with_reducible apply State.acceptStep_frame); (case hsub => exact List.Subset.trans (by decide) hsub))
    | ((with_reducible apply State.begin_frame); (case hsub => exact List.Subset.trans (by decide) hsub))
    | ((with_reducible apply State.schedServe_frame); (case' h_accept => intro y0 y1 y2 hy); (case hsub => exact List.Subset.trans (by decide) hsub))

/-- What `execSchedResume` may change. -/
theorem execSchedResume_frame {ps : List Part} {s0 : State} (dt : Nat) (req : Req) (entry time flags : Nat) (s : State) (hst : Changes ps s0 s) (hsub : [.elapsed, .emitted, .tb, .frame, .sched, .units, .qu, .adm, .backup, .flash, .logSeq, .log, .port, .pins] ⊆ ps) :
    Changes ps s0 (outState (execSchedResume dt req entry time flags s)) := by
  unfold execSchedResume
  repeat' first
    | with_reducible apply Changes.done
    | with_reducible assumption
    | ((with_reducible apply State.acceptResume_frame); (case hsub => exact List.Subset.trans (by decide) hsub))
    | ((with_reducible apply State.begin_frame); (case hsub => exact List.Subset.trans (by decide) hsub))
    | ((with_reducible apply State.releaseStop_frame); (case hsub => exact List.Subset.trans (by decide) hsub))
    | ((with_reducible apply State.schedServe_frame); (case' h_accept => intro y0 y1 y2 hy); (case hsub => exact List.Subset.trans (by decide) hsub))

/-- What `execSchedFrameLen` may change. -/
theorem execSchedFrameLen_frame {ps : List Part} {s0 : State} (dt : Nat) (req : Req) (entry time flags : Nat) (s : State) (hst : Changes ps s0 s) (hsub : [.elapsed, .emitted, .tb, .frame, .sched, .adm, .backup, .flash, .logSeq, .log, .port] ⊆ ps) :
    Changes ps s0 (outState (execSchedFrameLen dt req entry time flags s)) := by
  unfold execSchedFrameLen
  repeat' first
    | with_reducible apply Changes.done
    | with_reducible assumption
    | ((with_reducible apply State.begin_frame); (case hsub => exact List.Subset.trans (by decide) hsub))
    | ((with_reducible apply State.schedServe_frame); (case' h_accept => intro y0 y1 y2 hy); (case hsub => exact List.Subset.trans (by decide) hsub))

/-- What `execSchedTimeStep` may change. -/
theorem execSchedTimeStep_frame {ps : List Part} {s0 : State} (dt : Nat) (req : Req) (entry time flags : Nat) (s : State) (hst : Changes ps s0 s) (hsub : [.elapsed, .emitted, .tb, .frame, .sched, .adm, .backup, .flash, .logSeq, .log, .port] ⊆ ps) :
    Changes ps s0 (outState (execSchedTimeStep dt req entry time flags s)) := by
  unfold execSchedTimeStep
  repeat' first
    | with_reducible apply Changes.done
    | with_reducible assumption
    | ((with_reducible apply State.begin_frame); (case hsub => exact List.Subset.trans (by decide) hsub))
    | ((with_reducible apply State.schedServe_frame); (case' h_accept => intro y0 y1 y2 hy); (case hsub => exact List.Subset.trans (by decide) hsub))

/-- What `execSchedRoleSwap` may change. -/
theorem execSchedRoleSwap_frame {ps : List Part} {s0 : State} (dt : Nat) (req : Req) (entry time flags : Nat) (s : State) (hst : Changes ps s0 s) (hsub : [.elapsed, .emitted, .tb, .frame, .sched, .adm, .backup, .flash, .logSeq, .log, .port] ⊆ ps) :
    Changes ps s0 (outState (execSchedRoleSwap dt req entry time flags s)) := by
  unfold execSchedRoleSwap
  repeat' first
    | with_reducible apply Changes.done
    | with_reducible assumption
    | ((with_reducible apply State.begin_frame); (case hsub => exact List.Subset.trans (by decide) hsub))
    | ((with_reducible apply State.schedServe_frame); (case' h_accept => intro y0 y1 y2 hy); (case hsub => exact List.Subset.trans (by decide) hsub))

/-- What `execSchedEmpty` may change. -/
theorem execSchedEmpty_frame {ps : List Part} {s0 : State} (dt : Nat) (req : Req) (entry : Nat) (s : State) (hst : Changes ps s0 s) (hsub : [.elapsed, .emitted, .tb, .frame, .sched, .units, .qu, .podCut, .adm, .backup, .flash, .logSeq, .log, .port] ⊆ ps) :
    Changes ps s0 (outState (execSchedEmpty dt req entry s)) := by
  unfold execSchedEmpty
  repeat' first
    | with_reducible apply Changes.done
    | with_reducible assumption
    | ((with_reducible apply State.begin_frame); (case hsub => exact List.Subset.trans (by decide) hsub))
    | ((with_reducible apply State.emptyWrite_frame); (case hsub => exact List.Subset.trans (by decide) hsub))
    | ((with_reducible apply State.serve_frame); (case' h_f => intro y0 y1 hy); (case hsub => exact List.Subset.trans (by decide) hsub))

/-- What `execFrameLenChange` may change. -/
theorem execFrameLenChange_frame {ps : List Part} {s0 : State} (dt : Nat) (entry : Nat) (s : State) (hst : Changes ps s0 s) (hsub : [.elapsed, .emitted, .topo, .hub, .tb, .pod, .frame, .sched, .units, .qu, .adm, .trace, .power, .backup, .flash, .logSeq, .log, .port, .fw, .dram] ⊆ ps) :
    Changes ps s0 (outState (execFrameLenChange dt entry s)) := by
  unfold execFrameLenChange
  repeat' first
    | with_reducible apply Changes.done
    | with_reducible assumption
    | ((with_reducible apply State.begin_frame); (case hsub => exact List.Subset.trans (by decide) hsub))
    | ((with_reducible apply State.onlyIf_frame); (case' h_f => intro y0 hy); (case hsub => exact List.Subset.trans (by decide) hsub))
    | ((with_reducible apply State.runPending_frame); (case hsub => exact List.Subset.trans (by decide) hsub))

/-- What `execTimeStepApply` may change. -/
theorem execTimeStepApply_frame {ps : List Part} {s0 : State} (dt : Nat) (entry : Nat) (s : State) (hst : Changes ps s0 s) (hsub : [.elapsed, .emitted, .topo, .hub, .tb, .pod, .frame, .sched, .units, .qu, .adm, .trace, .power, .backup, .flash, .logSeq, .log, .port, .fw, .dram] ⊆ ps) :
    Changes ps s0 (outState (execTimeStepApply dt entry s)) := by
  unfold execTimeStepApply
  repeat' first
    | with_reducible apply Changes.done
    | with_reducible assumption
    | ((with_reducible apply State.begin_frame); (case hsub => exact List.Subset.trans (by decide) hsub))
    | ((with_reducible apply State.onlyIf_frame); (case' h_f => intro y0 hy); (case hsub => exact List.Subset.trans (by decide) hsub))
    | ((with_reducible apply State.runPending_frame); (case hsub => exact List.Subset.trans (by decide) hsub))

/-- What `execRoleSwapDue` may change. -/
theorem execRoleSwapDue_frame {ps : List Part} {s0 : State} (dt : Nat) (entry : Nat) (s : State) (hst : Changes ps s0 s) (hsub : [.elapsed, .emitted, .topo, .hub, .tb, .pod, .frame, .sched, .units, .qu, .adm, .trace, .power, .backup, .flash, .logSeq, .log, .port, .fw, .dram] ⊆ ps) :
    Changes ps s0 (outState (execRoleSwapDue dt entry s)) := by
  unfold execRoleSwapDue
  repeat' first
    | with_reducible apply Changes.done
    | with_reducible assumption
    | ((with_reducible apply State.begin_frame); (case hsub => exact List.Subset.trans (by decide) hsub))
    | ((with_reducible apply State.onlyIf_frame); (case' h_f => intro y0 hy); (case hsub => exact List.Subset.trans (by decide) hsub))
    | ((with_reducible apply State.runPending_frame); (case hsub => exact List.Subset.trans (by decide) hsub))

/-- What `execLockstepFault` may change. -/
theorem execLockstepFault_frame {ps : List Part} {s0 : State} (dt : Nat) (core : Nat) (s : State) (hst : Changes ps s0 s) (hsub : [.elapsed, .emitted, .topo, .hub, .tb, .backup, .flash, .logSeq, .log, .port, .fw] ⊆ ps) :
    Changes ps s0 (outState (execLockstepFault dt core s)) := by
  unfold execLockstepFault
  repeat' first
    | with_reducible apply Changes.done
    | with_reducible assumption
    | ((with_reducible apply State.begin_frame); (case hsub => exact List.Subset.trans (by decide) hsub))
    | ((with_reducible apply State.modCore_frame); (case hsub => exact List.Subset.trans (by decide) hsub))
    | ((with_reducible apply State.onlyIf_frame); (case' h_f => intro y0 hy); (case hsub => exact List.Subset.trans (by decide) hsub))
    | ((with_reducible apply State.standbyLost_frame); (case hsub => exact List.Subset.trans (by decide) hsub))
    | ((with_reducible apply State.takeoverStart_frame); (case hsub => exact List.Subset.trans (by decide) hsub))
    | with_reducible apply Changes.ite

/-- What `execTbuClockGoodLost` may change. -/
theorem execTbuClockGoodLost_frame {ps : List Part} {s0 : State} (dt : Nat) (s : State) (hst : Changes ps s0 s) (hsub : [.elapsed, .emitted, .hub, .tb, .backup, .flash, .logSeq, .log, .port, .fw] ⊆ ps) :
    Changes ps s0 (outState (execTbuClockGoodLost dt s)) := by
  unfold execTbuClockGoodLost
  repeat' first
    | with_reducible apply Changes.done
    | with_reducible assumption
    | ((with_reducible apply State.begin_frame); (case hsub => exact List.Subset.trans (by decide) hsub))
    | ((with_reducible apply State.modCore_frame); (case hsub => exact List.Subset.trans (by decide) hsub))
    | ((with_reducible apply State.onlyIf_frame); (case' h_f => intro y0 hy); (case hsub => exact List.Subset.trans (by decide) hsub))
    | ((with_reducible apply State.takeoverStart_frame); (case hsub => exact List.Subset.trans (by decide) hsub))

end Sys2Proof.Machine
end

