-- ==== Sys2Proof/Laws/ExecShakeout.lean ====
section
/-!
SUPPORT. What the commands of Shakeout.lean may change: one lemma per meaning.
-/
namespace Sys2Proof.Machine

/-- What `execSoStart` may change. -/
theorem execSoStart_frame {ps : List Part} {s0 : State} (dt : Nat) (req : Req) (s : State) (hst : Changes ps s0 s) (hsub : [.elapsed, .emitted, .tb, .frame, .units, .dump, .backup, .flash, .logSeq, .imageIds, .log, .port] ⊆ ps) :
    Changes ps s0 (outState (execSoStart dt req s)) := by
  unfold execSoStart
  repeat' first
    | with_reducible apply Changes.done
    | with_reducible assumption
    | ((with_reducible apply State.begin_frame); (case hsub => exact List.Subset.trans (by decide) hsub))
    | ((with_reducible apply State.cmdSoStart_frame); (case hsub => exact List.Subset.trans (by decide) hsub))
    | ((with_reducible apply State.serve_frame); (case' h_f => intro y0 y1 hy); (case hsub => exact List.Subset.trans (by decide) hsub))

/-- What `execSoStartRef` may change. -/
theorem execSoStartRef_frame {ps : List Part} {s0 : State} (dt : Nat) (req : Req) (s : State) (hst : Changes ps s0 s) (hsub : [.elapsed, .emitted, .tb, .frame, .units, .dump, .backup, .flash, .logSeq, .imageIds, .log, .port] ⊆ ps) :
    Changes ps s0 (outState (execSoStartRef dt req s)) := by
  unfold execSoStartRef
  repeat' first
    | with_reducible apply Changes.done
    | with_reducible assumption
    | ((with_reducible apply State.begin_frame); (case hsub => exact List.Subset.trans (by decide) hsub))
    | ((with_reducible apply State.cmdSoStartRef_frame); (case hsub => exact List.Subset.trans (by decide) hsub))
    | ((with_reducible apply State.serve_frame); (case' h_f => intro y0 y1 hy); (case hsub => exact List.Subset.trans (by decide) hsub))

/-- What `execSoAbort` may change. -/
theorem execSoAbort_frame {ps : List Part} {s0 : State} (dt : Nat) (req : Req) (s : State) (hst : Changes ps s0 s) (hsub : [.elapsed, .emitted, .tb, .frame, .dump, .backup, .flash, .logSeq, .log, .port] ⊆ ps) :
    Changes ps s0 (outState (execSoAbort dt req s)) := by
  unfold execSoAbort
  repeat' first
    | with_reducible apply Changes.done
    | with_reducible assumption
    | ((with_reducible apply State.begin_frame); (case hsub => exact List.Subset.trans (by decide) hsub))
    | ((with_reducible apply State.cmdSoAbort_frame); (case hsub => exact List.Subset.trans (by decide) hsub))
    | ((with_reducible apply State.serve_frame); (case' h_f => intro y0 y1 hy); (case hsub => exact List.Subset.trans (by decide) hsub))

/-- What `execSoFettleReserve` may change. -/
theorem execSoFettleReserve_frame {ps : List Part} {s0 : State} (dt : Nat) (req : Req) (s : State) (hst : Changes ps s0 s) (hsub : [.elapsed, .emitted, .tb, .frame, .dump, .backup, .flash, .logSeq, .log, .port] ⊆ ps) :
    Changes ps s0 (outState (execSoFettleReserve dt req s)) := by
  unfold execSoFettleReserve
  repeat' first
    | with_reducible apply Changes.done
    | with_reducible assumption
    | ((with_reducible apply State.begin_frame); (case hsub => exact List.Subset.trans (by decide) hsub))
    | ((with_reducible apply State.cmdSoFettleReserve_frame); (case hsub => exact List.Subset.trans (by decide) hsub))
    | ((with_reducible apply State.serve_frame); (case' h_f => intro y0 y1 hy); (case hsub => exact List.Subset.trans (by decide) hsub))

/-- What `execSoAck` may change. -/
theorem execSoAck_frame {ps : List Part} {s0 : State} (dt : Nat) (req : Req) (image : Nat) (s : State) (hst : Changes ps s0 s) (hsub : [.elapsed, .emitted, .tb, .frame, .dump, .backup, .flash, .logSeq, .log, .port] ⊆ ps) :
    Changes ps s0 (outState (execSoAck dt req image s)) := by
  unfold execSoAck
  repeat' first
    | with_reducible apply Changes.done
    | with_reducible assumption
    | ((with_reducible apply State.begin_frame); (case hsub => exact List.Subset.trans (by decide) hsub))
    | ((with_reducible apply State.cmdSoAck_frame); (case hsub => exact List.Subset.trans (by decide) hsub))
    | ((with_reducible apply State.serve_frame); (case' h_f => intro y0 y1 hy); (case hsub => exact List.Subset.trans (by decide) hsub))

/-- What `execReserveFettleDone` may change. -/
theorem execReserveFettleDone_frame {ps : List Part} {s0 : State} (dt : Nat) (s : State) (hst : Changes ps s0 s) (hsub : [.elapsed, .emitted, .dump] ⊆ ps) :
    Changes ps s0 (outState (execReserveFettleDone dt s)) := by
  unfold execReserveFettleDone
  repeat' first
    | with_reducible apply Changes.done
    | with_reducible assumption
    | ((with_reducible apply State.begin_frame); (case hsub => exact List.Subset.trans (by decide) hsub))
    | ((with_reducible apply State.onlyIf_frame); (case' h_f => intro y0 hy); (case hsub => exact List.Subset.trans (by decide) hsub))
    | ((fail_if_no_progress extract_lets a1))
    | dsimp only [a1]
    | (simp only [Changes.mk_eq_upd]; (with_reducible apply Changes.upd); (case e1 | e2 | e16 => exact Or.inl (hsub (by decide))); all_goals first | with_reducible exact Or.inr rfl | skip)

/-- What `execSoHeaderRead` may change. -/
theorem execSoHeaderRead_frame {ps : List Part} {s0 : State} (dt : Nat) (req : Req) (s : State) (hst : Changes ps s0 s) (hsub : [.elapsed, .emitted, .freeCount, .tb, .frame, .backup, .flash, .logSeq, .log, .port] ⊆ ps) :
    Changes ps s0 (outState (execSoHeaderRead dt req s)) := by
  unfold execSoHeaderRead
  repeat' first
    | with_reducible apply Changes.done
    | with_reducible assumption
    | ((with_reducible apply State.begin_frame); (case hsub => exact List.Subset.trans (by decide) hsub))
    | ((with_reducible apply State.serveRead_frame); (case' h_f => intro y0 y1 hy); (case hsub => exact List.Subset.trans (by decide) hsub))
    | split

/-- What `execSoRecordRead` may change. -/
theorem execSoRecordRead_frame {ps : List Part} {s0 : State} (dt : Nat) (req : Req) (ownOk mirrorOk : Bool) (s : State) (hst : Changes ps s0 s) (hsub : [.elapsed, .emitted, .freeCount, .tb, .frame, .backup, .flash, .logSeq, .log, .port] ⊆ ps) :
    Changes ps s0 (outState (execSoRecordRead dt req ownOk mirrorOk s)) := by
  unfold execSoRecordRead
  repeat' first
    | with_reducible apply Changes.done
    | with_reducible assumption
    | ((with_reducible apply State.begin_frame); (case hsub => exact List.Subset.trans (by decide) hsub))
    | ((with_reducible apply State.serveRead_frame); (case' h_f => intro y0 y1 hy); (case hsub => exact List.Subset.trans (by decide) hsub))
    | dsimp only
    | split

/-- What `execReserveWrite` may change. -/
theorem execReserveWrite_frame {ps : List Part} {s0 : State} (dt : Nat) (req : Req) (idx sub value : Nat) (s : State) (hst : Changes ps s0 s) (hsub : [.elapsed, .emitted, .tb, .pod, .frame, .sched, .qu, .dump, .hang, .fm, .adm, .bar, .trace, .power, .rst, .backup, .flash, .logSeq, .log, .port, .fw, .lc] ⊆ ps) :
    Changes ps s0 (outState (execReserveWrite dt req idx sub value s)) := by
  unfold execReserveWrite
  repeat' first
    | with_reducible apply Changes.done
    | with_reducible assumption
    | ((with_reducible apply State.begin_frame); (case hsub => exact List.Subset.trans (by decide) hsub))
    | ((with_reducible apply State.onlyIf_frame); (case' h_f => intro y0 hy); (case hsub => exact List.Subset.trans (by decide) hsub))
    | ((with_reducible apply State.refuse_frame); (case hsub => exact List.Subset.trans (by decide) hsub))
    | ((with_reducible apply State.reserveWrite_frame); (case hsub => exact List.Subset.trans (by decide) hsub))
    | ((with_reducible apply State.serve_frame); (case' h_f => intro y0 y1 hy); (case hsub => exact List.Subset.trans (by decide) hsub))
    | split

/-- What `execDebugReadComplete` may change. -/
theorem execDebugReadComplete_frame {ps : List Part} {s0 : State} (dt : Nat) (die uid type off : Nat) (status : Nat) (data : List Byte) (secureLines : List Nat) (s : State) (hst : Changes ps s0 s) (hsub : [.elapsed, .emitted, .freeCount, .units, .dump] ⊆ ps) :
    Changes ps s0 (outState (execDebugReadComplete dt die uid type off status data secureLines s)) := by
  unfold execDebugReadComplete
  repeat' first
    | with_reducible apply Changes.done
    | with_reducible assumption
    | ((with_reducible apply State.begin_frame); (case hsub => exact List.Subset.trans (by decide) hsub))
    | ((with_reducible apply State.bulkFailed_frame); (case hsub => exact List.Subset.trans (by decide) hsub))
    | ((with_reducible apply State.bulkIn_frame); (case hsub => exact List.Subset.trans (by decide) hsub))
    | ((with_reducible apply State.endPart_frame); (case hsub => exact List.Subset.trans (by decide) hsub))
    | ((with_reducible apply State.feedDie_frame); (case hsub => exact List.Subset.trans (by decide) hsub))
    | ((with_reducible apply State.onlyIf_frame); (case' h_f => intro y0 hy); (case hsub => exact List.Subset.trans (by decide) hsub))
    | ((with_reducible apply State.rangeRead_frame); (case hsub => exact List.Subset.trans (by decide) hsub))
    | with_reducible apply Changes.ite

/-- What `execDebugReadTimeout` may change. -/
theorem execDebugReadTimeout_frame {ps : List Part} {s0 : State} (dt : Nat) (die uid type off : Nat) (s : State) (hst : Changes ps s0 s) (hsub : [.elapsed, .emitted, .freeCount, .units, .dump] ⊆ ps) :
    Changes ps s0 (outState (execDebugReadTimeout dt die uid type off s)) := by
  unfold execDebugReadTimeout
  repeat' first
    | with_reducible apply Changes.done
    | with_reducible assumption
    | ((with_reducible apply State.begin_frame); (case hsub => exact List.Subset.trans (by decide) hsub))
    | ((with_reducible apply State.bulkFailed_frame); (case hsub => exact List.Subset.trans (by decide) hsub))
    | ((with_reducible apply State.bulkIn_frame); (case hsub => exact List.Subset.trans (by decide) hsub))
    | ((with_reducible apply State.feedDie_frame); (case hsub => exact List.Subset.trans (by decide) hsub))
    | ((with_reducible apply State.onlyIf_frame); (case' h_f => intro y0 hy); (case hsub => exact List.Subset.trans (by decide) hsub))
    | ((with_reducible apply State.ringSlot_frame); (case hsub => exact List.Subset.trans (by decide) hsub))
    | with_reducible apply Changes.ite
    | dsimp only
    | split

/-- What `execRecordWriteComplete` may change. -/
theorem execRecordWriteComplete_frame {ps : List Part} {s0 : State} (dt : Nat) (die uid type sub : Nat) (ownOk mirrorOk : Bool) (s : State) (hst : Changes ps s0 s) (hsub : [.elapsed, .emitted, .freeCount, .units, .dump, .backup, .flash, .logSeq, .log, .port] ⊆ ps) :
    Changes ps s0 (outState (execRecordWriteComplete dt die uid type sub ownOk mirrorOk s)) := by
  unfold execRecordWriteComplete
  repeat' first
    | with_reducible apply Changes.done
    | with_reducible assumption
    | ((with_reducible apply State.begin_frame); (case hsub => exact List.Subset.trans (by decide) hsub))
    | ((with_reducible apply State.feedDie_frame); (case hsub => exact List.Subset.trans (by decide) hsub))
    | ((with_reducible apply State.ladleStored_frame); (case hsub => exact List.Subset.trans (by decide) hsub))
    | ((with_reducible apply State.onlyIf_frame); (case' h_f => intro y0 hy); (case hsub => exact List.Subset.trans (by decide) hsub))
    | ((with_reducible apply State.reserveStored_frame); (case hsub => exact List.Subset.trans (by decide) hsub))
    | with_reducible apply Changes.ite
    | dsimp only
    | split

/-- What `execLadleWriteTimeout` may change. -/
theorem execLadleWriteTimeout_frame {ps : List Part} {s0 : State} (dt : Nat) (die uid type : Nat) (s : State) (hst : Changes ps s0 s) (hsub : [.elapsed, .emitted, .dump] ⊆ ps) :
    Changes ps s0 (outState (execLadleWriteTimeout dt die uid type s)) := by
  unfold execLadleWriteTimeout
  repeat' first
    | with_reducible apply Changes.done
    | with_reducible assumption
    | ((with_reducible apply State.begin_frame); (case hsub => exact List.Subset.trans (by decide) hsub))
    | ((with_reducible apply State.emit_frame); (case hsub => exact List.Subset.trans (by decide) hsub))
    | ((with_reducible apply State.ladleStored_frame); (case hsub => exact List.Subset.trans (by decide) hsub))
    | ((with_reducible apply State.onlyIf_frame); (case' h_f => intro y0 hy); (case hsub => exact List.Subset.trans (by decide) hsub))
    | split

/-- What `execSealPartReport` may change. -/
theorem execSealPartReport_frame {ps : List Part} {s0 : State} (dt : Nat) (die tier : Nat) (s : State) (hst : Changes ps s0 s) (hsub : [.elapsed, .emitted, .dump] ⊆ ps) :
    Changes ps s0 (outState (execSealPartReport dt die tier s)) := by
  unfold execSealPartReport
  repeat' first
    | with_reducible apply Changes.done
    | with_reducible assumption
    | ((with_reducible apply State.begin_frame); (case hsub => exact List.Subset.trans (by decide) hsub))
    | ((with_reducible apply State.endSection_frame); (case hsub => exact List.Subset.trans (by decide) hsub))
    | ((with_reducible apply State.modImage_frame); (case hsub => exact List.Subset.trans (by decide) hsub))
    | ((with_reducible apply State.modWork_frame); (case hsub => exact List.Subset.trans (by decide) hsub))
    | ((with_reducible apply State.onlyIf_frame); (case' h_f => intro y0 hy); (case hsub => exact List.Subset.trans (by decide) hsub))
    | ((with_reducible apply State.soAdvance_frame); (case hsub => exact List.Subset.trans (by decide) hsub))
    | dsimp only
    | split

/-- What `execSealResult` may change. -/
theorem execSealResult_frame {ps : List Part} {s0 : State} (dt : Nat) (sum : Nat) (s : State) (hst : Changes ps s0 s) (hsub : [.elapsed, .emitted, .dump, .backup, .flash, .logSeq, .log, .port] ⊆ ps) :
    Changes ps s0 (outState (execSealResult dt sum s)) := by
  unfold execSealResult
  repeat' first
    | with_reducible apply Changes.done
    | with_reducible assumption
    | ((with_reducible apply State.begin_frame); (case hsub => exact List.Subset.trans (by decide) hsub))
    | ((with_reducible apply State.logged_frame); (case hsub => exact List.Subset.trans (by decide) hsub))
    | ((with_reducible apply State.nameWave_frame); (case hsub => exact List.Subset.trans (by decide) hsub))
    | ((with_reducible apply State.onlyIf_frame); (case' h_f => intro y0 hy); (case hsub => exact List.Subset.trans (by decide) hsub))
    | ((with_reducible apply State.soResult_frame); (case hsub => exact List.Subset.trans (by decide) hsub))
    | ((with_reducible apply State.writeSeal_frame); (case hsub => exact List.Subset.trans (by decide) hsub))
    | with_reducible apply Changes.ite
    | split

/-- What `execSoRunnerLost` may change. -/
theorem execSoRunnerLost_frame {ps : List Part} {s0 : State} (dt : Nat) (die : Nat) (s : State) (hst : Changes ps s0 s) (hsub : [.elapsed, .emitted, .topo, .units, .dump, .backup, .flash, .logSeq, .log, .port] ⊆ ps) :
    Changes ps s0 (outState (execSoRunnerLost dt die s)) := by
  unfold execSoRunnerLost
  repeat' first
    | with_reducible apply Changes.done
    | with_reducible assumption
    | ((with_reducible apply State.begin_frame); (case hsub => exact List.Subset.trans (by decide) hsub))
    | ((with_reducible apply State.logged_frame); (case hsub => exact List.Subset.trans (by decide) hsub))
    | ((with_reducible apply State.onlyIf_frame); (case' h_f => intro y0 hy); (case hsub => exact List.Subset.trans (by decide) hsub))
    | ((with_reducible apply State.setHealth_frame); (case hsub => exact List.Subset.trans (by decide) hsub))
    | ((with_reducible apply State.soLoseDie_frame); (case hsub => exact List.Subset.trans (by decide) hsub))

end Sys2Proof.Machine
end

