-- ==== Sys2Proof/Laws/ExecTakeover.lean ====
section
/-!
SUPPORT. What the commands of Takeover.lean may change: one lemma per meaning.
-/
namespace Sys2Proof.Machine

/-- What `execTakeoverSwitch` may change. -/
theorem execTakeoverSwitch_frame {ps : List Part} {s0 : State} (dt : Nat) (s : State) (hst : Changes ps s0 s) (hsub : [.elapsed, .emitted, .topo, .hub, .tb, .wireA, .wireR, .pod, .frame, .sched, .units, .qu, .podCut, .dump, .adm, .bar, .trace, .power, .backup, .flash, .logSeq, .log, .port, .fw, .pins, .dram] ⊆ ps) :
    Changes ps s0 (outState (execTakeoverSwitch dt s)) := by
  unfold execTakeoverSwitch
  repeat' first
    | with_reducible apply Changes.done
    | with_reducible assumption
    | ((with_reducible apply State.begin_frame); (case hsub => exact List.Subset.trans (by decide) hsub))
    | ((with_reducible apply State.busesAgain_frame); (case hsub => exact List.Subset.trans (by decide) hsub))
    | ((with_reducible apply State.emptyBar_frame); (case hsub => exact List.Subset.trans (by decide) hsub))
    | ((with_reducible apply State.fromMirrors_frame); (case hsub => exact List.Subset.trans (by decide) hsub))
    | ((with_reducible apply State.loseStaged_frame); (case hsub => exact List.Subset.trans (by decide) hsub))
    | ((with_reducible apply State.reissueRemovals_frame); (case hsub => exact List.Subset.trans (by decide) hsub))
    | ((with_reducible apply State.resendTier0_frame); (case hsub => exact List.Subset.trans (by decide) hsub))
    | ((with_reducible apply State.runOverdue_frame); (case hsub => exact List.Subset.trans (by decide) hsub))
    | ((with_reducible apply State.setHealth_frame); (case hsub => exact List.Subset.trans (by decide) hsub))
    | ((with_reducible apply State.stopAtSwitch_frame); (case hsub => exact List.Subset.trans (by decide) hsub))
    | ((with_reducible apply State.swapRoles_frame); (case hsub => exact List.Subset.trans (by decide) hsub))
    | ((with_reducible apply State.takeoverAt_frame); (case' h_f => intro y0 y1 hy); (case hsub => exact List.Subset.trans (by decide) hsub))
    | ((fail_if_no_progress extract_lets a1))
    | dsimp only [a1]
    | (simp only [Changes.mk_eq_upd]; (with_reducible apply Changes.upd); (case e1 | e2 | e5 | e6 | e7 | e8 | e9 | e10 | e11 | e12 | e13 | e14 | e15 | e16 | e19 | e20 | e21 | e22 | e24 | e25 | e26 | e29 | e30 | e31 | e33 | e34 => exact Or.inl (hsub (by decide))); all_goals first | with_reducible exact Or.inr rfl | skip)

/-- What `execTakeoverOldReset` may change. -/
theorem execTakeoverOldReset_frame {ps : List Part} {s0 : State} (dt : Nat) (s : State) (hst : Changes ps s0 s) (hsub : [.elapsed, .emitted, .topo, .hub, .tb, .wireA, .wireR, .frame, .units, .bar] ⊆ ps) :
    Changes ps s0 (outState (execTakeoverOldReset dt s)) := by
  unfold execTakeoverOldReset
  repeat' first
    | with_reducible apply Changes.done
    | with_reducible assumption
    | ((with_reducible apply State.begin_frame); (case hsub => exact List.Subset.trans (by decide) hsub))
    | ((with_reducible apply State.coreDown_frame); (case hsub => exact List.Subset.trans (by decide) hsub))
    | ((with_reducible apply State.setHealth_frame); (case hsub => exact List.Subset.trans (by decide) hsub))
    | ((with_reducible apply State.takeoverAt_frame); (case' h_f => intro y0 y1 hy); (case hsub => exact List.Subset.trans (by decide) hsub))
    | ((fail_if_no_progress extract_lets a1 a2 a3))
    | dsimp only [a1]
    | dsimp only [a2]
    | dsimp only [a3]
    | (simp only [Changes.mk_eq_upd]; (with_reducible apply Changes.upd); (case e1 | e2 | e5 | e6 | e7 | e8 | e9 | e11 | e13 | e20 => exact Or.inl (hsub (by decide))); all_goals first | with_reducible exact Or.inr rfl | skip)

/-- What `execRunnerActiveCast` may change. -/
theorem execRunnerActiveCast_frame {ps : List Part} {s0 : State} (dt : Nat) (s : State) (hst : Changes ps s0 s) (hsub : [.elapsed, .emitted, .hub, .units] ⊆ ps) :
    Changes ps s0 (outState (execRunnerActiveCast dt s)) := by
  unfold execRunnerActiveCast
  repeat' first
    | with_reducible apply Changes.done
    | with_reducible assumption
    | ((with_reducible apply State.begin_frame); (case hsub => exact List.Subset.trans (by decide) hsub))
    | ((with_reducible apply State.emit_frame); (case hsub => exact List.Subset.trans (by decide) hsub))
    | ((with_reducible apply State.modRunner_frame); (case hsub => exact List.Subset.trans (by decide) hsub))
    | ((with_reducible apply State.takeoverAt_frame); (case' h_f => intro y0 y1 hy); (case hsub => exact List.Subset.trans (by decide) hsub))
    | with_reducible apply Changes.ite
    | ((fail_if_no_progress extract_lets a1 a2 a3 a4))
    | dsimp only [a1]
    | dsimp only [a2]
    | dsimp only [a3]
    | dsimp only [a4]
    | (simp only [Changes.mk_eq_upd]; (with_reducible apply Changes.upd); (case e1 | e2 | e6 | e13 => exact Or.inl (hsub (by decide))); all_goals first | with_reducible exact Or.inr rfl | skip)
    | ((with_reducible apply Changes.foldl); (case' h => intro a x ha; try dsimp only))

/-- What `execTakeoverNotify` may change. -/
theorem execTakeoverNotify_frame {ps : List Part} {s0 : State} (dt : Nat) (s : State) (hst : Changes ps s0 s) (hsub : [.elapsed, .emitted, .topo, .hub, .tb, .wireA, .wireR, .pod, .bar, .backup, .flash, .logSeq, .log, .port, .fw] ⊆ ps) :
    Changes ps s0 (outState (execTakeoverNotify dt s)) := by
  unfold execTakeoverNotify
  repeat' first
    | with_reducible apply Changes.done
    | with_reducible assumption
    | ((with_reducible apply State.begin_frame); (case hsub => exact List.Subset.trans (by decide) hsub))
    | ((with_reducible apply State.endTransfers_frame); (case hsub => exact List.Subset.trans (by decide) hsub))
    | ((with_reducible apply State.logged_frame); (case hsub => exact List.Subset.trans (by decide) hsub))
    | ((with_reducible apply State.takeoverAt_frame); (case' h_f => intro y0 y1 hy); (case hsub => exact List.Subset.trans (by decide) hsub))
    | ((with_reducible apply State.updateSwapped_frame); (case hsub => exact List.Subset.trans (by decide) hsub))
    | ((with_reducible apply State.urged_frame); (case hsub => exact List.Subset.trans (by decide) hsub))
    | with_reducible apply Changes.ite
    | ((fail_if_no_progress extract_lets a1))
    | dsimp only [a1]
    | (simp only [Changes.mk_eq_upd]; (with_reducible apply Changes.upd); (case e1 | e2 | e5 | e6 | e7 | e8 | e9 | e10 | e20 | e24 | e25 | e26 | e29 | e30 | e31 => exact Or.inl (hsub (by decide))); all_goals first | with_reducible exact Or.inr rfl | skip)

end Sys2Proof.Machine
end

