-- ==== Sys2Proof/Laws/ExecTrace.lean ====
section
/-!
SUPPORT. What the commands of Trace.lean may change: one lemma per meaning.
-/
namespace Sys2Proof.Machine

/-- What `execTraceLineReceive` may change. -/
theorem execTraceLineReceive_frame {ps : List Part} {s0 : State} (dt die : Nat) (line : List Byte) (s : State) (hst : Changes ps s0 s) (hsub : [.elapsed, .emitted, .units, .trace, .dram] ⊆ ps) :
    Changes ps s0 (outState (execTraceLineReceive dt die line s)) := by
  unfold execTraceLineReceive
  repeat' first
    | with_reducible apply Changes.done
    | with_reducible assumption
    | ((with_reducible apply State.begin_frame); (case hsub => exact List.Subset.trans (by decide) hsub))
    | ((with_reducible apply State.modSink_frame); (case hsub => exact List.Subset.trans (by decide) hsub))
    | ((with_reducible apply State.onlyIf_frame); (case' h_f => intro y0 hy); (case hsub => exact List.Subset.trans (by decide) hsub))
    | ((with_reducible apply State.takeLine_frame); (case hsub => exact List.Subset.trans (by decide) hsub))
    | ((with_reducible apply State.writeHeader_frame); (case hsub => exact List.Subset.trans (by decide) hsub))
    | with_reducible apply Changes.ite

/-- What `execTraceSwitchIssue` may change. -/
theorem execTraceSwitchIssue_frame {ps : List Part} {s0 : State} (dt : Nat) (s : State) (hst : Changes ps s0 s) (hsub : [.elapsed, .emitted, .qu, .trace] ⊆ ps) :
    Changes ps s0 (outState (execTraceSwitchIssue dt s)) := by
  unfold execTraceSwitchIssue
  repeat' first
    | with_reducible apply Changes.done
    | with_reducible assumption
    | ((with_reducible apply State.begin_frame); (case hsub => exact List.Subset.trans (by decide) hsub))
    | ((with_reducible apply State.onlyIf_frame); (case' h_f => intro y0 hy); (case hsub => exact List.Subset.trans (by decide) hsub))
    | ((with_reducible apply State.traceSwitch_frame); (case hsub => exact List.Subset.trans (by decide) hsub))

/-- What `execTraceStallTimeout` may change. -/
theorem execTraceStallTimeout_frame {ps : List Part} {s0 : State} (dt core : Nat) (s : State) (hst : Changes ps s0 s) (hsub : [.elapsed, .emitted, .units, .trace] ⊆ ps) :
    Changes ps s0 (outState (execTraceStallTimeout dt core s)) := by
  unfold execTraceStallTimeout
  repeat' first
    | with_reducible apply Changes.done
    | with_reducible assumption
    | ((with_reducible apply State.begin_frame); (case hsub => exact List.Subset.trans (by decide) hsub))
    | ((with_reducible apply State.modTap_frame); (case hsub => exact List.Subset.trans (by decide) hsub))
    | ((with_reducible apply State.onlyIf_frame); (case' h_f => intro y0 hy); (case hsub => exact List.Subset.trans (by decide) hsub))
    | ((fail_if_no_progress extract_lets a1 a2); try (refine (have ha1 : Changes ps s0 a1 := ?_; ?_); rotate_left; clear_value a1))
    | dsimp only [a2]
    | (simp only [Changes.mk_eq_upd]; (with_reducible apply Changes.upd); (case e1 | e2 | e13 | e21 => exact Or.inl (hsub (by decide))); all_goals first | with_reducible exact Or.inr rfl | skip)

end Sys2Proof.Machine
end

