-- ==== Sys2Proof/Laws/Serve.lean ====
section
/-!
SUPPORT. Laws of requests: when one is accepted, and what serving it gives.
-/
namespace Sys2Proof.Machine

/-- A request on the chip is always accepted (R694 judges it by its rank). -/
@[simp] theorem State.admitReq_chip (s : State) (uid : Nat) :
    s.admitReq (.chip uid) = (s, some ⟨.chip uid, s.chipRank uid, 0⟩) := rfl

/-- An accepted request that passes the checks and writes is answered by its own rules. -/
theorem State.serve_served {s s1 : State} {r : Req} {idx sub : Nat} {w : Way} {c : Ctx} (f : Ctx → State → Reply)
    (h : s.admitReq r = (s1, some c)) (k : s1.objCheck c.rank idx sub w = none) (hw : w.changes = true) :
    s.serve r idx sub w f = (f c s1).state.answer c (f c s1).code (f c s1).data := by
  simp [State.serve, h, k, hw]

/-- An accepted read that passes the checks and gives a value shows whether another value is pending (R220). -/
theorem State.serve_read {s s1 : State} {r : Req} {idx sub : Nat} {w : Way} {c : Ctx} (f : Ctx → State → Reply)
    (h : s.admitReq r = (s1, some c)) (k : s1.objCheck c.rank idx sub w = none) (hw : w.changes = false)
    (ok : (f c s1).code = Abort.ok) :
    s.serve r idx sub w f =
      (f c s1).state.answerFlags c (s1.pendingFlag c.who idx sub) Abort.ok (f c s1).data := by
  simp [State.serve, h, k, hw, ok]

/-- An accepted request that passes the checks and that its own rules refuse is answered with their code. -/
theorem State.serve_failed {s s1 : State} {r : Req} {idx sub : Nat} {w : Way} {c : Ctx} (f : Ctx → State → Reply)
    (h : s.admitReq r = (s1, some c)) (k : s1.objCheck c.rank idx sub w = none) (no : (f c s1).code ≠ Abort.ok) :
    s.serve r idx sub w f = (f c s1).state.answer c (f c s1).code (f c s1).data := by
  simp [State.serve, h, k, no]

/-- An accepted request that fails a check is answered with the code, and has no effect. -/
theorem State.serve_refused {s s1 : State} {r : Req} {idx sub code : Nat} {w : Way} {c : Ctx}
    (f : Ctx → State → Reply) (h : s.admitReq r = (s1, some c)) (k : s1.objCheck c.rank idx sub w = some code) :
    s.serve r idx sub w f = s1.answer c code [] := by
  simp only [State.serve, h, k]

/-- A request that is not accepted has no effect of its own. -/
theorem State.serve_dropped {s s1 : State} {r : Req} {idx sub : Nat} {w : Way} (f : Ctx → State → Reply)
    (h : s.admitReq r = (s1, none)) : s.serve r idx sub w f = s1 := by
  simp only [State.serve, h]

theorem State.serveAny_served {s s1 : State} {r : Req} {c : Ctx} (f : Ctx → State → Reply)
    (h : s.admitReq r = (s1, some c)) :
    s.serveAny r f = (f c s1).state.answer c (f c s1).code (f c s1).data := by
  simp only [State.serveAny, h]

theorem State.serveAny_dropped {s s1 : State} {r : Req} (f : Ctx → State → Reply)
    (h : s.admitReq r = (s1, none)) : s.serveAny r f = s1 := by
  simp only [State.serveAny, h]

/-- A served command of the block that writes. -/
theorem Served.serve {s s1 : State} {dt idx sub : Nat} {req : Req} {w : Way} {c : Ctx}
    (h : Served s dt req idx sub w c s1) (hw : w.changes = true) (f : Ctx → State → Reply) :
    (s.begin dt).serve req idx sub w f = (f c s1).state.answer c (f c s1).code (f c s1).data :=
  State.serve_served f h.1 h.2 hw

/-- A served command of the block that reads a value. -/
theorem Served.read {s s1 : State} {dt idx sub : Nat} {req : Req} {w : Way} {c : Ctx}
    (h : Served s dt req idx sub w c s1) (hw : w.changes = false) (f : Ctx → State → Reply)
    (ok : (f c s1).code = Abort.ok) :
    (s.begin dt).serve req idx sub w f =
      (f c s1).state.answerFlags c (s1.pendingFlag c.who idx sub) Abort.ok (f c s1).data :=
  State.serve_read f h.1 h.2 hw ok

/-- An answer to a requester on the chip, whatever its FLAGS, changes only what was sent. -/
@[simp] theorem State.answerFlags_chip (s : State) (uid rank seq flags status : Nat) (data : List Byte) :
    s.answerFlags ⟨.chip uid, rank, seq⟩ flags status data =
      s.emit .result (65536 + uid)
        (prorosHeader 0xD flags 0 0 0 uid (be 4 status ++ data).length seq ++ (be 4 status ++ data)) := rfl

/-- An answer to a requester on the chip changes only what was sent. -/
@[simp] theorem State.answer_chip (s : State) (uid rank seq status : Nat) (data : List Byte) :
    s.answer ⟨.chip uid, rank, seq⟩ status data =
      s.emit .result (65536 + uid)
        (prorosHeader 0xD 0 0 0 0 uid (be 4 status ++ data).length seq ++ (be 4 status ++ data)) := rfl

end Sys2Proof.Machine
end

