-- ==== Sys2Proof/Laws/State.lean ====
section
/-!
SUPPORT. One lemma per field for each small update of the state, so that no proof unfolds a record update.
-/
namespace Sys2Proof.Machine

/-! ## State.begin -/

@[simp] theorem State.begin_pending (s : State) (dt : Nat) :
    (State.begin s dt).pending = s.pending := rfl
@[simp] theorem State.begin_freeCount (s : State) (dt : Nat) :
    (State.begin s dt).freeCount = s.freeCount := rfl
@[simp] theorem State.begin_fuses (s : State) (dt : Nat) :
    (State.begin s dt).fuses = s.fuses := rfl
@[simp] theorem State.begin_topo (s : State) (dt : Nat) :
    (State.begin s dt).topo = s.topo := rfl
@[simp] theorem State.begin_hub (s : State) (dt : Nat) :
    (State.begin s dt).hub = s.hub := rfl
@[simp] theorem State.begin_tb (s : State) (dt : Nat) :
    (State.begin s dt).tb = s.tb := rfl
@[simp] theorem State.begin_wireA (s : State) (dt : Nat) :
    (State.begin s dt).wireA = s.wireA := rfl
@[simp] theorem State.begin_wireR (s : State) (dt : Nat) :
    (State.begin s dt).wireR = s.wireR := rfl
@[simp] theorem State.begin_pod (s : State) (dt : Nat) :
    (State.begin s dt).pod = s.pod := rfl
@[simp] theorem State.begin_frame_field (s : State) (dt : Nat) :
    (State.begin s dt).frame = s.frame := rfl
@[simp] theorem State.begin_sched (s : State) (dt : Nat) :
    (State.begin s dt).sched = s.sched := rfl
@[simp] theorem State.begin_units (s : State) (dt : Nat) :
    (State.begin s dt).units = s.units := rfl
@[simp] theorem State.begin_qu (s : State) (dt : Nat) :
    (State.begin s dt).qu = s.qu := rfl
@[simp] theorem State.begin_podCut (s : State) (dt : Nat) :
    (State.begin s dt).podCut = s.podCut := rfl
@[simp] theorem State.begin_dump (s : State) (dt : Nat) :
    (State.begin s dt).dump = s.dump := rfl
@[simp] theorem State.begin_hang (s : State) (dt : Nat) :
    (State.begin s dt).hang = s.hang := rfl
@[simp] theorem State.begin_fm (s : State) (dt : Nat) :
    (State.begin s dt).fm = s.fm := rfl
@[simp] theorem State.begin_adm (s : State) (dt : Nat) :
    (State.begin s dt).adm = s.adm := rfl
@[simp] theorem State.begin_bar (s : State) (dt : Nat) :
    (State.begin s dt).bar = s.bar := rfl
@[simp] theorem State.begin_trace (s : State) (dt : Nat) :
    (State.begin s dt).trace = s.trace := rfl
@[simp] theorem State.begin_power (s : State) (dt : Nat) :
    (State.begin s dt).power = s.power := rfl
@[simp] theorem State.begin_rst (s : State) (dt : Nat) :
    (State.begin s dt).rst = s.rst := rfl
@[simp] theorem State.begin_backup (s : State) (dt : Nat) :
    (State.begin s dt).backup = s.backup := rfl
@[simp] theorem State.begin_flash (s : State) (dt : Nat) :
    (State.begin s dt).flash = s.flash := rfl
@[simp] theorem State.begin_logSeq (s : State) (dt : Nat) :
    (State.begin s dt).logSeq = s.logSeq := rfl
@[simp] theorem State.begin_imageIds (s : State) (dt : Nat) :
    (State.begin s dt).imageIds = s.imageIds := rfl
@[simp] theorem State.begin_eventSeqs (s : State) (dt : Nat) :
    (State.begin s dt).eventSeqs = s.eventSeqs := rfl
@[simp] theorem State.begin_log (s : State) (dt : Nat) :
    (State.begin s dt).log = s.log := rfl
@[simp] theorem State.begin_port (s : State) (dt : Nat) :
    (State.begin s dt).port = s.port := rfl
@[simp] theorem State.begin_fw (s : State) (dt : Nat) :
    (State.begin s dt).fw = s.fw := rfl
@[simp] theorem State.begin_lc (s : State) (dt : Nat) :
    (State.begin s dt).lc = s.lc := rfl
@[simp] theorem State.begin_pins (s : State) (dt : Nat) :
    (State.begin s dt).pins = s.pins := rfl
@[simp] theorem State.begin_dram (s : State) (dt : Nat) :
    (State.begin s dt).dram = s.dram := rfl

/-! ## State.emit -/

@[simp] theorem State.emit_pending (s : State) (kind : EmitKind) (dest : Nat) (data : List Byte) :
    (State.emit s kind dest data).pending = s.pending := rfl
@[simp] theorem State.emit_elapsed (s : State) (kind : EmitKind) (dest : Nat) (data : List Byte) :
    (State.emit s kind dest data).elapsed = s.elapsed := rfl
@[simp] theorem State.emit_freeCount (s : State) (kind : EmitKind) (dest : Nat) (data : List Byte) :
    (State.emit s kind dest data).freeCount = s.freeCount := rfl
@[simp] theorem State.emit_fuses (s : State) (kind : EmitKind) (dest : Nat) (data : List Byte) :
    (State.emit s kind dest data).fuses = s.fuses := rfl
@[simp] theorem State.emit_topo (s : State) (kind : EmitKind) (dest : Nat) (data : List Byte) :
    (State.emit s kind dest data).topo = s.topo := rfl
@[simp] theorem State.emit_hub (s : State) (kind : EmitKind) (dest : Nat) (data : List Byte) :
    (State.emit s kind dest data).hub = s.hub := rfl
@[simp] theorem State.emit_tb (s : State) (kind : EmitKind) (dest : Nat) (data : List Byte) :
    (State.emit s kind dest data).tb = s.tb := rfl
@[simp] theorem State.emit_wireA (s : State) (kind : EmitKind) (dest : Nat) (data : List Byte) :
    (State.emit s kind dest data).wireA = s.wireA := rfl
@[simp] theorem State.emit_wireR (s : State) (kind : EmitKind) (dest : Nat) (data : List Byte) :
    (State.emit s kind dest data).wireR = s.wireR := rfl
@[simp] theorem State.emit_pod (s : State) (kind : EmitKind) (dest : Nat) (data : List Byte) :
    (State.emit s kind dest data).pod = s.pod := rfl
@[simp] theorem State.emit_frame_field (s : State) (kind : EmitKind) (dest : Nat) (data : List Byte) :
    (State.emit s kind dest data).frame = s.frame := rfl
@[simp] theorem State.emit_sched (s : State) (kind : EmitKind) (dest : Nat) (data : List Byte) :
    (State.emit s kind dest data).sched = s.sched := rfl
@[simp] theorem State.emit_units (s : State) (kind : EmitKind) (dest : Nat) (data : List Byte) :
    (State.emit s kind dest data).units = s.units := rfl
@[simp] theorem State.emit_qu (s : State) (kind : EmitKind) (dest : Nat) (data : List Byte) :
    (State.emit s kind dest data).qu = s.qu := rfl
@[simp] theorem State.emit_podCut (s : State) (kind : EmitKind) (dest : Nat) (data : List Byte) :
    (State.emit s kind dest data).podCut = s.podCut := rfl
@[simp] theorem State.emit_dump (s : State) (kind : EmitKind) (dest : Nat) (data : List Byte) :
    (State.emit s kind dest data).dump = s.dump := rfl
@[simp] theorem State.emit_hang (s : State) (kind : EmitKind) (dest : Nat) (data : List Byte) :
    (State.emit s kind dest data).hang = s.hang := rfl
@[simp] theorem State.emit_fm (s : State) (kind : EmitKind) (dest : Nat) (data : List Byte) :
    (State.emit s kind dest data).fm = s.fm := rfl
@[simp] theorem State.emit_adm (s : State) (kind : EmitKind) (dest : Nat) (data : List Byte) :
    (State.emit s kind dest data).adm = s.adm := rfl
@[simp] theorem State.emit_bar (s : State) (kind : EmitKind) (dest : Nat) (data : List Byte) :
    (State.emit s kind dest data).bar = s.bar := rfl
@[simp] theorem State.emit_trace (s : State) (kind : EmitKind) (dest : Nat) (data : List Byte) :
    (State.emit s kind dest data).trace = s.trace := rfl
@[simp] theorem State.emit_power (s : State) (kind : EmitKind) (dest : Nat) (data : List Byte) :
    (State.emit s kind dest data).power = s.power := rfl
@[simp] theorem State.emit_rst (s : State) (kind : EmitKind) (dest : Nat) (data : List Byte) :
    (State.emit s kind dest data).rst = s.rst := rfl
@[simp] theorem State.emit_backup (s : State) (kind : EmitKind) (dest : Nat) (data : List Byte) :
    (State.emit s kind dest data).backup = s.backup := rfl
@[simp] theorem State.emit_flash (s : State) (kind : EmitKind) (dest : Nat) (data : List Byte) :
    (State.emit s kind dest data).flash = s.flash := rfl
@[simp] theorem State.emit_logSeq (s : State) (kind : EmitKind) (dest : Nat) (data : List Byte) :
    (State.emit s kind dest data).logSeq = s.logSeq := rfl
@[simp] theorem State.emit_imageIds (s : State) (kind : EmitKind) (dest : Nat) (data : List Byte) :
    (State.emit s kind dest data).imageIds = s.imageIds := rfl
@[simp] theorem State.emit_eventSeqs (s : State) (kind : EmitKind) (dest : Nat) (data : List Byte) :
    (State.emit s kind dest data).eventSeqs = s.eventSeqs := rfl
@[simp] theorem State.emit_log (s : State) (kind : EmitKind) (dest : Nat) (data : List Byte) :
    (State.emit s kind dest data).log = s.log := rfl
@[simp] theorem State.emit_port (s : State) (kind : EmitKind) (dest : Nat) (data : List Byte) :
    (State.emit s kind dest data).port = s.port := rfl
@[simp] theorem State.emit_fw (s : State) (kind : EmitKind) (dest : Nat) (data : List Byte) :
    (State.emit s kind dest data).fw = s.fw := rfl
@[simp] theorem State.emit_lc (s : State) (kind : EmitKind) (dest : Nat) (data : List Byte) :
    (State.emit s kind dest data).lc = s.lc := rfl
@[simp] theorem State.emit_pins (s : State) (kind : EmitKind) (dest : Nat) (data : List Byte) :
    (State.emit s kind dest data).pins = s.pins := rfl
@[simp] theorem State.emit_dram (s : State) (kind : EmitKind) (dest : Nat) (data : List Byte) :
    (State.emit s kind dest data).dram = s.dram := rfl

/-! ## State.emitAll -/

@[simp] theorem State.emitAll_pending (s : State) (kind : EmitKind) (dests : List Nat) (data : List Byte) :
    (State.emitAll s kind dests data).pending = s.pending := rfl
@[simp] theorem State.emitAll_elapsed (s : State) (kind : EmitKind) (dests : List Nat) (data : List Byte) :
    (State.emitAll s kind dests data).elapsed = s.elapsed := rfl
@[simp] theorem State.emitAll_freeCount (s : State) (kind : EmitKind) (dests : List Nat) (data : List Byte) :
    (State.emitAll s kind dests data).freeCount = s.freeCount := rfl
@[simp] theorem State.emitAll_fuses (s : State) (kind : EmitKind) (dests : List Nat) (data : List Byte) :
    (State.emitAll s kind dests data).fuses = s.fuses := rfl
@[simp] theorem State.emitAll_topo (s : State) (kind : EmitKind) (dests : List Nat) (data : List Byte) :
    (State.emitAll s kind dests data).topo = s.topo := rfl
@[simp] theorem State.emitAll_hub (s : State) (kind : EmitKind) (dests : List Nat) (data : List Byte) :
    (State.emitAll s kind dests data).hub = s.hub := rfl
@[simp] theorem State.emitAll_tb (s : State) (kind : EmitKind) (dests : List Nat) (data : List Byte) :
    (State.emitAll s kind dests data).tb = s.tb := rfl
@[simp] theorem State.emitAll_wireA (s : State) (kind : EmitKind) (dests : List Nat) (data : List Byte) :
    (State.emitAll s kind dests data).wireA = s.wireA := rfl
@[simp] theorem State.emitAll_wireR (s : State) (kind : EmitKind) (dests : List Nat) (data : List Byte) :
    (State.emitAll s kind dests data).wireR = s.wireR := rfl
@[simp] theorem State.emitAll_pod (s : State) (kind : EmitKind) (dests : List Nat) (data : List Byte) :
    (State.emitAll s kind dests data).pod = s.pod := rfl
@[simp] theorem State.emitAll_frame_field (s : State) (kind : EmitKind) (dests : List Nat) (data : List Byte) :
    (State.emitAll s kind dests data).frame = s.frame := rfl
@[simp] theorem State.emitAll_sched (s : State) (kind : EmitKind) (dests : List Nat) (data : List Byte) :
    (State.emitAll s kind dests data).sched = s.sched := rfl
@[simp] theorem State.emitAll_units (s : State) (kind : EmitKind) (dests : List Nat) (data : List Byte) :
    (State.emitAll s kind dests data).units = s.units := rfl
@[simp] theorem State.emitAll_qu (s : State) (kind : EmitKind) (dests : List Nat) (data : List Byte) :
    (State.emitAll s kind dests data).qu = s.qu := rfl
@[simp] theorem State.emitAll_podCut (s : State) (kind : EmitKind) (dests : List Nat) (data : List Byte) :
    (State.emitAll s kind dests data).podCut = s.podCut := rfl
@[simp] theorem State.emitAll_dump (s : State) (kind : EmitKind) (dests : List Nat) (data : List Byte) :
    (State.emitAll s kind dests data).dump = s.dump := rfl
@[simp] theorem State.emitAll_hang (s : State) (kind : EmitKind) (dests : List Nat) (data : List Byte) :
    (State.emitAll s kind dests data).hang = s.hang := rfl
@[simp] theorem State.emitAll_fm (s : State) (kind : EmitKind) (dests : List Nat) (data : List Byte) :
    (State.emitAll s kind dests data).fm = s.fm := rfl
@[simp] theorem State.emitAll_adm (s : State) (kind : EmitKind) (dests : List Nat) (data : List Byte) :
    (State.emitAll s kind dests data).adm = s.adm := rfl
@[simp] theorem State.emitAll_bar (s : State) (kind : EmitKind) (dests : List Nat) (data : List Byte) :
    (State.emitAll s kind dests data).bar = s.bar := rfl
@[simp] theorem State.emitAll_trace (s : State) (kind : EmitKind) (dests : List Nat) (data : List Byte) :
    (State.emitAll s kind dests data).trace = s.trace := rfl
@[simp] theorem State.emitAll_power (s : State) (kind : EmitKind) (dests : List Nat) (data : List Byte) :
    (State.emitAll s kind dests data).power = s.power := rfl
@[simp] theorem State.emitAll_rst (s : State) (kind : EmitKind) (dests : List Nat) (data : List Byte) :
    (State.emitAll s kind dests data).rst = s.rst := rfl
@[simp] theorem State.emitAll_backup (s : State) (kind : EmitKind) (dests : List Nat) (data : List Byte) :
    (State.emitAll s kind dests data).backup = s.backup := rfl
@[simp] theorem State.emitAll_flash (s : State) (kind : EmitKind) (dests : List Nat) (data : List Byte) :
    (State.emitAll s kind dests data).flash = s.flash := rfl
@[simp] theorem State.emitAll_logSeq (s : State) (kind : EmitKind) (dests : List Nat) (data : List Byte) :
    (State.emitAll s kind dests data).logSeq = s.logSeq := rfl
@[simp] theorem State.emitAll_imageIds (s : State) (kind : EmitKind) (dests : List Nat) (data : List Byte) :
    (State.emitAll s kind dests data).imageIds = s.imageIds := rfl
@[simp] theorem State.emitAll_eventSeqs (s : State) (kind : EmitKind) (dests : List Nat) (data : List Byte) :
    (State.emitAll s kind dests data).eventSeqs = s.eventSeqs := rfl
@[simp] theorem State.emitAll_log (s : State) (kind : EmitKind) (dests : List Nat) (data : List Byte) :
    (State.emitAll s kind dests data).log = s.log := rfl
@[simp] theorem State.emitAll_port (s : State) (kind : EmitKind) (dests : List Nat) (data : List Byte) :
    (State.emitAll s kind dests data).port = s.port := rfl
@[simp] theorem State.emitAll_fw (s : State) (kind : EmitKind) (dests : List Nat) (data : List Byte) :
    (State.emitAll s kind dests data).fw = s.fw := rfl
@[simp] theorem State.emitAll_lc (s : State) (kind : EmitKind) (dests : List Nat) (data : List Byte) :
    (State.emitAll s kind dests data).lc = s.lc := rfl
@[simp] theorem State.emitAll_pins (s : State) (kind : EmitKind) (dests : List Nat) (data : List Byte) :
    (State.emitAll s kind dests data).pins = s.pins := rfl
@[simp] theorem State.emitAll_dram (s : State) (kind : EmitKind) (dests : List Nat) (data : List Byte) :
    (State.emitAll s kind dests data).dram = s.dram := rfl

/-! ## State.drawn -/

@[simp] theorem State.drawn_pending (s : State) :
    (State.drawn s).pending = s.pending := rfl
@[simp] theorem State.drawn_elapsed (s : State) :
    (State.drawn s).elapsed = s.elapsed := rfl
@[simp] theorem State.drawn_emitted (s : State) :
    (State.drawn s).emitted = s.emitted := rfl
@[simp] theorem State.drawn_fuses (s : State) :
    (State.drawn s).fuses = s.fuses := rfl
@[simp] theorem State.drawn_topo (s : State) :
    (State.drawn s).topo = s.topo := rfl
@[simp] theorem State.drawn_hub (s : State) :
    (State.drawn s).hub = s.hub := rfl
@[simp] theorem State.drawn_tb (s : State) :
    (State.drawn s).tb = s.tb := rfl
@[simp] theorem State.drawn_wireA (s : State) :
    (State.drawn s).wireA = s.wireA := rfl
@[simp] theorem State.drawn_wireR (s : State) :
    (State.drawn s).wireR = s.wireR := rfl
@[simp] theorem State.drawn_pod (s : State) :
    (State.drawn s).pod = s.pod := rfl
@[simp] theorem State.drawn_frame_field (s : State) :
    (State.drawn s).frame = s.frame := rfl
@[simp] theorem State.drawn_sched (s : State) :
    (State.drawn s).sched = s.sched := rfl
@[simp] theorem State.drawn_units (s : State) :
    (State.drawn s).units = s.units := rfl
@[simp] theorem State.drawn_qu (s : State) :
    (State.drawn s).qu = s.qu := rfl
@[simp] theorem State.drawn_podCut (s : State) :
    (State.drawn s).podCut = s.podCut := rfl
@[simp] theorem State.drawn_dump (s : State) :
    (State.drawn s).dump = s.dump := rfl
@[simp] theorem State.drawn_hang (s : State) :
    (State.drawn s).hang = s.hang := rfl
@[simp] theorem State.drawn_fm (s : State) :
    (State.drawn s).fm = s.fm := rfl
@[simp] theorem State.drawn_adm (s : State) :
    (State.drawn s).adm = s.adm := rfl
@[simp] theorem State.drawn_bar (s : State) :
    (State.drawn s).bar = s.bar := rfl
@[simp] theorem State.drawn_trace (s : State) :
    (State.drawn s).trace = s.trace := rfl
@[simp] theorem State.drawn_power (s : State) :
    (State.drawn s).power = s.power := rfl
@[simp] theorem State.drawn_rst (s : State) :
    (State.drawn s).rst = s.rst := rfl
@[simp] theorem State.drawn_backup (s : State) :
    (State.drawn s).backup = s.backup := rfl
@[simp] theorem State.drawn_flash (s : State) :
    (State.drawn s).flash = s.flash := rfl
@[simp] theorem State.drawn_logSeq (s : State) :
    (State.drawn s).logSeq = s.logSeq := rfl
@[simp] theorem State.drawn_imageIds (s : State) :
    (State.drawn s).imageIds = s.imageIds := rfl
@[simp] theorem State.drawn_eventSeqs (s : State) :
    (State.drawn s).eventSeqs = s.eventSeqs := rfl
@[simp] theorem State.drawn_log (s : State) :
    (State.drawn s).log = s.log := rfl
@[simp] theorem State.drawn_port (s : State) :
    (State.drawn s).port = s.port := rfl
@[simp] theorem State.drawn_fw (s : State) :
    (State.drawn s).fw = s.fw := rfl
@[simp] theorem State.drawn_lc (s : State) :
    (State.drawn s).lc = s.lc := rfl
@[simp] theorem State.drawn_pins (s : State) :
    (State.drawn s).pins = s.pins := rfl
@[simp] theorem State.drawn_dram (s : State) :
    (State.drawn s).dram = s.dram := rfl

/-! ## State.modCore -/

@[simp] theorem State.modCore_pending (s : State) (n : Nat) (f : HubCore → HubCore) :
    (State.modCore s n f).pending = s.pending := rfl
@[simp] theorem State.modCore_elapsed (s : State) (n : Nat) (f : HubCore → HubCore) :
    (State.modCore s n f).elapsed = s.elapsed := rfl
@[simp] theorem State.modCore_emitted (s : State) (n : Nat) (f : HubCore → HubCore) :
    (State.modCore s n f).emitted = s.emitted := rfl
@[simp] theorem State.modCore_freeCount (s : State) (n : Nat) (f : HubCore → HubCore) :
    (State.modCore s n f).freeCount = s.freeCount := rfl
@[simp] theorem State.modCore_fuses (s : State) (n : Nat) (f : HubCore → HubCore) :
    (State.modCore s n f).fuses = s.fuses := rfl
@[simp] theorem State.modCore_topo (s : State) (n : Nat) (f : HubCore → HubCore) :
    (State.modCore s n f).topo = s.topo := rfl
@[simp] theorem State.modCore_tb (s : State) (n : Nat) (f : HubCore → HubCore) :
    (State.modCore s n f).tb = s.tb := rfl
@[simp] theorem State.modCore_wireA (s : State) (n : Nat) (f : HubCore → HubCore) :
    (State.modCore s n f).wireA = s.wireA := rfl
@[simp] theorem State.modCore_wireR (s : State) (n : Nat) (f : HubCore → HubCore) :
    (State.modCore s n f).wireR = s.wireR := rfl
@[simp] theorem State.modCore_pod (s : State) (n : Nat) (f : HubCore → HubCore) :
    (State.modCore s n f).pod = s.pod := rfl
@[simp] theorem State.modCore_frame_field (s : State) (n : Nat) (f : HubCore → HubCore) :
    (State.modCore s n f).frame = s.frame := rfl
@[simp] theorem State.modCore_sched (s : State) (n : Nat) (f : HubCore → HubCore) :
    (State.modCore s n f).sched = s.sched := rfl
@[simp] theorem State.modCore_units (s : State) (n : Nat) (f : HubCore → HubCore) :
    (State.modCore s n f).units = s.units := rfl
@[simp] theorem State.modCore_qu (s : State) (n : Nat) (f : HubCore → HubCore) :
    (State.modCore s n f).qu = s.qu := rfl
@[simp] theorem State.modCore_podCut (s : State) (n : Nat) (f : HubCore → HubCore) :
    (State.modCore s n f).podCut = s.podCut := rfl
@[simp] theorem State.modCore_dump (s : State) (n : Nat) (f : HubCore → HubCore) :
    (State.modCore s n f).dump = s.dump := rfl
@[simp] theorem State.modCore_hang (s : State) (n : Nat) (f : HubCore → HubCore) :
    (State.modCore s n f).hang = s.hang := rfl
@[simp] theorem State.modCore_fm (s : State) (n : Nat) (f : HubCore → HubCore) :
    (State.modCore s n f).fm = s.fm := rfl
@[simp] theorem State.modCore_adm (s : State) (n : Nat) (f : HubCore → HubCore) :
    (State.modCore s n f).adm = s.adm := rfl
@[simp] theorem State.modCore_bar (s : State) (n : Nat) (f : HubCore → HubCore) :
    (State.modCore s n f).bar = s.bar := rfl
@[simp] theorem State.modCore_trace (s : State) (n : Nat) (f : HubCore → HubCore) :
    (State.modCore s n f).trace = s.trace := rfl
@[simp] theorem State.modCore_power (s : State) (n : Nat) (f : HubCore → HubCore) :
    (State.modCore s n f).power = s.power := rfl
@[simp] theorem State.modCore_rst (s : State) (n : Nat) (f : HubCore → HubCore) :
    (State.modCore s n f).rst = s.rst := rfl
@[simp] theorem State.modCore_backup (s : State) (n : Nat) (f : HubCore → HubCore) :
    (State.modCore s n f).backup = s.backup := rfl
@[simp] theorem State.modCore_flash (s : State) (n : Nat) (f : HubCore → HubCore) :
    (State.modCore s n f).flash = s.flash := rfl
@[simp] theorem State.modCore_logSeq (s : State) (n : Nat) (f : HubCore → HubCore) :
    (State.modCore s n f).logSeq = s.logSeq := rfl
@[simp] theorem State.modCore_imageIds (s : State) (n : Nat) (f : HubCore → HubCore) :
    (State.modCore s n f).imageIds = s.imageIds := rfl
@[simp] theorem State.modCore_eventSeqs (s : State) (n : Nat) (f : HubCore → HubCore) :
    (State.modCore s n f).eventSeqs = s.eventSeqs := rfl
@[simp] theorem State.modCore_log (s : State) (n : Nat) (f : HubCore → HubCore) :
    (State.modCore s n f).log = s.log := rfl
@[simp] theorem State.modCore_port (s : State) (n : Nat) (f : HubCore → HubCore) :
    (State.modCore s n f).port = s.port := rfl
@[simp] theorem State.modCore_fw (s : State) (n : Nat) (f : HubCore → HubCore) :
    (State.modCore s n f).fw = s.fw := rfl
@[simp] theorem State.modCore_lc (s : State) (n : Nat) (f : HubCore → HubCore) :
    (State.modCore s n f).lc = s.lc := rfl
@[simp] theorem State.modCore_pins (s : State) (n : Nat) (f : HubCore → HubCore) :
    (State.modCore s n f).pins = s.pins := rfl
@[simp] theorem State.modCore_dram (s : State) (n : Nat) (f : HubCore → HubCore) :
    (State.modCore s n f).dram = s.dram := rfl

/-! ## State.setHealth -/

@[simp] theorem State.setHealth_pending (s : State) (uid v : Nat) :
    (State.setHealth s uid v).pending = s.pending := rfl
@[simp] theorem State.setHealth_elapsed (s : State) (uid v : Nat) :
    (State.setHealth s uid v).elapsed = s.elapsed := rfl
@[simp] theorem State.setHealth_emitted (s : State) (uid v : Nat) :
    (State.setHealth s uid v).emitted = s.emitted := rfl
@[simp] theorem State.setHealth_freeCount (s : State) (uid v : Nat) :
    (State.setHealth s uid v).freeCount = s.freeCount := rfl
@[simp] theorem State.setHealth_fuses (s : State) (uid v : Nat) :
    (State.setHealth s uid v).fuses = s.fuses := rfl
@[simp] theorem State.setHealth_hub (s : State) (uid v : Nat) :
    (State.setHealth s uid v).hub = s.hub := rfl
@[simp] theorem State.setHealth_tb (s : State) (uid v : Nat) :
    (State.setHealth s uid v).tb = s.tb := rfl
@[simp] theorem State.setHealth_wireA (s : State) (uid v : Nat) :
    (State.setHealth s uid v).wireA = s.wireA := rfl
@[simp] theorem State.setHealth_wireR (s : State) (uid v : Nat) :
    (State.setHealth s uid v).wireR = s.wireR := rfl
@[simp] theorem State.setHealth_pod (s : State) (uid v : Nat) :
    (State.setHealth s uid v).pod = s.pod := rfl
@[simp] theorem State.setHealth_frame_field (s : State) (uid v : Nat) :
    (State.setHealth s uid v).frame = s.frame := rfl
@[simp] theorem State.setHealth_sched (s : State) (uid v : Nat) :
    (State.setHealth s uid v).sched = s.sched := rfl
@[simp] theorem State.setHealth_units (s : State) (uid v : Nat) :
    (State.setHealth s uid v).units = s.units := rfl
@[simp] theorem State.setHealth_qu (s : State) (uid v : Nat) :
    (State.setHealth s uid v).qu = s.qu := rfl
@[simp] theorem State.setHealth_podCut (s : State) (uid v : Nat) :
    (State.setHealth s uid v).podCut = s.podCut := rfl
@[simp] theorem State.setHealth_dump (s : State) (uid v : Nat) :
    (State.setHealth s uid v).dump = s.dump := rfl
@[simp] theorem State.setHealth_hang (s : State) (uid v : Nat) :
    (State.setHealth s uid v).hang = s.hang := rfl
@[simp] theorem State.setHealth_fm (s : State) (uid v : Nat) :
    (State.setHealth s uid v).fm = s.fm := rfl
@[simp] theorem State.setHealth_adm (s : State) (uid v : Nat) :
    (State.setHealth s uid v).adm = s.adm := rfl
@[simp] theorem State.setHealth_bar (s : State) (uid v : Nat) :
    (State.setHealth s uid v).bar = s.bar := rfl
@[simp] theorem State.setHealth_trace (s : State) (uid v : Nat) :
    (State.setHealth s uid v).trace = s.trace := rfl
@[simp] theorem State.setHealth_power (s : State) (uid v : Nat) :
    (State.setHealth s uid v).power = s.power := rfl
@[simp] theorem State.setHealth_rst (s : State) (uid v : Nat) :
    (State.setHealth s uid v).rst = s.rst := rfl
@[simp] theorem State.setHealth_backup (s : State) (uid v : Nat) :
    (State.setHealth s uid v).backup = s.backup := rfl
@[simp] theorem State.setHealth_flash (s : State) (uid v : Nat) :
    (State.setHealth s uid v).flash = s.flash := rfl
@[simp] theorem State.setHealth_logSeq (s : State) (uid v : Nat) :
    (State.setHealth s uid v).logSeq = s.logSeq := rfl
@[simp] theorem State.setHealth_imageIds (s : State) (uid v : Nat) :
    (State.setHealth s uid v).imageIds = s.imageIds := rfl
@[simp] theorem State.setHealth_eventSeqs (s : State) (uid v : Nat) :
    (State.setHealth s uid v).eventSeqs = s.eventSeqs := rfl
@[simp] theorem State.setHealth_log (s : State) (uid v : Nat) :
    (State.setHealth s uid v).log = s.log := rfl
@[simp] theorem State.setHealth_port (s : State) (uid v : Nat) :
    (State.setHealth s uid v).port = s.port := rfl
@[simp] theorem State.setHealth_fw (s : State) (uid v : Nat) :
    (State.setHealth s uid v).fw = s.fw := rfl
@[simp] theorem State.setHealth_lc (s : State) (uid v : Nat) :
    (State.setHealth s uid v).lc = s.lc := rfl
@[simp] theorem State.setHealth_pins (s : State) (uid v : Nat) :
    (State.setHealth s uid v).pins = s.pins := rfl
@[simp] theorem State.setHealth_dram (s : State) (uid v : Nat) :
    (State.setHealth s uid v).dram = s.dram := rfl

/-! ## State.modTap -/

@[simp] theorem State.modTap_pending (s : State) (c : Nat) (f : Tap → Tap) :
    (State.modTap s c f).pending = s.pending := rfl
@[simp] theorem State.modTap_elapsed (s : State) (c : Nat) (f : Tap → Tap) :
    (State.modTap s c f).elapsed = s.elapsed := rfl
@[simp] theorem State.modTap_emitted (s : State) (c : Nat) (f : Tap → Tap) :
    (State.modTap s c f).emitted = s.emitted := rfl
@[simp] theorem State.modTap_freeCount (s : State) (c : Nat) (f : Tap → Tap) :
    (State.modTap s c f).freeCount = s.freeCount := rfl
@[simp] theorem State.modTap_fuses (s : State) (c : Nat) (f : Tap → Tap) :
    (State.modTap s c f).fuses = s.fuses := rfl
@[simp] theorem State.modTap_topo (s : State) (c : Nat) (f : Tap → Tap) :
    (State.modTap s c f).topo = s.topo := rfl
@[simp] theorem State.modTap_hub (s : State) (c : Nat) (f : Tap → Tap) :
    (State.modTap s c f).hub = s.hub := rfl
@[simp] theorem State.modTap_tb (s : State) (c : Nat) (f : Tap → Tap) :
    (State.modTap s c f).tb = s.tb := rfl
@[simp] theorem State.modTap_wireA (s : State) (c : Nat) (f : Tap → Tap) :
    (State.modTap s c f).wireA = s.wireA := rfl
@[simp] theorem State.modTap_wireR (s : State) (c : Nat) (f : Tap → Tap) :
    (State.modTap s c f).wireR = s.wireR := rfl
@[simp] theorem State.modTap_pod (s : State) (c : Nat) (f : Tap → Tap) :
    (State.modTap s c f).pod = s.pod := rfl
@[simp] theorem State.modTap_frame_field (s : State) (c : Nat) (f : Tap → Tap) :
    (State.modTap s c f).frame = s.frame := rfl
@[simp] theorem State.modTap_sched (s : State) (c : Nat) (f : Tap → Tap) :
    (State.modTap s c f).sched = s.sched := rfl
@[simp] theorem State.modTap_qu (s : State) (c : Nat) (f : Tap → Tap) :
    (State.modTap s c f).qu = s.qu := rfl
@[simp] theorem State.modTap_podCut (s : State) (c : Nat) (f : Tap → Tap) :
    (State.modTap s c f).podCut = s.podCut := rfl
@[simp] theorem State.modTap_dump (s : State) (c : Nat) (f : Tap → Tap) :
    (State.modTap s c f).dump = s.dump := rfl
@[simp] theorem State.modTap_hang (s : State) (c : Nat) (f : Tap → Tap) :
    (State.modTap s c f).hang = s.hang := rfl
@[simp] theorem State.modTap_fm (s : State) (c : Nat) (f : Tap → Tap) :
    (State.modTap s c f).fm = s.fm := rfl
@[simp] theorem State.modTap_adm (s : State) (c : Nat) (f : Tap → Tap) :
    (State.modTap s c f).adm = s.adm := rfl
@[simp] theorem State.modTap_bar (s : State) (c : Nat) (f : Tap → Tap) :
    (State.modTap s c f).bar = s.bar := rfl
@[simp] theorem State.modTap_trace (s : State) (c : Nat) (f : Tap → Tap) :
    (State.modTap s c f).trace = s.trace := rfl
@[simp] theorem State.modTap_power (s : State) (c : Nat) (f : Tap → Tap) :
    (State.modTap s c f).power = s.power := rfl
@[simp] theorem State.modTap_rst (s : State) (c : Nat) (f : Tap → Tap) :
    (State.modTap s c f).rst = s.rst := rfl
@[simp] theorem State.modTap_backup (s : State) (c : Nat) (f : Tap → Tap) :
    (State.modTap s c f).backup = s.backup := rfl
@[simp] theorem State.modTap_flash (s : State) (c : Nat) (f : Tap → Tap) :
    (State.modTap s c f).flash = s.flash := rfl
@[simp] theorem State.modTap_logSeq (s : State) (c : Nat) (f : Tap → Tap) :
    (State.modTap s c f).logSeq = s.logSeq := rfl
@[simp] theorem State.modTap_imageIds (s : State) (c : Nat) (f : Tap → Tap) :
    (State.modTap s c f).imageIds = s.imageIds := rfl
@[simp] theorem State.modTap_eventSeqs (s : State) (c : Nat) (f : Tap → Tap) :
    (State.modTap s c f).eventSeqs = s.eventSeqs := rfl
@[simp] theorem State.modTap_log (s : State) (c : Nat) (f : Tap → Tap) :
    (State.modTap s c f).log = s.log := rfl
@[simp] theorem State.modTap_port (s : State) (c : Nat) (f : Tap → Tap) :
    (State.modTap s c f).port = s.port := rfl
@[simp] theorem State.modTap_fw (s : State) (c : Nat) (f : Tap → Tap) :
    (State.modTap s c f).fw = s.fw := rfl
@[simp] theorem State.modTap_lc (s : State) (c : Nat) (f : Tap → Tap) :
    (State.modTap s c f).lc = s.lc := rfl
@[simp] theorem State.modTap_pins (s : State) (c : Nat) (f : Tap → Tap) :
    (State.modTap s c f).pins = s.pins := rfl
@[simp] theorem State.modTap_dram (s : State) (c : Nat) (f : Tap → Tap) :
    (State.modTap s c f).dram = s.dram := rfl

/-! ## State.modRunner -/

@[simp] theorem State.modRunner_pending (s : State) (die : Nat) (f : Runner → Runner) :
    (State.modRunner s die f).pending = s.pending := rfl
@[simp] theorem State.modRunner_elapsed (s : State) (die : Nat) (f : Runner → Runner) :
    (State.modRunner s die f).elapsed = s.elapsed := rfl
@[simp] theorem State.modRunner_emitted (s : State) (die : Nat) (f : Runner → Runner) :
    (State.modRunner s die f).emitted = s.emitted := rfl
@[simp] theorem State.modRunner_freeCount (s : State) (die : Nat) (f : Runner → Runner) :
    (State.modRunner s die f).freeCount = s.freeCount := rfl
@[simp] theorem State.modRunner_fuses (s : State) (die : Nat) (f : Runner → Runner) :
    (State.modRunner s die f).fuses = s.fuses := rfl
@[simp] theorem State.modRunner_topo (s : State) (die : Nat) (f : Runner → Runner) :
    (State.modRunner s die f).topo = s.topo := rfl
@[simp] theorem State.modRunner_hub (s : State) (die : Nat) (f : Runner → Runner) :
    (State.modRunner s die f).hub = s.hub := rfl
@[simp] theorem State.modRunner_tb (s : State) (die : Nat) (f : Runner → Runner) :
    (State.modRunner s die f).tb = s.tb := rfl
@[simp] theorem State.modRunner_wireA (s : State) (die : Nat) (f : Runner → Runner) :
    (State.modRunner s die f).wireA = s.wireA := rfl
@[simp] theorem State.modRunner_wireR (s : State) (die : Nat) (f : Runner → Runner) :
    (State.modRunner s die f).wireR = s.wireR := rfl
@[simp] theorem State.modRunner_pod (s : State) (die : Nat) (f : Runner → Runner) :
    (State.modRunner s die f).pod = s.pod := rfl
@[simp] theorem State.modRunner_frame_field (s : State) (die : Nat) (f : Runner → Runner) :
    (State.modRunner s die f).frame = s.frame := rfl
@[simp] theorem State.modRunner_sched (s : State) (die : Nat) (f : Runner → Runner) :
    (State.modRunner s die f).sched = s.sched := rfl
@[simp] theorem State.modRunner_qu (s : State) (die : Nat) (f : Runner → Runner) :
    (State.modRunner s die f).qu = s.qu := rfl
@[simp] theorem State.modRunner_podCut (s : State) (die : Nat) (f : Runner → Runner) :
    (State.modRunner s die f).podCut = s.podCut := rfl
@[simp] theorem State.modRunner_dump (s : State) (die : Nat) (f : Runner → Runner) :
    (State.modRunner s die f).dump = s.dump := rfl
@[simp] theorem State.modRunner_hang (s : State) (die : Nat) (f : Runner → Runner) :
    (State.modRunner s die f).hang = s.hang := rfl
@[simp] theorem State.modRunner_fm (s : State) (die : Nat) (f : Runner → Runner) :
    (State.modRunner s die f).fm = s.fm := rfl
@[simp] theorem State.modRunner_adm (s : State) (die : Nat) (f : Runner → Runner) :
    (State.modRunner s die f).adm = s.adm := rfl
@[simp] theorem State.modRunner_bar (s : State) (die : Nat) (f : Runner → Runner) :
    (State.modRunner s die f).bar = s.bar := rfl
@[simp] theorem State.modRunner_trace (s : State) (die : Nat) (f : Runner → Runner) :
    (State.modRunner s die f).trace = s.trace := rfl
@[simp] theorem State.modRunner_power (s : State) (die : Nat) (f : Runner → Runner) :
    (State.modRunner s die f).power = s.power := rfl
@[simp] theorem State.modRunner_rst (s : State) (die : Nat) (f : Runner → Runner) :
    (State.modRunner s die f).rst = s.rst := rfl
@[simp] theorem State.modRunner_backup (s : State) (die : Nat) (f : Runner → Runner) :
    (State.modRunner s die f).backup = s.backup := rfl
@[simp] theorem State.modRunner_flash (s : State) (die : Nat) (f : Runner → Runner) :
    (State.modRunner s die f).flash = s.flash := rfl
@[simp] theorem State.modRunner_logSeq (s : State) (die : Nat) (f : Runner → Runner) :
    (State.modRunner s die f).logSeq = s.logSeq := rfl
@[simp] theorem State.modRunner_imageIds (s : State) (die : Nat) (f : Runner → Runner) :
    (State.modRunner s die f).imageIds = s.imageIds := rfl
@[simp] theorem State.modRunner_eventSeqs (s : State) (die : Nat) (f : Runner → Runner) :
    (State.modRunner s die f).eventSeqs = s.eventSeqs := rfl
@[simp] theorem State.modRunner_log (s : State) (die : Nat) (f : Runner → Runner) :
    (State.modRunner s die f).log = s.log := rfl
@[simp] theorem State.modRunner_port (s : State) (die : Nat) (f : Runner → Runner) :
    (State.modRunner s die f).port = s.port := rfl
@[simp] theorem State.modRunner_fw (s : State) (die : Nat) (f : Runner → Runner) :
    (State.modRunner s die f).fw = s.fw := rfl
@[simp] theorem State.modRunner_lc (s : State) (die : Nat) (f : Runner → Runner) :
    (State.modRunner s die f).lc = s.lc := rfl
@[simp] theorem State.modRunner_pins (s : State) (die : Nat) (f : Runner → Runner) :
    (State.modRunner s die f).pins = s.pins := rfl
@[simp] theorem State.modRunner_dram (s : State) (die : Nat) (f : Runner → Runner) :
    (State.modRunner s die f).dram = s.dram := rfl

/-! ## State.modGroup -/

@[simp] theorem State.modGroup_pending (s : State) (g : Nat) (f : NetGroup → NetGroup) :
    (State.modGroup s g f).pending = s.pending := rfl
@[simp] theorem State.modGroup_elapsed (s : State) (g : Nat) (f : NetGroup → NetGroup) :
    (State.modGroup s g f).elapsed = s.elapsed := rfl
@[simp] theorem State.modGroup_emitted (s : State) (g : Nat) (f : NetGroup → NetGroup) :
    (State.modGroup s g f).emitted = s.emitted := rfl
@[simp] theorem State.modGroup_freeCount (s : State) (g : Nat) (f : NetGroup → NetGroup) :
    (State.modGroup s g f).freeCount = s.freeCount := rfl
@[simp] theorem State.modGroup_fuses (s : State) (g : Nat) (f : NetGroup → NetGroup) :
    (State.modGroup s g f).fuses = s.fuses := rfl
@[simp] theorem State.modGroup_topo (s : State) (g : Nat) (f : NetGroup → NetGroup) :
    (State.modGroup s g f).topo = s.topo := rfl
@[simp] theorem State.modGroup_hub (s : State) (g : Nat) (f : NetGroup → NetGroup) :
    (State.modGroup s g f).hub = s.hub := rfl
@[simp] theorem State.modGroup_tb (s : State) (g : Nat) (f : NetGroup → NetGroup) :
    (State.modGroup s g f).tb = s.tb := rfl
@[simp] theorem State.modGroup_wireA (s : State) (g : Nat) (f : NetGroup → NetGroup) :
    (State.modGroup s g f).wireA = s.wireA := rfl
@[simp] theorem State.modGroup_wireR (s : State) (g : Nat) (f : NetGroup → NetGroup) :
    (State.modGroup s g f).wireR = s.wireR := rfl
@[simp] theorem State.modGroup_pod (s : State) (g : Nat) (f : NetGroup → NetGroup) :
    (State.modGroup s g f).pod = s.pod := rfl
@[simp] theorem State.modGroup_frame_field (s : State) (g : Nat) (f : NetGroup → NetGroup) :
    (State.modGroup s g f).frame = s.frame := rfl
@[simp] theorem State.modGroup_sched (s : State) (g : Nat) (f : NetGroup → NetGroup) :
    (State.modGroup s g f).sched = s.sched := rfl
@[simp] theorem State.modGroup_qu (s : State) (g : Nat) (f : NetGroup → NetGroup) :
    (State.modGroup s g f).qu = s.qu := rfl
@[simp] theorem State.modGroup_podCut (s : State) (g : Nat) (f : NetGroup → NetGroup) :
    (State.modGroup s g f).podCut = s.podCut := rfl
@[simp] theorem State.modGroup_dump (s : State) (g : Nat) (f : NetGroup → NetGroup) :
    (State.modGroup s g f).dump = s.dump := rfl
@[simp] theorem State.modGroup_hang (s : State) (g : Nat) (f : NetGroup → NetGroup) :
    (State.modGroup s g f).hang = s.hang := rfl
@[simp] theorem State.modGroup_fm (s : State) (g : Nat) (f : NetGroup → NetGroup) :
    (State.modGroup s g f).fm = s.fm := rfl
@[simp] theorem State.modGroup_adm (s : State) (g : Nat) (f : NetGroup → NetGroup) :
    (State.modGroup s g f).adm = s.adm := rfl
@[simp] theorem State.modGroup_bar (s : State) (g : Nat) (f : NetGroup → NetGroup) :
    (State.modGroup s g f).bar = s.bar := rfl
@[simp] theorem State.modGroup_trace (s : State) (g : Nat) (f : NetGroup → NetGroup) :
    (State.modGroup s g f).trace = s.trace := rfl
@[simp] theorem State.modGroup_power (s : State) (g : Nat) (f : NetGroup → NetGroup) :
    (State.modGroup s g f).power = s.power := rfl
@[simp] theorem State.modGroup_rst (s : State) (g : Nat) (f : NetGroup → NetGroup) :
    (State.modGroup s g f).rst = s.rst := rfl
@[simp] theorem State.modGroup_backup (s : State) (g : Nat) (f : NetGroup → NetGroup) :
    (State.modGroup s g f).backup = s.backup := rfl
@[simp] theorem State.modGroup_flash (s : State) (g : Nat) (f : NetGroup → NetGroup) :
    (State.modGroup s g f).flash = s.flash := rfl
@[simp] theorem State.modGroup_logSeq (s : State) (g : Nat) (f : NetGroup → NetGroup) :
    (State.modGroup s g f).logSeq = s.logSeq := rfl
@[simp] theorem State.modGroup_imageIds (s : State) (g : Nat) (f : NetGroup → NetGroup) :
    (State.modGroup s g f).imageIds = s.imageIds := rfl
@[simp] theorem State.modGroup_eventSeqs (s : State) (g : Nat) (f : NetGroup → NetGroup) :
    (State.modGroup s g f).eventSeqs = s.eventSeqs := rfl
@[simp] theorem State.modGroup_log (s : State) (g : Nat) (f : NetGroup → NetGroup) :
    (State.modGroup s g f).log = s.log := rfl
@[simp] theorem State.modGroup_port (s : State) (g : Nat) (f : NetGroup → NetGroup) :
    (State.modGroup s g f).port = s.port := rfl
@[simp] theorem State.modGroup_fw (s : State) (g : Nat) (f : NetGroup → NetGroup) :
    (State.modGroup s g f).fw = s.fw := rfl
@[simp] theorem State.modGroup_lc (s : State) (g : Nat) (f : NetGroup → NetGroup) :
    (State.modGroup s g f).lc = s.lc := rfl
@[simp] theorem State.modGroup_pins (s : State) (g : Nat) (f : NetGroup → NetGroup) :
    (State.modGroup s g f).pins = s.pins := rfl
@[simp] theorem State.modGroup_dram (s : State) (g : Nat) (f : NetGroup → NetGroup) :
    (State.modGroup s g f).dram = s.dram := rfl

/-! ## State.modPort -/

@[simp] theorem State.modPort_pending (s : State) (p : Nat) (f : OptPort → OptPort) :
    (State.modPort s p f).pending = s.pending := rfl
@[simp] theorem State.modPort_elapsed (s : State) (p : Nat) (f : OptPort → OptPort) :
    (State.modPort s p f).elapsed = s.elapsed := rfl
@[simp] theorem State.modPort_emitted (s : State) (p : Nat) (f : OptPort → OptPort) :
    (State.modPort s p f).emitted = s.emitted := rfl
@[simp] theorem State.modPort_freeCount (s : State) (p : Nat) (f : OptPort → OptPort) :
    (State.modPort s p f).freeCount = s.freeCount := rfl
@[simp] theorem State.modPort_fuses (s : State) (p : Nat) (f : OptPort → OptPort) :
    (State.modPort s p f).fuses = s.fuses := rfl
@[simp] theorem State.modPort_topo (s : State) (p : Nat) (f : OptPort → OptPort) :
    (State.modPort s p f).topo = s.topo := rfl
@[simp] theorem State.modPort_hub (s : State) (p : Nat) (f : OptPort → OptPort) :
    (State.modPort s p f).hub = s.hub := rfl
@[simp] theorem State.modPort_tb (s : State) (p : Nat) (f : OptPort → OptPort) :
    (State.modPort s p f).tb = s.tb := rfl
@[simp] theorem State.modPort_wireA (s : State) (p : Nat) (f : OptPort → OptPort) :
    (State.modPort s p f).wireA = s.wireA := rfl
@[simp] theorem State.modPort_wireR (s : State) (p : Nat) (f : OptPort → OptPort) :
    (State.modPort s p f).wireR = s.wireR := rfl
@[simp] theorem State.modPort_pod (s : State) (p : Nat) (f : OptPort → OptPort) :
    (State.modPort s p f).pod = s.pod := rfl
@[simp] theorem State.modPort_frame_field (s : State) (p : Nat) (f : OptPort → OptPort) :
    (State.modPort s p f).frame = s.frame := rfl
@[simp] theorem State.modPort_sched (s : State) (p : Nat) (f : OptPort → OptPort) :
    (State.modPort s p f).sched = s.sched := rfl
@[simp] theorem State.modPort_qu (s : State) (p : Nat) (f : OptPort → OptPort) :
    (State.modPort s p f).qu = s.qu := rfl
@[simp] theorem State.modPort_podCut (s : State) (p : Nat) (f : OptPort → OptPort) :
    (State.modPort s p f).podCut = s.podCut := rfl
@[simp] theorem State.modPort_dump (s : State) (p : Nat) (f : OptPort → OptPort) :
    (State.modPort s p f).dump = s.dump := rfl
@[simp] theorem State.modPort_hang (s : State) (p : Nat) (f : OptPort → OptPort) :
    (State.modPort s p f).hang = s.hang := rfl
@[simp] theorem State.modPort_fm (s : State) (p : Nat) (f : OptPort → OptPort) :
    (State.modPort s p f).fm = s.fm := rfl
@[simp] theorem State.modPort_adm (s : State) (p : Nat) (f : OptPort → OptPort) :
    (State.modPort s p f).adm = s.adm := rfl
@[simp] theorem State.modPort_bar (s : State) (p : Nat) (f : OptPort → OptPort) :
    (State.modPort s p f).bar = s.bar := rfl
@[simp] theorem State.modPort_trace (s : State) (p : Nat) (f : OptPort → OptPort) :
    (State.modPort s p f).trace = s.trace := rfl
@[simp] theorem State.modPort_power (s : State) (p : Nat) (f : OptPort → OptPort) :
    (State.modPort s p f).power = s.power := rfl
@[simp] theorem State.modPort_rst (s : State) (p : Nat) (f : OptPort → OptPort) :
    (State.modPort s p f).rst = s.rst := rfl
@[simp] theorem State.modPort_backup (s : State) (p : Nat) (f : OptPort → OptPort) :
    (State.modPort s p f).backup = s.backup := rfl
@[simp] theorem State.modPort_flash (s : State) (p : Nat) (f : OptPort → OptPort) :
    (State.modPort s p f).flash = s.flash := rfl
@[simp] theorem State.modPort_logSeq (s : State) (p : Nat) (f : OptPort → OptPort) :
    (State.modPort s p f).logSeq = s.logSeq := rfl
@[simp] theorem State.modPort_imageIds (s : State) (p : Nat) (f : OptPort → OptPort) :
    (State.modPort s p f).imageIds = s.imageIds := rfl
@[simp] theorem State.modPort_eventSeqs (s : State) (p : Nat) (f : OptPort → OptPort) :
    (State.modPort s p f).eventSeqs = s.eventSeqs := rfl
@[simp] theorem State.modPort_log (s : State) (p : Nat) (f : OptPort → OptPort) :
    (State.modPort s p f).log = s.log := rfl
@[simp] theorem State.modPort_port (s : State) (p : Nat) (f : OptPort → OptPort) :
    (State.modPort s p f).port = s.port := rfl
@[simp] theorem State.modPort_fw (s : State) (p : Nat) (f : OptPort → OptPort) :
    (State.modPort s p f).fw = s.fw := rfl
@[simp] theorem State.modPort_lc (s : State) (p : Nat) (f : OptPort → OptPort) :
    (State.modPort s p f).lc = s.lc := rfl
@[simp] theorem State.modPort_pins (s : State) (p : Nat) (f : OptPort → OptPort) :
    (State.modPort s p f).pins = s.pins := rfl
@[simp] theorem State.modPort_dram (s : State) (p : Nat) (f : OptPort → OptPort) :
    (State.modPort s p f).dram = s.dram := rfl

/-! ## State.modReplica -/

@[simp] theorem State.modReplica_pending (s : State) (uid : Nat) (f : Replica → Replica) :
    (State.modReplica s uid f).pending = s.pending := rfl
@[simp] theorem State.modReplica_elapsed (s : State) (uid : Nat) (f : Replica → Replica) :
    (State.modReplica s uid f).elapsed = s.elapsed := rfl
@[simp] theorem State.modReplica_emitted (s : State) (uid : Nat) (f : Replica → Replica) :
    (State.modReplica s uid f).emitted = s.emitted := rfl
@[simp] theorem State.modReplica_freeCount (s : State) (uid : Nat) (f : Replica → Replica) :
    (State.modReplica s uid f).freeCount = s.freeCount := rfl
@[simp] theorem State.modReplica_fuses (s : State) (uid : Nat) (f : Replica → Replica) :
    (State.modReplica s uid f).fuses = s.fuses := rfl
@[simp] theorem State.modReplica_topo (s : State) (uid : Nat) (f : Replica → Replica) :
    (State.modReplica s uid f).topo = s.topo := rfl
@[simp] theorem State.modReplica_hub (s : State) (uid : Nat) (f : Replica → Replica) :
    (State.modReplica s uid f).hub = s.hub := rfl
@[simp] theorem State.modReplica_tb (s : State) (uid : Nat) (f : Replica → Replica) :
    (State.modReplica s uid f).tb = s.tb := rfl
@[simp] theorem State.modReplica_wireA (s : State) (uid : Nat) (f : Replica → Replica) :
    (State.modReplica s uid f).wireA = s.wireA := rfl
@[simp] theorem State.modReplica_wireR (s : State) (uid : Nat) (f : Replica → Replica) :
    (State.modReplica s uid f).wireR = s.wireR := rfl
@[simp] theorem State.modReplica_pod (s : State) (uid : Nat) (f : Replica → Replica) :
    (State.modReplica s uid f).pod = s.pod := rfl
@[simp] theorem State.modReplica_frame_field (s : State) (uid : Nat) (f : Replica → Replica) :
    (State.modReplica s uid f).frame = s.frame := rfl
@[simp] theorem State.modReplica_sched (s : State) (uid : Nat) (f : Replica → Replica) :
    (State.modReplica s uid f).sched = s.sched := rfl
@[simp] theorem State.modReplica_qu (s : State) (uid : Nat) (f : Replica → Replica) :
    (State.modReplica s uid f).qu = s.qu := rfl
@[simp] theorem State.modReplica_podCut (s : State) (uid : Nat) (f : Replica → Replica) :
    (State.modReplica s uid f).podCut = s.podCut := rfl
@[simp] theorem State.modReplica_dump (s : State) (uid : Nat) (f : Replica → Replica) :
    (State.modReplica s uid f).dump = s.dump := rfl
@[simp] theorem State.modReplica_hang (s : State) (uid : Nat) (f : Replica → Replica) :
    (State.modReplica s uid f).hang = s.hang := rfl
@[simp] theorem State.modReplica_fm (s : State) (uid : Nat) (f : Replica → Replica) :
    (State.modReplica s uid f).fm = s.fm := rfl
@[simp] theorem State.modReplica_adm (s : State) (uid : Nat) (f : Replica → Replica) :
    (State.modReplica s uid f).adm = s.adm := rfl
@[simp] theorem State.modReplica_bar (s : State) (uid : Nat) (f : Replica → Replica) :
    (State.modReplica s uid f).bar = s.bar := rfl
@[simp] theorem State.modReplica_trace (s : State) (uid : Nat) (f : Replica → Replica) :
    (State.modReplica s uid f).trace = s.trace := rfl
@[simp] theorem State.modReplica_power (s : State) (uid : Nat) (f : Replica → Replica) :
    (State.modReplica s uid f).power = s.power := rfl
@[simp] theorem State.modReplica_rst (s : State) (uid : Nat) (f : Replica → Replica) :
    (State.modReplica s uid f).rst = s.rst := rfl
@[simp] theorem State.modReplica_backup (s : State) (uid : Nat) (f : Replica → Replica) :
    (State.modReplica s uid f).backup = s.backup := rfl
@[simp] theorem State.modReplica_flash (s : State) (uid : Nat) (f : Replica → Replica) :
    (State.modReplica s uid f).flash = s.flash := rfl
@[simp] theorem State.modReplica_logSeq (s : State) (uid : Nat) (f : Replica → Replica) :
    (State.modReplica s uid f).logSeq = s.logSeq := rfl
@[simp] theorem State.modReplica_imageIds (s : State) (uid : Nat) (f : Replica → Replica) :
    (State.modReplica s uid f).imageIds = s.imageIds := rfl
@[simp] theorem State.modReplica_eventSeqs (s : State) (uid : Nat) (f : Replica → Replica) :
    (State.modReplica s uid f).eventSeqs = s.eventSeqs := rfl
@[simp] theorem State.modReplica_log (s : State) (uid : Nat) (f : Replica → Replica) :
    (State.modReplica s uid f).log = s.log := rfl
@[simp] theorem State.modReplica_port (s : State) (uid : Nat) (f : Replica → Replica) :
    (State.modReplica s uid f).port = s.port := rfl
@[simp] theorem State.modReplica_fw (s : State) (uid : Nat) (f : Replica → Replica) :
    (State.modReplica s uid f).fw = s.fw := rfl
@[simp] theorem State.modReplica_lc (s : State) (uid : Nat) (f : Replica → Replica) :
    (State.modReplica s uid f).lc = s.lc := rfl
@[simp] theorem State.modReplica_pins (s : State) (uid : Nat) (f : Replica → Replica) :
    (State.modReplica s uid f).pins = s.pins := rfl
@[simp] theorem State.modReplica_dram (s : State) (uid : Nat) (f : Replica → Replica) :
    (State.modReplica s uid f).dram = s.dram := rfl

/-! ## State.modDie -/

@[simp] theorem State.modDie_pending (s : State) (die : Nat) (f : DieSensors → DieSensors) :
    (State.modDie s die f).pending = s.pending := rfl
@[simp] theorem State.modDie_elapsed (s : State) (die : Nat) (f : DieSensors → DieSensors) :
    (State.modDie s die f).elapsed = s.elapsed := rfl
@[simp] theorem State.modDie_emitted (s : State) (die : Nat) (f : DieSensors → DieSensors) :
    (State.modDie s die f).emitted = s.emitted := rfl
@[simp] theorem State.modDie_freeCount (s : State) (die : Nat) (f : DieSensors → DieSensors) :
    (State.modDie s die f).freeCount = s.freeCount := rfl
@[simp] theorem State.modDie_fuses (s : State) (die : Nat) (f : DieSensors → DieSensors) :
    (State.modDie s die f).fuses = s.fuses := rfl
@[simp] theorem State.modDie_topo (s : State) (die : Nat) (f : DieSensors → DieSensors) :
    (State.modDie s die f).topo = s.topo := rfl
@[simp] theorem State.modDie_hub (s : State) (die : Nat) (f : DieSensors → DieSensors) :
    (State.modDie s die f).hub = s.hub := rfl
@[simp] theorem State.modDie_tb (s : State) (die : Nat) (f : DieSensors → DieSensors) :
    (State.modDie s die f).tb = s.tb := rfl
@[simp] theorem State.modDie_wireA (s : State) (die : Nat) (f : DieSensors → DieSensors) :
    (State.modDie s die f).wireA = s.wireA := rfl
@[simp] theorem State.modDie_wireR (s : State) (die : Nat) (f : DieSensors → DieSensors) :
    (State.modDie s die f).wireR = s.wireR := rfl
@[simp] theorem State.modDie_pod (s : State) (die : Nat) (f : DieSensors → DieSensors) :
    (State.modDie s die f).pod = s.pod := rfl
@[simp] theorem State.modDie_frame_field (s : State) (die : Nat) (f : DieSensors → DieSensors) :
    (State.modDie s die f).frame = s.frame := rfl
@[simp] theorem State.modDie_sched (s : State) (die : Nat) (f : DieSensors → DieSensors) :
    (State.modDie s die f).sched = s.sched := rfl
@[simp] theorem State.modDie_units (s : State) (die : Nat) (f : DieSensors → DieSensors) :
    (State.modDie s die f).units = s.units := rfl
@[simp] theorem State.modDie_qu (s : State) (die : Nat) (f : DieSensors → DieSensors) :
    (State.modDie s die f).qu = s.qu := rfl
@[simp] theorem State.modDie_podCut (s : State) (die : Nat) (f : DieSensors → DieSensors) :
    (State.modDie s die f).podCut = s.podCut := rfl
@[simp] theorem State.modDie_dump (s : State) (die : Nat) (f : DieSensors → DieSensors) :
    (State.modDie s die f).dump = s.dump := rfl
@[simp] theorem State.modDie_hang (s : State) (die : Nat) (f : DieSensors → DieSensors) :
    (State.modDie s die f).hang = s.hang := rfl
@[simp] theorem State.modDie_fm (s : State) (die : Nat) (f : DieSensors → DieSensors) :
    (State.modDie s die f).fm = s.fm := rfl
@[simp] theorem State.modDie_adm (s : State) (die : Nat) (f : DieSensors → DieSensors) :
    (State.modDie s die f).adm = s.adm := rfl
@[simp] theorem State.modDie_bar (s : State) (die : Nat) (f : DieSensors → DieSensors) :
    (State.modDie s die f).bar = s.bar := rfl
@[simp] theorem State.modDie_trace (s : State) (die : Nat) (f : DieSensors → DieSensors) :
    (State.modDie s die f).trace = s.trace := rfl
@[simp] theorem State.modDie_rst (s : State) (die : Nat) (f : DieSensors → DieSensors) :
    (State.modDie s die f).rst = s.rst := rfl
@[simp] theorem State.modDie_backup (s : State) (die : Nat) (f : DieSensors → DieSensors) :
    (State.modDie s die f).backup = s.backup := rfl
@[simp] theorem State.modDie_flash (s : State) (die : Nat) (f : DieSensors → DieSensors) :
    (State.modDie s die f).flash = s.flash := rfl
@[simp] theorem State.modDie_logSeq (s : State) (die : Nat) (f : DieSensors → DieSensors) :
    (State.modDie s die f).logSeq = s.logSeq := rfl
@[simp] theorem State.modDie_imageIds (s : State) (die : Nat) (f : DieSensors → DieSensors) :
    (State.modDie s die f).imageIds = s.imageIds := rfl
@[simp] theorem State.modDie_eventSeqs (s : State) (die : Nat) (f : DieSensors → DieSensors) :
    (State.modDie s die f).eventSeqs = s.eventSeqs := rfl
@[simp] theorem State.modDie_log (s : State) (die : Nat) (f : DieSensors → DieSensors) :
    (State.modDie s die f).log = s.log := rfl
@[simp] theorem State.modDie_port (s : State) (die : Nat) (f : DieSensors → DieSensors) :
    (State.modDie s die f).port = s.port := rfl
@[simp] theorem State.modDie_fw (s : State) (die : Nat) (f : DieSensors → DieSensors) :
    (State.modDie s die f).fw = s.fw := rfl
@[simp] theorem State.modDie_lc (s : State) (die : Nat) (f : DieSensors → DieSensors) :
    (State.modDie s die f).lc = s.lc := rfl
@[simp] theorem State.modDie_pins (s : State) (die : Nat) (f : DieSensors → DieSensors) :
    (State.modDie s die f).pins = s.pins := rfl
@[simp] theorem State.modDie_dram (s : State) (die : Nat) (f : DieSensors → DieSensors) :
    (State.modDie s die f).dram = s.dram := rfl

/-! ## State.modProc -/

@[simp] theorem State.modProc_pending (s : State) (f : Procedure → Procedure) :
    (State.modProc s f).pending = s.pending := rfl
@[simp] theorem State.modProc_elapsed (s : State) (f : Procedure → Procedure) :
    (State.modProc s f).elapsed = s.elapsed := rfl
@[simp] theorem State.modProc_emitted (s : State) (f : Procedure → Procedure) :
    (State.modProc s f).emitted = s.emitted := rfl
@[simp] theorem State.modProc_freeCount (s : State) (f : Procedure → Procedure) :
    (State.modProc s f).freeCount = s.freeCount := rfl
@[simp] theorem State.modProc_fuses (s : State) (f : Procedure → Procedure) :
    (State.modProc s f).fuses = s.fuses := rfl
@[simp] theorem State.modProc_topo (s : State) (f : Procedure → Procedure) :
    (State.modProc s f).topo = s.topo := rfl
@[simp] theorem State.modProc_hub (s : State) (f : Procedure → Procedure) :
    (State.modProc s f).hub = s.hub := rfl
@[simp] theorem State.modProc_tb (s : State) (f : Procedure → Procedure) :
    (State.modProc s f).tb = s.tb := rfl
@[simp] theorem State.modProc_wireA (s : State) (f : Procedure → Procedure) :
    (State.modProc s f).wireA = s.wireA := rfl
@[simp] theorem State.modProc_wireR (s : State) (f : Procedure → Procedure) :
    (State.modProc s f).wireR = s.wireR := rfl
@[simp] theorem State.modProc_pod (s : State) (f : Procedure → Procedure) :
    (State.modProc s f).pod = s.pod := rfl
@[simp] theorem State.modProc_frame_field (s : State) (f : Procedure → Procedure) :
    (State.modProc s f).frame = s.frame := rfl
@[simp] theorem State.modProc_sched (s : State) (f : Procedure → Procedure) :
    (State.modProc s f).sched = s.sched := rfl
@[simp] theorem State.modProc_units (s : State) (f : Procedure → Procedure) :
    (State.modProc s f).units = s.units := rfl
@[simp] theorem State.modProc_qu (s : State) (f : Procedure → Procedure) :
    (State.modProc s f).qu = s.qu := rfl
@[simp] theorem State.modProc_podCut (s : State) (f : Procedure → Procedure) :
    (State.modProc s f).podCut = s.podCut := rfl
@[simp] theorem State.modProc_dump (s : State) (f : Procedure → Procedure) :
    (State.modProc s f).dump = s.dump := rfl
@[simp] theorem State.modProc_fm (s : State) (f : Procedure → Procedure) :
    (State.modProc s f).fm = s.fm := rfl
@[simp] theorem State.modProc_adm (s : State) (f : Procedure → Procedure) :
    (State.modProc s f).adm = s.adm := rfl
@[simp] theorem State.modProc_bar (s : State) (f : Procedure → Procedure) :
    (State.modProc s f).bar = s.bar := rfl
@[simp] theorem State.modProc_trace (s : State) (f : Procedure → Procedure) :
    (State.modProc s f).trace = s.trace := rfl
@[simp] theorem State.modProc_power (s : State) (f : Procedure → Procedure) :
    (State.modProc s f).power = s.power := rfl
@[simp] theorem State.modProc_rst (s : State) (f : Procedure → Procedure) :
    (State.modProc s f).rst = s.rst := rfl
@[simp] theorem State.modProc_backup (s : State) (f : Procedure → Procedure) :
    (State.modProc s f).backup = s.backup := rfl
@[simp] theorem State.modProc_flash (s : State) (f : Procedure → Procedure) :
    (State.modProc s f).flash = s.flash := rfl
@[simp] theorem State.modProc_logSeq (s : State) (f : Procedure → Procedure) :
    (State.modProc s f).logSeq = s.logSeq := rfl
@[simp] theorem State.modProc_imageIds (s : State) (f : Procedure → Procedure) :
    (State.modProc s f).imageIds = s.imageIds := rfl
@[simp] theorem State.modProc_eventSeqs (s : State) (f : Procedure → Procedure) :
    (State.modProc s f).eventSeqs = s.eventSeqs := rfl
@[simp] theorem State.modProc_log (s : State) (f : Procedure → Procedure) :
    (State.modProc s f).log = s.log := rfl
@[simp] theorem State.modProc_port (s : State) (f : Procedure → Procedure) :
    (State.modProc s f).port = s.port := rfl
@[simp] theorem State.modProc_fw (s : State) (f : Procedure → Procedure) :
    (State.modProc s f).fw = s.fw := rfl
@[simp] theorem State.modProc_lc (s : State) (f : Procedure → Procedure) :
    (State.modProc s f).lc = s.lc := rfl
@[simp] theorem State.modProc_pins (s : State) (f : Procedure → Procedure) :
    (State.modProc s f).pins = s.pins := rfl
@[simp] theorem State.modProc_dram (s : State) (f : Procedure → Procedure) :
    (State.modProc s f).dram = s.dram := rfl

/-! ## State.modRst -/

@[simp] theorem State.modRst_pending (s : State) (f : Reset → Reset) :
    (State.modRst s f).pending = s.pending := rfl
@[simp] theorem State.modRst_elapsed (s : State) (f : Reset → Reset) :
    (State.modRst s f).elapsed = s.elapsed := rfl
@[simp] theorem State.modRst_emitted (s : State) (f : Reset → Reset) :
    (State.modRst s f).emitted = s.emitted := rfl
@[simp] theorem State.modRst_freeCount (s : State) (f : Reset → Reset) :
    (State.modRst s f).freeCount = s.freeCount := rfl
@[simp] theorem State.modRst_fuses (s : State) (f : Reset → Reset) :
    (State.modRst s f).fuses = s.fuses := rfl
@[simp] theorem State.modRst_topo (s : State) (f : Reset → Reset) :
    (State.modRst s f).topo = s.topo := rfl
@[simp] theorem State.modRst_hub (s : State) (f : Reset → Reset) :
    (State.modRst s f).hub = s.hub := rfl
@[simp] theorem State.modRst_tb (s : State) (f : Reset → Reset) :
    (State.modRst s f).tb = s.tb := rfl
@[simp] theorem State.modRst_wireA (s : State) (f : Reset → Reset) :
    (State.modRst s f).wireA = s.wireA := rfl
@[simp] theorem State.modRst_wireR (s : State) (f : Reset → Reset) :
    (State.modRst s f).wireR = s.wireR := rfl
@[simp] theorem State.modRst_pod (s : State) (f : Reset → Reset) :
    (State.modRst s f).pod = s.pod := rfl
@[simp] theorem State.modRst_frame_field (s : State) (f : Reset → Reset) :
    (State.modRst s f).frame = s.frame := rfl
@[simp] theorem State.modRst_sched (s : State) (f : Reset → Reset) :
    (State.modRst s f).sched = s.sched := rfl
@[simp] theorem State.modRst_units (s : State) (f : Reset → Reset) :
    (State.modRst s f).units = s.units := rfl
@[simp] theorem State.modRst_qu (s : State) (f : Reset → Reset) :
    (State.modRst s f).qu = s.qu := rfl
@[simp] theorem State.modRst_podCut (s : State) (f : Reset → Reset) :
    (State.modRst s f).podCut = s.podCut := rfl
@[simp] theorem State.modRst_dump (s : State) (f : Reset → Reset) :
    (State.modRst s f).dump = s.dump := rfl
@[simp] theorem State.modRst_hang (s : State) (f : Reset → Reset) :
    (State.modRst s f).hang = s.hang := rfl
@[simp] theorem State.modRst_fm (s : State) (f : Reset → Reset) :
    (State.modRst s f).fm = s.fm := rfl
@[simp] theorem State.modRst_adm (s : State) (f : Reset → Reset) :
    (State.modRst s f).adm = s.adm := rfl
@[simp] theorem State.modRst_bar (s : State) (f : Reset → Reset) :
    (State.modRst s f).bar = s.bar := rfl
@[simp] theorem State.modRst_trace (s : State) (f : Reset → Reset) :
    (State.modRst s f).trace = s.trace := rfl
@[simp] theorem State.modRst_power (s : State) (f : Reset → Reset) :
    (State.modRst s f).power = s.power := rfl
@[simp] theorem State.modRst_backup (s : State) (f : Reset → Reset) :
    (State.modRst s f).backup = s.backup := rfl
@[simp] theorem State.modRst_flash (s : State) (f : Reset → Reset) :
    (State.modRst s f).flash = s.flash := rfl
@[simp] theorem State.modRst_logSeq (s : State) (f : Reset → Reset) :
    (State.modRst s f).logSeq = s.logSeq := rfl
@[simp] theorem State.modRst_imageIds (s : State) (f : Reset → Reset) :
    (State.modRst s f).imageIds = s.imageIds := rfl
@[simp] theorem State.modRst_eventSeqs (s : State) (f : Reset → Reset) :
    (State.modRst s f).eventSeqs = s.eventSeqs := rfl
@[simp] theorem State.modRst_log (s : State) (f : Reset → Reset) :
    (State.modRst s f).log = s.log := rfl
@[simp] theorem State.modRst_port (s : State) (f : Reset → Reset) :
    (State.modRst s f).port = s.port := rfl
@[simp] theorem State.modRst_fw (s : State) (f : Reset → Reset) :
    (State.modRst s f).fw = s.fw := rfl
@[simp] theorem State.modRst_lc (s : State) (f : Reset → Reset) :
    (State.modRst s f).lc = s.lc := rfl
@[simp] theorem State.modRst_pins (s : State) (f : Reset → Reset) :
    (State.modRst s f).pins = s.pins := rfl
@[simp] theorem State.modRst_dram (s : State) (f : Reset → Reset) :
    (State.modRst s f).dram = s.dram := rfl

/-! ## State.putCast -/

@[simp] theorem State.putCast_pending (s : State) (o : OpenCast) :
    (State.putCast s o).pending = s.pending := rfl
@[simp] theorem State.putCast_elapsed (s : State) (o : OpenCast) :
    (State.putCast s o).elapsed = s.elapsed := rfl
@[simp] theorem State.putCast_emitted (s : State) (o : OpenCast) :
    (State.putCast s o).emitted = s.emitted := rfl
@[simp] theorem State.putCast_freeCount (s : State) (o : OpenCast) :
    (State.putCast s o).freeCount = s.freeCount := rfl
@[simp] theorem State.putCast_fuses (s : State) (o : OpenCast) :
    (State.putCast s o).fuses = s.fuses := rfl
@[simp] theorem State.putCast_topo (s : State) (o : OpenCast) :
    (State.putCast s o).topo = s.topo := rfl
@[simp] theorem State.putCast_hub (s : State) (o : OpenCast) :
    (State.putCast s o).hub = s.hub := rfl
@[simp] theorem State.putCast_tb (s : State) (o : OpenCast) :
    (State.putCast s o).tb = s.tb := rfl
@[simp] theorem State.putCast_wireA (s : State) (o : OpenCast) :
    (State.putCast s o).wireA = s.wireA := rfl
@[simp] theorem State.putCast_wireR (s : State) (o : OpenCast) :
    (State.putCast s o).wireR = s.wireR := rfl
@[simp] theorem State.putCast_pod (s : State) (o : OpenCast) :
    (State.putCast s o).pod = s.pod := rfl
@[simp] theorem State.putCast_frame_field (s : State) (o : OpenCast) :
    (State.putCast s o).frame = s.frame := rfl
@[simp] theorem State.putCast_sched (s : State) (o : OpenCast) :
    (State.putCast s o).sched = s.sched := rfl
@[simp] theorem State.putCast_units (s : State) (o : OpenCast) :
    (State.putCast s o).units = s.units := rfl
@[simp] theorem State.putCast_podCut (s : State) (o : OpenCast) :
    (State.putCast s o).podCut = s.podCut := rfl
@[simp] theorem State.putCast_dump (s : State) (o : OpenCast) :
    (State.putCast s o).dump = s.dump := rfl
@[simp] theorem State.putCast_hang (s : State) (o : OpenCast) :
    (State.putCast s o).hang = s.hang := rfl
@[simp] theorem State.putCast_fm (s : State) (o : OpenCast) :
    (State.putCast s o).fm = s.fm := rfl
@[simp] theorem State.putCast_adm (s : State) (o : OpenCast) :
    (State.putCast s o).adm = s.adm := rfl
@[simp] theorem State.putCast_bar (s : State) (o : OpenCast) :
    (State.putCast s o).bar = s.bar := rfl
@[simp] theorem State.putCast_trace (s : State) (o : OpenCast) :
    (State.putCast s o).trace = s.trace := rfl
@[simp] theorem State.putCast_power (s : State) (o : OpenCast) :
    (State.putCast s o).power = s.power := rfl
@[simp] theorem State.putCast_rst (s : State) (o : OpenCast) :
    (State.putCast s o).rst = s.rst := rfl
@[simp] theorem State.putCast_backup (s : State) (o : OpenCast) :
    (State.putCast s o).backup = s.backup := rfl
@[simp] theorem State.putCast_flash (s : State) (o : OpenCast) :
    (State.putCast s o).flash = s.flash := rfl
@[simp] theorem State.putCast_logSeq (s : State) (o : OpenCast) :
    (State.putCast s o).logSeq = s.logSeq := rfl
@[simp] theorem State.putCast_imageIds (s : State) (o : OpenCast) :
    (State.putCast s o).imageIds = s.imageIds := rfl
@[simp] theorem State.putCast_eventSeqs (s : State) (o : OpenCast) :
    (State.putCast s o).eventSeqs = s.eventSeqs := rfl
@[simp] theorem State.putCast_log (s : State) (o : OpenCast) :
    (State.putCast s o).log = s.log := rfl
@[simp] theorem State.putCast_port (s : State) (o : OpenCast) :
    (State.putCast s o).port = s.port := rfl
@[simp] theorem State.putCast_fw (s : State) (o : OpenCast) :
    (State.putCast s o).fw = s.fw := rfl
@[simp] theorem State.putCast_lc (s : State) (o : OpenCast) :
    (State.putCast s o).lc = s.lc := rfl
@[simp] theorem State.putCast_pins (s : State) (o : OpenCast) :
    (State.putCast s o).pins = s.pins := rfl
@[simp] theorem State.putCast_dram (s : State) (o : OpenCast) :
    (State.putCast s o).dram = s.dram := rfl

/-! ## What the updates set -/

@[simp] theorem State.begin_elapsed (s : State) (dt : Nat) : (s.begin dt).elapsed = s.elapsed + dt := rfl
@[simp] theorem State.begin_emitted (s : State) (dt : Nat) : (s.begin dt).emitted = [] := rfl
@[simp] theorem State.drawn_freeCount (s : State) : s.drawn.freeCount = s.freeCount + 1 := rfl
@[simp] theorem State.emit_emitted (s : State) (kind : EmitKind) (dest : Nat) (data : List Byte) :
    (s.emit kind dest data).emitted = s.emitted ++ [⟨kind, dest, data⟩] := rfl
@[simp] theorem State.modRst_rst (s : State) (f : Reset → Reset) : (s.modRst f).rst = f s.rst := rfl

end Sys2Proof.Machine
end

