-- ==== Sys2Proof/Laws/Tables.lean ====
section
/-!
SUPPORT. Laws of the sparse tables and of the stacked memory: what a read gives after a change, and
that every change keeps the canonical form.
-/
namespace Sys2Proof.Machine

/-! ## Keys -/

theorem Tab.sortedFrom_mono {α : Type} {lo k : Nat} (t : Tab α) (h : lo ≤ k) (hs : Tab.sortedFrom k t = true) :
    Tab.sortedFrom lo t = true := by
  cases t with
  | nil => rfl
  | cons c t =>
    simp only [Tab.sortedFrom, Bool.and_eq_true, decide_eq_true_eq] at hs ⊢
    exact ⟨by omega, hs.2⟩

theorem Tab.find_eq_none_of_sortedFrom {α : Type} (t : Tab α) {lo k : Nat} (hs : Tab.sortedFrom lo t = true)
    (h : k < lo) : Tab.find t k = none := by
  induction t generalizing lo with
  | nil => rfl
  | cons c t ih =>
    simp only [Tab.sortedFrom, Bool.and_eq_true, decide_eq_true_eq] at hs
    simp only [Tab.find]
    rw [if_neg (by omega)]
    exact ih hs.2 (by omega)

/-! ## put -/

@[simp] theorem Tab.find_put_self {α : Type} (t : Tab α) (k : Nat) (v : α) : Tab.find (Tab.put t k v) k = some v := by
  induction t with
  | nil => simp [Tab.put, Tab.find]
  | cons c t ih =>
    simp only [Tab.put]
    split
    · simp [Tab.find]
    · split
      · simp [Tab.find]
      · simp only [Tab.find]
        rw [if_neg (by omega)]
        exact ih

theorem Tab.find_put_ne {α : Type} (t : Tab α) {k j : Nat} (v : α) (h : j ≠ k) :
    Tab.find (Tab.put t k v) j = Tab.find t j := by
  induction t with
  | nil => simp [Tab.put, Tab.find, Ne.symm h]
  | cons c t ih =>
    simp only [Tab.put]
    split
    · simp [Tab.find, Ne.symm h]
    · split
      · simp only [Tab.find]
        rw [if_neg (Ne.symm h), if_neg (by omega)]
      · simp only [Tab.find, ih]

theorem Tab.sortedFrom_put {α : Type} (t : Tab α) {lo k : Nat} (v : α) (hk : lo ≤ k) (hs : Tab.sortedFrom lo t = true) :
    Tab.sortedFrom lo (Tab.put t k v) = true := by
  induction t generalizing lo with
  | nil => simp [Tab.put, Tab.sortedFrom, hk]
  | cons c t ih =>
    simp only [Tab.sortedFrom, Bool.and_eq_true, decide_eq_true_eq] at hs
    simp only [Tab.put]
    split
    · simp only [Tab.sortedFrom, Bool.and_eq_true, decide_eq_true_eq]
      exact ⟨hk, by omega, hs.2⟩
    · split
      · next h => subst h; simp [Tab.sortedFrom, hk, hs.2]
      · simp only [Tab.sortedFrom, Bool.and_eq_true, decide_eq_true_eq]
        exact ⟨hs.1, ih (by omega) hs.2⟩

/-! ## del -/

theorem Tab.find_del_self {α : Type} (t : Tab α) {lo : Nat} (k : Nat) (hs : Tab.sortedFrom lo t = true) :
    Tab.find (Tab.del t k) k = none := by
  induction t generalizing lo with
  | nil => rfl
  | cons c t ih =>
    simp only [Tab.sortedFrom, Bool.and_eq_true, decide_eq_true_eq] at hs
    simp only [Tab.del]
    split
    · next h => exact Tab.find_eq_none_of_sortedFrom t hs.2 (by omega)
    · next h => simp only [Tab.find]; rw [if_neg h]; exact ih hs.2

theorem Tab.find_del_ne {α : Type} (t : Tab α) {k j : Nat} (h : j ≠ k) :
    Tab.find (Tab.del t k) j = Tab.find t j := by
  induction t with
  | nil => rfl
  | cons c t ih =>
    simp only [Tab.del]
    split
    · next hc => simp only [Tab.find]; rw [if_neg (by omega)]
    · simp only [Tab.find, ih]

theorem Tab.sortedFrom_del {α : Type} (t : Tab α) {lo : Nat} (k : Nat) (hs : Tab.sortedFrom lo t = true) :
    Tab.sortedFrom lo (Tab.del t k) = true := by
  induction t generalizing lo with
  | nil => rfl
  | cons c t ih =>
    simp only [Tab.sortedFrom, Bool.and_eq_true, decide_eq_true_eq] at hs
    simp only [Tab.del]
    split
    · exact Tab.sortedFrom_mono t (by omega) hs.2
    · simp only [Tab.sortedFrom, Bool.and_eq_true, decide_eq_true_eq]
      exact ⟨hs.1, ih hs.2⟩

/-! ## set and mod -/

theorem Tab.at_set_self {α : Type} [DecidableEq α] (t : Tab α) {lo : Nat} (k : Nat) (d v : α)
    (hs : Tab.sortedFrom lo t = true) : Tab.at (Tab.set t k d v) k d = v := by
  unfold Tab.set Tab.at
  split
  · next h => rw [Tab.find_del_self t k hs, h]; rfl
  · rw [Tab.find_put_self]; rfl

theorem Tab.at_set_ne {α : Type} [DecidableEq α] (t : Tab α) {k j : Nat} (d e v : α) (h : j ≠ k) :
    Tab.at (Tab.set t k d v) j e = Tab.at t j e := by
  unfold Tab.set Tab.at
  split
  · rw [Tab.find_del_ne t h]
  · rw [Tab.find_put_ne t v h]

theorem Tab.sortedFrom_set {α : Type} [DecidableEq α] (t : Tab α) {lo k : Nat} (d v : α) (hk : lo ≤ k)
    (hs : Tab.sortedFrom lo t = true) : Tab.sortedFrom lo (Tab.set t k d v) = true := by
  unfold Tab.set
  split
  · exact Tab.sortedFrom_del t k hs
  · exact Tab.sortedFrom_put t v hk hs

theorem Tab.at_mod_self {α : Type} [DecidableEq α] (t : Tab α) {lo : Nat} (k : Nat) (d : α) (f : α → α)
    (hs : Tab.sortedFrom lo t = true) : Tab.at (Tab.mod t k d f) k d = f (Tab.at t k d) :=
  Tab.at_set_self t k d _ hs

theorem Tab.at_mod_ne {α : Type} [DecidableEq α] (t : Tab α) {k j : Nat} (d e : α) (f : α → α) (h : j ≠ k) :
    Tab.at (Tab.mod t k d f) j e = Tab.at t j e := Tab.at_set_ne t d e _ h

/-! ## filter -/

theorem Tab.sortedFrom_filter {α : Type} (t : Tab α) {lo : Nat} (p : Nat × α → Bool)
    (hs : Tab.sortedFrom lo t = true) : Tab.sortedFrom lo (t.filter p) = true := by
  induction t generalizing lo with
  | nil => rfl
  | cons c t ih =>
    simp only [Tab.sortedFrom, Bool.and_eq_true, decide_eq_true_eq] at hs
    rw [List.filter_cons]
    split
    · simp only [Tab.sortedFrom, Bool.and_eq_true, decide_eq_true_eq]
      exact ⟨hs.1, ih hs.2⟩
    · exact Tab.sortedFrom_mono _ (by omega) (ih hs.2)

/-! ## The stacked memory (R526) -/

theorem Mem.mem_put {m : Mem} {a : Nat} {b : Byte} {c : Nat × Byte} (h : c ∈ Tab.put m a b) : c ∈ m ∨ c = (a, b) := by
  induction m with
  | nil => simp [Tab.put] at h; exact .inr h
  | cons x t ih =>
    simp only [Tab.put] at h
    split at h
    · simp only [List.mem_cons] at h ⊢; tauto
    · split at h
      · simp only [List.mem_cons] at h ⊢; tauto
      · simp only [List.mem_cons] at h ⊢
        rcases h with h | h
        · exact .inl (.inl h)
        · rcases ih h with h | h
          · exact .inl (.inr h)
          · exact .inr h

theorem Mem.mem_del {m : Mem} {a : Nat} {c : Nat × Byte} (h : c ∈ Tab.del m a) : c ∈ m := by
  induction m with
  | nil => exact h
  | cons x t ih =>
    simp only [Tab.del] at h
    split at h
    · exact List.mem_cons_of_mem _ h
    · simp only [List.mem_cons] at h ⊢
      exact h.imp id ih

/-- Writing one octet keeps the canonical form. -/
theorem Mem.wf_write {m : Mem} (h : Mem.wf m) (a : Nat) (b : Byte) : Mem.wf (Mem.write m a b) := by
  refine ⟨Tab.sortedFrom_set m 0 b (Nat.zero_le _) h.1, ?_⟩
  intro c hc
  unfold Mem.write Tab.set at hc
  split at hc
  · exact h.2 c (Mem.mem_del hc)
  · next hb =>
    rcases Mem.mem_put hc with hc | hc
    · exact h.2 c hc
    · rw [hc]; exact hb

/-- Writing octets keeps the canonical form. -/
theorem Mem.wf_writeBytes {m : Mem} (h : Mem.wf m) (a : Nat) (l : List Byte) : Mem.wf (Mem.writeBytes m a l) := by
  induction l generalizing m a with
  | nil => exact h
  | cons b l ih => exact ih (Mem.wf_write h a b) (a + 1)

/-- Any filter keeps the canonical form. -/
theorem Mem.wf_filter {m : Mem} (h : Mem.wf m) (p : Nat × Byte → Bool) : Mem.wf (m.filter p) :=
  ⟨Tab.sortedFrom_filter m p h.1, fun c hc => h.2 c (List.mem_of_mem_filter hc)⟩

/-- Clearing a range keeps the canonical form. -/
theorem Mem.wf_clear {m : Mem} (h : Mem.wf m) (a n : Nat) : Mem.wf (Mem.clear m a n) := Mem.wf_filter h _

/-- Opening octets keeps the canonical form. -/
theorem Mem.wf_reopen {m : Mem} (h : Mem.wf m) (p : Nat → Bool) (f : Nat → Byte) : Mem.wf (Mem.reopen m p f) := by
  refine ⟨?_, ?_⟩
  · have key : ∀ (m : Mem) (lo : Nat), Tab.sortedFrom lo m = true → Tab.sortedFrom lo (Mem.reopen m p f) = true := by
      intro m
      induction m with
      | nil => exact fun _ _ => rfl
      | cons c t ih =>
        intro lo hs
        simp only [Tab.sortedFrom, Bool.and_eq_true, decide_eq_true_eq] at hs
        have ht := ih (c.1 + 1) hs.2
        have hl : Tab.sortedFrom lo (Mem.reopen t p f) = true := Tab.sortedFrom_mono _ (by omega) ht
        unfold Mem.reopen at ht hl ⊢
        rw [List.filterMap_cons]
        split
        · exact hl
        · next d e =>
          have hd : d.1 = c.1 := by
            split at e
            · split at e
              · cases e
              · cases e; rfl
            · cases e; rfl
          simp only [Tab.sortedFrom, Bool.and_eq_true, decide_eq_true_eq, hd]
          exact ⟨hs.1, ht⟩
    exact key m 0 h.1
  · intro d hd
    unfold Mem.reopen at hd
    obtain ⟨c, hc, e⟩ := List.mem_filterMap.1 hd
    split at e
    · split at e
      · cases e
      · next hf => cases e; exact hf
    · cases e; exact h.2 _ hc

theorem Mem.wf_nil : Mem.wf [] := ⟨rfl, by simp⟩

/-- A read after a write of the same octet. -/
theorem Mem.read_write_self {m : Mem} (h : Mem.wf m) (a : Nat) (b : Byte) : (Mem.write m a b).read a = b :=
  Tab.at_set_self m a 0 b h.1

/-- A write leaves every other octet. -/
theorem Mem.read_write_ne (m : Mem) {a j : Nat} (b : Byte) (h : j ≠ a) : (Mem.write m a b).read j = m.read j :=
  Tab.at_set_ne m 0 0 b h

/-- A write of octets leaves every octet outside them. -/
theorem Mem.read_writeBytes_out (m : Mem) (a : Nat) (l : List Byte) {j : Nat} (h : j < a ∨ a + l.length ≤ j) :
    (Mem.writeBytes m a l).read j = m.read j := by
  induction l generalizing m a with
  | nil => rfl
  | cons b l ih =>
    simp only [List.length_cons] at h
    simp only [Mem.writeBytes]
    rw [ih _ _ (by omega), Mem.read_write_ne m b (by omega)]

end Sys2Proof.Machine
end

