-- ==== Sys2Proof/WellFormed.lean ====
section
/-!
DEFINITION. Well-formed commands: every operand lies in the width that the spec gives the field it
stands for. The meanings are total; a well-formed command is one that the outside can send.
-/
namespace Sys2Proof

/-- At most `n` octets. -/
def wfLen (n : Nat) (l : List Byte) : Bool := decide (l.length ≤ n)

/-- At most `n` words of 32 bits. -/
def wfWords (n : Nat) (l : List Nat) : Bool := decide (l.length ≤ n) && l.all fun w => decide (w < 2 ^ 32)

/-- Values of 32 bits. -/
def wfU32s (l : List Nat) : Bool := l.all fun w => decide (w < 2 ^ 32)

/-- Header fields within their widths (R627). -/
def wfHdr (h : PortHdr) : Bool :=
  decide (h.ether < 0x10000) && decide (h.version < 16) && decide (h.payloadLen < 0x10000) &&
    decide (h.dest < 0x100) && decide (h.source < 0x100) && decide (h.session < 0x10000) &&
    decide (h.seq < 0x10000)

/-- A request's origin: a frame's header, or a UID (R694). -/
def wfReq : Req → Bool
  | .port h => wfHdr h
  | .chip uid => decide (uid < 0x10000)

/-- A frame report: 8 clusters and 4 droop monitors, 8-bit and 32-bit fields. -/
def wfReport (r : FrameRep) : Bool :=
  decide (r.beats.length = 8) && (r.beats.all fun b => decide (b.getD 0 < 2 ^ 32)) &&
    (r.engines.all fun e => decide (e.engine < 4352) && decide (e.progress < 2 ^ 32) &&
      decide (e.resident < 0x100)) &&
    (r.bindings.all fun b => decide (b.1 < 1088) && decide (b.2.length = 128)) &&
    decide (r.diodes.length = 8) && decide (r.droops.length = 4)

/-- What a bar's fault changes: words of the 256, 32-bit masks (R477). -/
def wfUpset (l : List (Nat × Nat)) : Bool := l.all fun x => decide (x.1 < 256) && decide (x.2 < 2 ^ 32)

/-- A capture: 64 header octets (R476). -/
def wfCapture (c : CaptureMsg) : Bool :=
  decide (c.bar < 2) && decide (c.slot < 32) && decide (c.header.length = 64) && wfUpset c.upset

/-- Self-test counts within their objects' widths (R461). -/
def wfSelfTest (t : SelfTest) : Bool :=
  decide (t.probeFails < 2 ^ 32) && decide (t.untested < 2 ^ 32) &&
    decide (t.portsFailed < 2 ^ 48) && decide (t.marchErrors < 2 ^ 32)

/-- A PMBus word of a rail (R548). -/
def wfPmbus (p : PmbusWord) : Bool :=
  decide (p.rail < 16) && decide (p.command < 0x100) && decide (p.word < 0x10000)

/-- A strap reading: 8 repeats (R596). -/
def wfOptionRead (r : OptionRead) : Bool :=
  decide (r.strapMv < 0x10000) && decide (r.repeats.length = 8)

/-- A HELLO: a header, and the payload octets that the frame carries (R627, R631). -/
def wfHello (h : Hello) : Bool := wfHdr h.hdr && h.payload.length = h.hdr.actualLen

/-- Every operand within the width of the field it stands for. -/
def Instr.wf : Instr → Bool
  | .frameTick _ _ _ => true
  | .frameReport _ die rep => decide (die < 16) && wfReport rep
  | .reportEvaluation _ => true
  | .hbMiss _ cluster => decide (cluster < 128)
  | .hangEngine _ uid engine => decide (uid < 0x10000) && decide (engine < 0x100)
  | .runnerSilent _ die => decide (die < 16)
  | .tapSilent _ cluster => decide (cluster < 128)
  | .sensorFail _ cluster => decide (cluster < 128)
  | .commHoldSet _ die => decide (die < 16)
  | .commHoldClear _ die => decide (die < 16)
  | .jobAdmission _ => true
  | .slotJobCheck _ slot => decide (slot < 0x100)
  | .samplingSlot _ slot => decide (slot < 0x100)
  | .commitQueueFreeze _ => true
  | .schedQuench _ req entry time flags => wfReq req && decide (entry < 32) && decide (time < 2 ^ 64) && decide (flags < 0x100)
  | .schedPodQuench _ req entry time flags => wfReq req && decide (entry < 32) && decide (time < 2 ^ 64) && decide (flags < 0x100)
  | .schedStep _ req entry time flags => wfReq req && decide (entry < 32) && decide (time < 2 ^ 64) && decide (flags < 0x100)
  | .schedResume _ req entry time flags => wfReq req && decide (entry < 32) && decide (time < 2 ^ 64) && decide (flags < 0x100)
  | .schedFrameLen _ req entry time flags => wfReq req && decide (entry < 32) && decide (time < 2 ^ 64) && decide (flags < 0x100)
  | .schedTimeStep _ req entry time flags => wfReq req && decide (entry < 32) && decide (time < 2 ^ 64) && decide (flags < 0x100)
  | .schedRoleSwap _ req entry time flags => wfReq req && decide (entry < 32) && decide (time < 2 ^ 64) && decide (flags < 0x100)
  | .schedEmpty _ req entry => wfReq req && decide (entry < 32)
  | .frameLenChange _ entry => decide (entry < 32)
  | .timeStepApply _ entry => decide (entry < 32)
  | .roleSwapDue _ entry => decide (entry < 32)
  | .lockstepFault _ core => decide (core < 2)
  | .tbuClockGoodLost _ => true
  | .takeoverSwitch _ => true
  | .takeoverOldReset _ => true
  | .runnerActiveCast _ => true
  | .takeoverNotify _ => true
  | .quCmdArm _ req => wfReq req
  | .quCmdCancel _ req => wfReq req
  | .quCmdStep _ req => wfReq req
  | .quCmdResume _ req => wfReq req
  | .quCmdPeek _ req => wfReq req
  | .castReceive _ target cast => decide (target < 160) && wfLen 512 cast
  | .castResponse _ response => wfLen 64 response
  | .castRetry _ castId => decide (castId < 0x10000)
  | .castUnresponsive _ castId => decide (castId < 0x10000)
  | .quenchDecision _ => true
  | .holdReceive _ target _ => decide (target < 160)
  | .cutTaken _ => true
  | .quenchMembership _ => true
  | .cutOrderReceive _ port msg => decide (port < 48) && wfLen 256 msg
  | .cutWithdrawReceive _ port msg => decide (port < 48) && wfLen 256 msg
  | .cutAckReceive _ port msg => decide (port < 48) && wfLen 256 msg
  | .orderCopySend _ => true
  | .cutAckSend _ => true
  | .podCutSummary _ => true
  | .stepSelectLate _ => true
  | .stepStart _ => true
  | .netRefreeze _ => true
  | .stepPoll _ cluster => decide (cluster < 128)
  | .stepOverrun _ cluster => decide (cluster < 128)
  | .resumeAtTime _ => true
  | .quCancelLate _ entry => decide (entry < 32)
  | .soStart _ req => wfReq req
  | .soStartRef _ req => wfReq req
  | .soAbort _ req => wfReq req
  | .soFettleReserve _ req => wfReq req
  | .soAck _ req image => wfReq req && decide (image < 2 ^ 32)
  | .soRecordRead _ req _ _ => wfReq req
  | .soHeaderRead _ req => wfReq req
  | .reserveWrite _ req idx sub value => wfReq req && decide (idx < 0x10000) && decide (sub < 0x100) && decide (value < 2 ^ 64)
  | .debugReadComplete _ die uid type off status data secureLines => decide (die < 16) && decide (uid < 0x10000) && decide (type < 0x100) && decide (off < 524288) && decide (status < 4) && wfLen 4096 data && secureLines.all fun k => decide (k < 64)
  | .debugReadTimeout _ die uid type off => decide (die < 16) && decide (uid < 0x10000) && decide (type < 0x100) && decide (off < 524288)
  | .recordWriteComplete _ die uid type sub _ _ => decide (die < 16) && decide (uid < 0x10000) && decide (type < 0x100) && decide (sub < 2 ^ 32)
  | .ladleWriteTimeout _ die uid type => decide (die < 16) && decide (uid < 0x10000) && decide (type < 0x100)
  | .sealPartReport _ die tier => decide (die < 16) && decide (tier < 3)
  | .sealResult _ sum => decide (sum < 2 ^ 64)
  | .soRunnerLost _ die => decide (die < 16)
  | .shakeoutClose _ => true
  | .reserveFettleDone _ => true
  | .hangWaitClear _ => true
  | .hangCollect _ => true
  | .contextRemove _ req ctx => wfReq req && decide (ctx < 4096)
  | .removeCastIssue _ => true
  | .contextCastReceive _ target cast status uid engine => decide (target < 160) && wfLen 512 cast && decide (status < 0x10000) && decide (uid < 0x10000) && decide (engine < 0x100)
  | .removeCountComplete _ castId => decide (castId < 0x10000)
  | .drainElapsed _ castId => decide (castId < 0x10000)
  | .replayResponse _ castId status uid engine => decide (castId < 0x10000) && decide (status < 0x10000) && decide (uid < 0x10000) && decide (engine < 0x100)
  | .replayStall _ => true
  | .replayTimeout _ => true
  | .contextFettleDone _ ctx die => decide (ctx < 4096) && decide (die < 16)
  | .unitResetPulse _ req uid part _ => wfReq req && decide (uid < 0x10000) && decide (part < 0x100)
  | .unitResetHold _ req uid part _ => wfReq req && decide (uid < 0x10000) && decide (part < 0x100)
  | .unitResetRelease _ req uid part _ => wfReq req && decide (uid < 0x10000) && decide (part < 0x100)
  | .unitResetAssert _ => true
  | .unitResetReleaseDue _ => true
  | .unitResetDone _ => true
  | .l2Failed _ => true
  | .recoveryLevel _ req value => wfReq req && decide (value < 2 ^ 64)
  | .l3PhaseEnd _ => true
  | .l3Failed _ => true
  | .beaconReceive _ port beacon => decide (port < 48) && wfLen 64 beacon
  | .runnerNoTick _ die => decide (die < 16)
  | .stepMark _ _ _ _ => true
  | .jobViewExpire _ => true
  | .suspectEnter _ => true
  | .suspectDump _ => true
  | .selfTestEnd _ results => wfSelfTest results
  | .suspectCleared _ => true
  | .suspectCmdClear _ req => wfReq req
  | .expel _ req order => wfReq req && wfLen 2048 order
  | .expelRelease _ req order => wfReq req && wfLen 2048 order
  | .expelPortFence _ => true
  | .expelCut _ => true
  | .expelCollect _ => true
  | .admBegin _ req => wfReq req
  | .admServe _ req => wfReq req
  | .admAbort _ req => wfReq req
  | .admOpenReceive _ die record => decide (die < 16) && wfLen 65600 record
  | .admRecordReceive _ die record => decide (die < 16) && wfLen 65600 record
  | .admEndReceive _ record => wfLen 65600 record
  | .admStall _ => true
  | .admSealResult _ sum => decide (sum < 2 ^ 64)
  | .admFettleDone _ => true
  | .admServeDone _ _ sum bytes records => decide (sum < 2 ^ 64) && decide (bytes < 2 ^ 64) && decide (records < 2 ^ 32)
  | .captureReceive _ capture => wfCapture capture
  | .barComputeDone _ bar upset => decide (bar < 2) && wfUpset upset
  | .captureTimeout _ bar slot => decide (bar < 2) && decide (slot < 32)
  | .barSelfCheckDone _ bar _ => decide (bar < 2)
  | .sdcStormClear _ => true
  | .tbEventAck _ req seq => wfReq req && decide (seq < 2 ^ 32)
  | .tbQuarantineClear _ req idx => wfReq req && decide (idx < 0x10000)
  | .tbProbeLoad _ req kernel => wfReq req && wfLen 65536 kernel
  | .probeRunBar _ req kernel uid engine => wfReq req && decide (kernel < 2 ^ 32) && decide (uid < 0x10000) && decide (engine < 0x100)
  | .probeRunEngine _ req kernel uid engine => wfReq req && decide (kernel < 2 ^ 32) && decide (uid < 0x10000) && decide (engine < 0x100)
  | .probeOpDone _ header engineResult upset => wfLen 64 header && wfU32s engineResult && wfUpset upset
  | .traceLineReceive _ die line => decide (die < 16) && wfLen 64 line
  | .traceSwitchIssue _ => true
  | .pmbusTransactionDone _ read => wfPmbus read
  | .pmbAlert _ addr status => decide (addr < 128) && decide (status < 0x10000)
  | .tbNowRead _ req => wfReq req
  | .markCycle _ core => decide (core < 2)
  | .markReceive _ uid msg => decide (uid < 0x10000) && wfWords 64 msg
  | .loadReceive _ uid msg => decide (uid < 0x10000) && wfWords 64 msg
  | .stepMsgReceive _ uid msg => decide (uid < 0x10000) && wfWords 64 msg
  | .calReqReceive _ uid msg => decide (uid < 0x10000) && wfWords 64 msg
  | .calEchoLaunch _ uid => decide (uid < 0x10000)
  | .calEchoReceive _ core msg => decide (core < 2) && wfWords 64 msg
  | .calSetReceive _ uid msg => decide (uid < 0x10000) && wfWords 64 msg
  | .calEchoTimeout _ core => decide (core < 2)
  | .replicaFlywheel _ uid => decide (uid < 0x10000)
  | .replicaLost _ uid => decide (uid < 0x10000)
  | .refclkLost _ => true
  | .refclkBack _ => true
  | .tickOutDue _ => true
  | .tickInEdge _ _ => true
  | .tickInMissing _ _ _ => true
  | .syncSend _ port => decide (port < 48)
  | .syncReceive _ port msg => decide (port < 48) && wfLen 256 msg
  | .gmDeclare _ => true
  | .upstreamReselect _ => true
  | .upstreamLost _ => true
  | .gmLost _ => true
  | .linkTrained _ port => decide (port < 48)
  | .loopMeasureDone _ port halves => decide (port < 48) && wfU32s halves
  | .discardWindowEnd _ => true
  | .asymTimeout _ => true
  | .asymRetry _ => true
  | .servoRestart _ req value => wfReq req && decide (value < 2 ^ 64)
  | .timeQuery _ req => wfReq req
  | .timeAnswer _ t1 t2 t3 t4 => decide (t1 < 2 ^ 80) && decide (t2 < 2 ^ 80) && decide (t3 < 2 ^ 80) && decide (t4 < 2 ^ 80)
  | .txtsStamp _ id => decide (id < 0x10000)
  | .txtsQueuePop _ req => wfReq req
  | .porAssert _ => true
  | .porRelease _ => true
  | .warmReset _ => true
  | .resetNShort _ => true
  | .warmResetRelease _ => true
  | .domainRelease _ n => decide (n < 10)
  | .d8Wave _ w => decide (w < 4)
  | .clockLost _ domain die => decide (domain < 10) && decide (die < 16)
  | .clockLostInService _ domain die => decide (domain < 10) && decide (die < 16)
  | .clockTimeout _ domain die => decide (domain < 10) && decide (die < 16)
  | .selfCheckDone _ core _ => decide (core < 2)
  | .optionLoadingEnd _ read => wfOptionRead read
  | .fwBoot _ core => decide (core < 2)
  | .stormRelease _ req value => wfReq req && decide (value < 2 ^ 64)
  | .persistWriteDone _ _ => true
  | .stage _ req idx sub off bytes => wfReq req && decide (idx < 0x10000) && decide (sub < 0x100) && decide (off < 2 ^ 32) && wfLen 1456 bytes
  | .commit _ req _ _ => wfReq req
  | .blkOpen _ req idx sub dir off len => wfReq req && decide (idx < 0x10000) && decide (sub < 0x100) && decide (dir < 0x100) && decide (off < 2 ^ 32) && decide (len < 2 ^ 32)
  | .blkData _ req block off bytes => wfReq req && decide (block < 0x10000) && decide (off < 2 ^ 32) && wfLen 1456 bytes
  | .blkClose _ req block crc => wfReq req && decide (block < 0x10000) && decide (crc < 2 ^ 32)
  | .blkDataResend _ block seq => decide (block < 0x10000) && decide (seq < 2 ^ 32)
  | .blkTimeout _ block => decide (block < 0x10000)
  | .notifyAck _ session seq => decide (session < 0x10000) && decide (seq < 2 ^ 32)
  | .notifyResend _ session seq => decide (session < 0x10000) && decide (seq < 2 ^ 32)
  | .claimSend _ => true
  | .offerAssign _ serial node count => decide (serial < 2 ^ 64) && decide (node < 0x100) && decide (count < 0x100)
  | .offerRevoke _ serial => decide (serial < 2 ^ 64)
  | .sessionHello _ hello => wfHello hello
  | .sessionClose _ session _ => decide (session < 0x10000)
  | .sessionTimeout _ session => decide (session < 0x10000)
  | .plcaInactive _ => true
  | .plcaReturn _ => true
  | .registerWrite _ req idx sub off bytes => wfReq req && decide (idx < 0x10000) && decide (sub < 0x100) && decide (off < 2 ^ 32) && wfLen 1456 bytes
  | .fwUpdate _ req image => wfReq req && wfLen 1048576 image
  | .fwUpdateApply _ req value => wfReq req && decide (value < 2 ^ 64)
  | .fwUpdateStandbyReady _ => true
  | .fwUpdateOldReady _ => true
  | .fwUpdateTimeout _ => true
  | .lcRequest _ req request => wfReq req && wfLen 4096 request
  | .lcFettleDone _ area _ => decide (area < 16)
  | .authChallenge _ req => wfReq req
  | .authToken _ req token => wfReq req && wfLen 4096 token
  | .authEnded _ session => decide (session < 0x10000)
  | .mgrKeysWrite _ req i key => wfReq req && decide (i < 5) && wfLen 4096 key
  | .logAck _ req seq => wfReq req && decide (seq < 2 ^ 32)
  | .logRead _ req => wfReq req
  | .ringResponse _ die words secureLines => decide (die < 16) && wfWords 4098 words && secureLines.all fun k => decide (k < 256)
  | .ringTimeout _ die tag => decide (die < 16) && decide (tag < 0x100)
  | .quenchIn _ => true
  | .quenchInArm _ => true
  | .quenchInDeferred _ => true
  | .quenchInEntryFree _ => true
  | .inputStuck _ => true
  | .jtagUpdateIr _ scan => decide (scan.opcode < 64) && decide (scan.cells.getD 0 < 2 ^ 28)
  | .jtagTestReset _ => true
  | .chillEntry _ half => decide (half < 32)
  | .chillExit _ half => decide (half < 32)
  | .linkDown _ port => decide (port < 48)
  | .traceStallTimeout _ core => decide (core < 0x8000)
  | .optionWriteDone _ _ => true

end Sys2Proof
end

