-- ==== Sys2Proof/Tests/Slice0.lean ====
section
/-!
SUPPORT. Tests: ill-formed commands that the check refuses, a witness for the hypotheses of every
statement, and small tests from the spec's own figures.
-/
namespace Sys2Proof.Tests.Slice0
open Sys2Proof Sys2Proof.Machine

set_option maxRecDepth 20000
set_option Elab.async false

/-! ## States for the tests -/

/-- A core that runs its firmware. -/
def runningCore : HubCore :=
  { HubCore.fresh with proc := .running, clockGood := true, selfCheckPassed := some true, fwVersion := 1 }

/-- The block in service: every domain released, both cores running, the time base counting, a frame open. -/
def demo : State :=
  { State.reset with
    hub := ⟨runningCore, runningCore, false, false, false, 0, none⟩
    tb := { TimeBase.fresh with active := ⟨400000 * 2 ^ 48, 0, 0, 0, 0, true⟩, standby := ⟨400000 * 2 ^ 48, 0, 0, 0, 0, true⟩ }
    frame := { Frame.fresh with number := 100, ticked := true, nextTick := 800000, opened := 400000 }
    rst := { Reset.fresh with porAsserted := false, phase := 10, released := BitVec.allOnes 10, d8Waves := 4, optionsDone := true } }

/-- The firmware of the active core asks (R694). -/
def hubReq : Req := .chip 0x8100

/-- Its context. -/
def hubCtx : Ctx := ⟨.chip 0x8100, 3, 0⟩

/-! ## Witnesses for the hypotheses of the statements -/

/-- A block whose active core sources its time wire. -/
def demoWire : State := { demo with wireA := { Wire.idle with sourcing := true } }

/-- `demo` with the replica of tap 0 as `r`. -/
def demoRep (r : Replica) : State := demo.putRep 0 r

/-- A cold replica that knows its delay from wire 0. -/
def coldRep : Replica := { Replica.fresh with d0 := some 0 }

/-- A replica that tracks. -/
def trackingRep : Replica := { coldRep with state := .tracking, clock := ⟨400000 * 2 ^ 48, 0, 0, 0, 0, true⟩ }

/-- A time-wire message of a type from Hub A, the active source, with one further word. -/
def demoMsg (type x : Nat) : List Nat := wireMsg (wireWord0 type 0 1 1 0) x 0 0 0

theorem witness_TimeWireMessages (h : Obligations.TimeWireMessages) :
    Answers (exec (.markCycle 0 0) demoWire) ∧
    Answers (exec (.markReceive 0 0 (demoMsg 1 0)) (demoRep coldRep)) ∧
    Answers (exec (.loadReceive 0 0 (demoMsg 2 0)) (demoRep coldRep)) ∧
    Answers (exec (.stepMsgReceive 0 0 (demoMsg 3 0)) (demoRep trackingRep)) ∧
    Answers (exec (.calReqReceive 0 0 (demoMsg 4 0)) (demoRep trackingRep)) ∧
    Answers (exec (.calSetReceive 0 0 (demoMsg 6 5)) (demoRep trackingRep)) := by
  obtain ⟨h1, h2, h3, h4, h5, h6⟩ := h
  refine ⟨?_, ?_, ?_, ?_, ?_, ?_⟩
  · obtain ⟨t, e, _⟩ := h1 0 0 demoWire (by decide) rfl (by decide +kernel)
    exact ⟨t, e⟩
  · refine ⟨_, (h2 0 0 (demoMsg 1 0) (demoRep coldRep) 0 ⟨?_, ?_, ?_⟩ ?_ ?_ ?_ ?_ ?_).choose_spec.1⟩ <;> decide +kernel
  · refine ⟨_, (h3 0 0 (demoMsg 2 0) (demoRep coldRep) 0 ⟨?_, ?_, ?_⟩ ?_ ?_ ?_ ?_).choose_spec.1⟩ <;> decide +kernel
  · exact ⟨_, h4 0 0 (demoMsg 3 0) (demoRep trackingRep) (by refine ⟨?_, ?_, ?_⟩ <;> decide +kernel)
      (by decide +kernel) (by decide +kernel)⟩
  · obtain ⟨t, e, _⟩ := h5 0 0 (demoMsg 4 0) (demoRep trackingRep) (by refine ⟨?_, ?_, ?_⟩ <;> decide +kernel)
      (by decide +kernel)
    exact ⟨_, e⟩
  · obtain ⟨t, e, _⟩ := h6 0 0 (demoMsg 6 5) (demoRep trackingRep) (by refine ⟨?_, ?_, ?_⟩ <;> decide +kernel)
      (by decide +kernel)
    exact ⟨_, e⟩
/-- A replica that has a CAL_REQ to echo, 3,072 ns after its arrival. -/
def echoState : State :=
  { demoRep { trackingRep with echo := [⟨0, 5, 0, 0, some ((400000 - 3072) * 65536)⟩] } with elapsed := 0 }

/-- A calibration request outstanding to tap 0. -/
def calState (failed : Nat) (repeated : Bool) : State :=
  { demo with wireA := { Wire.idle with
      sourcing := true, reqs := [⟨0, 5, 0, (400000 - 3072) * 65536 - 200, 3, repeated⟩]
      targets := [(0, { CalTarget.fresh with dSet := some 100, wanted := 1, failedRounds := failed })] } }

/-- The echo of it. -/
def echoMsg : List Nat := wireMsg (wireWord0 5 0 1 5 0) (3072 * 65536) 0 0 1

/-- A MARK with one converter reading of 5. -/
def readMsg (type : Nat) : List Nat := demoMsg type 0 ++ [5]

theorem witness_DelayCalibration (h : Obligations.DelayCalibration) :
    addResidence 0xFFFF [5] = 0xFFFF ∧
    msgWord (msgArrived (readMsg 1) 0) 4 = msgWord (readMsg 1) 4 ∧
    msgWord (msgArrived (readMsg 5) 0) 1 = msgWord (readMsg 5) 1 ∧
    Answers (exec (.calEchoLaunch 0 0) echoState) ∧
    Answers (exec (.calEchoReceive 0 0 echoMsg) (calState 0 false)) ∧
    Answers (exec (.calEchoTimeout 0 0) { calState 0 false with elapsed := 1310720 }) ∧
    Answers (exec (.calEchoTimeout 0 0) { calState 2 true with elapsed := 1310720 }) := by
  obtain ⟨h1, h2, h3, _, h5, h6, h7⟩ := h
  and_intros
  · rw [h1 0xFFFF [5] (by decide)]; decide +kernel
  · exact (h2 (readMsg 1) 0 (by decide +kernel)).2 4 (by decide) (by decide)
  · exact (h3 (readMsg 5) 0 (by decide +kernel)).2.2 1 (by decide) (by decide)
  · exact ⟨_, h5 0 0 echoState ⟨0, 5, 0, 0, some ((400000 - 3072) * 65536)⟩ [] (by decide +kernel) (by decide +kernel)⟩
  · refine ⟨_, (h6 0 0 echoMsg (msgArrived echoMsg (coreUid 0)) (calState 0 false)
      ⟨0, 5, 0, (400000 - 3072) * 65536 - 200, 3, false⟩ 100 ⟨?_, ?_, ?_⟩ rfl ?_ ?_ ?_ ?_ ?_ ?_ _ rfl
      ?_).choose_spec.1⟩ <;> decide +kernel
  · exact ⟨_, (h7 0 0 { calState 0 false with elapsed := 1310720 } ⟨0, 5, 0, (400000 - 3072) * 65536 - 200, 3, false⟩
      (by decide +kernel)).1 rfl⟩
  · obtain ⟨_, e⟩ := (h7 0 0 { calState 2 true with elapsed := 1310720 }
      ⟨0, 5, 0, (400000 - 3072) * 65536 - 200, 3, true⟩ (by decide +kernel)).2 rfl (by decide +kernel)
    exact ⟨_, e⟩

theorem witness_ReplicaAndRefclkLoss (h : Obligations.ReplicaAndRefclkLoss) :
    Answers (exec (.replicaFlywheel 0 0) ({ demoRep trackingRep with elapsed := 2 * 16 * 10240 })) ∧
    Answers (exec (.replicaLost 0 0) ({ demoRep { trackingRep with state := .flywheel } with elapsed := 1024 * 16 * 10240 })) ∧
    Answers (exec (.refclkLost 0) (demo)) ∧
    Answers (exec (.refclkBack 0) ({ demo with tb := { demo.tb with refclkPresent := false } })) := by
  obtain ⟨h1, h2, h3, h4⟩ := h
  refine ⟨?_, ?_, ?_, ?_⟩
  · exact ⟨_, h1 0 0 ({ demoRep trackingRep with elapsed := 2 * 16 * 10240 }) (by decide +kernel) (by decide +kernel)⟩
  · obtain ⟨_, e, _⟩ := h2 0 0 ({ demoRep { trackingRep with state := .flywheel } with elapsed := 1024 * 16 * 10240 }) (by decide +kernel) (by decide +kernel)
    exact ⟨_, e⟩
  · obtain ⟨_, e, _⟩ := h3 0 (demo) rfl
    exact ⟨_, e⟩
  · obtain ⟨_, e, _⟩ := h4 0 ({ demo with tb := { demo.tb with refclkPresent := false } }) rfl
    exact ⟨_, e⟩

/-- TICK_IN qualified; its last edge one second before `off` units of 2⁻¹⁶ ns ago. -/
def tickState (off outliers : Nat) : State :=
  { demo with
    rst := { demo.rst with tickSourceBit := true }, pod := { Pod.fresh with role := 1 }
    tb := { demo.tb with
      active := ⟨(2000000000 * 65536 + off) * 2 ^ 32, 0, 0, 0, 0, true⟩
      tickIn := { TickIn.fresh with state := 2, outliers := outliers, lastAccepted := some (1000000000 * 65536) } } }

/-- The same with the servo in state `v`. -/
def steeredState (off outliers v : Nat) : State :=
  { tickState off outliers with pod := { (tickState 0 0).pod with servo := { Servo.fresh with state := v } } }

/-- 1.5 seconds after the last accepted edge. -/
def lateEdge : State :=
  { tickState 0 0 with tb := { (tickState 0 0).tb with active := ⟨2500000000 * 2 ^ 48, 0, 0, 0, 0, true⟩ } }

theorem witness_TimeReadAndPins (h : Obligations.TimeReadAndPins) :
    Answers (exec (.tbNowRead 0 hubReq) demo) ∧
    Answers (exec (.tickOutDue 0) demo) ∧
    Answers (exec (.tickInEdge 0 ⟨20⟩) (steeredState (100 * 65536) 0 1)) ∧
    Answers (exec (.tickInEdge 0 ⟨20⟩) (steeredState (100 * 65536 + 1) 1 1)) ∧
    Answers (exec (.tickInEdge 0 ⟨20⟩) (steeredState 0 0 0)) ∧
    Answers (exec (.tickInMissing 0 true true) lateEdge) := by
  obtain ⟨h1, h2, h3, h4, h5⟩ := h
  refine ⟨?_, ?_, ?_, ?_, ?_, ?_⟩
  · obtain ⟨_, e, _⟩ := h1 0 hubReq demo (demo.begin 0) hubCtx ⟨rfl, by decide +kernel⟩
    exact ⟨_, e⟩
  · refine ⟨_, (h2 0 400000 _ demo ?_ rfl rfl ?_ ?_).choose_spec.1⟩ <;> decide +kernel
  · obtain ⟨_, e, _⟩ := (h3 0 ⟨20⟩ (steeredState (100 * 65536) 0 1) _ _ _ (by decide) rfl rfl rfl rfl rfl (by decide)
      (by intro a ha; cases ha; decide +kernel)).1 (by decide +kernel) rfl
    exact ⟨_, e⟩
  · obtain ⟨_, e, _⟩ := (h3 0 ⟨20⟩ (steeredState (100 * 65536 + 1) 1 1) _ _ _ (by decide) rfl rfl rfl rfl rfl (by decide)
      (by intro a ha; cases ha; decide +kernel)).2 (by decide +kernel) (by decide)
    exact ⟨_, e⟩
  · obtain ⟨_, e, _⟩ := h4 0 ⟨20⟩ (steeredState 0 0 0) _ _ _ (by decide) rfl rfl rfl rfl rfl rfl rfl
      (by intro a ha; cases ha; decide +kernel)
    exact ⟨_, e⟩
  · obtain ⟨_, e, _⟩ := h5 0 true true lateEdge (1000000000 * 65536) rfl (by decide +kernel) (by decide +kernel)
    exact ⟨_, e⟩

/-- A block whose port 1 is a trained time port. -/
def podState : State := { demo with units := { Units.fresh with ports := [(1, { OptPort.fresh with linkUp := true })] } }

/-- An acceptable offer of grandmaster 9. -/
def demoOffer : Offer := ⟨false, false, false, 7, 0, 1, 9, 9, 8, 3, 0, 100, some 100⟩

/-- `podState` under upstream port 1 with that offer, in a role. -/
def upState (role : Nat) : State :=
  { podState with pod := { Pod.fresh with
      role := role, upstream := some 1, seenPath := 7, seenGm := 9, ports := [(1, { TimePort.fresh with offer := some demoOffer })] } }

/-- A SYNC of grandmaster 9 with its CRC. -/
def demoSync : List Byte :=
  let b := be 1 0x11 ++ be 1 0 ++ be 2 1 ++ be 2 7 ++ be 1 0 ++ be 1 1 ++ be 8 9 ++ be 8 9 ++ be 8 8 ++ zeros 36
  b ++ be 4 (crc32c b)

theorem witness_PodTimeLinks (h : Obligations.PodTimeLinks) :
    Answers (exec (.syncSend 0 1) (podState)) ∧
    Answers (exec (.syncReceive 0 1 demoSync) ({ upState 0 with pod := { (upState 0).pod with upstream := some 2 } })) ∧
    Answers (exec (.syncReceive 0 1 demoSync) (upState 0)) ∧
    Answers (exec (.syncReceive 0 1 []) (podState)) ∧
    Answers (exec (.linkTrained 0 47) (demo)) ∧
    Answers (exec (.linkDown 0 47) (demo)) ∧
    Answers (exec (.loopMeasureDone 0 1 [7, 5, 6]) ({ demo with pod := { Pod.fresh with ports := [(1, { TimePort.fresh with measuring := true })] } })) := by
  obtain ⟨h1, h2, h3, h4, h5, h6⟩ := h
  and_intros
  · obtain ⟨_, e, _⟩ := h1 0 1 0 (podState) (by decide +kernel) rfl (by decide +kernel) (by decide +kernel) (by decide +kernel)
    exact ⟨_, e⟩
  · refine ⟨_, (h2 0 1 demoSync ({ upState 0 with pod := { (upState 0).pod with upstream := some 2 } }) ?_ ?_ ?_ ?_ ?_ ?_ ?_).1 2 rfl ?_⟩ <;> decide +kernel
  · refine ⟨_, ((h2 0 1 demoSync (upState 0) ?_ ?_ ?_ ?_ ?_ ?_ ?_).2 rfl ?_ ?_ ?_).choose_spec.1⟩ <;> decide +kernel
  · exact ⟨_, h3 0 1 [] (podState) (by decide +kernel) (by decide +kernel) (by decide +kernel)⟩
  · obtain ⟨_, e, _⟩ := h4 0 47 (demo) (by decide +kernel) (by decide +kernel)
    exact ⟨_, e⟩
  · exact ⟨_, h5 0 47 (demo) (by decide +kernel)⟩
  · exact ⟨_, h6 0 1 [7, 5, 6] ({ demo with pod := { Pod.fresh with ports := [(1, { TimePort.fresh with measuring := true })] } }) (by decide +kernel)⟩

theorem witness_PodTimeElection (h : Obligations.PodTimeElection) :
    Answers (exec (.gmDeclare 0) ({ demo with pod := { Pod.fresh with role := 2, candidateSince := some 84 } })) ∧
    Answers (exec (.upstreamReselect 0) ({ upState 0 with pod := { (upState 0).pod with upstream := none } })) ∧
    Answers (exec (.upstreamLost 0) ({ upState 2 with pod := { (upState 2).pod with heardAt := 96 } })) ∧
    Answers (exec (.gmLost 0) ({ upState 2 with pod := { (upState 2).pod with gmChangedAt := 92 } })) := by
  obtain ⟨h1, h2, h3, h4⟩ := h
  refine ⟨?_, ?_, ?_, ?_⟩
  · obtain ⟨_, e, _⟩ := h1 0 84 ({ demo with pod := { Pod.fresh with role := 2, candidateSince := some 84 } }) rfl rfl (by decide +kernel) (by decide +kernel)
    exact ⟨_, e⟩
  · refine ⟨_, (h2 0 1 demoOffer ({ upState 0 with pod := { (upState 0).pod with upstream := none } }) ?_ ?_ ?_ ?_ ?_).choose_spec.1⟩ <;> decide +kernel
  · exact ⟨_, h3 0 1 ({ upState 2 with pod := { (upState 2).pod with heardAt := 96 } }) rfl (by decide +kernel) (by decide +kernel)⟩
  · obtain ⟨_, e, _⟩ := h4 0 1 ({ upState 2 with pod := { (upState 2).pod with gmChangedAt := 92 } }) rfl (by decide +kernel) (by decide +kernel)
    exact ⟨_, e⟩

/-- `upState` with the servo `v`. -/
def servoState (v : Servo) : State := { upState 0 with pod := { (upState 0).pod with servo := v } }

/-- A servo whose decision waits, with eight samples. -/
def waitingServo : Servo := { Servo.fresh with state := 3, windowEnded := some 84, samples := List.replicate 8 (5, 1000) }

/-- A servo with asymmetry unresolved. -/
def unresolvedServo : Servo := { Servo.fresh with state := 3, unresolved := some 4 }

theorem witness_PodTimeServo (h : Obligations.PodTimeServo) :
    Answers (exec (.discardWindowEnd 0) (servoState { Servo.fresh with windowFrom := some 92 })) ∧
    Answers (exec (.asymTimeout 0) (servoState waitingServo)) ∧
    Answers (exec (.asymRetry 0) ({ servoState unresolvedServo with frame := { demo.frame with number := 1024 } })) ∧
    Answers (exec (.servoRestart 0 hubReq 1) (demo)) ∧
    Answers (exec (.servoRestart 0 hubReq 2) (demo)) := by
  obtain ⟨h1, h2, h3, h4⟩ := h
  refine ⟨?_, ?_, ?_, ?_, ?_⟩
  · obtain ⟨_, e, _⟩ := h1 0 92 1 (servoState { Servo.fresh with windowFrom := some 92 }) rfl (by decide +kernel) rfl
    exact ⟨_, e⟩
  · obtain ⟨_, e, _⟩ := h2 0 84 1 (servoState waitingServo) rfl rfl (by decide +kernel) (by decide +kernel) (by decide +kernel)
    exact ⟨_, e⟩
  · obtain ⟨_, e, _⟩ := h3 0 1 ({ servoState unresolvedServo with frame := { demo.frame with number := 1024 } }) rfl rfl rfl (by decide +kernel) rfl
    exact ⟨_, e⟩
  · obtain ⟨_, e, _⟩ := (h4 0 hubReq 1 (demo) (demo.begin 0) hubCtx ⟨rfl, by decide +kernel⟩).1 rfl
    exact ⟨_, e⟩
  · exact ⟨_, (h4 0 hubReq 2 (demo) (demo.begin 0) hubCtx ⟨rfl, by decide +kernel⟩).2 (by decide +kernel)⟩

/-- A session at level 1. -/
def demoSession : Session := ⟨1, 9, 0, 1, true, zeros 16, 0, 0, 0, [], 0, none, none, [], [], false⟩

/-- `demo` with that session open, at address 5 of the segment. -/
def sessionState : State :=
  { demo with port := { Port.fresh with claimState := 2, plcaActive := true, sessions := [demoSession], nextSession := 2 }
              backup := { Backup.afresh with valid := true, nodeId := 5 } }

/-- A request of the session under SEQUENCE 1. -/
def portReq : Req := .port ⟨0x88B5, 1, 0, 0, 5, 9, 1, 1, true⟩

/-- The state in which it runs. -/
def sessionAdmitted : State := ((sessionState.begin 0).admitReq portReq).1

theorem witness_ManagementTime (h : Obligations.ManagementTime) :
    Answers (exec (.timeQuery 0 portReq) (sessionState)) ∧
    Answers (exec (.timeAnswer 0 1 2 3 4) (demo)) ∧
    Answers (exec (.txtsStamp 0 5) (demo)) ∧
    Answers (exec (.txtsQueuePop 0 hubReq) ({ demo with pod := { Pod.fresh with txts := [(5, 7)] } })) := by
  obtain ⟨h1, h2, h3, h4⟩ := h
  refine ⟨?_, ?_, ?_, ?_⟩
  · exact ⟨_, h1 0 portReq (sessionState) sessionAdmitted ⟨.session 1, 2, 1⟩ _ rfl rfl⟩
  · obtain ⟨_, e, _⟩ := h2 0 1 2 3 4 (demo)
    exact ⟨_, e⟩
  · obtain ⟨_, e, _⟩ := h3 0 5 (demo)
    exact ⟨_, e⟩
  · obtain ⟨_, e, _⟩ := h4 0 hubReq ({ demo with pod := { Pod.fresh with txts := [(5, 7)] } }) _ hubCtx 5 7 [] ⟨rfl, by decide +kernel⟩ rfl
    exact ⟨_, e⟩

/-- A frame report of a die whose taps answer, but for the first. -/
def demoReport : FrameRep :=
  ⟨none :: List.replicate 7 (some 1), [], [], List.replicate 8 640, List.replicate 4 750, 0⟩

/-- `demo` with runner 0 out of reset. -/
def runnerState : State := { demo with units := { Units.fresh with runners := [(0, { Runner.fresh with inReset := false, reported := false })] } }

/-- `demo` with the sensors of die 0 as given. -/
def sensorState (x : DieSensors) : State := { demo with power := { Power.fresh with dies := [(0, x)] } }

/-- `demo` at a PNS. -/
def atPns (n : Nat) (s : State) : State := { s with tb := { s.tb with active := ⟨n * 2 ^ 48, s.elapsed, 0, 0, 0, true⟩ } }

theorem witness_FrameRuns (h : Obligations.FrameRuns) :
    Answers (exec (.frameTick 0 true true) (atPns 800000 demo)) ∧
    Answers (exec (.frameTick 0 true true) (atPns 800000 { demo with frame := { demo.frame with frozen := true } })) ∧
    Answers (exec (.frameReport 0 0 demoReport) runnerState) ∧
    Answers (exec (.sensorFail 0 0) (sensorState { DieSensors.fresh with invalid := [2, 0, 0, 0, 0, 0, 0, 0] })) ∧
    Answers (exec (.commHoldSet 0 0) (sensorState { DieSensors.fresh with hotTicks := [0, 4, 0, 0, 0, 0, 0, 0] })) ∧
    Answers (exec (.commHoldClear 0 0) (sensorState { DieSensors.fresh with coolTicks := 16 })) ∧
    Answers (exec (.commitQueueFreeze 0) (atPns 775000 demo)) := by
  obtain ⟨h1, h2, h3, h4, h5, h6, h7⟩ := h
  and_intros
  · exact ⟨_, h1 0 true true (atPns 800000 demo) rfl (by decide +kernel) rfl rfl⟩
  · obtain ⟨_, e, _⟩ := h2 0 true true (atPns 800000 { demo with frame := { demo.frame with frozen := true } }) rfl
      (by decide +kernel) (.inr rfl)
    exact ⟨_, e⟩
  · obtain ⟨_, e, _⟩ := h3 0 0 demoReport runnerState (by decide +kernel) (by decide +kernel) (by decide +kernel) rfl
    exact ⟨_, e⟩
  · exact ⟨_, h4 0 0 (sensorState { DieSensors.fresh with invalid := [2, 0, 0, 0, 0, 0, 0, 0] }) (by decide +kernel)
      (by decide +kernel) (by decide +kernel)⟩
  · obtain ⟨_, e, _⟩ := h5 0 0 (sensorState { DieSensors.fresh with hotTicks := [0, 4, 0, 0, 0, 0, 0, 0] })
      (by decide +kernel) ⟨4, by decide +kernel, by decide⟩
    exact ⟨_, e⟩
  · obtain ⟨_, e, _⟩ := h6 0 0 (sensorState { DieSensors.fresh with coolTicks := 16 }) (by decide +kernel) (by decide +kernel)
    exact ⟨_, e⟩
  · obtain ⟨_, e, _⟩ := h7 0 (atPns 775000 demo) rfl (by decide +kernel)
    exact ⟨_, e⟩

/-- `demo` with the quench state `q` and what `PARAM` of entry 0 holds. -/
def schedState (q param : Nat) : State :=
  { demo with qu := { Quench.fresh with state := q }, sched := [(0, { SchedEntry.free with param := param })] }

/-- `demo` as the pod's grandmaster. -/
def masterState : State := { demo with pod := { Pod.fresh with role := 1 } }

/-- The entry of an accepted verdict. -/
def acceptedEntry : Verdict747 → Option SchedEntry
  | .accepted e => some e
  | _ => none

theorem accepted_of {v : Verdict747} {e : SchedEntry} (h : acceptedEntry v = some e) : v = .accepted e := by
  cases v <;> simp_all [acceptedEntry]

/-- An entry as `judge` accepts it with all targets selected. -/
def accEntry (action time flags param : Nat) (late : Bool) : SchedEntry :=
  ⟨action, time, flags, 0, param, BitVec.allOnes 160, false, 0, late, param⟩

theorem witness_ScheduledQuenches (h : Obligations.ScheduledQuenches) :
    Answers (exec (.schedQuench 0 hubReq 0 402000 2) (demo)) ∧
    Answers (exec (.schedPodQuench 0 hubReq 0 600000 0) (masterState)) ∧
    Answers (exec (.schedStep 0 hubReq 0 401999 1) (schedState 3 7)) ∧
    Answers (exec (.schedResume 0 hubReq 31 500000 0) (schedState 3 0)) := by
  obtain ⟨h1, h2, h3, h4⟩ := h
  refine ⟨?_, ?_, ?_, ?_⟩
  · obtain ⟨_, e, _⟩ := h1 0 hubReq 0 402000 2 (demo) _ hubCtx (accEntry 1 402000 2 0 false) (by decide +kernel) ⟨rfl, by decide +kernel⟩ (accepted_of (by decide +kernel))
    exact ⟨_, e⟩
  · obtain ⟨_, e, _⟩ := h2 0 hubReq 0 600000 0 (masterState) _ hubCtx (accEntry 2 600000 0 0 false) (by decide +kernel) ⟨rfl, by decide +kernel⟩ (accepted_of (by decide +kernel))
    exact ⟨_, e⟩
  · obtain ⟨_, e, _⟩ := h3 0 hubReq 0 401999 1 (schedState 3 7) _ hubCtx (accEntry 3 800000 129 7 true) (by decide +kernel) ⟨rfl, by decide +kernel⟩ (accepted_of (by decide +kernel))
    exact ⟨_, e⟩
  · obtain ⟨_, e, _⟩ := h4 0 hubReq 31 500000 0 (schedState 3 0) _ hubCtx (accEntry 4 500000 0 0 false) (by decide +kernel) ⟨rfl, by decide +kernel⟩ (accepted_of (by decide +kernel))
    exact ⟨_, e⟩

/-- `demo` with FRAME_LEN_NEXT set. -/
def lenState : State := { demo with frame := { demo.frame with lenNext := 500000 } }

/-- `demo` with entry 0 holding an action, its TIME and its status. -/
def entryState (action time status : Nat) : State :=
  { demo with sched := [(0, { SchedEntry.free with action := action, time := time, status := status })] }

theorem witness_ScheduledWaits (h : Obligations.ScheduledWaits) :
    Answers (exec (.schedFrameLen 0 hubReq 0 2000000 0) (lenState)) ∧
    Answers (exec (.schedTimeStep 0 hubReq 0 1200000 0) (schedState 0 400000)) ∧
    Answers (exec (.schedRoleSwap 0 hubReq 0 1200000 0) (demo)) ∧
    Answers (exec (.schedEmpty 0 hubReq 0) (entryState 1 500000 3)) ∧
    Answers (exec (.schedEmpty 0 hubReq 0) (entryState 5 400001 1)) ∧
    Answers (exec (.schedEmpty 0 hubReq 0) (entryState 5 400000 1)) := by
  obtain ⟨h1, h2⟩ := h
  refine ⟨?_, ?_, ?_, ?_, ?_, ?_⟩
  · obtain ⟨_, e, _⟩ := (h1 0 hubReq 0 2000000 0 (lenState) _ hubCtx (accEntry 5 2000000 0 0 false) (by decide +kernel) ⟨rfl, by decide +kernel⟩).1 (accepted_of (by decide +kernel))
    exact ⟨_, e⟩
  · obtain ⟨_, e, _⟩ := (h1 0 hubReq 0 1200000 0 (schedState 0 400000) _ hubCtx (accEntry 6 1200000 0 400000 false) (by decide +kernel) ⟨rfl, by decide +kernel⟩).2.1 (accepted_of (by decide +kernel))
    exact ⟨_, e⟩
  · obtain ⟨_, e, _⟩ := (h1 0 hubReq 0 1200000 0 (demo) _ hubCtx (accEntry 7 1200000 0 0 false) (by decide +kernel) ⟨rfl, by decide +kernel⟩).2.2 (accepted_of (by decide +kernel))
    exact ⟨_, e⟩
  · exact ⟨_, (h2 0 hubReq 0 (entryState 1 500000 3) _ hubCtx (by decide +kernel) ⟨rfl, by decide +kernel⟩).1 (by decide +kernel)⟩
  · exact ⟨_, (h2 0 hubReq 0 (entryState 5 400001 1) _ hubCtx (by decide +kernel) ⟨rfl, by decide +kernel⟩).2.1 (by decide +kernel) (by decide +kernel) (by decide +kernel) (by decide +kernel)⟩
  · exact ⟨_, (h2 0 hubReq 0 (entryState 5 400000 1) _ hubCtx (by decide +kernel) ⟨rfl, by decide +kernel⟩).2.2 (by decide +kernel) (by decide +kernel) (by decide +kernel)⟩

/-- Entry 0 due at the PNS that `demo` holds, with its parameter. -/
def dueState (action param : Nat) : State :=
  { lenState with sched := [(0, { SchedEntry.free with action := action, time := 400000, status := 1, param := param, taken := param })] }

/-- `demo` with its standby core failed. -/
def aloneState : State := { dueState 7 0 with hub := { demo.hub with riser := { runningCore with proc := .failed } } }

theorem witness_DueEntriesAndFaults (h : Obligations.DueEntriesAndFaults) :
    Answers (exec (.frameLenChange 0 0) (dueState 5 0)) ∧
    Answers (exec (.timeStepApply 0 0) (dueState 6 400000)) ∧
    Answers (exec (.roleSwapDue 0 0) (dueState 7 0)) ∧
    Answers (exec (.roleSwapDue 0 0) aloneState) ∧
    Answers (exec (.lockstepFault 0 0) demo) ∧
    Answers (exec (.tbuClockGoodLost 0) demo) := by
  obtain ⟨h1, h2, h3, h4, h5, h6⟩ := h
  refine ⟨?_, ?_, ?_, ?_, ?_, ?_⟩
  · obtain ⟨_, e, _⟩ := h1 0 0 (dueState 5 0) (by decide +kernel)
    exact ⟨_, e⟩
  · obtain ⟨_, e, _⟩ := h2 0 0 (dueState 6 400000) (by decide +kernel) (by decide +kernel)
    exact ⟨_, e⟩
  · obtain ⟨_, _, e, _⟩ := h3 0 0 (dueState 7 0) (by decide +kernel) (by decide +kernel) rfl
    exact ⟨_, e⟩
  · exact ⟨_, h4 0 0 aloneState (by decide +kernel) (by decide +kernel)⟩
  · obtain ⟨_, _, e, _⟩ := h5 0 demo (by decide +kernel) (by decide +kernel) rfl
    exact ⟨_, e⟩
  · obtain ⟨_, _, e, _⟩ := h6 0 demo (by decide +kernel) (by decide +kernel) rfl
    exact ⟨_, e⟩

/-- A takeover that has reached a phase, `after` nanoseconds past its W. -/
def takeoverState (phase after : Nat) : State :=
  { demo with
    elapsed := 160 * after
    hub := { demo.hub with takeover := some ⟨.lockstep, 390000, 0, phase, true, 0, [], [none, none, none, none], none, 1, 0, 0⟩ } }

theorem witness_TakeoverSequence (h : Obligations.TakeoverSequence) :
    Answers (exec (.takeoverSwitch 0) (takeoverState 0 0)) ∧
    Answers (exec (.takeoverOldReset 0) (takeoverState 1 500)) ∧
    Answers (exec (.runnerActiveCast 0) (takeoverState 2 2000)) ∧
    Answers (exec (.takeoverNotify 0) (takeoverState 3 20000)) := by
  obtain ⟨h1, h2, h3, h4⟩ := h
  refine ⟨?_, ?_, ?_, ?_⟩
  · obtain ⟨_, _, e, _⟩ := h1 0 (takeoverState 0 0) _ rfl rfl (by decide +kernel)
    exact ⟨_, e⟩
  · obtain ⟨_, e, _⟩ := h2 0 (takeoverState 1 500) _ rfl rfl (by decide +kernel)
    exact ⟨_, e⟩
  · obtain ⟨_, e, _⟩ := h3 0 (takeoverState 2 2000) _ rfl rfl (by decide +kernel)
    exact ⟨_, e⟩
  · obtain ⟨_, e, _⟩ := h4 0 (takeoverState 3 20000) _ rfl rfl (by decide +kernel)
    exact ⟨_, e⟩
theorem witness_QuenchCommands (h : Obligations.QuenchCommands) :
    Answers (exec (.quCmdArm 0 hubReq) ({ demo with qu := { Quench.fresh with time := 402000 } })) ∧
    Answers (exec (.quCmdStep 0 hubReq) ({ demo with qu := { Quench.fresh with time := 402000, state := 3 } })) ∧
    Answers (exec (.quCmdResume 0 hubReq) ({ demo with qu := { Quench.fresh with resumeTime := 402000, state := 3 } })) ∧
    Answers (exec (.quCmdCancel 0 hubReq) (demo)) ∧
    Answers (exec (.quCmdCancel 0 hubReq) (entryState 1 400000 2)) ∧
    Answers (exec (.quCmdPeek 0 hubReq) ({ demo with qu := { Quench.fresh with peekOffset := 2 ^ 20 } })) ∧
    Answers (exec (.quCmdPeek 0 hubReq) (demo)) := by
  obtain ⟨h1, h2, h3, h4, h5⟩ := h
  and_intros
  · obtain ⟨_, e, _⟩ := h1 0 hubReq ({ demo with qu := { Quench.fresh with time := 402000 } }) _ hubCtx 0 (accEntry 1 402000 2 0 false) ⟨rfl, by decide +kernel⟩ (by decide +kernel) (accepted_of (by decide +kernel))
    exact ⟨_, e⟩
  · obtain ⟨_, e, _⟩ := h2 0 hubReq ({ demo with qu := { Quench.fresh with time := 402000, state := 3 } }) _ hubCtx 0 (accEntry 3 402000 2 1 false) ⟨rfl, by decide +kernel⟩ (by decide +kernel) (accepted_of (by decide +kernel))
    exact ⟨_, e⟩
  · obtain ⟨_, e, _⟩ := h3 0 hubReq ({ demo with qu := { Quench.fresh with resumeTime := 402000, state := 3 } }) _ hubCtx 0 (accEntry 4 402000 2 0 false) ⟨rfl, by decide +kernel⟩ (by decide +kernel) (accepted_of (by decide +kernel))
    exact ⟨_, e⟩
  · exact ⟨_, (h4 0 hubReq (demo) _ hubCtx ⟨rfl, by decide +kernel⟩).1 (by decide +kernel)⟩
  · exact ⟨_, (h4 0 hubReq (entryState 1 400000 2) _ hubCtx ⟨rfl, by decide +kernel⟩).2 0 (by decide +kernel) (by decide +kernel) (by decide +kernel)⟩
  · exact ⟨_, (h5 0 hubReq ({ demo with qu := { Quench.fresh with peekOffset := 2 ^ 20 } }) _ hubCtx ⟨rfl, by decide +kernel⟩).1 Abort.valueRange (by decide +kernel)⟩
  · obtain ⟨_, _, e, _⟩ := (h5 0 hubReq (demo) _ hubCtx ⟨rfl, by decide +kernel⟩).2 (by decide +kernel) (by decide +kernel) (by decide +kernel)
    exact ⟨_, e⟩

/-- A tap in service whose slots run. -/
def runningTap : Tap := { Tap.fresh with inReset := false, coreClock := BitVec.allOnes 136 }

/-- `demo` with tap 0 as given, its replica tracking. -/
def tapState (x : Tap) : State :=
  { demo with units := { Units.fresh with taps := [(0, x)], replicas := [(tapUid 0, trackingRep)] } }

/-- An ARM_QUENCH cast to target 0 for 402,000 ns, counted on lane 1. -/
def demoCast : Cast := ⟨7, 1, false, false, false, 402000, 401000, 1234, 1, 0, 1⟩

/-- The hub's record of that cast, issued for entry 0. -/
def demoOpen : OpenCast := ⟨demoCast, .entry 0, 0, 0, [], [], false, none, 0⟩

/-- The same with target 0's ACTED answer and the lane sum. -/
def demoAnswered : OpenCast := ⟨demoCast, .entry 0, 0, 0, [(0, 1)], [(0, 400000)], true, some 1, 1⟩

/-- `s` with an open cast. -/
def withCast (o : OpenCast) (s : State) : State := { s with qu := { s.qu with casts := [o] } }

theorem witness_CastsAndAnswers (h : Obligations.CastsAndAnswers) :
    Answers (exec (.castReceive 0 0 demoCast.octets) (withCast demoOpen (tapState runningTap))) ∧
    Answers (exec (.castReceive 0 0 demoCast.octets) (tapState Tap.fresh)) ∧
    Answers (exec (.castReceive 0 0 { demoCast with retry := true }.octets) (tapState { runningTap with remembered := [⟨7, 0, 5, 0⟩] })) ∧
    Answers (exec (.holdReceive 0 0 (BitVec.ofNat 32 (holdWord 7))) (tapState { runningTap with stopArm := some 7 })) ∧
    Answers (exec (.castResponse 0 (castResponseOctets 7 0 0 400000)) (withCast demoOpen demo)) ∧
    Answers (exec (.castRetry 1600000 7) (withCast demoOpen demo)) ∧
    Answers (exec (.castUnresponsive 8000000 7) (withCast demoOpen demo)) := by
  obtain ⟨h1, h2, h3, h4, h5, h6⟩ := h
  and_intros
  · refine ⟨_, (h1 0 0 demoCast.octets demoCast (withCast demoOpen (tapState runningTap)) ?_ ?_ ?_ ?_ ?_ ?_ ?_).choose_spec.1⟩ <;> decide +kernel
  · refine ⟨_, (h2 0 0 demoCast.octets demoCast (tapState Tap.fresh) ?_ ?_ ?_ ?_ ?_).1 Cast.refusedReset ?_ ?_⟩ <;> decide +kernel
  · refine ⟨_, (h2 0 0 { demoCast with retry := true }.octets { demoCast with retry := true } (tapState { runningTap with remembered := [⟨7, 0, 5, 0⟩] }) ?_ ?_ ?_ ?_ ?_).2 ⟨7, 0, 5, 0⟩ ?_ ?_⟩ <;> decide +kernel
  · obtain ⟨_, e, _⟩ := h3 0 0 7 (BitVec.ofNat 32 (holdWord 7)) (tapState { runningTap with stopArm := some 7 }) (by decide +kernel) (by decide +kernel) 7 (by decide +kernel) (by decide +kernel)
    exact ⟨_, e⟩
  · refine ⟨_, h4 0 7 0 0 400000 0 (withCast demoOpen demo) demoOpen ?_ ?_ ?_ ?_ ?_ ?_ ?_ ?_⟩ <;> decide +kernel
  · exact ⟨_, h5 1600000 7 (withCast demoOpen demo) demoOpen (by decide +kernel) (by decide +kernel) (by decide +kernel) (by decide +kernel)⟩
  · refine ⟨_, (h6 8000000 7 0 (withCast demoOpen demo) demoOpen ?_ ?_ ?_ ?_ ?_ ?_).choose_spec.1⟩ <;> decide +kernel

/-- An entry in the sequencer's hand, for target 0 at a time, under cast 7. -/
def demoHand (action time : Nat) (decided taken : Bool) : InHand :=
  { entry := 0, action := action, time := time, castId := 7, targets := 1, postponed := 0, decided := decided, before := 0
    pod := false, emergency := false, taken := taken, membershipListed := false, cancelled := false, stepCycles := 64
    stepNet := false, selecting := 0, actors := 1 }

/-- `tapState` with that hand and its cast. -/
def handState (x : Tap) (h : InHand) (o : OpenCast) : State :=
  { tapState x with qu := { Quench.fresh with hand := some h, casts := [o] }
                    sched := [(0, { SchedEntry.free with action := h.action, time := h.time, status := 2 })] }

/-- `tapState` with a quench of it between T and its membership. -/
def closingState (h : InHand) : State :=
  { tapState { runningTap with coreClock := 0 } with qu := { Quench.fresh with closing := some h, casts := [demoAnswered], state := 3, members := 1 } }

/-- The hand of a quench whose decision is due 768 ns after 399,232 ns. -/
def dueCast (sum : Nat) : OpenCast := { demoOpen with cast := { demoCast with deadline := 399232 }, laneSum := sum }

/-- A quench under POSTPONE whose only target has not counted. -/
def shortState : State :=
  let s := handState runningTap (demoHand 1 402000 false false) (dueCast 0)
  { s with qu := { s.qu with mode := 1 } }

/-- A step that a cancel has reached too late, at its TIME. -/
def cancelledHand : InHand := { demoHand 1 398000 true true with cancelled := true }

/-- A block with that late cancel to log. -/
def cancelState : State := { demo with qu := { Quench.fresh with lateCancels := [cancelledHand] } }

/-- Tap 0 armed to stop, its instant come, and the hand of that quench. -/
def cutNow : State := handState { runningTap with stopArm := some 7 } (demoHand 1 400000 true false) demoAnswered

theorem witness_QuenchOutcome (h : Obligations.QuenchOutcome) :
    Answers (exec (.quenchDecision 0) (handState runningTap (demoHand 1 402000 false false) (dueCast 1))) ∧
    Answers (exec (.quenchDecision 0) shortState) ∧
    cutNow.stopsFall.stopArmOf 0 = none ∧
    Answers (exec (.cutTaken 0) cutNow) ∧
    Answers (exec (.quenchMembership 0) (closingState (demoHand 1 398000 true true))) ∧
    Answers (exec (.quCancelLate 0 0) cancelState) := by
  obtain ⟨h1, h2, h3, h4, h5⟩ := h
  refine ⟨?_, ?_, ?_, ?_, ?_, ?_⟩
  · refine ⟨_, ((h1 0 (handState runningTap (demoHand 1 402000 false false) (dueCast 1)) _ (dueCast 1) rfl ?_ ?_ ?_ ?_ ?_ ?_).1
      ?_).choose_spec.1⟩ <;> decide +kernel
  · refine ⟨_, ((h1 0 shortState _ (dueCast 0) rfl ?_ ?_ ?_ ?_ ?_ ?_).2 ?_ ?_ ?_ ?_ ?_).choose_spec.choose_spec.1⟩ <;> decide +kernel
  · rw [h2 cutNow 0 7 0 (by decide) (by decide +kernel)]; decide +kernel
  · refine ⟨_, (h3 0 1 cutNow _ (demoHand 1 400000 true false) demoAnswered rfl ?_ ?_ ?_ ?_ ?_ ?_ ?_
      ?_).choose_spec.choose_spec.1⟩ <;> decide +kernel
  · refine ⟨_, (h4 0 1 (closingState (demoHand 1 398000 true true)) _ (demoHand 1 398000 true true) demoAnswered rfl
      ?_ ?_ ?_ ?_ ?_ ?_ ?_ ?_ ?_ ?_ ?_).choose_spec.1⟩ <;> decide +kernel
  · obtain ⟨_, e, _⟩ := h5 0 0 cancelState cancelledHand rfl (by decide +kernel)
    exact ⟨_, e⟩

/-- A block that has stepped network group 0 with STEP_NET until 399,936 ns. -/
def netState : State := { demo with qu := { Quench.fresh with refreeze := some (399936, setBit 0 144 true) } }

/-- A step of cluster 0 that runs, from `from_`. -/
def steppingState (x : Tap) (from_ : Nat) : State :=
  { tapState x with qu := { Quench.fresh with state := 5, stepping := 1, stepFrom := [(0, from_)], hand := some (demoHand 3 from_ true true) } }

/-- A step of cluster 0 whose CORE_SELECT is not written 1.5 µs before its TIME. -/
def selectHand : InHand := { demoHand 3 401500 false false with selecting := 1 }

/-- Tap 0 armed for a step at the present instant, and the hand of that step. -/
def stepState : State := handState { runningTap with releaseArm := .step 7 400000 64 } (demoHand 3 400000 true false) demoAnswered

/-- A step of cluster 0 that has not ended 100 µs after its TIME. -/
def overrunState : State := steppingState { runningTap with stepRunning := true, stepEnds := 1 } 300000

/-- Tap 0 armed for a release at the present instant, and the hand of that resume. -/
def releaseState : State := handState { runningTap with releaseArm := .release 7 400000 } (demoHand 4 400000 true false) demoAnswered

theorem witness_StepsAndResumes (h : Obligations.StepsAndResumes) :
    Answers (exec (.stepSelectLate 0) (handState runningTap selectHand demoOpen)) ∧
    stepState.releasesFall.releaseArmOf 0 = none ∧
    Answers (exec (.stepStart 0) stepState) ∧
    Answers (exec (.netRefreeze 0) netState) ∧
    Answers (exec (.stepPoll 0 0) (steppingState runningTap 399000)) ∧
    Answers (exec (.stepOverrun 0 0) overrunState) ∧
    Answers (exec (.resumeAtTime 0) releaseState) := by
  obtain ⟨h1, h2, h3, h4, h5, h6, h7⟩ := h
  and_intros
  · obtain ⟨_, e, _⟩ := h1 0 (handState runningTap selectHand demoOpen) selectHand rfl rfl (by decide) (by decide +kernel)
    exact ⟨_, e⟩
  · rw [h2 stepState 0 7 400000 (by decide) (by decide +kernel) (by decide +kernel) (by decide)]; decide +kernel
  · refine ⟨_, (h3 0 1 stepState _ (demoHand 3 400000 true false) demoAnswered rfl ?_ ?_ ?_ ?_ ?_ ?_ ?_ ?_ ?_
      ⟨0, ?_, ?_⟩).choose_spec.choose_spec.1⟩ <;> decide +kernel
  · obtain ⟨_, e, _⟩ := h4 0 399936 (setBit 0 144 true) netState rfl (by decide +kernel)
    exact ⟨_, e⟩
  · obtain ⟨_, e, _⟩ := h5 0 0 (steppingState runningTap 399000) _ rfl (by decide +kernel) (by decide +kernel)
    exact ⟨_, e⟩
  · refine ⟨_, (h6 0 0 300000 overrunState ?_ ?_ ?_ ?_ ?_).choose_spec.1⟩ <;> decide +kernel
  · refine ⟨_, (h7 0 1 releaseState _ (demoHand 4 400000 true false) demoAnswered rfl ?_ ?_ ?_ ?_ ?_ ?_ ?_ ?_
      ?_).choose_spec.1⟩ <;> decide +kernel
/-- A pod cut message of grandmaster 9 from upstream port 1: kind, T, issue instant. -/
def cutMsg (kind t : Nat) : List Byte := cutMessage kind 0 3 1 9 9 t 400000 0 0 0

/-- `upState` under grandmaster 9, with port 2 downstream. -/
def cutState : State :=
  { upState 0 with
    units := { Units.fresh with ports := [1, 2].map fun p => (p, { OptPort.fresh with linkUp := true }) }
    pod := { (upState 0).pod with gmId := 9, hops := 1, ports := [(1, { TimePort.fresh with offer := some demoOffer }), (2, { TimePort.fresh with offer := some { demoOffer with upstreamId := 1 } })] } }

/-- The same with order 3 in progress for a T. -/
def orderState (t : Nat) : State := { cutState with podCut := { PodCut.fresh with order := some (3, t, 400000) } }

theorem witness_PodQuench (h : Obligations.PodQuench) :
    Answers (exec (.cutOrderReceive 0 1 (cutMsg 1 600000)) (cutState)) ∧
    Answers (exec (.cutOrderReceive 0 1 (cutMsg 1 600000)) ({ cutState with fm := { Fault9.fresh with fenceState := 2 } })) ∧
    Answers (exec (.cutOrderReceive 0 1 (cutMsg 1 600000)) (cutState)) ∧
    Answers (exec (.cutWithdrawReceive 0 1 (cutMsg 2 600000)) ({ cutState with sched := [(0, ⟨1, 600000, 64, 2, 0, 1, false, 3, false, 0⟩)] })) ∧
    Answers (exec (.cutAckReceive 0 2 (cutMsg 3 600000)) (orderState 600000)) ∧
    Answers (exec (.orderCopySend 0) ({ cutState with podCut := { PodCut.fresh with copies := [(cutMsg 1 600000, 1, 400000)] } })) ∧
    Answers (exec (.cutAckSend 0) (orderState 280000)) ∧
    Answers (exec (.podCutSummary 0) ({ orderState 260000 with pod := { Pod.fresh with role := 1 } })) := by
  obtain ⟨h1, h2, h3, h4, h5, h6⟩ := h
  and_intros
  · obtain ⟨_, e, _⟩ := (h1 0 1 (cutMsg 1 600000) (cutState) (by decide +kernel) (by decide +kernel)).1
    exact ⟨_, e⟩
  · obtain ⟨_, e, _⟩ := (h1 0 1 (cutMsg 1 600000) ({ cutState with fm := { Fault9.fresh with fenceState := 2 } }) (by decide +kernel) (by decide +kernel)).2.1 rfl
    exact ⟨_, e⟩
  · obtain ⟨_, _, e, _⟩ := (h1 0 1 (cutMsg 1 600000) (cutState) (by decide +kernel) (by decide +kernel)).2.2 0 (accEntry 1 600000 66 0 false) (by decide +kernel) (by decide +kernel) (by decide +kernel) (by decide +kernel) (accepted_of (by decide +kernel))
    exact ⟨_, e⟩
  · obtain ⟨_, e, _⟩ := h2 0 1 0 (cutMsg 2 600000) ({ cutState with sched := [(0, ⟨1, 600000, 64, 2, 0, 1, false, 3, false, 0⟩)] }) (by decide +kernel) (by decide +kernel) (by decide +kernel)
    exact ⟨_, e⟩
  · refine ⟨_, h3 0 2 600000 400000 (cutMsg 3 600000) (orderState 600000) ?_ ?_ ?_ ?_ ?_ ?_⟩ <;> decide +kernel
  · obtain ⟨_, e, _⟩ := h4 0 400000 (cutMsg 1 600000) ({ cutState with podCut := { PodCut.fresh with copies := [(cutMsg 1 600000, 1, 400000)] } }) rfl (by decide +kernel) (by decide +kernel)
    exact ⟨_, e⟩
  · obtain ⟨_, e, _⟩ := h5 0 3 280000 400000 1 (orderState 280000) rfl rfl rfl (by decide +kernel)
    exact ⟨_, e⟩
  · obtain ⟨_, e, _⟩ := h6 0 3 260000 400000 ({ orderState 260000 with pod := { Pod.fresh with role := 1 } }) rfl rfl rfl (by decide +kernel)
    exact ⟨_, e⟩

/-- `demo` with its pins as given. -/
def pinState (p : Pins) : State := { demo with pins := p, elapsed := 64000000, tb := { demo.tb with active := ⟨400000 * 2 ^ 48, 64000000, 0, 0, 0, true⟩ } }

/-- `demo` under EXTEST. -/
def testState : State := { demo with pins := { Pins.fresh with jtagIr := 0, jtagOwns := true } }

theorem witness_BoardStopAndTap (h : Obligations.BoardStopAndTap) :
    Answers (exec (.quenchIn 0) (pinState { Pins.fresh with quenchArmed := true })) ∧
    Answers (exec (.quenchIn 0) { pinState { Pins.fresh with quenchArmed := true } with fm := { Fault9.fresh with fenceState := 2 } }) ∧
    Answers (exec (.quenchInArm 0) (pinState { Pins.fresh with quenchSince := 64000000 - 160000 })) ∧
    (∃ t, exec (.quenchInDeferred 0) (pinState { Pins.fresh with quenchWaiting := true }) = .next t ∧
      exec (.quenchInEntryFree 0) (pinState { Pins.fresh with quenchWaiting := true }) = .next t) ∧
    Answers (exec (.inputStuck 0) (pinState { Pins.fresh with quenchHigh := false })) ∧
    Answers (exec (.jtagUpdateIr 0 ⟨0, some 0x20⟩) testState) ∧
    Answers (exec (.jtagUpdateIr 0 ⟨4, none⟩) demo) ∧
    Answers (exec (.jtagTestReset 0) demo) := by
  obtain ⟨h1, h2, h3, h4, h5, h6, h7⟩ := h
  and_intros
  · refine ⟨_, ((h1 0 0 (pinState { Pins.fresh with quenchArmed := true }) rfl rfl rfl).1 ?_ ?_ ?_ ?_ ?_
      ?_).choose_spec.choose_spec.1⟩ <;> decide +kernel
  · obtain ⟨_, e, _⟩ := (h1 0 0 { pinState { Pins.fresh with quenchArmed := true } with fm := { Fault9.fresh with fenceState := 2 } } rfl rfl rfl).2 rfl
    exact ⟨_, e⟩
  · exact ⟨_, h2 0 (pinState { Pins.fresh with quenchSince := 64000000 - 160000 }) rfl (by decide +kernel)⟩
  · obtain ⟨t, _, _, _, _, _, a, b⟩ := h3 0 0 (pinState { Pins.fresh with quenchWaiting := true }) rfl rfl rfl (by decide +kernel)
    exact ⟨t, a, b⟩
  · exact ⟨_, h4 0 (pinState { Pins.fresh with quenchHigh := false }) rfl rfl rfl rfl rfl (by decide +kernel)⟩
  · obtain ⟨_, e, _⟩ := h5 0 0 0x20 testState (by decide)
    exact ⟨_, e⟩
  · obtain ⟨_, e, _⟩ := h6 0 4 none demo
    exact ⟨_, e⟩
  · obtain ⟨_, e, _⟩ := h7 0 demo
    exact ⟨_, e⟩
/-- `demo` with IMAGE_IDs to issue, and its shakeout objects as given. -/
def dumpState (d : Dump) : State := { demo with imageIds := ⟨5, 300, 300⟩, dump := d }

/-- A shakeout of tiers 0 and 1 in Ladle slot 0. -/
def demoShakeout : Shakeout := ⟨0, false, 3, 0, false, [], [], [], 0, 0, none, []⟩

/-- Its image. -/
def demoImage : Image :=
  ⟨5, 0, 0, 3, 0, 0, false, false, false, false, 400000, 400000, 0, 0, 0, 0, 0, 0, 0x8100, 0, 0, 0, BitVec.allOnes 128, [], [], false⟩

/-- A dump with that shakeout running, the work of die 0 as given. -/
def runningDump (k : Shakeout) (w : DieWork) : Dump :=
  { Dump.fresh with running := some { k with dies := [(0, w)] }, slots := [some demoImage, none, none, none] }

/-- A dump that holds the image. -/
def heldDump : Dump := { Dump.fresh with slots := [none, some demoImage, none, none], latestArea := ⟨5, [], []⟩, select := 5 }

/-- Device recovery runs. -/
def recoverState : State :=
  { dumpState Dump.fresh with hang := { Hang.fresh with proc := { Hang.fresh.proc with l3Phase := 1 } } }

theorem witness_ShakeoutCommands (h : Obligations.ShakeoutCommands) :
    Answers (exec (.soStart 0 hubReq) (dumpState { Dump.fresh with tiers := 1 })) ∧
    Answers (exec (.soStartRef 0 hubReq) ({ dumpState Dump.fresh with qu := { Quench.fresh with state := 3 } })) ∧
    Answers (exec (.soStart 0 hubReq) (dumpState (runningDump demoShakeout DieWork.fresh))) ∧
    Answers (exec (.soStart 0 hubReq) (dumpState Dump.fresh)) ∧
    Answers (exec (.soAbort 0 hubReq) recoverState) ∧
    Answers (exec (.soAbort 0 hubReq) (dumpState Dump.fresh)) ∧
    Answers (exec (.soAbort 0 hubReq) (dumpState (runningDump demoShakeout DieWork.fresh))) ∧
    Answers (exec (.soFettleReserve 0 hubReq) recoverState) ∧
    Answers (exec (.soFettleReserve 0 hubReq) (dumpState Dump.fresh)) ∧
    Answers (exec (.soAck 0 hubReq 6) (dumpState heldDump)) ∧
    Answers (exec (.soAck 0 hubReq 5) (dumpState heldDump)) ∧
    Answers (exec (.reserveFettleDone 0) ({ dumpState { Dump.fresh with fettle := [.refQuarters] } with power := { Power.fresh with admitted := 8 } })) ∧
    Answers (exec (.reserveWrite 0 hubReq 0x4204 1 1) (demo)) ∧
    Answers (exec (.reserveWrite 0 hubReq 0x4204 1 0x04000000) (demo)) := by
  obtain ⟨h1, h2, h3, h4, h5, h6⟩ := h
  and_intros
  · obtain ⟨_, e, _⟩ := ((h1 0 hubReq (dumpState { Dump.fresh with tiers := 1 }) _ hubCtx ⟨rfl, by decide +kernel⟩).1 (by decide +kernel)).1
    exact ⟨_, e⟩
  · obtain ⟨_, e, _⟩ := ((h1 0 hubReq ({ dumpState Dump.fresh with qu := { Quench.fresh with state := 3 } }) _ hubCtx ⟨rfl, by decide +kernel⟩).1 (by decide +kernel)).2
    exact ⟨_, e⟩
  · exact ⟨_, ((h1 0 hubReq (dumpState (runningDump demoShakeout DieWork.fresh)) _ hubCtx ⟨rfl, by decide +kernel⟩).2.1 (by decide +kernel)).1⟩
  · exact ⟨_, (h1 0 hubReq (dumpState Dump.fresh) _ hubCtx ⟨rfl, by decide +kernel⟩).2.2 rfl (by decide +kernel) rfl (by decide +kernel) (by decide +kernel) rfl⟩
  · exact ⟨_, (h2 0 hubReq recoverState _ hubCtx ⟨rfl, by decide +kernel⟩).1 (by decide +kernel)⟩
  · exact ⟨_, (h2 0 hubReq (dumpState Dump.fresh) _ hubCtx ⟨rfl, by decide +kernel⟩).2.1 (by decide +kernel) rfl⟩
  · obtain ⟨_, _, e, _⟩ := (h2 0 hubReq (dumpState (runningDump demoShakeout DieWork.fresh)) _ hubCtx ⟨rfl, by decide +kernel⟩).2.2 (by decide +kernel) (by decide +kernel)
    exact ⟨_, e⟩
  · exact ⟨_, (h3 0 hubReq recoverState _ hubCtx ⟨rfl, by decide +kernel⟩).1 (.inl (by decide +kernel))⟩
  · obtain ⟨_, e, _⟩ := (h3 0 hubReq (dumpState Dump.fresh) _ hubCtx ⟨rfl, by decide +kernel⟩).2 (by decide +kernel) rfl
    exact ⟨_, e⟩
  · exact ⟨_, (h4 0 6 hubReq (dumpState heldDump) _ hubCtx ⟨rfl, by decide +kernel⟩).1 (by decide +kernel)⟩
  · obtain ⟨_, e, _⟩ := (h4 0 5 hubReq (dumpState heldDump) _ hubCtx ⟨rfl, by decide +kernel⟩).2 1 demoImage (by decide +kernel) (by decide +kernel) (by decide +kernel) (by decide +kernel) rfl (by decide +kernel)
    exact ⟨_, e⟩
  · exact ⟨_, h5 0 ({ dumpState { Dump.fresh with fettle := [.refQuarters] } with power := { Power.fresh with admitted := 8 } }) (by decide +kernel)⟩
  · exact ⟨_, (h6 0 0x4204 1 1 hubReq (demo) _ hubCtx _ (.inl rfl) ⟨rfl, by decide +kernel⟩ rfl (by decide +kernel) (by decide +kernel)).1 (by decide +kernel)⟩
  · obtain ⟨_, e, _⟩ := (h6 0 0x4204 1 0x04000000 hubReq (demo) _ hubCtx _ (.inl rfl) ⟨rfl, by decide +kernel⟩ rfl (by decide +kernel) (by decide +kernel)).2 (by decide +kernel) rfl rfl
    exact ⟨_, e⟩

/-- A tier 1 record of slot 0 of cluster 0 in collection, read at offset 0 outstanding. -/
def readingWork : DieWork := { DieWork.fresh with out := [⟨0, 0x10, 0, 0⟩], parts := [⟨0, 0x10, [], [], false, false, 0, none⟩] }

/-- A record of a tier being written. -/
def demoRec (type tier : Nat) : Rec := ⟨0, type, tier, 0, 0, 0, 4, [1, 2, 3, 4], 0, 0, 0⟩

/-- The die that writes it. -/
def writingWork (r : Rec) : DieWork := { DieWork.fresh with writing := [⟨r, 9, 0, 0⟩] }

/-- The die reads a record of slot 0, whose engines run. -/
def clockedState : State :=
  { dumpState (runningDump demoShakeout readingWork) with
    units := { Units.fresh with taps := [(0, runningTap)] } }

theorem witness_ShakeoutRecords (h : Obligations.ShakeoutRecords) :
    Answers (exec (.debugReadComplete 0 0 0 0x10 0 1 [] []) (dumpState (runningDump demoShakeout readingWork))) ∧
    Answers (exec (.debugReadComplete 0 0 0 0x10 0 0 [] []) (dumpState (runningDump demoShakeout readingWork))) ∧
    exec (.debugReadComplete 0 0 0 0x10 0 0 [] []) clockedState = exec (.debugReadComplete 0 0 0 0x10 0 1 [] []) clockedState ∧
    Answers (exec (.debugReadTimeout 8000000 0 0 0x10 0) (dumpState (runningDump demoShakeout readingWork))) ∧
    Answers (exec (.recordWriteComplete 0 0 0 0x10 0 true true) (dumpState (runningDump demoShakeout (writingWork (demoRec 0x10 1))))) ∧
    Answers (exec (.recordWriteComplete 0 0 0 0x10 0 false false) (dumpState (runningDump demoShakeout (writingWork (demoRec 0x10 1))))) ∧
    Answers (exec (.ladleWriteTimeout 8000000 0 0 1) (dumpState (runningDump demoShakeout (writingWork (demoRec 1 0))))) := by
  obtain ⟨h1, h2, h3, h4⟩ := h
  and_intros
  · obtain ⟨_, _, e, _⟩ := (h1 0 0 0 0x10 0 [] [] _ _ (rfl : (dumpState (runningDump demoShakeout readingWork)).dump.running = some _) (by decide +kernel) (by decide +kernel) (by decide +kernel) (by decide +kernel)).1 (by decide +kernel)
    exact ⟨_, e⟩
  · obtain ⟨_, e, _⟩ := (h1 0 0 0 0x10 0 [] [] _ _ (rfl : (dumpState (runningDump demoShakeout readingWork)).dump.running = some _) (by decide +kernel) (by decide +kernel) (by decide +kernel) (by decide +kernel)).2.2 (by decide +kernel)
    exact ⟨_, e⟩
  · exact (h1 0 0 0 0x10 0 [] [] _ _ (rfl : clockedState.dump.running = some _) (by decide +kernel) (by decide +kernel) (by decide +kernel) (by decide +kernel)).2.1 (by decide +kernel)
  · refine ⟨_, (h2 8000000 0 0 0x10 0 0x40 (dumpState (runningDump demoShakeout readingWork)) ⟨0, 0x10, 0, 0⟩ ?_ ?_ rfl ?_ ?_ ?_ rfl ?_).choose_spec.choose_spec.1⟩ <;> decide +kernel
  · obtain ⟨_, e, _⟩ := (h3 0 0 0 0x10 0 (dumpState (runningDump demoShakeout (writingWork (demoRec 0x10 1)))) ⟨demoRec 0x10 1, 9, 0, 0⟩ _ (by decide +kernel) rfl rfl).1 (by decide +kernel)
    exact ⟨_, e⟩
  · obtain ⟨_, e, _⟩ := (h3 0 0 0 0x10 0 (dumpState (runningDump demoShakeout (writingWork (demoRec 0x10 1)))) ⟨demoRec 0x10 1, 9, 0, 0⟩ _ (by decide +kernel) rfl rfl).2
    exact ⟨_, e⟩
  · obtain ⟨_, e, _⟩ := h4 8000000 0 0 1 (dumpState (runningDump demoShakeout (writingWork (demoRec 1 0)))) ⟨demoRec 1 0, 9, 0, 0⟩ (by decide +kernel) rfl (by decide +kernel)
    exact ⟨_, e⟩

/-- A shakeout of a tier whose seal wave began at 399,232 ns. -/
def sealing (again : Bool) : Shakeout := { demoShakeout with sealWave := some ⟨1, 399232, again⟩ }

/-- `dumpState` sealing. -/
def sealState (again : Bool) : State := dumpState (runningDump (sealing again) DieWork.fresh)

/-- `dumpState` with the image held and a tier 0 record in it. -/
def readoutState (secure : Bool) : State :=
  dumpState { heldDump with slots := [some { demoImage with dumpSecure := secure, tier0 := [demoRec 1 0] }, none, none, none], recordKey := [0, 0, 1, 0, 0, 0, 0, 0] }

/-- A state past its lifecycle's open stages: both key stores OPERATIONAL. -/
def ownedState (s : State) : State :=
  { s with lc := { Lifecycle.blank with storeA := { KeyStore.blank with lcState := 2 }, storeB := { KeyStore.blank with lcState := 2 } } }

theorem witness_ShakeoutSealsAndReadout (h : Obligations.ShakeoutSealsAndReadout) :
    Answers (exec (.sealPartReport 0 0 0) (dumpState (runningDump demoShakeout { DieWork.fresh with tier0Built := true }))) ∧
    Answers (exec (.sealResult 0 0) (sealState false)) ∧
    Answers (exec (.sealResult 0 1) (sealState false)) ∧
    Answers (exec (.sealResult 0 1) (sealState true)) ∧
    Answers (exec (.soRunnerLost 0 0) (dumpState (runningDump demoShakeout { DieWork.fresh with still := 2 }))) ∧
    Answers (exec (.soHeaderRead 0 hubReq) (readoutState false)) ∧
    Answers (exec (.soRecordRead 0 hubReq true true) (readoutState false)) ∧
    Answers (exec (.soRecordRead 0 hubReq true true) (ownedState (readoutState true))) := by
  obtain ⟨h1, h2, h3, h4, h5⟩ := h
  and_intros
  · refine ⟨_, (h1 0 0 0 (dumpState (runningDump demoShakeout { DieWork.fresh with tier0Built := true })) _ demoImage rfl rfl ?_ ?_ ?_ ?_ ?_).choose_spec.1⟩ <;> decide +kernel
  · exact ⟨_, (h2 0 0 (sealState false) _ demoImage ⟨1, 399232, false⟩ rfl rfl rfl (by decide +kernel)).1 (by decide +kernel)⟩
  · exact ⟨_, (h2 0 1 (sealState false) _ demoImage ⟨1, 399232, false⟩ rfl rfl rfl (by decide +kernel)).2.1 (by decide +kernel) rfl⟩
  · exact ⟨_, (h2 0 1 (sealState true) _ demoImage ⟨1, 399232, true⟩ rfl rfl rfl (by decide +kernel)).2.2 (by decide +kernel) rfl⟩
  · obtain ⟨_, e, _⟩ := h3 0 0 0 (dumpState (runningDump demoShakeout { DieWork.fresh with still := 2 })) _ rfl (by decide +kernel) (by decide +kernel) (by decide +kernel) (by decide +kernel)
    exact ⟨_, e⟩
  · exact (let ⟨_, _, _, e, _⟩ := h4 0 hubReq (readoutState false) _ hubCtx _ ⟨rfl, by decide +kernel⟩ rfl (by decide +kernel); ⟨_, e⟩)
  · exact (let ⟨_, _, _, e, _⟩ := (h5 0 hubReq true true (readoutState false) _ hubCtx _ ⟨rfl, by decide +kernel⟩ rfl).2 (demoRec 1 0) (by decide +kernel) (by decide +kernel) (by decide +kernel); ⟨_, e⟩)
  · exact ⟨_, (h5 0 hubReq true true (ownedState (readoutState true)) _ hubCtx _ ⟨rfl, by decide +kernel⟩ rfl).1 (by decide +kernel) (by decide +kernel)⟩

/-- `demo` with its detection state as given. -/
def hangState (h : Hang) : State := { demo with hang := h }

/-- A context removal on the way, under CAST_ID 9. -/
def demoRemove (hold : Bool) : CtxCast :=
  ⟨9, .remove, hold, [3], [1], ctxTargets, 0, 0, 0, 0, [], 144, 0, false, none⟩

/-- A procedure of an engine, in a state. -/
def demoProc (state : Nat) : Procedure := { Procedure.fresh with state := state, level := 1, trigger := 1, collectAt := 400000, imageId := 5 }

theorem witness_HangVerdicts (h : Obligations.HangVerdicts) :
    Answers (exec (.reportEvaluation 0) (atPns 425000 (hangState { Hang.fresh with evalDue := [99] }))) ∧
    Answers (exec (.hbMiss 0 0) (hangState { Hang.fresh with beats := [(0, { BeatWatch.fresh with miss := 4, beaten := true })] })) ∧
    Answers (exec (.hangEngine 0 0 3) (hangState { Hang.fresh with engines := [(3, { EngineScan.fresh with stall := 8 })] })) ∧
    Answers (exec (.runnerSilent 0 0) ({ demo with units := { Units.fresh with runners := [(0, { Runner.fresh with inReset := false, missed := 2 })] } })) ∧
    Answers (exec (.tapSilent 0 0) (({ hangState { Hang.fresh with beats := [(0, { BeatWatch.fresh with tapSilentFrames := 4 })] } with topo := (demo.setHealth (tapUid 0) 4).topo } : State))) ∧
    Answers (exec (.hangWaitClear 0) (hangState { Hang.fresh with proc := demoProc 10 })) ∧
    Answers (exec (.hangCollect 0) ({ hangState { Hang.fresh with proc := { demoProc 2 with usesCut := true } } with qu := { Quench.fresh with state := 3 } })) ∧
    Answers (exec (.runnerNoTick 0 0) (atPns 2000000 { runnerState with units := { runnerState.units with replicas := [(runnerUid 0, { trackingRep with clock := ⟨2000000 * 2 ^ 48, 0, 0, 0, 0, true⟩ })] } })) := by
  obtain ⟨h1, h2, h3, h4, h5, h6, h7, h8⟩ := h
  and_intros
  · obtain ⟨_, e, _⟩ := h1 0 99 [] (atPns 425000 (hangState { Hang.fresh with evalDue := [99] })) rfl (by decide +kernel)
    exact ⟨_, e⟩
  · obtain ⟨_, e, _⟩ := h2 0 0 (hangState { Hang.fresh with beats := [(0, { BeatWatch.fresh with miss := 4, beaten := true })] }) (by decide +kernel) (by decide +kernel)
    exact ⟨_, e⟩
  · obtain ⟨_, e, _⟩ := h3 0 0 3 (hangState { Hang.fresh with engines := [(3, { EngineScan.fresh with stall := 8 })] }) (by decide +kernel) (by decide +kernel) (by decide +kernel) (by decide +kernel)
    exact ⟨_, e⟩
  · obtain ⟨_, e, _⟩ := h4 0 0 ({ demo with units := { Units.fresh with runners := [(0, { Runner.fresh with inReset := false, missed := 2 })] } }) (by decide +kernel) (by decide +kernel) (by decide +kernel) (by decide +kernel)
    exact ⟨_, e⟩
  · obtain ⟨_, e, _⟩ := h5 0 0 (({ hangState { Hang.fresh with beats := [(0, { BeatWatch.fresh with tapSilentFrames := 4 })] } with topo := (demo.setHealth (tapUid 0) 4).topo } : State)) (by decide +kernel) (by decide +kernel) (by decide +kernel) (by decide +kernel)
    exact ⟨_, e⟩
  · exact ⟨_, h6 0 (hangState { Hang.fresh with proc := demoProc 10 }) (by decide +kernel) (by decide +kernel)⟩
  · refine ⟨_, (h7 0 ({ hangState { Hang.fresh with proc := { demoProc 2 with usesCut := true } } with qu := { Quench.fresh with state := 3 } }) ?_ ?_ ?_ ?_ ?_).choose_spec.1⟩ <;> decide +kernel
  · refine ⟨_, (h8 0 0 (atPns 2000000 { runnerState with units := { runnerState.units with replicas := [(runnerUid 0, { trackingRep with clock := ⟨2000000 * 2 ^ 48, 0, 0, 0, 0, true⟩ })] } }) ?_ ?_ ?_ ?_ ?_ ?_).choose_spec.1⟩ <;> decide +kernel

theorem witness_MissAndStallCounts (h : Obligations.MissAndStallCounts) :
    ((demo.watchBeat 0 100 (some 1)).hang.beats = [(0, ⟨0, true, 1, 100, 0, false⟩)]) ∧
    ((EngineScan.mk 5 1 true 7 false).next ⟨0, 6, 1⟩ true).stall = 0 ∧
    ((EngineScan.mk 5 1 true 7 false).next ⟨0, 5, 1⟩ true).stall = 8 ∧
    ((tapState Tap.fresh).scanEngine 0 ⟨0, 5, 1⟩).1.progress = 0 := by
  obtain ⟨h1, _, h3, h4⟩ := h
  refine ⟨?_, ?_, ?_, ?_⟩
  · obtain ⟨_, _⟩ := h1 demo 0 100 1 (by decide +kernel)
    decide +kernel
  · exact (h3 _ _ _).2.1 (by decide)
  · exact (h3 ⟨5, 1, true, 7, false⟩ ⟨0, 5, 1⟩ true).2.2 (by decide)
  · exact (h4 (tapState Tap.fresh) 0 ⟨0, 5, 1⟩).2 (by decide +kernel)

theorem witness_ContextRemoval (h : Obligations.ContextRemoval) :
    Answers (exec (.contextRemove 0 hubReq 4096) (demo)) ∧
    Answers (exec (.contextRemove 0 hubReq 4095) (demo)) ∧
    Answers (exec (.contextRemove 0 hubReq 3) (hangState { Hang.fresh with contexts := [(3, 768)] })) ∧
    Answers (exec (.contextRemove 0 hubReq 3) (hangState { Hang.fresh with contexts := [(3, 1280)] })) ∧
    Answers (exec (.removeCastIssue 0) (hangState { Hang.fresh with queue := [⟨3, false, false⟩] })) ∧
    Answers (exec (.contextCastReceive 0 0 ((demoRemove false).octets false ctxTargets) 0 0 0) (tapState runningTap)) ∧
    Answers (exec (.removeCountComplete 0 9) (hangState { Hang.fresh with casts := [demoRemove false] })) ∧
    Answers (exec (.drainElapsed 0 9) (hangState { Hang.fresh with casts := [{ demoRemove true with counted := true, drainAt := some 400000 }], contexts := [(3, 513)] })) ∧
    Answers (exec (.contextFettleDone 0 3 15) (hangState { Hang.fresh with contexts := [(3, 1537)], fettling := [(3, 32768)] })) := by
  obtain ⟨h1, h2, h3, h4, h5, h6⟩ := h
  and_intros
  · exact ⟨_, (h1 0 4096 hubReq (demo) _ hubCtx ⟨rfl, by decide +kernel⟩).1 _ (show State.removeRefusal _ _ = some Abort.valueRange from by decide +kernel)⟩
  · obtain ⟨_, e, _⟩ := (h1 0 4095 hubReq (demo) _ hubCtx ⟨rfl, by decide +kernel⟩).2.1 (by decide +kernel) (by decide +kernel) (by decide +kernel)
    exact ⟨_, e⟩
  · exact ⟨_, (h1 0 3 hubReq (hangState { Hang.fresh with contexts := [(3, 768)] }) _ hubCtx ⟨rfl, by decide +kernel⟩).2.2.1 (by decide +kernel) (by decide +kernel) (by decide +kernel)⟩
  · exact ⟨_, (h1 0 3 hubReq (hangState { Hang.fresh with contexts := [(3, 1280)] }) _ hubCtx ⟨rfl, by decide +kernel⟩).2.2.2 (by decide +kernel) (by decide +kernel) (by decide +kernel)⟩
  · obtain ⟨_, _, e, _⟩ := h2 0 (hangState { Hang.fresh with queue := [⟨3, false, false⟩] }) (by decide +kernel) (by decide +kernel)
    exact ⟨_, e⟩
  · obtain ⟨_, e, _⟩ := h3 0 0 0 0 0 ((demoRemove false).octets false ctxTargets) ((CtxOrder.ofOctets ((demoRemove false).octets false ctxTargets)).get (by decide +kernel)) (tapState runningTap) (by simp) (by decide +kernel) (by decide +kernel) (by decide +kernel) (by decide +kernel)
    exact ⟨_, e⟩
  · obtain ⟨_, e, _⟩ := h4 0 9 (hangState { Hang.fresh with casts := [demoRemove false] }) (demoRemove false) (by decide +kernel) (by decide +kernel) (by decide +kernel) (by decide +kernel)
    exact ⟨_, e⟩
  · refine ⟨_, (h5 0 9 3 1 400000 (hangState { Hang.fresh with casts := [{ demoRemove true with counted := true, drainAt := some 400000 }], contexts := [(3, 513)] }) { demoRemove true with counted := true, drainAt := some 400000 } ?_ ?_ ?_ ?_ ?_ ?_ ?_ ?_ ?_ ?_).choose_spec.1⟩ <;> decide +kernel
  · exact ⟨_, h6 0 3 15 (hangState { Hang.fresh with contexts := [(3, 1537)], fettling := [(3, 32768)] }) (by decide +kernel) (by decide +kernel) (by decide +kernel) (by decide +kernel)⟩

/-- A replay of context 3. -/
def demoReplay (acted : Bool) : Replay := ⟨9, 3, acted, 0, 0, 256, 8, 0, 0⟩

/-- `demo` replaying suspect 3. -/
def replayState (acted : Bool) : State :=
  hangState { Hang.fresh with replay := some (demoReplay acted), proc := { demoProc 6 with suspects := [⟨3, 1, 0, none⟩] }, contexts := [(3, 1025)] }

/-- That replay's cast is open, and its target reads 4. -/
def silentReplay : State :=
  let s := replayState false
  { s.setHealth (targetUid 0) 4 with hang := { s.hang with casts := [{ demoRemove false with targets := 1 }] } }

theorem witness_IsolateReplay (h : Obligations.IsolateReplay) :
    Answers (exec (.replayResponse 0 9 Cx.acted 0 1) (replayState false)) ∧
    Answers (exec (.replayResponse 0 9 Cx.replayFault 0 1) (replayState true)) ∧
    (∃ t, exec (.replayResponse 0 9 Cx.acted 0 1) silentReplay = .next t ∧ t.health (targetUid 0) = 0) ∧
    Answers (exec (.replayStall 0) (replayState true)) ∧
    Answers (exec (.replayTimeout 0) (replayState true)) := by
  obtain ⟨h1, h2, h3⟩ := h
  refine ⟨?_, ?_, ?_, ?_, ?_⟩
  · obtain ⟨_, e, _⟩ := (h1 0 9 0 1 (replayState false) (demoReplay false) rfl rfl).1 rfl
    exact ⟨_, e⟩
  · obtain ⟨_, e, _⟩ := (h1 0 9 0 1 (replayState true) (demoReplay true) rfl rfl).2 Cx.replayFault 2 (by decide +kernel)
    exact ⟨_, e⟩
  · obtain ⟨_, e, _, p⟩ := (h1 0 9 0 1 silentReplay (demoReplay false) rfl rfl).1 rfl
    exact ⟨_, e, p (by decide +kernel) { demoRemove false with targets := 1 } 0 (by decide +kernel) (by decide +kernel) (by decide +kernel)⟩
  · exact ⟨_, h2 0 (replayState true) (demoReplay true) rfl rfl (by decide +kernel)⟩
  · obtain ⟨_, e, _⟩ := h3 0 (replayState true) (demoReplay true) rfl rfl (by decide +kernel)
    exact ⟨_, e⟩

/-- A unit reset in a state, with its mode. -/
def demoReset (uid state mode : Nat) : UnitReset := { UnitReset.fresh with state := state, uid := uid, mode := mode, active := true, since := some 0 }

/-- `demo` with that unit reset, `e` steps after its instant. -/
def resetState (e : Nat) (r : UnitReset) : State := { hangState { Hang.fresh with reset := r } with elapsed := e }

theorem witness_UnitResets (h : Obligations.UnitResets) :
    Answers (exec (.unitResetPulse 0 hubReq 0 0 true) (demo)) ∧
    Answers (exec (.unitResetHold 0 hubReq 0x8009 0 true) (demo)) ∧
    Answers (exec (.unitResetPulse 0 hubReq 0x8001 0 true) (demo)) ∧
    Answers (exec (.unitResetHold 0 hubReq 0x8001 0 true) (demo)) ∧
    Answers (exec (.unitResetRelease 0 hubReq 0x8001 0 true) (hangState { Hang.fresh with reset := demoReset 0x8001 2 (resetMode 1 0 true) })) ∧
    Answers (exec (.unitResetAssert 0) (resetState 1600000 (demoReset 0x8001 1 (resetMode 0 0 true)))) ∧
    Answers (exec (.unitResetReleaseDue 0) (resetState 100000000 (demoReset 0x8001 2 (resetMode 0 0 true)))) ∧
    Answers (exec (.unitResetDone 0) (resetState 0 (demoReset 0x8001 3 (resetMode 0 0 true)))) ∧
    Answers (exec (.l2Failed 0) (resetState 6400000000 (demoReset 0x8001 3 (resetMode 0 0 true)))) ∧
    Answers (exec (.l2Failed 0) (resetState 6400000000 (demoReset 0x8000 3 (resetMode 0 0 true)))) := by
  obtain ⟨h1, h2, h3, h4, h5⟩ := h
  and_intros
  · exact ⟨_, (h1 0 0 0 true hubReq (demo) _ hubCtx ⟨rfl, by decide +kernel⟩).1 _ (show State.resetRefusal _ _ _ _ _ = some Abort.valueRange from by decide +kernel)⟩
  · exact ⟨_, (h1 0 0x8009 0 true hubReq (demo) _ hubCtx ⟨rfl, by decide +kernel⟩).2.1 _ (show State.resetRefusal _ _ _ _ _ = some Abort.unitUnknown from by decide +kernel)⟩
  · obtain ⟨_, e, _⟩ := ((h1 0 0x8001 0 true hubReq (demo) _ hubCtx ⟨rfl, by decide +kernel⟩).2.2.1 (by decide +kernel)).1 (by decide +kernel)
    exact ⟨_, e⟩
  · obtain ⟨_, e, _⟩ := ((h1 0 0x8001 0 true hubReq (demo) _ hubCtx ⟨rfl, by decide +kernel⟩).2.2.1 (by decide +kernel)).2 (by decide +kernel)
    exact ⟨_, e⟩
  · obtain ⟨_, e, _⟩ := (h1 0 0x8001 0 true hubReq (hangState { Hang.fresh with reset := demoReset 0x8001 2 (resetMode 1 0 true) }) _ hubCtx ⟨rfl, by decide +kernel⟩).2.2.2 (by decide +kernel)
    exact ⟨_, e⟩
  · obtain ⟨_, e, _⟩ := h2 0 0 (resetState 1600000 (demoReset 0x8001 1 (resetMode 0 0 true))) rfl rfl rfl (by decide +kernel)
    exact ⟨_, e⟩
  · exact ⟨_, h3 0 (resetState 100000000 (demoReset 0x8001 2 (resetMode 0 0 true))) rfl rfl (by decide +kernel) (by decide +kernel)⟩
  · obtain ⟨_, e, _⟩ := h4 0 (resetState 0 (demoReset 0x8001 3 (resetMode 0 0 true))) rfl rfl (by decide +kernel)
    exact ⟨_, e⟩
  · obtain ⟨_, e, _⟩ := (h5 0 0 (resetState 6400000000 (demoReset 0x8001 3 (resetMode 0 0 true))) rfl (by decide +kernel) rfl (by decide +kernel)).1 (by decide +kernel)
    exact ⟨_, e⟩
  · obtain ⟨_, e, _⟩ := (h5 0 0 (resetState 6400000000 (demoReset 0x8000 3 (resetMode 0 0 true))) rfl (by decide +kernel) rfl (by decide +kernel)).2 (by decide +kernel) rfl
    exact ⟨_, e⟩

/-- Device recovery in a phase. -/
def recoveryState (phase : Nat) : State :=
  hangState { Hang.fresh with proc := { demoProc 9 with trigger := 7, l3Phase := phase } }

theorem witness_DeviceRecovery (h : Obligations.DeviceRecovery) :
    Answers (exec (.recoveryLevel 0 hubReq 2) (demo)) ∧
    Answers (exec (.recoveryLevel 0 hubReq 3) (recoveryState 1)) ∧
    Answers (exec (.recoveryLevel 0 hubReq 3) (demo)) ∧
    Answers (exec (.l3PhaseEnd 0) (recoveryState 7)) ∧
    Answers (exec (.l3PhaseEnd 0) (recoveryState 1)) ∧
    Answers (exec (.l3Failed 0) ({ recoveryState 1 with elapsed := 160000001 })) := by
  obtain ⟨h1, h2, h3⟩ := h
  refine ⟨?_, ?_, ?_, ?_, ?_, ?_⟩
  · exact ⟨_, (h1 0 2 hubReq (demo) _ hubCtx ⟨rfl, by decide +kernel⟩).1 (by decide +kernel)⟩
  · exact ⟨_, (h1 0 3 hubReq (recoveryState 1) _ hubCtx ⟨rfl, by decide +kernel⟩).2.1 (by decide +kernel)⟩
  · obtain ⟨_, e, _⟩ := (h1 0 3 hubReq (demo) _ hubCtx ⟨rfl, by decide +kernel⟩).2.2 (by decide +kernel)
    exact ⟨_, e⟩
  · obtain ⟨_, e, _⟩ := h2 0 (recoveryState 7) (by decide +kernel) (by decide +kernel)
    exact ⟨_, e⟩
  · obtain ⟨_, e, _⟩ := h2 0 (recoveryState 1) (by decide +kernel) (by decide +kernel)
    exact ⟨_, e⟩
  · obtain ⟨_, e, _⟩ := h3 0 ({ recoveryState 1 with elapsed := 160000001 }) (by decide +kernel) (by decide +kernel)
    exact ⟨_, e⟩

/-- `demo` with its fault management as given. -/
def fmState (f : Fault9) : State := { demo with fm := f }

/-- A beacon of hub 9. -/
def demoBeacon : List Byte :=
  let b := be 1 0x10 ++ be 1 1 ++ be 2 4 ++ zeros 4 ++ be 8 9 ++ zeros 8 ++ be 2 1 ++ zeros 2
  b ++ be 4 (crc32c b)

theorem witness_StepMarksAndSuspect (h : Obligations.StepMarksAndSuspect) :
    Answers (exec (.stepMark 0 5 5 5) (demo)) ∧
    Answers (exec (.stepMark 0 5 5 6) (demo)) ∧
    Answers (exec (.jobViewExpire 0) ({ fmState { Fault9.fresh with jobView := 1 } with frame := { demo.frame with number := 1024 } })) ∧
    Answers (exec (.suspectEnter 0) (fmState { Fault9.fresh with disagree := 16 })) ∧
    Answers (exec (.suspectDump 0) (fmState { Fault9.fresh with suspectState := 1, suspectPns := 399000 })) ∧
    Answers (exec (.selfTestEnd 0 ⟨0, 0, 0, 0⟩) (fmState { Fault9.fresh with suspectState := 2 })) ∧
    Answers (exec (.selfTestEnd 0 ⟨0, 0, 0, 0⟩) ({ demo with adm := { Admission.fresh with state := 1 } })) ∧
    Answers (exec (.suspectCleared 0) (fmState { Fault9.fresh with suspectState := 3, agreeFrames := 16 })) ∧
    Answers (exec (.suspectCmdClear 0 hubReq) (fmState { Fault9.fresh with suspectState := 2 })) ∧
    Answers (exec (.suspectCmdClear 0 hubReq) (fmState { Fault9.fresh with suspectState := 3 })) ∧
    Answers (exec (.beaconReceive 0 1 demoBeacon) (podState)) := by
  obtain ⟨h1, h2, h3, h4, h5, h6, h7, h8⟩ := h
  and_intros
  · obtain ⟨_, e, _⟩ := (h1 0 5 5 5 (demo)).1 rfl rfl
    exact ⟨_, e⟩
  · exact ⟨_, (h1 0 5 5 6 (demo)).2 (by decide +kernel)⟩
  · exact ⟨_, h2 0 ({ fmState { Fault9.fresh with jobView := 1 } with frame := { demo.frame with number := 1024 } }) (by decide +kernel) (by decide +kernel)⟩
  · obtain ⟨_, e, _⟩ := h3 0 (fmState { Fault9.fresh with disagree := 16 }) rfl (by decide +kernel)
    exact ⟨_, e⟩
  · exact ⟨_, h4 0 (fmState { Fault9.fresh with suspectState := 1, suspectPns := 399000 }) rfl (by decide +kernel) (by decide +kernel)⟩
  · obtain ⟨_, e, _⟩ := (h5 0 ⟨0, 0, 0, 0⟩ (fmState { Fault9.fresh with suspectState := 2 }) (by decide +kernel) (by decide +kernel)).1 rfl
    exact ⟨_, e⟩
  · obtain ⟨_, e, _⟩ := (h5 0 ⟨0, 0, 0, 0⟩ ({ demo with adm := { Admission.fresh with state := 1 } }) (by decide +kernel) (by decide +kernel)).2 (by decide +kernel) rfl
    exact ⟨_, e⟩
  · obtain ⟨_, e, _⟩ := h6 0 (fmState { Fault9.fresh with suspectState := 3, agreeFrames := 16 }) rfl (by decide +kernel)
    exact ⟨_, e⟩
  · exact ⟨_, (h7 0 hubReq (fmState { Fault9.fresh with suspectState := 2 }) _ hubCtx ⟨rfl, by decide +kernel⟩).1 (by decide +kernel)⟩
  · obtain ⟨_, e, _⟩ := (h7 0 hubReq (fmState { Fault9.fresh with suspectState := 3 }) _ hubCtx ⟨rfl, by decide +kernel⟩).2 rfl
    exact ⟨_, e⟩
  · obtain ⟨_, e, _⟩ := h8 0 1 demoBeacon (podState) (by decide +kernel) (by decide +kernel) (by decide +kernel) (by decide +kernel)
    exact ⟨_, e⟩

/-- An expulsion order of a kind, signed by keys 0 to 2. -/
def demoOrder (kind : Nat) : List Byte :=
  be 1 1 ++ be 1 kind ++ zeros 2 ++ be 4 7 ++ be 8 1 ++ zeros 8 ++ be 8 500000 ++ zeros 16 ++ be 1 3 ++ zeros 3 ++
    (be 1 0 ++ zeros 99) ++ (be 1 1 ++ zeros 99) ++ (be 1 2 ++ zeros 99)

/-- `fmState` with three manager keys. -/
def keyedState (f : Fault9) : State := { fmState f with lc := { Lifecycle.blank with mgrKeys := [[4], [4], [4], [], []] } }

/-- Signature checks are the standard's (log entry 10): the witness assumes that they accept. -/
theorem expel_accepted (sign : ∀ key m g, Config.ecdsaVerify key m g = true) :
    ((keyedState { Fault9.fresh with fenceSeq := 6 }).begin 0).orderRefusal (demoOrder 1) = none := by
  have g : ((keyedState { Fault9.fresh with fenceSeq := 6 }).begin 0).orderSignatures (demoOrder 1) = 3 := by
    simp only [State.orderSignatures, sign, Bool.and_true]
    decide +kernel
  unfold State.orderRefusal
  rw [g]
  decide +kernel

theorem release_accepted (sign : ∀ key m g, Config.ecdsaVerify key m g = true) :
    ((keyedState { Fault9.fresh with fenceSeq := 6, fenceState := 2 }).begin 0).orderRefusal (demoOrder 2) = none := by
  have g : ((keyedState { Fault9.fresh with fenceSeq := 6, fenceState := 2 }).begin 0).orderSignatures (demoOrder 2) = 3 := by
    simp only [State.orderSignatures, sign, Bool.and_true]
    decide +kernel
  unfold State.orderRefusal
  rw [g]
  decide +kernel

theorem witness_Expulsion (h : Obligations.Expulsion)
    (sign : ∀ key m g, Config.ecdsaVerify key m g = true) :
    Answers (exec (.expelPortFence 0) (fmState { Fault9.fresh with expelPhase := 1, expelAt := 396000 })) ∧
    Answers (exec (.expel 0 hubReq []) (demo)) ∧
    Answers (exec (.expelRelease 0 hubReq []) (demo)) ∧
    Answers (exec (.expel 0 hubReq (demoOrder 1)) (keyedState { Fault9.fresh with fenceSeq := 6 })) ∧
    Answers (exec (.expelRelease 0 hubReq (demoOrder 2)) (keyedState { Fault9.fresh with fenceSeq := 6, fenceState := 2 })) ∧
    Answers (exec (.expelCut 0) ({ fmState { Fault9.fresh with expelPhase := 2 } with qu := { Quench.fresh with state := 3 } })) ∧
    Answers (exec (.expelCut 0) (fmState { Fault9.fresh with expelPhase := 2 })) ∧
    Answers (exec (.expelCollect 0) ({ fmState { Fault9.fresh with expelPhase := 3, expelCutAt := 398000 } with qu := { Quench.fresh with state := 3 } })) ∧
    Answers (exec (.shakeoutClose 0) (dumpState (runningDump { demoShakeout with sealed := [0, 1] } DieWork.fresh))) := by
  obtain ⟨h1, h2, h3, h4, h5⟩ := h
  and_intros
  · obtain ⟨_, e, _⟩ := h2 0 (fmState { Fault9.fresh with expelPhase := 1, expelAt := 396000 }) rfl (by decide +kernel)
    exact ⟨_, e⟩
  · exact ⟨_, ((h1 0 [] hubReq (demo) _ hubCtx ⟨rfl, by decide +kernel⟩).1 Abort.valueRange (by decide +kernel)).1⟩
  · exact ⟨_, ((h1 0 [] hubReq (demo) _ hubCtx ⟨rfl, by decide +kernel⟩).1 Abort.valueRange (by decide +kernel)).2⟩
  · obtain ⟨_, e, _⟩ := (h1 0 (demoOrder 1) hubReq (keyedState { Fault9.fresh with fenceSeq := 6 }) _ hubCtx ⟨rfl, by decide +kernel⟩).2.1 (expel_accepted sign) (by decide +kernel) rfl
    exact ⟨_, e⟩
  · obtain ⟨_, e, _⟩ := (h1 0 (demoOrder 2) hubReq (keyedState { Fault9.fresh with fenceSeq := 6, fenceState := 2 }) _ hubCtx ⟨rfl, by decide +kernel⟩).2.2 (release_accepted sign) (by decide +kernel) (by decide +kernel)
    exact ⟨_, e⟩
  · exact ⟨_, (h3 0 ({ fmState { Fault9.fresh with expelPhase := 2 } with qu := { Quench.fresh with state := 3 } }) rfl).1 rfl⟩
  · exact ⟨_, (h3 0 (fmState { Fault9.fresh with expelPhase := 2 }) rfl).2 (.inl rfl) _ 0 (Prod.ext rfl (by decide +kernel))⟩
  · obtain ⟨_, e, _⟩ := h4 0 ({ fmState { Fault9.fresh with expelPhase := 3, expelCutAt := 398000 } with qu := { Quench.fresh with state := 3 } }) rfl (by decide +kernel) (by decide +kernel) rfl rfl (by decide +kernel)
    exact ⟨_, e⟩
  · obtain ⟨_, e, _⟩ := h5 0 (dumpState (runningDump { demoShakeout with sealed := [0, 1] } DieWork.fresh)) demoImage (by decide +kernel) (by decide +kernel)
    exact ⟨_, e⟩

/-- `demo` with its admission as given. -/
def admState (a : Admission) : State := { demo with adm := a }

/-- An ADM_LAYOUT of one core and an ADM_SOURCE of one region of 8 octets. -/
def demoLayout : List Byte := be 1 1 ++ be 1 0 ++ be 2 1 ++ zeros 48
def demoSource : List Byte := be 2 1 ++ be 1 1 ++ be 1 0 ++ be 2 0 ++ be 4 1 ++ zeros 16 ++ be 8 8

/-- `admState` with the servo LOCKED. -/
def lockedState (a : Admission) : State := { admState a with pod := { Pod.fresh with servo := { Servo.fresh with state := 2 } } }

theorem witness_AdmissionCommands (h : Obligations.AdmissionCommands) :
    Answers (exec (.admBegin 0 hubReq) (demo)) ∧
    Answers (exec (.admBegin 0 hubReq) (lockedState { Admission.fresh with partner := 9, layout := demoLayout })) ∧
    Answers (exec (.admServe 0 hubReq) (admState { Admission.fresh with state := 7 })) ∧
    Answers (exec (.admServe 0 hubReq) (admState { Admission.fresh with partner := 9, source := demoSource })) ∧
    Answers (exec (.admAbort 0 hubReq) (admState { Admission.fresh with state := 8 })) ∧
    Answers (exec (.admAbort 0 hubReq) (admState { Admission.fresh with state := 4, written := true })) ∧
    Answers (exec (.admStall 0) (admState { Admission.fresh with state := 2, lastFrame := 84 })) ∧
    Answers (exec (.admFettleDone 0) ({ admState { Admission.fresh with state := 6, why := 3, regions := [(0, 0, 64)] } with power := { Power.fresh with admitted := 8 } })) ∧
    Answers (exec (.admServeDone 0 true 1 2 3) (admState { Admission.fresh with state := 8 })) := by
  obtain ⟨h1, h2, h3, h4, h5, h6⟩ := h
  and_intros
  · exact ⟨_, (h1 0 hubReq (demo) _ hubCtx ⟨rfl, by decide +kernel⟩).1 Abort.notLocked (by decide +kernel)⟩
  · obtain ⟨_, e, _⟩ := (h1 0 hubReq (lockedState { Admission.fresh with partner := 9, layout := demoLayout }) _ hubCtx ⟨rfl, by decide +kernel⟩).2 (by decide +kernel)
    exact ⟨_, e⟩
  · exact ⟨_, (h2 0 hubReq (admState { Admission.fresh with state := 7 }) _ hubCtx ⟨rfl, by decide +kernel⟩).1 (by decide +kernel)⟩
  · obtain ⟨_, e, _⟩ := (h2 0 hubReq (admState { Admission.fresh with partner := 9, source := demoSource }) _ hubCtx ⟨rfl, by decide +kernel⟩).2 rfl (by decide +kernel) (by decide +kernel)
    exact ⟨_, e⟩
  · obtain ⟨_, e, _⟩ := (h3 0 hubReq (admState { Admission.fresh with state := 8 }) _ hubCtx ⟨rfl, by decide +kernel⟩).1 rfl
    exact ⟨_, e⟩
  · obtain ⟨_, e, _⟩ := (h3 0 hubReq (admState { Admission.fresh with state := 4, written := true }) _ hubCtx ⟨rfl, by decide +kernel⟩).2 (by decide +kernel) (by decide +kernel)
    exact ⟨_, e⟩
  · exact ⟨_, h4 0 (admState { Admission.fresh with state := 2, lastFrame := 84 }) rfl (by decide +kernel)⟩
  · obtain ⟨_, e, _⟩ := h5 0 ({ admState { Admission.fresh with state := 6, why := 3, regions := [(0, 0, 64)] } with power := { Power.fresh with admitted := 8 } }) rfl (by decide +kernel)
    exact ⟨_, e⟩
  · obtain ⟨_, e, _⟩ := h6 0 1 2 3 true (admState { Admission.fresh with state := 8 }) rfl
    exact ⟨_, e⟩

/-- A stream record's octets, and what they parse to. -/
def openOctets : List Byte := streamOctets 0x3E 0 (le 8 9 ++ le 8 1)
def coreOctets : List Byte := streamOctets 0x30 0 (le 8 5)
def regionOctets : List Byte := streamOctets 0x31 0 (le 8 4096 ++ le 8 5)
def endOctets : List Byte := streamOctets 0x3F 2 (le 8 5 ++ le 8 0 ++ le 8 16)
def badOctets : List Byte := coreOctets.dropLast ++ [0xFF]

/-- An admission that streams from partner 9. -/
def streaming : Admission := { Admission.fresh with state := 2, partner := 9, opened := true }

theorem witness_AdmissionStream (h : Obligations.AdmissionStream) :
    Answers (exec (.admOpenReceive 0 0 openOctets) (admState { streaming with opened := false })) ∧
    Answers (exec (.admRecordReceive 0 0 badOctets) (admState streaming)) ∧
    Answers (exec (.admRecordReceive 0 0 coreOctets) (admState streaming)) ∧
    Answers (exec (.admRecordReceive 0 0 regionOctets) (admState streaming)) ∧
    Answers (exec (.admEndReceive 0 endOctets) (admState streaming)) ∧
    Answers (exec (.admSealResult 0 5) (admState { Admission.fresh with state := 3, wave := some 399232 })) := by
  obtain ⟨h1, h2, h3, h4⟩ := h
  refine ⟨?_, ?_, ?_, ?_, ?_, ?_⟩
  · exact ⟨_, h1 0 0 openOctets (admState { streaming with opened := false }) _ (show streamRec openOctets = some ⟨0x3E, 0, le 8 9 ++ le 8 1, true⟩ from by decide +kernel) rfl rfl (by decide +kernel) rfl (by decide +kernel) (by decide +kernel)⟩
  · obtain ⟨_, e, _⟩ := (h2 0 0 badOctets (admState streaming) _ (show streamRec badOctets = some ⟨0x30, 0, le 7 5 ++ [0xFF], false⟩ from by decide +kernel) rfl rfl (by decide +kernel)).1 rfl (.inl rfl)
    exact ⟨_, e⟩
  · obtain ⟨_, e, _⟩ := (h2 0 0 coreOctets (admState streaming) _ (show streamRec coreOctets = some ⟨0x30, 0, le 8 5, true⟩ from by decide +kernel) rfl rfl (by decide +kernel)).2.1 rfl rfl 0 (by decide +kernel)
    exact ⟨_, e⟩
  · obtain ⟨_, e, _⟩ := (h2 0 0 regionOctets (admState streaming) _ (show streamRec regionOctets = some ⟨0x31, 0, le 8 4096 ++ le 8 5, true⟩ from by decide +kernel) rfl rfl (by decide +kernel)).2.2 rfl rfl (by decide +kernel) (by decide +kernel)
    exact ⟨_, e⟩
  · obtain ⟨_, e, _⟩ := h3 0 endOctets (admState streaming) _ (show streamRec endOctets = some ⟨0x3F, 2, le 8 5 ++ le 8 0 ++ le 8 16, true⟩ from by decide +kernel) rfl rfl rfl rfl
    exact ⟨_, e⟩
  · exact (let ⟨_, _, e⟩ := h4 0 5 399232 (admState { Admission.fresh with state := 3, wave := some 399232 }) rfl rfl (by decide +kernel); ⟨_, e⟩)

theorem witness_BackgroundJobs (h : Obligations.BackgroundJobs) :
    Answers (exec (.jobAdmission 0) (atPns 450000 (recoveryState 1))) ∧
    Answers (exec (.slotJobCheck 0 14) ({ atPns 750000 demo with power := { Power.fresh with periodStart := 450000 } })) := by
  obtain ⟨h1, h2⟩ := h
  refine ⟨?_, ?_⟩
  · obtain ⟨_, e, _⟩ := h1 0 (atPns 450000 (recoveryState 1)) (by decide +kernel) (by decide +kernel)
    exact ⟨_, e⟩
  · obtain ⟨_, e, _⟩ := h2 0 14 ({ atPns 750000 demo with power := { Power.fresh with periodStart := 450000 } }) (by decide +kernel) (by decide +kernel) (by decide +kernel) (by decide +kernel)
    exact ⟨_, e⟩

/-- `demo` with its test bar as given. -/
def barS (b : Bar) : State := { demo with bar := b }

/-- An order outstanding for slot 0 of Hub A's bar. -/
def demoBarOrder : BarOrder := ⟨0, 0, 6, false, 0, 0, 0, 370000, 0, none, 1⟩

/-- A capture of it: INT8, K 16, empty body. -/
def captureHeader (order : Nat) : List Byte :=
  let b := le 2 order ++ le 1 0 ++ le 1 8 ++ le 2 0 ++ le 1 0 ++ le 1 0 ++ le 2 16 ++ zeros 50
  b ++ le 4 (crc32c b)

/-- What it parses to. -/
def demoCapture : Capture := ⟨6, 0, 8, 0, 0, false, false, false, false, 16, 0, 0, 0, 0, []⟩

/-- A mismatch of it that waits for the riser's bar. -/
def demoRecheck : Recheck := ⟨demoBarOrder, demoCapture, [1], 1, false, none⟩

theorem witness_Sampling (h : Obligations.Sampling) :
    Answers (exec (.samplingSlot 0 3) (atPns 475000 demo)) ∧
    Answers (exec (.captureReceive 0 ⟨0, 0, [1], [], []⟩) (barS { Bar.fresh with orders := [demoBarOrder] })) ∧
    Answers (exec (.captureReceive 0 ⟨0, 0, captureHeader 6, [], []⟩) (barS { Bar.fresh with orders := [demoBarOrder] })) ∧
    Answers (exec (.captureTimeout 0 0 0) (barS { Bar.fresh with orders := [demoBarOrder] })) ∧
    Answers (exec (.barSelfCheckDone 0 1 true) (barS { Bar.fresh with stateR := 1 })) ∧
    Answers (exec (.barSelfCheckDone 0 0 false) (barS { Bar.fresh with stateA := 1, rechecks := [demoRecheck] })) ∧
    Answers (exec (.sdcStormClear 0) ({ barS { Bar.fresh with storm := true } with frame := { demo.frame with number := 1024 } })) := by
  obtain ⟨h1, h2, h3, h4, h5⟩ := h
  and_intros
  · obtain ⟨_, e, _⟩ := h1 0 3 (atPns 475000 demo) (by decide +kernel) (by decide +kernel) (by decide +kernel) (by decide +kernel)
    exact ⟨_, e⟩
  · obtain ⟨_, e, _⟩ := (h2 0 ⟨0, 0, [1], [], []⟩ (barS { Bar.fresh with orders := [demoBarOrder] }) demoBarOrder (by decide +kernel)).1 (by decide +kernel)
    exact ⟨_, e⟩
  · exact (let ⟨_, _, _, e⟩ := (h2 0 ⟨0, 0, captureHeader 6, [], []⟩ (barS { Bar.fresh with orders := [demoBarOrder] }) demoBarOrder (by decide +kernel)).2 demoCapture (by decide +kernel) rfl rfl (by decide +kernel) rfl; ⟨_, e⟩)
  · obtain ⟨_, e, _⟩ := h3 0 0 0 (barS { Bar.fresh with orders := [demoBarOrder] }) demoBarOrder (by decide +kernel) (by decide +kernel)
    exact ⟨_, e⟩
  · obtain ⟨_, e, _⟩ := (h4 0 1 (barS { Bar.fresh with stateR := 1 }) (by decide +kernel) rfl).1
    exact ⟨_, e⟩
  · obtain ⟨_, e, _⟩ := (h4 0 0 (barS { Bar.fresh with stateA := 1, rechecks := [demoRecheck] }) (by decide +kernel) rfl).2 (by decide +kernel)
    exact ⟨_, e⟩
  · exact ⟨_, h5 0 ({ barS { Bar.fresh with storm := true } with frame := { demo.frame with number := 1024 } }) rfl (by decide +kernel)⟩

/-- `demo` with EVENT_SEQs to issue. -/
def eventState : State := { demo with eventSeqs := ⟨5, 300, 300⟩ }

theorem witness_SecondComputation (h : Obligations.SecondComputation) :
    Answers (exec (.barComputeDone 0 1 []) (barS { Bar.fresh with rechecks := [demoRecheck] })) ∧
    ((eventState.decideMismatch demoRecheck [1]).bar.events.getLast?.map BarEvent.kind) = some 1 ∧
    ((eventState.decideMismatch demoRecheck demoCapture.cOut).bar.events.getLast?.map BarEvent.kind) = some 3 ∧
    ((eventState.decideMismatch demoRecheck [2]).bar.events.getLast?.map BarEvent.kind) = some 4 := by
  obtain ⟨h1, h2⟩ := h
  have k := h2 eventState demoRecheck
  refine ⟨?_, ?_, ?_, ?_⟩
  · obtain ⟨_, e, _⟩ := h1 0 1 [] (barS { Bar.fresh with rechecks := [demoRecheck] }) demoRecheck (by decide +kernel) (by decide +kernel)
    exact ⟨_, e⟩
  · exact ((k [1] (by decide +kernel) rfl).1 rfl rfl (by decide +kernel)).2
  · exact ((k demoCapture.cOut (by decide +kernel) rfl).2.1 (by decide +kernel) rfl).2.2
  · exact ((k [2] (by decide +kernel) rfl).2.2 (by decide) (by decide +kernel)).2.2.2

/-- An event held. -/
def demoEvent : BarEvent := ⟨1, 8, 0, 7, 0, 0, 0, 16, 0, 0, 0, 0, 0, 0, 1, 0, 0, 1, [], 0⟩

/-- A probe kernel of two INT8 ops. -/
def demoKernel : List Byte :=
  let op := be 1 8 ++ be 1 0 ++ be 2 16 ++ be 4 80 ++ be 4 336 ++ zeros 20
  be 1 1 ++ be 1 2 ++ be 2 0 ++ be 4 592 ++ be 4 7 ++ be 4 0 ++ op ++ op ++ zeros 512

/-- `demo` that holds it, and perhaps a run. -/
def kernelState (r : Option ProbeRun) : State := barS { Bar.fresh with kernels := [⟨7, demoKernel⟩], run := r }

/-- A run of it. -/
def demoRun (engine : Bool) : ProbeRun := ⟨7, 1, 0, 0, engine, 4, 0, 0, 0, [], [], []⟩

theorem witness_EventsAndProbes (h : Obligations.EventsAndProbes) :
    Answers (exec (.tbEventAck 0 hubReq 7) (barS { Bar.fresh with events := [demoEvent] })) ∧
    Answers (exec (.tbEventAck 0 hubReq 8) (barS { Bar.fresh with events := [demoEvent] })) ∧
    Answers (exec (.tbQuarantineClear 0 hubReq 69631) (demo)) ∧
    Answers (exec (.tbQuarantineClear 0 hubReq 69632) (demo)) ∧
    Answers (exec (.tbProbeLoad 0 hubReq (zeros 262145)) (demo)) ∧
    Answers (exec (.tbProbeLoad 0 hubReq []) (demo)) ∧
    Answers (exec (.tbProbeLoad 0 hubReq demoKernel) (demo)) ∧
    Answers (exec (.probeRunBar 0 hubReq 7 0 0) (demo)) ∧
    Answers (exec (.probeRunEngine 0 hubReq 7 0 0) (demo)) ∧
    Answers (exec (.probeRunBar 0 hubReq 7 0 0) (kernelState none)) ∧
    Answers (exec (.probeRunEngine 0 hubReq 7 0 3) (kernelState none)) ∧
    Answers (exec (.probeOpDone 0 [] [] []) (kernelState (some (demoRun false)))) ∧
    Answers (exec (.probeOpDone 0 (zeros 64) [] []) (kernelState (some (demoRun true)))) := by
  obtain ⟨h1, h2, h3, h4, h5⟩ := h
  and_intros
  · obtain ⟨_, e, _⟩ := (h1 0 7 hubReq (barS { Bar.fresh with events := [demoEvent] }) _ hubCtx ⟨rfl, by decide +kernel⟩).1 ⟨demoEvent, by decide +kernel, rfl⟩
    exact ⟨_, e⟩
  · exact ⟨_, (h1 0 8 hubReq (barS { Bar.fresh with events := [demoEvent] }) _ hubCtx ⟨rfl, by decide +kernel⟩).2 (by decide +kernel)⟩
  · obtain ⟨_, e, _⟩ := (h2 0 69631 hubReq (demo) _ hubCtx ⟨rfl, by decide +kernel⟩).1 (by decide +kernel)
    exact ⟨_, e⟩
  · exact ⟨_, (h2 0 69632 hubReq (demo) _ hubCtx ⟨rfl, by decide +kernel⟩).2 (by decide +kernel)⟩
  · exact ⟨_, (h3 0 (zeros 262145) hubReq (demo) _ hubCtx ⟨rfl, by decide +kernel⟩).1 (by rw [zeros, List.length_replicate]; decide)⟩
  · exact ⟨_, (h3 0 [] hubReq (demo) _ hubCtx ⟨rfl, by decide +kernel⟩).2.1 (by decide +kernel) (by decide +kernel)⟩
  · obtain ⟨_, e, _⟩ := (h3 0 demoKernel hubReq (demo) _ hubCtx ⟨rfl, by decide +kernel⟩).2.2 (by decide +kernel) (by decide +kernel) (by decide +kernel) (by decide +kernel)
    exact ⟨_, e⟩
  · exact ⟨_, ((h4 0 7 0 0 hubReq (demo) _ hubCtx ⟨rfl, by decide +kernel⟩).1 rfl).1⟩
  · exact ⟨_, ((h4 0 7 0 0 hubReq (demo) _ hubCtx ⟨rfl, by decide +kernel⟩).1 rfl).2⟩
  · obtain ⟨_, _, e, _⟩ := ((h4 0 7 0 0 hubReq (kernelState none) _ hubCtx ⟨rfl, by decide +kernel⟩).2 ⟨7, demoKernel⟩ (by decide +kernel) rfl).1
    exact ⟨_, e⟩
  · obtain ⟨_, _, e, _⟩ := ((h4 0 7 0 3 hubReq (kernelState none) _ hubCtx ⟨rfl, by decide +kernel⟩).2 ⟨7, demoKernel⟩ (by decide +kernel) rfl).2 (by decide +kernel) (by decide +kernel) (by decide +kernel)
    exact ⟨_, e⟩
  · obtain ⟨_, _, e, _⟩ := (h5 0 [] [] [] (kernelState (some (demoRun false))) (demoRun false) ⟨7, demoKernel⟩ rfl (by decide +kernel) rfl).1 rfl (by decide +kernel) (by decide +kernel)
    exact ⟨_, e⟩
  · exact (let ⟨_, _, _, _, e, _⟩ := (h5 0 (zeros 64) [] [] (kernelState (some (demoRun true))) (demoRun true) ⟨7, demoKernel⟩ rfl (by decide +kernel) rfl).2 rfl (by decide +kernel) (by decide +kernel) (by decide +kernel); ⟨_, e⟩)

/-- `runnerState` with the sink of die 0 as given. -/
def sinkState (k : Sink) : State := { runnerState with trace := { Trace.fresh with sinks := [(0, k)] } }

/-- A tap whose slot 0 traces and stalls. -/
def tracingTap : Tap := { runningTap with traceActive := [(0, le 1 5 ++ zeros 15)] }

theorem witness_TraceLines (h : Obligations.TraceLines) :
    Answers (exec (.traceLineReceive 0 0 (zeros 64)) (sinkState { Sink.fresh with frozen := true })) ∧
    Answers (exec (.traceLineReceive 0 0 (zeros 64)) (sinkState Sink.fresh)) ∧
    Answers (exec (.traceSwitchIssue 0) ({ demo with trace := { Trace.fresh with switchPending := true, changed := 1 } })) ∧
    Answers (exec (.traceStallTimeout 0 0) (tapState tracingTap)) := by
  obtain ⟨h1, h2, h3⟩ := h
  refine ⟨?_, ?_, ?_, ?_⟩
  · exact ⟨_, (h1 0 0 (zeros 64) (sinkState { Sink.fresh with frozen := true }) (by decide +kernel) (by decide +kernel) (by decide +kernel)).1 (by decide +kernel)⟩
  · refine ⟨_, ((h1 0 0 (zeros 64) (sinkState Sink.fresh) ?_ ?_ ?_).2 ?_ ?_ ?_ ?_ ?_).choose_spec.1⟩ <;> decide +kernel
  · exact ⟨_, h2 0 ({ demo with trace := { Trace.fresh with switchPending := true, changed := 1 } }) (by decide +kernel)⟩
  · refine ⟨_, (h3 0 0 (tapState tracingTap) ?_ ?_ ?_ ?_ ?_).choose_spec.1⟩ <;> decide +kernel

/-- A rail whose exponent is known, and the sweep at its READ_IOUT. -/
def railState (retried : Bool) : State :=
  { demo with power := { Power.fresh with rails := [(0, { Rail.fresh with role := 2, exponent := some (-9), retried := retried })], sweepRail := 16, sweepCommand := 2 } }

/-- That sweep, its transaction cut off by a takeover. -/
def againState : State := { railState false with power := { (railState false).power with pmbReissue := true } }

theorem witness_RegulatorSweep (h : Obligations.RegulatorSweep) :
    Answers (exec (.pmbusTransactionDone 0 ⟨0, 0x8C, true, 5⟩) (railState false)) ∧
    Answers (exec (.pmbusTransactionDone 0 ⟨0, 0x8C, false, 0⟩) (railState false)) ∧
    Answers (exec (.pmbusTransactionDone 0 ⟨0, 0x8C, false, 0⟩) (railState true)) ∧
    Answers (exec (.pmbusTransactionDone 0 ⟨0, 0x8C, true, 5⟩) againState) ∧
    againState.pmbAgain.power.pmbReissue = false ∧
    Answers (exec (.pmbAlert 0 64 2) (demo)) := by
  obtain ⟨h0, h1, h2⟩ := h
  refine ⟨?_, ?_, ?_, ?_, ?_, ?_⟩
  · obtain ⟨_, e, _⟩ := (h1 0 ⟨0, 0x8C, true, 5⟩ (railState false) (by decide +kernel) rfl rfl).1 rfl (by decide +kernel)
    exact ⟨_, e⟩
  · obtain ⟨_, e, _⟩ := (h1 0 ⟨0, 0x8C, false, 0⟩ (railState false) (by decide +kernel) rfl rfl).2.1 rfl (by decide +kernel)
    exact ⟨_, e⟩
  · obtain ⟨_, e, _⟩ := (h1 0 ⟨0, 0x8C, false, 0⟩ (railState true) (by decide +kernel) rfl rfl).2.2 rfl (by decide +kernel)
    exact ⟨_, e⟩
  · exact ⟨_, (h0 0 ⟨0, 0x8C, true, 5⟩ againState rfl).1⟩
  · exact ((h0 0 ⟨0, 0x8C, true, 5⟩ againState rfl).2 0 0x8C (by decide +kernel) rfl).1
  · obtain ⟨_, e, _⟩ := h2 0 64 2 (demo)
    exact ⟨_, e⟩

/-- `demo` with its reset state as given, `e` steps on. -/
def rstState (e : Nat) (r : Reset) : State := { demo with rst := r, elapsed := e, backup := { Backup.afresh with valid := true } }

/-- A POR asserted for `off` steps after one second of operation. -/
def porState (off : Nat) (b : Bool) : State :=
  rstState (160000000000 + off) { Reset.fresh with porAt := 160000000000, counted := b }

theorem witness_Resets (h : Obligations.Resets) :
    Answers (exec (.porAssert 0) (demo)) ∧
    Answers (exec (.porRelease 0) (State.reset)) ∧
    (∃ t, exec (.porRelease 0) (porState 1600000 false) = .next t ∧ t.backup.cause = 1) ∧
    Answers (exec (.warmReset 0) (demo)) ∧
    Answers (exec (.resetNShort 0) (demo)) ∧
    Answers (exec (.warmResetRelease 0) (rstState 0 { demo.rst with resetNLow := true })) ∧
    (∃ t, exec (.warmResetRelease 0) (rstState 0 { Reset.fresh with resetNLow := true }) = .next t ∧ t.emitted = []) ∧
    Answers (exec (.warmReset 0) ({ demo with pins := { demo.pins with jtagOwns := true } })) := by
  obtain ⟨h1, h2, h3, h4, h5, h6⟩ := h
  and_intros
  · obtain ⟨_, e, _⟩ := h1 0 (demo) rfl
    exact ⟨_, e⟩
  · obtain ⟨_, e, _⟩ := h2 0 (State.reset) rfl
    exact ⟨_, e⟩
  · exact (let ⟨t, e, _, _, _, _, _, k, _⟩ := h2 0 (porState 1600000 false) rfl; ⟨t, e, (k (by simp only [State.backupLost]; decide +kernel) rfl).2.2.trans (by decide +kernel)⟩)
  · obtain ⟨_, e, _⟩ := h3 0 (demo) rfl rfl rfl
    exact ⟨_, e⟩
  · exact ⟨_, h4 0 (demo) rfl rfl rfl⟩
  · obtain ⟨_, e, _⟩ := h5 0 (rstState 0 { demo.rst with resetNLow := true }) rfl
    exact ⟨_, e⟩
  · obtain ⟨t, e, _, _, p, _⟩ := h5 0 (rstState 0 { Reset.fresh with resetNLow := true }) rfl
    exact ⟨t, e, (p rfl).2⟩
  · exact ⟨_, (h6 0 ({ demo with pins := { demo.pins with jtagOwns := true } }) rfl).1⟩

/-- The release sequence before domain `n`, long after every earlier one. -/
def seqState (n : Nat) : State :=
  rstState 800000000 { Reset.fresh with porAsserted := false, phase := n, released := BitVec.ofNat 10 (2 ^ n - 1), optionsDone := decide (4 ≤ n) }

/-- The sequence before D3, after a clock was lost. -/
def againReleased : State := { seqState 3 with rst := { (seqState 3).rst with lostAt := 5 } }

theorem witness_ReleaseSequence (h : Obligations.ReleaseSequence) :
    Answers (exec (.domainRelease 0 0) (seqState 0)) ∧
    (∃ t, exec (.domainRelease 0 2) (seqState 2) = .next t ∧ t.hub.hubA.proc = .selfCheck) ∧
    (∃ t, exec (.domainRelease 0 3) againReleased = .next t ∧ 0 < t.flash.readyAt) ∧
    (∃ t, exec (.domainRelease 0 5) (seqState 5) = .next t ∧ t.tb.active.counting = true) ∧
    Answers (exec (.domainRelease 0 9) ({ seqState 9 with fm := { Fault9.fresh with fenceState := 1 } })) ∧
    Answers (exec (.d8Wave 0 0) (seqState 8)) ∧
    Answers (exec (.d8Wave 0 3) ({ seqState 8 with rst := { (seqState 8).rst with d8Waves := 3 } })) ∧
    Answers (exec (.clockLost 0 4 0) (seqState 6)) ∧
    Answers (exec (.clockLostInService 0 4 0) (demo)) := by
  obtain ⟨h1, h2, h3, h4⟩ := h
  and_intros
  · refine ⟨_, (h1 0 0 (seqState 0) ?_ ?_ ?_ ?_ ?_).choose_spec.1⟩ <;> decide +kernel
  · obtain ⟨t, e, _, p, _⟩ := h1 0 2 (seqState 2) (by decide) (by decide) (by decide +kernel) rfl (by decide +kernel)
    exact ⟨t, e, (p rfl).1⟩
  · obtain ⟨t, e, _, _, p, _⟩ := h1 0 3 againReleased (by decide) (by decide) (by decide +kernel) rfl (by decide +kernel)
    exact ⟨t, e, by rw [p rfl (by decide +kernel)]; decide⟩
  · obtain ⟨t, e, _, _, _, _, p, _⟩ := h1 0 5 (seqState 5) (by decide) (by decide) (by decide +kernel) rfl (by decide +kernel)
    exact ⟨t, e, (p rfl).1⟩
  · refine ⟨_, (h1 0 9 ({ seqState 9 with fm := { Fault9.fresh with fenceState := 1 } }) ?_ ?_ ?_ ?_ ?_).choose_spec.1⟩ <;> decide +kernel
  · obtain ⟨_, e, _⟩ := h2 0 0 (seqState 8) (by decide +kernel) (by decide +kernel) (by decide +kernel) (by decide +kernel)
    exact ⟨_, e⟩
  · obtain ⟨_, e, _⟩ := h2 0 3 ({ seqState 8 with rst := { (seqState 8).rst with d8Waves := 3 } }) (by decide +kernel) (by decide +kernel) (by decide +kernel) (by decide +kernel)
    exact ⟨_, e⟩
  · obtain ⟨_, e, _⟩ := h3 0 4 0 (seqState 6) rfl (by decide +kernel) (by decide +kernel) (by decide +kernel) (by decide +kernel)
    exact ⟨_, e⟩
  · obtain ⟨_, e, _⟩ := h4 0 4 0 (demo) rfl (by decide +kernel) (by decide +kernel)
    exact ⟨_, e⟩

/-- `demo` with Hub A in its self-check and the riser as given. -/
def checkState (p : ProcState) : State :=
  { demo with hub := { demo.hub with hubA := { HubCore.fresh with proc := .selfCheck }, riser := { runningCore with proc := p } } }

theorem witness_HoldsAndLosses (h : Obligations.HoldsAndLosses) :
    Answers (exec (.clockTimeout 0 4 0) ({ seqState 4 with elapsed := 8000000000 })) ∧
    Answers (exec (.selfCheckDone 0 0 true) (checkState .running)) ∧
    Answers (exec (.selfCheckDone 0 0 false) (checkState .failed)) ∧
    Answers (exec (.selfCheckDone 0 0 false) (checkState .running)) ∧
    Answers (exec (.stormRelease 0 hubReq 2) (demo)) ∧
    Answers (exec (.stormRelease 0 hubReq 1) (demo)) ∧
    Answers (exec (.stormRelease 0 hubReq 1) (rstState 0 { demo.rst with phase := 4, holdReason := 1 })) := by
  obtain ⟨h1, h2, h3⟩ := h
  and_intros
  · refine ⟨_, (h1 0 4 0 ({ seqState 4 with elapsed := 8000000000 }) ?_ ?_ ?_ ?_ ?_ ?_ ?_ ?_).choose_spec.1⟩ <;> decide +kernel
  · obtain ⟨_, e, _⟩ := (h2 0 0 (checkState .running) (by decide +kernel)).1
    exact ⟨_, e⟩
  · obtain ⟨_, e, _⟩ := (h2 0 0 (checkState .failed) (by decide +kernel)).2.1 (by decide +kernel) (by decide +kernel)
    exact ⟨_, e⟩
  · obtain ⟨_, e, _⟩ := (h2 0 0 (checkState .running) (by decide +kernel)).2.2 (by decide +kernel) (by decide +kernel) (by decide +kernel)
    exact ⟨_, e⟩
  · exact ⟨_, (h3 0 2 hubReq (demo) _ hubCtx ⟨rfl, by decide +kernel⟩).1 (by decide +kernel)⟩
  · exact ⟨_, (h3 0 1 hubReq (demo) _ hubCtx ⟨rfl, by decide +kernel⟩).2.1 rfl (by decide +kernel)⟩
  · obtain ⟨_, e, _⟩ := (h3 0 1 hubReq (rstState 0 { demo.rst with phase := 4, holdReason := 1 }) _ hubCtx ⟨rfl, by decide +kernel⟩).2.2 rfl rfl
    exact ⟨_, e⟩

/-- A D3 result: a strap at the middle of code 5, no fuse corrected. -/
def demoRead : OptionRead := ⟨550, List.replicate 8 550, [], false⟩

/-- D3 running, 60 µs after it began. -/
def loadingState : State := rstState (60000 * 160) { Reset.fresh with porAsserted := false, phase := 4, loading := true, released := 15 }

/-- A persistent write and an option write in progress. -/
def writingState : State :=
  { demo with flash := { Flash.blank with persistWriting := some ⟨true, 1, 0, 0, 1000, 300, 300, 0⟩, optionWriting := some ⟨true, 1, []⟩ } }

/-- The flash as a test instruction has the pins. -/
def selectedHigh : State := { writingState with pins := { demo.pins with jtagOwns := true } }

theorem witness_OptionLoading (h : Obligations.OptionLoading) :
    Answers (exec (.optionLoadingEnd 0 demoRead) (loadingState)) ∧
    Answers (exec (.persistWriteDone 0 true) (writingState)) ∧
    Answers (exec (.persistWriteDone 0 false) writingState) ∧
    Answers (exec (.optionWriteDone 0 true) (writingState)) ∧
    Answers (exec (.optionWriteDone 0 false) writingState) ∧
    Answers (exec (.optionWriteDone 0 true) selectedHigh) := by
  obtain ⟨h1, h4, h2, h3⟩ := h
  refine ⟨?_, ?_, ?_, ?_, ?_, ?_⟩
  · obtain ⟨_, e, _⟩ := h1 0 demoRead (loadingState) rfl rfl (by decide +kernel) (by decide +kernel)
    exact ⟨_, e⟩
  · obtain ⟨_, e, _⟩ := (h2 0 (writingState) _ (by decide +kernel) rfl rfl rfl rfl).1
    exact ⟨_, e⟩
  · exact (let ⟨_, _, e, _⟩ := (h2 0 (writingState) _ (by decide +kernel) rfl rfl rfl rfl).2; ⟨_, e⟩)
  · obtain ⟨_, e, _⟩ := (h3 0 (writingState) _ (by decide +kernel) rfl rfl).1
    exact ⟨_, e⟩
  · exact (let ⟨_, _, e, _⟩ := (h3 0 (writingState) _ (by decide +kernel) rfl rfl).2; ⟨_, e⟩)
  · exact ⟨_, (h4 0 demoRead true selectedHigh (by decide +kernel)).2.2⟩

/-- A firmware image with a body of four zero octets; its digest field is SHA-384 of that body. -/
def demoFirmware : List Byte :=
  [0x44, 0x52, 0x46, 0x57] ++ le 2 1 ++ le 2 256 ++ le 4 3 ++ zeros 4 ++ zeros 8 ++ le 4 4 ++ le 4 0 ++ zeros 8 ++
    be 48 0x394341b7182cd227c5c6b07ef8000cdfd86136c4292b8e576573ad7ed9ae41019f5818b4b971c9effc60e1ad9f1289f0 ++ zeros 172

/-- The digest that the image carries is that of its body; the signature is taken as verified (log entry 10). -/
theorem image_passes (s : State) (hs : s.fuses = ⟨1, List.replicate 97 0, 0, false, demo.fuses.wireTrim⟩)
    (sign : ∀ key m g, Config.ecdsaVerify key m g = true)
    (hash : Config.sha384 (imageBody demoFirmware) = slice demoFirmware 40 48) :
    s.imageFails demoFirmware = none := by
  have a : imageForm demoFirmware = true := by decide +kernel
  have b : fieldLe demoFirmware 13 1 = 0 := by decide +kernel
  have c : fieldLe demoFirmware 12 1 = 0 := by decide +kernel
  have d : fieldLe demoFirmware 16 8 = 0 := by decide +kernel
  have e : fieldLe demoFirmware 14 2 = 0 := by decide +kernel
  simp [State.imageFails, State.imageSigned, State.imageLocks, State.rollbackCount, hs, a, b, c, d, e, sign, hash, bitsSet, bitOf]

/-- A boot of Hub A with the slots as given. -/
def bootState (a b : List Byte) : State :=
  { demo with hub := { demo.hub with hubA := { runningCore with proc := .bootRom } }, flash := { Flash.blank with slotA := a, slotB := b } }

/-- `demo` with a shadow-ready standby that runs slot 1, and the update as given. -/
def updateState (f : FwUpdate) : State :=
  { demo with hub := { demo.hub with riser := { runningCore with closeFrames := 8, fwSlot := 1, heartbeat := 1 } }, units := { Units.fresh with replicas := [(coreUid 1, trackingRep)] }, fw := f, elapsed := 160000000000 }

theorem witness_FirmwareUpdate (h : Obligations.FirmwareUpdate)
    (sign : ∀ key m g, Config.ecdsaVerify key m g = true)
    (hash : Config.sha384 (imageBody demoFirmware) = slice demoFirmware 40 48) :
    Answers (exec (.fwBoot 0 0) (bootState demoFirmware [])) ∧
    Answers (exec (.fwBoot 0 0) (bootState [] demoFirmware)) ∧
    Answers (exec (.fwBoot 0 0) (bootState [] [])) ∧
    Answers (exec (.fwUpdate 0 hubReq (zeros 0x100001)) (demo)) ∧
    Answers (exec (.fwUpdate 0 hubReq []) (updateState ⟨3, 0, 0, 0xFF, 1, 0, false, 0⟩)) ∧
    Answers (exec (.fwUpdate 0 hubReq []) (demo)) ∧
    Answers (exec (.fwUpdate 0 hubReq demoFirmware) (demo)) ∧
    Answers (exec (.fwUpdateApply 0 hubReq 2) (demo)) ∧
    Answers (exec (.fwUpdateApply 0 hubReq 1) (demo)) ∧
    Answers (exec (.fwUpdateApply 0 hubReq 1) ({ demo with fw := ⟨2, 0, 3, 0xFF, 1, 0, false, 0⟩ })) ∧
    Answers (exec (.fwUpdateApply 0 hubReq 1) (updateState ⟨2, 0, 3, 0xFF, 1, 0, false, 0⟩)) ∧
    Answers (exec (.fwUpdateStandbyReady 0) (updateState ⟨3, 0, 3, 0xFF, 1, 0, false, 0⟩)) ∧
    Answers (exec (.fwUpdateOldReady 0) (updateState ⟨5, 0, 3, 0xFF, 1, 0, false, 0⟩)) ∧
    Answers (exec (.fwUpdateTimeout 0) (updateState ⟨3, 0, 3, 0xFF, 1, 0, false, 0⟩)) ∧
    Answers (exec (.fwUpdateTimeout 0) (updateState ⟨5, 0, 3, 0xFF, 1, 0, false, 0⟩)) := by
  obtain ⟨h1, h2, h3, h4, h5, h6⟩ := h
  and_intros
  · obtain ⟨_, e, _⟩ := (h1 0 0 (bootState demoFirmware []) (by decide +kernel)).1 (image_passes _ rfl sign hash)
    exact ⟨_, e⟩
  · obtain ⟨_, e, _⟩ := (h1 0 0 (bootState [] demoFirmware) (by decide +kernel)).2.1 (by decide +kernel) (image_passes _ rfl sign hash)
    exact ⟨_, e⟩
  · obtain ⟨_, e, _⟩ := (h1 0 0 (bootState [] []) (by decide +kernel)).2.2 (by decide +kernel) (by decide +kernel)
    exact ⟨_, e⟩
  · exact ⟨_, (h2 0 (zeros 0x100001) hubReq (demo) _ hubCtx ⟨rfl, by decide +kernel⟩).1 (by rw [zeros, List.length_replicate]; decide)⟩
  · exact ⟨_, (h2 0 [] hubReq (updateState ⟨3, 0, 0, 0xFF, 1, 0, false, 0⟩) _ hubCtx ⟨rfl, by decide +kernel⟩).2.1 (by decide +kernel) (by decide +kernel)⟩
  · obtain ⟨_, e, _⟩ := (h2 0 [] hubReq (demo) _ hubCtx ⟨rfl, by decide +kernel⟩).2.2.1 (by decide +kernel) (by decide +kernel) Abort.signature (by decide +kernel)
    exact ⟨_, e⟩
  · obtain ⟨_, e, _⟩ := (h2 0 demoFirmware hubReq (demo) _ hubCtx ⟨rfl, by decide +kernel⟩).2.2.2 (by decide +kernel) (by decide +kernel) (image_passes _ rfl sign hash)
    exact ⟨_, e⟩
  · exact ⟨_, (h3 0 2 hubReq (demo) _ hubCtx ⟨rfl, by decide +kernel⟩).1 (by decide +kernel)⟩
  · exact ⟨_, (h3 0 1 hubReq (demo) _ hubCtx ⟨rfl, by decide +kernel⟩).2.1 rfl (by decide +kernel)⟩
  · exact ⟨_, (h3 0 1 hubReq ({ demo with fw := ⟨2, 0, 3, 0xFF, 1, 0, false, 0⟩ }) _ hubCtx ⟨rfl, by decide +kernel⟩).2.2.1 rfl (by decide +kernel) (by decide +kernel)⟩
  · obtain ⟨_, e, _⟩ := (h3 0 1 hubReq (updateState ⟨2, 0, 3, 0xFF, 1, 0, false, 0⟩) _ hubCtx ⟨rfl, by decide +kernel⟩).2.2.2 rfl (by decide +kernel) (by decide +kernel) (by decide +kernel)
    exact ⟨_, e⟩
  · obtain ⟨_, e, _⟩ := h4 0 0 (updateState ⟨3, 0, 3, 0xFF, 1, 0, false, 0⟩) rfl (by decide +kernel) (by decide +kernel) (by decide +kernel)
    exact ⟨_, e⟩
  · obtain ⟨_, e, _⟩ := h5 0 (updateState ⟨5, 0, 3, 0xFF, 1, 0, false, 0⟩) rfl (by decide +kernel) (by decide +kernel)
    exact ⟨_, e⟩
  · obtain ⟨_, e, _⟩ := (h6 0 (updateState ⟨3, 0, 3, 0xFF, 1, 0, false, 0⟩) (by decide +kernel)).1 rfl
    exact ⟨_, e⟩
  · obtain ⟨_, e, _⟩ := (h6 0 (updateState ⟨5, 0, 3, 0xFF, 1, 0, false, 0⟩) (by decide +kernel)).2 rfl
    exact ⟨_, e⟩

/-- A PEEK of one word of window 0x43 on the tap ring. -/
def demoTxn (again : Bool) : RingTxn := ⟨0, 0, false, 0x43, 0, 0, 1, 0, [], .peek (tapUid 0), 0, again⟩

/-- `demo` with it outstanding. -/
def ringState (again : Bool) : State := { demo with units := { Units.fresh with ring := [demoTxn again] } }

/-- Its response: OP 8, status OK, one word, the CRC word. -/
def ringWords : List Nat := [0x80000000, 7, crc32c (wordsLe [0x80000000, 7])]

/-- `demo` with half 0 chilled, taps 0 and 1 in service, tap 1 with a latched stop. -/
def chillState (b : Bool) : State :=
  { demo with topo := { Topo.fresh with chilled := if b then 1 else 0 }
              units := { Units.fresh with taps := [(0, runningTap), (1, { runningTap with latchedStop := true })] } }

/-- `ringState` reading window 0x42 of slot 0, whose engines run or stand. -/
def slotState (runs : Bool) : State :=
  { demo with units := { Units.fresh with ring := [{ demoTxn false with window := 0x42 }], taps := [(0, if runs then runningTap else { runningTap with coreClock := 0 })] } }

theorem witness_RingEndsAndChill (h : Obligations.RingEndsAndChill) :
    Answers (exec (.ringResponse 0 0 ringWords []) (ringState false)) ∧
    Answers (exec (.ringResponse 0 0 [0x80000000] []) (ringState false)) ∧
    Answers (exec (.ringResponse 0 0 [0x80000000] []) (ringState true)) ∧
    Answers (exec (.ringResponse 0 0 [0x80010000, crc32c (wordsLe [0x80010000])] []) (slotState false)) ∧
    (∃ (x : State) (p : PeekData), exec (.ringResponse 0 0 ringWords []) (slotState true) = .next x.ringPump ∧ x.qu.peek = some p ∧ p.status = Rs.notStopped) ∧
    (∃ t, exec (.ringResponse 0 0 ringWords []) ({ demo.setHealth (tapUid 0) 4 with units := Units.fresh }) = .next t ∧ t.tapHealth 0 = 0) ∧
    Answers (exec (.ringTimeout 8000000 0 0) (ringState false)) ∧
    Answers (exec (.chillEntry 0 0) (chillState false)) ∧
    Answers (exec (.chillExit 0 0) (chillState true)) := by
  obtain ⟨h1, hs, h2, h3, h4⟩ := h
  have m0 : (ringState false).ringMatch 0 (ringWords.headD 0) = some (demoTxn false) := by decide +kernel
  have m1 : (slotState true).ringMatch 0 (ringWords.headD 0) = some { demoTxn false with window := 0x42 } := by decide +kernel
  and_intros
  · obtain ⟨_, _, e, _⟩ := (h1 0 0 ringWords [] _ _ m0).1 (by decide +kernel) rfl rfl _ rfl (by decide) rfl (by decide +kernel)
    exact ⟨_, e⟩
  · obtain ⟨_, e, _⟩ := (h1 0 0 [0x80000000] [] _ _ m0).2.2.1 (by decide +kernel) rfl
    exact ⟨_, e⟩
  · exact ⟨_, (h1 0 0 [0x80000000] [] (ringState true) (demoTxn true) (by decide +kernel)).2.2.2 (by decide +kernel) rfl⟩
  · exact ⟨_, (h1 0 0 [0x80010000, crc32c (wordsLe [0x80010000])] [] (slotState false) { demoTxn false with window := 0x42 } (by decide +kernel)).2.1 (by decide +kernel) rfl (by decide +kernel)⟩
  · obtain ⟨x, p, e, q, _, _, k, _⟩ := (h1 0 0 ringWords [] _ _ m1).1 (by decide +kernel) rfl rfl _ rfl (by decide) (by decide +kernel) (by decide +kernel)
    exact ⟨x, p, e, q, (k (by decide +kernel)).1⟩
  · obtain ⟨t, e, k, _⟩ := hs 0 0 0 ringWords [] { demo.setHealth (tapUid 0) 4 with units := Units.fresh } (by decide +kernel) (by decide +kernel) (by decide +kernel)
    exact ⟨t, e, k (by decide +kernel)⟩
  · obtain ⟨_, e, _⟩ := h2 8000000 0 0 (ringState false) (demoTxn false) (by decide +kernel) (by decide +kernel)
    exact ⟨_, e⟩
  · obtain ⟨_, e, _⟩ := h3 0 0 (chillState false) (by decide +kernel) (by decide +kernel)
    exact ⟨_, e⟩
  · obtain ⟨_, e, _⟩ := h4 0 0 (chillState true) (by decide +kernel) (by decide +kernel)
    exact ⟨_, e⟩

/-- `sessionState` past its open stages, its session holding the zero challenge. -/
def challengeState : State :=
  ownedState { sessionState with port := { sessionState.port with sessions := [{ demoSession with challenge := some (zeros 16) }] } }

/-- A request for OWNED and a debug token, signed by the owner. -/
def demoLcRequest : List Byte := be 1 1 ++ be 1 1 ++ be 2 0 ++ be 8 1 ++ zeros 212
def demoToken : List Byte := be 1 1 ++ be 1 0 ++ be 2 31 ++ be 8 1 ++ zeros 16 ++ zeros 8 ++ be 8 500000 ++ zeros 100

/-- The session's context, the state in which it asks, and that state with its challenge used. -/
def sessionCtx : Ctx := ⟨.session 1, 2, 1⟩
def challengeAsks : State := ((challengeState.begin 0).admitReq portReq).1

theorem request_passes (sign : ∀ key m g, Config.ecdsaVerify key m g = true) :
    challengeAsks.lcCheck sessionCtx demoLcRequest = (challengeAsks.useChallenge sessionCtx, none) := by
  have a : challengeAsks.lcForm demoLcRequest = true := by
    have x : (fieldBe demoLcRequest 1 1 = 1 ∧ challengeAsks.lcState = 0) = False := eq_false (by decide +kernel)
    unfold State.lcForm
    simp only [x, if_false]
    decide +kernel
  have b : fieldBe demoLcRequest 4 8 = challengeAsks.fuses.serial := by decide +kernel
  have c : challengeAsks.namesChallenge sessionCtx (slice demoLcRequest 12 16) = true := by decide +kernel
  have d : (!lcListed (challengeAsks.useChallenge sessionCtx).lcState (fieldBe demoLcRequest 1 1) || !(challengeAsks.useChallenge sessionCtx).lcCondition (fieldBe demoLcRequest 1 1) || decide ((challengeAsks.useChallenge sessionCtx).lc.storeA.transitions = 65535)) = false := by decide +kernel
  have e : (challengeAsks.useChallenge sessionCtx).lcBusy = false := by decide +kernel
  unfold State.lcCheck State.ownerSigned
  simp [a, b, c, d, e, sign]

theorem token_passes (sign : ∀ key m g, Config.ecdsaVerify key m g = true) :
    challengeAsks.tokenCheck sessionCtx demoToken = (challengeAsks.useChallenge sessionCtx, none) := by
  have a : tokenForm demoToken = true := by decide +kernel
  have b : fieldBe demoToken 4 8 = challengeAsks.fuses.serial := by decide +kernel
  have c : challengeAsks.namesChallenge sessionCtx (slice demoToken 12 16) = true := by decide +kernel
  have d : (fieldBe demoToken 36 8 ≤ (challengeAsks.useChallenge sessionCtx).pns ∨ (challengeAsks.useChallenge sessionCtx).pns + tokenLife < fieldBe demoToken 36 8) = False := eq_false (by decide +kernel)
  unfold State.tokenCheck State.ownerSigned
  simp [a, b, c, d, sign]

/-- Lifecycle fettling with the areas still to do. -/
def fettlingState (left : Nat) : State :=
  { demo with lc := { Lifecycle.blank with storeA := { KeyStore.blank with fettlePending := true }, fettleLeft := BitVec.ofNat 16 left } }

theorem witness_LifecycleAndTokens (h : Obligations.LifecycleAndTokens)
    (sign : ∀ key m g, Config.ecdsaVerify key m g = true) :
    Answers (exec (.lcRequest 0 portReq []) (challengeState)) ∧
    Answers (exec (.lcRequest 0 portReq demoLcRequest) (challengeState)) ∧
    Answers (exec (.lcFettleDone 0 5 false) (fettlingState 32)) ∧
    Answers (exec (.lcFettleDone 0 5 true) (fettlingState 96)) ∧
    Answers (exec (.lcFettleDone 0 6 true) (fettlingState 64)) ∧
    Answers (exec (.authChallenge 0 portReq) (challengeState)) ∧
    Answers (exec (.authToken 0 portReq []) (challengeState)) ∧
    Answers (exec (.authToken 0 portReq demoToken) (challengeState)) ∧
    Answers (exec (.authEnded 0 1) ({ sessionState with port := { sessionState.port with sessions := [{ demoSession with token := some ⟨31, 400000⟩ }] } })) := by
  obtain ⟨h1, h2, h3, h4, h5⟩ := h
  and_intros
  · exact ⟨_, (h1 0 [] portReq (challengeState) challengeAsks challengeAsks sessionCtx ⟨rfl, by decide +kernel⟩).1 Abort.valueRange rfl⟩
  · obtain ⟨_, e, _⟩ := (h1 0 demoLcRequest portReq (challengeState) challengeAsks _ sessionCtx ⟨rfl, by decide +kernel⟩).2 (request_passes sign)
    exact ⟨_, e⟩
  · refine ⟨_, ((h2 0 5 (fettlingState 32) ?_ ?_ ?_ ?_ ?_).1).choose_spec.1⟩ <;> decide +kernel
  · refine ⟨_, ((h2 0 5 (fettlingState 96) ?_ ?_ ?_ ?_ ?_).2.1 ?_).choose_spec.1⟩ <;> decide +kernel
  · refine ⟨_, ((h2 0 6 (fettlingState 64) ?_ ?_ ?_ ?_ ?_).2.2 ?_).choose_spec.1⟩ <;> decide +kernel
  · obtain ⟨_, e, _⟩ := h3 0 portReq (challengeState) challengeAsks sessionCtx ⟨rfl, by decide +kernel⟩
    exact ⟨_, e⟩
  · exact ⟨_, (h4 0 [] portReq (challengeState) challengeAsks challengeAsks sessionCtx ⟨rfl, by decide +kernel⟩).1 Abort.valueRange rfl⟩
  · obtain ⟨_, e, _⟩ := (h4 0 demoToken portReq (challengeState) challengeAsks _ sessionCtx ⟨rfl, by decide +kernel⟩).2 (token_passes sign) 1 rfl _ rfl
    exact ⟨_, e⟩
  · obtain ⟨_, e, _⟩ := h5 0 1 ({ sessionState with port := { sessionState.port with sessions := [{ demoSession with token := some ⟨31, 400000⟩ }] } }) _ ⟨31, 400000⟩ rfl rfl (by decide +kernel)
    exact ⟨_, e⟩

/-- `demo` with a change set of its hub's firmware. -/
def setState (l : List Staged) : State := { demo with frame := { demo.frame with sets := [⟨.chip 0x8100, l⟩] } }

theorem witness_WriteAndStage (h : Obligations.WriteAndStage) :
    Answers (exec (.registerWrite 0 hubReq 0x4101 0 0 []) (demo)) ∧
    Answers (exec (.registerWrite 0 hubReq 0x4110 1 0 [2]) (demo)) ∧
    Answers (exec (.registerWrite 0 hubReq 0x4101 0 0 (be 8 500000)) (demo)) ∧
    Answers (exec (.stage 0 hubReq 0x4104 0 1 [1]) (demo)) ∧
    Answers (exec (.stage 0 hubReq 0x4104 0 0 [2]) (demo)) ∧
    Answers (exec (.stage 0 hubReq 0x4104 0 0 [1]) (demo)) := by
  obtain ⟨h1, h2⟩ := h
  refine ⟨?_, ?_, ?_, ?_, ?_, ?_⟩
  · exact ⟨_, (h1 0 0x4101 0 0 [] hubReq (demo) _ hubCtx _ ⟨rfl, by decide +kernel⟩ rfl).1 (by decide +kernel)⟩
  · exact ⟨_, ((h1 0 0x4110 1 0 [2] hubReq (demo) _ hubCtx _ ⟨rfl, by decide +kernel⟩ rfl).2 (by decide +kernel) _ rfl rfl rfl).1 (by decide +kernel)⟩
  · exact ⟨_, ((h1 0 0x4101 0 0 (be 8 500000) hubReq (demo) _ hubCtx _ ⟨rfl, by decide +kernel⟩ rfl).2 (by decide +kernel) _ rfl rfl rfl).2 (by decide +kernel)⟩
  · exact ⟨_, (h2 0 0x4104 0 1 [1] hubReq (demo) _ hubCtx _ ⟨rfl, by decide +kernel⟩ rfl).1 (by decide +kernel)⟩
  · refine ⟨_, ((h2 0 0x4104 0 0 [2] hubReq (demo) _ hubCtx _ ⟨rfl, by decide +kernel⟩ rfl).2 rfl ?_ ?_ ?_ rfl ?_ ?_ ?_ rfl).1 ?_⟩ <;> decide +kernel
  · refine ⟨_, (((h2 0 0x4104 0 0 [1] hubReq (demo) _ hubCtx _ ⟨rfl, by decide +kernel⟩ rfl).2 rfl ?_ ?_ ?_ rfl ?_ ?_ ?_ rfl).2 ?_).choose_spec.1⟩ <;> decide +kernel

theorem witness_Commits (h : Obligations.Commits) :
    Answers (exec (.commit 0 hubReq false false) (demo)) ∧
    Answers (exec (.commit 0 hubReq false false) (setState [⟨0x4104, 0, [1]⟩])) ∧
    Answers (exec (.commit 0 hubReq true false) (setState (List.replicate 65 ⟨0x4104, 0, [1]⟩))) ∧
    Answers (exec (.commit 0 hubReq false false) (setState (List.replicate 65 ⟨0x4104, 0, [1]⟩))) := by
  have h1 := h
  refine ⟨?_, ?_, ?_, ?_⟩
  · exact ⟨_, (h1 0 false false hubReq (demo) _ hubCtx rfl).1 (by decide +kernel)⟩
  · obtain ⟨_, _, e, _⟩ := (h1 0 false false hubReq (setState [⟨0x4104, 0, [1]⟩]) _ hubCtx rfl).2.1 [⟨0x4104, 0, [1]⟩] (by decide +kernel)
    exact ⟨_, e⟩
  · obtain ⟨_, e, _⟩ := (h1 0 true false hubReq (setState (List.replicate 65 ⟨0x4104, 0, [1]⟩)) _ hubCtx rfl).2.2.1 (by decide +kernel) rfl
    exact ⟨_, e⟩
  · obtain ⟨_, _, e, _⟩ := (h1 0 false false hubReq (setState (List.replicate 65 ⟨0x4104, 0, [1]⟩)) _ hubCtx rfl).2.2.2 (by decide +kernel) rfl
    exact ⟨_, e⟩

/-- A transfer of four octets of a requester, in a direction, with what it has. -/
def demoBlock (id : Nat) (who : Requester) (write : Bool) (bytes : List Byte) (sent : List BlkSent) : Block :=
  ⟨id, who, 0x6020, 0, write, 0, 4, 0, bytes, 0, if bytes.isEmpty then [] else [0], sent, 0⟩

/-- A state with open transfers. -/
def blockState (s : State) (l : List Block) : State := { s with port := { s.port with blocks := l, nextBlock := 9 } }

/-- Two transfers of the hub's firmware take its places. -/
def fullState : State := blockState demo [demoBlock 1 (.chip 0x8100) true [] [], demoBlock 2 (.chip 0x8100) true [] []]

/-- A transfer that it has begun to write, and one of the session with a frame sent. -/
def takingState : State := blockState demo [demoBlock 1 (.chip 0x8100) true [] []]
def wholeState : State := blockState demo [demoBlock 1 (.chip 0x8100) true [1, 2, 3, 4] []]
def readingState : State := blockState demo [demoBlock 1 (.chip 0x8100) false [1, 2, 3, 4] []]
def sendingState (n : Nat) : State :=
  { blockState sessionState [demoBlock 1 (.session 1) false [1, 2, 3, 4] [⟨6, 0, 0, n⟩]] with elapsed := 1600000000000 }

theorem witness_BlockTransfers (h : Obligations.BlockTransfers) :
    Answers (exec (.blkOpen 0 hubReq 0x6020 0 1 0 0) (demo)) ∧
    Answers (exec (.blkOpen 0 hubReq 0x6020 0 1 0 4) (fullState)) ∧
    Answers (exec (.blkOpen 0 hubReq 0x6020 0 1 0 4) (takingState)) ∧
    Answers (exec (.blkOpen 0 hubReq 0x4203 2 0 0 0) (demo)) ∧
    Answers (exec (.blkOpen 0 hubReq 0x4203 2 0 0 0) (readoutState false)) ∧
    Answers (exec (.blkData 0 hubReq 1 0 [1, 2, 3, 4]) (demo)) ∧
    Answers (exec (.blkData 0 hubReq 1 0 [1, 2, 3]) (takingState)) ∧
    Answers (exec (.blkData 0 hubReq 1 0 [1, 2, 3, 4]) (takingState)) ∧
    Answers (exec (.blkClose 0 hubReq 1 0) (demo)) ∧
    Answers (exec (.blkClose 0 hubReq 1 0) (wholeState)) ∧
    Answers (exec (.blkClose 0 hubReq 1 (crc32c [1, 2, 3, 4])) (readingState)) ∧
    Answers (exec (.blkClose 0 hubReq 1 (crc32c [1, 2, 3, 4])) (wholeState)) ∧
    Answers (exec (.blkDataResend 0 1 6) (sendingState 4)) ∧
    Answers (exec (.blkDataResend 0 1 6) (sendingState 5)) ∧
    Answers (exec (.blkTimeout 0 1) (sendingState 0)) := by
  obtain ⟨h1, h2, h3, h4, h5, h6⟩ := h
  and_intros
  · exact ⟨_, (h1 0 0x6020 0 0 0 hubReq (demo) _ hubCtx _ ⟨rfl, by decide +kernel⟩ rfl (.inl (by decide)) rfl).1 (by decide +kernel)⟩
  · exact ⟨_, (h1 0 0x6020 0 0 4 hubReq (fullState) _ hubCtx _ ⟨rfl, by decide +kernel⟩ rfl (.inl (by decide)) rfl).2.1 (by decide +kernel) (by decide +kernel)⟩
  · obtain ⟨_, _, e, _⟩ := (h1 0 0x6020 0 0 4 hubReq (takingState) _ hubCtx _ ⟨rfl, by decide +kernel⟩ rfl (.inl (by decide)) rfl).2.2 (by decide +kernel) (by decide +kernel)
    exact ⟨_, e⟩
  · exact ⟨_, (h2 0 0x4203 2 0 0 hubReq (demo) _ _ hubCtx _ Abort.imageUnknown _ ⟨rfl, by decide +kernel⟩ rfl rfl (by decide +kernel)).1 (by decide +kernel)⟩
  · exact (let ⟨_, _, _, e, _⟩ := (h2 0 0x4203 2 0 0 hubReq (readoutState false) _ _ hubCtx _ _ _ ⟨rfl, by decide +kernel⟩ rfl rfl (by decide +kernel)).2 rfl (Nat.zero_le _); ⟨_, e⟩)
  · exact ⟨_, (h3 0 1 0 [1, 2, 3, 4] hubReq (demo) _ hubCtx rfl).1 (by decide +kernel)⟩
  · exact ⟨_, ((h3 0 1 0 [1, 2, 3] hubReq (takingState) _ hubCtx rfl).2 _ rfl rfl).1 (by decide +kernel)⟩
  · obtain ⟨_, _, e, _⟩ := ((h3 0 1 0 [1, 2, 3, 4] hubReq (takingState) _ hubCtx rfl).2 _ rfl rfl).2 (by decide +kernel)
    exact ⟨_, e⟩
  · exact ⟨_, (h4 0 1 0 hubReq (demo) _ hubCtx rfl).1 (by decide +kernel)⟩
  · exact ⟨_, ((h4 0 1 0 hubReq (wholeState) _ hubCtx rfl).2 _ rfl).1 (by decide +kernel)⟩
  · exact ⟨_, ((h4 0 1 (crc32c [1, 2, 3, 4]) hubReq (readingState) _ hubCtx rfl).2 _ rfl).2.1 (by decide +kernel) rfl⟩
  · exact ⟨_, ((h4 0 1 (crc32c [1, 2, 3, 4]) hubReq (wholeState) _ hubCtx rfl).2 _ rfl).2.2 (by decide +kernel) rfl _ rfl (by decide +kernel) (by decide +kernel) (by decide +kernel) rfl⟩
  · obtain ⟨_, e, _⟩ := (h5 0 1 6 (sendingState 4) _ ⟨6, 0, 0, 4⟩ 1 _ rfl rfl (by decide +kernel) rfl rfl).1 (by decide +kernel)
    exact ⟨_, e⟩
  · obtain ⟨_, e, _⟩ := (h5 0 1 6 (sendingState 5) _ ⟨6, 0, 0, 5⟩ 1 _ rfl rfl (by decide +kernel) rfl rfl).2 (by decide +kernel)
    exact ⟨_, e⟩
  · obtain ⟨_, e, _⟩ := h6 0 1 (sendingState 0) _ rfl (by decide +kernel)
    exact ⟨_, e⟩

/-- `demo` with an urgent record in its log. -/
def logState : State := { demo with log := { LogStore.fresh with records := [⟨7, 1, 1, 0, []⟩] } }

theorem witness_LogObjects (h : Obligations.LogObjects) :
    Answers (exec (.logAck 0 hubReq 8) (logState)) ∧
    Answers (exec (.logAck 0 hubReq 7) (logState)) ∧
    Answers (exec (.logRead 0 hubReq) (fullState)) ∧
    Answers (exec (.logRead 0 hubReq) (logState)) := by
  obtain ⟨h1, h2⟩ := h
  refine ⟨?_, ?_, ?_, ?_⟩
  · exact ⟨_, (h1 0 8 hubReq (logState) _ hubCtx ⟨rfl, by decide +kernel⟩).1 (by decide +kernel)⟩
  · obtain ⟨_, e, _⟩ := (h1 0 7 hubReq (logState) _ hubCtx ⟨rfl, by decide +kernel⟩).2 ⟨⟨7, 1, 1, 0, []⟩, by decide +kernel, rfl, by decide +kernel⟩
    exact ⟨_, e⟩
  · exact ⟨_, (h2 0 hubReq (fullState) _ hubCtx ⟨rfl, by decide +kernel⟩).1 (by decide +kernel)⟩
  · obtain ⟨_, _, e, _⟩ := (h2 0 hubReq (logState) _ hubCtx ⟨rfl, by decide +kernel⟩).2 (by decide +kernel)
    exact ⟨_, e⟩

theorem witness_AddressAndPlca (h : Obligations.AddressAndPlca) :
    Answers (exec (.claimSend 0) (demo)) ∧
    Answers (exec (.offerAssign 0 1 15 16) (demo)) ∧
    Answers (exec (.plcaInactive 0) (sessionState)) ∧
    Answers (exec (.plcaReturn 0) (sessionState)) ∧
    Answers (exec (.plcaReturn 0) (demo)) := by
  obtain ⟨h1, h2, h3, h4⟩ := h
  refine ⟨?_, ?_, ?_, ?_, ?_⟩
  · obtain ⟨_, e, _⟩ := h1 0 (demo) (by decide +kernel)
    exact ⟨_, e⟩
  · obtain ⟨_, e, _⟩ := h2 0 1 15 16 (demo) (by decide +kernel) rfl (by decide +kernel) (by decide +kernel)
    exact ⟨_, e⟩
  · exact ⟨_, h3 0 (sessionState)⟩
  · exact ⟨_, (h4 0 (sessionState) (by decide +kernel)).1 rfl⟩
  · exact ⟨_, (h4 0 (demo) (by decide +kernel)).2 rfl⟩

/-- A HELLO of node 9 under a SIGNER. -/
def demoHello (signer : Nat) : Hello :=
  ⟨⟨0x88B5, 1, 217, 217, 5, 9, 0, 0, true⟩, be 1 1 ++ zeros 116 ++ be 1 signer ++ zeros 99⟩

/-- Eight sessions open. -/
def crowdedState : State :=
  { sessionState with port := { sessionState.port with sessions := (List.range 8).map fun k => { demoSession with id := k + 1 } } }

/-- A session with a NOTIFY unacknowledged. -/
def notifiedState (sends : Nat) : State :=
  { sessionState with port := { sessionState.port with sessions := [{ demoSession with unacked := [⟨6, ⟨7, 1, 1, 0, []⟩, false, 0, sends⟩] }] } }

theorem witness_SessionsAndNotify (h : Obligations.SessionsAndNotify) :
    Answers (exec (.sessionHello 0 (demoHello 0)) (sessionState)) ∧
    Answers (exec (.sessionHello 0 (demoHello 0xFF)) (crowdedState)) ∧
    Answers (exec (.sessionHello 0 (demoHello 0xFF)) (sessionState)) ∧
    Answers (exec (.sessionClose 0 1 true) (sessionState)) ∧
    Answers (exec (.sessionClose 0 1 false) (sessionState)) ∧
    Answers (exec (.sessionTimeout 9600000000000 1) (sessionState)) ∧
    Answers (exec (.sessionTimeout 9599999999999 1) (sessionState)) ∧
    Answers (exec (.notifyAck 0 1 6) (notifiedState 1)) ∧
    Answers (exec (.notifyResend 16000000000 1 6) (notifiedState 1)) ∧
    Answers (exec (.notifyResend 128000000000 1 6) (notifiedState 4)) := by
  obtain ⟨h1, h2, h3, h4⟩ := h
  and_intros
  · exact ⟨_, (h1 0 (demoHello 0) (sessionState) (by decide +kernel) rfl (by decide +kernel) (by decide +kernel)).1 (by decide +kernel)⟩
  · exact ⟨_, (h1 0 (demoHello 0xFF) (crowdedState) (by decide +kernel) rfl (by decide +kernel) (by decide +kernel)).2.1 (by decide +kernel) (by decide +kernel)⟩
  · obtain ⟨_, e, _⟩ := (h1 0 (demoHello 0xFF) (sessionState) (by decide +kernel) rfl (by decide +kernel) (by decide +kernel)).2.2 (by decide +kernel) (by decide +kernel)
    exact ⟨_, e⟩
  · exact ⟨_, (h2 0 1 (sessionState) _ rfl).1⟩
  · obtain ⟨_, e, _⟩ := (h2 0 1 (sessionState) _ rfl).2.2.2.1
    exact ⟨_, e⟩
  · exact ⟨_, (h2 9600000000000 1 (sessionState) _ rfl).2.2.2.2.1 (by decide +kernel)⟩
  · exact ⟨_, (h2 9599999999999 1 (sessionState) _ rfl).2.2.2.2.2 (by decide +kernel)⟩
  · obtain ⟨_, e, _⟩ := h3 0 1 6 (notifiedState 1) _ rfl rfl (by decide +kernel)
    exact ⟨_, e⟩
  · obtain ⟨_, e, _⟩ := (h4 16000000000 1 6 (notifiedState 1) _ ⟨6, ⟨7, 1, 1, 0, []⟩, false, 0, 1⟩ rfl rfl (by decide +kernel)).1 (by decide +kernel) (by decide +kernel)
    exact ⟨_, e⟩
  · obtain ⟨_, e, _⟩ := (h4 128000000000 1 6 (notifiedState 4) _ ⟨6, ⟨7, 1, 1, 0, []⟩, false, 0, 4⟩ rfl rfl (by decide +kernel)).2 (by decide +kernel) rfl
    exact ⟨_, e⟩

theorem witness_FramesOfTheHost (h : Obligations.FramesOfTheHost) :
    ∃ t, exec (.linkDown 0 1) podState = .next t ∧ Changes [.elapsed, .emitted, .units] podState t :=
  ⟨_, rfl, h (.linkDown 0 1) podState _ rfl⟩

theorem witness_FramesOfTheHub (h : Obligations.FramesOfTheHub) :
    ∃ t, exec (.jobViewExpire 0) demo = .next t ∧ Changes [.elapsed, .emitted, .fm] demo t :=
  ⟨_, rfl, h (.jobViewExpire 0) demo _ rfl⟩

/-- Two commands wait. -/
def queuedState : State := { demo with pending := [.linkDown 0 1, .txtsStamp 0 5] }

theorem witness_StepRunsTheFront (h : Obligations.StepRunsTheFront) :
    step queuedState = exec (.linkDown 0 1) { demo with pending := [.txtsStamp 0 5] } ∧ step demo = .next demo ∧
    Answers (step queuedState) :=
  ⟨h.1 demo (.linkDown 0 1) [.txtsStamp 0 5], h.2.1 demo rfl, h.2.2.1 queuedState⟩

theorem reset_meets_the_invariant : State.reset.Inv := by
  refine ⟨?_, ?_, ?_, ?_⟩ <;> decide +kernel

theorem witness_StepKeepsInvariant (h : Obligations.StepKeepsInvariant) :
    ∃ t, step queuedState = .next t ∧ t.Inv :=
  ⟨_, rfl, h queuedState _ (by refine ⟨?_, ?_, ?_, ?_⟩ <;> decide +kernel) rfl⟩

theorem witness_LifecycleTransitions (h : Obligations.LifecycleTransitions)
    (sign : ∀ key m g, Config.ecdsaVerify key m g = true) :
    (∃ t, exec (.lcRequest 0 portReq demoLcRequest) challengeState = .next t ∧ t.lcState = 1) ∧
    ∃ t, step queuedState = .next t ∧ (t.lcState = 0 ∨ t.lcState = 1) := by
  refine ⟨?_, _, rfl, ?_⟩
  · obtain ⟨t, e, k, _⟩ := h.1 0 demoLcRequest portReq challengeState challengeAsks _ sessionCtx ⟨rfl, by decide +kernel⟩
      (request_passes sign)
    exact ⟨t, e, k⟩
  · exact .inl rfl

/-- `sessionState` with the session at level 3, as the owner's is. -/
def ownerState : State :=
  { sessionState with port := { sessionState.port with sessions := [{ demoSession with baseLevel := 3 }] } }

theorem witness_ManagerKeys (h : Obligations.ManagerKeys) (point : ∀ k, Config.validPoint k = true) :
    Answers (exec (.mgrKeysWrite 0 portReq 0 [4]) (ownedState ownerState)) ∧
    Answers (exec (.mgrKeysWrite 0 portReq 4 (be 97 4)) ownerState) ∧
    Answers (exec (.mgrKeysWrite 0 portReq 4 (zeros 97)) ownerState) ∧
    Answers (exec (.mgrKeysWrite 0 portReq 4 [4]) ownerState) := by
  refine ⟨?_, ?_, ?_, ?_⟩
  · exact ⟨_, (h 0 0 [4] portReq (ownedState ownerState) _ ⟨.session 1, 4, 1⟩ ⟨rfl, by decide +kernel⟩).1 (by decide +kernel)⟩
  · obtain ⟨_, e, _⟩ := (h 0 4 (be 97 4) portReq ownerState _ ⟨.session 1, 4, 1⟩ ⟨rfl, by decide +kernel⟩).2.1 (by decide +kernel)
      (by decide +kernel) (point _) (by decide +kernel)
    exact ⟨_, e⟩
  · obtain ⟨_, e, _⟩ := (h 0 4 (zeros 97) portReq ownerState _ ⟨.session 1, 4, 1⟩ ⟨rfl, by decide +kernel⟩).2.2.1 (by decide +kernel) rfl
    exact ⟨_, e⟩
  · exact ⟨_, (h 0 4 [4] portReq ownerState _ ⟨.session 1, 4, 1⟩ ⟨rfl, by decide +kernel⟩).2.2.2 (by decide +kernel) (by decide +kernel)
      (.inl (by decide))⟩

theorem witness_OfferRevoked (h : Obligations.OfferRevoked) : Answers (exec (.offerRevoke 0 1) sessionState) := by
  obtain ⟨_, e, _⟩ := h 0 1 sessionState (by decide +kernel) rfl
  exact ⟨_, e⟩

theorem witness_ReplicaTracking (h : Obligations.ReplicaTracking) :
    (coldRep.track (demoMsg 1 0) 0 0 false).1.state = .tracking ∧
    (trackingRep.track (demoMsg 1 0) 0 0 true).1.clock.counting = true := by
  have a := h coldRep (demoMsg 1 0) 0 0 false _ rfl
  have b := h trackingRep (demoMsg 1 0) 0 0 true _ rfl
  exact ⟨a.1, (b.2.2.2.1 (.inr (.inl rfl))).1⟩

/-! ## Ill-formed commands are refused -/

/-- Operands that no field can hold, and a well-formed capture. -/
def badReq : Req := .chip 0x10000
def badReport : FrameRep := { demoReport with beats := [] }
def goodCapture : CaptureMsg := ⟨0, 0, zeros 64, [], []⟩
def badCapture : CaptureMsg := ⟨0, 32, zeros 64, [], []⟩
def badHello : Hello := ⟨⟨0x88B5, 1, 217, 217, 5, 9, 0, 0, true⟩, []⟩

theorem wf_holds : (Instr.frameReport 0 15 demoReport).wf = true ∧ (Instr.captureReceive 0 goodCapture).wf = true ∧
    (Instr.sessionHello 0 (demoHello 0)).wf = true ∧ (Instr.optionLoadingEnd 0 demoRead).wf = true ∧
    (Instr.schedQuench 0 portReq 31 (2 ^ 64 - 1) 255).wf = true ∧ (Instr.pmbusTransactionDone 0 ⟨15, 0xFF, true, 0xFFFF⟩).wf = true := by
  decide +kernel

theorem wf_refuses_fields :
    wfHdr ⟨0x10000, 1, 0, 0, 0, 0, 0, 0, true⟩ = false ∧ wfHdr ⟨0, 16, 0, 0, 0, 0, 0, 0, true⟩ = false ∧
    wfHdr ⟨0, 1, 0x10000, 0, 0, 0, 0, 0, true⟩ = false ∧ wfHdr ⟨0, 1, 0, 0, 0x100, 0, 0, 0, true⟩ = false ∧
    wfHdr ⟨0, 1, 0, 0, 0, 0x100, 0, 0, true⟩ = false ∧ wfHdr ⟨0, 1, 0, 0, 0, 0, 0x10000, 0, true⟩ = false ∧
    wfHdr ⟨0, 1, 0, 0, 0, 0, 0, 0x10000, true⟩ = false ∧
    wfReq (.port ⟨0x10000, 1, 0, 0, 0, 0, 0, 0, true⟩) = false ∧ wfLen 1 [0, 0] = false ∧
    wfWords 1 [0, 0] = false ∧ wfU32s [2 ^ 32] = false ∧
    wfReport { demoReport with beats := List.replicate 8 (some (2 ^ 32)) } = false ∧
    wfReport { demoReport with engines := [⟨4352, 0, 0⟩] } = false ∧
    wfReport { demoReport with engines := [⟨0, 2 ^ 32, 0⟩] } = false ∧
    wfReport { demoReport with engines := [⟨0, 0, 0x100⟩] } = false ∧
    wfReport { demoReport with bindings := [(1088, zeros 128)] } = false ∧
    wfReport { demoReport with bindings := [(0, [])] } = false ∧ wfReport { demoReport with diodes := [] } = false ∧
    wfReport { demoReport with droops := [] } = false ∧ wfUpset [(0, 2 ^ 32)] = false ∧
    wfCapture { goodCapture with bar := 2 } = false ∧ wfCapture { goodCapture with header := [] } = false ∧
    wfCapture { goodCapture with upset := [(256, 0)] } = false ∧ wfSelfTest ⟨2 ^ 32, 0, 0, 0⟩ = false ∧
    wfSelfTest ⟨0, 2 ^ 32, 0, 0⟩ = false ∧ wfSelfTest ⟨0, 0, 0, 2 ^ 32⟩ = false ∧
    wfPmbus ⟨0, 0x100, true, 0⟩ = false ∧ wfPmbus ⟨0, 0, true, 0x10000⟩ = false ∧
    wfOptionRead ⟨0x10000, List.replicate 8 0, [], false⟩ = false ∧
    wfHello ⟨⟨0x10000, 1, 0, 0, 0, 0, 0, 0, true⟩, []⟩ = false := by
  decide +kernel

theorem wf_refuses_secure_lines :
    (Instr.debugReadComplete 0 0 0 0x10 0 0 [] [64]).wf = false ∧ (Instr.ringResponse 0 0 [] [256]).wf = false := by
  decide +kernel

theorem wfLen_zeros (n m : Nat) : wfLen m (zeros n) = decide (n ≤ m) := by
  simp [wfLen, zeros]

theorem wf_refuses_1 :
    (Instr.frameReport 0 16 demoReport).wf = false ∧
    (Instr.frameReport 0 0 badReport).wf = false ∧
    (Instr.hbMiss 0 128).wf = false ∧
    (Instr.hangEngine 0 0x10000 0).wf = false ∧
    (Instr.hangEngine 0 0 0x100).wf = false ∧
    (Instr.runnerSilent 0 16).wf = false ∧
    (Instr.tapSilent 0 128).wf = false ∧
    (Instr.sensorFail 0 128).wf = false ∧
    (Instr.commHoldSet 0 16).wf = false ∧
    (Instr.commHoldClear 0 16).wf = false ∧
    (Instr.slotJobCheck 0 0x100).wf = false ∧
    (Instr.samplingSlot 0 0x100).wf = false ∧
    (Instr.schedQuench 0 badReq 0 0 0).wf = false ∧
    (Instr.schedQuench 0 hubReq 32 0 0).wf = false ∧
    (Instr.schedQuench 0 hubReq 0 (2 ^ 64) 0).wf = false ∧
    (Instr.schedQuench 0 hubReq 0 0 0x100).wf = false ∧
    (Instr.schedPodQuench 0 badReq 0 0 0).wf = false ∧
    (Instr.schedPodQuench 0 hubReq 32 0 0).wf = false ∧
    (Instr.schedPodQuench 0 hubReq 0 (2 ^ 64) 0).wf = false ∧
    (Instr.schedPodQuench 0 hubReq 0 0 0x100).wf = false ∧
    (Instr.schedStep 0 badReq 0 0 0).wf = false ∧
    (Instr.schedStep 0 hubReq 32 0 0).wf = false ∧
    (Instr.schedStep 0 hubReq 0 (2 ^ 64) 0).wf = false ∧
    (Instr.schedStep 0 hubReq 0 0 0x100).wf = false := by
  decide +kernel

theorem wf_refuses_2 :
    (Instr.schedResume 0 badReq 0 0 0).wf = false ∧
    (Instr.schedResume 0 hubReq 32 0 0).wf = false ∧
    (Instr.schedResume 0 hubReq 0 (2 ^ 64) 0).wf = false ∧
    (Instr.schedResume 0 hubReq 0 0 0x100).wf = false ∧
    (Instr.schedFrameLen 0 badReq 0 0 0).wf = false ∧
    (Instr.schedFrameLen 0 hubReq 32 0 0).wf = false ∧
    (Instr.schedFrameLen 0 hubReq 0 (2 ^ 64) 0).wf = false ∧
    (Instr.schedFrameLen 0 hubReq 0 0 0x100).wf = false ∧
    (Instr.schedTimeStep 0 badReq 0 0 0).wf = false ∧
    (Instr.schedTimeStep 0 hubReq 32 0 0).wf = false ∧
    (Instr.schedTimeStep 0 hubReq 0 (2 ^ 64) 0).wf = false ∧
    (Instr.schedTimeStep 0 hubReq 0 0 0x100).wf = false ∧
    (Instr.schedRoleSwap 0 badReq 0 0 0).wf = false ∧
    (Instr.schedRoleSwap 0 hubReq 32 0 0).wf = false ∧
    (Instr.schedRoleSwap 0 hubReq 0 (2 ^ 64) 0).wf = false ∧
    (Instr.schedRoleSwap 0 hubReq 0 0 0x100).wf = false ∧
    (Instr.schedEmpty 0 badReq 0).wf = false ∧
    (Instr.schedEmpty 0 hubReq 32).wf = false ∧
    (Instr.frameLenChange 0 32).wf = false ∧
    (Instr.timeStepApply 0 32).wf = false ∧
    (Instr.roleSwapDue 0 32).wf = false ∧
    (Instr.lockstepFault 0 2).wf = false ∧
    (Instr.quCmdArm 0 badReq).wf = false ∧
    (Instr.quCmdCancel 0 badReq).wf = false := by
  decide +kernel

theorem wf_refuses_3 :
    (Instr.quCmdStep 0 badReq).wf = false ∧
    (Instr.quCmdResume 0 badReq).wf = false ∧
    (Instr.quCmdPeek 0 badReq).wf = false ∧
    (Instr.castReceive 0 160 []).wf = false ∧
    (Instr.castReceive 0 0 (zeros 513)).wf = false ∧
    (Instr.castResponse 0 (zeros 65)).wf = false ∧
    (Instr.castRetry 0 0x10000).wf = false ∧
    (Instr.castUnresponsive 0 0x10000).wf = false ∧
    (Instr.holdReceive 0 160 0).wf = false ∧
    (Instr.cutOrderReceive 0 48 []).wf = false ∧
    (Instr.cutOrderReceive 0 0 (zeros 257)).wf = false ∧
    (Instr.cutWithdrawReceive 0 48 []).wf = false ∧
    (Instr.cutWithdrawReceive 0 0 (zeros 257)).wf = false ∧
    (Instr.cutAckReceive 0 48 []).wf = false ∧
    (Instr.cutAckReceive 0 0 (zeros 257)).wf = false ∧
    (Instr.stepPoll 0 128).wf = false ∧
    (Instr.stepOverrun 0 128).wf = false ∧
    (Instr.quCancelLate 0 32).wf = false ∧
    (Instr.soStart 0 badReq).wf = false ∧
    (Instr.soStartRef 0 badReq).wf = false ∧
    (Instr.soAbort 0 badReq).wf = false ∧
    (Instr.soFettleReserve 0 badReq).wf = false ∧
    (Instr.soAck 0 badReq 0).wf = false ∧
    (Instr.soAck 0 hubReq (2 ^ 32)).wf = false := by
  decide +kernel

theorem wf_refuses_4 :
    (Instr.soRecordRead 0 badReq true true).wf = false ∧
    (Instr.soHeaderRead 0 badReq).wf = false ∧
    (Instr.reserveWrite 0 badReq 0 0 0).wf = false ∧
    (Instr.reserveWrite 0 hubReq 0x10000 0 0).wf = false ∧
    (Instr.reserveWrite 0 hubReq 0 0x100 0).wf = false ∧
    (Instr.reserveWrite 0 hubReq 0 0 (2 ^ 64)).wf = false ∧
    (Instr.debugReadComplete 0 16 0 0 0 0 [] []).wf = false ∧
    (Instr.debugReadComplete 0 0 0x10000 0 0 0 [] []).wf = false ∧
    (Instr.debugReadComplete 0 0 0 0x100 0 0 [] []).wf = false ∧
    (Instr.debugReadComplete 0 0 0 0 524288 0 [] []).wf = false ∧
    (Instr.debugReadComplete 0 0 0 0 0 4 [] []).wf = false ∧
    (Instr.debugReadComplete 0 0 0 0 0 0 [] [64]).wf = false ∧
    (Instr.debugReadTimeout 0 16 0 0 0).wf = false ∧
    (Instr.debugReadTimeout 0 0 0x10000 0 0).wf = false ∧
    (Instr.debugReadTimeout 0 0 0 0x100 0).wf = false ∧
    (Instr.debugReadTimeout 0 0 0 0 524288).wf = false ∧
    (Instr.recordWriteComplete 0 16 0 0 0 true true).wf = false ∧
    (Instr.recordWriteComplete 0 0 0x10000 0 0 true true).wf = false ∧
    (Instr.recordWriteComplete 0 0 0 0x100 0 true true).wf = false ∧
    (Instr.recordWriteComplete 0 0 0 0 (2 ^ 32) true true).wf = false ∧
    (Instr.ladleWriteTimeout 0 16 0 0).wf = false ∧
    (Instr.ladleWriteTimeout 0 0 0x10000 0).wf = false ∧
    (Instr.ladleWriteTimeout 0 0 0 0x100).wf = false ∧
    (Instr.sealPartReport 0 16 0).wf = false := by
  decide +kernel

theorem wf_refuses_5 :
    (Instr.sealPartReport 0 0 3).wf = false ∧
    (Instr.sealResult 0 (2 ^ 64)).wf = false ∧
    (Instr.soRunnerLost 0 16).wf = false ∧
    (Instr.contextRemove 0 badReq 0).wf = false ∧
    (Instr.contextRemove 0 hubReq 4096).wf = false ∧
    (Instr.contextCastReceive 0 160 [] 0 0 0).wf = false ∧
    (Instr.contextCastReceive 0 0 (zeros 513) 0 0 0).wf = false ∧
    (Instr.contextCastReceive 0 0 [] 0x10000 0 0).wf = false ∧
    (Instr.contextCastReceive 0 0 [] 0 0x10000 0).wf = false ∧
    (Instr.contextCastReceive 0 0 [] 0 0 0x100).wf = false ∧
    (Instr.removeCountComplete 0 0x10000).wf = false ∧
    (Instr.drainElapsed 0 0x10000).wf = false ∧
    (Instr.replayResponse 0 0x10000 0 0 0).wf = false ∧
    (Instr.replayResponse 0 0 0x10000 0 0).wf = false ∧
    (Instr.replayResponse 0 0 0 0x10000 0).wf = false ∧
    (Instr.replayResponse 0 0 0 0 0x100).wf = false ∧
    (Instr.contextFettleDone 0 4096 0).wf = false ∧
    (Instr.contextFettleDone 0 0 16).wf = false ∧
    (Instr.unitResetPulse 0 badReq 0 0 true).wf = false ∧
    (Instr.unitResetPulse 0 hubReq 0x10000 0 true).wf = false ∧
    (Instr.unitResetPulse 0 hubReq 0 0x100 true).wf = false ∧
    (Instr.unitResetHold 0 badReq 0 0 true).wf = false ∧
    (Instr.unitResetHold 0 hubReq 0x10000 0 true).wf = false ∧
    (Instr.unitResetHold 0 hubReq 0 0x100 true).wf = false := by
  decide +kernel

theorem wf_refuses_6 :
    (Instr.unitResetRelease 0 badReq 0 0 true).wf = false ∧
    (Instr.unitResetRelease 0 hubReq 0x10000 0 true).wf = false ∧
    (Instr.unitResetRelease 0 hubReq 0 0x100 true).wf = false ∧
    (Instr.recoveryLevel 0 badReq 0).wf = false ∧
    (Instr.recoveryLevel 0 hubReq (2 ^ 64)).wf = false ∧
    (Instr.beaconReceive 0 48 []).wf = false ∧
    (Instr.beaconReceive 0 0 (zeros 65)).wf = false ∧
    (Instr.runnerNoTick 0 16).wf = false ∧
    (Instr.selfTestEnd 0 ⟨0, 0, 2 ^ 48, 0⟩).wf = false ∧
    (Instr.suspectCmdClear 0 badReq).wf = false ∧
    (Instr.expel 0 badReq []).wf = false ∧
    (Instr.expel 0 hubReq (zeros 2049)).wf = false ∧
    (Instr.expelRelease 0 badReq []).wf = false ∧
    (Instr.expelRelease 0 hubReq (zeros 2049)).wf = false ∧
    (Instr.admBegin 0 badReq).wf = false ∧
    (Instr.admServe 0 badReq).wf = false ∧
    (Instr.admAbort 0 badReq).wf = false ∧
    (Instr.admOpenReceive 0 16 []).wf = false ∧
    (Instr.admRecordReceive 0 16 []).wf = false ∧
    (Instr.admSealResult 0 (2 ^ 64)).wf = false ∧
    (Instr.admServeDone 0 true (2 ^ 64) 0 0).wf = false ∧
    (Instr.admServeDone 0 true 0 (2 ^ 64) 0).wf = false ∧
    (Instr.admServeDone 0 true 0 0 (2 ^ 32)).wf = false ∧
    (Instr.captureReceive 0 badCapture).wf = false := by
  decide +kernel

theorem wf_refuses_7 :
    (Instr.barComputeDone 0 2 []).wf = false ∧
    (Instr.barComputeDone 0 0 [(256, 0)]).wf = false ∧
    (Instr.captureTimeout 0 2 0).wf = false ∧
    (Instr.captureTimeout 0 0 32).wf = false ∧
    (Instr.barSelfCheckDone 0 2 true).wf = false ∧
    (Instr.tbEventAck 0 badReq 0).wf = false ∧
    (Instr.tbEventAck 0 hubReq (2 ^ 32)).wf = false ∧
    (Instr.tbQuarantineClear 0 badReq 0).wf = false ∧
    (Instr.tbQuarantineClear 0 hubReq 0x10000).wf = false ∧
    (Instr.tbProbeLoad 0 badReq []).wf = false ∧
    (Instr.probeRunBar 0 badReq 0 0 0).wf = false ∧
    (Instr.probeRunBar 0 hubReq (2 ^ 32) 0 0).wf = false ∧
    (Instr.probeRunBar 0 hubReq 0 0x10000 0).wf = false ∧
    (Instr.probeRunBar 0 hubReq 0 0 0x100).wf = false ∧
    (Instr.probeRunEngine 0 badReq 0 0 0).wf = false ∧
    (Instr.probeRunEngine 0 hubReq (2 ^ 32) 0 0).wf = false ∧
    (Instr.probeRunEngine 0 hubReq 0 0x10000 0).wf = false ∧
    (Instr.probeRunEngine 0 hubReq 0 0 0x100).wf = false ∧
    (Instr.probeOpDone 0 (zeros 65) [] []).wf = false ∧
    (Instr.probeOpDone 0 [] [2 ^ 32] []).wf = false ∧
    (Instr.probeOpDone 0 [] [] [(256, 0)]).wf = false ∧
    (Instr.traceLineReceive 0 16 []).wf = false ∧
    (Instr.traceLineReceive 0 0 (zeros 65)).wf = false ∧
    (Instr.pmbusTransactionDone 0 ⟨16, 0, true, 0⟩).wf = false := by
  decide +kernel

theorem wf_refuses_8 :
    (Instr.pmbAlert 0 128 0).wf = false ∧
    (Instr.pmbAlert 0 0 0x10000).wf = false ∧
    (Instr.tbNowRead 0 badReq).wf = false ∧
    (Instr.markCycle 0 2).wf = false ∧
    (Instr.markReceive 0 0x10000 []).wf = false ∧
    (Instr.markReceive 0 0 [2 ^ 32]).wf = false ∧
    (Instr.loadReceive 0 0x10000 []).wf = false ∧
    (Instr.loadReceive 0 0 [2 ^ 32]).wf = false ∧
    (Instr.stepMsgReceive 0 0x10000 []).wf = false ∧
    (Instr.stepMsgReceive 0 0 [2 ^ 32]).wf = false ∧
    (Instr.calReqReceive 0 0x10000 []).wf = false ∧
    (Instr.calReqReceive 0 0 [2 ^ 32]).wf = false ∧
    (Instr.calEchoLaunch 0 0x10000).wf = false ∧
    (Instr.calEchoReceive 0 2 []).wf = false ∧
    (Instr.calEchoReceive 0 0 [2 ^ 32]).wf = false ∧
    (Instr.calSetReceive 0 0x10000 []).wf = false ∧
    (Instr.calSetReceive 0 0 [2 ^ 32]).wf = false ∧
    (Instr.calEchoTimeout 0 2).wf = false ∧
    (Instr.replicaFlywheel 0 0x10000).wf = false ∧
    (Instr.replicaLost 0 0x10000).wf = false ∧
    (Instr.syncSend 0 48).wf = false ∧
    (Instr.syncReceive 0 48 []).wf = false ∧
    (Instr.syncReceive 0 0 (zeros 257)).wf = false ∧
    (Instr.linkTrained 0 48).wf = false := by
  decide +kernel

theorem wf_refuses_9 :
    (Instr.loopMeasureDone 0 48 []).wf = false ∧
    (Instr.loopMeasureDone 0 0 [2 ^ 32]).wf = false ∧
    (Instr.servoRestart 0 badReq 0).wf = false ∧
    (Instr.servoRestart 0 hubReq (2 ^ 64)).wf = false ∧
    (Instr.timeQuery 0 badReq).wf = false ∧
    (Instr.timeAnswer 0 (2 ^ 80) 0 0 0).wf = false ∧
    (Instr.timeAnswer 0 0 (2 ^ 80) 0 0).wf = false ∧
    (Instr.timeAnswer 0 0 0 (2 ^ 80) 0).wf = false ∧
    (Instr.timeAnswer 0 0 0 0 (2 ^ 80)).wf = false ∧
    (Instr.txtsStamp 0 0x10000).wf = false ∧
    (Instr.txtsQueuePop 0 badReq).wf = false ∧
    (Instr.domainRelease 0 10).wf = false ∧
    (Instr.d8Wave 0 4).wf = false ∧
    (Instr.clockLost 0 10 0).wf = false ∧
    (Instr.clockLost 0 0 16).wf = false ∧
    (Instr.clockLostInService 0 10 0).wf = false ∧
    (Instr.clockLostInService 0 0 16).wf = false ∧
    (Instr.clockTimeout 0 10 0).wf = false ∧
    (Instr.clockTimeout 0 0 16).wf = false ∧
    (Instr.selfCheckDone 0 2 true).wf = false ∧
    (Instr.optionLoadingEnd 0 ⟨550, [550], [], false⟩).wf = false ∧
    (Instr.fwBoot 0 2).wf = false ∧
    (Instr.stormRelease 0 badReq 0).wf = false ∧
    (Instr.stormRelease 0 hubReq (2 ^ 64)).wf = false := by
  decide +kernel

theorem wf_refuses_10 :
    (Instr.stage 0 badReq 0 0 0 []).wf = false ∧
    (Instr.stage 0 hubReq 0x10000 0 0 []).wf = false ∧
    (Instr.stage 0 hubReq 0 0x100 0 []).wf = false ∧
    (Instr.stage 0 hubReq 0 0 (2 ^ 32) []).wf = false ∧
    (Instr.stage 0 hubReq 0 0 0 (zeros 1457)).wf = false ∧
    (Instr.commit 0 badReq true true).wf = false ∧
    (Instr.blkOpen 0 badReq 0 0 0 0 0).wf = false ∧
    (Instr.blkOpen 0 hubReq 0x10000 0 0 0 0).wf = false ∧
    (Instr.blkOpen 0 hubReq 0 0x100 0 0 0).wf = false ∧
    (Instr.blkOpen 0 hubReq 0 0 0x100 0 0).wf = false ∧
    (Instr.blkOpen 0 hubReq 0 0 0 (2 ^ 32) 0).wf = false ∧
    (Instr.blkOpen 0 hubReq 0 0 0 0 (2 ^ 32)).wf = false ∧
    (Instr.blkData 0 badReq 0 0 []).wf = false ∧
    (Instr.blkData 0 hubReq 0x10000 0 []).wf = false ∧
    (Instr.blkData 0 hubReq 0 (2 ^ 32) []).wf = false ∧
    (Instr.blkData 0 hubReq 0 0 (zeros 1457)).wf = false ∧
    (Instr.blkClose 0 badReq 0 0).wf = false ∧
    (Instr.blkClose 0 hubReq 0x10000 0).wf = false ∧
    (Instr.blkClose 0 hubReq 0 (2 ^ 32)).wf = false ∧
    (Instr.blkDataResend 0 0x10000 0).wf = false ∧
    (Instr.blkDataResend 0 0 (2 ^ 32)).wf = false ∧
    (Instr.blkTimeout 0 0x10000).wf = false ∧
    (Instr.notifyAck 0 0x10000 0).wf = false ∧
    (Instr.notifyAck 0 0 (2 ^ 32)).wf = false := by
  decide +kernel

theorem wf_refuses_11 :
    (Instr.notifyResend 0 0x10000 0).wf = false ∧
    (Instr.notifyResend 0 0 (2 ^ 32)).wf = false ∧
    (Instr.offerAssign 0 (2 ^ 64) 0 0).wf = false ∧
    (Instr.offerAssign 0 0 0x100 0).wf = false ∧
    (Instr.offerAssign 0 0 0 0x100).wf = false ∧
    (Instr.offerRevoke 0 (2 ^ 64)).wf = false ∧
    (Instr.sessionHello 0 badHello).wf = false ∧
    (Instr.sessionClose 0 0x10000 true).wf = false ∧
    (Instr.sessionTimeout 0 0x10000).wf = false ∧
    (Instr.registerWrite 0 badReq 0 0 0 []).wf = false ∧
    (Instr.registerWrite 0 hubReq 0x10000 0 0 []).wf = false ∧
    (Instr.registerWrite 0 hubReq 0 0x100 0 []).wf = false ∧
    (Instr.registerWrite 0 hubReq 0 0 (2 ^ 32) []).wf = false ∧
    (Instr.registerWrite 0 hubReq 0 0 0 (zeros 1457)).wf = false ∧
    (Instr.fwUpdate 0 badReq []).wf = false ∧
    (Instr.fwUpdateApply 0 badReq 0).wf = false ∧
    (Instr.fwUpdateApply 0 hubReq (2 ^ 64)).wf = false ∧
    (Instr.lcRequest 0 badReq []).wf = false ∧
    (Instr.lcFettleDone 0 16 true).wf = false ∧
    (Instr.authChallenge 0 badReq).wf = false ∧
    (Instr.authToken 0 badReq []).wf = false ∧
    (Instr.authEnded 0 0x10000).wf = false ∧
    (Instr.mgrKeysWrite 0 badReq 0 []).wf = false ∧
    (Instr.mgrKeysWrite 0 hubReq 5 []).wf = false := by
  decide +kernel

theorem wf_refuses_12 :
    (Instr.logAck 0 badReq 0).wf = false ∧
    (Instr.logAck 0 hubReq (2 ^ 32)).wf = false ∧
    (Instr.logRead 0 badReq).wf = false ∧
    (Instr.ringResponse 0 16 [] []).wf = false ∧
    (Instr.ringResponse 0 0 [2 ^ 32] []).wf = false ∧
    (Instr.ringResponse 0 0 [] [256]).wf = false ∧
    (Instr.ringTimeout 0 16 0).wf = false ∧
    (Instr.ringTimeout 0 0 0x100).wf = false ∧
    (Instr.jtagUpdateIr 0 ⟨64, none⟩).wf = false ∧
    (Instr.jtagUpdateIr 0 ⟨0, some (2 ^ 28)⟩).wf = false ∧
    (Instr.chillEntry 0 32).wf = false ∧
    (Instr.chillExit 0 32).wf = false ∧
    (Instr.linkDown 0 48).wf = false ∧
    (Instr.traceStallTimeout 0 0x8000).wf = false := by
  decide +kernel

theorem wf_refuses_long_debugReadComplete : (Instr.debugReadComplete 0 0 0 0 0 0 (zeros 4097) []).wf = false := by
  simp [Instr.wf, wfLen_zeros]

theorem wf_refuses_long_admOpenReceive : (Instr.admOpenReceive 0 0 (zeros 65601)).wf = false := by
  simp [Instr.wf, wfLen_zeros]

theorem wf_refuses_long_admRecordReceive : (Instr.admRecordReceive 0 0 (zeros 65601)).wf = false := by
  simp [Instr.wf, wfLen_zeros]

theorem wf_refuses_long_admEndReceive : (Instr.admEndReceive 0 (zeros 65601)).wf = false := by
  simp [Instr.wf, wfLen_zeros]

theorem wf_refuses_long_tbProbeLoad : (Instr.tbProbeLoad 0 hubReq (zeros 65537)).wf = false := by
  simp [Instr.wf, wfLen_zeros]

theorem wf_refuses_long_fwUpdate : (Instr.fwUpdate 0 hubReq (zeros 1048577)).wf = false := by
  simp [Instr.wf, wfLen_zeros]

theorem wf_refuses_long_lcRequest : (Instr.lcRequest 0 hubReq (zeros 4097)).wf = false := by
  simp [Instr.wf, wfLen_zeros]

theorem wf_refuses_long_authToken : (Instr.authToken 0 hubReq (zeros 4097)).wf = false := by
  simp [Instr.wf, wfLen_zeros]

theorem wf_refuses_long_mgrKeysWrite : (Instr.mgrKeysWrite 0 hubReq 0 (zeros 4097)).wf = false := by
  simp [Instr.wf, wfLen_zeros]

/-! ## The spec's own worked examples -/

/-- The encodings of 00 and of the example core of 01. -/
theorem test_uid_encodings :
    slotUid 42 37 = 0x2A25 ∧ slotUid 42 66 = 0x2A42 ∧ coreUid 0 = 0x8100 ∧ coreUid 1 = 0xF901 ∧ runnerUid 15 = 0xF800 ∧
    tapUid 42 = 0xA812 ∧ ccpUid 42 = 0xA803 ∧ uidCluster 0x2A42 = 42 ∧ uidSlot 0x2A42 = 66 ∧ uidDie 0x2A42 = 5 := by
  decide +kernel

/-- 01: column 3 of row 169 fails, and spare column 32 takes over at the commit. -/
theorem test_remap :
    (demo.coreFailed 0x2A25).row 169 = { SpareRow.fresh with rowState := 1, pendingLogical := 3, pendingPhysical := 32, failed := [3] } ∧
    ((demo.coreFailed 0x2A25).row 169).commit.map.getD 3 0 = 32 ∧ ((demo.coreFailed 0x2A25).row 169).commit.sparesLeft = 1 := by
  decide +kernel

/-- 01: the logical core 5,411 before and after the remap. -/
theorem test_remapped_core :
    demo.logicalUid 5411 = some 0x2A25 ∧
    (demo.putRow 169 ((demo.coreFailed 0x2A25).row 169).commit).logicalUid 5411 = some 0x2A42 := by
  decide +kernel

/-- The check value of CRC-32C over the nine digits (R61 names the code). -/
theorem test_crc32c : crc32c [0x31, 0x32, 0x33, 0x34, 0x35, 0x36, 0x37, 0x38, 0x39] = 0xE3069283 := by decide +kernel

/-- 02: the ring request of one progress word. -/
theorem test_ring_request :
    (({ ringRead 42 0x12 0 1 1064 (.bindings 0) with tag := 5 } : RingTxn).words).take 2 = [0x14120005, 0x00000428] := by
  decide +kernel

/-- 03: word 0 of the CAL_REQ. -/
theorem test_cal_req_word : wireWord0 4 0 1 0 0xD015 = 0x4400D015 := by decide

/-- 03: the CAL_ECHO of the example gives Hub A the delay 0x00FB_6000. -/
def calTestState : State :=
  { demo with
    elapsed := 572630, tb := { demo.tb with active := ⟨1000003578 * 2 ^ 48 + 15 * 2 ^ 44, 572630, 0, 0, 0, true⟩ }
    wireA := { Wire.idle with sourcing := true
                              reqs := [⟨0xD015, 0, 0, 1000000000 * 65536, 0, false⟩]
                              targets := [(0xD015, { CalTarget.fresh with measures := [16474112, 16474112] })] } }
theorem test_cal_echo :
    (match exec (.calEchoReceive 0 0 (wireMsg (wireWord0 5 0 0 0 0xD015) 0x0C000000 0x023801F8 0 0)) calTestState with
      | .next t => ((t.wireA.target 0xD015).dSet, t.wireA.reqs.length)
      | _ => (none, 9)) = (some 0x00FB6000, 0) := by decide +kernel

/-- 04: the servo's first two inputs. -/
def slowServo (i : Rat) : State :=
  { demo with elapsed := 64000000, pod := { Pod.fresh with servo := { Servo.fresh with integral := i, lastSample := some 0 } } }
theorem test_servo_first :
    ((slowServo 40).servoInput (8 / 10)).pod.servo.freqPpb = -218 ∧
    ((slowServo 40).servoInput (8 / 10)).pod.servo.integral = 321875 / 10000 ∧
    ((slowServo 40).servoInput (8 / 10)).tb.active.rate = -239694 := by decide +kernel
theorem test_servo_second :
    ((slowServo (321875 / 10000)).servoInput (6968 / 10000)).pod.servo.freqPpb = -192 ∧
    ((slowServo (321875 / 10000)).servoInput (6968 / 10000)).tb.active.rate = -211106 := by decide +kernel

/-- 05: 150 values of 32 octets split into groups of 64, 64 and 22. -/
theorem test_split_groups :
    ((splitGroups [] (List.replicate 150 (⟨0x2050, 0, zeros 32⟩ : Staged))).map List.length) = [64, 64, 22] := by decide +kernel

/-- 05: the adjusted time of the FRAME_LEN entry. -/
theorem test_frame_len_adjusted :
    ({ demo with tb := { demo.tb with active := ⟨7200001234567 * 2 ^ 48, 0, 0, 0, 0, true⟩ }
                 frame := { demo.frame with lenNext := 250000 } } : State).adjusted 5 = 7200004000000 := by decide +kernel

/-- 06: the count wave of a quench at 8,000 s and its low 32 bits. -/
theorem test_count_wave : countWave 8000000000000 = 124999999979 ∧ countWave 8000000000000 % 2 ^ 32 = 0x1A94A1EB := by decide

/-- 08: the valid entries of the binding table of engine 2. -/
theorem test_bindings :
    bindingEntries (zeros 64 ++ le 4 0x800111A3 ++ zeros 8 ++ le 4 0x800042F0 ++ zeros 4 ++ le 4 0x800FE7C1 ++ zeros 40) =
      [(2, 0, 0x1A3, 0x11), (2, 3, 0x2F0, 0x04), (2, 5, 0x7C1, 0xFE)] := by decide +kernel

/-- 10: position 1,000 of round 3, and the engine it names. -/
theorem test_rotation :
    rotationIndex 0x00003C5A0F114D27 3 1000 = 9335 ∧ demo.rotationEngine 9335 = some (0x121D, 3) ∧
    engineNumber 0x121D 3 = 9911 ∧ engineOf 9911 = (0x121D, 3) ∧ demo.rotationCount = 65536 := by decide +kernel

/-- 12: the credits of the worked permit. -/
def permitState : State :=
  { demo with
    topo := { demo.topo with rows := (List.range 4).map fun r => (26 * 4 + r, SpareRow.lost SpareRow.fresh 3) }
    power := { Power.fresh with
      budget := 12000
      dies := (List.range 16).map fun d =>
        (d, { DieSensors.fresh with stale := false, diodeFail := 0, scale := if d = 7 then 7 else 8
                                    diode := if d = 3 then [0, 0, 0, 0, 0, 1600, 0, 0] else zeros8 }) } }
where zeros8 : List Int := [0, 0, 0, 0, 0, 0, 0, 0]
theorem test_base_credit : permitState.servedClusters = 127 ∧ permitState.baseCredit = 218 := by decide +kernel
theorem test_credits :
    permitState.creditOf 218 29 = 125 ∧ permitState.creditOf 218 56 = 190 ∧ permitState.creditOf 218 26 = 0 ∧
    permitState.creditOf 218 0 = 218 := by decide +kernel

/-- 12: the first words of the permit that these credits give. -/
theorem test_permit_words :
    (({ permitState with
        frame := { permitState.frame with number := 9000000 }
        power := { permitState.power with
          emergency := 1, credits := (List.range 128).map fun c => (c, permitState.creditOf 218 c) } } : State).permitWords.take 19) =
      [0x54402EE0, 0x00010000, 0xDADADADA, 0xDADADADA, 0xDADADADA, 0xDADADADA, 0xDADADADA, 0xDADADADA, 0xDA00DADA, 0xDADA7DDA,
       0xDADADADA, 0xDADADADA, 0xDADADADA, 0xDADADADA, 0xDADADADA, 0xDADADADA, 0xBEBEBEBE, 0xBEBEBEBE, 0xDADADADA] := by
  decide +kernel

/-- 13: the strap of 948 mV, and the one of 1,000 mV whose repeats average 1,002 mV. -/
theorem test_strap :
    strapRepeated ⟨948, [], [], false⟩ = false ∧ strapCodeOf ⟨948, [], [], false⟩ = 9 ∧ strapMvOf ⟨948, [], [], false⟩ 0 = 948 ∧
    strapRepeated ⟨1000, List.replicate 8 1002, [], false⟩ = true ∧ strapCodeOf ⟨1000, List.replicate 8 1002, [], false⟩ = 0 ∧
    strapUnclear ⟨1000, List.replicate 8 1002, [], false⟩ = true := by decide +kernel

/-- 14: the header of the RESULT. -/
theorem test_result_header :
    prorosHeader 0xD 0 0x005C 3 0x21 7 4 0x0142 =
      [0x1D, 0, 0, 0x5C, 0x03, 0x21, 0, 7, 0, 4, 0x01, 0x42, 0, 0, 0, 0] := by decide +kernel

/-- 16: the SDC record of the log. -/
theorem test_log_record :
    (⟨0x2A2E, 0x0A01, 1, 9000000000000, [0x12, 0x1D, 3, 0, 0, 0, 0, 5]⟩ : LogRec).stored true =
      [0, 0, 0x2A, 0x2E, 0x0A, 1, 1, 0, 0, 0, 8, 0x2F, 0x79, 0xCD, 0x90, 0, 0, 8, 0, 0,
       0x12, 0x1D, 3, 0, 0, 0, 0, 5, 0, 0, 0, 0] := by decide +kernel

end Sys2Proof.Tests.Slice0
end

section
/-!
PROOFS. The revocation of the hub's address (R625, O59): what closing every session leaves of the port, and the
CLAIM with WANT_ID 0 that follows it.
-/
namespace Sys2Proof.Machine

/-! ## Closing sessions (R636) -/

@[simp] theorem State.persist_port (s : State) : s.persist.port = s.port :=
  State.persist_frame s (Changes.refl [.flash] s) (List.Subset.refl _) .port (by decide)

/-- A record without a NOTIFY touches no session. -/
@[simp] theorem State.numberRecord_silent_port (s : State) (r : LogRec) : (s.numberRecord r false).port = s.port := by
  simp only [State.numberRecord, Bool.false_eq_true, if_false]
  split
  · exact State.persist_port _
  · rfl

@[simp] theorem State.logged_port (s : State) (code : Nat) (detail : List Byte) :
    (s.logged code detail).port = s.port := by
  simp only [State.logged, State.note, Bool.or_self, Bool.false_eq_true, if_false]
  split
  · exact State.numberRecord_silent_port _ _
  · rfl

@[simp] theorem State.endToken_port (s : State) (x : Session) : (s.endToken x).port = s.port := by
  unfold State.endToken
  split
  · rfl
  · exact State.logged_port _ _ _

theorem State.closeSession_sessions (s : State) (id : Nat) :
    (s.closeSession id).port.sessions = s.port.sessions.filter fun y => y.id ≠ id := by
  unfold State.closeSession
  split
  next hnone =>
    have hother : ∀ y ∈ s.port.sessions, y.id ≠ id := by simpa [Port.session] using hnone
    exact (List.filter_eq_self.2 fun y hy => decide_eq_true (hother y hy)).symm
  next x _ => exact congrArg Port.sessions (State.endToken_port _ x)

theorem State.foldl_closeSession_sessions (ids : List Nat) (s : State) :
    (ids.foldl State.closeSession s).port.sessions = s.port.sessions.filter fun y => y.id ∉ ids := by
  induction ids generalizing s with
  | nil => simp
  | cons id ids ih =>
    rw [List.foldl_cons, ih, State.closeSession_sessions, List.filter_filter]
    simp [Bool.and_comm]

@[simp] theorem State.closeAll_sessions (s : State) : s.closeAll.port.sessions = [] := by
  unfold State.closeAll
  rw [State.foldl_closeSession_sessions, List.filter_eq_nil_iff]
  intro y hy
  simpa using ⟨y, hy, rfl⟩

/-- Closing the sessions leaves the clock and what the endpoint depends on. -/
theorem State.closeAll_changes (s : State) :
    Changes [.emitted, .tb, .frame, .backup, .flash, .logSeq, .log, .port] s s.closeAll :=
  State.closeAll_frame s (Changes.refl _ s) (List.Subset.refl _)

@[simp] theorem State.closeAll_elapsed (s : State) : s.closeAll.elapsed = s.elapsed :=
  s.closeAll_changes .elapsed (by decide)

/-! ## The endpoint and the CLAIM (R610, R621, R622) -/

/-- The endpoint runs by the reset pins and the hub cores alone. -/
theorem State.endpointUp_of_changes {ps : List Part} {s t : State} (h : Changes ps s t) (hrst : Part.rst ∉ ps)
    (hhub : Part.hub ∉ ps) : t.endpointUp = s.endpointUp := by
  have er : t.rst = s.rst := h .rst hrst
  have eh : t.hub = s.hub := h .hub hhub
  simp only [State.endpointUp, er, eh]

@[simp] theorem State.begin_endpointUp (s : State) (dt : Nat) : (s.begin dt).endpointUp = s.endpointUp := rfl

@[simp] theorem State.closeAll_endpointUp (s : State) : s.closeAll.endpointUp = s.endpointUp :=
  State.endpointUp_of_changes s.closeAll_changes (by decide) (by decide)

/-- Before its first CLAIM an unaddressed hub owes one as soon as the endpoint runs. -/
theorem State.claimDue_of_unclaimed {s : State} (hup : s.endpointUp = true) (hstate : s.port.claimState = 0)
    (hlast : s.port.claimLast = none) : s.claimDue = true := by
  simp [State.claimDue, State.addressed, hup, hstate, hlast]

/-- WANT_ID of a CLAIM is octet 11, after the serial, the ID_ISSUE and the strap code. -/
theorem State.claimPayload_wantId (s : State) : (s.claimPayload.drop 11).take 1 = be 1 s.backup.nodeId := rfl

/-! ## OFFER_REVOKE (R625) -/

/-- The hub without sessions and without an address, claiming from now on. -/
def State.revoked (s : State) : State :=
  { s.closeAll with
    backup := { s.closeAll.backup with nodeId := 0 }
    port := { s.closeAll.port with
      claimState := 0, claimSince := s.closeAll.elapsed, claimLast := none, claimLogged := false
      plcaActive := false } }

theorem exec_offerRevoke (dt : Nat) {s : State} (hup : s.endpointUp = true) :
    exec (.offerRevoke dt s.fuses.serial) s = .next ((s.begin dt).revoked.logged Code.nodeRevoked []) := by
  have hgate : ((s.begin dt).endpointUp && decide (s.fuses.serial = (s.begin dt).fuses.serial)) = true :=
    (Bool.and_eq_true _ _).mpr ⟨hup, decide_eq_true rfl⟩
  calc exec (.offerRevoke dt s.fuses.serial) s
      = done ((s.begin dt).onlyIf ((s.begin dt).endpointUp && decide (s.fuses.serial = (s.begin dt).fuses.serial))
          fun t => t.revoked.logged Code.nodeRevoked []) := rfl
    _ = .next ((s.begin dt).revoked.logged Code.nodeRevoked []) := congrArg done (if_pos hgate)

@[simp] theorem State.revoked_endpointUp (s : State) : s.revoked.endpointUp = s.endpointUp :=
  s.closeAll_endpointUp

@[simp] theorem State.revoked_nodeId (s : State) : s.revoked.backup.nodeId = 0 := rfl

/-- Settles O59: the state before the record is the revoked hub, whose CLAIM is due and asks for node 0. -/
theorem offerRevoked : Obligations.OfferRevoked := by
  unfold Obligations.OfferRevoked
  rintro dt _ s hup rfl
  have hdue : (s.begin dt).revoked.claimDue = true :=
    State.claimDue_of_unclaimed (by simpa using hup) rfl rfl
  have hwant : ((s.begin dt).revoked.claimPayload.drop 11).take 1 = [0] := by
    rw [State.claimPayload_wantId, State.revoked_nodeId]
    decide
  exact ⟨(s.begin dt).revoked, exec_offerRevoke dt hup, State.revoked_nodeId _, State.closeAll_sessions _, rfl, rfl,
    State.closeAll_elapsed _, hdue, hwant⟩

end Sys2Proof.Machine
end

section
/-!
PROOFS. The manager keys (R665, O58): what a write of an entry does to the keys, and what persisting the option block
leaves of them.
-/
namespace Sys2Proof.Machine

/-! ## Persisting the option block (R664) -/

@[simp] theorem State.addDigest_mgrKeys (s : State) : s.addDigest.lc.mgrKeys = s.lc.mgrKeys := by
  unfold State.addDigest
  split <;> rfl

@[simp] theorem State.persistOptions_mgrKeys (s : State) : s.persistOptions.lc.mgrKeys = s.lc.mgrKeys := by
  unfold State.persistOptions
  split
  · exact s.addDigest_mgrKeys
  · rfl

/-! ## Writes of MGR_KEYS (R665) -/

/-- The state with entry `i` of MGR_KEYS set, and the option block to be written. -/
def State.withMgrKey (s : State) (i : Nat) (v : List Byte) : State :=
  State.persistOptions { s with lc := { s.lc with mgrKeys := setAt s.lc.mgrKeys i v } }

@[simp] theorem State.withMgrKey_mgrKeys (s : State) (i : Nat) (v : List Byte) :
    (s.withMgrKey i v).lc.mgrKeys = setAt s.lc.mgrKeys i v := State.persistOptions_mgrKeys _

theorem State.keyWrite_deployed {s : State} (i : Nat) (key : List Byte) (hstate : s.lcState = 2) :
    s.keyWrite i key = s.refuse Abort.level := if_pos hstate

theorem State.keyWrite_point {s : State} (i : Nat) {key : List Byte} (hstate : s.lcState ≠ 2) (hlen : key.length = 97)
    (hpoint : Config.validPoint key = true) (hzero : key ≠ zeros 97) :
    s.keyWrite i key = (s.withMgrKey i key).accept := by
  simp [State.keyWrite, State.withMgrKey, hstate, hlen, hpoint, hzero]

theorem State.keyWrite_zeros {s : State} (i : Nat) (hstate : s.lcState ≠ 2) :
    s.keyWrite i (zeros 97) = (s.withMgrKey i []).accept := by
  simp [State.keyWrite, State.withMgrKey, hstate, zeros]

theorem State.keyWrite_malformed {s : State} (i : Nat) {key : List Byte} (hstate : s.lcState ≠ 2)
    (hzero : key ≠ zeros 97) (hbad : key.length ≠ 97 ∨ Config.validPoint key = false) :
    s.keyWrite i key = s.refuse Abort.valueRange := by
  rcases hbad with hlen | hpoint
  · simp [State.keyWrite, hstate, hlen]
  · simp [State.keyWrite, hstate, hpoint, hzero]

/-- A write that is served is answered as the keys' own rules say. -/
theorem exec_mgrKeysWrite_served {dt i : Nat} {req : Req} {s s1 : State} {c : Ctx} (key : List Byte)
    (h : Served s dt req 0xA020 (i + 1) .blkWrite c s1) :
    exec (.mgrKeysWrite dt req i key) s =
      .next ((s1.keyWrite i key).state.answer c (s1.keyWrite i key).code (s1.keyWrite i key).data) :=
  congrArg done (h.serve rfl fun _ s => s.keyWrite i key)

/-- Settles O58, one clause for each value that a write can carry. -/
theorem managerKeys : Obligations.ManagerKeys := by
  unfold Obligations.ManagerKeys
  intro dt i key req s s1 c h
  rw [exec_mgrKeysWrite_served key h]
  refine ⟨fun hstate => ?_, fun hstate hlen hpoint hzero => ?_, fun hstate hkey => ?_, fun hstate hzero hbad => ?_⟩
  · rw [State.keyWrite_deployed i key hstate]
    rfl
  · rw [State.keyWrite_point i hstate hlen hpoint hzero]
    exact ⟨_, rfl, s1.withMgrKey_mgrKeys i key⟩
  · rw [hkey, State.keyWrite_zeros i hstate]
    exact ⟨_, rfl, s1.withMgrKey_mgrKeys i []⟩
  · rw [State.keyWrite_malformed i hstate hzero hbad]
    rfl

end Sys2Proof.Machine
end

section
/-!
PROOFS. What the shared operations leave of the lifecycle and the keys (chapter 15): each but a few leaves them all.
-/
namespace Sys2Proof.Machine

/-- An operation whose frame does not list the lifecycle leaves it. -/
theorem State.lc_of_frame {l : List Part} {s t : State} (h : Changes l s s → l ⊆ l → Changes l s t)
    (hl : l.contains Part.lc = false) : t.lc = s.lc :=
  h (.refl l s) (List.Subset.refl l) .lc (by simpa using hl)

/-! ## Requests and records -/

@[simp] theorem State.answer_lc (s : State) (c : Ctx) (status : Nat) (data : List Byte) :
    (s.answer c status data).lc = s.lc := lc_of_frame (answer_frame s c status data) rfl

theorem State.admitReq_lc {s s1 : State} {r : Req} {o : Option Ctx} (h : s.admitReq r = (s1, o)) : s1.lc = s.lc := by
  have hlc : (s.admitReq r).1.lc = s.lc := lc_of_frame (admitReq_frame s r) rfl
  rwa [h] at hlc

theorem State.lcCheck_lc {s s1 : State} {c : Ctx} {b : List Byte} {o : Option Nat} (h : s.lcCheck c b = (s1, o)) :
    s1.lc = s.lc := by
  have hlc : (s.lcCheck c b).1.lc = s.lc := lc_of_frame (lcCheck_frame s c b) rfl
  rwa [h] at hlc

@[simp] theorem State.logged_lc (s : State) (code : Nat) (detail : List Byte) : (s.logged code detail).lc = s.lc :=
  lc_of_frame (logged_frame s code detail) rfl

@[simp] theorem State.told_lc (s : State) (code : Nat) (detail : List Byte) : (s.told code detail).lc = s.lc :=
  lc_of_frame (told_frame s code detail) rfl

@[simp] theorem State.urged_lc (s : State) (code : Nat) (detail : List Byte) : (s.urged code detail).lc = s.lc :=
  lc_of_frame (urged_frame s code detail) rfl

@[simp] theorem State.closeAll_lc (s : State) : s.closeAll.lc = s.lc := lc_of_frame (closeAll_frame s) rfl

@[simp] theorem State.dropBlock_lc (s : State) (id : Nat) : (s.dropBlock id).lc = s.lc :=
  lc_of_frame (dropBlock_frame s id) rfl

@[simp] theorem State.objPut_lc (s : State) (idx sub : Nat) (b : List Byte) : (s.objPut idx sub b).lc = s.lc :=
  lc_of_frame (objPut_frame s idx sub b) rfl

/-! ## Cuts and procedures -/

@[simp] theorem State.beacon_lc (s : State) (cause : Nat) : (s.beacon cause).lc = s.lc :=
  lc_of_frame (beacon_frame s cause) rfl

@[simp] theorem State.endSuspect_lc (s : State) : s.endSuspect.lc = s.lc := lc_of_frame (endSuspect_frame s) rfl

@[simp] theorem State.endResets_lc (s : State) : s.endResets.lc = s.lc := lc_of_frame (endResets_frame s) rfl

@[simp] theorem State.cancelCuts_lc (s : State) : s.cancelCuts.lc = s.lc := lc_of_frame (cancelCuts_frame s) rfl

@[simp] theorem State.soAbort_lc (s : State) : s.soAbort.lc = s.lc := lc_of_frame (soAbort_frame s) rfl

@[simp] theorem State.fencePorts_lc (s : State) (on : Bool) : (s.fencePorts on).lc = s.lc :=
  lc_of_frame (fencePorts_frame s on) rfl

@[simp] theorem State.retireAll_lc (s : State) : s.retireAll.lc = s.lc := lc_of_frame (retireAll_frame s) rfl

@[simp] theorem State.endProcedure_lc (s : State) (result : Nat) : (s.endProcedure result).lc = s.lc :=
  lc_of_frame (endProcedure_frame s result) rfl

@[simp] theorem State.enterOwn_lc (s : State) (action time flags : Nat) (selection : BitVec 160) :
    (s.enterOwn action time flags selection).1.lc = s.lc :=
  lc_of_frame (enterOwn_frame s action time flags selection) rfl

@[simp] theorem State.holdEscalation_lc (s : State) (level : Nat) : (s.holdEscalation level).lc = s.lc :=
  lc_of_frame (holdEscalation_frame s level) rfl

/-! ## Resets and the release of domains -/

@[simp] theorem State.flashReset_lc (s : State) : s.flashReset.lc = s.lc := lc_of_frame (flashReset_frame s) rfl

@[simp] theorem State.runnerUp_lc (s : State) (die : Nat) : (s.runnerUp die).lc = s.lc :=
  lc_of_frame (runnerUp_frame s die) rfl

@[simp] theorem State.timeUp_lc (s : State) : s.timeUp.lc = s.lc := lc_of_frame (timeUp_frame s) rfl

@[simp] theorem State.memoryUp_lc (s : State) : s.memoryUp.lc = s.lc := lc_of_frame (memoryUp_frame s) rfl

@[simp] theorem State.waveUp_lc (s : State) (w : Nat) : (s.waveUp w).lc = s.lc := lc_of_frame (waveUp_frame s w) rfl

@[simp] theorem State.portsUp_lc (s : State) : s.portsUp.lc = s.lc := lc_of_frame (portsUp_frame s) rfl

@[simp] theorem State.dieBack_lc (s : State) (die n : Nat) : (s.dieBack die n).lc = s.lc :=
  lc_of_frame (dieBack_frame s die n) rfl

@[simp] theorem State.coreFails_lc (s : State) (core : Nat) : (s.coreFails core).lc = s.lc :=
  lc_of_frame (coreFails_frame s core) rfl

@[simp] theorem State.loseDie_lc (s : State) (die n : Nat) : (s.loseDie die n).lc = s.lc :=
  lc_of_frame (loseDie_frame s die n) rfl

@[simp] theorem State.forgetClusters_lc (s : State) : s.forgetClusters.lc = s.lc :=
  lc_of_frame (forgetClusters_frame s) rfl

@[simp] theorem State.dropSets_lc (s : State) (gone : Nat → Bool) : (s.dropSets gone).lc = s.lc :=
  lc_of_frame (dropSets_frame s gone) rfl

@[simp] theorem State.reserveGone_lc (s : State) : s.reserveGone.lc = s.lc := lc_of_frame (reserveGone_frame s) rfl

/-! ## Option loading and updates -/

@[simp] theorem State.takeStrap_lc (s : State) (r : OptionRead) : (s.takeStrap r).lc = s.lc :=
  lc_of_frame (takeStrap_frame s r) rfl

@[simp] theorem State.takeFuses_lc (s : State) (r : OptionRead) : (s.takeFuses r).lc = s.lc :=
  lc_of_frame (takeFuses_frame s r) rfl

@[simp] theorem State.loadPersist_lc (s : State) : s.loadPersist.lc = s.lc := lc_of_frame (loadPersist_frame s) rfl

@[simp] theorem State.takeGaps_lc (s : State) : s.takeGaps.lc = s.lc := lc_of_frame (takeGaps_frame s) rfl

@[simp] theorem State.stormCheck_lc (s : State) : s.stormCheck.lc = s.lc := lc_of_frame (stormCheck_frame s) rfl

@[simp] theorem State.blowFuses_lc (s : State) : s.blowFuses.lc = s.lc := rfl

/-! ## Parts of a lifecycle change -/

@[simp] theorem State.startWaiting_lc (s : State) : s.startWaiting.lc = s.lc := lc_of_frame (startWaiting_frame s) rfl

@[simp] theorem State.lcDump_lc (s : State) : s.lcDump.lc = s.lc := lc_of_frame (lcDump_frame s) rfl

@[simp] theorem State.lcBars_lc (s : State) : s.lcBars.lc = s.lc := lc_of_frame (lcBars_frame s) rfl

@[simp] theorem State.lcTrace_lc (s : State) : s.lcTrace.lc = s.lc := lc_of_frame (lcTrace_frame s) rfl

@[simp] theorem State.lcLog_lc (s : State) : s.lcLog.lc = s.lc := rfl

/-! ## Folds -/

theorem State.foldl_lc {α : Type} (f : State → α → State) (hf : ∀ s x, (f s x).lc = s.lc) (l : List α) (s : State) :
    (l.foldl f s).lc = s.lc := by
  induction l generalizing s with
  | nil => rfl
  | cons x l ih => rw [List.foldl_cons, ih, hf]

end Sys2Proof.Machine
end

section
/-!
PROOFS. What each operation on the key stores does to LC_STATE (R662–R669): all but a lifecycle change keep it and
keep the stores in agreement.
-/
namespace Sys2Proof.Machine

/-! ## Keeping LC_STATE -/

/-- Stores that agree still agree, with the same LC_STATE. -/
def Lifecycle.Keeps (l m : Lifecycle) : Prop :=
  l.storeA = l.storeB → m.storeA = m.storeB ∧ m.storeA.lcState = l.storeA.lcState

theorem Lifecycle.Keeps.of_stores {l m : Lifecycle} (ha : m.storeA = l.storeA) (hb : m.storeB = l.storeB) :
    l.Keeps m := fun h => ⟨by rw [ha, hb, h], by rw [ha]⟩

theorem Lifecycle.Keeps.refl (l : Lifecycle) : l.Keeps l := .of_stores rfl rfl

theorem Lifecycle.Keeps.of_eq {l m : Lifecycle} (h : m = l) : l.Keeps m := h ▸ .refl l

theorem Lifecycle.Keeps.trans {l m n : Lifecycle} (h : l.Keeps m) (k : m.Keeps n) : l.Keeps n := by
  intro agree
  obtain ⟨hm, em⟩ := h agree
  obtain ⟨hn, en⟩ := k hm
  exact ⟨hn, en.trans em⟩

/-- A map of both stores that keeps the state of each. -/
theorem Lifecycle.Keeps.of_map {l m : Lifecycle} (f : KeyStore → KeyStore) (hf : ∀ k, (f k).lcState = k.lcState)
    (ha : m.storeA = f l.storeA) (hb : m.storeB = f l.storeB) : l.Keeps m :=
  fun h => ⟨by rw [ha, hb, h], by rw [ha, hf]⟩

theorem State.foldl_keeps {α : Type} (f : State → α → State) (hf : ∀ (s : State) (x : α), s.lc.Keeps (f s x).lc)
    (l : List α) (s : State) : s.lc.Keeps (l.foldl f s).lc := by
  induction l generalizing s with
  | nil => exact .refl _
  | cons x l ih => exact (hf s x).trans (ih (f s x))

theorem State.ite_keeps {l : Lifecycle} {p : Prop} [Decidable p] {a b : State} (ha : l.Keeps a.lc)
    (hb : l.Keeps b.lc) : l.Keeps (if p then a else b).lc := by
  split
  · exact ha
  · exact hb

theorem State.onlyIf_keeps {s : State} {c : Bool} {f : State → State} (hf : s.lc.Keeps (f s).lc) :
    s.lc.Keeps (s.onlyIf c f).lc := by
  unfold State.onlyIf
  split
  · exact hf
  · exact .refl _

/-! ## The option block (R602, R664, R692) -/

@[simp] theorem KeyStore.withDigest_lcState (k : KeyStore) (d : List Byte) : (k.withDigest d).lcState = k.lcState := by
  unfold KeyStore.withDigest
  split <;> rfl

theorem State.addDigest_keeps (s : State) : s.lc.Keeps s.addDigest.lc := by
  unfold State.addDigest
  split
  · exact .refl _
  · exact .of_map (fun k => k.withDigest (keyDigest s.lc.mgrKeys)) (fun k => k.withDigest_lcState _) rfl rfl

theorem State.persistOptions_keeps {l : Lifecycle} {s : State} (h : l.Keeps s.lc) :
    l.Keeps s.persistOptions.lc := by
  refine h.trans ?_
  unfold State.persistOptions
  split
  · exact s.addDigest_keeps
  · exact .refl _

theorem State.dropDigests_keeps {l : Lifecycle} {s : State} (c : OptionCopy) (h : l.Keeps s.lc) :
    l.Keeps (s.dropDigests c).lc :=
  h.trans <| .of_map (fun k => { k with digests := k.digests.filter fun d => d = keyDigest c.keys }) (fun _ => rfl)
    rfl rfl

theorem State.objWrite_keeps (s : State) (r : ObjRow) (sub : Nat) (b : List Byte) :
    s.lc.Keeps (s.objWrite r sub b).lc := by
  have hput := s.objPut_lc r.idx sub b
  unfold State.objWrite
  split
  · exact persistOptions_keeps (.of_eq hput)
  · exact .of_eq hput

theorem State.reserveWrite_keeps (s : State) (r : ObjRow) (sub : Nat) (b : List Byte) :
    s.lc.Keeps (s.reserveWrite r sub b).state.lc := by
  unfold State.reserveWrite
  extract_lets t
  split
  · exact .refl _
  · split
    · exact .refl _
    · exact s.objWrite_keeps r sub b

theorem State.keyWrite_keeps (s : State) (i : Nat) (key : List Byte) : s.lc.Keeps (s.keyWrite i key).state.lc := by
  unfold State.keyWrite
  split
  · exact .refl _
  · split
    · exact .refl _
    · exact persistOptions_keeps (.of_stores rfl rfl)

/-! ## Option loading (R601, R662, R663) -/

theorem State.loadOption_keeps (s : State) (e : Staged) : s.lc.Keeps (s.loadOption e).lc := by
  unfold State.loadOption
  extract_lets name
  split
  · exact .of_eq (s.logged_lc _ _)
  · split
    · exact .of_eq (s.logged_lc _ _)
    · split
      · exact .of_stores rfl rfl
      · exact .of_eq (s.objPut_lc _ _ _)

theorem State.rwpDefaults_keeps (s : State) : s.lc.Keeps s.rwpDefaults.lc := .of_stores rfl rfl

theorem State.loadOptions_keeps (s : State) : s.lc.Keeps s.loadOptions.lc := by
  refine s.rwpDefaults_keeps.trans ?_
  unfold State.loadOptions
  extract_lets f d
  split
  · exact .of_eq (d.logged_lc _ _)
  · extract_lets u v
    have huv : d.lc.Keeps v.lc := by
      refine .of_eq ?_
      dsimp only [v]
      split
      · rfl
      · exact u.logged_lc _ _
    exact huv.trans (State.foldl_keeps _ State.loadOption_keeps _ _)

/-- Stores that agree agree with the one in force. -/
theorem Lifecycle.storeNow_of_agree {l : Lifecycle} (h : l.storeA = l.storeB) : l.storeNow = l.storeA := by
  simp [Lifecycle.storeNow, h]

theorem State.loadKeys_keeps (s : State) : s.lc.Keeps s.loadKeys.lc := by
  intro h
  unfold State.loadKeys
  rw [Lifecycle.storeNow_of_agree h]
  dsimp only
  split
  · exact ⟨rfl, rfl⟩
  · rw [State.urged_lc]
    exact ⟨rfl, rfl⟩

/-! ## Device recovery and the removal of a job (R412, R676) -/

theorem State.startRecovery_keeps (s : State) (trigger uid : Nat) :
    s.lc.Keeps (s.startRecovery trigger uid).lc := by
  unfold State.startRecovery
  extract_lets s1 s2 d s3 s4 p s5 time s6
  have h5 : s5.lc = s.lc := by simp [s5, s4, s3, s2, s1]
  have h6 : s6.lc = s5.lc := by
    dsimp only [s6]
    split
    · exact s5.modProc_lc _
    · split
      · -- the entry of the cut, taken or refused
        have hown := s5.enterOwn_lc Act.quench time 0 wholePackage
        split
        next heq => rw [heq] at hown; exact hown
        next heq => rw [heq] at hown; exact hown
      · exact s5.modProc_lc _
  rw [← h5, ← h6]
  exact .of_stores rfl rfl

theorem State.removeJob_lc (s : State) : s.removeJob.lc = { s.lc with jobRemoved := true } := by
  simp [State.removeJob, apply_ite State.lc]

/-! ## Resets -/

/-- A warm reset leaves the stores and the keys (R696). -/
theorem State.warmState_lc (s : State) : s.warmState.lc = { s.lc with jobRemoved := false, fettleFail := 0 } := by
  rw [← s.closeAll_lc]
  rfl

theorem State.warmState_keeps (s : State) : s.lc.Keeps s.warmState.lc :=
  s.warmState_lc ▸ .of_stores rfl rfl

theorem State.porState_keeps (s : State) : s.lc.Keeps s.porState.lc := .of_stores rfl rfl

theorem State.refettle_keeps (s : State) : s.lc.Keeps s.refettle.lc := by
  unfold State.refettle
  split
  · exact .of_stores rfl rfl
  · exact .refl _

theorem State.releaseDomain_keeps (s : State) (n : Nat) : s.lc.Keeps (s.releaseDomain n).lc := by
  unfold State.releaseDomain
  split
  · exact .of_eq (s.waveUp_lc 0)
  · extract_lets s1
    have h1 : s1.lc = s.lc := rfl
    rw [← h1]
    split_ifs
    · exact .refl _
    · exact .refl _
    · exact .of_eq s1.flashReset_lc
    · have hup : ((s1.diesOf 4).foldl State.runnerUp s1).lc = s1.lc := State.foldl_lc _ State.runnerUp_lc _ _
      exact hup ▸ State.refettle_keeps _
    · exact .of_eq s1.timeUp_lc
    · exact .of_eq s1.memoryUp_lc
    · exact .of_eq s1.portsUp_lc
    · exact .refl _

theorem State.foldl_modTap_lc (f : Tap → Tap) (l : List Nat) (s : State) :
    (l.foldl (fun s c => s.modTap c f) s).lc = s.lc :=
  State.foldl_lc (fun s c => s.modTap c f) (fun s c => s.modTap_lc c f) l s

theorem State.domainsDown_keeps (s : State) (n : Nat) : s.lc.Keeps (s.domainsDown n).lc := by
  unfold State.domainsDown
  split
  · exact s.warmState_keeps
  · refine .of_eq ?_
    simp [apply_ite State.lc, State.foldl_modTap_lc]

/-! ## Fettling (R672) -/

theorem State.lcFettled_keeps {l : Lifecycle} {s : State} (h : l.Keeps s.lc) : l.Keeps s.lcFettled.lc := by
  refine h.trans ?_
  unfold State.lcFettled
  extract_lets k
  rw [State.logged_lc]
  exact fun _ => ⟨rfl, rfl⟩

end Sys2Proof.Machine
end

section
/-!
PROOFS. Writes and requests (R641, R645, R746): what they do to LC_STATE through the object that they write.
-/
namespace Sys2Proof.Machine

/-- An operation whose frame does not list the lifecycle keeps LC_STATE. -/
theorem State.keeps_of_frame {l : List Part} {s t : State} (h : Changes l s s → l ⊆ l → Changes l s t)
    (hl : l.contains Part.lc = false) : s.lc.Keeps t.lc := .of_eq (lc_of_frame h hl)

/-! ## A whole value (R641) -/

theorem State.cmdRecoveryLevel_keeps (s : State) (value : Nat) : s.lc.Keeps (s.cmdRecoveryLevel value).state.lc := by
  unfold State.cmdRecoveryLevel
  split_ifs
  · exact .refl _
  · exact .refl _
  · exact s.startRecovery_keeps 7 s.activeUid

theorem State.ownWriteLow_keeps {s : State} {r : ObjRow} {sub : Nat} {b : List Byte} {a : Reply}
    (h : s.ownWriteLow r sub b = some a) : s.lc.Keeps a.state.lc := by
  unfold State.ownWriteLow at h
  extract_lets v at h
  split at h
  case h_2 k =>
    split at h
    · cases h; exact keeps_of_frame (entryCmd_frame s _ b) rfl
    · cases h
  all_goals cases h
  · exact keeps_of_frame (cmdServoRestart_frame s v) rfl
  · exact keeps_of_frame (resetCmd_frame s _ _) rfl
  · exact keeps_of_frame (cmdStormRelease_frame s v) rfl
  · exact keeps_of_frame (cmdContextRemove_frame s v) rfl
  · exact s.cmdRecoveryLevel_keeps v
  · exact keeps_of_frame (quCmd_frame s v) rfl
  · exact keeps_of_frame (soCmd_frame s v) rfl
  · exact s.reserveWrite_keeps r _ b
  · exact s.reserveWrite_keeps r _ b
  · exact keeps_of_frame (cmdSoAck_frame s v) rfl

theorem State.ownWriteHigh_keeps {s : State} {c : Ctx} {idx sub : Nat} {b : List Byte} {a : Reply}
    (h : s.ownWriteHigh c idx sub b = some a) : s.lc.Keeps a.state.lc := by
  unfold State.ownWriteHigh at h
  extract_lets v at h
  split at h
  all_goals cases h
  · exact keeps_of_frame (cmdTbEventAck_frame s v) rfl
  · exact keeps_of_frame (cmdTbQuarantineClear_frame s v) rfl
  · exact keeps_of_frame (loadKernel_frame s b) rfl
  · exact keeps_of_frame (probeCmd_frame s b) rfl
  · exact keeps_of_frame (ackLog_frame s v) rfl
  · exact keeps_of_frame (tokenWrite_frame s c b) rfl
  · exact s.keyWrite_keeps _ b
  · exact keeps_of_frame (cmdFwUpdate_frame s b) rfl
  · exact keeps_of_frame (cmdFwUpdateApply_frame s v) rfl
  · exact keeps_of_frame (admCmd_frame s v) rfl
  · exact keeps_of_frame (orderWrite_frame s b) rfl
  · exact keeps_of_frame (suspectCmd_frame s v) rfl

theorem State.wholeWrite_keeps (s : State) (c : Ctx) (r : ObjRow) (sub : Nat) (b : List Byte) :
    s.lc.Keeps (s.wholeWrite c r sub b).state.lc := by
  unfold State.wholeWrite
  split
  next a h =>
    rcases hlow : s.ownWriteLow r sub b with _ | x
    · rw [hlow] at h
      exact ownWriteHigh_keeps h
    · rw [hlow] at h
      exact Option.some.inj h ▸ ownWriteLow_keeps hlow
  next =>
    split
    · exact s.objWrite_keeps r sub b
    · exact .refl _

/-! ## Requests -/

theorem State.serve_keeps {s : State} {r : Req} {idx sub : Nat} {w : Way} {f : Ctx → State → Reply}
    (hw : w.changes = true) (hf : ∀ (c : Ctx) (x : State), x.lc.Keeps (f c x).state.lc) :
    s.lc.Keeps (s.serve r idx sub w f).lc := by
  rcases h : s.admitReq r with ⟨s1, _ | c⟩
  · rw [serve_dropped f h]
    exact .of_eq (admitReq_lc h)
  · rw [← admitReq_lc h]
    rcases k : s1.objCheck c.rank idx sub w with _ | code
    · rw [serve_served f h k hw, answer_lc]
      exact hf c s1
    · rw [serve_refused f h k, answer_lc]
      exact .refl _

/-! ## Lifecycle changes (R668–R676) -/

/-- The transition that a step may make: none, or one of R669's list, to DEPLOYED only with 3 manager keys. -/
def Lifecycle.Steps (l m : Lifecycle) : Prop :=
  l.storeA = l.storeB → m.storeA = m.storeB ∧
    (m.storeA.lcState = l.storeA.lcState ∨ (lcListed l.storeA.lcState m.storeA.lcState = true ∧
      (m.storeA.lcState = 2 → 3 ≤ (l.mgrKeys.filter fun k => !k.isEmpty).length)))

theorem Lifecycle.Keeps.steps {l m : Lifecycle} (h : l.Keeps m) : l.Steps m := by
  intro agree
  obtain ⟨hm, em⟩ := h agree
  exact ⟨hm, .inl em⟩

theorem Lifecycle.Steps.of_eq {l m : Lifecycle} (h : m = l) : l.Steps m := (Keeps.of_eq h).steps

theorem State.lcListed_congr {s t : State} (h : t.lc = s.lc) (after : Nat) :
    lcListed t.lcState after = lcListed s.lcState after := by
  simp only [State.lcState, h]

theorem State.lcCondition_congr {s t : State} (h : t.lc = s.lc) (after : Nat) :
    t.lcCondition after = s.lcCondition after := by
  simp only [State.lcCondition, h]

/-- A request that passes names a listed transition whose condition holds. -/
theorem State.lcCheck_passed {s s1 : State} {c : Ctx} {b : List Byte} (h : s.lcCheck c b = (s1, none)) :
    lcListed s.lcState (fieldBe b 1 1) = true ∧ s.lcCondition (fieldBe b 1 1) = true := by
  have hlc : (s.useChallenge c).lc = s.lc := lc_of_frame (useChallenge_frame s c) rfl
  unfold State.lcCheck at h
  extract_lets after at h
  split at h
  · cases h
  split at h
  · cases h
  split at h
  · cases h
  obtain ⟨-, hcode⟩ := Prod.mk.inj h
  split_ifs at hcode with _ hrefused
  rw [lcListed_congr hlc, lcCondition_congr hlc] at hrefused
  simp only [Bool.or_eq_true, Bool.not_eq_true', not_or, Bool.not_eq_false] at hrefused
  exact hrefused.1

theorem State.lcCondition_two {s : State} (h : s.lcCondition 2 = true) :
    3 ≤ (s.lc.mgrKeys.filter fun k => !k.isEmpty).length := by
  simpa [State.lcCondition] using h

/-- What a change to `after` leaves in the stores (R669, R670). -/
theorem State.lcStores_stores (s : State) (after : Nat) (owner : List Byte) :
    (s.lcStores after owner).lc.storeA = (s.lcStores after owner).lc.storeB ∧
    (s.lcStores after owner).lc.storeA.lcState = after := by
  unfold State.lcStores
  extract_lets k k' all keys l t
  split
  · exact persistOptions_keeps (.refl t.lc) rfl
  · exact ⟨rfl, rfl⟩

@[simp] theorem KeyStore.withDigest_ownerKey (k : KeyStore) (d : List Byte) :
    (k.withDigest d).ownerKey = k.ownerKey := by
  unfold KeyStore.withDigest
  split <;> rfl

@[simp] theorem State.persistOptions_ownerKey (s : State) :
    s.persistOptions.lc.storeA.ownerKey = s.lc.storeA.ownerKey := by
  unfold State.persistOptions
  split
  · unfold State.addDigest
    split
    · rfl
    · exact KeyStore.withDigest_ownerKey _ _
  · rfl

@[simp] theorem State.lcStores_mgrKeys (s : State) (after : Nat) (owner : List Byte) :
    (s.lcStores after owner).lc.mgrKeys = if after = 3 then List.replicate 5 [] else s.lc.mgrKeys := by
  unfold State.lcStores
  extract_lets k k' all keys l t
  change (if after = 3 then t.persistOptions else t).lc.mgrKeys = t.lc.mgrKeys
  split
  · exact t.persistOptions_mgrKeys
  · rfl

@[simp] theorem State.lcStores_ownerKey (s : State) (after : Nat) (owner : List Byte) :
    (s.lcStores after owner).lc.storeA.ownerKey = if after = 1 ∧ s.lcState = 0 then owner
      else if after = 3 then [] else s.lc.storeA.ownerKey := by
  unfold State.lcStores
  extract_lets k k' all keys l t
  change (if after = 3 then t.persistOptions else t).lc.storeA.ownerKey = t.lc.storeA.ownerKey
  split
  · exact t.persistOptions_ownerKey
  · rfl

/-- After the stores, a change touches nothing of the lifecycle but the hold of a removed job. -/
theorem State.lcChange_field {α : Type} (f : Lifecycle → α) (hf : ∀ l j, f { l with jobRemoved := j } = f l)
    (s : State) (b : List Byte) :
    f (s.lcChange b).lc = f (s.lcStores (fieldBe b 1 1) (slice b 28 97)).lc := by
  unfold State.lcChange
  extract_lets before after s1 s2 s3 s4
  change _ = f s1.lc
  have h4 : s4.lc = s1.lc := by simp [s4, s3, s2]
  rw [← h4]
  split
  · rw [removeJob_lc, hf]
  · rfl

/-- A change whose request passed is a step of the lifecycle. -/
theorem State.lcChange_steps {s s1 : State} {c : Ctx} {b : List Byte} (h : s.lcCheck c b = (s1, none)) (x : State) :
    s.lc.Steps (x.lcChange b).lc := by
  obtain ⟨hlisted, hcond⟩ := lcCheck_passed h
  obtain ⟨hagree, hstate⟩ := x.lcStores_stores (fieldBe b 1 1) (slice b 28 97)
  intro _
  rw [x.lcChange_field Lifecycle.storeA (fun _ _ => rfl), x.lcChange_field Lifecycle.storeB (fun _ _ => rfl), hstate]
  refine ⟨hagree, .inr ⟨hlisted, fun htwo => ?_⟩⟩
  rw [htwo] at hcond
  exact lcCondition_two hcond

theorem State.closeLcRequest_steps (s : State) (c : Ctx) (b : List Byte) :
    s.lc.Steps (s.closeLcRequest c b).lc := by
  unfold State.closeLcRequest
  split
  next s1 code k => exact .of_eq ((s1.answer_lc c code []).trans (lcCheck_lc k))
  next s1 k => exact lcChange_steps k _

theorem State.serveThen_steps (s : State) (r : Req) (idx sub : Nat) (w : Way) (b : List Byte) :
    s.lc.Steps (s.serveThen r idx sub w (fun c x => x.lcCheck c b) fun _ x => x.lcChange b).lc := by
  unfold State.serveThen
  split
  next s1 h => exact .of_eq (admitReq_lc h)
  next s1 c h =>
    rw [← admitReq_lc h]
    split
    next code _ => exact .of_eq (s1.answer_lc c code [])
    next => exact s1.closeLcRequest_steps c b

/-! ## Block transfers (R645, R667) -/

theorem State.closeWrite_steps (s : State) (c : Ctx) (b : Block) : s.lc.Steps (s.closeWrite c b).lc := by
  unfold State.closeWrite
  split
  · exact .of_eq (s.answer_lc _ _ _)
  · exact .of_eq (s.answer_lc _ _ _)
  next r _ _ =>
    dsimp only
    split
    · exact s.closeLcRequest_steps c _
    · rw [answer_lc]
      exact (s.wholeWrite_keeps c r b.sub _).steps

theorem State.closeBlock_steps (s : State) (c : Ctx) (id crc : Nat) : s.lc.Steps (s.closeBlock c id crc).lc := by
  unfold State.closeBlock
  split
  · exact .of_eq (s.answer_lc _ _ _)
  next b _ =>
    rw [← s.dropBlock_lc id]
    dsimp only
    split_ifs
    · exact .of_eq (answer_lc _ _ _ _)
    · exact closeWrite_steps _ c b
    · exact .of_eq (answer_lc _ _ _ _)

end Sys2Proof.Machine
end

section
/-!
PROOFS. The lifecycle (R669, O57): a request that passes makes its transition, and no command changes LC_STATE
otherwise.
-/
namespace Sys2Proof.Machine

/-! ## Commands on the stores -/

theorem execOptionLoadingEnd_keeps (dt : Nat) (read : OptionRead) (s : State) :
    s.lc.Keeps (outState (execOptionLoadingEnd dt read s)).lc := by
  refine State.onlyIf_keeps (s := s.begin dt) ?_
  extract_lets t u
  have hopts : (s.begin dt).lc.Keeps (((s.begin dt).takeStrap read).takeFuses read).loadOptions.lc := by
    simpa using (((s.begin dt).takeStrap read).takeFuses read).loadOptions_keeps
  have ht : (s.begin dt).lc.Keeps t.lc := by
    simpa using hopts.trans (State.loadPersist_lc _ ▸ State.loadKeys_keeps _)
  simpa [u] using ht

theorem execOptionWriteDone_keeps (dt : Nat) (ok : Bool) (s : State) :
    s.lc.Keeps (outState (execOptionWriteDone dt ok s)).lc := by
  rw [← s.begin_lc dt]
  unfold execOptionWriteDone outState done
  extract_lets t
  dsimp only
  split
  · exact .refl _
  next c _ =>
    split
    · exact .refl _
    · split
      · exact State.persistOptions_keeps (.refl _)
      · exact State.ite_keeps (State.persistOptions_keeps (State.dropDigests_keeps c (.refl _)))
          (State.dropDigests_keeps c (.refl _))

theorem execFwUpdateOldReady_keeps (dt : Nat) (s : State) :
    s.lc.Keeps (outState (execFwUpdateOldReady dt s)).lc := by
  refine State.onlyIf_keeps (s := s.begin dt) ?_
  dsimp only
  rw [State.told_lc, State.blowFuses_lc]
  exact State.persistOptions_keeps (.refl _)

theorem execLcFettleDone_keeps (dt area : Nat) (ok : Bool) (s : State) :
    s.lc.Keeps (outState (execLcFettleDone dt area ok s)).lc := by
  refine State.onlyIf_keeps (s := s.begin dt) ?_
  split
  · rw [State.urged_lc]
    exact .of_stores rfl rfl
  · extract_lets left t
    have ht : (s.begin dt).lc.Keeps t.lc := .of_stores rfl rfl
    split
    · rw [State.startWaiting_lc]
      exact State.lcFettled_keeps ht
    · exact ht

theorem execMgrKeysWrite_keeps (dt : Nat) (req : Req) (i : Nat) (key : List Byte) (s : State) :
    s.lc.Keeps (outState (execMgrKeysWrite dt req i key s)).lc :=
  State.serve_keeps (s := s.begin dt) rfl fun _ x => x.keyWrite_keeps i key

/-! ## Commands on the device -/

theorem execTapSilent_keeps (dt cluster : Nat) (s : State) :
    s.lc.Keeps (outState (execTapSilent dt cluster s)).lc := by
  refine State.onlyIf_keeps (s := s.begin dt) ?_
  extract_lets _ t u
  have hu : u.lc = s.lc := t.urged_lc _ _
  change s.lc.Keeps _
  rw [← hu]
  split_ifs
  · exact .of_eq (u.holdEscalation_lc 3)
  · exact .refl _
  · exact u.startRecovery_keeps 4 _

theorem execRecoveryLevel_keeps (dt : Nat) (req : Req) (value : Nat) (s : State) :
    s.lc.Keeps (outState (execRecoveryLevel dt req value s)).lc :=
  State.serve_keeps (s := s.begin dt) rfl fun _ x => x.cmdRecoveryLevel_keeps value

theorem execReserveWrite_keeps (dt : Nat) (req : Req) (idx sub value : Nat) (s : State) :
    s.lc.Keeps (outState (execReserveWrite dt req idx sub value s)).lc := by
  refine State.onlyIf_keeps (s := s.begin dt) (State.serve_keeps rfl fun _ x => ?_)
  split
  · exact .refl _
  next r _ =>
    split
    · exact .refl _
    · exact x.reserveWrite_keeps r sub _

theorem execRegisterWrite_keeps (dt : Nat) (req : Req) (idx sub off : Nat) (bytes : List Byte) (s : State) :
    s.lc.Keeps (outState (execRegisterWrite dt req idx sub off bytes s)).lc := by
  refine State.serve_keeps (s := s.begin dt) rfl fun c x => ?_
  split
  · exact .refl _
  next r _ =>
    split
    · exact .refl _
    · exact x.wholeWrite_keeps c r sub _

/-! ## Resets and domains -/

theorem execPorAssert_keeps (dt : Nat) (s : State) : s.lc.Keeps (outState (execPorAssert dt s)).lc :=
  State.onlyIf_keeps (s := s.begin dt) (s.begin dt).porState_keeps

theorem execWarmReset_keeps (dt : Nat) (s : State) : s.lc.Keeps (outState (execWarmReset dt s)).lc := by
  refine State.onlyIf_keeps (s := s.begin dt) ?_
  extract_lets t
  split
  · exact .refl _
  · split
    · exact .refl _
    · split
      · exact (t.countReset 2).warmState_keeps
      · exact (t.countReset 2).warmState_keeps

theorem execDomainRelease_keeps (dt n : Nat) (s : State) :
    s.lc.Keeps (outState (execDomainRelease dt n s)).lc := by
  rw [← s.begin_lc dt]
  unfold execDomainRelease outState done
  dsimp only
  split_ifs
  · exact State.releaseDomain_keeps _ n
  · exact State.foldl_keeps _ (fun x d => .of_eq (x.dieBack_lc d n)) _ _
  · exact .refl _

theorem execClockLost_keeps (dt domain die : Nat) (s : State) :
    s.lc.Keeps (outState (execClockLost dt domain die s)).lc := by
  refine State.onlyIf_keeps (s := s.begin dt) ?_
  dsimp only
  rw [State.logged_lc, State.modRst_lc]
  exact State.domainsDown_keeps _ domain

theorem execClockTimeout_keeps (dt domain die : Nat) (s : State) :
    s.lc.Keeps (outState (execClockTimeout dt domain die s)).lc := by
  rw [← s.begin_lc dt]
  unfold execClockTimeout outState done
  dsimp only
  split
  · exact State.onlyIf_keeps (.of_eq (State.coreFails_lc _ _))
  · refine State.onlyIf_keeps ?_
    have hlost : (((s.begin dt).loseDie die domain).logged Code.clockTimeout (be 1 die)).lc = (s.begin dt).lc := by
      simp
    split
    · exact hlost ▸ State.releaseDomain_keeps _ domain
    · exact .of_eq hlost

/-! ## Changes of the lifecycle -/

theorem execLcRequest_steps (dt : Nat) (req : Req) (b : List Byte) (s : State) :
    s.lc.Steps (outState (execLcRequest dt req b s)).lc :=
  (s.begin dt).serveThen_steps req 0xA001 0 .blkWrite b

theorem execBlkClose_steps (dt : Nat) (req : Req) (block crc : Nat) (s : State) :
    s.lc.Steps (outState (execBlkClose dt req block crc s)).lc := by
  rw [← s.begin_lc dt]
  unfold execBlkClose outState done
  dsimp only
  split
  next s1 h => exact .of_eq (State.admitReq_lc h)
  next s1 c h => exact State.admitReq_lc h ▸ s1.closeBlock_steps c block crc

/-! ## Every command -/

theorem Lifecycle.Steps.of_frame {l : List Part} {s t : State} (h : Changes l s s → l ⊆ l → Changes l s t)
    (hl : l.contains Part.lc = false) : s.lc.Steps t.lc := .of_eq (State.lc_of_frame h hl)

/-- Each command makes a listed transition or none; all but a few leave the whole lifecycle. -/
theorem exec_steps (i : Instr) (s : State) : s.lc.Steps (outState (exec i s)).lc :=
  match i with
  | .frameTick dt beatA beatR => .of_frame (execFrameTick_frame dt beatA beatR s) rfl
  | .frameReport dt die rep => .of_frame (execFrameReport_frame dt die rep s) rfl
  | .reportEvaluation dt => .of_frame (execReportEvaluation_frame dt s) rfl
  | .hbMiss dt cluster => .of_frame (execHbMiss_frame dt cluster s) rfl
  | .hangEngine dt uid engine => .of_frame (execHangEngine_frame dt uid engine s) rfl
  | .runnerSilent dt die => .of_frame (execRunnerSilent_frame dt die s) rfl
  | .tapSilent dt cluster => (execTapSilent_keeps dt cluster s).steps
  | .sensorFail dt cluster => .of_frame (execSensorFail_frame dt cluster s) rfl
  | .commHoldSet dt die => .of_frame (execCommHoldSet_frame dt die s) rfl
  | .commHoldClear dt die => .of_frame (execCommHoldClear_frame dt die s) rfl
  | .jobAdmission dt => .of_frame (execJobAdmission_frame dt s) rfl
  | .slotJobCheck dt slot => .of_frame (execSlotJobCheck_frame dt slot s) rfl
  | .samplingSlot dt slot => .of_frame (execSamplingSlot_frame dt slot s) rfl
  | .commitQueueFreeze dt => .of_frame (execCommitQueueFreeze_frame dt s) rfl
  | .schedQuench dt req entry time flags => .of_frame (execSchedQuench_frame dt req entry time flags s) rfl
  | .schedPodQuench dt req entry time flags => .of_frame (execSchedPodQuench_frame dt req entry time flags s) rfl
  | .schedStep dt req entry time flags => .of_frame (execSchedStep_frame dt req entry time flags s) rfl
  | .schedResume dt req entry time flags => .of_frame (execSchedResume_frame dt req entry time flags s) rfl
  | .schedFrameLen dt req entry time flags => .of_frame (execSchedFrameLen_frame dt req entry time flags s) rfl
  | .schedTimeStep dt req entry time flags => .of_frame (execSchedTimeStep_frame dt req entry time flags s) rfl
  | .schedRoleSwap dt req entry time flags => .of_frame (execSchedRoleSwap_frame dt req entry time flags s) rfl
  | .schedEmpty dt req entry => .of_frame (execSchedEmpty_frame dt req entry s) rfl
  | .frameLenChange dt entry => .of_frame (execFrameLenChange_frame dt entry s) rfl
  | .timeStepApply dt entry => .of_frame (execTimeStepApply_frame dt entry s) rfl
  | .roleSwapDue dt entry => .of_frame (execRoleSwapDue_frame dt entry s) rfl
  | .lockstepFault dt core => .of_frame (execLockstepFault_frame dt core s) rfl
  | .tbuClockGoodLost dt => .of_frame (execTbuClockGoodLost_frame dt s) rfl
  | .takeoverSwitch dt => .of_frame (execTakeoverSwitch_frame dt s) rfl
  | .takeoverOldReset dt => .of_frame (execTakeoverOldReset_frame dt s) rfl
  | .runnerActiveCast dt => .of_frame (execRunnerActiveCast_frame dt s) rfl
  | .takeoverNotify dt => .of_frame (execTakeoverNotify_frame dt s) rfl
  | .quCmdArm dt req => .of_frame (execQuCmdArm_frame dt req s) rfl
  | .quCmdCancel dt req => .of_frame (execQuCmdCancel_frame dt req s) rfl
  | .quCmdStep dt req => .of_frame (execQuCmdStep_frame dt req s) rfl
  | .quCmdResume dt req => .of_frame (execQuCmdResume_frame dt req s) rfl
  | .quCmdPeek dt req => .of_frame (execQuCmdPeek_frame dt req s) rfl
  | .castReceive dt target cast => .of_frame (execCastReceive_frame dt target cast s) rfl
  | .castResponse dt response => .of_frame (execCastResponse_frame dt response s) rfl
  | .castRetry dt castId => .of_frame (execCastRetry_frame dt castId s) rfl
  | .castUnresponsive dt castId => .of_frame (execCastUnresponsive_frame dt castId s) rfl
  | .quenchDecision dt => .of_frame (execQuenchDecision_frame dt s) rfl
  | .holdReceive dt target word => .of_frame (execHoldReceive_frame dt target word s) rfl
  | .cutTaken dt => .of_frame (execCutTaken_frame dt s) rfl
  | .quenchMembership dt => .of_frame (execQuenchMembership_frame dt s) rfl
  | .cutOrderReceive dt port msg => .of_frame (execCutOrderReceive_frame dt port msg s) rfl
  | .cutWithdrawReceive dt port msg => .of_frame (execCutWithdrawReceive_frame dt port msg s) rfl
  | .cutAckReceive dt port msg => .of_frame (execCutAckReceive_frame dt port msg s) rfl
  | .orderCopySend dt => .of_frame (execOrderCopySend_frame dt s) rfl
  | .cutAckSend dt => .of_frame (execCutAckSend_frame dt s) rfl
  | .podCutSummary dt => .of_frame (execPodCutSummary_frame dt s) rfl
  | .stepSelectLate dt => .of_frame (execStepSelectLate_frame dt s) rfl
  | .stepStart dt => .of_frame (execStepStart_frame dt s) rfl
  | .netRefreeze dt => .of_frame (execNetRefreeze_frame dt s) rfl
  | .stepPoll dt cluster => .of_frame (execStepPoll_frame dt cluster s) rfl
  | .stepOverrun dt cluster => .of_frame (execStepOverrun_frame dt cluster s) rfl
  | .resumeAtTime dt => .of_frame (execResumeAtTime_frame dt s) rfl
  | .quCancelLate dt entry => .of_frame (execQuCancelLate_frame dt entry s) rfl
  | .soStart dt req => .of_frame (execSoStart_frame dt req s) rfl
  | .soStartRef dt req => .of_frame (execSoStartRef_frame dt req s) rfl
  | .soAbort dt req => .of_frame (execSoAbort_frame dt req s) rfl
  | .soFettleReserve dt req => .of_frame (execSoFettleReserve_frame dt req s) rfl
  | .soAck dt req image => .of_frame (execSoAck_frame dt req image s) rfl
  | .soRecordRead dt req ownOk mirrorOk => .of_frame (execSoRecordRead_frame dt req ownOk mirrorOk s) rfl
  | .soHeaderRead dt req => .of_frame (execSoHeaderRead_frame dt req s) rfl
  | .reserveWrite dt req idx sub value => (execReserveWrite_keeps dt req idx sub value s).steps
  | .debugReadComplete dt die uid type off status data secureLines =>
    .of_frame (execDebugReadComplete_frame dt die uid type off status data secureLines s) rfl
  | .debugReadTimeout dt die uid type off => .of_frame (execDebugReadTimeout_frame dt die uid type off s) rfl
  | .recordWriteComplete dt die uid type sub ownOk mirrorOk =>
    .of_frame (execRecordWriteComplete_frame dt die uid type sub ownOk mirrorOk s) rfl
  | .ladleWriteTimeout dt die uid type => .of_frame (execLadleWriteTimeout_frame dt die uid type s) rfl
  | .sealPartReport dt die tier => .of_frame (execSealPartReport_frame dt die tier s) rfl
  | .sealResult dt sum => .of_frame (execSealResult_frame dt sum s) rfl
  | .soRunnerLost dt die => .of_frame (execSoRunnerLost_frame dt die s) rfl
  | .shakeoutClose dt => .of_frame (execShakeoutClose_frame dt s) rfl
  | .reserveFettleDone dt => .of_frame (execReserveFettleDone_frame dt s) rfl
  | .hangWaitClear dt => .of_frame (execHangWaitClear_frame dt s) rfl
  | .hangCollect dt => .of_frame (execHangCollect_frame dt s) rfl
  | .contextRemove dt req ctx => .of_frame (execContextRemove_frame dt req ctx s) rfl
  | .removeCastIssue dt => .of_frame (execRemoveCastIssue_frame dt s) rfl
  | .contextCastReceive dt target cast status uid engine =>
    .of_frame (execContextCastReceive_frame dt target cast status uid engine s) rfl
  | .removeCountComplete dt castId => .of_frame (execRemoveCountComplete_frame dt castId s) rfl
  | .drainElapsed dt castId => .of_frame (execDrainElapsed_frame dt castId s) rfl
  | .replayResponse dt castId status uid engine =>
    .of_frame (execReplayResponse_frame dt castId status uid engine s) rfl
  | .replayStall dt => .of_frame (execReplayStall_frame dt s) rfl
  | .replayTimeout dt => .of_frame (execReplayTimeout_frame dt s) rfl
  | .contextFettleDone dt ctx die => .of_frame (execContextFettleDone_frame dt ctx die s) rfl
  | .unitResetPulse dt req uid part attested => .of_frame (execUnitResetPulse_frame dt req uid part attested s) rfl
  | .unitResetHold dt req uid part attested => .of_frame (execUnitResetHold_frame dt req uid part attested s) rfl
  | .unitResetRelease dt req uid part attested => .of_frame (execUnitResetRelease_frame dt req uid part attested s) rfl
  | .unitResetAssert dt => .of_frame (execUnitResetAssert_frame dt s) rfl
  | .unitResetReleaseDue dt => .of_frame (execUnitResetReleaseDue_frame dt s) rfl
  | .unitResetDone dt => .of_frame (execUnitResetDone_frame dt s) rfl
  | .l2Failed dt => .of_frame (execL2Failed_frame dt s) rfl
  | .recoveryLevel dt req value => (execRecoveryLevel_keeps dt req value s).steps
  | .l3PhaseEnd dt => .of_frame (execL3PhaseEnd_frame dt s) rfl
  | .l3Failed dt => .of_frame (execL3Failed_frame dt s) rfl
  | .beaconReceive dt port beacon => .of_frame (execBeaconReceive_frame dt port beacon s) rfl
  | .runnerNoTick dt die => .of_frame (execRunnerNoTick_frame dt die s) rfl
  | .stepMark dt w0 w1 w2 => .of_frame (execStepMark_frame dt w0 w1 w2 s) rfl
  | .jobViewExpire dt => .of_frame (execJobViewExpire_frame dt s) rfl
  | .suspectEnter dt => .of_frame (execSuspectEnter_frame dt s) rfl
  | .suspectDump dt => .of_frame (execSuspectDump_frame dt s) rfl
  | .selfTestEnd dt results => .of_frame (execSelfTestEnd_frame dt results s) rfl
  | .suspectCleared dt => .of_frame (execSuspectCleared_frame dt s) rfl
  | .suspectCmdClear dt req => .of_frame (execSuspectCmdClear_frame dt req s) rfl
  | .expel dt req order => .of_frame (execExpel_frame dt req order s) rfl
  | .expelRelease dt req order => .of_frame (execExpelRelease_frame dt req order s) rfl
  | .expelPortFence dt => .of_frame (execExpelPortFence_frame dt s) rfl
  | .expelCut dt => .of_frame (execExpelCut_frame dt s) rfl
  | .expelCollect dt => .of_frame (execExpelCollect_frame dt s) rfl
  | .admBegin dt req => .of_frame (execAdmBegin_frame dt req s) rfl
  | .admServe dt req => .of_frame (execAdmServe_frame dt req s) rfl
  | .admAbort dt req => .of_frame (execAdmAbort_frame dt req s) rfl
  | .admOpenReceive dt die record => .of_frame (execAdmOpenReceive_frame dt die record s) rfl
  | .admRecordReceive dt die record => .of_frame (execAdmRecordReceive_frame dt die record s) rfl
  | .admEndReceive dt record => .of_frame (execAdmEndReceive_frame dt record s) rfl
  | .admStall dt => .of_frame (execAdmStall_frame dt s) rfl
  | .admSealResult dt sum => .of_frame (execAdmSealResult_frame dt sum s) rfl
  | .admFettleDone dt => .of_frame (execAdmFettleDone_frame dt s) rfl
  | .admServeDone dt complete sum bytes records =>
    .of_frame (execAdmServeDone_frame dt complete sum bytes records s) rfl
  | .captureReceive dt capture => .of_frame (execCaptureReceive_frame dt capture s) rfl
  | .barComputeDone dt bar upset => .of_frame (execBarComputeDone_frame dt bar upset s) rfl
  | .captureTimeout dt bar slot => .of_frame (execCaptureTimeout_frame dt bar slot s) rfl
  | .barSelfCheckDone dt bar pass => .of_frame (execBarSelfCheckDone_frame dt bar pass s) rfl
  | .sdcStormClear dt => .of_frame (execSdcStormClear_frame dt s) rfl
  | .tbEventAck dt req seq => .of_frame (execTbEventAck_frame dt req seq s) rfl
  | .tbQuarantineClear dt req idx => .of_frame (execTbQuarantineClear_frame dt req idx s) rfl
  | .tbProbeLoad dt req kernel => .of_frame (execTbProbeLoad_frame dt req kernel s) rfl
  | .probeRunBar dt req kernel uid engine => .of_frame (execProbeRunBar_frame dt req kernel uid engine s) rfl
  | .probeRunEngine dt req kernel uid engine => .of_frame (execProbeRunEngine_frame dt req kernel uid engine s) rfl
  | .probeOpDone dt header engineResult upset => .of_frame (execProbeOpDone_frame dt header engineResult upset s) rfl
  | .traceLineReceive dt die line => .of_frame (execTraceLineReceive_frame dt die line s) rfl
  | .traceSwitchIssue dt => .of_frame (execTraceSwitchIssue_frame dt s) rfl
  | .pmbusTransactionDone dt read => .of_frame (execPmbusTransactionDone_frame dt read s) rfl
  | .pmbAlert dt addr status => .of_frame (execPmbAlert_frame dt addr status s) rfl
  | .tbNowRead dt req => .of_frame (execTbNowRead_frame dt req s) rfl
  | .markCycle dt core => .of_frame (execMarkCycle_frame dt core s) rfl
  | .markReceive dt uid msg => .of_frame (execMarkReceive_frame dt uid msg s) rfl
  | .loadReceive dt uid msg => .of_frame (execLoadReceive_frame dt uid msg s) rfl
  | .stepMsgReceive dt uid msg => .of_frame (execStepMsgReceive_frame dt uid msg s) rfl
  | .calReqReceive dt uid msg => .of_frame (execCalReqReceive_frame dt uid msg s) rfl
  | .calEchoLaunch dt uid => .of_frame (execCalEchoLaunch_frame dt uid s) rfl
  | .calEchoReceive dt core msg => .of_frame (execCalEchoReceive_frame dt core msg s) rfl
  | .calSetReceive dt uid msg => .of_frame (execCalSetReceive_frame dt uid msg s) rfl
  | .calEchoTimeout dt core => .of_frame (execCalEchoTimeout_frame dt core s) rfl
  | .replicaFlywheel dt uid => .of_frame (execReplicaFlywheel_frame dt uid s) rfl
  | .replicaLost dt uid => .of_frame (execReplicaLost_frame dt uid s) rfl
  | .refclkLost dt => .of_frame (execRefclkLost_frame dt s) rfl
  | .refclkBack dt => .of_frame (execRefclkBack_frame dt s) rfl
  | .tickOutDue dt => .of_frame (execTickOutDue_frame dt s) rfl
  | .tickInEdge dt edge => .of_frame (execTickInEdge_frame dt edge s) rfl
  | .tickInMissing dt toggled level => .of_frame (execTickInMissing_frame dt toggled level s) rfl
  | .syncSend dt port => .of_frame (execSyncSend_frame dt port s) rfl
  | .syncReceive dt port msg => .of_frame (execSyncReceive_frame dt port msg s) rfl
  | .gmDeclare dt => .of_frame (execGmDeclare_frame dt s) rfl
  | .upstreamReselect dt => .of_frame (execUpstreamReselect_frame dt s) rfl
  | .upstreamLost dt => .of_frame (execUpstreamLost_frame dt s) rfl
  | .gmLost dt => .of_frame (execGmLost_frame dt s) rfl
  | .linkTrained dt port => .of_frame (execLinkTrained_frame dt port s) rfl
  | .loopMeasureDone dt port halves => .of_frame (execLoopMeasureDone_frame dt port halves s) rfl
  | .discardWindowEnd dt => .of_frame (execDiscardWindowEnd_frame dt s) rfl
  | .asymTimeout dt => .of_frame (execAsymTimeout_frame dt s) rfl
  | .asymRetry dt => .of_frame (execAsymRetry_frame dt s) rfl
  | .servoRestart dt req value => .of_frame (execServoRestart_frame dt req value s) rfl
  | .timeQuery dt req => .of_frame (execTimeQuery_frame dt req s) rfl
  | .timeAnswer dt t1 t2 t3 t4 => .of_frame (execTimeAnswer_frame dt t1 t2 t3 t4 s) rfl
  | .txtsStamp dt id => .of_frame (execTxtsStamp_frame dt id s) rfl
  | .txtsQueuePop dt req => .of_frame (execTxtsQueuePop_frame dt req s) rfl
  | .porAssert dt => (execPorAssert_keeps dt s).steps
  | .porRelease dt => .of_frame (execPorRelease_frame dt s) rfl
  | .warmReset dt => (execWarmReset_keeps dt s).steps
  | .resetNShort dt => .of_frame (execResetNShort_frame dt s) rfl
  | .warmResetRelease dt => .of_frame (execWarmResetRelease_frame dt s) rfl
  | .domainRelease dt n => (execDomainRelease_keeps dt n s).steps
  | .d8Wave dt w => .of_frame (execD8Wave_frame dt w s) rfl
  | .clockLost dt domain die => (execClockLost_keeps dt domain die s).steps
  | .clockLostInService dt domain die => .of_frame (execClockLostInService_frame dt domain die s) rfl
  | .clockTimeout dt domain die => (execClockTimeout_keeps dt domain die s).steps
  | .selfCheckDone dt core pass => .of_frame (execSelfCheckDone_frame dt core pass s) rfl
  | .optionLoadingEnd dt read => (execOptionLoadingEnd_keeps dt read s).steps
  | .fwBoot dt core => .of_frame (execFwBoot_frame dt core s) rfl
  | .stormRelease dt req value => .of_frame (execStormRelease_frame dt req value s) rfl
  | .persistWriteDone dt ok => .of_frame (execPersistWriteDone_frame dt ok s) rfl
  | .stage dt req idx sub off bytes => .of_frame (execStage_frame dt req idx sub off bytes s) rfl
  | .commit dt req indivisible notify => .of_frame (execCommit_frame dt req indivisible notify s) rfl
  | .blkOpen dt req idx sub dir off len => .of_frame (execBlkOpen_frame dt req idx sub dir off len s) rfl
  | .blkData dt req block off bytes => .of_frame (execBlkData_frame dt req block off bytes s) rfl
  | .blkClose dt req block crc => execBlkClose_steps dt req block crc s
  | .blkDataResend dt block seq => .of_frame (execBlkDataResend_frame dt block seq s) rfl
  | .blkTimeout dt block => .of_frame (execBlkTimeout_frame dt block s) rfl
  | .notifyAck dt session seq => .of_frame (execNotifyAck_frame dt session seq s) rfl
  | .notifyResend dt session seq => .of_frame (execNotifyResend_frame dt session seq s) rfl
  | .claimSend dt => .of_frame (execClaimSend_frame dt s) rfl
  | .offerAssign dt serial node count => .of_frame (execOfferAssign_frame dt serial node count s) rfl
  | .offerRevoke dt serial => .of_frame (execOfferRevoke_frame dt serial s) rfl
  | .sessionHello dt hello => .of_frame (execSessionHello_frame dt hello s) rfl
  | .sessionClose dt session byPeer => .of_frame (execSessionClose_frame dt session byPeer s) rfl
  | .sessionTimeout dt session => .of_frame (execSessionTimeout_frame dt session s) rfl
  | .plcaInactive dt => .of_frame (execPlcaInactive_frame dt s) rfl
  | .plcaReturn dt => .of_frame (execPlcaReturn_frame dt s) rfl
  | .registerWrite dt req idx sub off bytes => (execRegisterWrite_keeps dt req idx sub off bytes s).steps
  | .fwUpdate dt req image => .of_frame (execFwUpdate_frame dt req image s) rfl
  | .fwUpdateApply dt req value => .of_frame (execFwUpdateApply_frame dt req value s) rfl
  | .fwUpdateStandbyReady dt => .of_frame (execFwUpdateStandbyReady_frame dt s) rfl
  | .fwUpdateOldReady dt => (execFwUpdateOldReady_keeps dt s).steps
  | .fwUpdateTimeout dt => .of_frame (execFwUpdateTimeout_frame dt s) rfl
  | .lcRequest dt req request => execLcRequest_steps dt req request s
  | .lcFettleDone dt area ok => (execLcFettleDone_keeps dt area ok s).steps
  | .authChallenge dt req => .of_frame (execAuthChallenge_frame dt req s) rfl
  | .authToken dt req token => .of_frame (execAuthToken_frame dt req token s) rfl
  | .authEnded dt session => .of_frame (execAuthEnded_frame dt session s) rfl
  | .mgrKeysWrite dt req k key => (execMgrKeysWrite_keeps dt req k key s).steps
  | .logAck dt req seq => .of_frame (execLogAck_frame dt req seq s) rfl
  | .logRead dt req => .of_frame (execLogRead_frame dt req s) rfl
  | .ringResponse dt die words secureLines => .of_frame (execRingResponse_frame dt die words secureLines s) rfl
  | .ringTimeout dt die tag => .of_frame (execRingTimeout_frame dt die tag s) rfl
  | .quenchIn dt => .of_frame (execQuenchIn_frame dt s) rfl
  | .quenchInArm dt => .of_frame (execQuenchInArm_frame dt s) rfl
  | .quenchInDeferred dt => .of_frame (execQuenchInDeferred_frame dt s) rfl
  | .quenchInEntryFree dt => .of_frame (execQuenchInEntryFree_frame dt s) rfl
  | .inputStuck dt => .of_frame (execInputStuck_frame dt s) rfl
  | .jtagUpdateIr dt scan => .of_frame (execJtagUpdateIr_frame dt scan s) rfl
  | .jtagTestReset dt => .of_frame (execJtagTestReset_frame dt s) rfl
  | .chillEntry dt half => .of_frame (execChillEntry_frame dt half s) rfl
  | .chillExit dt half => .of_frame (execChillExit_frame dt half s) rfl
  | .linkDown dt port => .of_frame (execLinkDown_frame dt port s) rfl
  | .traceStallTimeout dt core => .of_frame (execTraceStallTimeout_frame dt core s) rfl
  | .optionWriteDone dt ok => (execOptionWriteDone_keeps dt ok s).steps

/-- A step of the block makes a listed transition or none. -/
theorem step_steps {s t : State} (h : step s = .next t) : s.lc.Steps t.lc := by
  unfold step at h
  split at h
  · obtain rfl := Host.Outcome.next.inj h
    exact .of_eq rfl
  next i rest _ =>
    have hexec := exec_steps i { s with pending := rest }
    rwa [h] at hexec

/-! ## The transitions of R669 -/

theorem lcListed_iff {before after : Nat} : lcListed before after = true ↔
    (before = 0 ∧ after = 1) ∨ (before = 1 ∧ after = 2) ∨ (before = 2 ∧ after = 1) ∨ (before = 1 ∧ after = 3) ∨
      (before = 2 ∧ after = 3) ∨ (before = 3 ∧ after = 0) := by
  simp only [lcListed, Bool.or_eq_true, Bool.and_eq_true, decide_eq_true_eq]
  omega

theorem exec_lcRequest_passed {dt : Nat} {b : List Byte} {req : Req} {s s1 s2 : State} {c : Ctx}
    (h : Served s dt req 0xA001 0 .blkWrite c s1) (hcheck : s1.lcCheck c b = (s2, none)) :
    exec (.lcRequest dt req b) s = .next ((s2.answer c Abort.ok []).lcChange b) := by
  obtain ⟨hadmit, hobj⟩ := h
  refine congrArg done ?_
  simp only [State.serveThen, hadmit, hobj, hcheck]

/-- What a request that passes leaves of the lifecycle (R669, R670): each transition with its effect on the keys. -/
theorem State.lcChange_listed {s : State} {b : List Byte} (hlisted : lcListed s.lcState (fieldBe b 1 1) = true) :
    (s.lcChange b).lcState = fieldBe b 1 1 ∧
    (s.lcChange b).lc.storeA.ownerKey = (if s.lcState = 0 then slice b 28 97 else if fieldBe b 1 1 = 3 then []
      else s.lc.storeA.ownerKey) ∧
    (s.lcChange b).lc.mgrKeys = (if fieldBe b 1 1 = 3 then List.replicate 5 [] else s.lc.mgrKeys) := by
  have hkey : (fieldBe b 1 1 = 1 ∧ s.lcState = 0) ↔ s.lcState = 0 := by
    rw [lcListed_iff] at hlisted
    omega
  refine ⟨?_, ?_, ?_⟩
  · exact (s.lcChange_field (fun l => l.storeA.lcState) (fun _ _ => rfl) b).trans (s.lcStores_stores _ _).2
  · rw [s.lcChange_field (fun l => l.storeA.ownerKey) (fun _ _ => rfl), lcStores_ownerKey]
    simp only [hkey]
  · rw [s.lcChange_field Lifecycle.mgrKeys (fun _ _ => rfl), lcStores_mgrKeys]

theorem Lifecycle.Steps.listed {s t : State} (h : s.lc.Steps t.lc) (agree : s.lc.storeA = s.lc.storeB) :
    t.lcState = s.lcState ∨ (s.lcState = 0 ∧ t.lcState = 1) ∨
    (s.lcState = 1 ∧ t.lcState = 2 ∧ 3 ≤ (s.lc.mgrKeys.filter fun k => !k.isEmpty).length) ∨
    (s.lcState = 2 ∧ t.lcState = 1) ∨ (s.lcState = 1 ∧ t.lcState = 3) ∨ (s.lcState = 2 ∧ t.lcState = 3) ∨
    (s.lcState = 3 ∧ t.lcState = 0) := by
  obtain ⟨-, hsame | ⟨hlisted, hkeys⟩⟩ := h agree
  · exact .inl hsame
  · obtain h01 | ⟨h1, h2⟩ | hrest := lcListed_iff.mp hlisted
    · exact .inr (.inl h01)
    · exact .inr (.inr (.inl ⟨h1, h2, hkeys h2⟩))
    · exact .inr (.inr (.inr hrest))

/-- Settles O57: the first part by what the checks leave to a change, the second by the steps of all commands. -/
theorem lifecycleTransitions : Obligations.LifecycleTransitions := by
  unfold Obligations.LifecycleTransitions
  refine ⟨fun dt b req s s1 s2 c h hcheck => ?_, fun s t agree h => (step_steps h).listed agree⟩
  obtain ⟨hlisted, hcond⟩ := State.lcCheck_passed hcheck
  have hs1 : s1.lc = s.lc := State.admitReq_lc (s := s.begin dt) h.1
  have hx : (s2.answer c Abort.ok []).lc = s.lc := by rw [State.answer_lc, State.lcCheck_lc hcheck, hs1]
  have hxstate : (s2.answer c Abort.ok []).lcState = s.lcState := congrArg (fun l => l.storeA.lcState) hx
  rw [State.lcListed_congr hs1] at hlisted
  rw [State.lcCondition_congr hs1] at hcond
  obtain ⟨hstate, howner, hkeys⟩ := State.lcChange_listed (hxstate ▸ hlisted)
  rw [hxstate, hx] at howner
  rw [hx] at hkeys
  refine ⟨_, exec_lcRequest_passed h hcheck, hstate, ?_⟩
  rw [hstate]
  exact ⟨lcListed_iff.mp hlisted, fun htwo => State.lcCondition_two (htwo ▸ hcond), howner, hkeys⟩

end Sys2Proof.Machine
end

section
/-!
PROOFS. The phase of the release sequence (R589): all but the resets, the releases and the losses of a clock
leave it, and these keep it at most 10.
-/
namespace Sys2Proof.Machine

/-- An operation whose frame does not list a part leaves it. -/
theorem State.same_of_frame (p : Part) {l : List Part} {s t : State} (h : Changes l s s → l ⊆ l → Changes l s t)
    (hl : l.contains p = false) : s.sameAt t p :=
  h (.refl l s) (List.Subset.refl l) p (by simpa using hl)

/-- An operation whose frame does not list the reset controller leaves the phase. -/
theorem State.phase_of_frame {l : List Part} {s t : State} (h : Changes l s s → l ⊆ l → Changes l s t)
    (hl : l.contains Part.rst = false) : t.rst.phase = s.rst.phase :=
  congrArg Reset.phase (same_of_frame .rst h hl)

theorem State.foldl_phase {α : Type} (f : State → α → State) (hf : ∀ s x, (f s x).rst.phase = s.rst.phase)
    (l : List α) (s : State) : (l.foldl f s).rst.phase = s.rst.phase := by
  induction l generalizing s with
  | nil => rfl
  | cons x l ih => rw [List.foldl_cons, ih, hf]

theorem State.onlyIf_phase {s : State} {c : Bool} {f : State → State} {n : Nat} (hf : (f s).rst.phase = n)
    (hs : s.rst.phase = n) : (s.onlyIf c f).rst.phase = n := by
  unfold State.onlyIf
  split <;> assumption

@[simp] theorem State.modRst_phase {s : State} {f : Reset → Reset} :
    (s.modRst f).rst.phase = (f s.rst).phase := rfl

@[simp] theorem State.logged_phase (s : State) (code : Nat) (detail : List Byte) :
    (s.logged code detail).rst.phase = s.rst.phase := phase_of_frame (logged_frame s code detail) rfl

@[simp] theorem State.answer_phase (s : State) (c : Ctx) (status : Nat) (data : List Byte) :
    (s.answer c status data).rst.phase = s.rst.phase := phase_of_frame (answer_frame s c status data) rfl

theorem State.admitReq_phase {s s1 : State} {r : Req} {o : Option Ctx} (h : s.admitReq r = (s1, o)) :
    s1.rst.phase = s.rst.phase := by
  have hrst : (s.admitReq r).1.rst.phase = s.rst.phase := phase_of_frame (admitReq_frame s r) rfl
  rwa [h] at hrst

/-! ## Objects -/

@[simp] theorem State.putRecovery_phase (s : State) (idx sub v : Nat) :
    (s.putRecovery idx sub v).rst.phase = s.rst.phase := by
  unfold State.putRecovery
  split <;> rfl

@[simp] theorem State.objPut_phase (s : State) (idx sub : Nat) (b : List Byte) :
    (s.objPut idx sub b).rst.phase = s.rst.phase := by
  unfold State.objPut
  extract_lets block
  split_ifs
  · exact phase_of_frame (putTime_frame s idx sub _) rfl
  · exact s.putRecovery_phase idx sub _
  · exact phase_of_frame (putDump_frame s idx sub b) rfl
  · exact phase_of_frame (putTrace_frame s idx sub b) rfl
  · exact phase_of_frame (putPower_frame s idx sub b) rfl
  · exact phase_of_frame (putService_frame s idx sub b) rfl

@[simp] theorem State.persistOptions_phase (s : State) : s.persistOptions.rst.phase = s.rst.phase :=
  phase_of_frame (persistOptions_frame s) rfl

@[simp] theorem State.objWrite_phase (s : State) (r : ObjRow) (sub : Nat) (b : List Byte) :
    (s.objWrite r sub b).rst.phase = s.rst.phase := by
  unfold State.objWrite
  dsimp only
  split <;> simp

@[simp] theorem State.reserveWrite_phase (s : State) (r : ObjRow) (sub : Nat) (b : List Byte) :
    (s.reserveWrite r sub b).state.rst.phase = s.rst.phase := by
  unfold State.reserveWrite
  dsimp only
  split
  · rfl
  · split
    · rfl
    · exact s.objWrite_phase r sub b

@[simp] theorem State.cmdStormRelease_phase (s : State) (value : Nat) :
    (s.cmdStormRelease value).state.rst.phase = s.rst.phase := by
  unfold State.cmdStormRelease
  dsimp only
  split
  · rfl
  · split
    · rfl
    · exact State.logged_phase _ _ _

theorem State.ownWriteLow_phase {s : State} {r : ObjRow} {sub : Nat} {b : List Byte} {a : Reply}
    (h : s.ownWriteLow r sub b = some a) : a.state.rst.phase = s.rst.phase := by
  unfold State.ownWriteLow at h
  extract_lets v at h
  split at h
  case h_2 k =>
    split at h
    · cases h; exact phase_of_frame (entryCmd_frame s _ b) rfl
    · cases h
  all_goals cases h
  · exact phase_of_frame (cmdServoRestart_frame s v) rfl
  · exact phase_of_frame (resetCmd_frame s _ _) rfl
  · exact s.cmdStormRelease_phase v
  · exact phase_of_frame (cmdContextRemove_frame s v) rfl
  · exact phase_of_frame (cmdRecoveryLevel_frame s v) rfl
  · exact phase_of_frame (quCmd_frame s v) rfl
  · exact phase_of_frame (soCmd_frame s v) rfl
  · exact s.reserveWrite_phase r _ b
  · exact s.reserveWrite_phase r _ b
  · exact phase_of_frame (cmdSoAck_frame s v) rfl

theorem State.ownWriteHigh_phase {s : State} {c : Ctx} {idx sub : Nat} {b : List Byte} {a : Reply}
    (h : s.ownWriteHigh c idx sub b = some a) : a.state.rst.phase = s.rst.phase :=
  phase_of_frame (fun hst hsub => ownWriteHigh_frame s c idx sub b hst hsub a h) rfl

@[simp] theorem State.wholeWrite_phase (s : State) (c : Ctx) (r : ObjRow) (sub : Nat) (b : List Byte) :
    (s.wholeWrite c r sub b).state.rst.phase = s.rst.phase := by
  unfold State.wholeWrite
  split
  next a h =>
    rcases hlow : s.ownWriteLow r sub b with _ | x
    · rw [hlow] at h
      exact ownWriteHigh_phase h
    · rw [hlow] at h
      exact Option.some.inj h ▸ ownWriteLow_phase hlow
  next =>
    split
    · exact s.objWrite_phase r sub b
    · rfl

theorem State.serve_phase {s : State} {r : Req} {idx sub : Nat} {w : Way} {f : Ctx → State → Reply}
    (hw : w.changes = true) (hf : ∀ (c : Ctx) (x : State), (f c x).state.rst.phase = x.rst.phase) :
    (s.serve r idx sub w f).rst.phase = s.rst.phase := by
  rcases h : s.admitReq r with ⟨s1, _ | c⟩
  · rw [serve_dropped f h, admitReq_phase h]
  · rw [← admitReq_phase h]
    rcases k : s1.objCheck c.rank idx sub w with _ | code
    · rw [serve_served f h k hw, answer_phase, hf]
    · rw [serve_refused f h k, answer_phase]

theorem State.closeWrite_phase (s : State) (c : Ctx) (b : Block) :
    (s.closeWrite c b).rst.phase = s.rst.phase := by
  unfold State.closeWrite
  split
  · exact s.answer_phase _ _ _
  · exact s.answer_phase _ _ _
  · extract_lets v a
    split
    · exact phase_of_frame (closeLcRequest_frame s c v) rfl
    · rw [State.answer_phase]
      exact s.wholeWrite_phase c _ _ v

theorem State.closeBlock_phase (s : State) (c : Ctx) (id crc : Nat) :
    (s.closeBlock c id crc).rst.phase = s.rst.phase := by
  have hdrop : (s.dropBlock id).rst.phase = s.rst.phase := phase_of_frame (dropBlock_frame s id) rfl
  unfold State.closeBlock
  split
  · exact s.answer_phase _ _ _
  · dsimp only
    split_ifs
    · rw [answer_phase, hdrop]
    · rw [closeWrite_phase, hdrop]
    · rw [answer_phase, hdrop]

/-! ## The frame tick -/

@[simp] theorem State.putGroup_phase (s : State) (l : List Staged) : (s.putGroup l).rst.phase = s.rst.phase :=
  foldl_phase _ (fun s v => by split <;> simp) l s

@[simp] theorem State.applyGroup_phase (s : State) (l : List Staged) :
    (s.applyGroup l).rst.phase = s.rst.phase := by
  have hreset (x : State) : x.resetBuffers.rst.phase = x.rst.phase := phase_of_frame (resetBuffers_frame x) rfl
  have hsync (x : State) : x.traceSync.rst.phase = x.rst.phase := phase_of_frame (traceSync_frame x) rfl
  unfold State.applyGroup
  dsimp only
  split_ifs <;> simp [hreset, hsync]

@[simp] theorem State.runGroups_phase (fuel n : Nat) (s : State) :
    (State.runGroups fuel n s).rst.phase = s.rst.phase := by
  induction fuel generalizing n s with
  | zero => unfold State.runGroups; rfl
  | succ fuel ih =>
    cases n with
    | zero => unfold State.runGroups; rfl
    | succ n =>
      have hnotice (x : State) (k : Nat) (d : List Byte) : (x.notice k d).rst.phase = x.rst.phase :=
        phase_of_frame (notice_frame x k d) rfl
      unfold State.runGroups
      split
      · rfl
      · dsimp only
        split
        · rw [ih, logged_phase]
        · rw [ih]
          split_ifs <;> simp [hnotice]

@[simp] theorem State.commitTick_phase (s : State) : s.commitTick.rst.phase = s.rst.phase := by
  unfold State.commitTick
  exact s.runGroups_phase _ _

/-- The evaluation of the reports of the frame becomes due. -/
def State.dueTick (s : State) : State := { s with hang := s.hang.dueFor s.frame.number }

/-- The limits of the hang evaluation that hold from the tick on. -/
def State.limitTick (s : State) : State := { s with hang := s.hang.limitTick }

/-- Slot 0 up to its commit (R204–R219). -/
def State.beforeCommit (s : State) : State :=
  s.dueTick.governorTick.missTick.traceBoundary s.dueTick.governorTick.missTick.frame.opened

/-- Slot 0 after its commit, up to the header blocks. -/
def State.afterCommit (s : State) : State := s.limitTick.permitTick.traceScopesSync

/-- Slot 0 after the header blocks. -/
def State.afterHeaders (s : State) (beatA beatR : Bool) : State :=
  (((((s.podTick.alsoStandby State.slewStep).beatTick beatA beatR).shadowTick).watchdogTick).quenchInTick).pmbAgain

/-- Slot 0 in the parts between which the memory is written. -/
theorem State.slotZero_eq (s : State) (beatA beatR : Bool) :
    s.slotZero beatA beatR = (s.beforeCommit.commitTick.afterCommit.headerTick).afterHeaders beatA beatR := by
  unfold State.slotZero State.afterHeaders State.afterCommit State.beforeCommit
  extract_lets s1 s2 s3 s4 s5 s6 s7 s8 s9 s10
  have h1 : s1 = s.dueTick := rfl
  rw [← h1]
  clear_value s1
  have h2 : s2 = s1.governorTick := rfl
  rw [← h2]
  clear_value s2
  have h3 : s3 = s2.missTick := rfl
  rw [← h3]
  clear_value s3
  have h4 : s4 = s3.traceBoundary s3.frame.opened := rfl
  rw [← h4]
  clear_value s4
  have h5 : s5 = s4.commitTick := rfl
  rw [← h5]
  clear_value s5
  have h6 : s6 = s5.limitTick := rfl
  rw [← h6]

theorem State.dueTick_changes (s : State) : Changes [.hang] s s.dueTick := by
  intro p hp
  cases p <;> first | rfl | exact absurd (by decide) hp

theorem State.limitTick_changes (s : State) : Changes [.hang] s s.limitTick := by
  intro p hp
  cases p <;> first | rfl | exact absurd (by decide) hp

theorem State.beforeCommit_changes (s : State) :
    Changes [.emitted, .units, .qu, .trace, .power, .backup, .flash, .logSeq, .log, .port, .hang] s s.beforeCommit :=
  traceBoundary_frame _ _ (missTick_frame _ (governorTick_frame _ (s.dueTick_changes.mono (by decide)) (by decide))
    (by decide)) (by decide)

theorem State.afterCommit_changes (s : State) :
    Changes [.emitted, .units, .trace, .power, .hang] s s.afterCommit :=
  traceScopesSync_frame _ (permitTick_frame _ (s.limitTick_changes.mono (by decide)) (by decide)) (by decide)

theorem State.afterHeaders_changes (s : State) (beatA beatR : Bool) :
    Changes [.emitted, .freeCount, .topo, .hub, .tb, .pod, .frame, .power, .backup, .flash, .logSeq, .log, .port, .fw,
      .pins] s (s.afterHeaders beatA beatR) :=
  pmbAgain_frame _ (quenchInTick_frame _ (watchdogTick_frame _ (shadowTick_frame _ (beatTick_frame _ _ _
    (alsoStandby_frame _ _ (podTick_frame _ (.refl _ s) (by decide)) (fun x hx => slewStep_frame x hx (by decide))
      (by decide)) (by decide)) (by decide)) (by decide)) (by decide)) (by decide)

@[simp] theorem State.slotZero_phase (s : State) (beatA beatR : Bool) :
    (s.slotZero beatA beatR).rst.phase = s.rst.phase := by
  have hbefore : s.beforeCommit.rst = s.rst := s.beforeCommit_changes .rst (by decide)
  have hafter (x : State) : x.afterCommit.rst = x.rst := x.afterCommit_changes .rst (by decide)
  have hheaders (x : State) : x.headerTick.rst = x.rst := same_of_frame .rst (headerTick_frame x) rfl
  have hrest (x : State) : (x.afterHeaders beatA beatR).rst = x.rst :=
    x.afterHeaders_changes beatA beatR .rst (by decide)
  rw [slotZero_eq, hrest, hheaders, hafter, commitTick_phase, hbefore]

/-! ## Option loading -/

@[simp] theorem State.takeStrap_phase (s : State) (r : OptionRead) : (s.takeStrap r).rst.phase = s.rst.phase := by
  unfold State.takeStrap
  extract_lets code was mv s1 s2 role tick s3
  have h2 : s2.rst.phase = s.rst.phase := rfl
  have h3 : s3.rst.phase = s2.rst.phase := rfl
  rw [← h2]
  split
  · exact h3
  · split
    · rfl
    · exact s2.logged_phase _ _

@[simp] theorem State.takeFuses_phase (s : State) (r : OptionRead) : (s.takeFuses r).rst.phase = s.rst.phase := by
  have hlog : (r.fuseCorrected.foldl (fun s w => s.logged Code.fuseCorrected (be 2 w)) s).rst.phase = s.rst.phase :=
    foldl_phase _ (fun s w => s.logged_phase _ _) _ s
  unfold State.takeFuses
  dsimp only
  split_ifs
  · rw [logged_phase, modRst_phase, hlog]
  · exact hlog

@[simp] theorem State.loadOption_phase (s : State) (e : Staged) : (s.loadOption e).rst.phase = s.rst.phase := by
  unfold State.loadOption
  dsimp only
  split_ifs <;> simp

@[simp] theorem State.loadOptions_phase (s : State) : s.loadOptions.rst.phase = s.rst.phase := by
  unfold State.loadOptions
  dsimp only
  split
  · exact s.rwpDefaults.logged_phase _ _
  · rw [foldl_phase _ loadOption_phase]
    split_ifs
    · rfl
    · exact State.logged_phase _ _ _

@[simp] theorem State.stormCheck_phase (s : State) : s.stormCheck.rst.phase = s.rst.phase := by
  have hwords (x : State) (c : Nat) : (x.controllerWords c).rst.phase = x.rst.phase :=
    phase_of_frame (controllerWords_frame x c) rfl
  unfold State.stormCheck
  dsimp only
  split_ifs <;> simp [hwords]

theorem execOptionLoadingEnd_phase (dt : Nat) (read : OptionRead) (s : State) :
    (outState (execOptionLoadingEnd dt read s)).rst.phase = s.rst.phase := by
  have hpersist (x : State) : x.loadPersist.rst.phase = x.rst.phase :=
    State.phase_of_frame (State.loadPersist_frame x) rfl
  have hkeys (x : State) : x.loadKeys.rst.phase = x.rst.phase := State.phase_of_frame (State.loadKeys_frame x) rfl
  have hgaps (x : State) : x.takeGaps.rst.phase = x.rst.phase := rfl
  refine State.onlyIf_phase (s := s.begin dt) ?_ rfl
  simp [hpersist, hkeys, hgaps]

/-! ## Domains and clocks -/

theorem State.waveUp_phase_le (s : State) (w : Nat) : (s.waveUp w).rst.phase ≤ 10 := by
  unfold State.waveUp
  rw [modRst_phase]
  dsimp only
  split_ifs <;> decide

@[simp] theorem State.dieBack_phase (s : State) (die n : Nat) : (s.dieBack die n).rst.phase = s.rst.phase := by
  have hwave (c : Nat) (x : State) : (x.clusterUp c).rst.phase = x.rst.phase :=
    phase_of_frame (clusterUp_frame x c) rfl
  have hrestore (x : State) : (x.admRestore die).rst.phase = x.rst.phase := phase_of_frame (admRestore_frame x die) rfl
  unfold State.dieBack
  dsimp only
  split_ifs
  · simp [hrestore]
  · simp
  · rw [foldl_phase _ (fun x k => hwave _ x), modRst_phase]
  · rw [foldl_phase _ (fun x k => by simp), modRst_phase]
  · rfl

theorem State.releaseDomain_phase_le {s : State} {n : Nat} (hn : n < 10) : (s.releaseDomain n).rst.phase ≤ 10 := by
  unfold State.releaseDomain
  split
  · exact s.waveUp_phase_le 0
  · extract_lets s1
    have h1 : s1.rst.phase ≤ 10 := hn
    have hflash : s1.flashReset.rst.phase = s1.rst.phase := phase_of_frame (flashReset_frame s1) rfl
    have hrunners : ((s1.diesOf 4).foldl State.runnerUp s1).rst.phase = s1.rst.phase :=
      foldl_phase _ (fun x d => phase_of_frame (runnerUp_frame x d) rfl) _ _
    have hfettle (x : State) : x.refettle.rst.phase = x.rst.phase := phase_of_frame (refettle_frame x) rfl
    have htime : s1.timeUp.rst.phase = s1.rst.phase := phase_of_frame (timeUp_frame s1) rfl
    have hmem : s1.memoryUp.rst.phase = s1.rst.phase := phase_of_frame (memoryUp_frame s1) rfl
    have hports : s1.portsUp.rst.phase = s1.rst.phase := phase_of_frame (portsUp_frame s1) rfl
    split_ifs
    · exact h1
    · exact h1
    · rwa [hflash]
    · rwa [hfettle, hrunners]
    · rwa [htime]
    · rwa [hmem]
    · rwa [hports]
    · exact h1

theorem State.mayRelease_lt {s : State} {n : Nat} (h : s.mayRelease n = true) : n < 10 := by
  unfold State.mayRelease at h
  simp only [Bool.and_eq_true, decide_eq_true_eq] at h
  omega

theorem clockDomains_lt {n : Nat} (h : clockDomains n ≠ []) : n < 10 := by
  by_contra hn
  apply h
  unfold clockDomains
  rw [if_neg (by omega), if_neg (by omega), if_neg (by omega), if_neg (by omega)]

theorem execDomainRelease_phase_le (dt n : Nat) {s : State} (hs : s.rst.phase ≤ 10) :
    (outState (execDomainRelease dt n s)).rst.phase ≤ 10 := by
  unfold execDomainRelease outState done
  dsimp only
  split_ifs with h
  · simp only [Bool.and_eq_true] at h
    exact State.releaseDomain_phase_le (State.mayRelease_lt h.1.1.1)
  · rw [State.foldl_phase _ (fun x d => x.dieBack_phase d n)]
    exact hs
  · exact hs

@[simp] theorem State.loseDie_phase (s : State) (die n : Nat) : (s.loseDie die n).rst.phase = s.rst.phase := by
  unfold State.loseDie
  extract_lets s1 s2 s3 s4
  have h2 : s2.rst.phase = s.rst.phase := by dsimp only [s2]; split <;> rfl
  clear_value s2
  have h3 : s3.rst.phase = s.rst.phase := by rw [← h2]; dsimp only [s3]; split <;> rfl
  clear_value s3
  have h4 : s4.rst.phase = s.rst.phase := by
    rw [← h3]
    dsimp only [s4]
    split
    · refine foldl_phase _ (fun x k => ?_) _ _
      split <;> simp
    · rfl
  split
  · rw [foldl_phase _ (fun x k => by simp), h4]
  · exact h4

theorem State.coreFails_phase (s : State) (core : Nat) : (s.coreFails core).rst.phase = s.rst.phase := by
  have hwords (x : State) (c : Nat) : (x.controllerWords c).rst.phase = x.rst.phase :=
    phase_of_frame (controllerWords_frame x c) rfl
  unfold State.coreFails
  extract_lets s1 s2 tb
  have h2 : s2.rst.phase = s.rst.phase := s1.logged_phase _ _
  clear_value s2
  split
  · rw [hwords, modRst_phase, h2]
  · split <;> exact h2

theorem execClockTimeout_phase_le (dt domain die : Nat) {s : State} (hs : s.rst.phase ≤ 10) :
    (outState (execClockTimeout dt domain die s)).rst.phase ≤ 10 := by
  unfold execClockTimeout outState done
  dsimp only
  split
  · exact le_of_eq_of_le (State.onlyIf_phase ((s.begin dt).coreFails_phase _) rfl) hs
  · unfold State.onlyIf
    split
    next h =>
      simp only [Bool.and_eq_true, dieClock] at h
      have hd : domain < 10 := clockDomains_lt fun he => by simp [he] at h
      dsimp only
      split
      · exact State.releaseDomain_phase_le hd
      · simpa using hs
    next => exact hs

theorem execClockLost_phase_le (dt domain die : Nat) {s : State} (hs : s.rst.phase ≤ 10) :
    (outState (execClockLost dt domain die s)).rst.phase ≤ 10 := by
  unfold execClockLost outState done State.onlyIf
  dsimp only
  split
  next h =>
    rw [State.logged_phase, State.modRst_phase]
    change domain ≤ 10
    simp only [Bool.and_eq_true, Bool.or_eq_true, decide_eq_true_eq] at h
    obtain ⟨⟨-, hreleased | ⟨h8, -⟩⟩, -⟩ := h
    · exact (BitVec.lt_of_getLsbD hreleased).le
    · omega
  next => exact hs

theorem State.dieDown_phase (s : State) (die n : Nat) : (s.dieDown die n).rst.phase = s.rst.phase := by
  have hrunner (x : State) : (x.assertRunner die).rst.phase = x.rst.phase :=
    phase_of_frame (assertRunner_frame x die) rfl
  have hcluster (x : State) (c : Nat) : (x.assertCluster c).rst.phase = x.rst.phase :=
    phase_of_frame (assertCluster_frame x c) rfl
  have hrep (x : State) (u : Nat) : (x.resetRep u).rst.phase = x.rst.phase := phase_of_frame (resetRep_frame x u) rfl
  have hgone (x : State) : x.reserveGone.rst.phase = x.rst.phase := phase_of_frame (reserveGone_frame x) rfl
  unfold State.dieDown
  extract_lets s1 s2
  have h1 : s1.rst.phase = s.rst.phase := rfl
  rw [← h1]
  split_ifs
  · rw [foldl_phase _ (fun x k => by dsimp only; rw [hrep]; rfl)]
    exact hrunner s1
  · rw [State.setHealth_rst, hgone]
  · refine foldl_phase _ (fun x k => ?_) _ _
    dsimp only
    split
    · exact hcluster x _
    · rw [State.setHealth_rst, hcluster]
  · refine foldl_phase _ (fun x k => ?_) _ _
    rfl
  · rfl

theorem execClockLostInService_phase (dt domain die : Nat) (s : State) :
    (outState (execClockLostInService dt domain die s)).rst.phase = s.rst.phase := by
  refine State.onlyIf_phase (s := s.begin dt) ?_ rfl
  dsimp only
  rw [State.logged_phase, State.modRst_phase]
  exact State.foldl_phase _ (fun x n => x.dieDown_phase die n) _ _

/-! ## Resets -/

theorem execWarmReset_phase_le (dt : Nat) {s : State} (hs : s.rst.phase ≤ 10) :
    (outState (execWarmReset dt s)).rst.phase ≤ 10 := by
  unfold execWarmReset outState done State.onlyIf
  dsimp only
  split
  · split
    · exact hs
    · split
      · exact hs
      · split
        · exact hs
        · change 2 ≤ 10
          decide
  · exact hs

theorem State.recoveryReset_phase (s : State) : s.recoveryReset.rst.phase = 6 := by
  have hforget (x : State) : x.forgetClusters.rst.phase = x.rst.phase := phase_of_frame (forgetClusters_frame x) rfl
  have horders (x : State) (f : Nat → Bool) : (x.endOrders f).rst.phase = x.rst.phase :=
    phase_of_frame (endOrders_frame x f) rfl
  have hthaw (x : State) (d : Nat) : (x.thawSink d).rst.phase = x.rst.phase := phase_of_frame (thawSink_frame x d) rfl
  unfold State.recoveryReset
  extract_lets s1 s2 s3 s4 s5
  have h1 : s1.rst.phase = 6 := rfl
  clear_value s1
  have h2 : s2.rst.phase = s1.rst.phase := by
    dsimp only [s2]
    rw [horders, hforget]
    refine foldl_phase _ (fun x c => ?_) _ _
    rfl
  clear_value s2
  have h3 : s3.rst.phase = s2.rst.phase := by
    dsimp only [s3]
    refine foldl_phase _ (fun x c => ?_) _ _
    split <;> rfl
  clear_value s3
  have h4 : s4.rst.phase = s3.rst.phase := by
    dsimp only [s4]
    refine foldl_phase _ (fun x d => ?_) _ _
    rw [modGroup_rst, hthaw, modRunner_rst]
  clear_value s4
  have h5 : s5.rst.phase = s4.rst.phase := by
    dsimp only [s5]
    refine foldl_phase _ (fun x p => ?_) _ _
    rfl
  clear_value s5
  change s5.rst.phase = 6
  rw [h5, h4, h3, h2, h1]

theorem execL3PhaseEnd_phase_le (dt : Nat) {s : State} (hs : s.rst.phase ≤ 10) :
    (outState (execL3PhaseEnd dt s)).rst.phase ≤ 10 := by
  have hdone (x : State) : x.recoveryDone.rst.phase = x.rst.phase :=
    State.phase_of_frame (State.recoveryDone_frame x) rfl
  have hlost (x : State) : x.memoryLost.rst.phase = x.rst.phase := State.phase_of_frame (State.memoryLost_frame x) rfl
  have hrows (x : State) : x.recoveryRows.rst.phase = x.rst.phase :=
    State.phase_of_frame (State.recoveryRows_frame x) rfl
  unfold execL3PhaseEnd outState done State.onlyIf
  dsimp only
  split
  · split
    · rw [hdone]
      exact hs
    · split
      · rw [State.recoveryReset_phase]
        decide
      · split
        · rw [hrows, hlost]
          exact hs
        · split <;> exact hs
  · exact hs

theorem execPorAssert_phase_le (dt : Nat) {s : State} (hs : s.rst.phase ≤ 10) :
    (outState (execPorAssert dt s)).rst.phase ≤ 10 := by
  unfold execPorAssert outState done State.onlyIf
  dsimp only
  split
  · exact Nat.zero_le 10
  · exact hs

theorem execPorRelease_phase_le (dt : Nat) {s : State} (hs : s.rst.phase ≤ 10) :
    (outState (execPorRelease dt s)).rst.phase ≤ 10 := by
  unfold execPorRelease outState done State.onlyIf
  dsimp only
  split
  · exact Nat.zero_le 10
  · exact hs

theorem execResetNShort_phase (dt : Nat) (s : State) : (outState (execResetNShort dt s)).rst.phase = s.rst.phase :=
  State.onlyIf_phase (s := s.begin dt) rfl rfl

theorem execWarmResetRelease_phase (dt : Nat) (s : State) :
    (outState (execWarmResetRelease dt s)).rst.phase = s.rst.phase := by
  have hflash (x : State) : x.flashReset.rst.phase = x.rst.phase :=
    State.phase_of_frame (State.flashReset_frame x) rfl
  unfold execWarmResetRelease outState done
  refine State.onlyIf_phase ?_ rfl
  extract_lets x y r
  have hx : x.rst.phase = s.rst.phase := rfl
  clear_value x
  have hy : y.rst.phase = s.rst.phase := by
    rw [← hx]
    dsimp only [y]
    split
    · rfl
    · exact hflash x
  clear_value y
  split <;> exact hy

theorem execD8Wave_phase_le (dt w : Nat) {s : State} (hs : s.rst.phase ≤ 10) :
    (outState (execD8Wave dt w s)).rst.phase ≤ 10 := by
  unfold execD8Wave outState done State.onlyIf
  extract_lets x due
  dsimp only
  split
  · exact State.waveUp_phase_le _ w
  · exact hs

theorem execSelfCheckDone_phase (dt core : Nat) (pass : Bool) (s : State) :
    (outState (execSelfCheckDone dt core pass s)).rst.phase = s.rst.phase := by
  unfold execSelfCheckDone outState done
  refine State.onlyIf_phase ?_ rfl
  dsimp only
  split
  · exact (s.begin dt).coreFails_phase core
  · split <;> rfl

/-! ## Requests and the tick -/

theorem execStormRelease_phase (dt : Nat) (req : Req) (value : Nat) (s : State) :
    (outState (execStormRelease dt req value s)).rst.phase = s.rst.phase :=
  State.serve_phase (s := s.begin dt) rfl fun _ x => x.cmdStormRelease_phase value

theorem execReserveWrite_phase (dt : Nat) (req : Req) (idx sub value : Nat) (s : State) :
    (outState (execReserveWrite dt req idx sub value s)).rst.phase = s.rst.phase := by
  unfold execReserveWrite outState done
  refine State.onlyIf_phase (State.serve_phase (s := s.begin dt) rfl fun _ x => ?_) rfl
  split
  · rfl
  next r _ =>
    split
    · rfl
    · exact x.reserveWrite_phase r sub _

theorem execRegisterWrite_phase (dt : Nat) (req : Req) (idx sub off : Nat) (bytes : List Byte) (s : State) :
    (outState (execRegisterWrite dt req idx sub off bytes s)).rst.phase = s.rst.phase := by
  refine State.serve_phase (s := s.begin dt) rfl fun c x => ?_
  split
  · rfl
  next r _ =>
    split
    · rfl
    · exact x.wholeWrite_phase c r sub _

theorem execBlkClose_phase (dt : Nat) (req : Req) (block crc : Nat) (s : State) :
    (outState (execBlkClose dt req block crc s)).rst.phase = s.rst.phase := by
  unfold execBlkClose outState done
  dsimp only
  split
  next x hx => exact State.admitReq_phase (s := s.begin dt) hx
  next x c hx => exact (x.closeBlock_phase c block crc).trans (State.admitReq_phase (s := s.begin dt) hx)

theorem execFrameTick_phase (dt : Nat) (beatA beatR : Bool) (s : State) :
    (outState (execFrameTick dt beatA beatR s)).rst.phase = s.rst.phase := by
  have hopen (x : State) : x.openFrame.rst.phase = x.rst.phase := State.phase_of_frame (State.openFrame_frame x) rfl
  have hslot (x : State) : x.slotFifteen.rst.phase = x.rst.phase :=
    State.phase_of_frame (State.slotFifteen_frame x) rfl
  unfold execFrameTick outState done
  refine State.onlyIf_phase ?_ rfl
  dsimp only
  rw [State.slotZero_phase, hopen]
  split
  · exact hslot _
  · rfl

end Sys2Proof.Machine
end

section
/-!
PROOFS. The stacked memory stays in its canonical form (log entry 13): every command that writes it writes octets,
clears a range or opens the buffers.
-/
namespace Sys2Proof.Machine

/-- An operation whose frame does not list the memory leaves it. -/
theorem State.dram_of_frame {l : List Part} {s t : State} (h : Changes l s s → l ⊆ l → Changes l s t)
    (hl : l.contains Part.dram = false) : t.dram = s.dram := same_of_frame .dram h hl

theorem State.foldl_wf {α : Type} {f : State → α → State}
    (hf : ∀ (s : State) (x : α), Mem.wf s.dram → Mem.wf (f s x).dram) (l : List α) {s : State} (h : Mem.wf s.dram) :
    Mem.wf (l.foldl f s).dram := by
  induction l generalizing s with
  | nil => exact h
  | cons x l ih => exact ih (hf s x h)

theorem State.onlyIf_wf {s : State} {c : Bool} {f : State → State} (hs : Mem.wf s.dram) (hf : Mem.wf (f s).dram) :
    Mem.wf (s.onlyIf c f).dram := by
  unfold State.onlyIf
  split <;> assumption

/-! ## Sinks -/

theorem State.stackWrite_wf {s : State} (h : Mem.wf s.dram) (die off : Nat) (b : List Byte) :
    Mem.wf (s.stackWrite die off b).dram := Mem.wf_writeBytes h _ _

@[simp] theorem State.modSink_dram (s : State) (die : Nat) (f : Sink → Sink) : (s.modSink die f).dram = s.dram := rfl

theorem State.writeHeader_wf {s : State} (h : Mem.wf s.dram) (die : Nat) : Mem.wf (s.writeHeader die).dram := by
  unfold State.writeHeader
  dsimp only
  split
  · rw [modSink_dram]
    exact stackWrite_wf h _ _ _
  · exact h

theorem State.resetBuffers_wf {s : State} (h : Mem.wf s.dram) : Mem.wf s.resetBuffers.dram := by
  unfold State.resetBuffers
  refine foldl_wf (fun x die hx => writeHeader_wf (stackWrite_wf ?_ _ _ _) die) _ h
  rwa [modSink_dram]

theorem State.sinkLine_wf {s : State} (h : Mem.wf s.dram) (die : Nat) (line : List Byte) :
    Mem.wf (s.sinkLine die line).dram := by
  have hw : Mem.wf (s.stackWrite die (s.trace.base + (s.sink die).writeOffset) line).dram := stackWrite_wf h _ _ _
  unfold State.sinkLine
  dsimp only
  split
  · exact h
  · split
    · rwa [modSink_dram]
    · split
      · rwa [modSink_dram, modSink_dram]
      · refine writeHeader_wf ?_ _
        rwa [modSink_dram, modSink_dram]

theorem State.takeLine_wf {s : State} (h : Mem.wf s.dram) (die : Nat) (line : List Byte) :
    Mem.wf (s.takeLine die line).dram :=
  sinkLine_wf (by rwa [dram_of_frame (countOvf_frame s die line) rfl]) _ _

theorem State.freezeSink_wf {s : State} (h : Mem.wf s.dram) (die t : Nat) : Mem.wf (s.freezeSink die t).dram :=
  writeHeader_wf (by rwa [modSink_dram]) _

theorem State.thawSink_wf {s : State} (h : Mem.wf s.dram) (die : Nat) : Mem.wf (s.thawSink die).dram :=
  foldl_wf (fun _ l hx => takeLine_wf hx die l) _ (by rwa [modSink_dram])

/-! ## Stops and releases -/

theorem State.stopUnit_wf {s : State} (h : Mem.wf s.dram) (u t : Nat) : Mem.wf (s.stopUnit u t).dram := by
  unfold State.stopUnit
  split_ifs
  · rwa [dram_of_frame (tapStop_frame s u t) rfl]
  · exact freezeSink_wf (by rwa [modRunner_dram]) _ _
  · rwa [dram_of_frame (freezeGroup_frame s _ t) rfl]

theorem State.releaseUnit_wf {s : State} (h : Mem.wf s.dram) (u : Nat) : Mem.wf (s.releaseUnit u).dram := by
  unfold State.releaseUnit
  split_ifs
  · exact h
  · rwa [dram_of_frame (tapRelease_frame s u) rfl]
  · exact thawSink_wf (by rwa [modRunner_dram]) _
  · rwa [dram_of_frame (thawGroup_frame s _) rfl]

@[simp] theorem State.noteJump_dram (s : State) (u t : Nat) : (s.noteJump u t).dram = s.dram :=
  dram_of_frame (noteJump_frame s u t) rfl

theorem State.stopsFall_wf {s : State} (h : Mem.wf s.dram) : Mem.wf s.stopsFall.dram := by
  refine foldl_wf (fun x u hx => ?_) _ h
  split
  · split
    · exact stopUnit_wf (by rwa [noteJump_dram]) u _
    · exact hx
  · exact hx

theorem State.releasesFall_wf {s : State} (h : Mem.wf s.dram) : Mem.wf s.releasesFall.dram := by
  refine foldl_wf (fun x u hx => ?_) _ h
  split
  · split
    · exact releaseUnit_wf (by rwa [noteJump_dram]) u
    · exact hx
  · exact hx

/-! ## The frame tick -/

theorem State.applyGroup_wf {s : State} (h : Mem.wf s.dram) (l : List Staged) : Mem.wf (s.applyGroup l).dram := by
  have hput : Mem.wf (s.putGroup l).dram := by rwa [dram_of_frame (putGroup_frame s l) rfl]
  have hsync (x : State) : x.traceSync.dram = x.dram := dram_of_frame (traceSync_frame x) rfl
  unfold State.applyGroup
  dsimp only
  split_ifs
  · exact hput
  · exact resetBuffers_wf hput
  · rwa [hsync]
  · rw [hsync]
    exact resetBuffers_wf hput

theorem State.runGroups_wf (fuel n : Nat) {s : State} (h : Mem.wf s.dram) : Mem.wf (State.runGroups fuel n s).dram := by
  induction fuel generalizing n s with
  | zero => unfold State.runGroups; exact h
  | succ fuel ih =>
    cases n with
    | zero => unfold State.runGroups; exact h
    | succ n =>
      have hlog (x : State) (k : Nat) (d : List Byte) : (x.logged k d).dram = x.dram :=
        dram_of_frame (logged_frame x k d) rfl
      have hnotice (x : State) (k : Nat) (d : List Byte) : (x.notice k d).dram = x.dram :=
        dram_of_frame (notice_frame x k d) rfl
      unfold State.runGroups
      split
      · exact h
      next g _ =>
        dsimp only
        split
        · exact ih _ (by rwa [hlog])
        · have happly := applyGroup_wf (s := { s with frame := { s.frame with groups := s.frame.groups.erase g } }) h
            g.values
          split
          · exact ih _ (by rwa [hnotice])
          · exact ih _ happly

theorem State.headerTick_wf {s : State} (h : Mem.wf s.dram) : Mem.wf s.headerTick.dram := by
  refine foldl_wf (fun x d hx => ?_) _ h
  split
  · exact hx
  · exact writeHeader_wf hx d

theorem State.slotZero_wf {s : State} (h : Mem.wf s.dram) (beatA beatR : Bool) :
    Mem.wf (s.slotZero beatA beatR).dram := by
  have hbefore : s.beforeCommit.dram = s.dram := s.beforeCommit_changes .dram (by decide)
  have hafter (x : State) : x.afterCommit.dram = x.dram := x.afterCommit_changes .dram (by decide)
  have hrest (x : State) : (x.afterHeaders beatA beatR).dram = x.dram :=
    x.afterHeaders_changes beatA beatR .dram (by decide)
  rw [slotZero_eq, hrest]
  refine headerTick_wf ?_
  rw [hafter]
  exact runGroups_wf _ _ (by rwa [hbefore])

theorem execFrameTick_wf (dt : Nat) (beatA beatR : Bool) {s : State} (h : Mem.wf s.dram) :
    Mem.wf (outState (execFrameTick dt beatA beatR s)).dram := by
  unfold execFrameTick outState done
  refine State.onlyIf_wf h ?_
  dsimp only
  refine State.slotZero_wf ?_ _ _
  have hopen (x : State) : x.openFrame.dram = x.dram := State.dram_of_frame (State.openFrame_frame x) rfl
  rw [hopen]
  split
  · rwa [State.dram_of_frame (State.slotFifteen_frame (s.begin dt)) rfl]
  · exact h

/-! ## Entries of the table that run -/

theorem State.runPending_wf (fuel : Nat) (late : Bool) (n : Nat) {s : State} (h : Mem.wf s.dram) :
    Mem.wf (State.runPending fuel late n s).dram := by
  induction fuel generalizing late n s with
  | zero => exact h
  | succ fuel ih =>
    unfold State.runPending
    extract_lets e t delta apply passed x
    have ht : Mem.wf t.dram := by
      dsimp only [t]
      split
      · rwa [dram_of_frame (lateEntry_frame s n) rfl]
      · exact h
    clear_value t
    have hx : Mem.wf x.dram := by
      dsimp only [x]
      rwa [dram_of_frame (completeEntry_frame _ n) rfl, dram_of_frame (timeStepNow_frame t delta) rfl]
    clear_value x
    split_ifs
    · exact h
    · rwa [dram_of_frame (frameLenNow_frame t n) rfl]
    · exact releasesFall_wf (stopsFall_wf (foldl_wf (fun _ m hy => ih true m hy) _ hx))
    · rwa [dram_of_frame (roleSwapNow_frame t n) rfl]
    · exact ht

theorem State.overdueEntry_wf {s : State} (h : Mem.wf s.dram) (n : Nat) : Mem.wf (s.overdueEntry n).dram := by
  unfold State.overdueEntry
  dsimp only
  split
  · rwa [dram_of_frame (completeEntry_frame _ n) rfl, dram_of_frame (lateEntry_frame s n) rfl]
  · exact runPending_wf _ _ _ h

/-! ## The takeover -/

/-- The takeover of W stands in its next phase (R74, R76, R221). -/
def State.switched (s : State) (k : Takeover) (step : Int) (lost : List Nat) : State :=
  { s with hub := { s.hub with takeover := some { k with phase := 1, stepPs := step, lostObjects := lost } } }

/-- W up to the entries that run at it (R71–R74, R82, R85, R86, R221). -/
def State.rolesSwitched (s : State) (k : Takeover) : State :=
  ((((s.loseStaged.1.fromMirrors k).swapRoles.emptyBar s.activeCore).reissueRemovals).resendTier0).busesAgain

/-- W: the state before the entries that run at it. -/
def State.atSwitch (s : State) (k : Takeover) : State :=
  ((s.rolesSwitched k).setHealth (s.rolesSwitched k).activeUid 0).switched k s.switchStep s.loseStaged.2

theorem execTakeoverSwitch_eq (dt : Nat) (s : State) :
    execTakeoverSwitch dt s =
      done ((s.begin dt).takeoverAt 0 0 fun k x => ((x.atSwitch k).runOverdue k).stopAtSwitch k) := rfl

theorem State.rolesSwitched_changes (s : State) (k : Takeover) :
    Changes [.emitted, .hub, .tb, .wireA, .wireR, .pod, .frame, .units, .dump, .bar, .power, .flash, .log] s
      (s.rolesSwitched k) :=
  busesAgain_frame _ (resendTier0_frame _ (reissueRemovals_frame _ (emptyBar_frame _ _ (swapRoles_frame _
    (fromMirrors_frame _ k (loseStaged_frame s (.refl _ s) (by decide)) (by decide)) (by decide)) (by decide))
    (by decide)) (by decide)) (by decide)

theorem State.switched_changes (s : State) (k : Takeover) (step : Int) (lost : List Nat) :
    Changes [.hub] s (s.switched k step lost) := by
  intro p hp
  cases p <;> first | rfl | exact absurd (by decide) hp

theorem State.atSwitch_changes (s : State) (k : Takeover) :
    Changes [.emitted, .topo, .hub, .tb, .wireA, .wireR, .pod, .frame, .units, .dump, .bar, .power, .flash, .log] s
      (s.atSwitch k) :=
  (setHealth_frame _ _ _ ((s.rolesSwitched_changes k).mono (by decide)) (by decide)).step (switched_changes _ _ _ _)
    (by decide)

theorem State.runOverdue_wf {s : State} (h : Mem.wf s.dram) (k : Takeover) : Mem.wf (s.runOverdue k).dram :=
  foldl_wf (fun _ n hx => overdueEntry_wf hx n) _ h

theorem execTakeoverSwitch_wf (dt : Nat) {s : State} (h : Mem.wf s.dram) :
    Mem.wf (outState (execTakeoverSwitch dt s)).dram := by
  rw [execTakeoverSwitch_eq]
  unfold outState done State.takeoverAt
  dsimp only
  split
  · exact h
  next k _ =>
    split
    · rw [State.dram_of_frame (State.stopAtSwitch_frame _ k) rfl]
      refine State.runOverdue_wf ?_ k
      rwa [(s.begin dt).atSwitch_changes k .dram (by decide)]
    · exact h

/-! ## Entries in hand -/

theorem execCutTaken_wf (dt : Nat) {s : State} (h : Mem.wf s.dram) : Mem.wf (outState (execCutTaken dt s)).dram := by
  unfold execCutTaken outState done
  have hfall : Mem.wf (s.begin dt).stopsFall.dram := State.stopsFall_wf h
  generalize (s.begin dt).stopsFall = x at hfall
  dsimp only
  split
  · exact hfall
  next k _ => exact State.onlyIf_wf hfall (by rwa [State.dram_of_frame (State.takeCut_frame x k) rfl])

theorem execQuenchMembership_wf (dt : Nat) {s : State} (h : Mem.wf s.dram) :
    Mem.wf (outState (execQuenchMembership dt s)).dram := by
  unfold execQuenchMembership outState done
  have hfall : Mem.wf (s.begin dt).stopsFall.dram := State.stopsFall_wf h
  generalize (s.begin dt).stopsFall = x at hfall
  dsimp only
  split
  · exact hfall
  next k _ =>
    refine State.onlyIf_wf hfall ?_
    rw [State.dram_of_frame (State.settleQuench_frame _) rfl]
    split
    · exact hfall
    · rwa [State.dram_of_frame (State.listMembers_frame x k) rfl]

theorem execStepStart_wf (dt : Nat) {s : State} (h : Mem.wf s.dram) :
    Mem.wf (outState (execStepStart dt s)).dram := by
  unfold execStepStart outState done
  have hfall : Mem.wf (s.begin dt).releasesFall.dram := State.releasesFall_wf h
  generalize (s.begin dt).releasesFall = x at hfall
  dsimp only
  split
  · exact hfall
  next k _ => exact State.onlyIf_wf hfall (by rwa [State.dram_of_frame (State.startStep_frame x k) rfl])

theorem execStepPoll_wf (dt cluster : Nat) {s : State} (h : Mem.wf s.dram) :
    Mem.wf (outState (execStepPoll dt cluster s)).dram := by
  unfold execStepPoll outState done
  have hfall : Mem.wf (s.begin dt).releasesFall.dram := State.releasesFall_wf h
  generalize (s.begin dt).releasesFall = x at hfall
  refine State.onlyIf_wf hfall ?_
  dsimp only
  rw [State.dram_of_frame (State.settleStep_frame _) rfl]
  exact hfall

theorem execResumeAtTime_wf (dt : Nat) {s : State} (h : Mem.wf s.dram) :
    Mem.wf (outState (execResumeAtTime dt s)).dram := by
  unfold execResumeAtTime outState done
  have hfall : Mem.wf (s.begin dt).releasesFall.dram := State.releasesFall_wf h
  generalize (s.begin dt).releasesFall = x at hfall
  dsimp only
  split
  · exact hfall
  next k _ => exact State.onlyIf_wf hfall (by rwa [State.dram_of_frame (State.takeResume_frame x k) rfl])

theorem State.onlyIf_runPending_wf {s : State} (h : Mem.wf s.dram) (c : Bool) (n : Nat) :
    Mem.wf (s.onlyIf c (State.runPending 33 false n)).dram := onlyIf_wf h (runPending_wf _ _ _ h)

theorem execTraceLineReceive_wf (dt die : Nat) (line : List Byte) {s : State} (h : Mem.wf s.dram) :
    Mem.wf (outState (execTraceLineReceive dt die line s)).dram := by
  unfold execTraceLineReceive outState done
  refine State.onlyIf_wf h ?_
  dsimp only
  split
  · exact h
  · split
    · exact State.writeHeader_wf (State.takeLine_wf (s := s.begin dt) h die line) die
    · exact State.takeLine_wf (s := s.begin dt) h die line

/-! ## Admission, lifecycle and recovery -/

theorem execAdmRecordReceive_wf (dt die : Nat) (record : List Byte) {s : State} (h : Mem.wf s.dram) :
    Mem.wf (outState (execAdmRecordReceive dt die record s)).dram := by
  unfold execAdmRecordReceive outState done
  dsimp only
  split
  · exact h
  next r _ =>
    have hheard : Mem.wf (s.begin dt).admHeard.dram := h
    refine State.onlyIf_wf h ?_
    generalize (s.begin dt).admHeard = x at hheard
    split_ifs
    · rwa [State.dram_of_frame (State.admBadCrc_frame x die) rfl]
    · rwa [State.dram_of_frame (State.admCore_frame x die r) rfl]
    · unfold State.admRegion
      dsimp only
      split
      · rwa [State.dram_of_frame (State.admFail_frame x 9) rfl]
      · rw [State.dram_of_frame (State.admCount_frame _ die _ r.payload) rfl]
        exact State.stackWrite_wf hheard _ _ _

theorem Mem.foldl_clear_wf (l : List (Nat × Nat × Nat)) {m : Mem} (h : m.wf) :
    Mem.wf (l.foldl (fun m x => Mem.clear m (stackAddr x.1 x.2.1) x.2.2) m) := by
  induction l generalizing m with
  | nil => exact h
  | cons x l ih => exact ih (Mem.wf_clear h _ _)

theorem execAdmFettleDone_wf (dt : Nat) {s : State} (h : Mem.wf s.dram) :
    Mem.wf (outState (execAdmFettleDone dt s)).dram := by
  unfold execAdmFettleDone outState done
  refine State.onlyIf_wf h ?_
  dsimp only
  rw [State.dram_of_frame (State.admFailed_frame _) rfl]
  exact Mem.foldl_clear_wf _ h

theorem State.lcTrace_wf {s : State} (h : Mem.wf s.dram) : Mem.wf s.lcTrace.dram := by
  have hwipe : Mem.wf s.wipeBuffers.dram := Mem.wf_filter h _
  have hsync (x : State) : x.traceSync.dram = x.dram := dram_of_frame (traceSync_frame x) rfl
  unfold State.lcTrace
  extract_lets x y z w
  have hw : Mem.wf w.dram := by
    dsimp only [w]
    rwa [hsync]
  clear_value w
  split
  · rwa [dram_of_frame (issueCast_frame w _ _ _ _ _ _ _ _) rfl]
  · exact hw

theorem State.lcChange_wf {s : State} (h : Mem.wf s.dram) (b : List Byte) : Mem.wf (s.lcChange b).dram := by
  unfold State.lcChange
  extract_lets before after x y z w
  have hstores : x.dram = s.dram := dram_of_frame (lcStores_frame s after _) rfl
  clear_value x
  have hx : Mem.wf x.lcDump.lcBars.dram := by
    rwa [dram_of_frame (lcBars_frame _) rfl, dram_of_frame (lcDump_frame x) rfl, hstores]
  have hy : Mem.wf y.dram := by
    dsimp only [y]
    rw [dram_of_frame (lcLog_frame _) rfl]
    exact lcTrace_wf hx
  clear_value y
  have hw : Mem.wf w.dram := by
    have hz : z.dram = y.dram := dram_of_frame (logged_frame y _ _) rfl
    clear_value z
    dsimp only [w]
    rwa [dram_of_frame (closeAll_frame z) rfl, hz]
  clear_value w
  split
  · rwa [dram_of_frame (removeJob_frame w) rfl]
  · exact hw

theorem State.closeLcRequest_wf {s : State} (h : Mem.wf s.dram) (c : Ctx) (b : List Byte) :
    Mem.wf (s.closeLcRequest c b).dram := by
  have hcheck : (s.lcCheck c b).1.dram = s.dram := dram_of_frame (lcCheck_frame s c b) rfl
  unfold State.closeLcRequest
  split
  next x code hx => rwa [dram_of_frame (answer_frame x c code []) rfl, show x.dram = s.dram by rw [← hcheck, hx]]
  next x hx =>
    refine lcChange_wf ?_ b
    rwa [dram_of_frame (answer_frame x c _ []) rfl, show x.dram = s.dram by rw [← hcheck, hx]]

theorem State.admitReq_dram {s s1 : State} {r : Req} {o : Option Ctx} (h : s.admitReq r = (s1, o)) :
    s1.dram = s.dram := by
  have hdram : (s.admitReq r).1.dram = s.dram := dram_of_frame (admitReq_frame s r) rfl
  rwa [h] at hdram

theorem execLcRequest_wf (dt : Nat) (req : Req) (b : List Byte) {s : State} (h : Mem.wf s.dram) :
    Mem.wf (outState (execLcRequest dt req b s)).dram := by
  unfold execLcRequest outState done State.serveThen
  dsimp only
  split
  next x hx => rwa [State.admitReq_dram hx]
  next x c hx =>
    have hwf : Mem.wf x.dram := by rwa [State.admitReq_dram hx]
    split
    next code _ => rwa [State.dram_of_frame (State.answer_frame x c code []) rfl]
    next => exact State.closeLcRequest_wf hwf c b

theorem execLcFettleDone_wf (dt area : Nat) (ok : Bool) {s : State} (h : Mem.wf s.dram) :
    Mem.wf (outState (execLcFettleDone dt area ok s)).dram := by
  unfold execLcFettleDone outState done
  refine State.onlyIf_wf h ?_
  split
  · rw [State.dram_of_frame (State.urged_frame _ _ _) rfl]
    exact h
  · extract_lets left x
    have hx : Mem.wf x.dram := by
      change Mem.wf (if area = 5 then [] else s.dram)
      split
      · exact Mem.wf_nil
      · exact h
    clear_value x
    split
    · rwa [State.dram_of_frame (State.startWaiting_frame _) rfl, State.dram_of_frame (State.lcFettled_frame x) rfl]
    · exact hx

theorem State.closeWrite_wf {s : State} (h : Mem.wf s.dram) (c : Ctx) (b : Block) :
    Mem.wf (s.closeWrite c b).dram := by
  have hanswer (x : State) (code : Nat) (d : List Byte) : (x.answer c code d).dram = x.dram :=
    dram_of_frame (answer_frame x c code d) rfl
  unfold State.closeWrite
  split
  · rwa [hanswer]
  · rwa [hanswer]
  next r _ _ =>
    dsimp only
    split
    · exact closeLcRequest_wf h c _
    · rwa [hanswer, dram_of_frame (wholeWrite_frame s c r b.sub _) rfl]

theorem State.closeBlock_wf {s : State} (h : Mem.wf s.dram) (c : Ctx) (id crc : Nat) :
    Mem.wf (s.closeBlock c id crc).dram := by
  have hanswer (x : State) (code : Nat) (d : List Byte) : (x.answer c code d).dram = x.dram :=
    dram_of_frame (answer_frame x c code d) rfl
  have hdrop : Mem.wf (s.dropBlock id).dram := h
  unfold State.closeBlock
  split
  · rwa [hanswer]
  next b _ =>
    dsimp only
    split_ifs
    · rwa [hanswer]
    · exact closeWrite_wf hdrop c b
    · rwa [hanswer]

theorem execBlkClose_wf (dt : Nat) (req : Req) (block crc : Nat) {s : State} (h : Mem.wf s.dram) :
    Mem.wf (outState (execBlkClose dt req block crc s)).dram := by
  unfold execBlkClose outState done
  dsimp only
  split
  next x hx => rwa [State.admitReq_dram hx]
  next x c hx => exact State.closeBlock_wf (by rwa [State.admitReq_dram hx]) c block crc

theorem State.recoveryReset_wf {s : State} (h : Mem.wf s.dram) : Mem.wf s.recoveryReset.dram := by
  unfold State.recoveryReset
  extract_lets s1 s2 s3 s4 s5
  have h1 : Mem.wf s1.dram := h
  clear_value s1
  have h2 : Mem.wf s2.dram := by
    dsimp only [s2]
    rw [dram_of_frame (endOrders_frame _ _) rfl, dram_of_frame (forgetClusters_frame _) rfl]
    refine foldl_wf (fun x c hx => ?_) _ h1
    rwa [modTap_dram]
  clear_value s2
  have h3 : Mem.wf s3.dram := by
    dsimp only [s3]
    refine foldl_wf (fun x c hx => ?_) _ h2
    split
    · exact hx
    · rwa [setHealth_dram]
  clear_value s3
  have h4 : Mem.wf s4.dram := by
    dsimp only [s4]
    refine foldl_wf (fun x d hx => ?_) _ h3
    rw [modGroup_dram]
    exact thawSink_wf (by rwa [modRunner_dram]) d
  clear_value s4
  have h5 : Mem.wf s5.dram := by
    dsimp only [s5]
    refine foldl_wf (fun x p hx => ?_) _ h4
    rwa [modPort_dram]
  clear_value s5
  change Mem.wf s5.dram
  exact h5

theorem State.openBuffers_wf {s : State} (h : Mem.wf s.dram) (v : Nat) : Mem.wf (s.openBuffers v) :=
  Mem.wf_reopen h _ _

theorem State.memoryLost_wf {s : State} (h : Mem.wf s.dram) : Mem.wf s.memoryLost.dram := by
  have hgone : Mem.wf s.reserveGone.dram := by rwa [dram_of_frame (reserveGone_frame s) rfl]
  unfold State.memoryLost
  generalize s.reserveGone = x at hgone
  dsimp only
  refine foldl_wf (fun x d hx => ?_) _ ?_
  · rwa [modSink_dram]
  · rw [drawn_dram]
    exact openBuffers_wf hgone _

theorem execL3PhaseEnd_wf (dt : Nat) {s : State} (h : Mem.wf s.dram) :
    Mem.wf (outState (execL3PhaseEnd dt s)).dram := by
  unfold execL3PhaseEnd outState done
  refine State.onlyIf_wf h ?_
  dsimp only
  split_ifs
  · rwa [State.dram_of_frame (State.recoveryDone_frame _) rfl]
  · exact State.recoveryReset_wf h
  · rw [State.dram_of_frame (State.recoveryRows_frame _) rfl]
    exact State.memoryLost_wf h
  · exact h
  · exact h

/-! ## Resets -/

theorem execPorAssert_wf (dt : Nat) {s : State} (h : Mem.wf s.dram) : Mem.wf (outState (execPorAssert dt s)).dram := by
  unfold execPorAssert outState done
  refine State.onlyIf_wf h ?_
  exact State.openBuffers_wf (s := s.begin dt) h _

theorem execWarmReset_wf (dt : Nat) {s : State} (h : Mem.wf s.dram) : Mem.wf (outState (execWarmReset dt s)).dram := by
  unfold execWarmReset outState done
  refine State.onlyIf_wf h ?_
  dsimp only
  split
  · exact h
  · split
    · exact h
    · split
      · exact State.openBuffers_wf (s := State.countReset _ 2) h _
      · exact State.openBuffers_wf (s := State.countReset _ 2) h _

theorem State.foldl_dram {α : Type} {f : State → α → State} (hf : ∀ (s : State) (x : α), (f s x).dram = s.dram)
    (l : List α) (s : State) : (l.foldl f s).dram = s.dram := by
  induction l generalizing s with
  | nil => rfl
  | cons x l ih => rw [List.foldl_cons, ih, hf]

@[simp] theorem State.closeAll_dram (s : State) : s.closeAll.dram = s.dram := dram_of_frame (closeAll_frame s) rfl

@[simp] theorem State.warmState_dram (s : State) : s.warmState.dram = s.dram := s.closeAll_dram

@[simp] theorem State.domainsDown_dram (s : State) (n : Nat) : (s.domainsDown n).dram = s.dram := by
  have hforget (x : State) : x.forgetClusters.dram = x.dram := dram_of_frame (forgetClusters_frame x) rfl
  have hsets (x : State) (g : Nat → Bool) : (x.dropSets g).dram = x.dram := dram_of_frame (dropSets_frame x g) rfl
  have hgone (x : State) : x.reserveGone.dram = x.dram := dram_of_frame (reserveGone_frame x) rfl
  have htaps (x : State) (l : List Nat) : (l.foldl (fun s c => s.modTap c Tap.clusterReset) x).dram = x.dram :=
    foldl_dram (fun y c => y.modTap_dram c _) l x
  unfold State.domainsDown
  split
  · exact s.warmState_dram
  · simp [apply_ite State.dram, hforget, hsets, hgone, htaps]

theorem execClockLost_dram (dt domain die : Nat) (s : State) :
    (outState (execClockLost dt domain die s)).dram = s.dram := by
  have hlog (x : State) (k : Nat) (d : List Byte) : (x.logged k d).dram = x.dram :=
    State.dram_of_frame (State.logged_frame x k d) rfl
  unfold execClockLost outState done State.onlyIf
  dsimp only
  split
  · rw [hlog, State.modRst_dram, State.domainsDown_dram, State.begin_dram]
  · rfl

theorem execClockLost_wf (dt domain die : Nat) {s : State} (h : Mem.wf s.dram) :
    Mem.wf (outState (execClockLost dt domain die s)).dram := by rwa [execClockLost_dram]

end Sys2Proof.Machine
end

section
/-!
PROOFS. What every command keeps (R589, R662, R666, log entry 13): the queue, canonical memory, the bound on the
phase; with the lifecycle's steps they make the invariant of the state.
-/
namespace Sys2Proof.Machine

/-- `t` has the queue of `s`, memory in canonical form if that of `s` is, and a phase within R589 if that of `s` is. -/
structure State.Follows (s t : State) : Prop where
  pending : t.pending = s.pending
  wf : Mem.wf s.dram → Mem.wf t.dram
  phase_le : s.rst.phase ≤ 10 → t.rst.phase ≤ 10

theorem State.Follows.of_frame {l : List Part} {s t : State} (h : Changes l s s → l ⊆ l → Changes l s t)
    (hl : (l.contains Part.pending || l.contains Part.dram || l.contains Part.rst) = false) : s.Follows t := by
  simp only [Bool.or_eq_false_iff] at hl
  obtain ⟨⟨hpending, hdram⟩, hrst⟩ := hl
  exact ⟨same_of_frame .pending h hpending, fun hs => by rwa [dram_of_frame h hdram],
    fun hs => by rwa [phase_of_frame h hrst]⟩

theorem State.Follows.of_wf {l : List Part} {s t : State} (hwf : Mem.wf s.dram → Mem.wf t.dram)
    (h : Changes l s s → l ⊆ l → Changes l s t)
    (hl : (l.contains Part.pending || l.contains Part.rst) = false) : s.Follows t := by
  simp only [Bool.or_eq_false_iff] at hl
  obtain ⟨hpending, hrst⟩ := hl
  exact ⟨same_of_frame .pending h hpending, hwf, fun hs => by rwa [phase_of_frame h hrst]⟩

theorem State.Follows.of_phase {l : List Part} {s t : State} (hphase : s.rst.phase ≤ 10 → t.rst.phase ≤ 10)
    (h : Changes l s s → l ⊆ l → Changes l s t)
    (hl : (l.contains Part.pending || l.contains Part.dram) = false) : s.Follows t := by
  simp only [Bool.or_eq_false_iff] at hl
  obtain ⟨hpending, hdram⟩ := hl
  exact ⟨same_of_frame .pending h hpending, fun hs => by rwa [dram_of_frame h hdram], hphase⟩

/-! ## Commands that build the state anew -/

theorem execPorAssert_pending (dt : Nat) (s : State) : (outState (execPorAssert dt s)).pending = s.pending := by
  unfold execPorAssert outState done State.onlyIf
  dsimp only
  split <;> rfl

@[simp] theorem State.closeAll_pending (s : State) : s.closeAll.pending = s.pending :=
  same_of_frame .pending (closeAll_frame s) rfl

@[simp] theorem State.warmState_pending (s : State) : s.warmState.pending = s.pending := s.closeAll_pending

theorem execWarmReset_pending (dt : Nat) (s : State) : (outState (execWarmReset dt s)).pending = s.pending := by
  unfold execWarmReset outState done State.onlyIf
  dsimp only
  split
  · split
    · rfl
    · split
      · rfl
      · split <;> exact State.warmState_pending _
  · rfl

theorem State.foldl_pending {α : Type} {f : State → α → State}
    (hf : ∀ (s : State) (x : α), (f s x).pending = s.pending) (l : List α) (s : State) :
    (l.foldl f s).pending = s.pending := by
  induction l generalizing s with
  | nil => rfl
  | cons x l ih => rw [List.foldl_cons, ih, hf]

@[simp] theorem State.domainsDown_pending (s : State) (n : Nat) : (s.domainsDown n).pending = s.pending := by
  have hforget (x : State) : x.forgetClusters.pending = x.pending :=
    same_of_frame .pending (forgetClusters_frame x) rfl
  have hsets (x : State) (g : Nat → Bool) : (x.dropSets g).pending = x.pending :=
    same_of_frame .pending (dropSets_frame x g) rfl
  have hgone (x : State) : x.reserveGone.pending = x.pending := same_of_frame .pending (reserveGone_frame x) rfl
  have htaps (x : State) (l : List Nat) : (l.foldl (fun s c => s.modTap c Tap.clusterReset) x).pending = x.pending :=
    foldl_pending (fun y c => y.modTap_pending c _) l x
  unfold State.domainsDown
  split
  · exact s.warmState_pending
  · simp [apply_ite State.pending, hforget, hsets, hgone, htaps]

theorem execClockLost_pending (dt domain die : Nat) (s : State) :
    (outState (execClockLost dt domain die s)).pending = s.pending := by
  have hlog (x : State) (k : Nat) (d : List Byte) : (x.logged k d).pending = x.pending :=
    State.same_of_frame .pending (State.logged_frame x k d) rfl
  unfold execClockLost outState done State.onlyIf
  dsimp only
  split
  · exact (hlog _ _ _).trans ((s.begin dt).domainsDown_pending domain)
  · rfl

/-- Every command answers a next state. -/
theorem exec_answers (i : Instr) (s : State) : Answers (exec i s) := by
  cases i <;> exact ⟨_, rfl⟩

/-- Each command leaves the queue and keeps memory canonical and the phase within R589. -/
theorem exec_follows (i : Instr) (s : State) : s.Follows (outState (exec i s)) :=
  match i with
  | .frameTick dt beatA beatR =>
    .mk (State.same_of_frame .pending (execFrameTick_frame dt beatA beatR s) rfl) (execFrameTick_wf dt beatA beatR)
      (execFrameTick_phase dt beatA beatR s).trans_le
  | .frameReport dt die rep => .of_frame (execFrameReport_frame dt die rep s) rfl
  | .reportEvaluation dt => .of_frame (execReportEvaluation_frame dt s) rfl
  | .hbMiss dt cluster => .of_frame (execHbMiss_frame dt cluster s) rfl
  | .hangEngine dt uid engine => .of_frame (execHangEngine_frame dt uid engine s) rfl
  | .runnerSilent dt die => .of_frame (execRunnerSilent_frame dt die s) rfl
  | .tapSilent dt cluster => .of_frame (execTapSilent_frame dt cluster s) rfl
  | .sensorFail dt cluster => .of_frame (execSensorFail_frame dt cluster s) rfl
  | .commHoldSet dt die => .of_frame (execCommHoldSet_frame dt die s) rfl
  | .commHoldClear dt die => .of_frame (execCommHoldClear_frame dt die s) rfl
  | .jobAdmission dt => .of_frame (execJobAdmission_frame dt s) rfl
  | .slotJobCheck dt slot => .of_frame (execSlotJobCheck_frame dt slot s) rfl
  | .samplingSlot dt slot => .of_frame (execSamplingSlot_frame dt slot s) rfl
  | .commitQueueFreeze dt => .of_frame (execCommitQueueFreeze_frame dt s) rfl
  | .schedQuench dt req entry time flags => .of_frame (execSchedQuench_frame dt req entry time flags s) rfl
  | .schedPodQuench dt req entry time flags => .of_frame (execSchedPodQuench_frame dt req entry time flags s) rfl
  | .schedStep dt req entry time flags => .of_frame (execSchedStep_frame dt req entry time flags s) rfl
  | .schedResume dt req entry time flags => .of_frame (execSchedResume_frame dt req entry time flags s) rfl
  | .schedFrameLen dt req entry time flags => .of_frame (execSchedFrameLen_frame dt req entry time flags s) rfl
  | .schedTimeStep dt req entry time flags => .of_frame (execSchedTimeStep_frame dt req entry time flags s) rfl
  | .schedRoleSwap dt req entry time flags => .of_frame (execSchedRoleSwap_frame dt req entry time flags s) rfl
  | .schedEmpty dt req entry => .of_frame (execSchedEmpty_frame dt req entry s) rfl
  | .frameLenChange dt entry =>
    .of_wf (fun hs => State.onlyIf_runPending_wf (s := s.begin dt) hs _ entry)
      (execFrameLenChange_frame dt entry s) rfl
  | .timeStepApply dt entry =>
    .of_wf (fun hs => State.onlyIf_runPending_wf (s := s.begin dt) hs _ entry)
      (execTimeStepApply_frame dt entry s) rfl
  | .roleSwapDue dt entry =>
    .of_wf (fun hs => State.onlyIf_runPending_wf (s := s.begin dt) hs _ entry) (execRoleSwapDue_frame dt entry s) rfl
  | .lockstepFault dt core => .of_frame (execLockstepFault_frame dt core s) rfl
  | .tbuClockGoodLost dt => .of_frame (execTbuClockGoodLost_frame dt s) rfl
  | .takeoverSwitch dt => .of_wf (execTakeoverSwitch_wf dt) (execTakeoverSwitch_frame dt s) rfl
  | .takeoverOldReset dt => .of_frame (execTakeoverOldReset_frame dt s) rfl
  | .runnerActiveCast dt => .of_frame (execRunnerActiveCast_frame dt s) rfl
  | .takeoverNotify dt => .of_frame (execTakeoverNotify_frame dt s) rfl
  | .quCmdArm dt req => .of_frame (execQuCmdArm_frame dt req s) rfl
  | .quCmdCancel dt req => .of_frame (execQuCmdCancel_frame dt req s) rfl
  | .quCmdStep dt req => .of_frame (execQuCmdStep_frame dt req s) rfl
  | .quCmdResume dt req => .of_frame (execQuCmdResume_frame dt req s) rfl
  | .quCmdPeek dt req => .of_frame (execQuCmdPeek_frame dt req s) rfl
  | .castReceive dt target cast => .of_frame (execCastReceive_frame dt target cast s) rfl
  | .castResponse dt response => .of_frame (execCastResponse_frame dt response s) rfl
  | .castRetry dt castId => .of_frame (execCastRetry_frame dt castId s) rfl
  | .castUnresponsive dt castId => .of_frame (execCastUnresponsive_frame dt castId s) rfl
  | .quenchDecision dt => .of_frame (execQuenchDecision_frame dt s) rfl
  | .holdReceive dt target word => .of_frame (execHoldReceive_frame dt target word s) rfl
  | .cutTaken dt => .of_wf (execCutTaken_wf dt) (execCutTaken_frame dt s) rfl
  | .quenchMembership dt => .of_wf (execQuenchMembership_wf dt) (execQuenchMembership_frame dt s) rfl
  | .cutOrderReceive dt port msg => .of_frame (execCutOrderReceive_frame dt port msg s) rfl
  | .cutWithdrawReceive dt port msg => .of_frame (execCutWithdrawReceive_frame dt port msg s) rfl
  | .cutAckReceive dt port msg => .of_frame (execCutAckReceive_frame dt port msg s) rfl
  | .orderCopySend dt => .of_frame (execOrderCopySend_frame dt s) rfl
  | .cutAckSend dt => .of_frame (execCutAckSend_frame dt s) rfl
  | .podCutSummary dt => .of_frame (execPodCutSummary_frame dt s) rfl
  | .stepSelectLate dt => .of_frame (execStepSelectLate_frame dt s) rfl
  | .stepStart dt => .of_wf (execStepStart_wf dt) (execStepStart_frame dt s) rfl
  | .netRefreeze dt => .of_frame (execNetRefreeze_frame dt s) rfl
  | .stepPoll dt cluster => .of_wf (execStepPoll_wf dt cluster) (execStepPoll_frame dt cluster s) rfl
  | .stepOverrun dt cluster => .of_frame (execStepOverrun_frame dt cluster s) rfl
  | .resumeAtTime dt => .of_wf (execResumeAtTime_wf dt) (execResumeAtTime_frame dt s) rfl
  | .quCancelLate dt entry => .of_frame (execQuCancelLate_frame dt entry s) rfl
  | .soStart dt req => .of_frame (execSoStart_frame dt req s) rfl
  | .soStartRef dt req => .of_frame (execSoStartRef_frame dt req s) rfl
  | .soAbort dt req => .of_frame (execSoAbort_frame dt req s) rfl
  | .soFettleReserve dt req => .of_frame (execSoFettleReserve_frame dt req s) rfl
  | .soAck dt req image => .of_frame (execSoAck_frame dt req image s) rfl
  | .soRecordRead dt req ownOk mirrorOk => .of_frame (execSoRecordRead_frame dt req ownOk mirrorOk s) rfl
  | .soHeaderRead dt req => .of_frame (execSoHeaderRead_frame dt req s) rfl
  | .reserveWrite dt req idx sub value =>
    .of_phase ((execReserveWrite_phase dt req idx sub value s).trans_le)
      (execReserveWrite_frame dt req idx sub value s) rfl
  | .debugReadComplete dt die uid type off status data secureLines =>
    .of_frame (execDebugReadComplete_frame dt die uid type off status data secureLines s) rfl
  | .debugReadTimeout dt die uid type off => .of_frame (execDebugReadTimeout_frame dt die uid type off s) rfl
  | .recordWriteComplete dt die uid type sub ownOk mirrorOk =>
    .of_frame (execRecordWriteComplete_frame dt die uid type sub ownOk mirrorOk s) rfl
  | .ladleWriteTimeout dt die uid type => .of_frame (execLadleWriteTimeout_frame dt die uid type s) rfl
  | .sealPartReport dt die tier => .of_frame (execSealPartReport_frame dt die tier s) rfl
  | .sealResult dt sum => .of_frame (execSealResult_frame dt sum s) rfl
  | .soRunnerLost dt die => .of_frame (execSoRunnerLost_frame dt die s) rfl
  | .shakeoutClose dt => .of_frame (execShakeoutClose_frame dt s) rfl
  | .reserveFettleDone dt => .of_frame (execReserveFettleDone_frame dt s) rfl
  | .hangWaitClear dt => .of_frame (execHangWaitClear_frame dt s) rfl
  | .hangCollect dt => .of_frame (execHangCollect_frame dt s) rfl
  | .contextRemove dt req ctx => .of_frame (execContextRemove_frame dt req ctx s) rfl
  | .removeCastIssue dt => .of_frame (execRemoveCastIssue_frame dt s) rfl
  | .contextCastReceive dt target cast status uid engine =>
    .of_frame (execContextCastReceive_frame dt target cast status uid engine s) rfl
  | .removeCountComplete dt castId => .of_frame (execRemoveCountComplete_frame dt castId s) rfl
  | .drainElapsed dt castId => .of_frame (execDrainElapsed_frame dt castId s) rfl
  | .replayResponse dt castId status uid engine =>
    .of_frame (execReplayResponse_frame dt castId status uid engine s) rfl
  | .replayStall dt => .of_frame (execReplayStall_frame dt s) rfl
  | .replayTimeout dt => .of_frame (execReplayTimeout_frame dt s) rfl
  | .contextFettleDone dt ctx die => .of_frame (execContextFettleDone_frame dt ctx die s) rfl
  | .unitResetPulse dt req uid part attested => .of_frame (execUnitResetPulse_frame dt req uid part attested s) rfl
  | .unitResetHold dt req uid part attested => .of_frame (execUnitResetHold_frame dt req uid part attested s) rfl
  | .unitResetRelease dt req uid part attested =>
    .of_frame (execUnitResetRelease_frame dt req uid part attested s) rfl
  | .unitResetAssert dt => .of_frame (execUnitResetAssert_frame dt s) rfl
  | .unitResetReleaseDue dt => .of_frame (execUnitResetReleaseDue_frame dt s) rfl
  | .unitResetDone dt => .of_frame (execUnitResetDone_frame dt s) rfl
  | .l2Failed dt => .of_frame (execL2Failed_frame dt s) rfl
  | .recoveryLevel dt req value => .of_frame (execRecoveryLevel_frame dt req value s) rfl
  | .l3PhaseEnd dt =>
    .mk (State.same_of_frame .pending (execL3PhaseEnd_frame dt s) rfl) (execL3PhaseEnd_wf dt)
      (execL3PhaseEnd_phase_le dt)
  | .l3Failed dt => .of_frame (execL3Failed_frame dt s) rfl
  | .beaconReceive dt port beacon => .of_frame (execBeaconReceive_frame dt port beacon s) rfl
  | .runnerNoTick dt die => .of_frame (execRunnerNoTick_frame dt die s) rfl
  | .stepMark dt w0 w1 w2 => .of_frame (execStepMark_frame dt w0 w1 w2 s) rfl
  | .jobViewExpire dt => .of_frame (execJobViewExpire_frame dt s) rfl
  | .suspectEnter dt => .of_frame (execSuspectEnter_frame dt s) rfl
  | .suspectDump dt => .of_frame (execSuspectDump_frame dt s) rfl
  | .selfTestEnd dt results => .of_frame (execSelfTestEnd_frame dt results s) rfl
  | .suspectCleared dt => .of_frame (execSuspectCleared_frame dt s) rfl
  | .suspectCmdClear dt req => .of_frame (execSuspectCmdClear_frame dt req s) rfl
  | .expel dt req order => .of_frame (execExpel_frame dt req order s) rfl
  | .expelRelease dt req order => .of_frame (execExpelRelease_frame dt req order s) rfl
  | .expelPortFence dt => .of_frame (execExpelPortFence_frame dt s) rfl
  | .expelCut dt => .of_frame (execExpelCut_frame dt s) rfl
  | .expelCollect dt => .of_frame (execExpelCollect_frame dt s) rfl
  | .admBegin dt req => .of_frame (execAdmBegin_frame dt req s) rfl
  | .admServe dt req => .of_frame (execAdmServe_frame dt req s) rfl
  | .admAbort dt req => .of_frame (execAdmAbort_frame dt req s) rfl
  | .admOpenReceive dt die record => .of_frame (execAdmOpenReceive_frame dt die record s) rfl
  | .admRecordReceive dt die record =>
    .of_wf (execAdmRecordReceive_wf dt die record) (execAdmRecordReceive_frame dt die record s) rfl
  | .admEndReceive dt record => .of_frame (execAdmEndReceive_frame dt record s) rfl
  | .admStall dt => .of_frame (execAdmStall_frame dt s) rfl
  | .admSealResult dt sum => .of_frame (execAdmSealResult_frame dt sum s) rfl
  | .admFettleDone dt => .of_wf (execAdmFettleDone_wf dt) (execAdmFettleDone_frame dt s) rfl
  | .admServeDone dt complete sum bytes records =>
    .of_frame (execAdmServeDone_frame dt complete sum bytes records s) rfl
  | .captureReceive dt capture => .of_frame (execCaptureReceive_frame dt capture s) rfl
  | .barComputeDone dt bar upset => .of_frame (execBarComputeDone_frame dt bar upset s) rfl
  | .captureTimeout dt bar slot => .of_frame (execCaptureTimeout_frame dt bar slot s) rfl
  | .barSelfCheckDone dt bar pass => .of_frame (execBarSelfCheckDone_frame dt bar pass s) rfl
  | .sdcStormClear dt => .of_frame (execSdcStormClear_frame dt s) rfl
  | .tbEventAck dt req seq => .of_frame (execTbEventAck_frame dt req seq s) rfl
  | .tbQuarantineClear dt req idx => .of_frame (execTbQuarantineClear_frame dt req idx s) rfl
  | .tbProbeLoad dt req kernel => .of_frame (execTbProbeLoad_frame dt req kernel s) rfl
  | .probeRunBar dt req kernel uid engine => .of_frame (execProbeRunBar_frame dt req kernel uid engine s) rfl
  | .probeRunEngine dt req kernel uid engine => .of_frame (execProbeRunEngine_frame dt req kernel uid engine s) rfl
  | .probeOpDone dt header engineResult upset => .of_frame (execProbeOpDone_frame dt header engineResult upset s) rfl
  | .traceLineReceive dt die line =>
    .of_wf (execTraceLineReceive_wf dt die line) (execTraceLineReceive_frame dt die line s) rfl
  | .traceSwitchIssue dt => .of_frame (execTraceSwitchIssue_frame dt s) rfl
  | .pmbusTransactionDone dt read => .of_frame (execPmbusTransactionDone_frame dt read s) rfl
  | .pmbAlert dt addr status => .of_frame (execPmbAlert_frame dt addr status s) rfl
  | .tbNowRead dt req => .of_frame (execTbNowRead_frame dt req s) rfl
  | .markCycle dt core => .of_frame (execMarkCycle_frame dt core s) rfl
  | .markReceive dt uid msg => .of_frame (execMarkReceive_frame dt uid msg s) rfl
  | .loadReceive dt uid msg => .of_frame (execLoadReceive_frame dt uid msg s) rfl
  | .stepMsgReceive dt uid msg => .of_frame (execStepMsgReceive_frame dt uid msg s) rfl
  | .calReqReceive dt uid msg => .of_frame (execCalReqReceive_frame dt uid msg s) rfl
  | .calEchoLaunch dt uid => .of_frame (execCalEchoLaunch_frame dt uid s) rfl
  | .calEchoReceive dt core msg => .of_frame (execCalEchoReceive_frame dt core msg s) rfl
  | .calSetReceive dt uid msg => .of_frame (execCalSetReceive_frame dt uid msg s) rfl
  | .calEchoTimeout dt core => .of_frame (execCalEchoTimeout_frame dt core s) rfl
  | .replicaFlywheel dt uid => .of_frame (execReplicaFlywheel_frame dt uid s) rfl
  | .replicaLost dt uid => .of_frame (execReplicaLost_frame dt uid s) rfl
  | .refclkLost dt => .of_frame (execRefclkLost_frame dt s) rfl
  | .refclkBack dt => .of_frame (execRefclkBack_frame dt s) rfl
  | .tickOutDue dt => .of_frame (execTickOutDue_frame dt s) rfl
  | .tickInEdge dt edge => .of_frame (execTickInEdge_frame dt edge s) rfl
  | .tickInMissing dt toggled level => .of_frame (execTickInMissing_frame dt toggled level s) rfl
  | .syncSend dt port => .of_frame (execSyncSend_frame dt port s) rfl
  | .syncReceive dt port msg => .of_frame (execSyncReceive_frame dt port msg s) rfl
  | .gmDeclare dt => .of_frame (execGmDeclare_frame dt s) rfl
  | .upstreamReselect dt => .of_frame (execUpstreamReselect_frame dt s) rfl
  | .upstreamLost dt => .of_frame (execUpstreamLost_frame dt s) rfl
  | .gmLost dt => .of_frame (execGmLost_frame dt s) rfl
  | .linkTrained dt port => .of_frame (execLinkTrained_frame dt port s) rfl
  | .loopMeasureDone dt port halves => .of_frame (execLoopMeasureDone_frame dt port halves s) rfl
  | .discardWindowEnd dt => .of_frame (execDiscardWindowEnd_frame dt s) rfl
  | .asymTimeout dt => .of_frame (execAsymTimeout_frame dt s) rfl
  | .asymRetry dt => .of_frame (execAsymRetry_frame dt s) rfl
  | .servoRestart dt req value => .of_frame (execServoRestart_frame dt req value s) rfl
  | .timeQuery dt req => .of_frame (execTimeQuery_frame dt req s) rfl
  | .timeAnswer dt t1 t2 t3 t4 => .of_frame (execTimeAnswer_frame dt t1 t2 t3 t4 s) rfl
  | .txtsStamp dt id => .of_frame (execTxtsStamp_frame dt id s) rfl
  | .txtsQueuePop dt req => .of_frame (execTxtsQueuePop_frame dt req s) rfl
  | .porAssert dt => ⟨execPorAssert_pending dt s, execPorAssert_wf dt, execPorAssert_phase_le dt⟩
  | .porRelease dt => .of_phase (execPorRelease_phase_le dt) (execPorRelease_frame dt s) rfl
  | .warmReset dt => ⟨execWarmReset_pending dt s, execWarmReset_wf dt, execWarmReset_phase_le dt⟩
  | .resetNShort dt => .of_phase ((execResetNShort_phase dt s).trans_le) (execResetNShort_frame dt s) rfl
  | .warmResetRelease dt =>
    .of_phase ((execWarmResetRelease_phase dt s).trans_le) (execWarmResetRelease_frame dt s) rfl
  | .domainRelease dt n => .of_phase (execDomainRelease_phase_le dt n) (execDomainRelease_frame dt n s) rfl
  | .d8Wave dt w => .of_phase (execD8Wave_phase_le dt w) (execD8Wave_frame dt w s) rfl
  | .clockLost dt domain die =>
    ⟨execClockLost_pending dt domain die s, execClockLost_wf dt domain die, execClockLost_phase_le dt domain die
     ⟩
  | .clockLostInService dt domain die =>
    .of_phase ((execClockLostInService_phase dt domain die s).trans_le)
      (execClockLostInService_frame dt domain die s) rfl
  | .clockTimeout dt domain die =>
    .of_phase (execClockTimeout_phase_le dt domain die) (execClockTimeout_frame dt domain die s) rfl
  | .selfCheckDone dt core pass =>
    .of_phase ((execSelfCheckDone_phase dt core pass s).trans_le) (execSelfCheckDone_frame dt core pass s) rfl
  | .optionLoadingEnd dt read =>
    .of_phase ((execOptionLoadingEnd_phase dt read s).trans_le) (execOptionLoadingEnd_frame dt read s) rfl
  | .fwBoot dt core => .of_frame (execFwBoot_frame dt core s) rfl
  | .stormRelease dt req value =>
    .of_phase ((execStormRelease_phase dt req value s).trans_le) (execStormRelease_frame dt req value s) rfl
  | .persistWriteDone dt ok => .of_frame (execPersistWriteDone_frame dt ok s) rfl
  | .stage dt req idx sub off bytes => .of_frame (execStage_frame dt req idx sub off bytes s) rfl
  | .commit dt req indivisible notify => .of_frame (execCommit_frame dt req indivisible notify s) rfl
  | .blkOpen dt req idx sub dir off len => .of_frame (execBlkOpen_frame dt req idx sub dir off len s) rfl
  | .blkData dt req block off bytes => .of_frame (execBlkData_frame dt req block off bytes s) rfl
  | .blkClose dt req block crc =>
    .mk (State.same_of_frame .pending (execBlkClose_frame dt req block crc s) rfl) (execBlkClose_wf dt req block crc)
      (execBlkClose_phase dt req block crc s).trans_le
  | .blkDataResend dt block seq => .of_frame (execBlkDataResend_frame dt block seq s) rfl
  | .blkTimeout dt block => .of_frame (execBlkTimeout_frame dt block s) rfl
  | .notifyAck dt session seq => .of_frame (execNotifyAck_frame dt session seq s) rfl
  | .notifyResend dt session seq => .of_frame (execNotifyResend_frame dt session seq s) rfl
  | .claimSend dt => .of_frame (execClaimSend_frame dt s) rfl
  | .offerAssign dt serial node count => .of_frame (execOfferAssign_frame dt serial node count s) rfl
  | .offerRevoke dt serial => .of_frame (execOfferRevoke_frame dt serial s) rfl
  | .sessionHello dt hello => .of_frame (execSessionHello_frame dt hello s) rfl
  | .sessionClose dt session byPeer => .of_frame (execSessionClose_frame dt session byPeer s) rfl
  | .sessionTimeout dt session => .of_frame (execSessionTimeout_frame dt session s) rfl
  | .plcaInactive dt => .of_frame (execPlcaInactive_frame dt s) rfl
  | .plcaReturn dt => .of_frame (execPlcaReturn_frame dt s) rfl
  | .registerWrite dt req idx sub off bytes =>
    .of_phase ((execRegisterWrite_phase dt req idx sub off bytes s).trans_le)
      (execRegisterWrite_frame dt req idx sub off bytes s) rfl
  | .fwUpdate dt req image => .of_frame (execFwUpdate_frame dt req image s) rfl
  | .fwUpdateApply dt req value => .of_frame (execFwUpdateApply_frame dt req value s) rfl
  | .fwUpdateStandbyReady dt => .of_frame (execFwUpdateStandbyReady_frame dt s) rfl
  | .fwUpdateOldReady dt => .of_frame (execFwUpdateOldReady_frame dt s) rfl
  | .fwUpdateTimeout dt => .of_frame (execFwUpdateTimeout_frame dt s) rfl
  | .lcRequest dt req request => .of_wf (execLcRequest_wf dt req request) (execLcRequest_frame dt req request s) rfl
  | .lcFettleDone dt area ok => .of_wf (execLcFettleDone_wf dt area ok) (execLcFettleDone_frame dt area ok s) rfl
  | .authChallenge dt req => .of_frame (execAuthChallenge_frame dt req s) rfl
  | .authToken dt req token => .of_frame (execAuthToken_frame dt req token s) rfl
  | .authEnded dt session => .of_frame (execAuthEnded_frame dt session s) rfl
  | .mgrKeysWrite dt req k key => .of_frame (execMgrKeysWrite_frame dt req k key s) rfl
  | .logAck dt req seq => .of_frame (execLogAck_frame dt req seq s) rfl
  | .logRead dt req => .of_frame (execLogRead_frame dt req s) rfl
  | .ringResponse dt die words secureLines => .of_frame (execRingResponse_frame dt die words secureLines s) rfl
  | .ringTimeout dt die tag => .of_frame (execRingTimeout_frame dt die tag s) rfl
  | .quenchIn dt => .of_frame (execQuenchIn_frame dt s) rfl
  | .quenchInArm dt => .of_frame (execQuenchInArm_frame dt s) rfl
  | .quenchInDeferred dt => .of_frame (execQuenchInDeferred_frame dt s) rfl
  | .quenchInEntryFree dt => .of_frame (execQuenchInEntryFree_frame dt s) rfl
  | .inputStuck dt => .of_frame (execInputStuck_frame dt s) rfl
  | .jtagUpdateIr dt scan => .of_frame (execJtagUpdateIr_frame dt scan s) rfl
  | .jtagTestReset dt => .of_frame (execJtagTestReset_frame dt s) rfl
  | .chillEntry dt half => .of_frame (execChillEntry_frame dt half s) rfl
  | .chillExit dt half => .of_frame (execChillExit_frame dt half s) rfl
  | .linkDown dt port => .of_frame (execLinkDown_frame dt port s) rfl
  | .traceStallTimeout dt core => .of_frame (execTraceStallTimeout_frame dt core s) rfl
  | .optionWriteDone dt ok => .of_frame (execOptionWriteDone_frame dt ok s) rfl

/-- A command that answers a state answers the one that its laws speak of. -/
theorem outState_of_exec {i : Instr} {s t : State} (h : exec i s = .next t) : outState (exec i s) = t := by
  rw [h]
  rfl

theorem step_pending {s t : State} (h : step s = .next t) : t.pending = s.pending.tail := by
  unfold step at h
  split at h
  next hempty =>
    obtain rfl := Host.Outcome.next.inj h
    rw [hempty]
    rfl
  next i rest hqueue =>
    rw [← outState_of_exec h, (exec_follows i _).pending, hqueue]
    rfl

/-- A step keeps memory canonical and the phase within R589. -/
theorem step_keeps_wf_phase {s t : State} (hwf : Mem.wf s.dram) (hphase : s.rst.phase ≤ 10) (h : step s = .next t) :
    Mem.wf t.dram ∧ t.rst.phase ≤ 10 := by
  unfold step at h
  split at h
  · obtain rfl := Host.Outcome.next.inj h
    exact ⟨hwf, hphase⟩
  next i rest _ =>
    have hexec := exec_follows i { s with pending := rest }
    rw [outState_of_exec h] at hexec
    exact ⟨hexec.wf hwf, hexec.phase_le hphase⟩

/-- A listed transition, or none, ends in one of the four states of R666. -/
theorem Lifecycle.Steps.lcState_le {l m : Lifecycle} (h : l.Steps m) (agree : l.storeA = l.storeB)
    (hl : l.storeA.lcState ≤ 3) : m.storeA = m.storeB ∧ m.storeA.lcState ≤ 3 := by
  obtain ⟨hagree, hsame | ⟨hlisted, -⟩⟩ := h agree
  · exact ⟨hagree, hsame ▸ hl⟩
  · rw [lcListed_iff] at hlisted
    exact ⟨hagree, by omega⟩

/-- Settles O55: each command keeps memory and phase, and makes a listed transition of the lifecycle or none. -/
theorem stepKeepsInvariant : Obligations.StepKeepsInvariant := by
  unfold Obligations.StepKeepsInvariant
  intro s t hs h
  obtain ⟨hwf, hphase, hagree, hstate⟩ := hs
  obtain ⟨hwf', hphase'⟩ := step_keeps_wf_phase hwf hphase h
  obtain ⟨hagree', hstate'⟩ := (step_steps h).lcState_le hagree hstate
  exact ⟨hwf', hphase', hagree', hstate'⟩

/-- Settles O54: the queue's front is what a step runs, and every command leaves the rest. -/
theorem stepRunsTheFront : Obligations.StepRunsTheFront := by
  unfold Obligations.StepRunsTheFront
  refine ⟨fun _ _ _ => rfl, fun s h => ?_, fun s => ?_, fun _ _ => step_pending⟩
  · unfold step
    rw [h]
  · unfold step
    split
    · exact ⟨_, rfl⟩
    · exact exec_answers _ _

end Sys2Proof.Machine
end

section
/-!
PROOFS. Replicas between their states (R107, R116, R117, R147, O60), what reset leaves (O56), the counts that
verdicts come from (R365, R366, R369, O24) and the second computation of a mismatch (R482–R484, O35).
-/
namespace Sys2Proof.Machine

/-! ## Clocks -/

/-- A clock loaded with a count reads that count. -/
theorem Clock.read_load (c : Clock) (now acc : Nat) :
    ({ c.load now acc with counting := true } : Clock).read now = acc := by
  simp [Clock.read, Clock.load, Clock.slewed, clampInt]

@[simp] theorem Clock.settle_rate (c : Clock) (now : Nat) : (c.settle now).rate = c.rate := by
  unfold Clock.settle
  split <;> rfl

/-! ## A replica that accepts a MARK or LOAD -/

/-- The replica at RATE of the message, before its PNS is judged. -/
def Replica.heard (r : Replica) (m : List Nat) (now : Nat) (e : Int) : Replica :=
  { r with clock := r.clock.setRate now (toSigned 32 (msgWord m 4)), lastMark := now, lastErr := e / 2 ^ 32
           firstOfSource := if r.firstOfSource = some (msgSrc m) then none else r.firstOfSource }

/-- A small error is slewed (R107). -/
def Replica.slewed (r : Replica) (now : Nat) (e : Int) : Replica :=
  { r with state := .tracking, largeErrors := 0, clock := { r.clock.settle now with slew := e } }

/-- The two bounds of R107 are one bound on the size of the error. -/
theorem twoNs_lt_natAbs (e : Int) :
    (decide (twoNs < e) || decide (e < -twoNs)) = decide (twoNs < e.natAbs) := by
  rw [← Bool.decide_or]
  refine decide_eq_decide.mpr ?_
  unfold twoNs
  omega

/-- What becomes of a replica by an accepted message: its state and the error decide (R107, R116, R117, R147). -/
theorem Replica.track_eq (r : Replica) (m : List Nat) (d now : Nat) (load : Bool) (e : Int)
    (he : e = (trueAcc m d : Int) - ((r.clock.setRate now (toSigned 32 (msgWord m 4))).read now : Int)) :
    r.track m d now load =
      match r.state with
      | .cold => (({ r.heard m now e with lastErr := 0 } : Replica).adopt now (trueAcc m d), false)
      | .flywheel =>
        if load = true ∨ twoNs < e.natAbs then ((r.heard m now e).adopt now (trueAcc m d), true)
        else if r.firstOfSource = some (msgSrc m) then ((r.heard m now e).adopt now (trueAcc m d), false)
        else ((r.heard m now e).slewed now e, false)
      | .tracking =>
        if load then ((r.heard m now e).adopt now (trueAcc m d), false)
        else if twoNs < e.natAbs then
          if r.largeErrors = 3 then ((r.heard m now e).adopt now (trueAcc m d), true)
          else ({ r.heard m now e with largeErrors := r.largeErrors + 1 }, false)
        else if r.firstOfSource = some (msgSrc m) then ((r.heard m now e).adopt now (trueAcc m d), false)
        else ((r.heard m now e).slewed now e, false) := by
  unfold Replica.track
  simp only [← he, twoNs_lt_natAbs]
  cases hst : r.state <;> simp [Replica.heard, Replica.slewed, hst]

/-- A replica that adopts a count reads it, TRACKING, and waits for no source's first message. -/
theorem Replica.adopt_spec (r : Replica) (now acc : Nat) :
    (r.adopt now acc).state = .tracking ∧ (r.adopt now acc).lastMark = r.lastMark ∧
    (r.adopt now acc).clock.rate = r.clock.rate ∧ (r.adopt now acc).clock.counting = true ∧
    (r.adopt now acc).clock.read now = acc ∧ (r.adopt now acc).firstOfSource = none :=
  ⟨rfl, rfl, rfl, rfl, r.clock.read_load now acc, rfl⟩

theorem Replica.slewed_rate (r : Replica) (now : Nat) (e : Int) :
    (r.slewed now e).clock.rate = r.clock.rate := r.clock.settle_rate now

/-- Settles O60: `Replica.track_eq` gives the case that applies, and each clause speaks of some of the cases. -/
theorem replicaTracking : Obligations.ReplicaTracking := by
  intro r m d now load e he
  rw [Replica.track_eq r m d now load e he]
  have hrate : (r.heard m now e).clock.rate =
      clampInt (-Config.rateLimit) Config.rateLimit (toSigned 32 (msgWord m 4)) := rfl
  obtain ⟨ast, amark, arate, acount, aread, afirst⟩ := (r.heard m now e).adopt_spec now (trueAcc m d)
  cases hst : r.state with
  | cold =>
    obtain ⟨cst, cmark, crate, ccount, cread, cfirst⟩ :=
      ({ r.heard m now e with lastErr := 0 } : Replica).adopt_spec now (trueAcc m d)
    exact ⟨cst, cmark, crate.trans hrate, fun _ => ⟨ccount, cread, cfirst⟩, by simp, by simp, by simp⟩
  | flywheel =>
    by_cases hbig : load = true ∨ twoNs < e.natAbs
    · simp only [if_pos hbig]
      refine ⟨ast, amark, arate, fun _ => ⟨acount, aread, afirst⟩, fun _ hl _ hsmall => ?_, nofun,
        fun _ => .inl ⟨trivial, hbig⟩, fun _ => trivial⟩
      exact absurd hbig (not_or.mpr ⟨by simp [hl], not_lt.mpr hsmall⟩)
    obtain ⟨hl, hsmall⟩ := not_or.mp hbig
    by_cases hf : r.firstOfSource = some (msgSrc m)
    · simp only [if_neg hbig, if_pos hf]
      refine ⟨ast, amark, arate, fun _ => ⟨acount, aread, afirst⟩, fun _ _ h => absurd hf h, nofun, nofun, ?_⟩
      rintro (⟨-, h⟩ | ⟨h, -⟩)
      exacts [absurd h hbig, (nomatch h)]
    · simp only [if_neg hbig, if_neg hf]
      refine ⟨rfl, rfl, (r.heard m now e).slewed_rate now e, ?_, fun _ _ _ _ => ⟨rfl, trivial, if_neg hf⟩, nofun,
        nofun, ?_⟩
      · rintro (h | h | ⟨h, -⟩ | ⟨-, h⟩ | ⟨h, -⟩)
        exacts [(nomatch h), absurd h hl, absurd h hf, absurd h hsmall, (nomatch h)]
      · rintro (⟨-, h⟩ | ⟨h, -⟩)
        exacts [absurd h hbig, (nomatch h)]
  | tracking =>
    by_cases hl : load = true
    · simp only [if_pos hl]
      refine ⟨ast, amark, arate, fun _ => ⟨acount, aread, afirst⟩, fun _ h => ?_, fun _ h => ?_, nofun, ?_⟩
      · simp [hl] at h
      · simp [hl] at h
      · simp [hl]
    by_cases hbig : twoNs < e.natAbs
    · by_cases hfour : r.largeErrors = 3
      · simp only [if_neg hl, if_pos hbig, if_pos hfour]
        exact ⟨ast, amark, arate, fun _ => ⟨acount, aread, afirst⟩, fun _ _ _ h => absurd hbig (not_lt.mpr h),
          fun _ _ _ h => absurd hfour h, fun _ => .inr ⟨trivial, by simpa using hl, hbig, hfour⟩, fun _ => trivial⟩
      · simp only [if_neg hl, if_pos hbig, if_neg hfour]
        refine ⟨hst, rfl, hrate, ?_, fun _ _ _ h => absurd hbig (not_lt.mpr h), fun _ _ _ _ => ⟨trivial, trivial⟩,
          nofun, ?_⟩
        · rintro (h | h | ⟨-, h⟩ | ⟨h, -⟩ | ⟨-, -, h⟩)
          exacts [(nomatch h), absurd h hl, absurd hbig (not_lt.mpr h), (nomatch h), absurd h hfour]
        · rintro (⟨h, -⟩ | ⟨-, -, -, h⟩)
          exacts [(nomatch h), absurd h hfour]
    by_cases hf : r.firstOfSource = some (msgSrc m)
    · simp only [if_neg hl, if_neg hbig, if_pos hf]
      refine ⟨ast, amark, arate, fun _ => ⟨acount, aread, afirst⟩, fun _ _ h => absurd hf h,
        fun _ _ h => absurd h hbig, nofun, ?_⟩
      rintro (⟨h, -⟩ | ⟨-, -, h, -⟩)
      exacts [(nomatch h), absurd h hbig]
    · simp only [if_neg hl, if_neg hbig, if_neg hf]
      refine ⟨rfl, rfl, (r.heard m now e).slewed_rate now e, ?_, fun _ _ _ _ => ⟨rfl, trivial, if_neg hf⟩,
        fun _ _ h => absurd h hbig, nofun, ?_⟩
      · rintro (h | h | ⟨h, -⟩ | ⟨h, -⟩ | ⟨-, h, -⟩)
        exacts [(nomatch h), absurd h hl, absurd h hf, (nomatch h), absurd h hbig]
      · rintro (⟨h, -⟩ | ⟨-, -, h, -⟩)
        exacts [(nomatch h), absurd h hbig]

/-! ## What reset leaves -/

/-- After reset every unit is the one that a table without entries answers. -/
theorem State.reset_units (uid : Nat) : State.reset.replica uid = Replica.fresh.fall 0 := rfl

/-- Settles O56. -/
theorem resetLeaves : Obligations.ResetLeaves := by
  unfold Obligations.ResetLeaves State.Inv
  refine ⟨by decide, rfl, rfl, rfl, rfl, rfl, rfl, rfl, rfl, rfl, rfl, rfl, rfl, rfl, fun _ => rfl, fun _ => rfl,
    fun uid => ?_, fun ctx => ?_⟩
  · rw [State.reset_units]
    rfl
  · exact Nat.zero_div 256

/-! ## The counts that verdicts come from -/

/-- Settles O24. -/
theorem missAndStallCounts : Obligations.MissAndStallCounts := by
  refine ⟨fun s c f h hne => ?_, fun s c f h heq => ?_, fun p e live => ?_, fun s die e => ?_⟩
  · exact ⟨_, rfl, by simp [hne]⟩
  · refine ⟨_, rfl, ?_⟩
    simp only [heq, ne_eq, not_true_eq_false, if_false, Bool.and_eq_true, decide_eq_true_eq, and_assoc]
    split <;> rfl
  · unfold EngineScan.next
    by_cases hrun : e.progress ≠ p.progress ∨ e.resident = 0 ∨ p.resident = 0
    · simp only [if_pos hrun]
      exact ⟨trivial, fun _ => trivial, fun h => absurd hrun h⟩
    · simp only [if_neg hrun]
      exact ⟨trivial, fun h => absurd h hrun, fun _ => trivial⟩
  · simp [State.scanEngine]
    exact fun h => by simp [h]

end Sys2Proof.Machine
end

section
/-!
PROOFS. The second computation of a mismatch (R482–R484, O35).
-/
namespace Sys2Proof.Machine

/-! ## Events of the test bar -/

/-- Setting a bit that is 1 changes nothing. -/
theorem setBit_true_of_getLsbD {w : Nat} (v : BitVec w) (i : Nat) (h : v.getLsbD i = true) :
    setBit v i true = v := by
  unfold setBit
  simp only [if_true]
  apply BitVec.eq_of_getLsbD_eq
  intro j hj
  rw [BitVec.getLsbD_or, BitVec.getLsbD_ofNat]
  by_cases hji : i = j
  · subst hji
    simp [h]
  · simp [Nat.testBit_two_pow_of_ne hji]

theorem State.note_bar (s : State) (code : Nat) (detail : List Byte) (urgent notify : Bool) :
    (s.note code detail urgent notify).bar = s.bar :=
  same_of_frame .bar (note_frame s code detail urgent notify) rfl

theorem State.persist_bar (s : State) : s.persist.bar = s.bar :=
  same_of_frame .bar (persist_frame s) rfl

theorem State.coreFailed_bar (s : State) (uid : Nat) : (s.coreFailed uid).bar = s.bar :=
  same_of_frame .bar (coreFailed_frame s uid) rfl

/-- An event recorded stands last, and of the rest of the test bar only EVENT_LAST changes (R487). -/
theorem State.storeEvent_bar (s : State) (e : BarEvent) :
    ∃ l, (s.storeEvent e).bar =
      { s.bar with events := l ++ [{ e with seq := s.eventSeqs.next }], eventLast := s.eventSeqs.next } := by
  unfold storeEvent
  extract_lets e' c raised s1 s2 b s3
  have h2 : s2.bar = s.bar := by
    dsimp only [s2]
    split
    · exact s1.persist_bar
    · rfl
  have h3 : ∃ l, s3.bar = { s.bar with events := l } := by
    dsimp only [s3]
    split
    · next old rest _ =>
      split
      · exact ⟨rest, (note_bar _ _ _ _ _).trans (congrArg (fun x : Bar => { x with events := rest }) h2)⟩
      · exact ⟨s.bar.events, h2⟩
    · exact ⟨s.bar.events, h2⟩
  obtain ⟨l, hl⟩ := h3
  exact ⟨l, (note_bar _ _ _ _ _).trans
    (congrArg (fun x : Bar => { x with events := x.events ++ [e'], eventLast := e'.seq }) hl)⟩

/-- With EVENT_SEQ at hand and none waiting, an event is recorded at once. -/
theorem State.addEvent_bar (s : State) (e : BarEvent) (hr : s.eventSeqs.ready = true)
    (hw : s.bar.eventsWaiting = []) :
    ∃ l, (s.addEvent e).bar =
      { s.bar with events := l ++ [{ e with seq := s.eventSeqs.next }], eventLast := s.eventSeqs.next } := by
  unfold addEvent
  rw [if_pos (by simp [hr, hw])]
  exact s.storeEvent_bar e

theorem State.setBar_barState (s : State) (b v : Nat) : (s.setBar b v).barState b = v := by
  unfold setBar barState
  split <;> simp_all

/-- The quarantine of an engine in no storm: its bit is 1, and what waits at the test bar stays as it is. -/
theorem State.quarantineEngine_spec (s : State) (uid e : Nat) (hst : s.bar.storm = false)
    (hrec : (s.bar.quarantinedAt.filter fun t => decide (s.frame.number < t + 1024)).length < 8) :
    (s.quarantineEngine uid e).1.bar.quarantine = setBit s.bar.quarantine (engineNumber uid e) true ∧
    (s.quarantineEngine uid e).1.bar.eventsWaiting = s.bar.eventsWaiting := by
  unfold quarantineEngine
  extract_lets f recent b s1 b1 s2
  split
  · next hq => exact ⟨(setBit_true_of_getLsbD _ _ hq).symm, rfl⟩
  rw [if_neg (show ¬ s1.bar.storm = true by simp [s1, b, hst]), if_neg (not_le.mpr hrec)]
  have h2 : s2.bar = { s1.bar with quarantine := setBit s.bar.quarantine (engineNumber uid e) true } := by
    dsimp only [s2]
    rw [coreFailed_bar, setQuarantine, persist_bar]
  have hw := congrArg Bar.eventsWaiting h2
  exact ⟨congrArg Bar.quarantine h2, hw⟩

/-- The state in which the event of a decision is recorded: what quarantine and culprit became, EVENT_SEQ as it was. -/
theorem State.quarantineEngine_eventSeqs (s : State) (uid e : Nat) :
    (s.quarantineEngine uid e).1.eventSeqs = s.eventSeqs :=
  same_of_frame .eventSeqs (quarantineEngine_frame s uid e) rfl

/-- The same result twice (R484): the engine is quarantined, and the event is an SDC or that of a probe. -/
theorem State.decideMismatch_same (s : State) (r : Recheck) (hready : s.eventSeqs.ready = true)
    (hnone : s.bar.eventsWaiting = []) (hst : s.bar.storm = false)
    (hrec : (s.bar.quarantinedAt.filter fun t => decide (s.frame.number < t + 1024)).length < 8) :
    (s.decideMismatch r r.first).bar.quarantine =
      setBit s.bar.quarantine (engineNumber r.order.uid r.order.engine) true ∧
    ((s.decideMismatch r r.first).bar.events.getLast?.map BarEvent.kind) =
      some (if r.order.inject then 2 else 1) := by
  have hculprit : Changes [.hang] s (if r.order.inject then s.culpritEngine r.order.uid r.order.engine else s) := by
    split
    · exact culpritEngine_frame s _ _ (.refl _ s) (List.Subset.refl _)
    · exact .refl _ s
  unfold decideMismatch
  rw [if_pos rfl]
  dsimp only
  revert hculprit
  generalize (if r.order.inject then s.culpritEngine r.order.uid r.order.engine else s) = x
  intro hculprit
  have hbar : x.bar = s.bar := hculprit .bar (by decide)
  have hseq : x.eventSeqs = s.eventSeqs := hculprit .eventSeqs (by decide)
  have hframe : x.frame = s.frame := hculprit .frame (by decide)
  obtain ⟨hq, hw⟩ := x.quarantineEngine_spec r.order.uid r.order.engine (by rw [hbar, hst])
    (by rw [hbar, hframe]; exact hrec)
  have hy := x.quarantineEngine_eventSeqs r.order.uid r.order.engine
  generalize hyy : x.quarantineEngine r.order.uid r.order.engine = y at *
  obtain ⟨y, q⟩ := y
  obtain ⟨l, hl⟩ := y.addEvent_bar (y.barEvent (if r.order.inject then 2 else 1) q r r.first)
    (by rw [hy, hseq, hready]) (by rw [hw, hbar, hnone])
  refine ⟨?_, ?_⟩
  · show (y.addEvent _).bar.quarantine = _
    rw [hl]
    exact hq.trans (by rw [hbar])
  · show (y.addEvent _).bar.events.getLast?.map _ = _
    rw [hl]
    simp only [List.getLast?_append, List.getLast?_singleton]
    rfl

theorem State.setBar_quarantine (s : State) (b v : Nat) : (s.setBar b v).bar.quarantine = s.bar.quarantine := by
  unfold setBar
  split <;> rfl

theorem State.setBar_events (s : State) (b v : Nat) : (s.setBar b v).bar.events = s.bar.events := by
  unfold setBar
  split <;> rfl

theorem State.addEvent_spec (s : State) (e : BarEvent) (hr : s.eventSeqs.ready = true)
    (hw : s.bar.eventsWaiting = []) :
    (s.addEvent e).bar.quarantine = s.bar.quarantine ∧
    (s.addEvent e).bar.events.getLast?.map BarEvent.kind = some e.kind ∧
    ∀ b, (s.addEvent e).barState b = s.barState b := by
  obtain ⟨l, hl⟩ := s.addEvent_bar e hr hw
  unfold barState
  rw [hl]
  simp

/-- A bar that is OK checks itself (R483). -/
def State.checkBar (s : State) (b : Nat) : State := if s.barState b = 0 then s.setBar b 1 else s

/-- Both bars check themselves, as an inconclusive second computation asks (R483). -/
def State.checkBoth (s : State) : State := (s.checkBar 0).checkBar 1

theorem State.checkBoth_spec (s : State) :
    s.checkBoth.bar.quarantine = s.bar.quarantine ∧ s.checkBoth.bar.events = s.bar.events ∧
    s.checkBoth.barState 0 = (if s.barState 0 = 0 then 1 else s.barState 0) ∧
    s.checkBoth.barState 1 = (if s.barState 1 = 0 then 1 else s.barState 1) := by
  by_cases h0 : s.bar.stateA = 0 <;> by_cases h1 : s.bar.stateR = 0 <;>
    simp [checkBoth, checkBar, barState, setBar, h0, h1]

/-- Settles O35: the clauses are the three branches of `State.decideMismatch`. -/
theorem secondComputation : Obligations.SecondComputation := by
  refine ⟨fun dt bar upset s r hr hok => ?_, fun s r second hready hnone =>
    ⟨fun hsame hst hrec => ?_, fun hne hout => ?_, fun hne hout => ?_⟩⟩
  · refine ⟨{ s.begin dt with bar := { s.bar with rechecks := s.bar.rechecks.erase r } }, ?_, rfl, ?_⟩
    · show done _ = .next _
      rw [show (s.begin dt).bar.rechecks = s.bar.rechecks from rfl, hr]
      show Host.Outcome.next (if s.barState bar = 0 then _ else _) = _
      rw [if_pos hok]
      rfl
    · refine fun p hp => ?_
      cases p <;> first | rfl | exact absurd (by decide) hp
  · subst hsame
    exact s.decideMismatch_same r hready hnone hst hrec
  · unfold State.decideMismatch
    rw [if_neg hne, if_pos hout]
    obtain ⟨hq, he, -⟩ := s.addEvent_spec (s.barEvent 3 false r second) hready hnone
    refine ⟨(State.setBar_quarantine _ _ _).trans hq, State.setBar_barState _ _ _, ?_⟩
    rw [State.setBar_events]
    exact he
  · unfold State.decideMismatch
    rw [if_neg hne, if_neg hout]
    obtain ⟨hq, he, hb⟩ := s.addEvent_spec (s.barEvent 4 false r second) hready hnone
    generalize s.addEvent (s.barEvent 4 false r second) = y at hq he hb
    obtain ⟨cq, ce, c0, c1⟩ := y.checkBoth_spec
    refine ⟨cq.trans hq, fun h => c0.trans (if_pos (by rw [hb, h])), fun h => c1.trans (if_pos (by rw [hb, h])), ?_⟩
    show y.checkBoth.bar.events.getLast?.map BarEvent.kind = some 4
    rw [ce]
    exact he

end Sys2Proof.Machine
end

section
/-!
PROOFS. What the commands leave unchanged (O52, O53). Both statements speak of the octets outside the line that a sink
writes, and both fail in a state whose table of sinks lists a die twice: a change that brings the first entry to the
default unlists it (`Tab.set`), and the second entry, whose write offset the statement does not name, comes into force.
-/
namespace Sys2Proof.Machine

/-- A sink whose write offset is not that of a sink after its reset. -/
def shadowedSink : Sink := { Sink.fresh with writeOffset := 8192 }

/-- A line with OVF, LOST 0 and octets 1 behind. -/
def ovfLine : List Byte := [0, 0, 0, 0, 0, 0, 4, 0, 0, 0, 0, 0, 0] ++ List.replicate 51 1

/-- The runner of die 0 is out of reset, and the table lists two sinks of die 0, the first at its default. -/
def sinkListedTwice : State :=
  { State.reset with
    units := { Units.fresh with runners := [(0, { Runner.fresh with inReset := false })] }
    trace := { Trace.fresh with sinks := [(0, Sink.fresh), (0, shadowedSink)] } }

/-- Where the second sink of die 0 has the octet 20 of its next line. -/
def shadowedAddr : Nat := stackAddr 0 (Trace.fresh.base + 8192 + 20)

theorem sinkListedTwice_writes :
    Mem.read (outState (exec (.traceLineReceive 0 0 ovfLine) sinkListedTwice)).dram shadowedAddr = 1 := by
  decide +kernel

/-- Refutes O52: a line with OVF reaches die 0, whose sink is listed twice. Its LOST of 0 leaves the first entry at the
default, which is unlisted, and the line goes to the write offset of the second entry. -/
theorem not_framesOfTheHost : ¬ Obligations.FramesOfTheHost := by
  intro h
  obtain ⟨-, -, hm⟩ := h (.traceLineReceive 0 0 ovfLine) sinkListedTwice
    (outState (exec (.traceLineReceive 0 0 ovfLine) sinkListedTwice)) rfl
  have hkept := hm shadowedAddr (by decide +kernel) (by decide +kernel)
  have hwritten := sinkListedTwice_writes
  rw [hkept] at hwritten
  exact absurd hwritten (by decide)

/-- A takeover stands at W, a TIME_STEP by 0 fell due since S, the trace of die 0 is to thaw, and the table lists two
sinks of die 0: the first is frozen and holds a line, the second stands at another write offset. -/
def heldSinkListedTwice : State :=
  { State.reset with
    units := { Units.fresh with runners := [(0, { Runner.fresh with inReset := false, thawArm := some (0, 0) })] }
    hub := { Hub.fresh with takeover := some ⟨.roleSwap, 1, 0, 0, false, 0, [], [], none, 0, 0, 0⟩ }
    tb := { TimeBase.fresh with standby := { TimeBase.fresh.standby with acc := 10 * 2 ^ 48 } }
    sched := [(0, { SchedEntry.free with action := 6, time := 5, status := 1 })]
    trace := { Trace.fresh with
      sinks := [(0, { Sink.fresh with frozen := true, heldLines := [List.replicate 64 1] }), (0, shadowedSink)] } }

theorem heldSinkListedTwice_writes :
    Mem.read (outState (exec (.takeoverSwitch 0) heldSinkListedTwice)).dram shadowedAddr = 1 := by
  decide +kernel

theorem heldSinkListedTwice_heldFits : heldSinkListedTwice.heldFits := by
  unfold State.heldFits
  decide +kernel

theorem heldSinkListedTwice_offHeaders : heldSinkListedTwice.offHeaders shadowedAddr := by
  unfold State.offHeaders
  decide +kernel

theorem heldSinkListedTwice_offHeld : heldSinkListedTwice.offHeld shadowedAddr := by
  unfold State.offHeld
  decide +kernel

/-- Refutes O53: at W the step that fell due lets the sink of die 0 thaw. The first of its two entries, thawed, stands
at the default and is unlisted, and the line that it held goes to the write offset of the second. -/
theorem not_framesOfTheHub : ¬ Obligations.FramesOfTheHub := by
  intro h
  obtain ⟨-, hm⟩ := h (.takeoverSwitch 0) heldSinkListedTwice
    (outState (exec (.takeoverSwitch 0) heldSinkListedTwice)) rfl
  have hkept := hm heldSinkListedTwice_heldFits shadowedAddr heldSinkListedTwice_offHeaders
    heldSinkListedTwice_offHeld
  have hwritten := heldSinkListedTwice_writes
  rw [hkept] at hwritten
  exact absurd hwritten (by decide)

end Sys2Proof.Machine
end

section
/-!
PROOFS. Messages of the time wires at their source and their replicas (O1).
-/
namespace Sys2Proof.Machine

/-! ## Steps of a replica -/

/-- One registered step at a replica that may have reached it. -/
def Replica.fallStep (now : Nat) (r : Replica) (x : Nat × Int) : Replica :=
  if r.clock.counting && decide (x.1 ≤ r.clock.ns now) then
    { r with clock := r.clock.addFrac now (x.2 * 2 ^ 48), steps := r.steps.filter fun y => y.1 ≠ x.1
             applied := (x :: r.applied).take 32 }
  else r

theorem Replica.fall_eq (r : Replica) (now : Nat) : r.fall now = r.steps.foldl (Replica.fallStep now) r := rfl

theorem Replica.fall_of_none_due (r : Replica) (now : Nat) (h : ∀ x ∈ r.steps, r.clock.ns now < x.1) :
    r.fall now = r := by
  have hfold (l : List (Nat × Int)) (hl : ∀ x ∈ l, r.clock.ns now < x.1) : l.foldl (Replica.fallStep now) r = r := by
    induction l with
    | nil => rfl
    | cons x l ih =>
      rw [List.foldl_cons, Replica.fallStep, if_neg]
      · exact ih fun y hy => hl y (List.mem_cons_of_mem x hy)
      · simp [hl x List.mem_cons_self]
  exact hfold r.steps h

/-- What the steps that fall due leave of a replica. -/
structure Replica.SameBut (r t : Replica) : Prop where
  state : t.state = r.state
  steps : t.steps ⊆ r.steps

theorem Replica.SameBut.fallStep {r t : Replica} (h : r.SameBut t) (now : Nat) (x : Nat × Int) :
    r.SameBut (t.fallStep now x) := by
  unfold Replica.fallStep
  split
  · exact ⟨h.state, fun y hy => h.steps (List.mem_of_mem_filter hy)⟩
  · exact h

theorem Replica.fall_sameBut (r : Replica) (now : Nat) : r.SameBut (r.fall now) := by
  have hfold (l : List (Nat × Int)) (t : Replica) (ht : r.SameBut t) :
      r.SameBut (l.foldl (Replica.fallStep now) t) := by
    induction l generalizing t with
    | nil => exact ht
    | cons x l ih => exact ih _ (ht.fallStep now x)
  exact hfold r.steps r ⟨rfl, fun _ h => h⟩

/-! ## The replica of a unit after it has been replaced -/

theorem Tab.at_set_of_ne {α : Type} [DecidableEq α] (t : Tab α) (k : Nat) (d v : α) (h : v ≠ d) :
    Tab.at (Tab.set t k d v) k d = v := by
  unfold Tab.set Tab.at
  rw [if_neg h, Tab.find_put_self]
  rfl

/-- A replica that is not COLD and owes no step reads as it was written. -/
theorem State.getRep_putRep (s : State) (uid : Nat) (r : Replica) (hr : r.state ≠ .cold)
    (hsteps : ∀ x ∈ r.steps, r.clock.ns s.elapsed < x.1) :
    ((s.putRep uid r).getRep uid).state = r.state ∧ ((s.putRep uid r).getRep uid).clock = r.clock := by
  unfold putRep
  split
  · next hu =>
    set x := (Tab.at s.units.replicas uid Replica.fresh).fall s.elapsed with hx
    set v : Replica := { r with clock := x.clock } with hv
    have hvne : v ≠ Replica.fresh := fun h => hr (congrArg Replica.state h)
    have hrep : State.replica (State.modReplica { s with tb := { s.tb with standby := r.clock } } uid
        fun x => { r with clock := x.clock }) uid = v.fall s.elapsed :=
      congrArg (Replica.fall · s.elapsed) (Tab.at_set_of_ne _ uid _ v hvne)
    have hsame := v.fall_sameBut s.elapsed
    have hfall : ({ v.fall s.elapsed with clock := r.clock } : Replica).fall s.elapsed =
        { v.fall s.elapsed with clock := r.clock } :=
      Replica.fall_of_none_due _ _ fun y hy => hsteps y (hsame.steps hy)
    have hclock := congrArg Replica.clock hfall
    unfold getRep
    rw [hrep, if_pos (by exact hu)]
    exact ⟨(congrArg Replica.state hfall).trans hsame.state, hclock⟩
  · next hu =>
    have hne : r ≠ Replica.fresh := fun h => hr (congrArg Replica.state h)
    have hrep : State.replica (s.modReplica uid fun _ => r) uid = r.fall s.elapsed :=
      congrArg (Replica.fall · s.elapsed) (Tab.at_set_of_ne _ uid _ r hne)
    unfold getRep
    rw [hrep, r.fall_of_none_due s.elapsed hsteps, if_neg (by exact hu)]
    exact ⟨rfl, rfl⟩

/-- What a unit's replica reads is a matter of the time, the tables and the role. -/
theorem State.getRep_congr {s t : State} (uid : Nat) (he : t.elapsed = s.elapsed) (hu : t.units = s.units)
    (hh : t.standbyCore = s.standbyCore) (hs : t.tb.standby = s.tb.standby) : t.getRep uid = s.getRep uid := by
  unfold getRep State.replica
  rw [he, hu, hh, hs]

/-! ## A message that a unit hears -/

/-- A message of its type, heard, is handed on as it arrives. -/
theorem State.onMsg_of_hears {s : State} {uid type : Nat} {m : List Nat} (h : Hears s uid type m) (dt : Nat)
    (f : List Nat → State → State) : (s.begin dt).onMsg uid type m f = f (msgArrived m uid) (s.begin dt) := by
  obtain ⟨hup, hcrc, htype⟩ := h
  have hup' : ¬ (uidIsRunner uid && ((s.begin dt).runner (uidDie uid)).inReset) = true := ne_true_of_eq_false hup
  unfold onMsg
  rw [if_neg hup', if_neg (by simp [hcrc]), if_pos htype]

/-- Every step that a replica still owes after it has adopted a count lies beyond that count. -/
theorem Replica.adopt_steps (r : Replica) (now acc : Nat) :
    ∀ x ∈ (r.adopt now acc).steps, (r.adopt now acc).clock.ns now < x.1 := by
  intro x hx
  have hns : (r.adopt now acc).clock.ns now = acc / Config.fracScale :=
    congrArg (· / Config.fracScale) (r.clock.read_load now acc)
  have hheld := (List.mem_filter.mp hx).2
  rw [hns]
  simpa using hheld

theorem State.noteStray_standbyCore (s : State) : s.noteStray.standbyCore = s.standbyCore := by
  unfold noteStray
  split
  · rfl
  · show bit (!(s.hub.modCore _ _).riserActive) = bit (!s.hub.riserActive)
    unfold Hub.modCore
    split <;> rfl

theorem State.noteStray_tb (s : State) : s.noteStray.tb = s.tb := same_of_frame .tb (noteStray_frame s) rfl

theorem State.getRep_standbyMoved (s : State) (d : Int) (uid : Nat) :
    (s.standbyMoved d).getRep uid = s.getRep uid ∧ (s.standbyMoved d).elapsed = s.elapsed := by
  have he : (s.standbyMoved d).elapsed = s.elapsed := same_of_frame .elapsed (standbyMoved_frame s d) rfl
  have htb : (s.standbyMoved d).tb = { s.tb with tickInStandby := s.tb.tickInStandby.shifted d } := noteStray_tb _
  have hs := congrArg TimeBase.standby htb
  exact ⟨getRep_congr uid he (same_of_frame .units (standbyMoved_frame s d) rfl) (noteStray_standbyCore _) hs, he⟩

theorem State.logged_standbyCore (s : State) (code : Nat) (b : List Byte) :
    (s.logged code b).standbyCore = s.standbyCore :=
  congrArg (fun h : Hub => bit (!h.riserActive)) (same_of_frame .hub (logged_frame s code b) rfl)

theorem State.getRep_logged (s : State) (code : Nat) (b : List Byte) (uid : Nat) :
    (s.logged code b).getRep uid = s.getRep uid ∧ (s.logged code b).elapsed = s.elapsed := by
  have he : (s.logged code b).elapsed = s.elapsed := same_of_frame .elapsed (logged_frame s code b) rfl
  exact ⟨getRep_congr uid he (same_of_frame .units (logged_frame s code b) rfl) (logged_standbyCore s code b)
    (congrArg TimeBase.standby (same_of_frame .tb (logged_frame s code b) rfl)), he⟩

theorem State.putRep_elapsed (s : State) (uid : Nat) (r : Replica) : (s.putRep uid r).elapsed = s.elapsed :=
  same_of_frame .elapsed (putRep_frame s uid r) rfl

/-- A message that COLD replicas, or all, adopt: from COLD, or a LOAD. -/
theorem Replica.track_adopts (r : Replica) (m : List Nat) (d now : Nat) (load : Bool)
    (hl : r.state = .cold ∨ load = true) :
    ∃ r' : Replica, (r.track m d now load).1 = r'.adopt now (trueAcc m d) := by
  rw [r.track_eq m d now load _ rfl]
  rcases hl with h | h
  · rw [h]
    exact ⟨_, rfl⟩
  · subst h
    cases r.state <;> exact ⟨_, rfl⟩

/-- An accepted message from COLD, or a LOAD: the replica adopts the count of R107. -/
theorem State.trackMsg_adopts (s : State) (uid : Nat) (m : List Nat) (load : Bool) (d : Nat)
    (hd : (s.getRep uid).delayFor (msgSrc m) = some d) (ha : msgAct m = true) (hc : msgCorr m < 0xFFFF)
    (hl : (s.getRep uid).state = .cold ∨ load = true)
    (hh : uid = coreUid s.standbyCore → s.standbyHolds = false) :
    ((s.trackMsg uid m load).getRep uid).state = .tracking ∧
    ((s.trackMsg uid m load).getRep uid).clock.counting = true ∧
    ((s.trackMsg uid m load).getRep uid).clock.read (s.trackMsg uid m load).elapsed = trueAcc m d := by
  obtain ⟨r', hr'⟩ := (s.getRep uid).track_adopts m d s.elapsed load hl
  obtain ⟨ast, -, -, acount, aread, -⟩ := r'.adopt_spec s.elapsed (trueAcc m d)
  obtain ⟨hst, hclock⟩ := s.getRep_putRep uid (r'.adopt s.elapsed (trueAcc m d)) (by rw [ast]; simp)
    (r'.adopt_steps s.elapsed (trueAcc m d))
  have hcond : (msgAct m && decide (msgCorr m < 0xFFFF) &&
      !(decide (uid = coreUid s.standbyCore) && s.standbyHolds)) = true := by
    by_cases hu : uid = coreUid s.standbyCore
    · simp [ha, hc, hh hu]
    · simp [ha, hc, hu]
  unfold trackMsg
  simp only [hd, if_pos hcond, hr']
  set y := s.putRep uid (r'.adopt s.elapsed (trueAcc m d)) with hy
  have hkept (w : State) (h : w.getRep uid = y.getRep uid ∧ w.elapsed = y.elapsed) :
      (w.getRep uid).state = .tracking ∧ (w.getRep uid).clock.counting = true ∧
      (w.getRep uid).clock.read w.elapsed = trueAcc m d := by
    rw [h.1, h.2, hst, hclock, hy, putRep_elapsed]
    exact ⟨ast, acount, aread⟩
  have hmoved (k : Int) (b : Bool) : (if b then y.standbyMoved k else y).getRep uid = y.getRep uid ∧
      (if b then y.standbyMoved k else y).elapsed = y.elapsed := by
    split
    · exact y.getRep_standbyMoved k uid
    · exact ⟨rfl, rfl⟩
  refine hkept _ ?_
  split
  · obtain ⟨h1, h2⟩ := State.getRep_logged
      (if decide (uid = coreUid s.standbyCore) = true then y.standbyMoved _ else y) Code.replicaReload (be 2 uid) uid
    obtain ⟨k1, k2⟩ := hmoved _ (decide (uid = coreUid s.standbyCore))
    exact ⟨h1.trans k1, h2.trans k2⟩
  · exact hmoved _ _

/-! ## The mark cycle -/

@[simp] theorem State.begin_wire (s : State) (dt core : Nat) : (s.begin dt).wire core = s.wire core := rfl


theorem State.wire_putWire (s : State) (core : Nat) (w : Wire) : (s.putWire core w).wire core = w := by
  unfold putWire wire
  split <;> rfl

/-- What slot B keeps of its source: the first message sent, and the number of the mark cycle. -/
structure State.SlotKept (core : Nat) (s t : State) : Prop where
  head : ∀ e, s.emitted.head? = some e → t.emitted.head? = some e
  cycle : (t.wire core).cycle = (s.wire core).cycle

theorem State.SlotKept.emit (core : Nat) (s : State) (k : EmitKind) (n : Nat) (b : List Byte) :
    State.SlotKept core s (s.emit k n b) :=
  ⟨fun e h => by simp [State.emit, h], rfl⟩

theorem State.SlotKept.emit_putWire (core : Nat) (s : State) (k : EmitKind) (n : Nat) (b : List Byte) (w : Wire)
    (hw : w.cycle = (s.wire core).cycle) : State.SlotKept core s ((s.emit k n b).putWire core w) := by
  refine ⟨fun e h => ?_, by rw [wire_putWire, hw]⟩
  have hput (x : State) : (x.putWire core w).emitted = x.emitted := same_of_frame .emitted (putWire_frame x core w) rfl
  rw [hput]
  simp [State.emit, h]

theorem State.sendCalReq_slotKept (s : State) (core uid : Nat) (again : Bool) :
    State.SlotKept core s (s.sendCalReq core uid again) := SlotKept.emit_putWire core s _ _ _ _ rfl

theorem State.slotB_slotKept (s : State) (core : Nat) : State.SlotKept core s (s.slotB core) := by
  unfold slotB
  dsimp only
  split
  · exact .emit core s _ _ _
  · split
    · exact .emit_putWire core s _ _ _ _ rfl
    · split_ifs
      · split
        · exact s.sendCalReq_slotKept core _ _
        · exact s.sendCalReq_slotKept core _ _
      · exact ⟨fun _ h => h, rfl⟩

/-- Slot A of a mark cycle: MARK or LOAD (R98, R99). -/
def State.slotA (s : State) (core : Nat) : State :=
  s.emit .timeWire core (wordsLe (stampMsg
    (wireWord0 (if 0 < (s.wire core).loadsLeft then 2 else 1) core (bit (core = s.activeCore)) (s.wire core).cycle 0)
    ((s.tbu core).ns16 s.elapsed) (ofSigned 32 (s.tbu core).rate)))

/-- The end of a mark cycle. -/
def State.cycleDone (s : State) (core : Nat) : State :=
  s.putWire core { s.wire core with cycle := (s.wire core).cycle + 1, loadsLeft := (s.wire core).loadsLeft - 1 }

theorem State.exec_markCycle (dt core : Nat) (s : State) (hcore : core < 2) (hsrc : (s.wire core).sourcing = true)
    (hdue : (s.wire core).start + (s.wire core).cycle * 16 * Config.stepsPerWave ≤ s.elapsed + dt) :
    exec (.markCycle dt core) s = .next ((((s.begin dt).slotA core).slotB core).cycleDone core) := by
  have hcond : (decide (core < 2) && ((s.begin dt).wire core).sourcing &&
      decide (((s.begin dt).wire core).start + ((s.begin dt).wire core).cycle * 16 * Config.stepsPerWave ≤
        (s.begin dt).elapsed)) = true := by
    rw [begin_wire, hsrc]
    simp only [hcore, decide_true, Bool.true_and, decide_eq_true_eq]
    exact hdue
  show Host.Outcome.next (State.onlyIf _ _ _) = _
  rw [State.onlyIf, if_pos hcond]
  simp only [slotA, cycleDone, decide_eq_true_eq]

theorem State.cycleDone_slotB (s : State) (core : Nat) :
    (((s.slotB core).cycleDone core).wire core).cycle = (s.wire core).cycle + 1 ∧
    ∀ e, s.emitted.head? = some e → ((s.slotB core).cycleDone core).emitted.head? = some e := by
  obtain ⟨hhead, hcycle⟩ := s.slotB_slotKept core
  refine ⟨?_, fun e he => ?_⟩
  · rw [cycleDone, wire_putWire, hcycle]
  · rw [cycleDone, show ∀ (x : State) (w : Wire), (x.putWire core w).emitted = x.emitted from fun x w =>
      same_of_frame .emitted (putWire_frame x core w) rfl]
    exact hhead e he

/-! ## A message as it arrives -/

theorem msgWord_lt (m : List Nat) (k : Nat) : msgWord m k < 2 ^ 32 := Nat.mod_lt _ (by decide)

theorem msgWord_take (m : List Nat) {k : Nat} (hk : k < 6) : msgWord (m.take 6) k = msgWord m k := by
  unfold msgWord
  rw [List.getD_eq_getElem?_getD, List.getD_eq_getElem?_getD, List.getElem?_take, if_pos hk]

theorem msgWord_map (f : Nat → Nat) {k : Nat} (hk : k < 6) :
    msgWord ((List.range 6).map f) k = f k % 2 ^ 32 := by
  unfold msgWord
  rw [List.getD_eq_getElem?_getD, List.getElem?_map, List.getElem?_range hk]
  rfl

/-- A message in which word `i` has gained the residences of its crossings. -/
def crossed (m : List Nat) (uid i : Nat) : List Nat :=
  (List.range 6).map fun k =>
    if k = i then msgWord m i / 65536 * 65536 + addResidence (msgWord m i % 65536)
      ((List.range (msgCrossings m uid)).map fun i => m.getD (6 + i) 0)
    else msgWord m k

theorem msgArrived_eq (m : List Nat) (uid : Nat) :
    msgArrived m uid = if msgType m = 1 ∨ msgType m = 2 ∨ msgType m = 4 then crossed m uid 3
      else if msgType m = 5 then crossed m uid 2 else m.take 6 := rfl

theorem msgWord_crossed_ne (m : List Nat) (uid : Nat) {i k : Nat} (hk : k < 6) (hi : k ≠ i) :
    msgWord (crossed m uid i) k = msgWord m k := by
  rw [crossed, msgWord_map _ hk, if_neg hi, Nat.mod_eq_of_lt (msgWord_lt m k)]

/-- No crossing touches the words that hold the type, the source, SEQ, TARGET and the first count. -/
theorem msgWord_msgArrived (m : List Nat) (uid : Nat) {k : Nat} (hk : k < 2) :
    msgWord (msgArrived m uid) k = msgWord m k := by
  rw [msgArrived_eq]
  split_ifs
  · exact msgWord_crossed_ne m uid (by omega) (by omega)
  · exact msgWord_crossed_ne m uid (by omega) (by omega)
  · exact msgWord_take m (by omega)

theorem msgSrc_msgArrived (m : List Nat) (uid : Nat) : msgSrc (msgArrived m uid) = msgSrc m := by
  rw [msgSrc, msgWord_msgArrived m uid (by decide), msgSrc]

theorem msgAct_msgArrived (m : List Nat) (uid : Nat) : msgAct (msgArrived m uid) = msgAct m := by
  rw [msgAct, msgWord_msgArrived m uid (by decide), msgAct]

theorem msgSeq_msgArrived (m : List Nat) (uid : Nat) : msgSeq (msgArrived m uid) = msgSeq m := by
  rw [msgSeq, msgWord_msgArrived m uid (by decide), msgSeq]

theorem msgTarget_msgArrived (m : List Nat) (uid : Nat) : msgTarget (msgArrived m uid) = msgTarget m := by
  rw [msgTarget, msgWord_msgArrived m uid (by decide), msgTarget]

/-- The delay of a source as a CAL_SET sets it (R111). -/
def Replica.withDelay (r : Replica) (src d : Nat) : Replica :=
  if src = 0 then { r with d0 := some d } else { r with d1 := some d }

theorem Replica.delayFor_withDelay (r : Replica) (src d : Nat) :
    (r.withDelay src d).delayFor src = some d ∧
    ∀ k, (k = 0 ↔ src ≠ 0) → (r.withDelay src d).delayFor k = r.delayFor k := by
  by_cases hsrc : src = 0
  · refine ⟨by simp [withDelay, delayFor, hsrc], fun k h => ?_⟩
    have h0 : k ≠ 0 := fun h0 => (h.mp h0) hsrc
    simp [withDelay, delayFor, hsrc, h0]
  · refine ⟨by simp [withDelay, delayFor, hsrc], fun k h => ?_⟩
    simp [withDelay, delayFor, hsrc, h.mpr hsrc]

/-- Settles O1. -/
theorem timeWireMessages : Obligations.TimeWireMessages := by
  refine ⟨fun dt core s hcore hsrc hdue => ?_, fun dt uid msg s d hears hd ha hc hcold hh => ?_,
    fun dt uid msg s d hears hd ha hc hh => ?_, fun dt uid msg s hears hsteps happlied => ?_,
    fun dt uid msg s hears htarget => ?_, fun dt uid msg s hears htarget => ?_⟩
  · obtain ⟨hcycle, hhead⟩ := ((s.begin dt).slotA core).cycleDone_slotB core
    exact ⟨_, State.exec_markCycle dt core s hcore hsrc hdue, hcycle, hhead _ rfl⟩
  · exact ⟨_, congrArg Host.Outcome.next (State.onMsg_of_hears hears dt _),
      State.trackMsg_adopts (s.begin dt) uid _ false d (by rw [msgSrc_msgArrived, hd])
        (by rw [msgAct_msgArrived, ha]) hc (.inl hcold) hh⟩
  · exact ⟨_, congrArg Host.Outcome.next (State.onMsg_of_hears hears dt _),
      State.trackMsg_adopts (s.begin dt) uid _ true d (by rw [msgSrc_msgArrived, hd])
        (by rw [msgAct_msgArrived, ha]) hc (.inr rfl) hh⟩
  · refine (congrArg Host.Outcome.next (State.onMsg_of_hears hears dt _)).trans ?_
    have harr : msgArrived msg uid = msg.take 6 := by
      rw [msgArrived_eq, hears.2.2]
      rfl
    simp only [harr, msgWord_take msg (show 1 < 6 by decide), msgWord_take msg (show 2 < 6 by decide),
      msgWord_take msg (show 3 < 6 by decide), msgWord_take msg (show 4 < 6 by decide)]
    rw [if_neg]
    simp only [Bool.or_eq_true, List.any_eq_true, decide_eq_true_eq]
    rintro (⟨x, hx, h⟩ | ⟨x, hx, h⟩)
    exacts [hsteps x hx h, happlied x hx h]
  · refine ⟨_, (congrArg Host.Outcome.next (State.onMsg_of_hears hears dt _)).trans ?_, rfl⟩
    simp only [msgTarget_msgArrived, htarget, if_true, msgSrc_msgArrived, msgSeq_msgArrived]
    cases ((s.begin dt).getRep uid).state <;> rfl
  · refine ⟨((s.begin dt).getRep uid).withDelay (msgSrc msg) (msgWord msg 1),
      (congrArg Host.Outcome.next (State.onMsg_of_hears hears dt _)).trans ?_, ?_⟩
    · simp only [msgTarget_msgArrived, htarget, if_true, msgSrc_msgArrived,
        msgWord_msgArrived msg uid (show 1 < 2 by decide)]
      rfl
    · exact Replica.delayFor_withDelay _ _ _

end Sys2Proof.Machine
end

section
/-!
PROOFS. The calibration of delays (R105, R106, R109–R111, R114, O2), and a replica without marks and the loss of
REFCLK (R93–R95, R117, O3).
-/
namespace Sys2Proof.Machine

/-! ## Residences -/

/-- The sum of the residences stops at 0xFFFF, at each crossing as at the end (R105). -/
theorem addResidence_eq (corr : Nat) (readings : List Nat) (h : corr ≤ 0xFFFF) :
    addResidence corr readings = Nat.min 0xFFFF (corr + (readings.map residence).sum) := by
  have hmin (a b : Nat) : Nat.min a b = min a b := rfl
  induction readings generalizing corr with
  | nil => simpa [addResidence, hmin] using h
  | cons k l ih =>
    have hstep : addResidence corr (k :: l) = addResidence (Nat.min 0xFFFF (corr + residence k)) l := rfl
    rw [hstep, ih _ (Nat.min_le_left _ _)]
    simp only [List.map_cons, List.sum_cons, hmin]
    omega

theorem addResidence_le (corr : Nat) (readings : List Nat) (h : corr ≤ 0xFFFF) :
    addResidence corr readings ≤ 0xFFFF := by
  rw [addResidence_eq corr readings h]
  exact Nat.min_le_left _ _

/-- The word that gains the residences: its low half is their sum, its high half stays. -/
theorem msgWord_crossed (m : List Nat) (uid i : Nat) (hi : i < 6) :
    msgWord (crossed m uid i) i % 65536 = addResidence (msgWord m i % 65536)
      ((List.range (msgCrossings m uid)).map fun i => m.getD (6 + i) 0) ∧
    msgWord (crossed m uid i) i / 65536 = msgWord m i / 65536 := by
  have hlt := msgWord_lt m i
  have hle := addResidence_le (msgWord m i % 65536)
    ((List.range (msgCrossings m uid)).map fun i => m.getD (6 + i) 0) (by omega)
  rw [crossed, msgWord_map _ hi, if_pos rfl]
  revert hle hlt
  generalize addResidence _ _ = a
  generalize msgWord m i = w
  omega

/-- A residence is the nearest count of 2⁻⁸ ns to its steps of 6.25 ps (R105). -/
theorem residence_near (k : Nat) : 2 * (5 * (residence k : Int) - 8 * k).natAbs ≤ 5 := by
  have h : residence k = (2 * (8 * k) + 5) / 10 := by
    unfold residence divRound
    rw [if_pos (by omega)]
    omega
  rw [h]
  omega

/-! ## Echoes -/

/-- A measurement within 50 ps of the delay last set is sent in a CAL_SET (R111). -/
theorem Wire.measured_near (w : Wire) (uid : Nat) (d d0 : Int) (st : ReplicaState) (hst : st ≠ .cold)
    (h0 : (w.target uid).dSet = some d0) (hw : (w.target uid).wanted ≠ 8)
    (hnear : (d - d0).natAbs * 1000 ≤ 50 * 65536) :
    ∃ x : Wire, w.measured uid d st = (x, none) ∧ x.setQueue = w.setQueue ++ [(uid, d)] ∧ x.reqs = w.reqs := by
  unfold Wire.measured
  simp only [hst, h0, hw, hnear, decide_false, Option.isNone_some, Bool.or_self, Bool.false_eq_true, if_false,
    Option.getD_some, if_true]
  exact ⟨_, rfl, rfl, rfl⟩

theorem ReplicaState.ofCode_ne_cold {c : Nat} (h : c ≠ 0) : ReplicaState.ofCode c ≠ .cold := by
  unfold ReplicaState.ofCode
  rw [if_neg h]
  split <;> simp

/-- Settles O2. -/
theorem delayCalibration : Obligations.DelayCalibration := by
  refine ⟨addResidence_eq, fun msg uid ht => ?_, fun msg uid ht => ?_, residence_near,
    fun dt uid s e rest he hdue => ?_, fun dt core msg m s q d0 hears hm hq hfwd hret hst h0 hw d hd hnear => ?_,
    fun dt core s q hq => ⟨fun hrep => ?_, fun hrep hfail => ?_⟩⟩
  · rw [msgArrived_eq, if_pos ht]
    exact ⟨(msgWord_crossed msg uid 3 (by decide)).1, fun k hk h3 => msgWord_crossed_ne msg uid hk h3⟩
  · rw [msgArrived_eq, if_neg (by omega), if_pos ht]
    obtain ⟨hlow, hhigh⟩ := msgWord_crossed msg uid 2 (by decide)
    exact ⟨hlow, hhigh, fun k hk h2 => msgWord_crossed_ne msg uid hk h2⟩
  · show Host.Outcome.next (match ((s.begin dt).getRep uid).echo with | [] => _ | e :: rest => _) = _
    rw [he]
    exact congrArg Host.Outcome.next (if_pos (decide_eq_true hdue))
  · subst hm
    obtain ⟨w, hmeas, hqueue, hreqs⟩ := Wire.measured_near
      { s.wire core with reqs := (s.wire core).reqs.erase q } q.target d d0 _ (ReplicaState.ofCode_ne_cold hst) h0
      hw hnear
    refine ⟨w, (congrArg Host.Outcome.next (State.onMsg_of_hears hears dt _)).trans ?_, hqueue, hreqs⟩
    simp only [State.begin_wire, msgTarget_msgArrived, msgSeq_msgArrived, hq]
    rw [if_neg (not_or.mpr ⟨hfwd, hret⟩)]
    subst hd
    rw [State.begin_elapsed, hmeas]
  · have hq' : (((s.begin dt).wire core).reqs.find? fun q =>
        decide (q.launch + 128 * Config.stepsPerWave ≤ (s.begin dt).elapsed)) = some q := hq
    show execCalEchoTimeout dt core s = _
    simp only [execCalEchoTimeout, hq', hrep, Bool.not_false, if_true]
    rfl
  · have hq' : (((s.begin dt).wire core).reqs.find? fun q =>
        decide (q.launch + 128 * Config.stepsPerWave ≤ (s.begin dt).elapsed)) = some q := hq
    refine ⟨{ s.wire core with
      reqs := (s.wire core).reqs.erase q
      targets := Tab.set (s.wire core).targets q.target CalTarget.fresh { (s.wire core).target q.target with
        failedRounds := ((s.wire core).target q.target).failedRounds + 1, reported := none } }, ?_⟩
    show execCalEchoTimeout dt core s = _
    simp only [execCalEchoTimeout, hq', hrep, Bool.not_true, Bool.false_eq_true, if_false]
    exact congrArg Host.Outcome.next (if_pos (congrArg (· + 1) hfail))

/-! ## A replica without marks, and REFCLK -/

theorem Bool.and_of {a b : Bool} (ha : a = true) (hb : b = true) : (a && b) = true := by
  rw [ha, hb]
  rfl

/-- The TBUs as REFCLK goes: both drift, each its own way (R93, R94). -/
def State.tbusDrift (s : State) : State :=
  { s with freeCount := s.freeCount + 2, tb := { s.tb with
      refclkPresent := false, dcoSince := some s.elapsed
      active := s.tb.active.drifting s.elapsed (Config.freeDrift s.freeCount)
      standby := s.tb.standby.drifting s.elapsed (Config.freeDrift (s.freeCount + 1)) } }

/-- The TBUs as REFCLK is back: both relock (R95). -/
def State.tbusRelock (s : State) : State :=
  { s with tb := { s.tb with
      refclkPresent := true, dcoSince := none, active := { s.tb.active.settle s.elapsed with drift := 0 }
      standby := { s.tb.standby.settle s.elapsed with drift := 0 } } }

/-- Every unit's clock drifts. -/
def State.replicasDrift (s : State) : State :=
  (Tab.keys s.units.replicas).foldl (fun s u => (s.modReplica u fun r =>
    { r with clock := r.clock.drifting s.elapsed (Config.freeDrift s.freeCount) }).drawn) s

/-- Every unit's clock relocks at the instant of `s`. -/
def State.replicasRelock (s : State) : State :=
  (Tab.keys s.units.replicas).foldl (fun t u => t.modReplica u fun r =>
    { r with clock := { r.clock.settle s.elapsed with drift := 0 } }) s

theorem State.replicasDrift_changes (s : State) : Changes [.units, .freeCount] s s.replicasDrift :=
  Changes.foldl _ (fun _ _ h => drawn_frame _ (modReplica_frame _ _ _ h (by decide)) (by decide)) _ s (.refl _ s)

theorem State.replicasRelock_changes (s : State) : Changes [.units] s s.replicasRelock :=
  Changes.foldl _ (fun _ _ h => modReplica_frame _ _ _ h (by decide)) _ s (.refl _ s)

/-- Settles O3. -/
theorem replicaAndRefclkLoss : Obligations.ReplicaAndRefclkLoss := by
  refine ⟨fun dt uid s hst hdue => ?_, fun dt uid s hst hdue => ?_, fun dt s href => ?_, fun dt s href => ?_⟩
  · exact congrArg Host.Outcome.next (if_pos (Bool.and_of (decide_eq_true hst) (decide_eq_true hdue)))
  · exact ⟨_, congrArg Host.Outcome.next (if_pos (Bool.and_of (decide_eq_true hst) (decide_eq_true hdue))), rfl, rfl⟩
  · have hkept := ((s.begin dt).alsoStandby State.settleGrowth).tbusDrift.replicasDrift_changes
    have htb := hkept .tb (by decide)
    have hpod := hkept .pod (by decide)
    refine ⟨((s.begin dt).alsoStandby State.settleGrowth).tbusDrift.replicasDrift,
      congrArg Host.Outcome.next (if_pos href), ?_, ?_, ?_⟩
    · exact congrArg TimeBase.refclkPresent htb
    · exact congrArg TimeBase.dcoSince htb
    · exact (congrArg (fun p : Pod => p.servo.state) hpod).trans rfl
  · have hkept := ((s.begin dt).alsoStandby State.settleGrowth).tbusRelock.replicasRelock_changes
    have htb := hkept .tb (by decide)
    have hpod := hkept .pod (by decide)
    refine ⟨((s.begin dt).alsoStandby State.settleGrowth).tbusRelock.replicasRelock,
      congrArg Host.Outcome.next (if_pos (congrArg not href)), ?_, ?_, ?_, ?_⟩
    · exact congrArg TimeBase.refclkPresent htb
    · exact congrArg TimeBase.dcoSince htb
    · exact congrArg (fun b : TimeBase => b.active.drift) htb
    · exact (congrArg (fun p : Pod => p.servo.state) hpod).trans rfl

end Sys2Proof.Machine
end

section
/-!
PROOFS. Reading the time, TICK_OUT and TICK_IN (R96, R97, R128, R130, R135–R137, R141, O4).
-/
namespace Sys2Proof.Machine

/-! ## TICK_OUT -/

/-- The PNS that a count stands at is within 0.1 ns of it (R129). -/
theorem State.pnsHere_near {s : State} {n : Nat} (h : s.pnsHere = some n) :
    10 * ((s.pns16 : Int) - n * 65536).natAbs ≤ 65536 := by
  simp only [pnsHere, Option.ite_none_right_eq_some, Option.some.injEq] at h
  obtain ⟨hle, rfl⟩ := h
  omega

/-! ## TICK_IN -/

/-- An edge at a qualified input, by its offset (R137, R138). -/
def TickIn.judgeOffset (x : TickIn) (st off : Int) (p now : Nat) (align : Bool) : TickIn × TickVerdict :=
  if x.state = 2 ∧ align = false ∧ 100 * 65536 < (off.natAbs : Int) then
    if x.outliers + 1 = 3 then ({ x with state := 7, goodCount := 0, outliers := 0 }, .phase)
    else ({ x with outliers := x.outliers + 1 }, .outlier)
  else
    let good := match x.lastAccepted with
      | some a => decide (((st - a - (p : Int)).natAbs : Int) ≤ 100 * 65536)
      | none => false
    let n := if good then x.goodCount + 1 else 1
    let y := { x with lastAccepted := some st, acceptedAt := some now, goodCount := Nat.min n 8, outliers := 0 }
    if x.state = 2 then (y, .accepted false (some off))
    else if n = 8 then ({ y with state := 2 }, .accepted true none)
    else (y, .accepted false none)

/-- An edge that does not follow the last too soon is judged by its offset (R141). -/
theorem TickIn.judge_of_slow (x : TickIn) (st : Int) (p now : Nat) (align : Bool)
    (hslow : ∀ a, x.lastAccepted = some a → (p : Int) ≤ 2 * (st - a)) :
    x.judge st p now align = x.judgeOffset st (st - divRound st p * (p : Int)) p now align := by
  cases hl : x.lastAccepted with
  | none =>
    unfold TickIn.judge TickIn.judgeOffset
    rw [hl]
    rfl
  | some a =>
    have hfast : decide (2 * (st - a) < (p : Int)) = false := decide_eq_false (not_lt.mpr (hslow a hl))
    unfold TickIn.judge TickIn.judgeOffset
    rw [hl]
    dsimp only
    rw [hfast]
    rfl

/-- An edge that a qualified input accepts. -/
theorem TickIn.judge_accepted (x : TickIn) (st : Int) (p now : Nat) (align : Bool) (h2 : x.state = 2)
    (hslow : ∀ a, x.lastAccepted = some a → (p : Int) ≤ 2 * (st - a)) (off : Int)
    (hoff : off = st - divRound st p * (p : Int)) (hnear : align = true ∨ off.natAbs ≤ 100 * 65536) :
    ∃ y : TickIn, x.judge st p now align = (y, .accepted false (some off)) ∧ y.lastAccepted = some st ∧
      y.acceptedAt = some now ∧ y.state = 2 := by
  have hin : ¬ (x.state = 2 ∧ align = false ∧ 100 * 65536 < (off.natAbs : Int)) := by
    rintro ⟨-, hal, hfar⟩
    rcases hnear with h | h
    · exact absurd hal (by simp [h])
    · omega
  rw [x.judge_of_slow st p now align hslow, ← hoff, TickIn.judgeOffset, if_neg hin]
  dsimp only
  rw [if_pos h2]
  exact ⟨_, rfl, rfl, rfl, h2⟩

/-- An outlier that a qualified input ignores. -/
theorem TickIn.judge_outlier (x : TickIn) (st : Int) (p now : Nat) (h2 : x.state = 2)
    (hslow : ∀ a, x.lastAccepted = some a → (p : Int) ≤ 2 * (st - a))
    (off : Int) (hoff : off = st - divRound st p * (p : Int)) (hfar : 100 * 65536 < off.natAbs)
    (hout : x.outliers < 2) :
    x.judge st p now false = ({ x with outliers := x.outliers + 1 }, .outlier) := by
  rw [x.judge_of_slow st p now false hslow, ← hoff, TickIn.judgeOffset, if_pos ⟨h2, rfl, by omega⟩, if_neg (by omega)]

/-- What the standby core makes of the input changes its own view of it and its own servo, and nothing else. -/
def State.withStandbyTick (s : State) (x : TickIn) (v : Servo) : State :=
  { s with tb := { s.tb with tickInStandby := x }, pod := { s.pod with shadow := v } }

/-- The standby core qualifies an edge on its own count, from when it counts. -/
def State.standbyQualifies (s : State) : State :=
  if s.standbyNow.counting then
    s.standbyEdge (s.tb.tickInStandby.judge (s.tickStamp s.standbyNow) (s.tickInPeriod * 65536) s.elapsed
      (s.tickSteers && s.pod.shadow.state = 0))
  else s

theorem State.standbyQualifies_eq (s : State) : ∃ x v, s.standbyQualifies = s.withStandbyTick x v := by
  unfold standbyQualifies
  split
  · exact ⟨_, _, rfl⟩
  · exact ⟨s.tb.tickInStandby, s.pod.shadow, rfl⟩

/-- The active core's view of the input. -/
def State.withTickIn (s : State) (x : TickIn) : State := { s with tb := { s.tb with tickIn := x } }

/-- An edge of a counting core: the standby core's part, then what the active core's verdict asks for. -/
theorem exec_tickInEdge (dt : Nat) (edge : TickEdge) (s : State) (hhigh : 20 ≤ edge.highNs)
    (hcount : s.tb.active.counting = true) :
    ∃ b : State, b.tb.tickIn = s.tb.tickIn ∧ b.tb.active = s.tb.active ∧ b.pod.servo = s.pod.servo ∧
      b.tickSteers = s.tickSteers ∧
      ∀ st p y v, st = (s.begin dt).tickStamp s.tb.active → p = s.tickInPeriod * 65536 →
        s.tb.tickIn.judge st p (s.elapsed + dt) s.tickAligns = (y, v) →
        exec (.tickInEdge dt edge) s = .next ((b.withTickIn y).tickEdge s.tb.tickIn.acceptedAt v) := by
  obtain ⟨x, v, hb⟩ := (s.begin dt).standbyQualifies_eq
  refine ⟨(s.begin dt).withStandbyTick x v, rfl, rfl, rfl, rfl, fun st p y verdict hst hp hy => ?_⟩
  subst hst hp
  refine congrArg Host.Outcome.next ((if_pos (decide_eq_true hhigh)).trans ?_)
  show (s.begin dt).standbyQualifies.onlyIf (s.begin dt).standbyQualifies.tb.active.counting _ = _
  rw [hb]
  refine (if_pos hcount).trans ?_
  exact congrArg (fun a : TickIn × TickVerdict =>
    (((s.begin dt).withStandbyTick x v).withTickIn a.1).tickEdge s.tb.tickIn.acceptedAt a.2) hy

/-- An accepted edge of a qualified input that steers the TBU (R143, R178): it aligns a FREE one, and drives any other
servo. -/
theorem State.tickEdge_accepted (s : State) (prev : Option Nat) (off : Int) (h : s.tickSteers = true) :
    (s.pod.servo.state = 0 → s.tickEdge prev (.accepted false (some off)) =
      (s.modServo fun v => { v with lastSample := prev }).alignTo off) ∧
    (s.pod.servo.state ≠ 0 → s.tickEdge prev (.accepted false (some off)) =
      (s.modServo fun v => { v with lastSample := prev }).servoStep (nsOf16 off)) := by
  have hedge : s.tickEdge prev (.accepted false (some off)) =
      if s.tickAligns then (s.modServo fun v => { v with lastSample := prev }).alignTo off
      else (s.modServo fun v => { v with lastSample := prev }).servoStep (nsOf16 off) := if_neg (by simp [h])
  refine ⟨fun h0 => hedge.trans (if_pos ?_), fun h0 => hedge.trans (if_neg ?_)⟩
  · simp [tickAligns, h, h0]
  · simp [tickAligns, h0]

theorem State.alignTo_state (s : State) (off : Int) : (s.alignTo off).pod.servo.state = 1 := rfl

/-- An input without edges for 1.5 P, on a clock (R136). -/
def State.tickMissed (s : State) (x : TickIn) (c : Clock) : Bool :=
  match x.lastAccepted with
  | some a => decide (3 * ((s.tickInPeriod * 65536 : Nat) : Int) ≤ 2 * (s.tickStamp c - a)) &&
      !(decide (4 ≤ x.state) && decide (x.state ≤ 6))
  | none => false

/-- The input as its pin disqualifies it (R136). -/
def TickIn.gone (x : TickIn) (toggled level : Bool) : TickIn :=
  { x with state := if toggled then 4 else if level then 6 else 5, goodCount := 0, outliers := 0 }

/-- The standby core's part of a missing edge. -/
def State.standbyMisses (s : State) (toggled level : Bool) : State :=
  if s.tickMissed s.tb.tickInStandby s.standbyNow then
    State.onShadow State.tickLost { s with tb := { s.tb with tickInStandby := s.tb.tickInStandby.gone toggled level } }
  else s

theorem State.standbyMisses_eq (s : State) (toggled level : Bool) :
    ∃ x v, s.standbyMisses toggled level = s.withStandbyTick x v := by
  unfold standbyMisses
  split
  · exact ⟨_, _, rfl⟩
  · exact ⟨s.tb.tickInStandby, s.pod.shadow, rfl⟩

theorem exec_tickInMissing (dt : Nat) (toggled level : Bool) (s : State)
    (h : (s.begin dt).tickMissed s.tb.tickIn s.tb.active = true) :
    ∃ b : State, exec (.tickInMissing dt toggled level) s =
      .next (State.tickLost ((b.withTickIn (s.tb.tickIn.gone toggled level)).logged Code.tickInMissing [])) := by
  obtain ⟨x, v, hb⟩ := (s.begin dt).standbyMisses_eq toggled level
  refine ⟨(s.begin dt).withStandbyTick x v, ?_⟩
  show Host.Outcome.next (((s.begin dt).standbyMisses toggled level).onlyIf
    ((s.begin dt).tickMissed ((s.begin dt).standbyMisses toggled level).tb.tickIn
      ((s.begin dt).standbyMisses toggled level).tb.active) _) = _
  rw [hb]
  exact congrArg Host.Outcome.next (if_pos h)

/-- Settles O4. -/
theorem timeReadAndPins : Obligations.TimeReadAndPins := by
  refine ⟨fun dt req s s1 c h => ?_, fun dt n p s hn hp hcount hdiv hhigh => ?_,
    fun dt edge s st off p hhigh hcount hst hp hoff h2 hservo hslow => ?_,
    fun dt edge s st off p hhigh hcount hsteer hfree hst hp hoff h2 hslow => ?_,
    fun dt toggled level s a ha hlate hstate => ?_⟩
  · refine ⟨{ s1 with tb := { s1.tb with fracLatch := Tab.put s1.tb.fracLatch c.latchKey (s1.pns16 % 65536) } },
      congrArg Host.Outcome.next (h.read rfl _ rfl), rfl, ?_⟩
    intro q hq
    cases q <;> first | rfl | exact absurd (by decide) hq
  · have hcond : ((s.begin dt).tb.active.counting && n % p = 0 && !(s.begin dt).tickOutHigh) = true := by
      simp [hcount, hdiv, hhigh]
    refine ⟨State.emit { s.begin dt with tb := { s.tb with tickOutLast := some (s.elapsed + dt) } } .tickOut 0 (be 8 n),
      ?_, rfl, rfl, State.pnsHere_near hn⟩
    show execTickOutDue dt s = _
    unfold execTickOutDue
    simp only [hn, hp]
    exact congrArg Host.Outcome.next (if_pos hcond)
  · obtain ⟨b, htick, hact, hserv, hsteers, hx⟩ := exec_tickInEdge dt edge s hhigh hcount
    have hal : s.tickAligns = false := by simp [State.tickAligns, hservo]
    refine ⟨fun hnear hsteer => ?_, fun hfar hout => ?_⟩
    · obtain ⟨y, hy, hlast, hat, hy2⟩ :=
        s.tb.tickIn.judge_accepted st p (s.elapsed + dt) s.tickAligns h2 hslow off hoff (.inr hnear)
      have hedge := ((b.withTickIn y).tickEdge_accepted s.tb.tickIn.acceptedAt off (hsteers.trans hsteer)).2
        (fun h => hservo ((congrArg Servo.state hserv).symm.trans h))
      refine ⟨_, (hx st p y _ hst hp hy).trans (congrArg Host.Outcome.next hedge), hlast, hat, hy2, ?_⟩
      exact congrArg (fun v : Servo => { v with lastSample := s.tb.tickIn.acceptedAt }) hserv
    · have hj := s.tb.tickIn.judge_outlier st p (s.elapsed + dt) h2 hslow off hoff hfar hout
      rw [← hal] at hj
      exact ⟨_, hx st p _ _ hst hp hj, rfl, rfl, hserv, hact⟩
  · obtain ⟨b, htick, hact, hserv, hsteers, hx⟩ := exec_tickInEdge dt edge s hhigh hcount
    have hal : s.tickAligns = true := by simp [State.tickAligns, hsteer, hfree]
    obtain ⟨y, hy, hlast, hat, hy2⟩ :=
      s.tb.tickIn.judge_accepted st p (s.elapsed + dt) s.tickAligns h2 hslow off hoff (.inl hal)
    have hedge := ((b.withTickIn y).tickEdge_accepted s.tb.tickIn.acceptedAt off (hsteers.trans hsteer)).1
      ((congrArg Servo.state hserv).trans hfree)
    exact ⟨_, (hx st p y _ hst hp hy).trans (congrArg Host.Outcome.next hedge), hact, State.alignTo_state _ off⟩
  · have hmissed : (s.begin dt).tickMissed s.tb.tickIn s.tb.active = true := by
      unfold State.tickMissed
      rw [ha]
      refine Bool.and_of (decide_eq_true hlate) ?_
      simp only [Bool.not_eq_true', Bool.and_eq_false_iff, decide_eq_false_iff_not]
      omega
    obtain ⟨b, hb⟩ := exec_tickInMissing dt toggled level s hmissed
    exact ⟨_, hb, rfl⟩

end Sys2Proof.Machine
end

section
/-!
PROOFS. Time links (R159–R161, R165, R168–R170, R172, O5).
-/
namespace Sys2Proof.Machine

/-! ## Commands that move both servos -/

/-- A command that leaves the servo alone has no part for the standby core. -/
theorem State.alsoStandby_of_pod (f : State → State) (s : State)
    (h : ∀ v, (f { s with pod := { s.pod with servo := v } }).pod.servo = v)
    (hs : (f s).pod.shadow = s.pod.shadow) : s.alsoStandby f = f s := by
  have hshadow : (s.onShadow f).pod.shadow = (f s).pod.shadow := (h s.pod.shadow).trans hs.symm
  unfold alsoStandby
  rw [hshadow]

/-! ## SYNC messages -/

/-- A port that has heard a SYNC: the peer's loop delay, the receive stamp and the offer (R160, R188). -/
def State.heardSync (s : State) (p : Nat) (m : List Byte) : State :=
  s.drawn.modTimePort p fun x => { peerLoopSeen (fieldBe m 60 4) x with
    lastRx := some (fieldBe m 2 2, s.phyStamp p), offer := some (s.offerFrom p m) }

/-- A SYNC at a port that is not the upstream does no more than that. -/
theorem State.syncIn_other (s : State) (p q : Nat) (m : List Byte) (hask : bitOf (fieldBe m 1 1) 2 = false)
    (hrole : s.pod.role ≠ 1) (hq : s.pod.upstream = some q) (hne : q ≠ p) : s.syncIn p m = s.heardSync p m := by
  have hup : s.pod.upstream ≠ some p := fun h => hne (Option.some.inj (hq.symm.trans h))
  unfold syncIn
  extract_lets stamp s1 before o s2 s3 s4 b s5
  have h3 : s3 = s2 := if_neg (by simp [hask])
  have h4 : s4 = s2 := (if_neg (by rw [h3]; exact hup)).trans h3
  have h5 : s5 = s2 := by
    dsimp only [s5]
    rw [h4, if_neg (by exact hrole), show s2.pod.upstream = some q from hq]
  rw [h5, if_neg]
  · rfl
  · simp [show s2.pod.upstream = some q from hq, hne]

/-- Without the stamps of an exchange a SYNC completes none (R173). -/
theorem TimePort.exchange_none (x : TimePort) (m : List Byte) (h : bitOf (fieldBe m 1 1) 4 = false) :
    x.exchange m = none := by
  unfold TimePort.exchange
  dsimp only
  split
  · rw [if_neg (by simp [h])]
  · rfl

/-- The upstream's SYNC under the path and the grandmaster last seen: it is copied, and no path has changed. -/
def State.copied (s : State) (p : Nat) (o : Offer) : State :=
  { s.follow p o with pod := { (s.follow p o).pod with
      heardAt := if (s.follow p o).acceptable p o then s.frame.number else s.pod.heardAt
      gmChangedAt := if s.pod.gmCount ≠ o.gmCount then s.frame.number else s.pod.gmChangedAt
      seenPath := o.pathId, seenGm := o.gmId } }

theorem State.heardUpstream_same (s : State) (p : Nat) (o : Offer) (hpath : s.pod.seenPath = o.pathId)
    (hgm : s.pod.seenGm = o.gmId) : s.heardUpstream p o = s.copied p o := by
  unfold heardUpstream
  exact if_neg (by simp [hpath, hgm])

/-- A SYNC at the upstream, under the path and the grandmaster last seen and without the stamps of an exchange, is
copied. -/
theorem State.syncIn_upstream (s : State) (p : Nat) (m : List Byte) (hask : bitOf (fieldBe m 1 1) 2 = false)
    (hrole : s.pod.role ≠ 1) (hup : s.pod.upstream = some p) (hprev : bitOf (fieldBe m 1 1) 4 = false)
    (hpath : s.pod.seenPath = fieldBe m 4 2) (hgm : s.pod.seenGm = fieldBe m 8 8) :
    s.syncIn p m = (s.heardSync p m).copied p (s.offerFrom p m) := by
  unfold syncIn
  extract_lets stamp s1 before o s2 s3 s4 b s5
  have h3 : s3 = s2 := if_neg (by simp [hask])
  have h4 : s4 = s2.copied p o := by
    dsimp only [s4]
    rw [h3, if_pos (by exact hup), s2.heardUpstream_same p o hpath hgm]
  have h5 : s5 = s4 := by
    dsimp only [s5]
    rw [h4, if_neg (by exact hrole), show (s2.copied p o).pod.upstream = some p from hup]
  rw [h5, before.exchange_none m hprev, h4]
  exact ite_self _

/-! ## Training -/

/-- A run of messages changes only what was sent, by their number. -/
theorem State.foldl_emit {α : Type} (k : EmitKind) (d : α → Nat) (b : State → α → List Byte) (l : List α)
    (s : State) :
    Changes [.emitted] s (l.foldl (fun s x => s.emit k (d x) (b s x)) s) ∧
    (l.foldl (fun s x => s.emit k (d x) (b s x)) s).emitted.length = s.emitted.length + l.length := by
  induction l generalizing s with
  | nil => exact ⟨.refl _ s, rfl⟩
  | cons x l ih =>
    obtain ⟨hc, hl⟩ := ih (s.emit k (d x) (b s x))
    refine ⟨(emit_frame s k (d x) (b s x) (.refl _ s) (by decide)).trans hc, hl.trans ?_⟩
    simp [State.emit]
    omega

/-- A loopback measurement on a port that can send: 16 bursts, its result unknown (R172). -/
theorem State.startLoop_sends (s : State) (p : Nat) (h : s.portSends p = true) :
    Changes [.emitted] (s.modTimePort p fun x => { x with measuring := true, ownLoop := none }) (s.startLoop p) ∧
    (s.startLoop p).emitted.length = s.emitted.length + 16 := by
  unfold startLoop
  rw [if_neg (by simp [h])]
  exact foldl_emit _ _ _ _ _

theorem State.startLoop_silent (s : State) (p : Nat) (h : s.portSends p = false) : s.startLoop p = s :=
  if_pos (by simp [h])

/-- A port that has trained: its link is up, its generation has advanced. -/
def State.trained (s : State) (p : Nat) : State :=
  (s.modPort p fun x => { x with linkUp := true }).modTimePort p fun x =>
    { x with generation := (x.generation + 1) % 256 }

theorem State.trained_linkUp (s : State) (p : Nat) : ((s.trained p).optPort p).linkUp = true := by
  have h : (s.trained p).optPort p = { s.optPort p with linkUp := true } :=
    Tab.at_set_of_ne _ p OptPort.fresh { s.optPort p with linkUp := true } fun h =>
      Bool.noConfusion (congrArg OptPort.linkUp h)
  rw [h]

/-- A candidate counts its frames from its first time-link port (R153). -/
def State.maybeCandidate (s : State) (p : Nat) : State :=
  if s.pod.role = 2 && s.pod.candidateSince.isNone && s.timeLink p then
    { s with pod := { s.pod with candidateSince := some s.frame.number } }
  else s

theorem State.maybeCandidate_spec (s : State) (p : Nat) :
    (s.maybeCandidate p).units = s.units ∧ (s.maybeCandidate p).pod.ports = s.pod.ports ∧
    (s.maybeCandidate p).emitted = s.emitted ∧ (s.maybeCandidate p).pod.upstream = s.pod.upstream := by
  unfold maybeCandidate
  split <;> exact ⟨rfl, rfl, rfl, rfl⟩

theorem exec_linkTrained (dt port : Nat) (s : State) (hport : port < 48) (hup : s.pod.upstream ≠ some port) :
    exec (.linkTrained dt port) s = .next ((((s.begin dt).trained port).startLoop port).maybeCandidate port) := by
  refine congrArg Host.Outcome.next ((if_pos (decide_eq_true hport)).trans (if_neg ?_))
  have hkept : ((((s.begin dt).trained port).startLoop port).maybeCandidate port).pod.upstream = s.pod.upstream := by
    rw [(State.maybeCandidate_spec _ port).2.2.2]
    by_cases h : ((s.begin dt).trained port).portSends port = true
    · exact (congrArg Pod.upstream ((State.startLoop_sends _ port h).1 .pod (by decide))).trans rfl
    · rw [State.startLoop_silent _ port (by simpa using h)]
      rfl
  intro h
  obtain ⟨h1, -⟩ := Bool.and_eq_true_iff.mp h
  exact hup (hkept.symm.trans (of_decide_eq_true h1))

/-- Settles O5. -/
theorem podTimeLinks : Obligations.PodTimeLinks := by
  refine ⟨fun dt port seq s hsends htick hidx hdue hseq => ?_,
    fun dt port msg s hport hlink hlen hcrc htype hask hrole => ⟨fun q hq hne => ?_, fun hup hpath hgm hprev => ?_⟩,
    fun dt port msg s hport hlink hbad => ?_, fun dt port s hport hup => ?_, fun dt port s hport => ?_,
    fun dt port halves s hm => ?_⟩
  · subst hseq
    have hcond : ((s.begin dt).portSends port && (s.begin dt).frame.ticked &&
        decide (Tab.at (s.begin dt).pod.syncIndex port 0 < (s.begin dt).syncPerFrame) &&
        decide (Tab.at (s.begin dt).pod.syncIndex port 0 * (s.begin dt).frame.lenNs ≤
          ((s.begin dt).pns - (s.begin dt).frame.opened) * (s.begin dt).syncPerFrame)) = true :=
      Bool.and_of (Bool.and_of (Bool.and_of hsends htick) (decide_eq_true hidx)) (decide_eq_true hdue)
    exact ⟨_, congrArg Host.Outcome.next (if_pos hcond), rfl, rfl, rfl⟩
  · refine congrArg Host.Outcome.next (((if_pos (Bool.and_of (decide_eq_true hport) hlink)).trans
      (if_pos ⟨hlen, hcrc⟩)).trans ((if_pos htype).trans ?_))
    have hother (x : State) (hr : x.pod.role ≠ 1) (hx : x.pod.upstream = some q) :
        x.syncIn port msg = x.heardSync port msg := x.syncIn_other port q msg hask hr hx hne
    rw [State.alsoStandby_of_pod _ _ (fun v => ?_) ?_]
    · exact hother _ hrole hq
    · rw [hother _ (by exact hrole) (by exact hq)]
      rfl
    · rw [hother _ (by exact hrole) (by exact hq)]
      rfl
  · have hin (x : State) (hr : x.pod.role ≠ 1) (hu : x.pod.upstream = some port)
        (h4 : x.pod.seenPath = fieldBe msg 4 2)
        (h8 : x.pod.seenGm = fieldBe msg 8 8) :
        x.syncIn port msg = (x.heardSync port msg).copied port (x.offerFrom port msg) :=
      x.syncIn_upstream port msg hask hr hu hprev h4 h8
    have hexec : exec (.syncReceive dt port msg) s =
        .next (((s.begin dt).heardSync port msg).copied port ((s.begin dt).offerFrom port msg)) := by
      refine congrArg Host.Outcome.next (((if_pos (Bool.and_of (decide_eq_true hport) hlink)).trans
        (if_pos ⟨hlen, hcrc⟩)).trans ((if_pos htype).trans ?_))
      rw [State.alsoStandby_of_pod _ _ (fun v => ?_) ?_]
      · exact hin _ hrole hup hpath hgm
      · rw [hin _ (by exact hrole) (by exact hup) (by exact hpath) (by exact hgm)]
        rfl
      · rw [hin _ (by exact hrole) (by exact hup) (by exact hpath) (by exact hgm)]
        rfl
    exact ⟨_, hexec, rfl, rfl, rfl, fun hb => if_pos hb.symm, rfl, hup⟩
  · refine congrArg Host.Outcome.next ((if_pos (Bool.and_of (decide_eq_true hport) hlink)).trans (if_neg ?_))
    rintro ⟨h1, h2⟩
    exact hbad.elim (absurd h1) (absurd h2)
  · obtain ⟨hunits, hports, hemitted, -⟩ := (((s.begin dt).trained port).startLoop port).maybeCandidate_spec port
    set x := (s.begin dt).trained port with hx
    refine ⟨_, exec_linkTrained dt port s hport hup, ?_, fun hmask hfence => ?_, fun hmask => ?_⟩
    · rw [hunits]
      by_cases h : x.portSends port = true
      · exact congrArg Units.ports ((x.startLoop_sends port h).1 .units (by decide))
      · rw [x.startLoop_silent port (by simpa using h)]
        rfl
    · have hsends : x.portSends port = true :=
        Bool.and_of (Bool.and_of (Bool.and_of (decide_eq_true hport) hmask) ((s.begin dt).trained_linkUp port))
          (congrArg not hfence)
      obtain ⟨hc, hlen⟩ := x.startLoop_sends port hsends
      rw [hports, hemitted, hlen]
      exact ⟨congrArg Pod.ports (hc .pod (by decide)), rfl⟩
    · have hsilent : x.portSends port = false := by
        have hm : x.pod.portMask.getLsbD port = false := hmask
        simp [State.portSends, State.timeLink, hm]
      rw [hports, hemitted, x.startLoop_silent port hsilent]
      exact ⟨rfl, rfl⟩
  · exact congrArg Host.Outcome.next (if_pos (decide_eq_true hport))
  · exact congrArg Host.Outcome.next (if_pos hm)

end Sys2Proof.Machine
end

section
/-!
PROOFS. The grandmaster's election (R153, R155–R157, O6).
-/
namespace Sys2Proof.Machine

/-! ## What the servo's own operations leave of the tree -/

/-- Of the tree's part of the state only the servo has changed, and not the start of its discard window. -/
def State.ServoOnly (s t : State) : Prop :=
  ∃ v : Servo, t.pod = { s.pod with servo := v } ∧ v.windowFrom = s.pod.servo.windowFrom

theorem State.ServoOnly.refl (s : State) : s.ServoOnly s := ⟨s.pod.servo, rfl, rfl⟩

theorem State.ServoOnly.trans {s t u : State} (h : s.ServoOnly t) (k : t.ServoOnly u) : s.ServoOnly u := by
  obtain ⟨v, hv, hw⟩ := h
  obtain ⟨x, hx, hy⟩ := k
  refine ⟨x, by rw [hx, hv], by rw [hy, hv]; exact hw⟩

theorem State.logged_pod (s : State) (c : Nat) (d : List Byte) : (s.logged c d).pod = s.pod :=
  same_of_frame .pod (logged_frame s c d) rfl

theorem State.told_pod (s : State) (c : Nat) (d : List Byte) : (s.told c d).pod = s.pod :=
  same_of_frame .pod (told_frame s c d) rfl

theorem State.holdover_servoOnly (s : State) (why : Nat) : s.ServoOnly (s.holdover why) := by
  unfold holdover
  dsimp only
  split_ifs
  · exact ⟨_, rfl, rfl⟩
  · exact ⟨_, rfl, rfl⟩
  · exact ⟨_, rfl, rfl⟩
  · exact ⟨_, rfl, rfl⟩
  · exact .refl s

theorem State.clearReason_servoOnly (s : State) (why : Nat) : s.ServoOnly (s.clearReason why none) := by
  unfold clearReason
  dsimp only
  split
  · exact ⟨_, rfl, rfl⟩
  · exact .refl s

/-- A path change starts the discard window, and changes nothing else of the tree than the servo (R186, R187). -/
theorem State.pathChange_pod (s : State) (a b : Nat) :
    ∃ v : Servo, (s.pathChange a b).pod = { s.pod with servo := v } ∧ v.windowFrom = some s.frame.number := by
  obtain ⟨v, hv, hw⟩ := (s.modServo fun v =>
    { v with windowFrom := some s.frame.number, windowEnded := none, samples := [], retrying := false
             beforePath := v.lastAccepted }).holdover_servoOnly Why.pathChange
  exact ⟨v, (logged_pod _ _ _).trans hv, hw⟩

/-- A port taken as upstream (R155, R168, R169): its offer is copied, and the discard window starts. -/
theorem State.takeUpstream_pod (s : State) (p : Nat) (o : Offer) (h : (s.timePort p).offer = some o) :
    (s.takeUpstream p).pod.upstream = some p ∧ (s.takeUpstream p).pod.gmId = o.gmId ∧
    (s.takeUpstream p).pod.hops = Nat.min 255 (o.hops + 1) ∧
    (s.takeUpstream p).pod.servo.windowFrom = some s.frame.number := by
  unfold takeUpstream
  rw [h]
  dsimp only
  generalize hs1 : ({ s with pod := { s.pod with
    upstream := some p, heardAt := s.frame.number, gmChangedAt := s.frame.number, seenPath := o.pathId, seenGm := o.gmId
    ports := s.pod.ports.map fun (e : Nat × TimePort) => (e.1, { e.2 with betterFrames := 0 }) } } : State) = s1
  obtain ⟨v, hv, hw⟩ := (s1.follow p o).pathChange_pod s.pod.seenPath o.pathId
  obtain ⟨x, hx, hy⟩ := (((s1.follow p o).pathChange s.pod.seenPath o.pathId).clearReason_servoOnly
    Why.upstreamLost).trans (State.clearReason_servoOnly _ Why.gmLost)
  rw [hx, hv]
  refine ⟨?_, rfl, rfl, ?_⟩
  · rw [← hs1]
    rfl
  · refine (hy.trans (congrArg (fun p : Pod => p.servo.windowFrom) hv)).trans (hw.trans ?_)
    rw [← hs1]
    rfl

/-! ## The election -/

/-- A command for both servos: the active one as the command gives it, the shadow as the same command gives it there. -/
theorem State.alsoStandby_pod (f : State → State) (s : State) :
    (s.alsoStandby f).pod =
      { (f s).pod with shadow := (f { s with pod := { s.pod with servo := s.pod.shadow } }).pod.servo } := rfl

theorem State.servoAlone_pod (s : State) :
    ∃ v : Servo, s.servoAlone.pod = { s.pod with servo := v } ∧ (s.tickSteers = false → v.state = 0) := by
  unfold servoAlone
  dsimp only
  split
  · next h =>
    have h' : s.tickSteers = true := h
    exact ⟨_, rfl, fun h0 => absurd (h'.symm.trans h0) (by decide)⟩
  · exact ⟨_, rfl, fun _ => rfl⟩

/-- The loss of the grandmaster is told, and its offers count again from their next advance (R157). -/
def State.gmGone (s : State) : State :=
  let t := s.told Code.gmLost (be 8 s.pod.gmId)
  { t with pod := { t.pod with
      ports := t.pod.ports.map fun e => (e.1, { e.2 with offer := e.2.offer.map fun o =>
        if o.gmId = s.pod.gmId then { o with advancedAt := none } else o })
      candidateSince := if t.pod.role = 2 then some t.frame.number else none } }

/-- An offer of the lost grandmaster that is still listed has not advanced since. -/
theorem State.gmGone_ports (s : State) (e : Nat × TimePort) (he : e ∈ s.gmGone.pod.ports) (o : Offer)
    (ho : e.2.offer = some o) (hgm : o.gmId = s.pod.gmId) : o.advancedAt = none := by
  obtain ⟨e0, -, rfl⟩ := List.mem_map.mp he
  obtain ⟨o0, -, rfl⟩ := Option.map_eq_some_iff.mp ho
  by_cases h : o0.gmId = s.pod.gmId
  · rw [if_pos h]
  · rw [if_neg h] at hgm
    exact absurd hgm h

theorem State.gmGone_candidate (s : State) :
    s.gmGone.pod.candidateSince = if s.pod.role = 2 then some s.frame.number else none := by
  have hframe : (s.told Code.gmLost (be 8 s.pod.gmId)).frame = s.frame := same_of_frame .frame (told_frame s _ _) rfl
  show (if (s.told Code.gmLost (be 8 s.pod.gmId)).pod.role = 2 then
    some (s.told Code.gmLost (be 8 s.pod.gmId)).frame.number else none) = _
  rw [told_pod, hframe]

/-- A candidate that has declared itself grandmaster, before its servos follow (R153, R178). -/
def State.declared (s : State) : State :=
  let s1 : State := { s with pod := { s.pod with
    role := 1, gmId := s.fuses.serial, hops := 0, pathId := 0, upstream := none, seenPath := 0
    seenGm := s.fuses.serial, candidateSince := none, upBound := 0, boundOf := s.fuses.serial } }
  State.logged { s1 with pod := { s1.pod with tickRef := s1.ownTickRef } } Code.gmChange (be 4 s.errorBound)

theorem exec_gmDeclare (dt f : Nat) (s : State) (hrole : s.pod.role = 2) (hsince : s.pod.candidateSince = some f)
    (hlong : f + 16 ≤ s.frame.number) (hbest : s.betterThanSelf = false) :
    exec (.gmDeclare dt) s = .next ((s.begin dt).declared.alsoStandby State.servoAlone) := by
  have hready : (match (s.begin dt).pod.candidateSince with
      | some f => decide (f + 16 ≤ (s.begin dt).frame.number)
      | none => false) = true := by
    rw [show (s.begin dt).pod.candidateSince = some f from hsince]
    exact decide_eq_true hlong
  exact congrArg Host.Outcome.next
    (if_pos (Bool.and_of (Bool.and_of (decide_eq_true hrole) hready) (congrArg not hbest)))

theorem State.declared_tickSteers (s : State) (h : s.rst.tickSourceBit = false) : s.declared.tickSteers = false := by
  have hlogged (x : State) (c : Nat) (d : List Byte) : (x.logged c d).rst = x.rst :=
    same_of_frame .rst (logged_frame x c d) rfl
  have hrst : s.declared.rst = s.rst := hlogged _ _ _
  simp [tickSteers, hrst, h]

theorem State.declared_pod (s : State) :
    s.declared.pod.role = 1 ∧ s.declared.pod.gmId = s.fuses.serial ∧ s.declared.pod.hops = 0 ∧
    s.declared.pod.pathId = 0 ∧ s.declared.pod.upstream = none := by
  unfold declared
  rw [logged_pod]
  exact ⟨rfl, rfl, rfl, rfl, rfl⟩

/-- Settles O6. -/
theorem podTimeElection : Obligations.PodTimeElection := by
  refine ⟨fun dt f s hrole hsince hlong hbest => ?_, fun dt q o s hbest hoffer hrole hne hopen => ?_,
    fun dt p s hup hrole hsilent => ?_, fun dt p s hup hrole hfrozen => ?_⟩
  · obtain ⟨v, hv, hv0⟩ := (s.begin dt).declared.servoAlone_pod
    have hpod := State.alsoStandby_pod State.servoAlone (s.begin dt).declared
    obtain ⟨x, hx, hx0⟩ := State.servoAlone_pod { (s.begin dt).declared with
      pod := { (s.begin dt).declared.pod with servo := (s.begin dt).declared.pod.shadow } }
    obtain ⟨hr, hg, hh, hp, hu⟩ := (s.begin dt).declared_pod
    rw [hv, hx] at hpod
    refine ⟨_, exec_gmDeclare dt f s hrole hsince hlong hbest, ?_⟩
    rw [hpod]
    exact ⟨hr, hg, hh, hp, hu, fun hbit =>
      ⟨hv0 ((s.begin dt).declared_tickSteers hbit), hx0 ((s.begin dt).declared_tickSteers hbit)⟩⟩
  · have hexec : exec (.upstreamReselect dt) s = .next ((s.begin dt).alsoStandby fun s => s.takeUpstream q) := by
      show execUpstreamReselect dt s = _
      simp only [execUpstreamReselect, show (s.begin dt).bestOffer = some q from hbest]
      exact congrArg Host.Outcome.next
        (if_pos (Bool.and_of (Bool.and_of (decide_eq_true hrole) (decide_eq_true hne)) hopen))
    obtain ⟨h1, h2, h3, h4⟩ := (s.begin dt).takeUpstream_pod q o hoffer
    exact ⟨_, hexec, h1, h2, h3, h4⟩
  · show execUpstreamLost dt s = _
    simp only [execUpstreamLost, show (s.begin dt).pod.upstream = some p from hup]
    exact congrArg Host.Outcome.next (if_pos (Bool.and_of (decide_eq_true hrole) (decide_eq_true hsilent)))
  · refine ⟨(s.begin dt).gmGone, ?_, fun e he o ho hgm => ?_, ?_⟩
    · show execGmLost dt s = _
      simp only [execGmLost, show (s.begin dt).pod.upstream = some p from hup]
      exact congrArg Host.Outcome.next (if_pos (Bool.and_of (decide_eq_true hrole) (decide_eq_true hfrozen)))
    · exact (s.begin dt).gmGone_ports e he o ho hgm
    · exact (s.begin dt).gmGone_candidate

end Sys2Proof.Machine
end

section
/-!
PROOFS. The servo's windows and RESTART (R179, R187, R188, R190, R191, O7), and TIME messages and transmit stamps on
the management path (R195–R200, O8).
-/
namespace Sys2Proof.Machine

/-- A served write is answered as its own rules reply. -/
theorem Served.answers {s s1 : State} {dt idx sub : Nat} {req : Req} {w : Way} {c : Ctx}
    (h : Served s dt req idx sub w c s1) (hw : w.changes = true) {f : Ctx → State → Reply} {r : Reply}
    (hr : f c s1 = r) : (s.begin dt).serve req idx sub w f = r.state.answer c r.code r.data := by
  rw [h.serve hw f, hr]

/-- A served read that gives a value is answered as its own rules reply (R220). -/
theorem Served.reads {s s1 : State} {dt idx sub : Nat} {req : Req} {w : Way} {c : Ctx}
    (h : Served s dt req idx sub w c s1) (hw : w.changes = false) {f : Ctx → State → Reply} {r : Reply}
    (hr : f c s1 = r) (ok : r.code = Abort.ok) : (s.begin dt).serve req idx sub w f =
      r.state.answerFlags c (s1.pendingFlag c.who idx sub) Abort.ok r.data := by
  rw [h.read hw f (by rw [hr, ok]), hr]

/-! ## The loop that the node measures and asks for -/

theorem State.timePort_modTimePort (s : State) (p : Nat) (f : TimePort → TimePort)
    (h : f (s.timePort p) ≠ TimePort.fresh) : (s.modTimePort p f).timePort p = f (s.timePort p) :=
  Tab.at_set_of_ne _ p _ _ h

theorem State.startLoop_spec (s : State) (p : Nat) :
    (s.startLoop p).pod.servo = s.pod.servo ∧
    (s.startLoop p).emitted.length = s.emitted.length + (if s.portSends p then 16 else 0) := by
  by_cases h : s.portSends p = true
  · obtain ⟨hc, hlen⟩ := s.startLoop_sends p h
    have hpod := hc .pod (by decide)
    exact ⟨(congrArg Pod.servo hpod).trans rfl, by rw [if_pos h, hlen]⟩
  · rw [s.startLoop_silent p (by simpa using h), if_neg h]
    exact ⟨rfl, rfl⟩

/-- Asking for the loop delays (R188): 16 bursts if the port can send, and LOOP_ASK; the servo stays. -/
theorem State.askLoop_spec (s : State) (p : Nat) (hup : s.pod.upstream = some p) :
    s.askLoop.pod.servo = s.pod.servo ∧ (s.askLoop.timePort p).asking = true ∧
    s.askLoop.emitted.length = s.emitted.length + (if s.portSends p then 16 else 0) := by
  have hask (x : State) : ((x.modTimePort p fun x =>
      { x with asking := true, peerWasUnknown := x.peerLoop = 0xFFFFFFFF }).timePort p).asking = true := by
    rw [timePort_modTimePort _ _ _ fun h => Bool.noConfusion (congrArg TimePort.asking h)]
  obtain ⟨hservo, hlen⟩ := s.startLoop_spec p
  unfold askLoop
  rw [hup]
  exact ⟨hservo, hask _, hlen⟩

/-! ## The windows of the asymmetry process -/

/-- The servo at the end of its discard window. -/
def Servo.windowOver (v : Servo) (frame : Nat) : Servo :=
  { v with windowFrom := none, windowEnded := some frame, samples := [] }

theorem State.endWindow_eq (s : State) (f : Nat) (hwin : s.pod.servo.windowFrom = some f)
    (hlong : f + 8 ≤ s.frame.number) :
    s.endWindow = (s.modServo fun v => v.windowOver s.frame.number).askLoop := by
  unfold endWindow
  rw [hwin]
  exact if_pos (decide_eq_true hlong)

/-- The servo that tries its asymmetry again. -/
def Servo.retries (v : Servo) (frame : Nat) : Servo := { v with retrying := true, samples := [], retryAt := frame }

theorem State.retryAsym_eq (s : State) (hunres : s.pod.servo.unresolved.isSome = true)
    (hwin : s.pod.servo.windowFrom = none) (hend : s.pod.servo.windowEnded = none)
    (hlong : s.pod.servo.retryAt + 1024 ≤ s.frame.number) :
    s.retryAsym = (s.modServo fun v => v.retries s.frame.number).askLoop := by
  have hwin' : s.pod.servo.windowFrom.isNone = true := by rw [hwin]; rfl
  have hend' : s.pod.servo.windowEnded.isNone = true := by rw [hend]; rfl
  exact if_pos (Bool.and_of (Bool.and_of (Bool.and_of hunres hwin') hend') (decide_eq_true hlong))

theorem State.asymDecide_unknown (s : State) (p f : Nat) (hup : s.pod.upstream = some p)
    (hend : s.pod.servo.windowEnded = some f) (hlen : 8 ≤ s.pod.servo.samples.length)
    (hpeer : (s.timePort p).peerLoop = 0xFFFFFFFF) (hlong : f + 16 ≤ s.frame.number) :
    s.asymDecide = s.unresolveAsym := by
  unfold asymDecide
  simp only [hup, hend, hpeer, hlong, Option.isSome_some, Bool.true_or, Bool.not_true, not_lt.mpr hlen, decide_false,
    Bool.or_self, Bool.false_eq_true, if_false, if_true]

theorem State.unresolveAsym_servo (s : State) :
    s.unresolveAsym.pod.servo.asym = s.pod.servo.asym ∧ s.unresolveAsym.pod.servo.unresolved =
      some (medianRat s.pod.servo.raws - s.pod.servo.asym - s.pod.servo.beforePath) := by
  unfold unresolveAsym
  dsimp only
  rw [logged_pod]
  exact ⟨rfl, rfl⟩

/-! ## RESTART -/

theorem State.servoRestart_spec (s : State) :
    s.servoRestart.pod.servo.state = 0 ∧ s.servoRestart.pod.servo.integral = 0 ∧
    s.servoRestart.pod.servo.freqPpb = 0 ∧ s.servoRestart.tb.active.rate = 0 :=
  ⟨rfl, rfl, rfl, by
    show clampInt (-Config.rateLimit) Config.rateLimit (divRound (0 * 2 ^ 40) 1000000000) = 0
    decide⟩

/-- Settles O7. -/
theorem podTimeServo : Obligations.PodTimeServo := by
  refine ⟨fun dt f p s hwin hlong hup => ?_, fun dt f p s hup hend hlen hpeer hlong => ?_,
    fun dt p s hunres hwin hend hlong hup => ?_, fun dt req value s s1 c h => ⟨fun hv => ?_, fun hv => ?_⟩⟩
  · obtain ⟨hservo, hask, hemit⟩ :=
      ((s.begin dt).modServo fun v => v.windowOver s.frame.number).askLoop_spec p hup
    have heq := (s.begin dt).endWindow_eq f hwin hlong
    refine ⟨(s.begin dt).alsoStandby State.endWindow, rfl, ?_⟩
    have hs : ((s.begin dt).alsoStandby State.endWindow).pod.servo = s.pod.servo.windowOver s.frame.number :=
      (congrArg (fun x : State => x.pod.servo) heq).trans hservo
    have hp : ((s.begin dt).alsoStandby State.endWindow).timePort p = (s.begin dt).endWindow.timePort p := rfl
    have he : ((s.begin dt).alsoStandby State.endWindow).emitted = (s.begin dt).endWindow.emitted := rfl
    rw [hs, hp, he, heq]
    exact ⟨rfl, rfl, rfl, hask, hemit.trans (Nat.zero_add _)⟩
  · have heq := (s.begin dt).asymDecide_unknown p f hup hend hlen hpeer hlong
    obtain ⟨ha, hu⟩ := (s.begin dt).unresolveAsym_servo
    refine ⟨(s.begin dt).alsoStandby State.asymDecide, rfl, ?_⟩
    have hs : ((s.begin dt).alsoStandby State.asymDecide).pod.servo = (s.begin dt).unresolveAsym.pod.servo := by
      rw [← heq]
      rfl
    rw [hs]
    exact ⟨ha, hu⟩
  · obtain ⟨hservo, hask, hemit⟩ :=
      ((s.begin dt).modServo fun v => v.retries s.frame.number).askLoop_spec p hup
    have heq := (s.begin dt).retryAsym_eq hunres hwin hend hlong
    refine ⟨(s.begin dt).alsoStandby State.retryAsym, rfl, ?_⟩
    have hs : ((s.begin dt).alsoStandby State.retryAsym).pod.servo = s.pod.servo.retries s.frame.number :=
      (congrArg (fun x : State => x.pod.servo) heq).trans hservo
    have hp : ((s.begin dt).alsoStandby State.retryAsym).timePort p = (s.begin dt).retryAsym.timePort p := rfl
    have he : ((s.begin dt).alsoStandby State.retryAsym).emitted = (s.begin dt).retryAsym.emitted := rfl
    rw [hs, hp, he, heq]
    exact ⟨rfl, rfl, hask, hemit.trans (Nat.zero_add _)⟩
  · subst hv
    obtain ⟨h1, h2, h3, h4⟩ := s1.servoRestart_spec
    exact ⟨s1.alsoStandby State.servoRestart, congrArg Host.Outcome.next (h.serve rfl _), h1, h2, h3, h4,
      rfl, State.alsoStandby_frame _ s1 (.refl _ s1) (fun x hx => State.servoRestart_frame x hx (by decide))
        (by decide)⟩
  · exact congrArg Host.Outcome.next (h.answers rfl (r := s1.refuse Abort.valueRange) (if_neg hv))

/-! ## TIME messages and transmit stamps -/

/-- Settles O8. -/
theorem managementTime : Obligations.ManagementTime := by
  refine ⟨fun dt req s s1 c x hadm hx => ?_, fun dt t1 t2 t3 t4 s => ⟨_, rfl, rfl, rfl, rfl⟩, fun dt id s => ?_,
    fun dt req s s1 c id tm rest h htxts => ?_⟩
  · show execTimeQuery dt req s = _
    simp only [execTimeQuery, hadm, hx]
    rfl
  · refine ⟨_, rfl, fun hlt => ?_, fun hge => ?_⟩
    · show (if s.pod.txts.length < 16 then _ else _ : State).pod.txts = _ ∧
        (if s.pod.txts.length < 16 then _ else _ : State).pod.txtsOverflow = _
      rw [if_pos hlt]
      exact ⟨rfl, rfl⟩
    · show (if s.pod.txts.length < 16 then _ else _ : State).pod.txts = _ ∧
        (if s.pod.txts.length < 16 then _ else _ : State).pod.txtsOverflow = _
      rw [if_neg (not_lt.mpr hge)]
      exact ⟨rfl, rfl⟩
  · refine ⟨{ s1 with pod := { s1.pod with txts := rest } }, congrArg Host.Outcome.next ?_, rfl, ?_⟩
    · exact h.reads rfl (r := ⟨{ s1 with pod := { s1.pod with txts := rest } }, Abort.ok, be 2 id ++ be 8 tm⟩)
        (by dsimp only; rw [htxts]) rfl
    · intro q hq
      cases q <;> first | rfl | exact absurd (by decide) hq

end Sys2Proof.Machine
end

section
/-!
PROOFS. The frame (O9).
-/
namespace Sys2Proof.Machine

/-- The runner of die 0, which RUNNER_SILENT has declared, owes the report of the latest tick. -/
def silentRunner : State :=
  { State.reset with
    frame := { Frame.fresh with ticked := true }
    units := { Units.fresh with
      runners := [(0, { Runner.fresh with inReset := false, reported := false, silent := true })] } }

/-- The report of a runner that has nothing to show. -/
def emptyReport : FrameRep := ⟨[], [], [], [], [], 0⟩

/-- Refutes O9: the report of a runner that had been silent ends its silence too (R372), which the clause of
`execFrameReport` does not list among what changes of the runner. -/
theorem not_frameRuns : ¬ Obligations.FrameRuns := by
  intro h
  obtain ⟨-, -, hreport, -⟩ := h
  obtain ⟨t, ht, -, -, hrunners, -⟩ := hreport 0 0 emptyReport silentRunner rfl rfl rfl rfl
  have hexec : exec (.frameReport 0 0 emptyReport) silentRunner =
      .next (outState (exec (.frameReport 0 0 emptyReport) silentRunner)) := rfl
  obtain rfl : outState (exec (.frameReport 0 0 emptyReport) silentRunner) = t :=
    Host.Outcome.next.inj (hexec.symm.trans ht)
  have hsilent := congrArg (fun l => (Tab.at l 0 Runner.fresh).silent) hrunners
  revert hsilent
  decide +kernel

end Sys2Proof.Machine
end

section
/-!
PROOFS. Entries of SCHED_TABLE as they are written (R228–R256, R277–R305, O10, O11), and QU_CMD (O14).
-/
namespace Sys2Proof.Machine

/-! ## The table -/

/-- An entry that is not FREE reads as it was written. -/
theorem State.entry_putEntry (s : State) (n : Nat) (e : SchedEntry) (h : e ≠ SchedEntry.free) :
    (s.putEntry n e).entry n = e := Tab.at_set_of_ne s.sched n SchedEntry.free e h

theorem SchedEntry.ne_free_of_status {e : SchedEntry} (h : e.status ≠ 0) : e ≠ SchedEntry.free :=
  fun k => h (congrArg SchedEntry.status k)

theorem State.entry_congr {s t : State} (h : t.sched = s.sched) (n : Nat) : t.entry n = s.entry n := by
  unfold entry
  rw [h]

theorem State.entry_runEntry (s : State) (n : Nat) :
    (s.runEntry n).entry n = { s.entry n with status := Stat.running } :=
  entry_putEntry s n _ (SchedEntry.ne_free_of_status (show Stat.running ≠ 0 by decide))

/-- A selection is left to those that are present and not routed around, which the rows and the health say (R247). -/
theorem State.selectable_congr {s t : State} (h : t.topo = s.topo) (sel : BitVec 160) :
    t.selectable sel = s.selectable sel := by
  unfold selectable routedIn deadIn clusterRouted health
  rw [h]

/-! ## A write that is accepted -/

/-- An accepted write is of the action written. -/
theorem State.judge_action {s : State} {n action time flags : Nat} {remote : Bool} {e : SchedEntry}
    (h : s.judge n action time flags remote = .accepted e) : e.action = action := by
  unfold judge at h
  dsimp only at h
  split_ifs at h <;> cases h <;> rfl

/-- An accepted entry stands PENDING in the table, and the log tells when it is later than written (R234). -/
def State.entered (s : State) (n time : Nat) (e : SchedEntry) : State :=
  if e.late then
    (s.putEntry n { e with status := Stat.pending }).logged Code.schedLate (be 1 n ++ be 8 time ++ be 8 e.time)
  else s.putEntry n { e with status := Stat.pending }

theorem State.schedWrite_accepted {s : State} {n action time flags : Nat} {remote : Bool} {e : SchedEntry}
    (h : s.judge n action time flags remote = .accepted e) (accept : Nat → SchedEntry → State → State) :
    s.schedWrite n action time flags remote accept = (accept n e (s.entered n time e), Abort.ok) := by
  unfold schedWrite
  rw [h]
  rfl

theorem State.entered_changes (s : State) (n time : Nat) (e : SchedEntry) :
    Changes [.emitted, .sched, .backup, .flash, .logSeq, .log, .port] s (s.entered n time e) := by
  have hput : Changes [.emitted, .sched, .backup, .flash, .logSeq, .log, .port] s
      (s.putEntry n { e with status := Stat.pending }) := putEntry_frame s n _ (.refl _ s) (by decide)
  unfold entered
  split
  · exact logged_frame _ _ _ hput (by decide)
  · exact hput

theorem State.entered_entry (s : State) (n time : Nat) (e : SchedEntry) :
    (s.entered n time e).entry n = { e with status := Stat.pending } := by
  have hput := s.entry_putEntry n { e with status := Stat.pending } 
    (SchedEntry.ne_free_of_status (show Stat.pending ≠ 0 by decide))
  unfold entered
  split
  · exact (entry_congr (same_of_frame .sched (logged_frame _ _ _) rfl) n).trans hput
  · exact hput

theorem Served.sched {s s1 : State} {dt entry action time flags : Nat} {req : Req} {c : Ctx} {e : SchedEntry}
    (hn : entry < 32) (h : Served s dt req 0x2050 (entry + 1) .write c s1)
    (hj : s1.judge entry action time flags false = .accepted e) (accept : Nat → SchedEntry → State → State) :
    (s.begin dt).schedServe req entry action time flags accept =
      (accept entry e (s1.entered entry time e)).answer c Abort.ok [] := by
  unfold State.schedServe
  rw [if_pos hn]
  refine h.answers rfl (r := ⟨accept entry e (s1.entered entry time e), Abort.ok, []⟩) ?_
  unfold State.entryWrite
  rw [State.schedWrite_accepted hj]

/-! ## Arming -/

/-- What `State.armHand` leaves in hand, and of the entry and QU_STATE. -/
theorem State.armHand_spec (s : State) (h : InHand) :
    (s.armHand h).qu.hand = some { h with castId := s.nextCast } ∧ (s.armHand h).qu.state = s.qu.state ∧
    (s.armHand h).sched = s.sched := ⟨rfl, rfl, rfl⟩

/-- What every step of a fold leaves, the fold leaves. -/
theorem State.foldl_eq {α β : Type} (g : State → β) {f : State → α → State} (hf : ∀ s x, g (f s x) = g s)
    (l : List α) (s : State) : g (l.foldl f s) = g s := by
  induction l generalizing s with
  | nil => rfl
  | cons x l ih => exact (ih (f s x)).trans (hf s x)

/-- Of the quench's part, listing targets changes the two lists alone. -/
theorem State.listOut_qu {β : Type} (g : Quench → β)
    (hg : ∀ q a b, g { q with notInCut := a, notInCutOther := b } = g q) (s : State) (ts : List Nat) :
    g (s.listOut ts).qu = g s.qu := by
  refine foldl_eq (fun s => g s.qu) (fun s t => ?_) ts s
  dsimp only
  split
  · exact hg s.qu _ s.qu.notInCutOther
  · exact hg s.qu s.qu.notInCut _

theorem State.selectAll_qu (s : State) (ts : BitVec 160) : (s.selectAll ts).qu = s.qu :=
  same_of_frame .qu (selectAll_frame s ts) rfl

/-- The entry in hand, made RUNNING in a state in which nothing else of the table has changed. -/
theorem State.armed_entry {s t : State} (h : t.sched = s.sched) (n : Nat) (x : InHand) :
    ((t.runEntry n).armHand x).entry n = { s.entry n with status := Stat.running } := by
  have hrun := t.entry_runEntry n
  rw [entry_congr h] at hrun
  exact (entry_congr ((t.runEntry n).armHand_spec x).2.2 n).trans hrun

theorem State.selected_sched (s : State) (out : List Nat) (ts : BitVec 160) :
    ((s.listOut out).selectAll ts).sched = s.sched :=
  (selectAll_frame _ ts (listOut_frame s out (.refl [.qu, .units] s) (by decide)) (by decide)) .sched (by decide)

theorem State.selected_state (s : State) (out : List Nat) (ts : BitVec 160) :
    ((s.listOut out).selectAll ts).qu.state = s.qu.state :=
  (congrArg Quench.state (selectAll_qu _ ts)).trans (s.listOut_qu Quench.state (fun _ _ _ => rfl) out)

theorem State.acceptQuench_spec (s : State) (n : Nat) (e : SchedEntry) (pod emergency : Bool) :
    (s.acceptQuench n e pod emergency).qu.state = Qs.arming ∧
    (s.acceptQuench n e pod emergency).entry n = { s.entry n with status := Stat.running } ∧
    ∃ h, (s.acceptQuench n e pod emergency).qu.hand = some h ∧ h.entry = n ∧ h.action = e.action ∧
      h.time = e.time ∧ h.pod = pod ∧ h.targets = s.selectable e.selection := by
  unfold acceptQuench
  extract_lets ts dead before q s1 s2 s3 h
  have hstate : s2.qu.state = Qs.arming := selected_state s1 dead ts
  have hsched : s2.sched = s.sched := selected_sched s1 dead ts
  exact ⟨hstate, armed_entry hsched n _, _, rfl, rfl, rfl, rfl, rfl, rfl⟩

theorem State.acceptResume_spec (s : State) (n : Nat) (e : SchedEntry) :
    (s.acceptResume n e).qu.state = Qs.resumeArming ∧
    ∃ h, (s.acceptResume n e).qu.hand = some h ∧ h.entry = n ∧ h.action = 4 ∧ h.time = e.time := by
  unfold acceptResume
  extract_lets ts before q s1 s2
  have hstate : s2.qu.state = Qs.resumeArming := selected_state s1 _ ts
  exact ⟨hstate, _, rfl, rfl, rfl, rfl⟩

theorem State.acceptStep_spec (s : State) (n : Nat) (e : SchedEntry) :
    (s.acceptStep n e).qu.state = Qs.stepArming ∧
    ∃ h, (s.acceptStep n e).qu.hand = some h ∧ h.entry = n ∧ h.action = 3 ∧ h.time = e.time ∧
      h.stepCycles = e.taken % 65536 ∧ h.stepNet = bitOf e.taken 16 := by
  unfold acceptStep
  extract_lets net sel cl excluded stepping groups writes q s1 s2 h0 h src q2 s3 t
  have hstate : s2.qu.state = Qs.stepArming := s1.listOut_qu Quench.state (fun _ _ _ => rfl) _
  split
  · exact ⟨hstate, _, rfl, rfl, rfl, rfl, rfl, rfl⟩
  · have hq : t.qu = s3.qu := foldl_eq State.qu (fun s _ => same_of_frame .qu (ringStart_frame s _) rfl) _ _
    refine ⟨(congrArg Quench.state hq).trans hstate, h, congrArg Quench.hand hq, rfl, rfl, rfl, rfl, rfl⟩

theorem State.pns_congr {s t : State} (he : t.elapsed = s.elapsed) (ht : t.tb = s.tb) : t.pns = s.pns := by
  unfold pns
  rw [he, ht]

theorem State.acceptQuench_orderSeq (s : State) (n : Nat) (e : SchedEntry) (pod emergency : Bool) :
    (s.acceptQuench n e pod emergency).qu.orderSeq = s.qu.orderSeq :=
  (congrArg Quench.orderSeq (selectAll_qu _ _)).trans (listOut_qu Quench.orderSeq (fun _ _ _ => rfl) _ _)

/-- The order of a pod quench, as the grandmaster keeps it (R277). -/
theorem State.podOrder_spec (s : State) (n t : Nat) :
    (s.podOrder n t).podCut.order = some ((s.qu.orderSeq + 1) % 65536, t, s.pns) ∧
    (s.podOrder n t).qu.hand = s.qu.hand ∧ (s.podOrder n t).qu.state = s.qu.state := by
  unfold podOrder
  extract_lets seq q p s1 x s2
  let m := cutMessage 1 0 seq s2.pod.hops s2.pod.gmId s2.fuses.serial t s2.pns 0 0 0
  have hqu (m : List Byte) : (s2.sendCopies m).qu = s2.qu := same_of_frame .qu (sendCopies_frame s2 m) rfl
  have hhand := congrArg Quench.hand (hqu m)
  have hstate := congrArg Quench.state (hqu m)
  exact ⟨rfl, hhand, hstate⟩

/-- Settles O10. -/
theorem scheduledQuenches : Obligations.ScheduledQuenches := by
  refine ⟨fun dt req entry time flags s s1 c e hn h hj => ?_, fun dt req entry time flags s s1 c e hn h hj => ?_,
    fun dt req entry time flags s s1 c e hn h hj => ?_, fun dt req entry time flags s s1 c e hn h hj => ?_⟩
  · obtain ⟨hst, hentry, x, hx, h1, h2, h3, h4, h5⟩ :=
      (s1.entered entry time e).acceptQuench_spec entry e false false
    rw [State.entered_entry] at hentry
    rw [State.selectable_congr ((s1.entered_changes entry time e) .topo (by decide))] at h5
    have hstatus := congrArg SchedEntry.status hentry
    have htime := congrArg SchedEntry.time hentry
    exact ⟨_, congrArg Host.Outcome.next (h.sched hn hj _), hst, hstatus, htime, x, hx, h1,
      h2.trans (State.judge_action hj), h3, h4, h5⟩
  · obtain ⟨hst, hentry, x, hx, h1, h2, h3, h4, h5⟩ :=
      (s1.entered entry time e).acceptQuench_spec entry e true false
    obtain ⟨horder, hhand, hstate⟩ :=
      ((s1.entered entry time e).acceptQuench entry e true false).podOrder_spec entry e.time
    have hseq := (s1.entered entry time e).acceptQuench_orderSeq entry e true false
    refine ⟨_, congrArg Host.Outcome.next (h.sched hn hj _), hstate.trans hst, horder.trans ?_, x, hhand.trans hx, h1,
      h2.trans (State.judge_action hj), h3, h4⟩
    have hentered := s1.entered_changes entry time e
    have hquench := State.acceptQuench_frame _ entry e true false (.refl [.emitted, .sched, .units, .qu]
      (s1.entered entry time e)) (by decide)
    rw [hseq, hentered .qu (by decide), State.pns_congr (hquench .elapsed (by decide)) (hquench .tb (by decide)),
      State.pns_congr (hentered .elapsed (by decide)) (hentered .tb (by decide))]
  · obtain ⟨hst, x, hx, h1, h2, h3, h4, h5⟩ := (s1.entered entry time e).acceptStep_spec entry e
    exact ⟨_, congrArg Host.Outcome.next (h.sched hn hj _), hst, x, hx, h1, h2, h3, h4, h5⟩
  · obtain ⟨hst, x, hx, h1, h2, h3⟩ := (s1.entered entry time e).acceptResume_spec entry e
    exact ⟨_, congrArg Host.Outcome.next (h.sched hn hj _), hst, rfl, x, hx, h1, h2, h3⟩

/-! ## Entries that wait, and EMPTY (O11) -/

/-- An accepted write that only waits leaves its entry PENDING. -/
theorem Served.sched_waits {s s1 : State} {dt entry action time flags : Nat} {req : Req} {c : Ctx} {e : SchedEntry}
    (hn : entry < 32) (h : Served s dt req 0x2050 (entry + 1) .write c s1)
    (hj : s1.judge entry action time flags false = .accepted e) :
    ∃ x : State, (s.begin dt).schedServe req entry action time flags (fun _ _ s => s) = x.answer c Abort.ok [] ∧
      x.entry entry = { e with status := Stat.pending } ∧ e.action = action :=
  ⟨_, h.sched hn hj _, s1.entered_entry entry time e, State.judge_action hj⟩

/-- EMPTY over an entry that is not open frees it (R240). -/
theorem State.cancelEntry_closed {s : State} {n : Nat} (h : (s.entry n).open = false) :
    s.cancelEntry n = (s.putEntry n SchedEntry.free, Abort.ok) := by
  unfold cancelEntry
  exact if_neg (Bool.eq_false_iff.mp h)

/-- EMPTY over an open entry whose TIME lies ahead cancels it (R240). -/
theorem State.cancelEntry_ahead {s : State} {n : Nat} (h : (s.entry n).open = true) (hq : s.qu.hand = none)
    (ha : (s.entry n).action ≠ 2) (ht : s.tb.active.read s.elapsed < (s.entry n).time * Config.fracScale) :
    s.cancelEntry n = ((s.finishEntry n Stat.cancelled).podOutcome n, Abort.ok) := by
  unfold cancelEntry
  rw [hq]
  exact (if_pos h).trans ((if_neg (Nat.not_le.mpr ht)).trans
    (congrArg (fun t : State => ((t.finishEntry n Stat.cancelled).podOutcome n, Abort.ok)) (if_neg ha)))

/-- EMPTY over an open entry whose TIME has come is refused (R240). -/
theorem State.cancelEntry_late {s : State} {n : Nat} (h : (s.entry n).open = true) (hq : s.qu.hand = none)
    (ht : (s.entry n).time * Config.fracScale ≤ s.tb.active.read s.elapsed) : s.cancelEntry n = (s, Abort.late) := by
  unfold cancelEntry
  rw [hq]
  exact (if_pos h).trans (if_pos ht)

/-- EMPTY over an entry answers as the entry's cancelling does. -/
theorem Served.empty {s s1 t : State} {dt entry code : Nat} {req : Req} {c : Ctx} (hn : entry < 32)
    (h : Served s dt req 0x2050 (entry + 1) .write c s1) (ht : s1.cancelEntry entry = (t, code)) :
    exec (.schedEmpty dt req entry) s = .next (t.answer c code []) := by
  refine congrArg Host.Outcome.next ?_
  rw [if_pos hn]
  refine h.answers rfl (r := ⟨t, code, []⟩) ?_
  unfold State.emptyWrite
  rw [ht]

/-- Settles O11. -/
theorem scheduledWaits : Obligations.ScheduledWaits := by
  refine ⟨fun dt req entry time flags s s1 c e hn h => ⟨fun hj => ?_, fun hj => ?_, fun hj => ?_⟩,
    fun dt req entry s s1 c hn h => ⟨fun ho => ?_, fun ho hq ha ht => ?_, fun ho hq ht => ?_⟩⟩
  · obtain ⟨x, hx, he, ha⟩ := h.sched_waits hn hj
    exact ⟨x, congrArg Host.Outcome.next hx, he, ha⟩
  · obtain ⟨x, hx, he, ha⟩ := h.sched_waits hn hj
    exact ⟨x, congrArg Host.Outcome.next hx, he, ha⟩
  · obtain ⟨x, hx, he, ha⟩ := h.sched_waits hn hj
    exact ⟨x, congrArg Host.Outcome.next hx, he, ha⟩
  · exact h.empty hn (State.cancelEntry_closed ho)
  · exact h.empty hn (State.cancelEntry_ahead ho hq ha ht)
  · exact h.empty hn (State.cancelEntry_late ho hq ht)

/-! ## QU_CMD (O14) -/

/-- An accepted action that may not be late stands at the TIME written (R234). -/
theorem State.judge_time {s : State} {n action time flags : Nat} {remote : Bool} {e : SchedEntry}
    (hf : bitOf (flags % 4 + 64 * bit remote) 0 = false)
    (h : s.judge n action time flags remote = .accepted e) : e.time = time := by
  unfold judge at h
  dsimp only at h
  rw [hf] at h
  split_ifs at h <;> cases h
  · simp_all
  · rfl

theorem State.quEnter_accepted {s : State} {n action time : Nat} {param : Option Nat} {e : SchedEntry}
    (hn : s.freeEntry = some n)
    (hj : (s.putEntry n { s.entry n with param := param.getD (s.entry n).param }).judge n action time 2 false =
      .accepted e) (accept : Nat → SchedEntry → State → State) :
    s.quEnter action time param accept =
      (accept n e ((s.putEntry n { s.entry n with param := param.getD (s.entry n).param }).entered n time e),
        Abort.ok) := by
  unfold quEnter
  rw [hn]
  dsimp only
  rw [State.schedWrite_accepted hj]
  exact if_neg (show ¬(Abort.ok = Abort.valueRange ∨ Abort.ok = Abort.busy ∨ Abort.ok = Abort.fenced) by decide)

/-- CANCEL over no open entry, and over one (R302). -/
theorem State.cmdQuCmdCancel_nil {s : State} (h : s.openActions = []) : s.cmdQuCmdCancel = s.accept := by
  unfold cmdQuCmdCancel
  unfold openActions at h
  rw [h]
  rfl

theorem State.cmdQuCmdCancel_one {s t : State} {n code : Nat} (h : s.openActions = [n])
    (hc : s.cancelEntry n = (t, code)) : s.cmdQuCmdCancel = ⟨t, code, []⟩ := by
  unfold cmdQuCmdCancel
  unfold openActions at h
  rw [h]
  show (match s.cancelEntry n with | (s, code) => (⟨s, if code = Abort.ok then Abort.ok else code, []⟩ : Reply)) = _
  rw [hc]
  dsimp only
  split_ifs with hok
  · rw [hok]
  · rfl

theorem State.openActions_open {s : State} {n : Nat} (h : s.openActions = [n]) : (s.entry n).open = true := by
  have hn : n ∈ s.openActions := h ▸ List.mem_singleton_self n
  have hb := (List.mem_filter.mp hn).2
  exact (Bool.and_eq_true_iff.mp (Bool.and_eq_true_iff.mp hb).1).1

/-- With nothing queued and room on its ring, a transaction that is not held goes out at once (R65). -/
theorem State.ringStart_issues {s : State} {t : RingTxn} (hq : s.units.ringQueue = [])
    (hr : s.ringRoom t.die t.tap = true) (hh : s.ringHeld t = false) :
    ∃ r : RingTxn, (s.ringStart t).units.ring = s.units.ring ++ [r] ∧ r.write = t.write ∧ r.window = t.window ∧
      r.offset = t.offset ∧ r.len = t.len := by
  refine ⟨{ t with tag := s.freeTag t.die, issued := s.elapsed, reissued := false }, ?_, rfl, rfl, rfl, rfl⟩
  let q : State := { s with units := { s.units with ringQueue := [t] } }
  have hpump : q.ringPump =
      State.ringIssue { q with units := { q.units with ringQueue := q.units.ringQueue.erase t } } t :=
    if_pos (Bool.and_of (show q.ringRoom t.die t.tap = true from hr)
      (congrArg not (show q.ringHeld t = false from hh)))
  have hring := congrArg (fun x : State => x.units.ring) hpump
  unfold ringStart
  rw [hq]
  exact hring

/-- The reply of a write that gives a state and a code. -/
def Reply.ofWrite (p : State × Nat) : Reply := ⟨p.1, p.2, []⟩

theorem Served.cancel {s s1 : State} {dt : Nat} {req : Req} {c : Ctx} {r : Reply}
    (h : Served s dt req 0x4102 0 .write c s1) (hr : s1.cmdQuCmdCancel = r) :
    exec (.quCmdCancel dt req) s = .next (r.state.answer c r.code r.data) :=
  congrArg Host.Outcome.next (h.answers rfl hr)

/-- Settles O14. -/
theorem quenchCommands : Obligations.QuenchCommands := by
  refine ⟨fun dt req s s1 c n e h hn hj => ?_, fun dt req s s1 c n e h hn hj => ?_,
    fun dt req s s1 c n e h hn hj => ?_, fun dt req s s1 c h => ⟨fun ho => ?_, fun n ho hq ha => ?_⟩,
    fun dt req s s1 c h => ⟨fun code hc => ?_, fun hc hq hr => ?_⟩⟩
  · have hq := State.quEnter_accepted (param := none) hn hj fun n e s => s.acceptQuench n e false false
    obtain ⟨hst, -, x, hx, h1, h2, h3, h4, -⟩ :=
      ((s1.putEntry n (s1.entry n)).entered n s1.qu.time e).acceptQuench_spec n e false false
    refine ⟨_, congrArg Host.Outcome.next (h.answers rfl (r := ⟨_, Abort.ok, []⟩) ?_), hst, x, hx, h1,
      h2.trans (State.judge_action hj), h3.trans (State.judge_time rfl hj), h4⟩
    exact congrArg Reply.ofWrite hq
  · have hq := State.quEnter_accepted (param := some (s1.qu.stepCycles + 65536 * bit s1.qu.stepNet)) hn hj
      fun n e s => s.acceptStep n e
    obtain ⟨hst, x, hx, h1, h2, h3, h4, h5⟩ := State.acceptStep_spec ((s1.putEntry n { s1.entry n with
      param := s1.qu.stepCycles + 65536 * bit s1.qu.stepNet }).entered n s1.qu.time e) n e
    refine ⟨_, congrArg Host.Outcome.next (h.answers rfl (r := ⟨_, Abort.ok, []⟩) ?_), hst, x, hx, h1,
      h2, h3.trans (State.judge_time rfl hj), h4, h5⟩
    exact congrArg Reply.ofWrite hq
  · have hq := State.quEnter_accepted (param := none) hn hj fun n e s => (s.acceptResume n e).releaseStop
    obtain ⟨hst, x, hx, h1, h2, h3⟩ :=
      ((s1.putEntry n (s1.entry n)).entered n s1.qu.resumeTime e).acceptResume_spec n e
    refine ⟨(((s1.putEntry n (s1.entry n)).entered n s1.qu.resumeTime e).acceptResume n e).releaseStop,
      congrArg Host.Outcome.next (h.answers rfl (r := ⟨_, Abort.ok, []⟩) ?_), hst, rfl, x, hx, h1, h2,
      h3.trans (State.judge_time rfl hj)⟩
    exact congrArg Reply.ofWrite hq
  · exact h.cancel (State.cmdQuCmdCancel_nil ho)
  · have hopen := State.openActions_open ho
    split_ifs with ht
    · exact h.cancel (State.cmdQuCmdCancel_one ho (State.cancelEntry_late hopen hq ht))
    · exact h.cancel (State.cmdQuCmdCancel_one ho (State.cancelEntry_ahead hopen hq ha (Nat.lt_of_not_le ht)))
  · refine congrArg Host.Outcome.next (h.answers rfl (r := ⟨s1, code, []⟩) ?_)
    unfold State.cmdQuCmdPeek
    rw [hc]
    rfl
  · let s2 : State := { s1 with qu := { s1.qu with peekOut := true, peekSeq := (s1.qu.peekSeq + 1) % 256 } }
    let t := ringRead (uidCluster s1.qu.peekUid) s1.qu.peekWindow
      (if perSlot s1.qu.peekWindow then uidSlot s1.qu.peekUid else 0) (s1.qu.peekLength / 4) s1.qu.peekOffset
      (.peek s1.qu.peekUid)
    obtain ⟨r, hring, hw, hwin, hoff, hlen⟩ := State.ringStart_issues (s := s2) (t := t) hq hr rfl
    have hqu : (s2.ringStart t).qu = s2.qu := State.same_of_frame .qu (State.ringStart_frame s2 t) rfl
    have hout := congrArg Quench.peekOut hqu
    have hseq := congrArg Quench.peekSeq hqu
    refine ⟨s2.ringStart t, r, congrArg Host.Outcome.next (h.answers rfl (r := ⟨_, Abort.ok, []⟩) ?_), hring, hw,
      hwin, hoff, hlen, hout, hseq⟩
    unfold State.cmdQuCmdPeek
    rw [hc]
    rfl

end Sys2Proof.Machine
end

section
/-!
PROOFS. Entries that fall due and faults that start a takeover (R74, R79, R123, R238, O12), and the takeover from W to
its announcement (R71–R78, R85, O13).
-/
namespace Sys2Proof.Machine

/-! ## The hub cores -/

theorem State.core_modCore (s : State) (n : Nat) (f : HubCore → HubCore) :
    (s.modCore n f).hub.core n = f (s.hub.core n) := by
  unfold modCore Hub.modCore Hub.core
  split_ifs <;> rfl

/-- The numbers of the two cores are 0 and 1. -/
theorem State.core_modCore_ne (s : State) {n m : Nat} (h : (n = 0) ↔ m ≠ 0) (f : HubCore → HubCore) :
    (s.modCore n f).hub.core m = s.hub.core m := by
  unfold modCore Hub.modCore Hub.core
  split_ifs <;> first | rfl | omega

theorem State.standbyCore_zero (s : State) : s.standbyCore = 0 ↔ s.activeCore ≠ 0 := by
  unfold standbyCore activeCore
  cases s.hub.riserActive <;> decide

theorem State.activeCore_zero (s : State) : s.activeCore = 0 ↔ s.standbyCore ≠ 0 := by
  have h := s.standbyCore_zero
  tauto

theorem State.modCore_hub (s : State) (n : Nat) (f : HubCore → HubCore) :
    (s.modCore n f).hub.riserActive = s.hub.riserActive ∧ (s.modCore n f).hub.riserOwns = s.hub.riserOwns ∧
    (s.modCore n f).hub.keeperUntil = s.hub.keeperUntil ∧ (s.modCore n f).hub.takeover = s.hub.takeover := by
  unfold modCore Hub.modCore
  split_ifs <;> exact ⟨rfl, rfl, rfl, rfl⟩

/-! ## What the start of a takeover leaves (R74) -/

/-- The interrupt of an update changes the standby core alone of the hub. -/
theorem State.core_interruptUpdate (s : State) : s.interruptUpdate.hub.core s.activeCore = s.hub.core s.activeCore := by
  unfold interruptUpdate
  split
  · exact (congrArg (fun h : Hub => h.core s.activeCore) (same_of_frame .hub (failUpdate_frame _ 3) rfl)).trans
      (s.core_modCore_ne s.standbyCore_zero _)
  · rfl

theorem State.takeoverStart_spec {s : State} (t : TakeoverTrigger) (hs : s.standbyThere = true)
    (ht : s.hub.takeover = none) :
    (s.takeoverStart t).hub.core s.activeCore = s.hub.core s.activeCore ∧
    ∃ k : Takeover, (s.takeoverStart t).hub.takeover = some k ∧ k.trigger = t ∧ k.phase = 0 ∧
      k.start = s.pns ∧ k.ladle = s.dump.slots := by
  have hguard : ¬((s.hub.takeover.isSome || !s.standbyThere) = true) := by
    rw [hs, ht]
    decide
  have hint : Changes [.emitted, .hub, .backup, .flash, .logSeq, .log, .port, .fw] s s.interruptUpdate :=
    interruptUpdate_frame s (.refl _ s) (by decide)
  unfold takeoverStart
  rw [if_neg hguard]
  dsimp only
  split
  · exact ⟨rfl, _, rfl, rfl, rfl, rfl, rfl⟩
  · exact ⟨s.core_interruptUpdate, _, rfl, rfl, rfl,
      pns_congr (hint .elapsed (by decide)) (hint .tb (by decide)), congrArg Dump.slots (hint .dump (by decide))⟩

/-- The standby can enter the active path whatever becomes of the active core (R81). -/
theorem State.standbyThere_modActive (s : State) (f : HubCore → HubCore) :
    (s.modCore s.activeCore f).standbyThere = s.standbyThere := by
  have hcore := s.core_modCore_ne s.activeCore_zero f
  have hstandby : (s.modCore s.activeCore f).standbyCore = s.standbyCore :=
    congrArg (fun b => bit !b) (s.modCore_hub s.activeCore f).1
  unfold standbyThere
  rw [hstandby, hcore]
  rfl

/-- A fault of the active core that starts a takeover leaves the core as the fault has set it. -/
theorem State.takeoverStart_of_fault {s : State} (t : TakeoverTrigger) (f : HubCore → HubCore)
    (hs : s.standbyThere = true) (ht : s.hub.takeover = none) :
    ((s.modCore s.activeCore f).takeoverStart t).hub.core s.activeCore = f (s.hub.core s.activeCore) ∧
    ∃ k : Takeover, ((s.modCore s.activeCore f).takeoverStart t).hub.takeover = some k ∧ k.trigger = t ∧
      k.phase = 0 := by
  have hhub := s.modCore_hub s.activeCore f
  have hactive : (s.modCore s.activeCore f).activeCore = s.activeCore := congrArg bit hhub.1
  obtain ⟨hcore, k, hk, htrig, hphase, -⟩ := takeoverStart_spec (s := s.modCore s.activeCore f) t
    ((s.standbyThere_modActive f).trans hs) (hhub.2.2.2.trans ht)
  rw [hactive] at hcore
  exact ⟨hcore.trans (s.core_modCore _ f), k, hk, htrig, hphase⟩

/-! ## Entries that fall due -/

/-- A due entry is PENDING and of the action. -/
theorem State.dueEntry_spec {s : State} {n action : Nat} (h : s.dueEntry n action = true) :
    (s.entry n).status = 1 ∧ (s.entry n).action = action := by
  unfold dueEntry at h
  simp only [Bool.and_eq_true, decide_eq_true_eq] at h
  obtain ⟨⟨⟨⟨hstatus, haction⟩, -⟩, -⟩, -⟩ := h
  exact ⟨hstatus, haction⟩

theorem State.runPending_frameLen {s : State} {n fuel : Nat} (h : s.dueEntry n Act.frameLen = true) :
    s.runPending (fuel + 1) false n = s.frameLenNow n := by
  obtain ⟨hstatus, haction⟩ := dueEntry_spec h
  rw [runPending]
  exact (if_neg (not_not_intro hstatus)).trans (if_pos haction)

theorem State.runPending_roleSwap {s : State} {n fuel : Nat} (h : s.dueEntry n Act.roleSwap = true) :
    s.runPending (fuel + 1) false n = s.roleSwapNow n := by
  obtain ⟨hstatus, haction⟩ := dueEntry_spec h
  have h5 : ¬(s.entry n).action = 5 := fun k => absurd (haction.symm.trans k) (by decide)
  have h6 : ¬(s.entry n).action = 6 := fun k => absurd (haction.symm.trans k) (by decide)
  rw [runPending]
  exact (if_neg (not_not_intro hstatus)).trans ((if_neg h5).trans ((if_neg h6).trans (if_pos haction)))

/-- A step that jumps over no other entry moves the count and completes (R123, R239). -/
theorem State.runPending_timeStep {s : State} {n fuel : Nat} (h : s.dueEntry n Act.timeStep = true)
    (hp : (s.passedEntries (s.entry n).time ((s.entry n).time + deltaOf (s.entry n).taken).toNat).filter
      (fun m => m ≠ n) = []) :
    s.runPending (fuel + 1) false n =
      (((s.timeStepNow (deltaOf (s.entry n).taken)).completeEntry n).stopsFall).releasesFall := by
  obtain ⟨hstatus, haction⟩ := dueEntry_spec h
  have h5 : ¬(s.entry n).action = 5 := fun k => absurd (haction.symm.trans k) (by decide)
  have hfold := congrArg (fun l : List Nat => ((l.foldl (fun s m => s.runPending fuel true m)
    ((s.timeStepNow (deltaOf (s.entry n).taken)).completeEntry n)).stopsFall).releasesFall) hp
  rw [runPending]
  exact (if_neg (not_not_intro hstatus)).trans ((if_neg h5).trans ((if_pos haction).trans hfold))

/-- What a step of the time base moves of the active count and the frame (R123, R204). -/
theorem State.timeStepNow_spec (s : State) (d : Int) :
    (s.timeStepNow d).tb.active = s.tb.active.addFrac s.elapsed (d * 2 ^ 48) ∧
    (s.timeStepNow d).frame.nextTick = ((s.frame.nextTick : Int) + d).toNat ∧
    (s.timeStepNow d).frame.opened = ((s.frame.opened : Int) + d).toNat := by
  unfold timeStepNow
  dsimp only
  split
  · have hend (x : State) : Changes [.emitted, .backup, .flash, .logSeq, .log, .port] x x.endTokens :=
      endTokens_frame x (.refl _ x) (by decide)
    rw [hend _ .tb (by decide), hend _ .frame (by decide)]
    exact ⟨rfl, rfl, rfl⟩
  · exact ⟨rfl, rfl, rfl⟩

/-- Settles O12. -/
theorem dueEntriesAndFaults : Obligations.DueEntriesAndFaults := by
  refine ⟨fun dt n s h => ?_, fun dt n s h hp => ?_, fun dt n s h hs ht => ?_, fun dt n s h hs => ?_,
    fun dt s hr hs ht => ?_, fun dt s hr hs ht => ?_⟩
  · have hrun := State.runPending_frameLen (fuel := 32) h
    refine ⟨_, congrArg Host.Outcome.next ((if_pos h).trans hrun), rfl, rfl, fun p hp => ?_⟩
    cases p <;> first | rfl | exact absurd (by decide) hp
  · have hrun := State.runPending_timeStep (fuel := 32) h hp
    obtain ⟨hactive, htick, hopened⟩ := (s.begin dt).timeStepNow_spec (deltaOf (s.entry n).taken)
    exact ⟨_, congrArg Host.Outcome.next ((if_pos h).trans hrun), hactive, htick, hopened⟩
  · have hrun := State.runPending_roleSwap (fuel := 32) h
    have hstart : (s.begin dt).roleSwapNow n = ((s.begin dt).takeoverStart .roleSwap).completeEntry n :=
      if_pos (Bool.and_of (show (s.begin dt).standbyThere = true from hs) (congrArg Option.isNone ht))
    obtain ⟨-, k, hk, htrig, hphase, hpns, hladle⟩ :=
      State.takeoverStart_spec (s := s.begin dt) .roleSwap hs ht
    exact ⟨_, k, congrArg Host.Outcome.next ((if_pos h).trans (hrun.trans hstart)), hk, htrig, hphase, hpns, hladle⟩
  · have hrun := State.runPending_roleSwap (fuel := 32) h
    refine congrArg Host.Outcome.next ((if_pos h).trans (hrun.trans (if_neg fun hc => ?_)))
    exact absurd (Bool.and_eq_true_iff.mp hc).1 (Bool.eq_false_iff.mp hs)
  · let f (c : HubCore) : HubCore := { c with proc := .halted, lockstepFault := true }
    obtain ⟨hcore, k, hk, htrig, hphase⟩ := State.takeoverStart_of_fault (s := s.begin dt) .lockstep f hs ht
    have hproc : decide ((s.hub.core s.activeCore).proc = .running) = true := decide_eq_true hr
    have hactive : s.activeCore = ((s.begin dt).modCore s.activeCore f).activeCore :=
      (congrArg bit ((s.begin dt).modCore_hub s.activeCore f).1).symm
    refine ⟨_, k, congrArg Host.Outcome.next ((if_pos ?_).trans (if_pos hactive)), hk, htrig, hphase,
      congrArg HubCore.proc hcore⟩
    exact Bool.or_eq_true_iff.mpr (.inl (Bool.or_eq_true_iff.mpr (.inl hproc)))
  · let f (c : HubCore) : HubCore := { c with clockGood := false }
    obtain ⟨hcore, k, hk, htrig, hphase⟩ := State.takeoverStart_of_fault (s := s.begin dt) .clockGood f hs ht
    exact ⟨_, k, congrArg Host.Outcome.next (if_pos hr), hk, htrig, hphase, congrArg HubCore.clockGood hcore⟩

/-! ## The takeover -/

/-- A takeover in the phase, once its instant has come, goes on (R74). -/
theorem State.takeoverAt_due {s : State} {k : Takeover} {phase ns : Nat} (f : Takeover → State → State)
    (ht : s.hub.takeover = some k) (hp : k.phase = phase) (hw : k.switchAt + ns * Config.stepsPerNs ≤ s.elapsed) :
    s.takeoverAt phase ns f = f k s := by
  unfold takeoverAt
  rw [ht]
  exact if_pos ⟨hp, hw⟩

/-- What W makes of the roles, the pins and the servos (R73, R74, R82, R85). -/
theorem State.swapRoles_spec (s : State) :
    s.swapRoles.hub.riserActive = (!s.hub.riserActive) ∧ s.swapRoles.hub.riserOwns = (!s.hub.riserActive) ∧
    s.swapRoles.hub.keeperUntil = s.elapsed + 100 * Config.stepsPerNs ∧
    s.swapRoles.pod.servo.state = s.pod.shadow.state ∧ s.swapRoles.tb.tickIn = s.tb.tickInStandby := by
  unfold swapRoles
  extract_lets old new tb h c p s1 s2 s3 s4
  have hlast (x : State) (l : List Nat) : Changes [.units] x (l.foldl (fun s u =>
      s.modReplica u fun r => { r with firstOfSource := some new }) x) := by
    induction l generalizing x with
    | nil => exact .refl _ _
    | cons u l ih => exact (modReplica_frame x u _ (.refl _ x) (by decide)).step (ih _) (by decide)
  have hwire : Changes [.wireA, .wireR] s2 s3 :=
    startWire_frame _ new (putWire_frame s2 old _ (.refl _ s2) (by decide)) (by decide)
  rw [hlast s4 _ .hub (by decide), hlast s4 _ .pod (by decide), hlast s4 _ .tb (by decide)]
  have hhub : s4.hub = s2.hub := hwire .hub (by decide)
  have hpod3 := congrArg (fun p : Pod => p.servo.state) (hwire .pod (by decide))
  have hpod : s4.pod.servo.state = s2.pod.servo.state := hpod3
  have htb3 := congrArg TimeBase.tickIn (hwire .tb (by decide))
  have htb : s4.tb.tickIn = s2.tb.tickIn := htb3
  obtain ⟨hr, ho, hk, -⟩ := s1.modCore_hub old fun c => { c with gated := true }
  obtain ⟨hr', ho', hk', -⟩ := (s1.modCore old fun c => { c with gated := true }).modCore_hub new
    fun c => { c with gated := false }
  rw [hhub, hpod, htb]
  exact ⟨hr'.trans hr, ho'.trans ho, hk'.trans hk, rfl, rfl⟩

/-- A runner out of reset is told which core is active (R74). -/
def State.tellRunner (uid : Nat) (s : State) (d : Nat) : State :=
  if (s.runner d).inReset then s else s.modRunner d fun r => { r with activeUid := uid }

theorem State.runner_tellRunner_self (uid : Nat) (s : State) (d : Nat) (h : (s.runner d).inReset = false) :
    (s.tellRunner uid d).runner d = { s.runner d with activeUid := uid } := by
  unfold tellRunner
  rw [if_neg (Bool.eq_false_iff.mp h)]
  refine Tab.at_set_of_ne _ d Runner.fresh { s.runner d with activeUid := uid } fun hfresh => ?_
  have hreset : (s.runner d).inReset = true := congrArg Runner.inReset hfresh
  exact Bool.noConfusion (h.symm.trans hreset)

theorem State.runner_tellRunner_ne (uid : Nat) (s : State) {d e : Nat} (h : d ≠ e) :
    (s.tellRunner uid e).runner d = s.runner d := by
  unfold tellRunner
  split
  · rfl
  · exact Tab.at_mod_ne s.units.runners Runner.fresh Runner.fresh (fun r => { r with activeUid := uid }) h

/-- Of the runners told, each that is out of reset holds the UID, and stays out of reset. -/
theorem State.runner_tellRunners (uid : Nat) (l : List Nat) (s : State) {d : Nat} (h : (s.runner d).inReset = false)
    (hd : d ∈ l ∨ (s.runner d).activeUid = uid) :
    ((l.foldl (State.tellRunner uid) s).runner d).activeUid = uid := by
  induction l generalizing s with
  | nil => exact hd.resolve_left List.not_mem_nil
  | cons e l ih =>
    by_cases he : d = e
    · subst he
      have hself := s.runner_tellRunner_self uid d h
      exact ih _ ((congrArg Runner.inReset hself).trans h) (.inr (congrArg Runner.activeUid hself))
    · have hne := s.runner_tellRunner_ne uid he
      refine ih _ ((congrArg Runner.inReset hne).trans h) ?_
      rw [hne]
      exact hd.imp_left fun hm => (List.mem_cons.mp hm).resolve_left he

theorem State.tellRunners_emitted (uid : Nat) (l : List Nat) (s : State) :
    (l.foldl (State.tellRunner uid) s).emitted = s.emitted := by
  refine foldl_eq State.emitted (fun s d => ?_) l s
  unfold tellRunner
  split
  · rfl
  · exact same_of_frame .emitted (modRunner_frame s d _) rfl

/-- UNIT_HEALTH reads as it was set, other than to 0. -/
theorem State.health_setHealth (s : State) (uid : Nat) {v : Nat} (h : v ≠ 0) : (s.setHealth uid v).health uid = v :=
  Tab.at_set_of_ne s.topo.health (uid - 0x8000) 0 v h

theorem State.core_coreDown (s : State) (n : Nat) : ((s.coreDown n).hub.core n).heldInReset = true := by
  unfold coreDown
  extract_lets s1 s2
  have h : Changes [.tb, .wireA, .wireR, .frame, .units, .bar] s1 (((s2.putWire n Wire.idle).emptyBar n).setBar n 3) :=
    setBar_frame _ n 3 (emptyBar_frame _ n (putWire_frame _ n _ (dropSets_frame _ _
      (resetRep_frame s1 _ (.refl _ s1) (by decide)) (by decide)) (by decide)) (by decide)) (by decide)
  rw [h .hub (by decide)]
  exact congrArg HubCore.heldInReset (s.core_modCore n _)

/-- What W leaves (R71–R74, R82, R85, R86, R221). -/
theorem State.atSwitch_spec (s : State) (k : Takeover) :
    (s.atSwitch k).hub.riserActive = (!s.hub.riserActive) ∧ (s.atSwitch k).hub.riserOwns = (!s.hub.riserActive) ∧
    (s.atSwitch k).hub.keeperUntil = s.elapsed + 100 * Config.stepsPerNs ∧ (s.atSwitch k).frame.sets = [] ∧
    (s.atSwitch k).frame.groups = [] ∧ (s.atSwitch k).dump = s.dump.fromMirror k ∧
    (s.atSwitch k).pod.servo.state = s.pod.shadow.state ∧ (s.atSwitch k).tb.tickIn = s.tb.tickInStandby := by
  let m := s.loseStaged.1.fromMirrors k
  have hswap : Changes [.hub, .tb, .wireA, .wireR, .pod, .units] m m.swapRoles :=
    swapRoles_frame m (.refl _ m) (by decide)
  have hlate : Changes [.emitted, .bar, .power, .flash] m.swapRoles (s.rolesSwitched k) :=
    busesAgain_frame _ (resendTier0_frame _ (reissueRemovals_frame _ (emptyBar_frame _ s.activeCore
      (.refl _ m.swapRoles) (by decide)) (by decide)) (by decide)) (by decide)
  obtain ⟨hr, ho, hk, hp, ht⟩ := m.swapRoles_spec
  have hhub := hlate .hub (by decide)
  have hframe := (hlate .frame (by decide)).trans (hswap .frame (by decide))
  have hdump := (hlate .dump (by decide)).trans (hswap .dump (by decide))
  exact ⟨(congrArg Hub.riserActive hhub).trans hr, (congrArg Hub.riserOwns hhub).trans ho,
    (congrArg Hub.keeperUntil hhub).trans hk, congrArg Frame.sets hframe, congrArg Frame.groups hframe, hdump,
    (congrArg (fun p : Pod => p.servo.state) (hlate .pod (by decide))).trans hp,
    (congrArg TimeBase.tickIn (hlate .tb (by decide))).trans ht⟩

/-- W + 0.5 µs: the old core goes into reset (R74, R78). -/
def Takeover.oldReset (k : Takeover) (s : State) : State :=
  { (s.coreDown s.standbyCore).setHealth (coreUid s.standbyCore) 2 with
    hub := { (s.coreDown s.standbyCore).hub with takeover := some { k with phase := 2 } } }

theorem execTakeoverOldReset_eq (dt : Nat) (s : State) :
    execTakeoverOldReset dt s = done ((s.begin dt).takeoverAt 1 500 Takeover.oldReset) := rfl

theorem Takeover.oldReset_spec (k : Takeover) (s : State) :
    (k.oldReset s).hub.takeover = some { k with phase := 2 } ∧
    (k.oldReset s).health (coreUid s.standbyCore) = 2 ∧ ((k.oldReset s).hub.core s.standbyCore).heldInReset = true :=
  ⟨rfl, (s.coreDown s.standbyCore).health_setHealth _ (by decide), s.core_coreDown s.standbyCore⟩

/-- The takeover stands where `o` says. -/
def State.withTakeover (s : State) (o : Option Takeover) : State := { s with hub := { s.hub with takeover := o } }

theorem State.withTakeover_takeover (s : State) (o : Option Takeover) : (s.withTakeover o).hub.takeover = o := rfl

theorem State.withTakeover_emitted (s : State) (o : Option Takeover) : (s.withTakeover o).emitted = s.emitted := rfl

theorem State.withTakeover_runner (s : State) (o : Option Takeover) (d : Nat) :
    (s.withTakeover o).runner d = s.runner d := rfl

theorem State.withTakeover_port (s : State) (o : Option Takeover) : (s.withTakeover o).port = s.port := rfl

/-- W + 2 µs: the runners are told (R74). -/
def Takeover.runnersTold (k : Takeover) (s : State) : State :=
  ((List.range 16).foldl (State.tellRunner s.activeUid) (s.emit .runnerCast 2 (le 2 s.activeUid))).withTakeover
    (some { k with phase := 3 })

theorem execRunnerActiveCast_eq (dt : Nat) (s : State) :
    execRunnerActiveCast dt s = done ((s.begin dt).takeoverAt 2 2000 Takeover.runnersTold) := by
  refine congrArg done (congrArg (State.takeoverAt (s.begin dt) 2 2000) (funext fun k => funext fun x => ?_))
  have htell : (fun (s : State) (d : Nat) => if (s.runner d).inReset then s else
      s.modRunner d fun r => { r with activeUid := x.activeUid }) = State.tellRunner x.activeUid := rfl
  unfold Takeover.runnersTold State.withTakeover
  rw [← htell]

theorem Takeover.runnersTold_spec (k : Takeover) (s : State) :
    (k.runnersTold s).hub.takeover = some { k with phase := 3 } ∧
    (k.runnersTold s).emitted = s.emitted ++ [⟨.runnerCast, 2, le 2 s.activeUid⟩] ∧
    ∀ d, d < 16 → (s.runner d).inReset = false → ((k.runnersTold s).runner d).activeUid = s.activeUid := by
  unfold runnersTold
  refine ⟨State.withTakeover_takeover _ _, ?_, fun d hd hin => ?_⟩
  · rw [State.withTakeover_emitted, State.tellRunners_emitted]
    rfl
  · rw [State.withTakeover_runner]
    exact State.runner_tellRunners _ _ (s.emit .runnerCast 2 (le 2 s.activeUid)) hin (.inl (List.mem_range.mpr hd))

/-- W + 20 µs: the takeover is announced and the open transfers have ended (R74, R76, R648). -/
def Takeover.announced (k : Takeover) (s : State) : State :=
  let objects := (k.lostObjects.take 341).flatMap fun o => be 3 o
  let t := s.urged Code.hubTakeover (be 1 k.trigger.code ++ objects)
  (if k.shadowReady then t else t.logged Code.takeoverUnready (psOctets k.stepPs)).endTransfers.withTakeover none

theorem execTakeoverNotify_eq (dt : Nat) (s : State) :
    execTakeoverNotify dt s = done ((s.begin dt).takeoverAt 3 20000 fun k s => (k.announced s).updateSwapped k) := rfl

theorem Takeover.announced_spec (k : Takeover) (s : State) :
    (k.announced s).hub.takeover = none ∧ (k.announced s).port.blocks = [] := by
  unfold announced
  rw [State.withTakeover_takeover, State.withTakeover_port]
  exact ⟨rfl, rfl⟩

/-- Settles O13. -/
theorem takeoverSequence : Obligations.TakeoverSequence := by
  refine ⟨fun dt s k hk hp hw => ?_, fun dt s k hk hp hw => ?_, fun dt s k hk hp hw => ?_,
    fun dt s k hk hp hw => ?_⟩
  · obtain ⟨hr, ho, hkeep, hsets, hgroups, hdump, hservo, htick⟩ := (s.begin dt).atSwitch_spec k
    refine ⟨(s.begin dt).atSwitch k, _, ?_, hr, ho, hkeep, hsets, hgroups, hdump, hservo, htick, rfl, rfl, rfl, rfl⟩
    have hdue := (s.begin dt).takeoverAt_due (fun k x => ((x.atSwitch k).runOverdue k).stopAtSwitch k) hk hp
      (ns := 0) (by rw [Nat.zero_mul]; exact hw)
    exact (execTakeoverSwitch_eq dt s).trans (congrArg Host.Outcome.next hdue)
  · have hdue := (s.begin dt).takeoverAt_due Takeover.oldReset hk hp hw
    obtain ⟨htake, hhealth, hdown⟩ := k.oldReset_spec (s.begin dt)
    exact ⟨_, (execTakeoverOldReset_eq dt s).trans (congrArg Host.Outcome.next hdue), htake, hhealth, hdown⟩
  · have hdue := (s.begin dt).takeoverAt_due Takeover.runnersTold hk hp hw
    obtain ⟨htake, hemit, htold⟩ := k.runnersTold_spec (s.begin dt)
    exact ⟨_, (execRunnerActiveCast_eq dt s).trans (congrArg Host.Outcome.next hdue), htake, hemit, htold⟩
  · have hdue := (s.begin dt).takeoverAt_due (fun k s => (k.announced s).updateSwapped k) hk hp hw
    obtain ⟨htake, hblocks⟩ := k.announced_spec (s.begin dt)
    exact ⟨_, (execTakeoverNotify_eq dt s).trans (congrArg Host.Outcome.next hdue), htake, hblocks⟩

end Sys2Proof.Machine
end

section
/-!
PROOFS. Casts at their targets and their answers at the hub (R249–R261, O15).
-/
namespace Sys2Proof.Machine

/-! ## Octets -/

/-- Octets of a value that fits spell it (R5). -/
theorem ofLe_le (n v : Nat) (h : v < 256 ^ n) : ofLe (le n v) = v := by
  induction n generalizing v with
  | zero => exact (Nat.lt_one_iff.mp h).symm
  | succ n ih =>
    have hrest : ofLe (le n (v / 256)) = v / 256 := ih _ (Nat.div_lt_of_lt_mul (by rw [← Nat.pow_succ']; exact h))
    show ofLe (le n (v / 256)) * 256 + (BitVec.ofNat 8 v).toNat = v
    rw [hrest, BitVec.toNat_ofNat]
    exact Nat.div_add_mod' v 256

/-! ## Taps -/

/-- A tap whose stop is armed is not as D8 leaves it, so it reads as it was written. -/
theorem State.tap_modTap (s : State) (t : Nat) (f : Tap → Tap) (h : (f (s.tap t)).stopArm ≠ none) :
    (s.modTap t f).tap t = f (s.tap t) :=
  Tab.at_set_of_ne s.units.taps t Tap.fresh _ fun k => h (congrArg Tap.stopArm k)

/-- A change of a tap is what it does to that tap. -/
theorem State.modTap_congr (s : State) (t : Nat) {f g : Tap → Tap} (h : f (s.tap t) = g (s.tap t)) :
    s.modTap t f = s.modTap t g := by
  unfold modTap Tab.mod
  exact congrArg (fun x => ({ s with units := { s.units with taps := Tab.set s.units.taps t Tap.fresh x } } : State)) h

/-! ## A cast at its target -/

/-- An instant that lies ahead in the target's replica makes no arm late (R46). -/
theorem State.lateActs_ahead {s : State} {t : Nat} {c : Cast}
    (h : (s.replica (targetReplica t)).clock.read s.elapsed < c.act * Config.fracScale) : s.lateActs t c = s :=
  if_neg fun k => absurd k.2 (Nat.not_le.mpr h)

theorem State.answerCast_getLast (s : State) (t id status : Nat) :
    (s.answerCast t id status).emitted.getLast? =
      some ⟨.castResponse, t, castResponseOctets id t status (s.stampPns (targetReplica t) % 2 ^ 32)⟩ := by
  unfold answerCast sendAnswer
  exact List.getLast?_concat

/-- What a tap's answer leaves of the tap: all but what it remembers (R253). -/
theorem State.tap_answerCast (s : State) {t : Nat} (id status : Nat) (ht : t < 128) (h : (s.tap t).stopArm ≠ none) :
    ∃ l, (s.answerCast t id status).tap t = { s.tap t with remembered := l } := by
  have hmod (l : List Remembered) : (s.modTap t fun x => { x with remembered := l }).tap t =
      { s.tap t with remembered := l } := s.tap_modTap t _ h
  refine ⟨s.memoryOf t ++ [⟨id, status, s.stampPns (targetReplica t) % 2 ^ 32, s.elapsed⟩], ?_⟩
  unfold answerCast sendAnswer
  dsimp only
  rw [if_pos ht]
  exact hmod _

theorem State.answerCast_casts (s : State) (t id status : Nat) : (s.answerCast t id status).qu = s.qu :=
  same_of_frame .qu (answerCast_frame s t id status) rfl

theorem State.addLane_casts (s : State) {lane : Nat} (wave : Nat) (h : lane ≠ 0) :
    (s.addLane lane wave).qu.casts = s.qu.casts.map fun o =>
      if o.cast.lane = lane ∧ o.cast.wave = wave then { o with laneSum := o.laneSum + 1 } else o :=
  congrArg (fun x : State => x.qu.casts) (if_neg h)

theorem State.addLane_changes (s : State) (lane wave : Nat) : Changes [.emitted, .qu] s (s.addLane lane wave) :=
  addLane_frame s lane wave (.refl _ s) (by decide)

/-- A target that takes part in a cast of R249 that it has not seen before, or that is no retry, judges it. -/
theorem State.castReceive_judged {s : State} {dt t : Nat} {m : List Byte} {c : Cast} (hm : Cast.ofOctets m = some c)
    (ht : c.targets.getLsbD t = true) (ha : (s.begin dt).targetAlive t = true) (h1 : 1 ≤ c.kind) (h6 : c.kind ≤ 6)
    (hr : c.retry = false) :
    exec (.castReceive dt t m) s = .next (match (s.begin dt).castRefusal t c with
      | some st => (s.begin dt).answerCast t c.id st
      | none => (s.begin dt).actOnCast t c) := by
  have hguard := Bool.and_of (Bool.and_of (Bool.and_of ht ha) (decide_eq_true h1)) (decide_eq_true h6)
  show execCastReceive dt t m s = _
  unfold execCastReceive
  dsimp only
  rw [hm]
  refine congrArg Host.Outcome.next ((if_pos hguard).trans ?_)
  dsimp only
  rw [hr]
  cases ((s.begin dt).memoryOf t).find? fun m => m.id = c.id <;> rfl

/-- A tap that arms a stop ahead of its replica's time (R42, R251, R252). -/
theorem State.actOnCast_armQuench {s : State} {t : Nat} {c : Cast} (ht : t < 128) (hk : c.kind = Cast.armQuench)
    (hact : (s.replica (targetReplica t)).clock.read s.elapsed < c.act * Config.fracScale) :
    s.actOnCast t c = (((s.modTap t fun x => x.act c).addLane c.lane c.wave).answerCast t c.id Cast.acted) := by
  have hfettle (x : State) : x.fettleFails t c = false := by
    unfold fettleFails
    rw [hk]
    rfl
  have hnot : ¬c.kind = Cast.traceFettle := by
    rw [hk]
    decide
  have hlate : (s.modTap t fun x => x.act c).lateActs t c = s.modTap t fun x => x.act c := lateActs_ahead hact
  unfold actOnCast
  dsimp only
  rw [if_pos ht, hfettle, if_neg hnot, hlate]
  rfl

/-- A stop that is armed in a tap (R42). -/
theorem State.tap_armed {s : State} {t : Nat} {c : Cast} (hk : c.kind = Cast.armQuench) :
    ((s.modTap t fun x => x.act c).tap t).stopArm = some c.id ∧
    ((s.modTap t fun x => x.act c).tap t).stopAt = c.act := by
  have hact : (s.tap t).act c = { (s.tap t).clearBits with stopAt := c.act, stopArm := some c.id } := if_pos hk
  have htap : (s.modTap t fun x => x.act c).tap t = (s.tap t).act c :=
    s.tap_modTap t _ fun h => Option.some_ne_none c.id ((congrArg Tap.stopArm hact).symm.trans h)
  exact ⟨(congrArg Tap.stopArm htap).trans (congrArg Tap.stopArm hact),
    (congrArg Tap.stopAt htap).trans (congrArg Tap.stopAt hact)⟩

/-! ## The answers at the hub -/

theorem State.health_told (s : State) (code : Nat) (detail : List Byte) (uid : Nat) :
    (s.told code detail).health uid = s.health uid :=
  congrArg (fun x : Topo => Tab.at x.health (uid - 0x8000) 0)
    (State.same_of_frame .topo (told_frame s code detail) rfl)

/-- Setting an entry to other than 0 leaves at that value whatever read it before. -/
theorem State.health_setHealth_keeps (s : State) (uid x : Nat) {v : Nat} (hv : v ≠ 0) (h : s.health x = v) :
    (s.setHealth uid v).health x = v := by
  by_cases hx : x - 0x8000 = uid - 0x8000
  · have hset := s.health_setHealth uid hv
    unfold health at hset ⊢
    rw [hx]
    exact hset
  · exact (Tab.at_set_ne s.topo.health 0 0 v hx).trans h

theorem State.health_unresponsive (s : State) (t : Nat) : (s.unresponsive t).health (targetUid t) = 4 :=
  (health_told _ _ _ _).trans (s.health_setHealth _ (by decide))

theorem State.health_unresponsives (l : List Nat) (s : State) {t : Nat} (h : t ∈ l ∨ s.health (targetUid t) = 4) :
    (l.foldl State.unresponsive s).health (targetUid t) = 4 := by
  induction l generalizing s with
  | nil => exact h.resolve_left List.not_mem_nil
  | cons u l ih =>
    refine ih _ ?_
    rcases h with h | h
    · rcases List.mem_cons.mp h with rfl | h
      · exact .inr (s.health_unresponsive t)
      · exact .inl h
    · exact .inr ((health_told _ _ _ _).trans (s.health_setHealth_keeps _ _ (by decide) h))

/-- The targets that stay missing when a cast ends read 4 (R254). -/
theorem State.endCast_health (s : State) {o : OpenCast} {n : Nat} (hu : o.use = .entry n) {m : Nat}
    (hm : m ∈ o.missing) : (s.endCast o).health (targetUid m) = 4 := by
  let x := o.missing.foldl State.unresponsive (s.putCast { o with ended := true })
  have hsettle : Changes [.emitted, .sched, .qu, .podCut, .adm, .backup, .flash, .logSeq, .log, .port] x
      x.settleQuench.tidyCasts := tidyCasts_frame _ (settleQuench_frame x (.refl _ x) (by decide)) (by decide)
  have hend : s.endCast o = x.settleQuench.tidyCasts := by
    show State.tidyCasts (match o.use with
      | .traceSwitch => (o.missing.filter fun t => decide (t < 128)).foldl State.traceRetry x
      | .entry _ => x.settleQuench
      | _ => x) = _
    rw [hu]
  rw [hend]
  exact (congrArg (fun p : Topo => Tab.at p.health (targetUid m - 0x8000) 0) (hsettle .topo (by decide))).trans
    (health_unresponsives _ _ (.inl hm))

/-- A HOLD leaves an arm of another cast, and one that has fallen due (R261). -/
def State.holdKeeps (s : State) (t id k instant : Nat) : Bool :=
  decide (k ≠ id) || decide (instant ≤ s.replicaPns (targetReplica t))

theorem State.holdKeeps_eq_true {s : State} {t id k instant : Nat}
    (h : k ≠ id ∨ instant ≤ s.replicaPns (targetReplica t)) : s.holdKeeps t id k instant = true :=
  Bool.or_eq_true_iff.mpr (h.imp decide_eq_true decide_eq_true)

theorem State.holdKeeps_eq_false {s : State} {t id k instant : Nat} (h : k = id)
    (ha : s.replicaPns (targetReplica t) < instant) : s.holdKeeps t id k instant = false :=
  Bool.or_eq_false_iff.mpr ⟨decide_eq_false (not_not_intro h), decide_eq_false (Nat.not_le.mpr ha)⟩

/-- A tap whose only arm is a stop, under a HOLD (R261). -/
def State.held (s : State) (t id k : Nat) (x : Tap) : Tap :=
  { x with stopArm := if s.holdKeeps t id k x.stopAt then some k else none }

theorem State.holdReceive_stop {s : State} {dt t id k : Nat} {w : Word32} (hw : holdId w = some id) (ht : t < 128)
    (hk : (s.tap t).stopArm = some k) (hrel : (s.tap t).releaseArm = .none) :
    exec (.holdReceive dt t w) s = .next ((s.begin dt).modTap t ((s.begin dt).held t id k)) := by
  show execHoldReceive dt t w s = _
  unfold execHoldReceive
  dsimp only
  rw [hw]
  refine congrArg Host.Outcome.next ((if_pos ht).trans (State.modTap_congr _ _ ?_))
  unfold held
  have htap : (s.begin dt).tap t = s.tap t := rfl
  rw [htap, hk, hrel]
  rfl

/-- Any answer restores the entry of its target (R254). -/
def State.heardFrom (s : State) (t : Nat) : State :=
  if s.health (targetUid t) = 4 then s.setHealth (targetUid t) 0 else s

theorem State.heardFrom_qu (s : State) (t : Nat) : (s.heardFrom t).qu = s.qu := by
  unfold heardFrom
  split <;> rfl

/-- The fields of a response (R252). -/
theorem castResponseOctets_fields {id t st stamp : Nat} (hid : id < 65536) (ht : t < 160) (hst : st < 256)
    (hstamp : stamp < 2 ^ 32) :
    fieldLe (castResponseOctets id t st stamp) 0 2 = id ∧ fieldLe (castResponseOctets id t st stamp) 2 1 = t ∧
    fieldLe (castResponseOctets id t st stamp) 3 1 = st ∧ fieldLe (castResponseOctets id t st stamp) 4 4 = stamp :=
  ⟨ofLe_le 2 id hid, ofLe_le 1 t (by omega), ofLe_le 1 st (by omega), ofLe_le 4 stamp hstamp⟩

/-- Settles O15. -/
theorem castsAndAnswers : Obligations.CastsAndAnswers := by
  refine ⟨fun dt t m c s hm ht hbit hk hr href hact => ?_,
    fun dt t m c s hm hbit ha h1 h6 => ⟨fun st hr href => ?_, fun r hr hfind => ?_⟩,
    fun dt t id w s hw ht k hk hrel => ?_, fun dt id t st stamp n s o hid ht hst hstamp ho hbit hu hcl => ?_,
    fun dt id s o ho he hmiss hdue => ?_, fun dt id n s o ho he hmiss hdue hu hcl => ?_⟩
  · have halive : (s.begin dt).targetAlive t = true :=
      Bool.and_of (decide_eq_true (by omega)) (Bool.or_eq_true_iff.mpr (.inl (decide_eq_true ht)))
    have hexec := State.castReceive_judged hm hbit halive (by rw [hk]; decide) (by rw [hk]; decide) hr
    rw [href] at hexec
    have hdo := State.actOnCast_armQuench (s := s.begin dt) ht hk hact
    let s1 := (s.begin dt).modTap t fun x => x.act c
    obtain ⟨harm, hat⟩ := State.tap_armed (s := s.begin dt) (t := t) hk
    have hlane := s1.addLane_changes c.lane c.wave
    have htap : (s1.addLane c.lane c.wave).tap t = s1.tap t :=
      congrArg (fun u : Units => Tab.at u.taps t Tap.fresh) (hlane .units (by decide))
    obtain ⟨l, hl⟩ := (s1.addLane c.lane c.wave).tap_answerCast c.id Cast.acted ht
      (by rw [htap, harm]; exact Option.some_ne_none _)
    have hstamp : (s1.addLane c.lane c.wave).stampPns (targetReplica t) = (s.begin dt).stampPns (targetReplica t) := by
      unfold State.stampPns State.replica
      rw [hlane .units (by decide), hlane .elapsed (by decide)]
      rfl
    refine ⟨_, hexec.trans (congrArg Host.Outcome.next hdo), ?_, ?_, fun hne => ?_, ?_⟩
    · rw [hl, htap]
      exact harm
    · rw [hl, htap]
      exact hat
    · rw [State.answerCast_casts]
      exact s1.addLane_casts c.wave hne
    · rw [State.answerCast_getLast, hstamp]
  · have hexec := State.castReceive_judged hm hbit ha h1 h6 hr
    rw [href] at hexec
    exact hexec
  · have hguard := Bool.and_of (Bool.and_of (Bool.and_of hbit ha) (decide_eq_true h1)) (decide_eq_true h6)
    show execCastReceive dt t m s = _
    unfold execCastReceive
    dsimp only
    rw [hm]
    refine congrArg Host.Outcome.next ((if_pos hguard).trans ?_)
    dsimp only
    rw [hfind]
    exact if_pos hr
  · refine ⟨_, State.holdReceive_stop hw ht hk hrel, fun h => ?_, fun hid hahead => ?_⟩
    · have hsame : (s.begin dt).held t id k (s.tap t) = s.tap t := by
        unfold State.held
        rw [State.holdKeeps_eq_true h, if_pos rfl, ← hk]
      refine (State.tap_modTap _ _ _ fun hnone => ?_).trans hsame
      exact Option.some_ne_none k (hk.symm.trans ((congrArg Tap.stopArm hsame).symm.trans hnone))
    · refine State.modTap_congr _ _ ?_
      have htap : (s.begin dt).tap t = s.tap t := rfl
      unfold State.held
      rw [htap, State.holdKeeps_eq_false hid hahead]
      rfl
  · obtain ⟨f0, f2, f3, f4⟩ := castResponseOctets_fields hid ht hst hstamp
    show execCastResponse dt _ s = _
    unfold execCastResponse
    rw [f0, f2, f3, f4]
    refine congrArg Host.Outcome.next ((if_pos (Bool.and_of rfl (decide_eq_true ht))).trans ?_)
    dsimp only
    have hheard : (if (s.begin dt).health (targetUid t) = 4 then (s.begin dt).setHealth (targetUid t) 0
      else s.begin dt) = (s.begin dt).heardFrom t := rfl
    have hstated : (if s.health (targetUid t) = 4 then (s.begin dt).setHealth (targetUid t) 0 else s.begin dt) =
      (s.begin dt).heardFrom t := rfl
    rw [hheard, hstated]
    have hqu : ((s.begin dt).heardFrom t).qu = s.qu := (s.begin dt).heardFrom_qu t
    generalize (s.begin dt).heardFrom t = s1 at hqu
    have hcast : s1.openCast id = some o := by
      unfold State.openCast
      rw [hqu]
      exact ho
    have hclosing : (s1.putCast (o.take t st stamp)).qu.closing = none := (congrArg Quench.closing hqu).trans hcl
    rw [hcast]
    dsimp only
    rw [hbit, hu]
    dsimp only
    rw [hclosing]
    rfl
  · have hguard := Bool.and_of (Bool.and_of (congrArg not he)
      (congrArg not (Bool.eq_false_iff.mpr fun h => hmiss (List.isEmpty_iff.mp h)))) hdue
    show execCastRetry dt id s = _
    unfold execCastRetry
    dsimp only
    rw [show (s.begin dt).openCast id = some o from ho]
    exact congrArg Host.Outcome.next (if_pos hguard)
  · have hguard := Bool.and_of (Bool.and_of (congrArg not he)
      (congrArg not (Bool.eq_false_iff.mpr fun h => hmiss (List.isEmpty_iff.mp h)))) hdue
    refine ⟨(s.begin dt).endCast o, ?_, fun m hm => (s.begin dt).endCast_health hu hm⟩
    show execCastUnresponsive dt id s = _
    unfold execCastUnresponsive
    dsimp only
    rw [show (s.begin dt).openCast id = some o from ho]
    exact congrArg Host.Outcome.next (if_pos hguard)

end Sys2Proof.Machine
end

section
/-!
PROOFS. A quench from its decision to its final status (R258–R266, R304, O16).
-/
namespace Sys2Proof.Machine

/-! ## Parts that logging and listing leave -/

/-- What the log alone shows sends nothing (R431). -/
theorem State.logged_emitted (s : State) (code : Nat) (detail : List Byte) :
    (s.logged code detail).emitted = s.emitted := by
  unfold logged note numberRecord
  dsimp only
  rw [if_neg Bool.false_ne_true, Bool.or_false, if_neg Bool.false_ne_true]
  have hpersist (x : State) : x.persist.emitted = x.emitted := same_of_frame .emitted (persist_frame x) rfl
  split
  · split
    · exact hpersist _
    · rfl
  · rfl

theorem State.logged_qu (s : State) (code : Nat) (detail : List Byte) : (s.logged code detail).qu = s.qu :=
  same_of_frame .qu (logged_frame s code detail) rfl

theorem State.listOut_emitted (s : State) (ts : List Nat) : (s.listOut ts).emitted = s.emitted :=
  same_of_frame .emitted (listOut_frame s ts) rfl

/-! ## The decision (R258, R259) -/

/-- Arming sends the one cast (R256), and no count of postponements moves. -/
theorem State.armHand_tidy (s : State) (h : InHand) :
    (s.armHand h).tidyCasts.qu.hand = some { h with castId := s.nextCast } ∧
    (s.armHand h).tidyCasts.qu.postponeCount = s.qu.postponeCount ∧
    ∃ e, (s.armHand h).tidyCasts.emitted = s.emitted ++ [e] := ⟨rfl, rfl, _, rfl⟩

/-- The short count under POSTPONE (R259). -/
theorem State.postpone_spec (s : State) (h : InHand) :
    ∃ h', (s.postpone h).qu.hand = some h' ∧ h'.time = h.time + s.lenAt h.time ∧
      h'.postponed = h.postponed + 1 ∧ (s.postpone h).qu.postponeCount = (s.qu.postponeCount + 1) % 256 ∧
      ∃ l, (s.postpone h).emitted = s.emitted ++ [⟨.hold, 0, le 4 (holdWord h.castId)⟩,
        ⟨.hold, 1, le 4 (holdWord h.castId)⟩, ⟨.hold, 2, le 4 (holdWord h.castId)⟩] ++ l := by
  unfold postpone
  extract_lets s1 gone s2 time q s3 s4
  have hqu : s4.qu = s3.qu := s3.logged_qu _ _
  have hcount : s4.qu.postponeCount = (s.qu.postponeCount + 1) % 256 := by
    rw [hqu]
    exact congrArg (fun n => (n + 1) % 256)
      ((s1.listOut_qu Quench.postponeCount (fun _ _ _ => rfl) gone).trans rfl)
  have hemit : s4.emitted = s1.emitted := (s3.logged_emitted _ _).trans (s1.listOut_emitted gone)
  have hlen : s2.lenAt h.time = s.lenAt h.time := by
    have hout : Changes [.qu] s1 s2 := listOut_frame s1 gone (.refl _ s1) (by decide)
    unfold lenAt frameLenAt
    rw [hout .sched (by decide), hout .frame (by decide)]
    rfl
  let h1 : InHand := { h with time := time, postponed := h.postponed + 1, targets := h.targets &&& ~~~targetSet gone }
  obtain ⟨hhand, hkept, e, he⟩ := s4.armHand_tidy h1
  have hfirst : s1.emitted = s.emitted ++ [⟨.hold, 0, le 4 (holdWord h.castId)⟩,
      ⟨.hold, 1, le 4 (holdWord h.castId)⟩, ⟨.hold, 2, le 4 (holdWord h.castId)⟩] := by
    show (s.emitted ++ [_] ++ [_]) ++ [_] = _
    simp only [List.append_assoc, List.cons_append, List.nil_append]
  rw [hkept, he, hemit, hfirst]
  exact ⟨{ h1 with castId := s4.nextCast }, hhand, congrArg (h.time + ·) hlen, rfl, hcount, [e], rfl⟩

theorem State.sumDue_runs {s : State} {o : OpenCast} (hd : o.cast.deadline + 768 ≤ s.pns)
    (ht : s.hub.takeover = none) : (s.sumDue o && s.sequencerRuns) = true := by
  unfold sequencerRuns
  rw [ht]
  exact Bool.and_of (decide_eq_true hd) rfl

/-- The decision, in a state in which it is due (R258). -/
theorem State.quenchDecision_due {s : State} {dt : Nat} {h : InHand} {o : OpenCast} (hh : s.qu.hand = some h)
    (ho : s.openCast h.castId = some o) (hdec : h.decided = false) (hsel : h.selecting = 0)
    (hd : o.cast.deadline + 768 ≤ (s.begin dt).pns) (ht : s.hub.takeover = none) :
    exec (.quenchDecision dt) s = .next ((s.begin dt).decide_ h o) := by
  obtain ⟨hsum, hrun⟩ := Bool.and_eq_true_iff.mp (State.sumDue_runs (s := s.begin dt) hd ht)
  have hguard := Bool.and_of (Bool.and_of (Bool.and_of (congrArg not hdec) (decide_eq_true hsel)) hsum) hrun
  show execQuenchDecision dt s = _
  unfold execQuenchDecision
  dsimp only
  rw [show (s.begin dt).qu.hand = some h from hh]
  dsimp only
  rw [show (s.begin dt).openCast h.castId = some o from ho]
  exact congrArg Host.Outcome.next (if_pos hguard)

/-- The state in which the count has been noted. -/
def State.counted (s : State) (o : OpenCast) : State :=
  let t := s.putCast { o with count := some o.laneSum }
  { t with qu := { t.qu with armCount := o.laneSum % 256 } }

/-- A count that is not held back arms the cut (R258, R265). -/
theorem State.decide_arms {s : State} {h : InHand} {o : OpenCast} (ha : h.action = 1)
    (hc : o.laneSum = (targetsOf h.targets).length ∨ s.qu.mode = 0) :
    (s.decide_ h o).qu.state = Qs.armed ∧ (s.decide_ h o).qu.hand = some { h with decided := true } ∧
    (s.decide_ h o).qu.armCount = o.laneSum % 256 := by
  have hshort : ¬((decide (o.laneSum ≠ (targetsOf h.targets).length) && decide ((s.counted o).qu.mode = 1) &&
      !h.pod && !h.emergency && decide (h.postponed < 3) &&
      ((s.counted o).hub.takeover.isNone || decide ((s.counted o).pns + 512 ≤ h.time))) = true) := by
    simp only [Bool.and_eq_true, decide_eq_true_eq]
    rintro ⟨⟨⟨⟨⟨hne, hmode⟩, -⟩, -⟩, -⟩, -⟩
    rcases hc with hc | hc
    · exact hne hc
    · exact absurd (hc.symm.trans hmode) (by decide)
  have hdecide : s.decide_ h o = { s.counted o with qu := { (s.counted o).qu with
      hand := some { h with decided := true }, state := Qs.armed } } :=
    (if_pos (.inl ha)).trans (if_neg hshort)
  rw [hdecide]
  exact ⟨rfl, rfl, rfl⟩

/-- A short count under POSTPONE moves the cut (R259). -/
theorem State.decide_postpones {s : State} {h : InHand} {o : OpenCast} (ha : h.action = 1)
    (hc : o.laneSum ≠ (targetsOf h.targets).length) (hm : s.qu.mode = 1) (hp : h.pod = false)
    (he : h.emergency = false) (h3 : h.postponed < 3) (ht : s.hub.takeover = none) :
    s.decide_ h o = (s.counted o).postpone h := by
  have hnone : (s.counted o).hub.takeover.isNone = true := congrArg Option.isNone ht
  have hfree : ((s.counted o).hub.takeover.isNone || decide ((s.counted o).pns + 512 ≤ h.time)) = true :=
    Bool.or_eq_true_iff.mpr (.inl hnone)
  have hshort := Bool.and_of (Bool.and_of (Bool.and_of (Bool.and_of (Bool.and_of (decide_eq_true hc)
    (decide_eq_true hm)) (congrArg not hp)) (congrArg not he)) (decide_eq_true h3)) hfree
  exact (if_pos (.inl ha)).trans (if_pos hshort)

/-! ## The instant in each unit's own replica (R42) -/

/-- A change of one tap leaves the arms of every other unit. -/
theorem State.stopArmOf_modTap (s : State) {u v : Nat} (f : Tap → Tap) (h : u ≠ v) :
    (s.modTap v f).stopArmOf u = s.stopArmOf u := by
  have htap : (s.modTap v f).tap u = s.tap u := Tab.at_mod_ne s.units.taps Tap.fresh Tap.fresh f h
  unfold stopArmOf
  rw [htap]
  rfl

theorem State.stopArmOf_modRunner (s : State) {u v : Nat} (f : Runner → Runner) (h : u ≠ v) (hv : 128 ≤ v) :
    (s.modRunner (v - 128) f).stopArmOf u = s.stopArmOf u := by
  unfold stopArmOf
  split
  · rfl
  · have hrunner : (s.modRunner (v - 128) f).runner (u - 128) = s.runner (u - 128) :=
      Tab.at_mod_ne s.units.runners Runner.fresh Runner.fresh f (by omega)
    rw [hrunner]
    rfl

theorem State.stopArmOf_modGroup (s : State) {u v : Nat} (f : NetGroup → NetGroup) (h : u ≠ v) (hv : 144 ≤ v) :
    (s.modGroup (v - 144) f).stopArmOf u = s.stopArmOf u := by
  unfold stopArmOf
  split
  · rfl
  · split
    · rfl
    · have hgroup : (s.modGroup (v - 144) f).group (u - 144) = s.group (u - 144) :=
        Tab.at_mod_ne s.units.groups NetGroup.fresh NetGroup.fresh f (by omega)
      rw [hgroup]

/-- The parts of the state that the arms and their instants are read from. -/
theorem State.stopArmOf_congr {s t : State} (h : t.units = s.units) (u : Nat) : t.stopArmOf u = s.stopArmOf u := by
  unfold stopArmOf tap runner group
  rw [h]

/-- The ports' freeze records leave the taps, the runners, the groups and the replicas. -/
theorem State.freezePorts_units (t : Nat) (l : List Nat) (s : State) :
    let x := l.foldl (fun s p => s.modPort p (frozenPort t (s.portDelay p))) s
    x.units.taps = s.units.taps ∧ x.units.runners = s.units.runners ∧ x.units.groups = s.units.groups ∧
    x.units.replicas = s.units.replicas ∧ x.elapsed = s.elapsed := by
  induction l generalizing s with
  | nil => exact ⟨rfl, rfl, rfl, rfl, rfl⟩
  | cons p l ih => exact ih _

theorem State.freezeSink_units (s : State) (d t : Nat) : (s.freezeSink d t).units = s.units :=
  same_of_frame .units (freezeSink_frame s d t) rfl

theorem State.freezeGroup_stopArmOf (s : State) (g t u : Nat) :
    (s.freezeGroup g t).stopArmOf u =
      (s.modGroup g fun x => { x with freezeArm := none, frozenAt := some t }).stopArmOf u := by
  obtain ⟨htaps, hrunners, hgroups, -⟩ := freezePorts_units t (portsOf g)
    (s.modGroup g fun x => { x with freezeArm := none, frozenAt := some t })
  unfold freezeGroup stopArmOf tap runner group
  rw [htaps, hrunners, hgroups]

theorem State.freezeGroup_replicas (s : State) (g t : Nat) :
    (s.freezeGroup g t).units.replicas = s.units.replicas := by
  obtain ⟨-, -, -, hreplicas, -⟩ := freezePorts_units t (portsOf g)
    (s.modGroup g fun x => { x with freezeArm := none, frozenAt := some t })
  unfold freezeGroup
  rw [hreplicas]
  rfl

/-- A unit that stops leaves the arms of every other. -/
theorem State.stopArmOf_stopUnit_ne (s : State) {u v : Nat} (t : Nat) (h : u ≠ v) :
    (s.stopUnit v t).stopArmOf u = s.stopArmOf u := by
  unfold stopUnit
  split
  · exact s.stopArmOf_modTap _ h
  · split
    · exact (stopArmOf_congr (freezeSink_units _ _ t) u).trans (s.stopArmOf_modRunner _ h (by omega))
    · exact (s.freezeGroup_stopArmOf _ t u).trans (s.stopArmOf_modGroup _ h (by omega))

/-- A tap that is out of reset reads as it was written. -/
theorem State.tap_modTap_running (s : State) (t : Nat) (f : Tap → Tap) (h : (f (s.tap t)).inReset = false) :
    (s.modTap t f).tap t = f (s.tap t) :=
  Tab.at_set_of_ne s.units.taps t Tap.fresh _ fun k => Bool.noConfusion (h.symm.trans (congrArg Tap.inReset k))

theorem State.tapStop_stopArm (s : State) (c t : Nat) (h : (s.tap c).inReset = false) :
    ((s.tapStop c t).tap c).stopArm = none := by
  unfold tapStop
  extract_lets x clash
  rw [tap_modTap_running]
  · dsimp only
    cases s.chilled c <;> cases clash <;> rfl
  · dsimp only
    cases s.chilled c <;> cases clash <;> exact h

/-- A unit that stops is no longer armed. -/
theorem State.stopArmOf_stopUnit_self (s : State) (u t : Nat) (h : u < 128 → (s.tap u).inReset = false) :
    (s.stopUnit u t).stopArmOf u = none := by
  unfold stopUnit
  split
  next hu =>
    unfold stopArmOf
    rw [if_pos hu, s.tapStop_stopArm u t (h hu)]
    split <;> rfl
  next hu =>
    split
    next hr =>
      rw [stopArmOf_congr (freezeSink_units _ _ t)]
      let r : Runner := { s.runner (u - 128) with freezeArm := none, frozen := true }
      have hr' : r ≠ Runner.fresh := fun k => Bool.noConfusion (congrArg Runner.frozen k)
      have hrunner : (s.modRunner (u - 128) fun x =>
          { x with freezeArm := none, frozen := true }).runner (u - 128) = r :=
        Tab.at_set_of_ne s.units.runners (u - 128) Runner.fresh r hr'
      unfold stopArmOf
      rw [if_neg hu, if_pos hr, hrunner]
    next hr =>
      rw [freezeGroup_stopArmOf]
      let g : NetGroup := { s.group (u - 144) with freezeArm := none, frozenAt := some t }
      have hg : g ≠ NetGroup.fresh := fun k => Option.some_ne_none t (congrArg NetGroup.frozenAt k)
      have hgroup : (s.modGroup (u - 144) fun x =>
          { x with freezeArm := none, frozenAt := some t }).group (u - 144) = g :=
        Tab.at_set_of_ne s.units.groups (u - 144) NetGroup.fresh g hg
      unfold stopArmOf
      rw [if_neg hu, if_neg hr, hgroup]

/-- An armed stop of the unit whose instant has come in its own replica acts (R42, R257). -/
def State.stopFalls (s : State) (u : Nat) : State :=
  match s.stopArmOf u with
  | some (id, t) => if s.dueAt u t then ((s.noteJump u t).stopUnit u t).noteActor id u else s
  | none => s

theorem State.stopsFall_eq (s : State) : s.stopsFall = (List.range 160).foldl State.stopFalls s := rfl

theorem State.stopUnit_replicas (s : State) (u t : Nat) :
    (s.stopUnit u t).units.replicas = s.units.replicas ∧ (s.stopUnit u t).elapsed = s.elapsed := by
  refine ⟨?_, same_of_frame .elapsed (stopUnit_frame s u t) rfl⟩
  unfold stopUnit
  split
  · rfl
  · split
    · have hsink := congrArg Units.replicas (freezeSink_units (s.modRunner (u - 128) fun x =>
        { x with freezeArm := none, frozen := true }) (u - 128) t)
      exact hsink
    · exact s.freezeGroup_replicas (u - 144) t

/-- What a unit's replica reads stands whatever stops. -/
theorem State.dueAt_stopFalls (s : State) (u v t : Nat) : (s.stopFalls v).dueAt u t = s.dueAt u t := by
  unfold stopFalls
  split
  next id t' _ =>
    split
    · have hjump : (s.noteJump v t').units.replicas = s.units.replicas ∧ (s.noteJump v t').elapsed = s.elapsed := by
        unfold noteJump
        split <;> exact ⟨rfl, rfl⟩
      obtain ⟨hrep, hnow⟩ := (s.noteJump v t').stopUnit_replicas v t'
      have hrep' : (((s.noteJump v t').stopUnit v t').noteActor id v).units.replicas = s.units.replicas :=
        hrep.trans hjump.1
      have hnow' : (((s.noteJump v t').stopUnit v t').noteActor id v).elapsed = s.elapsed := hnow.trans hjump.2
      unfold dueAt replicaPns replica
      rw [hrep', hnow']
    · rfl
  · rfl

theorem State.stopArmOf_noteJump_ne (s : State) {u v : Nat} (t : Nat) (h : u ≠ v) :
    (s.noteJump v t).stopArmOf u = s.stopArmOf u := by
  unfold noteJump
  split
  · exact s.stopArmOf_modTap _ h
  · rfl

theorem State.stopArmOf_stopFalls_ne (s : State) {u v : Nat} (h : u ≠ v) :
    (s.stopFalls v).stopArmOf u = s.stopArmOf u := by
  unfold stopFalls
  split
  · split
    · exact ((stopArmOf_congr rfl u).trans (stopArmOf_stopUnit_ne _ _ h)).trans (s.stopArmOf_noteJump_ne _ h)
    · rfl
  · rfl

/-- The tap of an armed unit is out of reset, and a jump noted there leaves it so. -/
theorem State.noteJump_running {s : State} {u t : Nat} {a : Nat × Nat} (h : s.stopArmOf u = some a) (hu : u < 128) :
    ((s.noteJump u t).tap u).inReset = false := by
  have hin : (s.tap u).inReset = false := by
    unfold stopArmOf at h
    rw [if_pos hu] at h
    split at h
    · exact nomatch h
    next hin => exact Bool.eq_false_iff.mpr hin
  unfold noteJump
  split
  · rw [tap_modTap_running _ _ _ hin]
    exact hin
  · exact hin

theorem State.stopArmOf_stopFalls_self {s : State} {u id t : Nat} (h : s.stopArmOf u = some (id, t)) :
    (s.stopFalls u).stopArmOf u = if s.dueAt u t then none else some (id, t) := by
  unfold stopFalls
  rw [h]
  dsimp only
  split
  · exact (stopArmOf_congr rfl u).trans (stopArmOf_stopUnit_self _ u t (noteJump_running h))
  · exact h

/-- Among units that each fall once, each that is due is no longer armed, and no other changes. -/
theorem State.stopArmOf_foldl (l : List Nat) (s : State) {u id t : Nat} (hl : l.Nodup) (hu : u ∈ l)
    (h : s.stopArmOf u = some (id, t)) :
    (l.foldl State.stopFalls s).stopArmOf u = if s.dueAt u t then none else some (id, t) := by
  have hrest (l : List Nat) (s : State) (hu : u ∉ l) : (l.foldl State.stopFalls s).stopArmOf u = s.stopArmOf u := by
    induction l generalizing s with
    | nil => rfl
    | cons v l ih =>
      obtain ⟨hv, hl⟩ := not_or.mp fun k => hu (List.mem_cons.mpr k)
      exact (ih _ hl).trans (s.stopArmOf_stopFalls_ne hv)
  induction l generalizing s with
  | nil => exact absurd hu List.not_mem_nil
  | cons v l ih =>
    obtain ⟨hv, hl⟩ := List.nodup_cons.mp hl
    by_cases huv : u = v
    · subst huv
      exact (hrest l _ hv).trans (stopArmOf_stopFalls_self h)
    · have hstep := ih (s.stopFalls v) hl ((List.mem_cons.mp hu).resolve_left huv)
        ((s.stopArmOf_stopFalls_ne huv).trans h)
      rwa [dueAt_stopFalls] at hstep

/-! ## The cut and its membership -/

/-- The count of the cast of the entry in hand, once decided. -/
theorem State.countOf_hand {s : State} {h : InHand} {o : OpenCast} {n : Nat} (ho : s.openCast h.castId = some o)
    (hn : o.count = some n) : (((s.openCast h.castId).bind OpenCast.count).getD 0) = n := by
  rw [ho]
  exact congrArg (fun x : Option Nat => x.getD 0) hn

/-- Two states hold the same cut, over the same units. -/
def State.SameCut (s t : State) : Prop :=
  t.qu.state = s.qu.state ∧ t.qu.cutId = s.qu.cutId ∧ t.qu.cutPns = s.qu.cutPns ∧ t.qu.members = s.qu.members ∧
    t.qu.hand = s.qu.hand ∧ t.qu.closing = s.qu.closing ∧ t.units = s.units

/-- The cut of an entry in hand (R264, R266). -/
def State.cutAt (s : State) (h : InHand) : State :=
  { s with qu := { s.qu with
    state := Qs.quenched, cutId := (s.qu.cutId + 1) % 2 ^ 32, cutPns := h.time, cutFlags := 0
    members := targetSet (((s.openCast h.castId).map OpenCast.acted).getD []), hand := none
    closing := some { h with taken := true, actors := targetSet (s.actorsOf h) } } }

/-- The cut's flags are set one by one (R268). -/
def State.cutFlags (s : State) (l : List (Nat × Bool)) : State := l.foldl (fun s x => s.cutFlag x.1 x.2) s

theorem State.cutFlags_sameCut (l : List (Nat × Bool)) (s : State) : s.SameCut (s.cutFlags l) := by
  induction l generalizing s with
  | nil => exact ⟨rfl, rfl, rfl, rfl, rfl, rfl, rfl⟩
  | cons x l ih => exact ih (s.cutFlag x.1 x.2)

/-- A cut with some target that counted (R264, R266). -/
theorem State.takeCut_eq {s : State} {h : InHand} {o : OpenCast} {n : Nat} (ho : s.openCast h.castId = some o)
    (hn : o.count = some n) (hn0 : n ≠ 0) (hc : h.cancelled = false) :
    ∃ l, s.takeCut h = (s.cutAt h).cutFlags l := by
  have hcount := countOf_hand ho hn
  have hsome : ¬(decide (((s.openCast h.castId).bind OpenCast.count).getD 0 = 0) = true) := by
    rw [hcount]
    exact fun k => hn0 (of_decide_eq_true k)
  obtain ⟨entry, action, time, castId, targets, postponed, decided, before, pod, emergency, taken, listed, cancelled,
    cycles, net, selecting, actors⟩ := h
  subst hc
  exact ⟨[(_, _), (_, _), (_, _), (_, _), (_, _), (_, _)], if_neg hsome⟩

/-- The cut is due in an entry in hand that quenches (R264). -/
theorem State.cutTaken_due {s q : State} {dt : Nat} {h : InHand} (hq : q = (s.begin dt).stopsFall)
    (hh : q.qu.hand = some h) (ha : h.action = 1 ∨ h.action = 2) (hd : h.decided = true) (hdue : q.handDue h = true) :
    exec (.cutTaken dt) s = .next (q.takeCut h) := by
  have hact : ((h.action = 1 || h.action = 2) : Bool) = true :=
    Bool.or_eq_true_iff.mpr (ha.imp decide_eq_true decide_eq_true)
  show execCutTaken dt s = _
  unfold execCutTaken
  rw [← hq]
  dsimp only
  rw [hh]
  exact congrArg Host.Outcome.next (if_pos (Bool.and_of (Bool.and_of hact hd) hdue))

theorem State.stopFalls_cutId (s : State) (u : Nat) : (s.stopFalls u).qu.cutId = s.qu.cutId := by
  unfold stopFalls
  split
  next id t _ =>
    split
    · have hstop : Changes [.units, .trace, .dram] s ((s.noteJump u t).stopUnit u t) :=
        stopUnit_frame _ u t (noteJump_frame s u t (.refl _ s) (by decide)) (by decide)
      have hid := congrArg Quench.cutId (hstop .qu (by decide))
      exact hid
    · rfl
  · rfl

theorem State.stopsFall_cutId (s : State) : s.stopsFall.qu.cutId = s.qu.cutId := by
  rw [stopsFall_eq]
  exact foldl_eq (fun s => s.qu.cutId) stopFalls_cutId (List.range 160) s

/-- A cluster whose stop was not missed stays as it is (R263). -/
theorem State.checkStops_met {s : State} (l : List Nat) (h : ∀ c ∈ l, s.stopMissed c = false) :
    l.foldl State.checkStop s = s := by
  induction l with
  | nil => rfl
  | cons c l ih =>
    have hmet : s.checkStop c = s := by
      unfold checkStop
      rw [h c List.mem_cons_self, Bool.and_false]
      rfl
    rw [List.foldl_cons, hmet]
    exact ih fun c hc => h c (List.mem_cons_of_mem _ hc)

/-- The membership of the quench has been listed (R262). -/
def State.listed (s : State) (h : InHand) : State :=
  { s with qu := { s.qu with closing := some { h with membershipListed := true } } }

/-- With every target in the cut nothing is listed, no CANCEL leaves and no stop was missed (R262, R263). -/
theorem State.listMembers_all {s : State} {h : InHand} {o : OpenCast} (ho : s.openCast h.castId = some o)
    (ht : o.cast.targets = h.targets) (hall : o.acted = targetsOf h.targets)
    (hstop : ∀ c ∈ o.acted, c < 128 → s.stopMissed c = false) :
    s.listMembers h = s.listed h := by
  have hby : ∀ t ∈ targetsOf h.targets, o.actedBy t = true := by
    intro t hin
    rw [← hall] at hin
    exact (List.mem_filter.mp hin).2
  have hout : ((targetsOf h.targets).filter fun t => !o.actedBy t) = [] :=
    List.filter_eq_nil_iff.mpr fun t hin => by rw [hby t hin]; decide
  have hsilent : o.missing = [] := by
    unfold OpenCast.missing
    rw [ht]
    refine List.filter_eq_nil_iff.mpr fun t hin => ?_
    have hone := of_decide_eq_true (hby t hin)
    unfold Tab.at at hone
    intro hno
    rw [Option.isNone_iff_eq_none.mp hno] at hone
    exact absurd hone (by decide)
  unfold listMembers
  rw [ho]
  dsimp only
  rw [hout, hsilent]
  refine checkStops_met (s := s.listed h) _ fun c hc => ?_
  obtain ⟨hin, hlt⟩ := List.mem_filter.mp hc
  exact hstop c hin (of_decide_eq_true hlt)

/-- The state that a quench with members leaves before its entry completes (R264). -/
def State.closedCut (s : State) (h : InHand) : State :=
  let s := State.tidyCasts { s with qu := { s.qu with closing := none } }
  let s := s.cutFlag CutFlag.partialCut s.someOut
  let e := s.entry h.entry
  s.putEntry h.entry { e with time := h.time, late := e.late || decide (0 < h.postponed) }

theorem State.closeQuench_members {s : State} {h : InHand} (hm : s.qu.members ≠ 0) :
    s.closeQuench h = ((s.closedCut h).completeEntry h.entry).podOutcome h.entry :=
  congrArg (fun x : State => x.podOutcome h.entry) (if_neg hm)

theorem State.closedCut_spec (s : State) (h : InHand) :
    (s.closedCut h).qu.closing = none ∧ (s.closedCut h).qu.members = s.qu.members ∧
    (s.closedCut h).sched = (s.putEntry h.entry { s.entry h.entry with
      time := h.time, late := (s.entry h.entry).late || decide (0 < h.postponed) }).sched := ⟨rfl, rfl, rfl⟩

/-- Settles O16. -/
theorem quenchOutcome : Obligations.QuenchOutcome := by
  refine ⟨fun dt s h o hh ho hdec hsel ha hd ht => ⟨fun hc => ?_, fun hc hm hp he h3 => ?_⟩,
    fun s u id t hu h => ?_, fun dt n s q h o hq hh ho ha hd hc hn hn0 hdue => ?_,
    fun dt n s q h o hq hcl ho hc hl hdue ht hall hm hn hle hstop => ?_, fun dt n s h hfind hdue => ?_⟩
  · obtain ⟨hstate, hhand, hcount⟩ := State.decide_arms (s := s.begin dt) (h := h) (o := o) ha hc
    exact ⟨_, State.quenchDecision_due hh ho hdec hsel hd ht, hstate, hhand, hcount⟩
  · have hpost := State.decide_postpones (s := s.begin dt) ha hc hm hp he h3 ht
    obtain ⟨h', hhand, htime, hnum, hcount, l, hemit⟩ := ((s.begin dt).counted o).postpone_spec h
    refine ⟨_, h', (State.quenchDecision_due hh ho hdec hsel hd ht).trans (congrArg Host.Outcome.next hpost), hhand,
      htime, hnum, hcount, ?_⟩
    rw [hemit]
    rfl
  · rw [State.stopsFall_eq]
    exact State.stopArmOf_foldl _ s List.nodup_range (List.mem_range.mpr hu) h
  · obtain ⟨l, hl⟩ := State.takeCut_eq ho hn hn0 hc
    obtain ⟨hstate, hid, hpns, hmem, hnone, hclosing, hunits⟩ := (q.cutAt h).cutFlags_sameCut l
    rw [← hl] at hstate hid hpns hmem hnone hclosing hunits
    have hacted : targetSet (((q.openCast h.castId).map OpenCast.acted).getD []) = targetSet o.acted := by
      rw [ho]
      rfl
    have hcut : q.qu.cutId = s.qu.cutId := by
      rw [hq]
      exact (s.begin dt).stopsFall_cutId
    exact ⟨q.takeCut h, _, State.cutTaken_due hq hh ha hd hdue, hstate,
      hid.trans (congrArg (fun n => (n + 1) % 2 ^ 32) hcut), hpns, hmem.trans hacted, hnone, hclosing, rfl, hunits⟩
  · let m : State := q.listed h
    have hlist : q.listMembers h = m := State.listMembers_all ho ht hall hstop
    have hfinal : m.membershipFinal { h with membershipListed := true } = true := by
      unfold State.membershipFinal
      rw [show m.openCast h.castId = some o from ho]
      dsimp only
      rw [hn]
      exact Bool.and_of rfl (Bool.or_eq_true_iff.mpr (.inl (decide_eq_true hle)))
    have hsettle : m.settleQuench = m.closeQuench { h with membershipListed := true } :=
      if_pos (Bool.and_of (congrArg not hc) hfinal)
    obtain ⟨hnone, hmem, hsched⟩ := m.closedCut_spec { h with membershipListed := true }
    refine ⟨m.closedCut { h with membershipListed := true }, ?_, hnone, hmem, hsched⟩
    show execQuenchMembership dt s = _
    unfold execQuenchMembership
    dsimp only
    rw [← hq, hcl]
    refine congrArg Host.Outcome.next ((if_pos (Bool.and_of (congrArg not hc) (decide_eq_true hdue))).trans ?_)
    rw [hl]
    exact (congrArg State.settleQuench hlist).trans (hsettle.trans (State.closeQuench_members hm))
  · refine ⟨_, ?_, rfl⟩
    show execQuCancelLate dt n s = _
    unfold execQuCancelLate
    dsimp only
    rw [show (s.begin dt).qu.lateCancels.find? (fun h => h.entry = n) = some h from hfind]
    refine congrArg Host.Outcome.next ((if_pos (decide_eq_true hdue)).trans ?_)
    rfl

end Sys2Proof.Machine
end

section
/-!
PROOFS. Steps and resumes (R43, R44, R289–R296, O17).
-/
namespace Sys2Proof.Machine

/-! ## Bit sets -/

theorem getLsbD_setBit_true {w : Nat} (v : BitVec w) (i j : Nat) :
    (setBit v i true).getLsbD j = (v.getLsbD j || (decide (j < w) && decide (i = j))) := by
  unfold setBit
  rw [if_pos rfl, BitVec.getLsbD_or, BitVec.getLsbD_ofNat, Nat.testBit_two_pow]

/-- The bits of a list of numbers that fit. -/
theorem getLsbD_setBits {w : Nat} (l : List Nat) (b : BitVec w) {c : Nat} (hc : c < w) :
    (l.foldl (fun b t => setBit b t true) b).getLsbD c = true ↔ c ∈ l ∨ b.getLsbD c = true := by
  induction l generalizing b with
  | nil => simp
  | cons t l ih =>
    rw [List.foldl_cons, ih, getLsbD_setBit_true, List.mem_cons]
    simp only [decide_eq_true hc, Bool.true_and, Bool.or_eq_true, decide_eq_true_eq]
    constructor
    · rintro (h | h | h)
      exacts [.inl (.inr h), .inr h, .inl (.inl h.symm)]
    · rintro ((h | h) | h)
      exacts [.inr (.inr h.symm), .inl h, .inr (.inl h)]

/-! ## What a unit's release arm stands in -/

theorem State.runner_modRunner {s : State} (h : Tab.sortedFrom 0 s.units.runners = true) (d : Nat)
    (f : Runner → Runner) : (s.modRunner d f).runner d = f (s.runner d) :=
  Tab.at_mod_self s.units.runners d Runner.fresh f h

theorem State.group_modGroup {s : State} (h : Tab.sortedFrom 0 s.units.groups = true) (d : Nat)
    (f : NetGroup → NetGroup) : (s.modGroup d f).group d = f (s.group d) :=
  Tab.at_mod_self s.units.groups d NetGroup.fresh f h

/-- The release arm of a unit, in a state that the arm can be read from after other units have been written: a tap out
of reset, and rising tables of runners and groups. -/
structure State.HoldsRelease (s : State) (u : Nat) (a : Option (Nat × Nat)) : Prop where
  arm : s.releaseArmOf u = a
  running : u < 128 → (s.tap u).inReset = false
  sorted : 128 ≤ u → Tab.sortedFrom 0 s.units.runners = true ∧ Tab.sortedFrom 0 s.units.groups = true

section
variable {s t : State} {u v : Nat} {a : Option (Nat × Nat)}

theorem State.releaseArmOf_congr (htap : u < 128 → (t.tap u).inReset = (s.tap u).inReset ∧
      (t.tap u).releaseArm = (s.tap u).releaseArm)
    (hr : t.units.runners = s.units.runners) (hg : t.units.groups = s.units.groups) :
    t.releaseArmOf u = s.releaseArmOf u := by
  unfold releaseArmOf runner group
  rw [hr, hg]
  split
  next hu =>
    obtain ⟨hin, harm⟩ := htap hu
    rw [hin, harm]
  · rfl

theorem State.HoldsRelease.of_taps (h : s.HoldsRelease u a)
    (htap : u < 128 → (t.tap u).inReset = (s.tap u).inReset ∧ (t.tap u).releaseArm = (s.tap u).releaseArm)
    (hr : t.units.runners = s.units.runners) (hg : t.units.groups = s.units.groups) : t.HoldsRelease u a where
  arm := (releaseArmOf_congr htap hr hg).trans h.arm
  running hu := (htap hu).1.trans (h.running hu)
  sorted hu := by
    rw [hr, hg]
    exact h.sorted hu

theorem State.HoldsRelease.of_units (h : s.HoldsRelease u a) (he : t.units = s.units) : t.HoldsRelease u a := by
  have htap (c : Nat) : t.tap c = s.tap c := congrArg (fun x : Units => Tab.at x.taps c Tap.fresh) he
  refine h.of_taps (fun _ => ?_) (congrArg Units.runners he) (congrArg Units.groups he)
  rw [htap]
  exact ⟨rfl, rfl⟩

theorem State.HoldsRelease.modTap_ne (h : s.HoldsRelease u a) (f : Tap → Tap) (hv : u ≠ v) :
    (s.modTap v f).HoldsRelease u a := by
  have htap : (s.modTap v f).tap u = s.tap u := Tab.at_mod_ne s.units.taps Tap.fresh Tap.fresh f hv
  refine h.of_taps (fun _ => ?_) rfl rfl
  rw [htap]
  exact ⟨rfl, rfl⟩

/-- A change of a tap that leaves its reset and its release arm. -/
theorem State.HoldsRelease.modTap (h : s.HoldsRelease u a) (f : Tap → Tap) (v : Nat)
    (hf : ∀ x, (f x).inReset = x.inReset ∧ (f x).releaseArm = x.releaseArm) : (s.modTap v f).HoldsRelease u a := by
  by_cases hv : u = v
  · subst hv
    refine h.of_taps (fun hu => ?_) rfl rfl
    rw [s.tap_modTap_running u f ((hf _).1.trans (h.running hu))]
    exact hf _
  · exact h.modTap_ne f hv

theorem State.HoldsRelease.modRunner_ne (h : s.HoldsRelease u a) (f : Runner → Runner) (hv : u ≠ v)
    (h128 : 128 ≤ v) : (s.modRunner (v - 128) f).HoldsRelease u a where
  arm := by
    have harm : (s.modRunner (v - 128) f).releaseArmOf u = s.releaseArmOf u := by
      unfold releaseArmOf
      split
      · rfl
      · have hrunner : (s.modRunner (v - 128) f).runner (u - 128) = s.runner (u - 128) :=
          Tab.at_mod_ne s.units.runners Runner.fresh Runner.fresh f (by omega)
        rw [hrunner]
        rfl
    exact harm.trans h.arm
  running := h.running
  sorted hu := ⟨Tab.sortedFrom_set _ _ _ (Nat.zero_le _) (h.sorted hu).1, (h.sorted hu).2⟩

theorem State.HoldsRelease.modGroup_ne (h : s.HoldsRelease u a) (f : NetGroup → NetGroup) (hv : u ≠ v)
    (h144 : 144 ≤ v) : (s.modGroup (v - 144) f).HoldsRelease u a where
  arm := by
    have harm : (s.modGroup (v - 144) f).releaseArmOf u = s.releaseArmOf u := by
      unfold releaseArmOf
      split
      · rfl
      · split
        · rfl
        · have hgroup : (s.modGroup (v - 144) f).group (u - 144) = s.group (u - 144) :=
            Tab.at_mod_ne s.units.groups NetGroup.fresh NetGroup.fresh f (by omega)
          rw [hgroup]
    exact harm.trans h.arm
  running := h.running
  sorted hu := ⟨(h.sorted hu).1, Tab.sortedFrom_set _ _ _ (Nat.zero_le _) (h.sorted hu).2⟩

/-- A line into a sink writes no unit but the tap whose overflow it tells (R521). -/
theorem State.HoldsRelease.takeLine (h : s.HoldsRelease u a) (die : Nat) (line : List Byte) :
    (s.takeLine die line).HoldsRelease u a := by
  have hsink : (s.takeLine die line).units = (s.countOvf die line).units :=
    same_of_frame .units (sinkLine_frame (s.countOvf die line) die line) rfl
  refine HoldsRelease.of_units (s := s.countOvf die line) ?_ hsink
  unfold countOvf
  split
  · dsimp only
    split
    · exact h.of_units rfl
    · refine HoldsRelease.modTap ?_ _ _ fun _ => ⟨rfl, rfl⟩
      exact h.of_units rfl
  · exact h

theorem State.HoldsRelease.thawSink (h : s.HoldsRelease u a) (die : Nat) : (s.thawSink die).HoldsRelease u a := by
  have hlines (l : List (List Byte)) (s : State) (h : s.HoldsRelease u a) :
      (l.foldl (fun s x => s.takeLine die x) s).HoldsRelease u a := by
    induction l generalizing s with
    | nil => exact h
    | cons x l ih => exact ih _ (h.takeLine die x)
  exact hlines _ _ (h.of_units rfl)

theorem State.HoldsRelease.thawPorts (h : s.HoldsRelease u a) (l : List Nat) :
    (l.foldl (fun s p => s.modPort p thawedPort) s).HoldsRelease u a := by
  induction l generalizing s with
  | nil => exact h
  | cons p l ih => exact ih (h.of_taps (fun _ => ⟨rfl, rfl⟩) rfl rfl)

/-- A unit that is released leaves the arm of every other. -/
theorem State.HoldsRelease.releaseUnit_ne (h : s.HoldsRelease u a) (hv : u ≠ v) :
    (s.releaseUnit v).HoldsRelease u a := by
  unfold releaseUnit
  split
  · split
    · exact h.modTap_ne _ hv
    · exact h.modTap_ne _ hv
  · split
    · exact (h.modRunner_ne _ hv (by omega)).thawSink _
    · exact (h.modGroup_ne _ hv (by omega)).thawPorts _

/-- A unit that is released is no longer armed (R43, R44); a tap in chill only latches its release (R48). -/
theorem State.HoldsRelease.releaseUnit_self (h : s.HoldsRelease u a) (hc : u < 128 → s.chilled u = false) :
    (s.releaseUnit u).HoldsRelease u none := by
  have htap (f : Tap → Tap) (hu : u < 128) (hf : ∀ x, (f x).inReset = x.inReset ∧ (f x).releaseArm = .none) :
      (s.modTap u f).HoldsRelease u none := by
    have hself := s.tap_modTap_running u f ((hf _).1.trans (h.running hu))
    refine ⟨?_, fun _ => ?_, h.sorted⟩
    · unfold releaseArmOf
      rw [if_pos hu, hself, (hf _).2]
      split <;> rfl
    · rw [hself]
      exact (hf _).1.trans (h.running hu)
  unfold releaseUnit
  split
  next hu =>
    unfold tapStep tapRelease
    rw [hc hu]
    split
    · exact htap _ hu fun _ => ⟨rfl, rfl⟩
    · exact htap _ hu fun _ => ⟨rfl, rfl⟩
  next hu =>
    obtain ⟨hrunners, hgroups⟩ := h.sorted (by omega)
    split
    next hr =>
      have hself : (s.modRunner (u - 128) fun x => { x with thawArm := none, frozen := false }).runner (u - 128) =
          { s.runner (u - 128) with thawArm := none, frozen := false } 
:=
        runner_modRunner hrunners _ _
      have hthawed : (s.modRunner (u - 128) fun x =>
          { x with thawArm := none, frozen := false }).HoldsRelease u none := by
        refine ⟨?_, fun k => absurd k hu, fun _ => ⟨Tab.sortedFrom_set _ _ _ (Nat.zero_le _) hrunners, hgroups⟩⟩
        unfold releaseArmOf
        rw [if_neg hu, if_pos hr, hself]
      exact hthawed.thawSink _
    next hr =>
      have hself : (s.modGroup (u - 144) fun x => { x with thawArm := none, frozenAt := none }).group (u - 144) =
          { s.group (u - 144) with thawArm := none, frozenAt := none } 
:=
        group_modGroup hgroups _ _
      have hthawed : (s.modGroup (u - 144) fun x =>
          { x with thawArm := none, frozenAt := none }).HoldsRelease u none := by
        refine ⟨?_, fun k => absurd k hu, fun _ => ⟨hrunners, Tab.sortedFrom_set _ _ _ (Nat.zero_le _) hgroups⟩⟩
        unfold releaseArmOf
        rw [if_neg hu, if_neg hr, hself]
      exact hthawed.thawPorts _

end

/-! ## The instant in each unit's own replica (R43, R44) -/

/-- The parts that the instant of a release is read from. -/
def State.SameInstants (s t : State) : Prop :=
  t.units.replicas = s.units.replicas ∧ t.elapsed = s.elapsed ∧ t.topo = s.topo

theorem State.SameInstants.trans {s t u : State} (h : s.SameInstants t) (k : t.SameInstants u) : s.SameInstants u :=
  ⟨k.1.trans h.1, k.2.1.trans h.2.1, k.2.2.trans h.2.2⟩

theorem State.SameInstants.dueAt {s t : State} (h : s.SameInstants t) (u at_ : Nat) :
    t.dueAt u at_ = s.dueAt u at_ := by
  obtain ⟨hrep, hnow, -⟩ := h
  unfold State.dueAt replicaPns replica
  rw [hrep, hnow]

theorem State.SameInstants.chilled {s t : State} (h : s.SameInstants t) (u : Nat) : t.chilled u = s.chilled u := by
  unfold State.chilled
  rw [h.2.2]

theorem State.takeLine_sameInstants (s : State) (die : Nat) (line : List Byte) :
    s.SameInstants (s.takeLine die line) := by
  have hsink : Changes [.trace, .dram] (s.countOvf die line) (s.takeLine die line) :=
    sinkLine_frame (s.countOvf die line) die line (.refl _ _) (by decide)
  have hcount : s.SameInstants (s.countOvf die line) := by
    unfold countOvf
    split
    · dsimp only
      split <;> exact ⟨rfl, rfl, rfl⟩
    · exact ⟨rfl, rfl, rfl⟩
  exact hcount.trans ⟨congrArg Units.replicas (hsink .units (by decide)), hsink .elapsed (by decide),
    hsink .topo (by decide)⟩

/-- A fold over steps that keep the instants keeps them. -/
theorem State.SameInstants.foldl {α : Type} {f : State → α → State}
    (hf : ∀ (s : State) (x : α), s.SameInstants (f s x)) (l : List α) (s : State) :
    s.SameInstants (l.foldl f s) := by
  induction l generalizing s with
  | nil => exact ⟨rfl, rfl, rfl⟩
  | cons x l ih => exact (hf s x).trans (ih _)

theorem State.releaseUnit_sameInstants (s : State) (u : Nat) : s.SameInstants (s.releaseUnit u) := by
  unfold releaseUnit
  split
  · split <;> exact ⟨rfl, rfl, rfl⟩
  · split
    · let x := (s.modRunner (u - 128) fun x =>
        { x with thawArm := none, frozen := false }).modSink (u - 128) fun k =>
        { k with frozen := false, heldLines := [] }
      have hx : s.SameInstants x := ⟨rfl, rfl, rfl⟩
      exact hx.trans (.foldl (fun s l => s.takeLine_sameInstants _ l) _ x)
    · have hports (l : List Nat) (s : State) : s.SameInstants (l.foldl (fun s p => s.modPort p thawedPort) s) :=
        .foldl (f := fun s p => s.modPort p thawedPort) (fun _ _ => ⟨rfl, rfl, rfl⟩) l s
      have hgroup : s.SameInstants (s.modGroup (u - 144) fun x =>
          { x with thawArm := none, frozenAt := none }) :=
        ⟨rfl, rfl, rfl⟩
      exact hgroup.trans (hports _ _)

/-- An armed release, step or thaw of the unit whose instant has come in its own replica acts (R43, R44, R294). -/
def State.releaseFalls (s : State) (u : Nat) : State :=
  match s.releaseArmOf u with
  | some (id, t) => if s.dueAt u t then ((s.noteJump u t).releaseUnit u).noteActor id u else s
  | none => s

theorem State.releasesFall_eq (s : State) : s.releasesFall = (List.range 160).foldl State.releaseFalls s := rfl

theorem State.noteJump_sameInstants (s : State) (u t : Nat) : s.SameInstants (s.noteJump u t) := by
  unfold noteJump
  split <;> exact ⟨rfl, rfl, rfl⟩

theorem State.releaseFalls_sameInstants (s : State) (u : Nat) : s.SameInstants (s.releaseFalls u) := by
  unfold releaseFalls
  split
  next id t _ =>
    split
    · exact (s.noteJump_sameInstants u t).trans ((releaseUnit_sameInstants _ u).trans ⟨rfl, rfl, rfl⟩)
    · exact ⟨rfl, rfl, rfl⟩
  · exact ⟨rfl, rfl, rfl⟩

section
variable {s : State} {u v : Nat} {a : Option (Nat × Nat)}

theorem State.HoldsRelease.noteJump (h : s.HoldsRelease u a) (v t : Nat) : (s.noteJump v t).HoldsRelease u a := by
  unfold State.noteJump
  split
  · exact h.modTap _ _ fun _ => ⟨rfl, rfl⟩
  · exact h

theorem State.HoldsRelease.releaseFalls_ne (h : s.HoldsRelease u a) (hv : u ≠ v) :
    (s.releaseFalls v).HoldsRelease u a := by
  unfold releaseFalls
  split
  · split
    · exact ((h.noteJump v _).releaseUnit_ne hv).of_units rfl
    · exact h
  · exact h

theorem State.HoldsRelease.releaseFalls_self {id t : Nat} (h : s.HoldsRelease u (some (id, t)))
    (hc : u < 128 → s.chilled u = false) :
    (s.releaseFalls u).HoldsRelease u (if s.dueAt u t then none else some (id, t)) := by
  unfold releaseFalls
  rw [h.arm]
  dsimp only
  split
  · refine HoldsRelease.of_units (HoldsRelease.releaseUnit_self (h.noteJump u t) fun hu => ?_) rfl
    exact ((s.noteJump_sameInstants u t).chilled u).trans (hc hu)
  · exact h

end

/-- Among units that each fall once, each that is due is no longer armed, and no other changes. -/
theorem State.HoldsRelease.foldl (l : List Nat) {s : State} {u id t : Nat} (hl : l.Nodup) (hu : u ∈ l)
    (h : s.HoldsRelease u (some (id, t))) (hc : u < 128 → s.chilled u = false) :
    (l.foldl State.releaseFalls s).HoldsRelease u (if s.dueAt u t then none else some (id, t)) := by
  have hrest {a : Option (Nat × Nat)} (l : List Nat) (s : State) (hu : u ∉ l) (h : s.HoldsRelease u a) :
      (l.foldl State.releaseFalls s).HoldsRelease u a := by
    induction l generalizing s with
    | nil => exact h
    | cons v l ih =>
      obtain ⟨hv, hl⟩ := not_or.mp fun k => hu (List.mem_cons.mpr k)
      exact ih _ hl (h.releaseFalls_ne hv)
  induction l generalizing s with
  | nil => exact absurd hu List.not_mem_nil
  | cons v l ih =>
    obtain ⟨hv, hl⟩ := List.nodup_cons.mp hl
    by_cases huv : u = v
    · subst huv
      exact hrest l _ hv (h.releaseFalls_self hc)
    · have hsame := s.releaseFalls_sameInstants v
      have hstep := ih hl ((List.mem_cons.mp hu).resolve_left huv) (h.releaseFalls_ne huv) fun hu =>
        (hsame.chilled u).trans (hc hu)
      rwa [hsame.dueAt] at hstep

/-! ## Steps -/

theorem State.selectAll_coreSelect {s : State} (ts : BitVec 160) (hs : Tab.sortedFrom 0 s.units.taps = true) {c : Nat}
    (hc : c ∈ targetsOf ts) (hlt : c < 128) : ((s.selectAll ts).tap c).coreSelect = BitVec.allOnes 136 := by
  have hfold (l : List Nat) (s : State) (hs : Tab.sortedFrom 0 s.units.taps = true)
      (h : c ∈ l ∨ (s.tap c).coreSelect = BitVec.allOnes 136) :
      ((l.foldl (fun s t => s.modTap t fun x => { x with coreSelect := BitVec.allOnes 136 }) s).tap c).coreSelect =
        BitVec.allOnes 136 := by
    induction l generalizing s with
    | nil => exact h.resolve_left List.not_mem_nil
    | cons t l ih =>
      refine ih _ (Tab.sortedFrom_set _ _ _ (Nat.zero_le _) hs) ?_
      by_cases hct : c = t
      · subst hct
        exact .inr (congrArg Tap.coreSelect (Tab.at_mod_self s.units.taps c Tap.fresh
          (fun x => { x with coreSelect := BitVec.allOnes 136 }) hs))
      · have htap := Tab.at_mod_ne s.units.taps Tap.fresh Tap.fresh
          (fun x => { x with coreSelect := BitVec.allOnes 136 }) hct
        exact (h.imp (fun h => (List.mem_cons.mp h).resolve_left hct) (congrArg Tap.coreSelect htap).trans)
  exact hfold _ s hs (.inl (List.mem_filter.mpr ⟨hc, decide_eq_true hlt⟩))

/-- The hub's cut, cut flags and entry in hand stand while arms fall, but for who acted. -/
theorem State.releaseFalls_cutPns (s : State) (u : Nat) : (s.releaseFalls u).qu.cutPns = s.qu.cutPns := by
  have hrelease (s : State) : (s.releaseUnit u).qu = s.qu := by
    unfold releaseUnit
    split
    · split <;> rfl
    · split
      · let x := s.modRunner (u - 128) fun x => { x with thawArm := none, frozen := false }
        have hsink : (x.thawSink (u - 128)).qu = x.qu := same_of_frame .qu (thawSink_frame x (u - 128)) rfl
        exact hsink
      · have hgroup : (s.thawGroup (u - 144)).qu = s.qu := same_of_frame .qu (thawGroup_frame s (u - 144)) rfl
        exact hgroup
  unfold releaseFalls
  split
  next id t _ =>
    split
    · have hjump : (s.noteJump u t).qu = s.qu := same_of_frame .qu (noteJump_frame s u t) rfl
      have hcut := congrArg Quench.cutPns ((hrelease (s.noteJump u t)).trans hjump)
      exact hcut
    · rfl
  · rfl

theorem State.releasesFall_cutPns (s : State) : s.releasesFall.qu.cutPns = s.qu.cutPns := by
  rw [releasesFall_eq]
  exact foldl_eq (fun s => s.qu.cutPns) releaseFalls_cutPns (List.range 160) s

/-- The state in which a step has begun (R290, R291). -/
def State.stepBegun (s : State) (h : InHand) : State :=
  let acting := s.releasedOf h
  let taps := acting.filter fun t => decide (t < 128)
  { s with qu := { s.qu with
      state := Qs.stepping, hand := some { h with taken := true, actors := targetSet acting }
      stepping := taps.foldl (fun b t => setBit b t true) 0, overrun := 0
      stepFrom := (taps.filter fun t => !s.chilled t).foldl (fun m t => Tab.put m t h.time) []
      refreeze := if h.stepNet then
          some (h.time + refreezeAfter h.stepCycles, targetSet (acting.filter fun t => decide (144 ≤ t)))
        else none } }

theorem State.stepBegun_stepping (s : State) (h : InHand) {c : Nat} (hc : c < 128) :
    (s.stepBegun h).qu.stepping.getLsbD c = true ↔ c ∈ s.releasedOf h := by
  refine (getLsbD_setBits _ 0 hc).trans ?_
  have hzero : (0 : BitVec 128).getLsbD c = false := BitVec.getLsbD_zero
  rw [hzero]
  simp only [Bool.false_eq_true, or_false, List.mem_filter, decide_eq_true hc, and_true]

/-- A step that some tap has begun goes on (R290, R292). -/
theorem State.startStep_eq {s : State} {h : InHand} {o : OpenCast} {n : Nat} (ho : s.openCast h.castId = some o)
    (hn : o.count = some n) (hn0 : n ≠ 0) (hc : h.cancelled = false) (ht : ∃ c ∈ s.releasedOf h, c < 128) :
    s.startStep h = (s.stepBegun h).cutFlag CutFlag.stepped true := by
  have hcount := countOf_hand ho hn
  obtain ⟨c, hin, hlt⟩ := ht
  have hstepping : (s.stepBegun h).qu.stepping ≠ 0 := by
    intro hzero
    have hbit := (s.stepBegun_stepping h hlt).mpr hin
    have hno : (0 : BitVec 128).getLsbD c = false := BitVec.getLsbD_zero
    rw [hzero, hno] at hbit
    exact Bool.noConfusion hbit
  have hsome : ¬(decide (((s.openCast h.castId).bind OpenCast.count).getD 0 = 0) = true) := by
    rw [hcount]
    exact fun k => hn0 (of_decide_eq_true k)
  obtain ⟨entry, action, time, castId, targets, postponed, decided, before, pod, emergency, taken, listed, cancelled,
    cycles, net, selecting, actors⟩ := h
  subst hc
  have hsettle (t : State) (h : t.qu.stepping ≠ 0) : t.settleStep = t := by
    unfold settleStep
    split
    · exact if_neg fun k => h (of_decide_eq_true (Bool.and_eq_true_iff.mp k).2)
    · rfl
  exact (if_neg hsome).trans (hsettle _ hstepping)

theorem State.holdsRelease_of_arm {s : State} {u : Nat} {a : Nat × Nat} (h : s.releaseArmOf u = some a)
    (hs : 128 ≤ u → Tab.sortedFrom 0 s.units.runners = true ∧ Tab.sortedFrom 0 s.units.groups = true) :
    s.HoldsRelease u (some a) := by
  refine ⟨h, fun hu => ?_, hs⟩
  unfold releaseArmOf at h
  rw [if_pos hu] at h
  split at h
  · exact nomatch h
  next hin => exact Bool.eq_false_iff.mpr hin

/-- The state in which a resume has been taken, before its entry completes (R295, R296). -/
def State.resumeTaken (s : State) (h : InHand) : State :=
  State.tidyCasts { s.afterRelease h.castId with qu := { (s.afterRelease h.castId).qu with hand := none } }

/-- A resume whose targets have all answered (R296). -/
theorem State.takeResume_eq {s : State} {h : InHand} {o : OpenCast} {n : Nat} (ho : s.openCast h.castId = some o)
    (hn : o.count = some n) (hle : (targetsOf h.targets).length ≤ n) (hc : h.cancelled = false) :
    s.takeResume h = (s.resumeTaken h).completeEntry h.entry := by
  have hfull : ¬(decide (((s.openCast h.castId).bind OpenCast.count).getD 0 < (targetsOf h.targets).length) =
      true) := by
    rw [countOf_hand ho hn]
    exact fun k => absurd (of_decide_eq_true k) (Nat.not_lt.mpr hle)
  obtain ⟨entry, action, time, castId, targets, postponed, decided, before, pod, emergency, taken, listed, cancelled,
    cycles, net, selecting, actors⟩ := h
  subst hc
  exact congrArg (fun x : State => (State.tidyCasts { x with qu := { x.qu with hand := none } }).completeEntry entry)
    (if_neg hfull)

theorem State.resumeTaken_spec (s : State) (h : InHand) :
    (s.resumeTaken h).qu.hand = none ∧
    ((s.resumeTaken h).qu.state = if (s.resumeTaken h).qu.members = 0 then Qs.idle else Qs.mixed) ∧
    (s.resumeTaken h).units = s.units := ⟨rfl, rfl, rfl⟩

/-- An entry in hand that is due and not taken (R238). -/
theorem InHand.due_guard {s : State} {h : InHand} {n : Nat} (ha : h.action = n) (hd : h.decided = true)
    (ht : h.taken = false) (hdue : s.handDue h = true) :
    (decide (h.action = n) && h.decided && !h.taken && s.handDue h) = true :=
  Bool.and_of (Bool.and_of (Bool.and_of (decide_eq_true ha) hd) (congrArg not ht)) hdue

/-- Settles O17. -/
theorem stepsAndResumes : Obligations.StepsAndResumes := by
  refine ⟨fun dt s h hh ha hsel hlate => ?_, fun s u id t hu harm hchill hsorted => ?_,
    fun dt n s q h o hq hh ha hd htaken hc hdue ho hn hn0 ht => ?_, fun dt tm groups s hr hdue => ?_,
    fun dt c s q hq hbit hend => ?_, fun dt c from_ s hbit hover hend hfrom hdue => ?_,
    fun dt n s q h o hq hh ha hd htaken hc hdue ho hn hle => ?_⟩
  · let x := ((s.begin dt).ringDrop fun t => t.use = .coreSelect).selectAll h.targets
    refine ⟨{ x with qu := { x.qu with hand := none, state := Qs.quenched } }, ?_, rfl, rfl, fun hs c hc hlt => ?_⟩
    · show execStepSelectLate dt s = _
      unfold execStepSelectLate
      dsimp only
      rw [show (s.begin dt).qu.hand = some h from hh]
      exact congrArg Host.Outcome.next
        (if_pos (Bool.and_of (Bool.and_of (decide_eq_true ha) (decide_eq_true hsel)) (decide_eq_true hlate)))
    · exact State.selectAll_coreSelect (s := (s.begin dt).ringDrop fun t => t.use = .coreSelect) h.targets hs hc hlt
  · rw [State.releasesFall_eq]
    exact ((State.holdsRelease_of_arm harm hsorted).foldl _ List.nodup_range (List.mem_range.mpr hu) hchill).arm
  · have hexec : exec (.stepStart dt) s = .next (q.startStep h) := by
      show execStepStart dt s = _
      unfold execStepStart
      dsimp only
      rw [← hq, hh]
      exact congrArg Host.Outcome.next (if_pos (InHand.due_guard ha hd htaken hdue))
    have hcut : q.qu.cutPns = s.qu.cutPns := by
      rw [hq]
      exact (s.begin dt).releasesFall_cutPns
    rw [State.startStep_eq ho hn hn0 hc ht] at hexec
    exact ⟨_, _, hexec, rfl, rfl, rfl, hcut, fun hnet => if_pos hnet, fun c hc => q.stepBegun_stepping h hc⟩
  · let x := (targetsOf groups).foldl (fun s u => s.freezeGroup (u - 144) tm) (s.begin dt)
    refine ⟨{ x with qu := { x.qu with refreeze := none } }, ?_, rfl, rfl⟩
    show execNetRefreeze dt s = _
    unfold execNetRefreeze
    dsimp only
    rw [show (s.begin dt).qu.refreeze = some (tm, groups) from hr]
    exact congrArg Host.Outcome.next (if_pos (decide_eq_true hdue))
  · refine ⟨{ q.modTap c Tap.endStep with qu := { q.qu with stepping := setBit q.qu.stepping c false } }, ?_,
      rfl, rfl⟩
    show execStepPoll dt c s = _
    unfold execStepPoll
    rw [← hq]
    exact congrArg Host.Outcome.next (if_pos (Bool.and_of hbit hend))
  · refine ⟨{ s.begin dt with qu := { s.qu with overrun := setBit s.qu.overrun c true } }, ?_, rfl, fun p hp => ?_⟩
    · show execStepOverrun dt c s = _
      unfold execStepOverrun
      dsimp only
      rw [show Tab.find (s.begin dt).qu.stepFrom c = some from_ from hfrom]
      exact congrArg Host.Outcome.next (if_pos (Bool.and_of (Bool.and_of (Bool.and_of hbit (congrArg not hover))
        (congrArg not hend)) (decide_eq_true hdue)))
    · cases p <;> first | rfl | exact absurd (by decide) hp
  · obtain ⟨hnone, hstate, hunits⟩ := q.resumeTaken_spec h
    refine ⟨q.resumeTaken h, ?_, hnone, ?_, ?_, hunits⟩
    · show execResumeAtTime dt s = _
      unfold execResumeAtTime
      dsimp only
      rw [← hq, hh]
      exact congrArg Host.Outcome.next ((if_pos (InHand.due_guard ha hd htaken hdue)).trans
        (State.takeResume_eq ho hn hle hc))
    · rw [hstate]
      split
      · exact .inl rfl
      · exact .inr rfl
    · rw [hstate]
      split
      next hz => exact ⟨fun _ => hz, fun _ => rfl⟩
      next hz => exact ⟨fun k => absurd k (by decide), fun k => absurd k hz⟩

end Sys2Proof.Machine
end

section
/-!
PROOFS. The pod-wide quench at a node and at its grandmaster (R275–R285, R446, O18).
-/
namespace Sys2Proof.Machine

/-! ## An order as a node takes it (R278, R280) -/

/-- The state in which an order has been taken and forwarded, before its QUENCH is entered. -/
def State.orderTaken (s : State) (msg : List Byte) : State :=
  let x := (s.cutSeen (cutSeq msg) 1).cutForward 1 (cutSeq msg) msg
  { x with
    qu := { x.qu with orderSeq := cutSeq msg }
    podCut := { x.podCut with
      order := some (cutSeq msg, fieldBe msg 24 8, fieldBe msg 32 8), sumIn := 0, sumOut := 0
      sumClusters := 0, ackSent := false, summarised := false, ownIn := none } }

theorem State.cutOrder_first {s : State} {dt port : Nat} {msg : List Byte} (ha : s.cutAccepted port 1 msg = true)
    (hs : s.podCut.seen.contains (cutSeq msg, 1) = false) :
    exec (.cutOrderReceive dt port msg) s =
      .next (((s.begin dt).orderTaken msg).enterOrder (cutSeq msg) (fieldBe msg 24 8)) :=
  congrArg Host.Outcome.next (if_pos (Bool.and_of ha (congrArg not hs)))

/-- The kind of a cut message stands in its first octet (R275). -/
theorem cutMessage_kind (copy seq hops gm sender t issue i o c : Nat) :
    fieldBe (cutMessage 1 copy seq hops gm sender t issue i o c) 0 1 % 16 = 1 := by
  simp only [cutMessage, fieldBe, slice, be, List.cons_append, List.nil_append, List.drop_zero, List.take_succ_cons,
    List.take_zero]
  rfl

theorem State.sendCopies_order (s : State) {m : List Byte} (h : fieldBe m 0 1 % 16 = 1) :
    (s.sendCopies m).emitted = s.emitted ++ s.downstream.map fun p => ⟨.cutOrder, p, withCopy m 0⟩ := by
  unfold sendCopies
  rw [h]
  rfl

theorem State.orderTaken_emitted (s : State) (msg : List Byte) :
    (s.orderTaken msg).emitted = s.emitted ++ s.downstream.map fun p => ⟨.cutOrder, p,
      withCopy (cutMessage 1 0 (cutSeq msg) s.pod.hops s.pod.gmId s.fuses.serial (fieldBe msg 24 8)
        (fieldBe msg 32 8) 0 0 0) 0⟩ := by
  have hsent := (s.cutSeen (cutSeq msg) 1).sendCopies_order (m := cutMessage 1 0 (cutSeq msg) s.pod.hops s.pod.gmId
    s.fuses.serial (fieldBe msg 24 8) (fieldBe msg 32 8) 0 0 0) (cutMessage_kind ..)
  exact hsent

/-- Of what an entry is judged by, a taken order changes nothing. -/
theorem State.orderTaken_judge (s : State) (msg : List Byte) (n action time flags : Nat) (remote : Bool) :
    (s.orderTaken msg).judge n action time flags remote = s.judge n action time flags remote := rfl

/-- A fenced package does not take part (R446). -/
theorem State.enterOrder_fenced {s : State} (h : s.fm.fenceState = 2) (seq t : Nat) : s.enterOrder seq t = s.podOut :=
  if_pos h

/-- With no open action no local QUENCH gives way (R280). -/
theorem State.supersede_none {s : State} (h : s.openActions = []) : s.supersede = s := by
  have hnone : ((List.range 32).filter fun n =>
      (s.entry n).open && ((s.entry n).action = 1 || (s.entry n).action = 2) && !bitOf (s.entry n).flags 6) = [] := by
    refine List.filter_eq_nil_iff.mpr fun n hn k => ?_
    have hopen := List.filter_eq_nil_iff.mp h n hn
    simp only [Bool.and_eq_true, Bool.or_eq_true, decide_eq_true_eq] at k hopen
    obtain ⟨⟨ho, ha⟩, -⟩ := k
    exact hopen ⟨⟨ho, by omega⟩, by omega⟩
  unfold supersede
  dsimp only
  rw [hnone]
  rfl

/-- An order that can be entered is armed as a QUENCH of the pod (R280). -/
theorem State.enterOrder_accepted {s : State} {seq t n : Nat} {e : SchedEntry} (hf : s.fm.fenceState ≠ 2)
    (ho : s.openActions = []) (hi : s.qu.state = Qs.idle) (hn : s.freeEntry = some n)
    (hj : s.judge n Act.quench t 2 true = .accepted e) :
    s.enterOrder seq t = State.acceptQuench ((s.entered n t e).putEntry n
      { (s.entered n t e).entry n with podOrder := seq }) n e true false := by
  have hidle : ¬((!(s.qu.state = Qs.idle || s.qu.state = Qs.mixed)) = true) := by
    rw [hi]
    decide
  have hsame : (if (s.collecting || s.recovering) = true then s else s.supersede) = s := by
    rw [supersede_none ho]
    exact ite_self s
  unfold enterOrder
  rw [if_neg hf]
  dsimp only
  rw [hsame, if_neg hidle, hn]
  dsimp only
  rw [schedWrite_accepted hj]
  exact if_pos rfl

/-! ## Copies, acknowledgements and sums -/

theorem State.cutWithdraw_first {s : State} {dt port n : Nat} {msg : List Byte} (ha : s.cutAccepted port 2 msg = true)
    (hs : s.podCut.seen.contains (cutSeq msg, 2) = false)
    (hn : ((List.range 32).find? fun n =>
      (s.entry n).open && bitOf (s.entry n).flags 6 && (s.entry n).podOrder = cutSeq msg) = some n) :
    exec (.cutWithdrawReceive dt port msg) s = .next (
      if (s.begin dt).pns + 2000 ≤ fieldBe msg 24 8 then
        ((((s.begin dt).cutSeen (cutSeq msg) 2).cutForward 2 (cutSeq msg) msg).cancelEntry n).1
      else ((s.begin dt).cutSeen (cutSeq msg) 2).cutForward 2 (cutSeq msg) msg) := by
  refine congrArg Host.Outcome.next ((if_pos (Bool.and_of ha (congrArg not hs))).trans ?_)
  dsimp only
  rw [show (List.range 32).find? (fun n =>
    ((((s.begin dt).cutSeen (cutSeq msg) 2).cutForward 2 (cutSeq msg) msg).entry n).open &&
      bitOf ((((s.begin dt).cutSeen (cutSeq msg) 2).cutForward 2 (cutSeq msg) msg).entry n).flags 6 &&
      decide (((((s.begin dt).cutSeen (cutSeq msg) 2).cutForward 2 (cutSeq msg) msg).entry n).podOrder =
        cutSeq msg)) = some n from hn]
  rfl

/-- Settles O18. -/
theorem podQuench : Obligations.PodQuench := by
  refine ⟨fun dt port msg s ha hs => ⟨?_, fun hf => ?_, fun n e hf ho hi hn hj => ?_⟩,
    fun dt port n msg s ha hs hn => ?_, fun dt port t issue msg s hk ho hgm hp hack hsum => ?_,
    fun dt at_ m s hc hdue hk => ?_, fun dt seq t issue p s ho hu hack hdue => ?_,
    fun dt seq t issue s ho hr hsum hdue => ?_⟩
  · exact ⟨_, State.cutOrder_first ha hs, rfl, rfl, rfl, (s.begin dt).orderTaken_emitted msg⟩
  · have hfence : ((s.begin dt).orderTaken msg).fm.fenceState = 2 := hf
    refine ⟨_, (State.cutOrder_first ha hs).trans (congrArg Host.Outcome.next (State.enterOrder_fenced hfence _ _)),
      rfl, rfl, rfl⟩
  · have henter := State.enterOrder_accepted (s := (s.begin dt).orderTaken msg) (seq := cutSeq msg) hf ho hi hn
      (((s.begin dt).orderTaken_judge msg _ _ _ _ _).trans hj)
    obtain ⟨hstate, -, h, hhand, hentry, -, htime, hpod, -⟩ := State.acceptQuench_spec
      ((((s.begin dt).orderTaken msg).entered n (fieldBe msg 24 8) e).putEntry n
        { (((s.begin dt).orderTaken msg).entered n (fieldBe msg 24 8) e).entry n with podOrder := cutSeq msg })
      n e true false
    exact ⟨_, h, (State.cutOrder_first ha hs).trans (congrArg Host.Outcome.next henter), hstate, hhand, hentry,
      htime.trans (State.judge_time rfl hj), hpod⟩
  · exact ⟨_, State.cutWithdraw_first ha hs hn, rfl, rfl, rfl⟩
  · have hmine : (match (s.begin dt).podCut.order with
        | some (seq, _, _) => decide (seq = cutSeq msg)
        | none => false) = true := by
      rw [show (s.begin dt).podCut.order = some (cutSeq msg, t, issue) from ho]
      exact decide_eq_true rfl
    exact congrArg Host.Outcome.next (if_pos (Bool.and_of (Bool.and_of (Bool.and_of (Bool.and_of (Bool.and_of
      (decide_eq_true hk) hmine) (decide_eq_true hgm)) (List.contains_iff_mem.mpr hp)) (congrArg not hack))
      (congrArg not hsum)))
  · have hd : decide (at_ ≤ (s.begin dt).pns) = true := decide_eq_true hdue
    have hexec : exec (.orderCopySend dt) s = .next (State.emitAll { s.begin dt with podCut := { s.podCut with
        copies := [(m, 2, at_ + 20000)] } } .cutOrder s.downstream (withCopy m 1)) := by
      show execOrderCopySend dt s = _
      unfold execOrderCopySend
      dsimp only
      rw [show (s.begin dt).podCut.copies = [(m, 1, at_)] from hc]
      simp only [List.filter_cons, hd, Bool.not_true, Bool.false_eq_true, if_true, if_false, List.filter_nil]
      show Host.Outcome.next (State.emitAll _ (cutEmit (fieldBe m 0 1 % 16)) _ _) = _
      rw [hk]
      rfl
    exact ⟨_, hexec, rfl, rfl⟩
  · refine ⟨State.emit { s.begin dt with podCut := { s.podCut with ackSent := true } } .cutAck p
      (cutMessage 3 0 seq s.pod.hops s.pod.gmId s.fuses.serial t issue (s.podCut.sumIn + s.ownCounts.1)
        (s.podCut.sumOut + s.ownCounts.2.1) (s.podCut.sumClusters + s.ownCounts.2.2)), ?_, rfl, rfl⟩
    show execCutAckSend dt s = _
    unfold execCutAckSend
    dsimp only
    rw [show (s.begin dt).podCut.order = some (seq, t, issue) from ho,
      show (s.begin dt).pod.upstream = some p from hu]
    exact congrArg Host.Outcome.next (if_pos (Bool.and_of (congrArg not hack) (decide_eq_true hdue)))
  · refine ⟨{ s.begin dt with
      podCut := { s.podCut with summarised := true }
      qu := { s.qu with podInCut := s.podCut.sumIn + s.ownCounts.1, podOut := s.podCut.sumOut + s.ownCounts.2.1
                        podClustersOut := s.podCut.sumClusters + s.ownCounts.2.2 } }, ?_, rfl, rfl, rfl, rfl⟩
    show execPodCutSummary dt s = _
    unfold execPodCutSummary
    dsimp only
    rw [show (s.begin dt).podCut.order = some (seq, t, issue) from ho]
    exact congrArg Host.Outcome.next (if_pos (Bool.and_of (Bool.and_of (decide_eq_true hr) (congrArg not hsum))
      (decide_eq_true hdue)))

end Sys2Proof.Machine
end

section
/-!
PROOFS. The board's emergency stop and the test access port (R727–R733, R738–R740, O19).
-/
namespace Sys2Proof.Machine

/-! ## The entry of a stop -/

/-- An entry that quenches the package in an emergency says so (R728). -/
theorem State.acceptQuench_emergency (s : State) (n : Nat) (e : SchedEntry) (pod emergency : Bool) {h : InHand}
    (hh : (s.acceptQuench n e pod emergency).qu.hand = some h) : h.emergency = emergency := by
  unfold acceptQuench at hh
  extract_lets ts dead before q s1 s2 s3 x at hh
  exact (congrArg InHand.emergency (Option.some.inj hh)).symm

/-- What the stop arms, with an entry free (R728, R730). -/
theorem State.placeStop_free {s : State} {n : Nat} (hn : s.freeEntry = some n) :
    s.placeStop.pins = { s.pins with quenchWaiting := false } ∧ s.placeStop.qu.state = Qs.arming ∧
    ∃ h, s.placeStop.qu.hand = some h ∧ h.entry = n ∧ h.emergency = true ∧ h.time = s.earliest Act.quench := by
  let g : State := { s with pins := { s.pins with quenchWaiting := false } }
  have hplace : s.placeStop = g.enterStop n := by
    unfold placeStop
    rw [hn]
  rw [hplace]
  let e : SchedEntry :=
    { action := Act.quench, time := g.earliest Act.quench, flags := 2, status := Stat.pending
      param := (g.entry n).param, selection := wholePackage, stepNet := false, podOrder := 0
      late := false, taken := 0 }
  have hpins : (g.enterStop n).pins = g.pins :=
    (acceptQuench_frame _ n e false true (putEntry_frame g n e (.refl [.emitted, .sched, .units, .qu] g)
      (by decide)) (by decide)) .pins (by decide)
  obtain ⟨hstate, -, h, hh, hentry, -, htime, -⟩ := (g.putEntry n e).acceptQuench_spec n e false true
  exact ⟨hpins, hstate, h, hh, hentry, acceptQuench_emergency _ n e false true hh, htime⟩

theorem State.tryStop_idle {s : State} (h : s.qu.state = Qs.idle) : s.tryStop = s.placeStop := if_pos (.inl h)

/-- With no open action a stop cancels nothing (R728). -/
theorem State.stopCancels_none {s : State} (h : s.openActions = []) : s.stopCancels = s := by
  unfold openActions at h
  unfold stopCancels
  rw [h]
  rfl

/-! ## A stop that is accepted -/

/-- The pins as an accepted stop leaves them, before its record (R732). -/
def State.stopLow (s : State) : State :=
  { s with pins := { s.pins with
    quenchArmed := false, quenchHigh := false, quenchSince := s.elapsed, stuckReported := false } }

/-- The record of a stop leaves the quench, the table, the time base and what holds the stop. -/
theorem State.logStop_spec (s : State) :
    Changes [.pins, .emitted, .backup, .flash, .logSeq, .log, .port] s s.logStop ∧
    s.logStop.pins.stopHolds = s.pins.stopHolds ∧ s.logStop.pins.quenchArmed = s.pins.quenchArmed := by
  unfold logStop
  dsimp only
  split
  · refine ⟨fun p hp => ?_, rfl, rfl⟩
    cases p <;> first | rfl | exact absurd (by decide) hp
  · let x : State := { s with pins := { s.pins with quenchLogFrame := some s.frame.number } }
    have hurged : Changes [.emitted, .backup, .flash, .logSeq, .log, .port] x
        (x.urged Code.quenchIn (be 4 1 ++ be 8 s.pns)) := urged_frame x _ _ (.refl _ x) (by decide)
    have hx : Changes [.pins] s x := by
      intro p hp
      cases p <;> first | rfl | exact absurd (by decide) hp
    have hpins : (x.urged Code.quenchIn (be 4 1 ++ be 8 s.pns)).pins = x.pins := hurged .pins (by decide)
    have hholds := congrArg Pins.stopHolds hpins
    have harmed := congrArg Pins.quenchArmed hpins
    exact ⟨(hx.mono (by decide)).trans (hurged.mono (by decide)), hholds, harmed⟩

/-- A low input that is armed in phase D9 is a stop (R727, R733). -/
theorem State.quenchIn_stop {s : State} {dt : Nat} (hj : s.pins.jtagOwns = false) (ha : s.pins.quenchArmed = true)
    (hp : s.rst.phase = 10) : exec (.quenchIn dt) s = .next (s.begin dt).acceptStop := by
  have hheard : (s.pins.quenchArmed && (s.begin dt).stopHeard) = true :=
    Bool.and_of ha (Bool.and_of (decide_eq_true hp) (congrArg not hj))
  exact congrArg Host.Outcome.next ((if_neg (Bool.eq_false_iff.mp hj)).trans (if_pos hheard))

theorem State.acceptStop_fenced {s : State} (h : s.fm.fenceState = 2) : s.acceptStop = s.stopLow.logStop := by
  have hfm : s.stopLow.logStop.fm.fenceState = 2 :=
    (congrArg Fault9.fenceState (s.stopLow.logStop_spec.1 .fm (by decide))).trans h
  exact if_pos (Bool.or_eq_true_iff.mpr (.inl (decide_eq_true hfm)))

/-- The state in which the accepted stop holds the hub's own steps and resumes back (R731). -/
def State.stopHeld (s : State) : State :=
  { s.stopLow.logStop with pins := { s.stopLow.logStop.pins with stopHolds := true } }

theorem State.stopHeld_changes (s : State) :
    Changes [.pins, .emitted, .backup, .flash, .logSeq, .log, .port] s s.stopHeld := by
  have hlow : Changes [.pins, .emitted, .backup, .flash, .logSeq, .log, .port] s s.stopLow := by
    intro p hp
    cases p <;> first | rfl | exact absurd (by decide) hp
  have hheld : Changes [.pins, .emitted, .backup, .flash, .logSeq, .log, .port] s.stopLow.logStop s.stopHeld := by
    intro p hp
    cases p <;> first | rfl | exact absurd (by decide) hp
  exact (hlow.trans s.stopLow.logStop_spec.1).trans hheld

theorem State.acceptStop_acts {s : State} (hf : s.fm.fenceState ≠ 2) (hl : s.hang.proc.l3Phase = 0)
    (ht : s.hub.takeover = none) : s.acceptStop = s.stopHeld.stopCancels.tryStop := by
  have hch := s.stopHeld_changes
  have hguard : ¬((s.stopLow.logStop.fm.fenceState = 2 || s.stopLow.logStop.recovering) = true) := by
    have hfm : s.stopLow.logStop.fm = s.fm := hch .fm (by decide)
    have hhang : s.stopLow.logStop.hang = s.hang := hch .hang (by decide)
    unfold recovering
    rw [hfm, hhang, hl]
    simp [hf]
  have htake : s.stopHeld.hub.takeover = none := (congrArg Hub.takeover (hch .hub (by decide))).trans ht
  refine (if_neg hguard).trans ?_
  show (match s.stopHeld.hub.takeover with
    | some k => _
    | none => s.stopHeld.stopCancels.tryStop) = _
  rw [htake]

theorem State.earliest_congr {s t : State} (ht : t.tb = s.tb) (he : t.elapsed = s.elapsed) (hf : t.frame = s.frame)
    (action : Nat) : t.earliest action = s.earliest action := by
  unfold earliest minLead
  rw [ht, he, hf]

theorem State.openActions_congr {s t : State} (h : t.sched = s.sched) : t.openActions = s.openActions := by
  unfold openActions entry
  rw [h]

theorem State.freeEntry_congr {s t : State} (h : t.sched = s.sched) : t.freeEntry = s.freeEntry := by
  unfold freeEntry entry
  rw [h]

/-- An accepted stop with nothing open and an entry free is armed at once (R728). -/
theorem State.acceptStop_arms {s : State} {n : Nat} (hf : s.fm.fenceState ≠ 2) (hl : s.hang.proc.l3Phase = 0)
    (ht : s.hub.takeover = none) (ho : s.openActions = []) (hi : s.qu.state = Qs.idle)
    (hn : s.freeEntry = some n) :
    s.acceptStop.pins.stopHolds = true ∧ s.acceptStop.pins.quenchArmed = false ∧ s.acceptStop.qu.state = Qs.arming ∧
    ∃ h, s.acceptStop.qu.hand = some h ∧ h.entry = n ∧ h.emergency = true ∧ h.time = s.earliest Act.quench := by
  have hch := s.stopHeld_changes
  have hsched : s.stopHeld.sched = s.sched := hch .sched (by decide)
  have hacts : s.acceptStop = s.stopHeld.placeStop := by
    rw [acceptStop_acts hf hl ht, stopCancels_none ((openActions_congr hsched).trans ho),
      tryStop_idle ((congrArg Quench.state (hch .qu (by decide))).trans hi)]
  obtain ⟨hpins, hstate, h, hh, hentry, hem, htime⟩ := placeStop_free ((freeEntry_congr hsched).trans hn)
  rw [hacts]
  refine ⟨congrArg Pins.stopHolds hpins, (congrArg Pins.quenchArmed hpins).trans s.stopLow.logStop_spec.2.2, hstate,
    h, hh, hentry, hem, htime.trans ?_⟩
  exact earliest_congr (hch .tb (by decide)) (hch .elapsed (by decide)) (hch .frame (by decide)) _

/-! ## The test access port (R738–R740) -/

/-- The pins after a new instruction; what the buses lost is not among them. -/
theorem State.jtagSet_spec (s : State) (op : Nat) :
    (s.jtagSet op).pins = { s.pins with
      jtagIr := op, jtagOwns := jtagTakes op, quenchHigh := s.pins.quenchHigh || jtagTakes op } ∧
    (s.jtagSet op).rst = s.rst := by
  unfold jtagSet
  dsimp only
  split
  · have hbuses (x : State) : x.busesAgain.pins = x.pins ∧ x.busesAgain.rst = x.rst := ⟨rfl, rfl⟩
    exact hbuses _
  · exact ⟨rfl, rfl⟩

theorem State.jtagActs_low (s : State) {op : Nat} (h : op ≤ 3) : s.jtagActs op = op := if_pos h

/-- An unlisted opcode acts as BYPASS (R738). -/
theorem State.jtagActs_unlisted (s : State) {op : Nat} (h : 3 < op) (h' : op < 0x20) : s.jtagActs op = 0x3F :=
  (if_neg (by omega)).trans (if_neg fun k => by omega)

/-- The pins as EXTEST drives them from the boundary register (R739, R740). -/
theorem State.extest_drives {s : State} (ho : s.pins.jtagOwns = true) (hi : s.pins.jtagIr = 0) :
    s.alertPulled = s.pins.boundary.getLsbD 5 ∧
    s.tickOutPin = (if s.pins.boundary.getLsbD 2 then some (s.pins.boundary.getLsbD 1) else none) ∧
    s.selectPin = (if s.pins.boundary.getLsbD 15 then some (s.pins.boundary.getLsbD 14) else none) := by
  unfold alertPulled tickOutPin selectPin Pins.testPull Pins.testDrive
  rw [ho, hi]
  exact ⟨rfl, rfl, rfl⟩

/-- HIGHZ floats them (R740). -/
theorem State.highz_floats {s : State} (ho : s.pins.jtagOwns = true) (hi : s.pins.jtagIr = 2) :
    s.alertPulled = false ∧ s.tickOutPin = none ∧ s.selectPin = none := by
  unfold alertPulled tickOutPin selectPin Pins.testPull Pins.testDrive
  rw [ho, hi]
  exact ⟨rfl, rfl, rfl⟩

/-- Settles O19. -/
theorem boardStopAndTap : Obligations.BoardStopAndTap := by
  refine ⟨fun dt n s hj ha hp => ⟨fun hf hl ht ho hi hn => ?_, fun hf => ?_⟩, fun dt s ha hhigh => ?_,
    fun dt n s hw ht hi hn => ?_, fun dt s ha hh hr hp hj hlow => ?_, fun dt op v s hir => ?_,
    fun dt op cells s => ?_, fun dt s => ?_⟩
  · obtain ⟨hholds, harmed, hstate, h, hh, hentry, hem, htime⟩ :=
      State.acceptStop_arms (s := s.begin dt) hf hl ht ho hi hn
    exact ⟨_, h, State.quenchIn_stop hj ha hp, hholds, harmed, hstate, hh, hentry, hem, htime⟩
  · obtain ⟨hch, hholds, harmed⟩ := (s.begin dt).stopLow.logStop_spec
    refine ⟨_, (State.quenchIn_stop hj ha hp).trans (congrArg Host.Outcome.next (State.acceptStop_fenced hf)), hholds,
      hch .qu (by decide), hch .sched (by decide), harmed⟩
  · exact congrArg Host.Outcome.next (if_pos (Bool.and_of (congrArg not ha) (decide_eq_true hhigh)))
  · obtain ⟨hpins, hstate, h, hh, hentry, hem, -⟩ := State.placeStop_free (s := s.begin dt) hn
    have htry : (s.begin dt).tryStop = (s.begin dt).placeStop := State.tryStop_idle hi
    have hcore : ((s.begin dt).hub.takeover.all fun k => decide (0 < k.phase)) = true := by
      rw [show (s.begin dt).hub.takeover = none from ht]
      rfl
    have hfree : (s.begin dt).freeEntry.isSome = true := by
      rw [show (s.begin dt).freeEntry = some n from hn]
      rfl
    exact ⟨_, h, congrArg Pins.quenchWaiting hpins, hh, hentry, hem,
      congrArg Host.Outcome.next ((if_pos (Bool.and_of hw hcore)).trans htry),
      congrArg Host.Outcome.next ((if_pos (Bool.and_of (Bool.and_of hw hfree) hcore)).trans htry)⟩
  · have hheard : (s.begin dt).stopHeard = true := Bool.and_of (decide_eq_true hp) (congrArg not hj)
    exact congrArg Host.Outcome.next (if_pos (Bool.and_of (Bool.and_of (Bool.and_of (Bool.and_of (congrArg not ha)
      (congrArg not hh)) (congrArg not hr)) hheard) (decide_eq_true hlow)))
  · have hscan : (s.begin dt).pins.scanned (some v) = { s.pins with boundary := BitVec.ofNat 28 v } := if_pos hir
    let x : State := { s.begin dt with pins := { s.pins with boundary := BitVec.ofNat 28 v } }
    have hexec : exec (.jtagUpdateIr dt ⟨op, some v⟩) s = .next (x.jtagSet (s.jtagActs (op % 64))) :=
      congrArg (fun p => Host.Outcome.next (State.jtagSet { s.begin dt with pins := p } (s.jtagActs (op % 64)))) hscan
    obtain ⟨hpins, -⟩ := x.jtagSet_spec (s.jtagActs (op % 64))
    have hboundary : (x.jtagSet (s.jtagActs (op % 64))).pins.boundary = BitVec.ofNat 28 v :=
      congrArg Pins.boundary hpins
    refine ⟨_, hexec, hboundary, fun hop => ?_, fun hop => ?_⟩
    · have hacts : s.jtagActs (op % 64) = 0 := (s.jtagActs_low (by omega)).trans hop
      rw [hacts] at hpins hboundary ⊢
      have hdrives := State.extest_drives (s := x.jtagSet 0) (congrArg Pins.jtagOwns hpins) (congrArg Pins.jtagIr hpins)
      rw [hboundary] at hdrives
      exact hdrives
    · have hacts : s.jtagActs (op % 64) = 2 := (s.jtagActs_low (by omega)).trans hop
      rw [hacts] at hpins ⊢
      exact State.highz_floats (s := x.jtagSet 2) (congrArg Pins.jtagOwns hpins) (congrArg Pins.jtagIr hpins)
  · let x : State := { s.begin dt with pins := s.pins.scanned cells }
    obtain ⟨hpins, -⟩ := x.jtagSet_spec (s.jtagActs (op % 64))
    refine ⟨x.jtagSet (s.jtagActs (op % 64)), rfl, fun hir => ?_, congrArg Pins.jtagIr hpins,
      congrArg Pins.jtagOwns hpins, fun h3 h20 => (congrArg Pins.jtagIr hpins).trans (s.jtagActs_unlisted h3 h20)⟩
    rw [congrArg Pins.boundary hpins]
    show (s.pins.scanned cells).boundary = s.pins.boundary
    unfold Pins.scanned
    split
    · rw [if_neg (Nat.not_le.mpr hir)]
    · rfl
  · obtain ⟨hpins, hrst⟩ := (s.begin dt).jtagSet_spec 0x3F
    exact ⟨_, rfl, congrArg Pins.jtagIr hpins, congrArg Pins.jtagOwns hpins, hrst⟩

end Sys2Proof.Machine
end

section
/-!
PROOFS. Starting, stopping and letting go of shakeouts, and the reserve (R311–R322, R362, R363, O20).
-/
namespace Sys2Proof.Machine

/-! ## What the start of a shakeout settles, and what follows it leaves -/

/-- A shakeout is in progress in both states or in neither, under the same IMAGE_ID and valid reference. -/
def State.SameStart (s t : State) : Prop :=
  t.dump.running.isSome = s.dump.running.isSome ∧ t.dump.imageId = s.dump.imageId ∧
    t.dump.refImage = s.dump.refImage

theorem State.SameStart.trans {s t u : State} (h : s.SameStart t) (k : t.SameStart u) : s.SameStart u :=
  ⟨k.1.trans h.1, k.2.1.trans h.2.1, k.2.2.trans h.2.2⟩

theorem State.SameStart.of_dump {s t : State} (h : t.dump = s.dump) : s.SameStart t := by
  unfold SameStart
  rw [h]
  exact ⟨rfl, rfl, rfl⟩

theorem State.sameStart_modSo (s : State) (f : Shakeout → Shakeout) : s.SameStart (s.modSo f) :=
  ⟨Option.isSome_map, rfl, rfl⟩

theorem State.sameStart_modSlot (s : State) (n : Nat) (f : Image → Image) : s.SameStart (s.modSlot n f) :=
  ⟨rfl, rfl, rfl⟩

theorem State.logged_dump (s : State) (code : Nat) (detail : List Byte) : (s.logged code detail).dump = s.dump :=
  same_of_frame .dump (logged_frame s code detail) rfl

theorem State.sameStart_logged (s : State) (code : Nat) (detail : List Byte) : s.SameStart (s.logged code detail) :=
  .of_dump (s.logged_dump code detail)

theorem State.sameStart_modImage (s : State) (f : Image → Image) : s.SameStart (s.modImage f) := by
  unfold modImage
  split
  · exact s.sameStart_modSlot _ f
  · exact .of_dump rfl

theorem State.sameStart_overwrite (s : State) (image : Nat) (tiers : List Nat) :
    s.SameStart (s.overwrite image tiers) := by
  unfold overwrite
  dsimp only
  split
  · exact .of_dump rfl
  · split
    · exact .of_dump rfl
    · exact (s.sameStart_modSlot _ _).trans (sameStart_logged _ _ _)

theorem State.sameStart_openTier (s : State) (g : Image) (tier : Nat) : s.SameStart (s.openTier g tier) := by
  unfold openTier
  dsimp only
  split
  · exact s.sameStart_modSo _
  · exact ((s.sameStart_modSo _).trans ((sameStart_modImage _ _).trans (sameStart_modImage _ _))).trans
      (sameStart_logged _ _ _)

theorem State.sameStart_takeHalves (s : State) (image : Nat) : s.SameStart (s.takeHalves image) :=
  (s.sameStart_overwrite s.dump.tier2Area.image [2]).trans ⟨rfl, rfl, rfl⟩

theorem State.sameStart_beginTier (s : State) (tier : Nat) : s.SameStart (s.beginTier tier) := by
  unfold beginTier
  split
  next k g _ _ =>
    split
    · dsimp only
      split
      · exact (s.sameStart_openTier g tier).trans (sameStart_takeHalves _ _)
      · exact s.sameStart_openTier g tier
    · exact .of_dump rfl
  · exact .of_dump rfl

theorem State.ringStart_dump (s : State) (t : RingTxn) : (s.ringStart t).dump = s.dump :=
  same_of_frame .dump (ringStart_frame s t) rfl

theorem State.sameStart_feedTier0 (die n : Nat) (s : State) : s.SameStart (s.feedTier0 die n) := by
  induction n generalizing s with
  | zero => exact .of_dump rfl
  | succ n ih =>
    rw [feedTier0]
    dsimp only
    split
    · exact .of_dump rfl
    · split
      · exact (s.sameStart_modSo _).trans (ih _)
      · exact ((s.sameStart_modSo _).trans (.of_dump (ringStart_dump _ _))).trans (ih _)

theorem State.sameStart_feedAll (n : Nat) (l : List Nat) (s : State) :
    s.SameStart (l.foldl (fun s d => s.feedTier0 d n) s) := by
  induction l generalizing s with
  | nil => exact .of_dump rfl
  | cons d l ih => exact (s.sameStart_feedTier0 d n).trans (ih _)

theorem State.sameStart_soSettle (s : State) : s.SameStart s.soSettle := by
  unfold soSettle
  split
  next k hk => exact ⟨rfl, rfl, rfl⟩
  · exact .of_dump rfl

theorem State.takeImageId_spec (s : State) : s.takeImageId.2 = s.imageIds.next ∧ s.takeImageId.1.dump = s.dump := by
  refine ⟨rfl, ?_⟩
  have hpersist (x : State) : x.persist.dump = x.dump := same_of_frame .dump (persist_frame x) rfl
  unfold takeImageId
  dsimp only
  split
  · exact hpersist _
  · rfl

/-- A shakeout that starts takes the next IMAGE_ID; one of the reference leaves no valid reference (R314, R316). -/
theorem State.soBegin_spec (s : State) (ref : Bool) (tiers : Nat) (scope : BitVec 128) (trigger : Nat) :
    (s.soBegin ref tiers scope trigger).dump.running.isSome = true ∧
    (s.soBegin ref tiers scope trigger).dump.imageId = s.imageIds.next ∧
    (ref = true → (s.soBegin ref tiers scope trigger).dump.refImage = 0) := by
  unfold soBegin
  extract_lets isRef base d0 s1 n s2
  have href1 : ref = true → s1.dump.refImage = 0 := by
    intro hr
    have his : isRef = true := Bool.or_eq_true_iff.mpr (.inl hr)
    exact congrArg (fun x : State => x.dump.refImage) (if_pos his)
  have hids1 : s1.imageIds = s.imageIds := by
    show State.imageIds (if isRef = true then _ else s) = _
    split <;> rfl
  have hslot : s2.imageIds = s1.imageIds ∧ s2.dump.refImage = s1.dump.refImage := by
    have hlog (x : State) (c : Nat) (b : List Byte) : (x.logged c b).imageIds = x.imageIds :=
      same_of_frame .imageIds (logged_frame x c b) rfl
    show State.imageIds (match s1.dump.slot n with | some g => _ | none => s1) = _ ∧
      (State.dump (match s1.dump.slot n with | some g => _ | none => s1)).refImage = _
    cases s1.dump.slot n with
    | none => exact ⟨rfl, rfl⟩
    | some g =>
      have hkept := congrArg Dump.refImage (s1.logged_dump Code.soLadleDisplaced (be 4 g.id))
      exact ⟨hlog _ _ _, hkept⟩
  obtain ⟨hid, hdump⟩ := s2.takeImageId_spec
  split
  next s3 id htake =>
  rw [htake] at hid hdump
  extract_lets live g old s4 d fresh k s5 s6 s7
  have hover : s3.SameStart s4 := s3.sameStart_overwrite old [1]
  have hlast : s5.SameStart (((List.range 16).foldl (fun s d => s.feedTier0 d (tier0Items + 1)) s7).soSettle) :=
    (((SameStart.of_dump (s := s5) (t := s6) rfl).trans ((s6.sameStart_beginTier 1).trans
      (sameStart_beginTier _ 2))).trans (sameStart_feedAll _ _ s7)).trans (sameStart_soSettle _)
  refine ⟨hlast.1, hlast.2.1.trans (hid.trans (congrArg Counter.next (hslot.1.trans hids1))), fun hr => ?_⟩
  exact hlast.2.2.trans (hover.2.2.trans ((congrArg Dump.refImage hdump).trans (hslot.2.trans (href1 hr))))

/-! ## START -/

/-- A write that accepts or refuses answers so (R311). -/
theorem Served.accepts {s s1 x : State} {dt idx sub : Nat} {req : Req} {w : Way} {c : Ctx}
    (h : Served s dt req idx sub w c s1) (hw : w.changes = true) {f : Ctx → State → Reply}
    (hr : f c s1 = x.accept) : (s.begin dt).serve req idx sub w f = x.answer c Abort.ok [] := h.answers hw hr

theorem Served.refuses {s s1 : State} {dt idx sub code : Nat} {req : Req} {w : Way} {c : Ctx}
    (h : Served s dt req idx sub w c s1) (hw : w.changes = true) {f : Ctx → State → Reply}
    (hr : f c s1 = s1.refuse code) : (s.begin dt).serve req idx sub w f = s1.answer c code [] := h.answers hw hr

section
variable {s s1 : State} {dt : Nat} {req : Req} {c : Ctx} (h : Served s dt req 0x4201 0 .write c s1)
include h

/-- START and START_REF that are not refused begin a shakeout (R311, R314). -/
theorem Served.soStart_begins (hr : s1.startRefusal = none) :
    exec (.soStart dt req) s =
      .next ((s1.soBegin false s1.dump.tiers s1.dump.scope 0).answer c Abort.ok []) ∧
    exec (.soStartRef dt req) s =
      .next ((s1.soBegin true s1.dump.tiers s1.dump.scope 0).answer c Abort.ok []) := by
  have hstart : s1.cmdSoStart = (s1.soBegin false s1.dump.tiers s1.dump.scope 0).accept := by
    unfold State.cmdSoStart
    rw [hr]
  have href : s1.cmdSoStartRef = (s1.soBegin true s1.dump.tiers s1.dump.scope 0).accept := by
    unfold State.cmdSoStartRef
    rw [hr]
  exact ⟨congrArg Host.Outcome.next (h.accepts rfl (f := fun _ s => s.cmdSoStart) hstart),
    congrArg Host.Outcome.next (h.accepts rfl (f := fun _ s => s.cmdSoStartRef) href)⟩

theorem Served.soStart_refused {code : Nat} (hr : s1.startRefusal = some code) :
    exec (.soStart dt req) s = .next (s1.answer c code []) ∧
    exec (.soStartRef dt req) s = .next (s1.answer c code []) := by
  have hstart : s1.cmdSoStart = s1.refuse code := by
    unfold State.cmdSoStart
    rw [hr]
  have href : s1.cmdSoStartRef = s1.refuse code := by
    unfold State.cmdSoStartRef
    rw [hr]
  exact ⟨congrArg Host.Outcome.next (h.refuses rfl (f := fun _ s => s.cmdSoStart) hstart),
    congrArg Host.Outcome.next (h.refuses rfl (f := fun _ s => s.cmdSoStartRef) href)⟩

end

theorem State.startRefusal_running {s : State} (h : s.dump.running.isSome = true) :
    s.startRefusal = some Abort.busy := by
  unfold startRefusal soRefusal
  rw [if_pos h]
  exact ite_self _

theorem State.startRefusal_idle {s : State} (hp : s.lc.storeA.fettlePending = false) (hv : s.recovering = false)
    (hr : s.dump.running = none) (hi : s.imageIds.ready = true) (ht : 2 ≤ s.dump.tiers)
    (hq : s.qu.state = Qs.idle) : s.startRefusal = some Abort.notQuenched := by
  unfold startRefusal soRefusal
  rw [hp, hv, hr, hi]
  exact (if_pos ht).trans (if_pos hq)

/-! ## ABORT -/

theorem State.soSettle_running (s : State) : s.soSettle.dump.running = s.dump.running := by
  unfold soSettle
  split
  next k hk => exact rfl
  · rfl

theorem State.modImage_running (s : State) (f : Image → Image) : (s.modImage f).dump.running = s.dump.running := by
  unfold modImage
  split <;> rfl

/-- ABORT marks the shakeout in progress (R318). -/
theorem State.soAbort_running {s : State} {k : Shakeout} (h : s.dump.running = some k) :
    s.soAbort.dump.running = some { k with aborting := true } := by
  unfold soAbort
  rw [h]
  dsimp only
  rw [soSettle_running]
  refine (congrArg (Option.map _) ((modImage_running _ _).trans ((modImage_running _ _).trans h))).trans rfl

/-! ## Letting go -/

/-- A job is to be done once it is asked for, however often (R362). -/
theorem State.mem_addFettle (s : State) {l : List FettleJob} {j : FettleJob} (h : j ∈ l) :
    j ∈ (s.addFettle l).dump.fettle := by
  show j ∈ s.dump.fettle ++ l.filter fun j => !s.dump.fettle.contains j
  by_cases hj : j ∈ s.dump.fettle
  · exact List.mem_append_left _ hj
  · refine List.mem_append_right _ (List.mem_filter.mpr ⟨h, ?_⟩)
    rw [Bool.not_eq_true', ← Bool.not_eq_true, List.contains_iff_mem]
    exact hj

theorem Served.soFettleReserve_busy {s s1 : State} {dt : Nat} {req : Req} {c : Ctx}
    (h : Served s dt req 0x4201 0 .write c s1) (hb : s1.recovering = true ∨ s1.dump.running.isSome = true) :
    exec (.soFettleReserve dt req) s = .next (s1.answer c Abort.busy []) :=
  congrArg Host.Outcome.next (h.answers rfl (r := s1.refuse Abort.busy) (if_pos (Bool.or_eq_true_iff.mpr hb.symm)))

/-- The reserve areas are forgotten and are to be fettled (R363). -/
theorem State.cmdSoFettleReserve_accepted {s : State} (hv : s.recovering = false) (hr : s.dump.running = none) :
    ∃ x : State, s.cmdSoFettleReserve = x.accept ∧ x.dump.refImage = 0 ∧
      ∀ j, j ∈ [FettleJob.refQuarters, .latestQuarters, .tier2Halves] → j ∈ x.dump.fettle := by
  have hguard : ¬((s.dump.running.isSome || s.recovering) = true) := by
    rw [hv, hr]
    decide
  let y := (s.loseReserve false).addFettle [.refQuarters, .latestQuarters, .tier2Halves]
  exact ⟨{ y with dump := { y.dump with
    refImage := 0, refArea := Area.empty, latestArea := Area.empty, tier2Area := Area.empty } }, if_neg hguard, rfl,
    fun _ hj => (s.loseReserve false).mem_addFettle hj⟩

/-- The slot of the Ladle that SO_ACK lets go (R362). -/
theorem State.ackSlot_some {s : State} {image n : Nat} {g : Image} (hi : image ≠ 0) (hn : n < 4)
    (hg : s.dump.slot n = some g) (hid : g.id = image)
    (hfirst : ∀ m, m < n → (s.dump.slot m).all (fun g => g.id ≠ image) = true) :
    ((List.range 4).find? fun n => image ≠ 0 && (s.dump.slot n).any fun g => g.id = image) = some n := by
  have hlow (m : Nat) (hm : m < n) : ((decide (image ≠ 0)) && (s.dump.slot m).any fun g => g.id = image) = false := by
    have hall := hfirst m hm
    cases hs : s.dump.slot m with
    | none => exact Bool.and_false _
    | some x =>
      rw [hs] at hall
      have hne : x.id ≠ image := of_decide_eq_true hall
      exact Bool.and_eq_false_iff.mpr (.inr (decide_eq_false hne))
  rw [List.find?_range_eq_some]
  refine ⟨Bool.and_of (decide_eq_true hi) ?_, List.mem_range.mpr hn, fun m hm => ?_⟩
  · rw [hg]
    exact decide_eq_true hid
  · rw [hlow m hm]
    rfl

theorem State.ackSlot_none {s : State} {image : Nat}
    (h : ∀ n, n < 4 → (s.dump.slot n).all (fun g => g.id ≠ image) = true) :
    ((List.range 4).find? fun n => image ≠ 0 && (s.dump.slot n).any fun g => g.id = image) = none := by
  refine List.find?_eq_none.mpr fun n hn k => ?_
  have hall := h n (List.mem_range.mp hn)
  obtain ⟨-, hany⟩ := Bool.and_eq_true_iff.mp k
  cases hs : s.dump.slot n with
  | none =>
    rw [hs] at hany
    exact Bool.noConfusion hany
  | some x =>
    rw [hs] at hany hall
    exact (of_decide_eq_true hall) (of_decide_eq_true hany)

theorem Dump.slot_cleared (l : List (Option Image)) (n : Nat) : (setAt l n none).getD n none = none := by
  unfold setAt
  rw [List.getD_eq_getElem?_getD, List.getElem?_set]
  split_ifs with hlen
  · rfl
  · rfl
  · exact absurd rfl hlen

/-- SO_ACK of an image that no slot holds (R362). -/
theorem State.cmdSoAck_unknown {s : State} {image : Nat}
    (h : ∀ n, n < 4 → (s.dump.slot n).all (fun g => g.id ≠ image) = true) :
    s.cmdSoAck image = s.refuse Abort.imageUnknown := by
  unfold cmdSoAck
  rw [ackSlot_none h]

/-- SO_ACK lets the image of a slot go, and the area that holds its latest records is to be fettled (R362). -/
theorem State.cmdSoAck_held {s : State} {image n : Nat} {g : Image} (hi : image ≠ 0) (hn : n < 4)
    (hg : s.dump.slot n = some g) (hid : g.id = image) (hr : s.dump.running = none)
    (hfirst : ∀ m, m < n → (s.dump.slot m).all (fun g => g.id ≠ image) = true) :
    ∃ x : State, s.cmdSoAck image = x.accept ∧ x.dump.slot n = none ∧
      (s.dump.latestArea.image = image → FettleJob.latestQuarters ∈ x.dump.fettle) := by
  unfold cmdSoAck
  rw [ackSlot_some hi hn hg hid hfirst]
  dsimp only
  rw [hr, if_neg (show ¬(Option.map Shakeout.slot none = some n) from fun k => nomatch k)]
  refine ⟨_, rfl, Dump.slot_cleared _ n, fun hl => ?_⟩
  refine mem_addFettle _ (List.mem_append_left _ (List.mem_append_right _ ?_))
  rw [if_pos (decide_eq_true hl)]
  exact List.mem_singleton_self _

/-! ## The reserve (R316, R322) -/

theorem Served.reserveWrite {s s1 : State} {dt idx sub value : Nat} {req : Req} {c : Ctx} {r : ObjRow} {y : Reply}
    (hi : idx = 0x4204 ∨ idx = 0x4205) (h : Served s dt req idx sub .write c s1) (hrow : objRow idx sub = some r)
    (hv : value < 2 ^ (8 * r.type.size)) (hr : s1.reserveWrite r sub (be r.type.size value) = y) :
    exec (.reserveWrite dt req idx sub value) s = .next (y.state.answer c y.code y.data) := by
  have hobj : ((idx = 0x4204 || idx = 0x4205) : Bool) = true :=
    Bool.or_eq_true_iff.mpr (hi.imp decide_eq_true decide_eq_true)
  refine congrArg Host.Outcome.next ((if_pos hobj).trans (h.answers rfl ?_))
  rw [hrow]
  exact (if_neg (Nat.not_le.mpr hv)).trans hr

/-- Settles O20. -/
theorem shakeoutCommands : Obligations.ShakeoutCommands := by
  refine ⟨fun dt req s s1 c h => ⟨fun hr => ?_, fun hr => ?_, fun hp hv hr hi ht hq => ?_⟩,
    fun dt req s s1 c h => ⟨fun hv => ?_, fun hv hr => ?_, fun hv hr => ?_⟩,
    fun dt req s s1 c h => ⟨fun hb => ?_, fun hv hr => ?_⟩,
    fun dt image req s s1 c h => ⟨fun hno => ?_, fun n g hi hn hg hid hr hfirst => ?_⟩, fun dt s hadm => ?_,
    fun dt idx sub value req s s1 c r hi h hrow hv hfits => ⟨fun hbad => ?_, fun hgood hrun hheld => ?_⟩⟩
  · obtain ⟨hstart, href⟩ := h.soStart_begins hr
    obtain ⟨hrun, hid, -⟩ := s1.soBegin_spec false s1.dump.tiers s1.dump.scope 0
    obtain ⟨hrun', hid', hzero⟩ := s1.soBegin_spec true s1.dump.tiers s1.dump.scope 0
    exact ⟨⟨_, hstart, hrun, hid⟩, _, href, hrun', hid', hzero rfl⟩
  · exact h.soStart_refused (State.startRefusal_running hr)
  · exact (h.soStart_refused (State.startRefusal_idle hp hv hr hi ht hq)).1
  · exact congrArg Host.Outcome.next (h.refuses rfl (f := fun _ s => s.cmdSoAbort) (if_pos hv))
  · have hnone : s1.soAbort = s1 := by
      unfold State.soAbort
      rw [hr]
    have hcmd : s1.cmdSoAbort = s1.accept := (if_neg (Bool.eq_false_iff.mp hv)).trans (congrArg State.accept hnone)
    exact congrArg Host.Outcome.next (h.accepts rfl (f := fun _ s => s.cmdSoAbort) hcmd)
  · obtain ⟨k, hk⟩ := Option.isSome_iff_exists.mp hr
    have hcmd : s1.cmdSoAbort = s1.soAbort.accept := if_neg (Bool.eq_false_iff.mp hv)
    exact ⟨s1.soAbort, { k with aborting := true },
      congrArg Host.Outcome.next (h.accepts rfl (f := fun _ s => s.cmdSoAbort) hcmd), State.soAbort_running hk, rfl⟩
  · exact h.soFettleReserve_busy hb
  · obtain ⟨x, hcmd, href, hjobs⟩ := State.cmdSoFettleReserve_accepted hv hr
    exact ⟨x, congrArg Host.Outcome.next (h.accepts rfl (f := fun _ s => s.cmdSoFettleReserve) hcmd), href, hjobs⟩
  · exact congrArg Host.Outcome.next
      (h.refuses rfl (f := fun _ s => s.cmdSoAck image) (State.cmdSoAck_unknown hno))
  · obtain ⟨x, hcmd, hslot, hjob⟩ := State.cmdSoAck_held hi hn hg hid hr hfirst
    exact ⟨x, congrArg Host.Outcome.next (h.accepts rfl (f := fun _ s => s.cmdSoAck image) hcmd), hslot, hjob⟩
  · exact congrArg Host.Outcome.next (if_pos hadm)
  · have hguard : (!valueFits r sub (be r.type.size value) ||
        (s1.objPut r.idx sub (be r.type.size value)).reserveBad) = true := by
      rw [hbad, Bool.or_true]
    exact h.reserveWrite hi hrow hv (y := s1.refuse Abort.valueRange) (if_pos hguard)
  · have hguard : ¬((!valueFits r sub (be r.type.size value) ||
        (s1.objPut r.idx sub (be r.type.size value)).reserveBad) = true) := by
      rw [hgood, hfits]
      decide
    have hfree : ¬((s1.dump.running.isSome || s1.dump.slots.any Option.isSome) = true) := by
      rw [hrun, hheld]
      decide
    let x := s1.objWrite r sub (be r.type.size value)
    refine ⟨{ x with dump := { x.dump with refImage := 0 } }, ?_, rfl⟩
    exact h.reserveWrite hi hrow hv (y := State.accept { x with dump := { x.dump with refImage := 0 } })
      ((if_neg hguard).trans (if_neg hfree))

end Sys2Proof.Machine
end

section
/-!
PROOFS. Reads and writes of shakeout records (R319, R329–R331, R338, R341, O21).
-/
namespace Sys2Proof.Machine

/-! ## The work of a die -/

theorem Tab.at_put_self {α : Type} (t : Tab α) (k : Nat) (d v : α) : Tab.at (Tab.put t k v) k d = v := by
  unfold Tab.at
  rw [Tab.find_put_self]
  rfl

theorem State.work_modWork {s : State} (h : s.dump.running.isSome = true) (die : Nat) (f : DieWork → DieWork) :
    (s.modWork die f).work die = f (s.work die) := by
  obtain ⟨k, hk⟩ := Option.isSome_iff_exists.mp h
  unfold modWork modSo work
  rw [hk]
  exact Tab.at_put_self k.dies die DieWork.fresh _

theorem State.work_modWork_ne (s : State) {die d : Nat} (h : d ≠ die) (f : DieWork → DieWork) :
    (s.modWork die f).work d = s.work d := by
  unfold modWork modSo work
  cases s.dump.running with
  | none => rfl
  | some k => exact congrArg (fun o : Option DieWork => o.getD DieWork.fresh) (Tab.find_put_ne k.dies _ h)

/-- A field of a die's work that a change leaves, for every die. -/
theorem State.work_modWork_field {β : Type} (g : DieWork → β) (s : State) (die d : Nat) {f : DieWork → DieWork}
    (hf : ∀ w, g (f w) = g w) : g ((s.modWork die f).work d) = g (s.work d) := by
  by_cases hd : d = die
  · subst hd
    cases hr : s.dump.running with
    | none =>
      unfold modWork modSo work
      rw [hr]
      rfl
    | some k =>
      rw [work_modWork (by rw [hr]; rfl)]
      exact hf _
  · rw [s.work_modWork_ne hd]

theorem State.bulkIn_part (s : State) (die type uid off : Nat) (d t u : Nat) :
    (s.bulkIn die type uid off).part d t u = s.part d t u := by
  have hparts : ((s.bulkIn die type uid off).work d).parts = (s.work d).parts :=
    s.work_modWork_field DieWork.parts die d fun _ => rfl
  unfold part
  rw [hparts]

theorem isNone_false_of_isSome {α : Type} {o : Option α} (h : o.isSome = true) : ¬(o.isNone = true) := by
  rw [Option.isNone_iff_eq_none]
  exact Option.isSome_iff_ne_none.mp h

/-! ## A read that completes (R325, R341) -/

theorem recTier_ne_zero {type : Nat} (h : 0x10 ≤ type) : recTier type ≠ 0 := by
  unfold recTier
  rw [if_neg (Nat.not_lt.mpr h)]
  split <;> decide

/-- The two copies of a record that is written (R319, R330). -/
theorem State.sendRec_emitted {s : State} {k : Shakeout} (hk : s.dump.running = some k) (die : Nat) (r : Rec)
    (sum : Nat) (hr : r.tier ≠ 0) :
    (s.sendRec die r sum).emitted = s.emitted ++
      [⟨.stackWrite, die, be 8 (s.dump.areaBase k.ref r.tier false + (s.work die).place r.tier) ++ r.octets⟩,
       ⟨.stackWrite, die ^^^ 8, be 8 (s.dump.areaBase k.ref r.tier true + (s.work die).place r.tier) ++
          r.octets⟩] := by
  unfold sendRec
  dsimp only
  rw [if_neg hr]
  unfold writeCopies modWork modSo
  dsimp only
  rw [hk]
  exact List.append_assoc _ [_] [_]

/-- A record that ends NOT_COLLECTED goes to both of its copies at one offset (R341). -/
theorem State.endPart_notCollected {s : State} {k : Shakeout} {die type uid reason : Nat}
    (hk : s.dump.running = some k) (hp : (s.part die type uid).isSome = true) (ht : 0x10 ≤ type)
    (h2 : recTier type = 2 → s.tier2Admitted = true) :
    ∃ r : Rec, (s.endPart die type uid 2 reason).emitted = s.emitted ++
        [⟨.stackWrite, die, be 8 (s.dump.areaBase k.ref (recTier type) false +
          (s.work die).place (recTier type)) ++ r.octets⟩,
         ⟨.stackWrite, die ^^^ 8, be 8 (s.dump.areaBase k.ref (recTier type) true +
          (s.work die).place (recTier type)) ++ r.octets⟩] ∧
      r.uid = uid ∧ r.type = type ∧ r.state = 2 ∧ r.reason = reason ∧ r.stored = [] := by
  let x := s.dropPart die type uid
  have hend : s.endPart die type uid 2 reason = x.notCollected die uid type reason := by
    unfold endPart
    rw [if_neg (isNone_false_of_isSome hp), if_neg (fun c => c.2 (h2 c.1))]
    rfl
  let y := s.ringDrop fun t => t.die = die && t.use = .debugFallback (recKey type uid)
  have hplace : (x.work die).place (recTier type) = (s.work die).place (recTier type) :=
    y.work_modWork_field (fun w => w.place (recTier type)) die die fun _ => rfl
  obtain ⟨k', hk', href⟩ : ∃ k', x.dump.running = some k' ∧ k'.ref = k.ref := by
    refine ⟨_, congrArg (Option.map _) hk, rfl⟩
  let r := x.emptyRec die uid type 2 reason
  have hsent := sendRec_emitted hk' die r 0 (recTier_ne_zero ht)
  have htier : r.tier = recTier type := rfl
  rw [href, htier, hplace] at hsent
  exact ⟨r, (congrArg State.emitted hend).trans hsent, rfl, rfl, rfl, rfl, rfl⟩

/-- Debug-class reads complete under the status that the slot's state gives (R41). -/
theorem State.debugReadComplete_eq {s : State} {dt die uid type off status st : Nat} {data : List Byte}
    {lines : List Nat} (ho : ((s.begin dt).bulkOut die type uid off).isSome = true)
    (hp : ((s.begin dt).part die type uid).isSome = true) (hst : (s.begin dt).bulkStatus type uid status = st)
    (hok : status = 0 ∨ st = status) :
    exec (.debugReadComplete dt die uid type off status data lines) s = .next (State.feedDie (
      if st = 0 then ((s.begin dt).bulkIn die type uid off).rangeRead die type uid off data lines false
      else if st = 1 then ((s.begin dt).bulkIn die type uid off).endPart die type uid 2 0x10
      else ((s.begin dt).bulkIn die type uid off).bulkFailed die type uid off) die) := by
  have hpart : ¬((((s.begin dt).bulkIn die type uid off).part die type uid).isNone = true) := by
    rw [State.bulkIn_part]
    exact isNone_false_of_isSome hp
  have hstatus : ((status = 0 || (s.begin dt).bulkStatus type uid status = status) : Bool) = true := by
    rw [hst]
    exact Bool.or_eq_true_iff.mpr (hok.imp decide_eq_true decide_eq_true)
  show execDebugReadComplete dt die uid type off status data lines s = _
  unfold execDebugReadComplete
  dsimp only
  refine congrArg Host.Outcome.next ((if_pos (Bool.and_of ho hstatus)).trans ?_)
  dsimp only
  rw [hst, if_neg hpart]

theorem State.bulkStatus_one {s : State} {type uid : Nat}
    (h : recSecure type = true → s.chilled (uidCluster uid) = false) :
    s.bulkStatus type uid 1 = 1 := by
  unfold bulkStatus
  split
  · rfl
  next hsec =>
    have hs : recSecure type = true := by
      cases hr : recSecure type with
      | true => rfl
      | false =>
        rw [hr] at hsec
        exact absurd rfl hsec
    rw [h hs, if_neg Bool.false_ne_true]
    exact ite_self 1

/-- A slot that runs gives NOT_STOPPED whatever the host says. -/
theorem State.bulkStatus_running {s : State} {type uid : Nat} (h : s.bulkStatus type uid 0 = 1) :
    s.bulkStatus type uid 1 = 1 := by
  refine bulkStatus_one fun hs => ?_
  unfold bulkStatus at h
  rw [hs] at h
  cases hc : s.chilled (uidCluster uid) with
  | false => rfl
  | true =>
    rw [hc] at h
    exact absurd (show 2 = 1 from h) (by decide)

/-! ## Octets that are counted -/

theorem State.sendRec_bytes (s : State) (die : Nat) (r : Rec) (sum : Nat) :
    (s.sendRec die r sum).dump.bytesRead = s.dump.bytesRead := by
  unfold sendRec
  dsimp only
  split <;> rfl

theorem State.modImage_bytes (s : State) (f : Image → Image) :
    (s.modImage f).dump.bytesRead = s.dump.bytesRead ∧ (s.modImage f).dump.bytesStored = s.dump.bytesStored := by
  unfold modImage
  split <;> exact ⟨rfl, rfl⟩

theorem State.collected_bytes (s : State) (die : Nat) (p : PartRec) :
    (s.collected die p).dump.bytesRead = s.dump.bytesRead := by
  unfold collected
  split
  · rfl
  · extract_lets data lines clean sub cold
    split
    extract_lets r s1
    have hfirst : s1.dump.bytesRead = s.dump.bytesRead := sendRec_bytes _ _ _ _
    split
    · exact hfirst
    · split
      exact ((modImage_bytes _ _).1.trans (sendRec_bytes _ _ _ _)).trans hfirst

theorem State.rangeRead_bytes (s : State) (die type uid off : Nat) (data : List Byte) (lines : List Nat) (ring : Bool) :
    (s.rangeRead die type uid off data lines ring).dump.bytesRead =
      add64 s.dump.bytesRead (Nat.min bulkUnit (recLen type - off)) := by
  have hwrite (x : State) : (x.writePart die type uid).dump.bytesRead = x.dump.bytesRead := by
    unfold writePart
    split
    · rfl
    · split
      · exact collected_bytes _ _ _
      · rfl
  unfold rangeRead
  dsimp only
  rw [hwrite]
  split <;> rfl

theorem State.recordStored_bytes (s : State) (die : Nat) (r : Rec) (sum : Nat) :
    (s.recordStored die r sum).dump.bytesStored = add64 s.dump.bytesStored r.stored.length ∧
    (s.recordStored die r sum).emitted = s.emitted := by
  let x := s.modWork die fun w => { w with sums := setAt w.sums r.tier ((w.sums.getD r.tier 0 + sum) % 2 ^ 64) }
  let y : State := if r.tier = 0 then x.ladlePut r
    else x.modImage fun g => g.modSection r.tier die fun x =>
      { x with count := x.count + 1, storedBytes := x.storedBytes + r.space }
  have hemit (s : State) (f : Image → Image) : (s.modImage f).emitted = s.emitted := by
    unfold modImage
    split <;> rfl
  have hy : y.dump.bytesStored = s.dump.bytesStored ∧ y.emitted = s.emitted := by
    by_cases hr : r.tier = 0
    · have hput : y = x.ladlePut r := if_pos hr
      rw [hput]
      exact ⟨(modImage_bytes x _).2, hemit x _⟩
    · have hsection : y = x.modImage fun g => g.modSection r.tier die fun x =>
          { x with count := x.count + 1, storedBytes := x.storedBytes + r.space } := if_neg hr
      rw [hsection]
      exact ⟨(modImage_bytes x _).2, hemit x _⟩
  exact ⟨congrArg (fun n => add64 n r.stored.length) hy.1, hy.2⟩

/-! ## A read without completion (R338) -/

theorem State.bulkIn_keeps (s : State) (die type uid off : Nat) (c : Nat) :
    (s.bulkIn die type uid off).tapFailed c = s.tapFailed c := by
  have hfailed : ((s.bulkIn die type uid off).work (c / 8)).failedTaps = (s.work (c / 8)).failedTaps :=
    s.work_modWork_field DieWork.failedTaps die (c / 8) fun _ => rfl
  unfold tapFailed
  rw [hfailed]

theorem State.ringSlot_keeps (s : State) (die type uid : Nat) (c d t u : Nat) :
    (s.ringSlot die type uid).tapFailed c = s.tapFailed c ∧ (s.ringSlot die type uid).part d t u = s.part d t u ∧
    Changes [.dump] s (s.ringSlot die type uid) := by
  unfold ringSlot
  split
  · let f (w : DieWork) : DieWork :=
      { w with ringSlots := setBit w.ringSlots (uidCluster uid % 8 * 136 + uidSlot uid) true }
    have hfailed : ((s.modWork die f).work (c / 8)).failedTaps = (s.work (c / 8)).failedTaps :=
      s.work_modWork_field DieWork.failedTaps die (c / 8) fun _ => rfl
    have hparts : ((s.modWork die f).work d).parts = (s.work d).parts :=
      s.work_modWork_field DieWork.parts die d fun _ => rfl
    refine ⟨?_, ?_, modWork_frame s die f (.refl _ s) (by decide)⟩
    · show ((s.modWork die f).work (c / 8)).failedTaps.getLsbD (c % 8) = _
      rw [hfailed]
      rfl
    · show ((s.modWork die f).work d).parts.find? _ = _
      rw [hparts]
      rfl
  · exact ⟨rfl, rfl, .refl _ s⟩

/-- A range that fails goes to the tap ring, when its tap has not failed and the ring has room (R338). -/
theorem State.bulkFailed_rings {s : State} {die type uid off win : Nat} (hw : recWindow type = some win)
    (hf : s.tapFailed (uidCluster uid) = false) (h2 : 0x20 ≤ recKey type uid / 65536 → s.tier2Admitted = true)
    (hq : s.units.ringQueue = []) (hr : s.ringRoom (uidCluster uid / 8) (uidCluster uid % 8) = true) :
    ∃ q : RingTxn, (s.bulkFailed die type uid off).units.ring = s.units.ring ++ [q] ∧ q.write = false ∧
      q.window = win ∧ q.offset = off := by
  have hnot : ¬(recWindow type ≠ none ∧ s.tapFailed (uidCluster uid) = true) := by
    rw [hf]
    exact fun c => Bool.false_ne_true c.2
  let t := ringRead (uidCluster uid) win (if recSecure type then uidSlot uid else 0)
    (Nat.min bulkUnit (recLen type - off) / 4) off (.debugFallback (recKey type uid))
  have hheld : s.ringHeld t = false := by
    by_cases hk : 0x20 ≤ recKey type uid / 65536
    · exact Bool.and_eq_false_iff.mpr (.inr (congrArg not (h2 hk)))
    · exact Bool.and_eq_false_iff.mpr (.inl (decide_eq_false hk))
  obtain ⟨q, hring, hwrite, hwin, hoff, -⟩ := ringStart_issues (t := t) hq hr hheld
  have hrec : s.bulkFailed die type uid off = s.ringStart t := by
    unfold bulkFailed ringRecord
    rw [if_neg hnot, hw]
    exact if_neg (Bool.eq_false_iff.mp hf)
  rw [hrec]
  exact ⟨q, hring, hwrite, hwin, hoff⟩

/-! ## Writes that end (R329–R331) -/

theorem State.writingRec_ends {s : State} {dt die uid type sub : Nat} {ownOk mirrorOk : Bool} {k : Writing}
    (hk : (s.begin dt).writingRec die uid type sub = some k) (ht : k.record.tier = 1) :
    exec (.recordWriteComplete dt die uid type sub ownOk mirrorOk) s = .next
      (((s.begin dt).reserveStored die k.record k.sum (ownOk && s.stackUp die)
        (mirrorOk && s.stackUp (die ^^^ 8))).feedDie die) := by
  have h2 : (decide (k.record.tier ≠ 2) || (s.begin dt).tier2Admitted) = true := by
    rw [ht]
    rfl
  have h0 : ¬(k.record.tier = 0) := by
    rw [ht]
    decide
  show execRecordWriteComplete dt die uid type sub ownOk mirrorOk s = _
  unfold execRecordWriteComplete
  dsimp only
  rw [hk]
  refine congrArg Host.Outcome.next ((if_pos h2).trans ?_)
  dsimp only
  rw [if_neg h0]
  rfl

theorem State.modImage_worsen (s : State) (tier die state i : Nat) :
    ((s.worsen tier die state).soResult i).dump.bytesStored = s.dump.bytesStored :=
  (modImage_bytes _ _).2.trans (s.modImage_bytes _).2

/-- A tier 1 record that one write stored at least is counted (R331). -/
theorem State.reserveStored_bytes (s : State) (die : Nat) {r : Rec} (sum : Nat) (mirror : Bool) (ht : r.tier = 1) :
    (s.reserveStored die r sum true mirror).dump.bytesStored = add64 s.dump.bytesStored r.stored.length := by
  let x := (s.writeEnded die r.uid r.type r.sub).recordStored die r sum
  have hx : x.dump.bytesStored = add64 s.dump.bytesStored r.stored.length := (recordStored_bytes _ die r sum).1
  have harea (y : State) (ref : Bool) (f : Area → Area) :
      (y.modArea ref f).dump.bytesStored = y.dump.bytesStored := by
    unfold modArea
    split <;> rfl
  have h2 : ¬(r.tier = 2) := by
    rw [ht]
    decide
  unfold reserveStored
  dsimp only
  rw [if_neg (show ¬((!true && !mirror) = true) from Bool.false_ne_true), if_neg h2, harea]
  split
  · exact hx
  · exact (modImage_worsen _ _ _ _ _).trans hx

/-- The state in which a record is lost, before the log tells it (R331). -/
def State.recordLost (s : State) (die : Nat) (r : Rec) : State :=
  (((s.writeEnded die r.uid r.type r.sub).worsen r.tier die 2).soResult 4).modImage
    fun g => { g with lost := g.lost + 1 }

theorem State.reserveStored_lost (s : State) (die : Nat) (r : Rec) (sum : Nat) :
    s.reserveStored die r sum false false =
      (s.recordLost die r).logged Code.soRecordLost (be 2 r.uid ++ be 1 r.type ++ be 4 r.sub) := rfl

theorem State.recordLost_bytes (s : State) (die : Nat) (r : Rec) :
    (s.recordLost die r).dump.bytesStored = s.dump.bytesStored :=
  (modImage_bytes _ _).2.trans (modImage_worsen _ _ _ _ _)

/-- Settles O21. -/
theorem shakeoutRecords : Obligations.ShakeoutRecords := by
  refine ⟨fun dt die uid type off data lines s k hk ho ht hp h2 => ⟨fun hsec => ?_, fun hst => ?_, fun hst => ?_⟩,
    fun dt die uid type off win s r ho hdue hw hf hp h2 hq hr => ?_,
    fun dt die uid type sub s k r hk hrec ht => ⟨fun hup => ?_, ?_⟩, fun dt die uid type s k hk ht hdue => ?_⟩
  · have hone : (s.begin dt).bulkStatus type uid 1 = 1 := State.bulkStatus_one hsec
    let x := (s.begin dt).bulkIn die type uid off
    have hpart : (x.part die type uid).isSome = true := by
      rw [State.bulkIn_part]
      exact hp
    have hplace : (x.work die).place (recTier type) = (s.work die).place (recTier type) :=
      (s.begin dt).work_modWork_field (fun w => w.place (recTier type)) die die fun _ => rfl
    obtain ⟨r, hemit, huid, htype, hstate, hreason, hstored⟩ := State.endPart_notCollected (s := x) (reason := 0x10)
      (congrArg (Option.map _) hk) hpart ht h2
    refine ⟨x.endPart die type uid 2 0x10, r, State.debugReadComplete_eq ho hp hone (.inr rfl), ?_, huid, htype,
      hstate, hreason, hstored⟩
    rw [hemit, hplace]
    rfl
  · exact (State.debugReadComplete_eq ho hp hst (.inl rfl)).trans
      (State.debugReadComplete_eq ho hp (State.bulkStatus_running hst) (.inr rfl)).symm
  · refine ⟨((s.begin dt).bulkIn die type uid off).rangeRead die type uid off data lines false,
      State.debugReadComplete_eq ho hp hst (.inl rfl), ?_⟩
    exact ((s.begin dt).bulkIn die type uid off).rangeRead_bytes die type uid off data lines false
  · let x := (s.begin dt).bulkIn die type uid off
    let y := x.ringSlot die type uid
    obtain ⟨hfail, hpart, hch⟩ := x.ringSlot_keeps die type uid (uidCluster uid) die type uid
    have hpart' : ¬((y.part die type uid).isNone = true) := by
      rw [hpart, State.bulkIn_part]
      exact isNone_false_of_isSome hp
    have hunits : y.units = s.units := hch .units (by decide)
    have hpower : y.power = s.power := hch .power (by decide)
    have hadm : y.tier2Admitted = s.tier2Admitted := congrArg (fun p : Power => p.admitted.getLsbD 1) hpower
    have hroom : y.ringRoom (uidCluster uid / 8) (uidCluster uid % 8) = true := by
      unfold State.ringRoom State.ringOf at hr ⊢
      rw [hunits]
      exact hr
    obtain ⟨q, hring, hwrite, hwin, hoff⟩ := State.bulkFailed_rings (s := y) (die := die) (off := off) hw
      (hfail.trans (((s.begin dt).bulkIn_keeps die type uid off (uidCluster uid)).trans hf))
      (fun hkey => hadm.trans (h2 hkey)) ((congrArg Units.ringQueue hunits).trans hq) hroom
    refine ⟨y.bulkFailed die type uid off, q, ?_, hring.trans (congrArg (· ++ [q]) (congrArg Units.ring hunits)),
      hwin, hoff, hwrite⟩
    show execDebugReadTimeout dt die uid type off s = _
    unfold execDebugReadTimeout
    dsimp only
    rw [ho]
    refine congrArg Host.Outcome.next ((if_pos (decide_eq_true hdue)).trans ?_)
    exact congrArg (fun z : State => z.feedDie die) (if_neg hpart')
  · subst hrec
    refine ⟨_, State.writingRec_ends hk ht, ?_⟩
    rw [hup]
    exact (s.begin dt).reserveStored_bytes die k.sum _ ht
  · subst hrec
    exact ⟨_, (State.writingRec_ends hk ht).trans (congrArg (fun z : State => Host.Outcome.next (z.feedDie die))
      ((s.begin dt).reserveStored_lost die k.record k.sum)), (s.begin dt).recordLost_bytes die k.record⟩
  · let x := ((s.begin dt).emit .runnerCast die k.record.octets).writeEnded die k.record.uid k.record.type
      k.record.sub
    obtain ⟨hbytes, hemit⟩ := x.recordStored_bytes die k.record k.sum
    refine ⟨x.recordStored die k.record k.sum, ?_, hemit, hbytes⟩
    show execLadleWriteTimeout dt die uid type s = _
    unfold execLadleWriteTimeout
    dsimp only
    rw [hk]
    exact congrArg Host.Outcome.next (if_pos (Bool.and_of (decide_eq_true ht) (decide_eq_true hdue)))

end Sys2Proof.Machine
end

section
/-!
PROOFS. Seals, lost runners and the readout of an image (R344, R347, R349, R350, R361, O22).
-/
namespace Sys2Proof.Machine

/-! ## A part that is reported (R349) -/

theorem State.work_congr {s x : State} (h : x.dump.running = s.dump.running) (die : Nat) : x.work die = s.work die := by
  unfold work
  rw [h]

/-- Everything of the running shakeout but the image. -/
theorem State.work_modImage (s : State) (f : Image → Image) (die : Nat) : (s.modImage f).work die = s.work die :=
  work_congr (s.modImage_running f) die

theorem State.endSection_running (s : State) (g : Image) (die tier d : Nat) :
    ((s.endSection g die tier).work d).sums = (s.work d).sums ∧
    ((s.endSection g die tier).dump.running.isSome = s.dump.running.isSome) := by
  unfold endSection
  split
  · exact ⟨rfl, rfl⟩
  · extract_lets count r put off s1 s2
    have hplaced (w : DieWork) : (w.placed r).sums = w.sums := by
      unfold DieWork.placed
      split
      · rfl
      · split <;> rfl
    have hwork : ((s.modWork die fun w => w.placed r).work d).sums = (s.work d).sums :=
      s.work_modWork_field DieWork.sums die d hplaced
    have hsome : (s.modWork die fun w => w.placed r).dump.running.isSome = s.dump.running.isSome :=
      Option.isSome_map
    have hs2 : s2.dump.running = (s.modWork die fun w => w.placed r).dump.running := modImage_running s1 _
    have hend (x : State) (hx : x.dump.running = s2.dump.running) :
        (x.work d).sums = (s.work d).sums ∧ x.dump.running.isSome = s.dump.running.isSome := by
      rw [work_congr (hx.trans hs2) d, hx, hs2]
      exact ⟨hwork, hsome⟩
    refine hend _ ?_
    split
    · rfl
    · unfold modArea
      split <;> rfl

theorem State.execSealPartReport_reports {s : State} {dt die tier : Nat} {k : Shakeout} {g : Image}
    (hk : s.dump.running = some k) (hg : s.soImage = some g) (hd : die < 16) (ht : tier < 3)
    (hb : bitOf k.tiers tier = true) (hp : s.partIn die tier = false)
    (hdone : (s.begin dt).tierDone g k die tier = true) :
    ∃ x : State, exec (.sealPartReport dt die tier) s = .next x.soAdvance ∧ x.partIn die tier = true ∧
      (x.work die).sums = (s.work die).sums := by
  let y := (s.begin dt).endSection g die tier
  let part := (s.work die).sums.getD tier 0
  let z := y.modWork die fun w => { w with reported := setBit w.reported tier true }
  let x := z.modImage fun g => g.modSection tier die fun x => { x with part := (x.part + part) % 2 ^ 64 }
  obtain ⟨hsums, hsome⟩ := (s.begin dt).endSection_running g die tier die
  have hrun : y.dump.running.isSome = true := hsome.trans (Option.isSome_of_mem hk)
  have hxw : x.work die = { y.work die with reported := setBit (y.work die).reported tier true } :=
    (z.work_modImage _ die).trans (State.work_modWork hrun die _)
  refine ⟨x, ?_, ?_, (congrArg DieWork.sums hxw).trans hsums⟩
  · have hp' : (s.begin dt).partIn die tier = false := hp
    show execSealPartReport dt die tier s = _
    unfold execSealPartReport
    dsimp only
    rw [show (s.begin dt).dump.running = some k from hk, show (s.begin dt).soImage = some g from hg]
    refine congrArg Host.Outcome.next (if_pos ?_)
    rw [hb, hp', hdone]
    exact Bool.and_of (Bool.and_of (Bool.and_of (decide_eq_true hd) rfl) rfl) rfl
  · unfold State.partIn
    rw [hxw]
    refine Bool.or_eq_true_iff.mpr (.inr ?_)
    refine (getLsbD_setBit_true _ tier tier).trans (Bool.or_eq_true_iff.mpr (.inr ?_))
    exact Bool.and_of (decide_eq_true ht) (decide_eq_true rfl)

/-! ## The sum of a seal wave (R350) -/

theorem State.execSealResult_due {s : State} {dt sum : Nat} {k : Shakeout} {g : Image} {w : SealWave}
    (hk : s.dump.running = some k) (hg : s.soImage = some g) (hw : k.sealWave = some w)
    (hdue : w.wave + 768 ≤ (s.begin dt).pns) : exec (.sealResult dt sum) s = .next (
      if sum = s.partsSum g w.tier then (s.begin dt).writeSeal w.tier sum
      else if !w.repeated then (s.begin dt).nameWave w.tier true
      else (((s.begin dt).soResult 2).logged Code.soSealMismatch (be 4 g.id ++ be 1 w.tier)).writeSeal w.tier
        (sum % 2 ^ 64)) := by
  show execSealResult dt sum s = _
  unfold execSealResult
  dsimp only
  rw [show (s.begin dt).dump.running = some k from hk, show (s.begin dt).soImage = some g from hg]
  dsimp only
  rw [hw]
  exact congrArg Host.Outcome.next (if_pos (decide_eq_true hdue))

/-! ## A runner that is lost (R344) -/

theorem State.execSoRunnerLost_loses {s : State} {dt die tier : Nat} {k : Shakeout} (hk : s.dump.running = some k)
    (hd : die < 16) (ht : tier ∈ k.tierList) (hp : s.partIn die tier = false) (hstill : 2 ≤ (s.work die).still) :
    ∃ x : State, exec (.soRunnerLost dt die) s = .next (x.soLoseDie die) ∧ x.health (runnerUid die) = 4 := by
  let y := (s.begin dt).setHealth (runnerUid die) 4
  refine ⟨y.logged Code.soRunnerLost (be 2 (runnerUid die)), ?_, ?_⟩
  · have hbusy : (k.tierList.any fun t => !s.partIn die t) = true :=
      List.any_eq_true.mpr ⟨tier, ht, congrArg not hp⟩
    show execSoRunnerLost dt die s = _
    unfold execSoRunnerLost
    dsimp only
    rw [show (s.begin dt).dump.running = some k from hk]
    refine congrArg Host.Outcome.next (if_pos ?_)
    exact Bool.and_of (Bool.and_of (decide_eq_true hd) hbusy)
      (Bool.or_eq_true_iff.mpr (.inl (decide_eq_true hstill)))
  · have htopo : (y.logged Code.soRunnerLost (be 2 (runnerUid die))).topo = y.topo :=
      State.same_of_frame .topo (logged_frame y _ _) rfl
    exact (congrArg (fun x : Topo => Tab.at x.health (runnerUid die - 0x8000) 0) htopo).trans
      (State.health_setHealth _ _ (by decide))

/-! ## Read transfers over a value (R361, R644) -/

/-- The transfer that a read opens over the whole of a value. -/
theorem State.openRead_whole {s : State} {c : Ctx} {idx sub : Nat} {v : List Byte} (hr : s.blockRoom c.who = true) :
    ∃ (x : State) (b : Block) (d : List Byte), s.openRead c idx sub 0 0 v = ⟨x, Abort.ok, d⟩ ∧
      x.port.blocks = s.port.blocks ++ [b] ∧ b.bytes = v ∧ b.total = v.length ∧ b.requester = c.who ∧
      b.write = false := by
  have hslice : slice v 0 (v.length - 0) = v := List.take_length
  unfold openRead
  rw [if_neg (Nat.not_lt_zero v.length), hr]
  exact ⟨_, _, _, rfl, rfl, hslice, rfl, rfl, rfl⟩

section
variable {s s1 : State} {dt idx sub : Nat} {req : Req} {c : Ctx} (h : Served s dt req idx sub .blkRead c s1)
  {f : Ctx → State → State × Nat × List Byte}
include h

/-- A read transfer of a value that its object gives. -/
theorem Served.opensRead {v : List Byte} (hf : f c s1 = (s1, Abort.ok, v)) (hr : s1.blockRoom c.who = true) :
    ∃ (x : State) (b : Block) (d : List Byte), (s.begin dt).serveRead req idx sub 0 0 f =
        (x.answerFlags c (s1.pendingFlag c.who idx sub) Abort.ok d).pumpBlock (s.begin dt).newBlockId
          (524320 / blkUnit + 2) ∧
      x.port.blocks = s1.port.blocks ++ [b] ∧ b.bytes = v ∧ b.total = v.length ∧ b.requester = c.who ∧
      b.write = false := by
  obtain ⟨x, b, d, hopen, hblocks⟩ := State.openRead_whole (idx := idx) (sub := sub) (v := v) hr
  refine ⟨x, b, d, ?_, hblocks⟩
  unfold State.serveRead
  dsimp only
  rw [h.reads rfl (r := ⟨x, Abort.ok, d⟩) ?_ rfl]
  rw [hf]
  exact hopen

/-- One that its object refuses. -/
theorem Served.refusesRead {code : Nat} {v : List Byte} (hf : f c s1 = (s1, code, v)) (hc : code ≠ Abort.ok) :
    (s.begin dt).serveRead req idx sub 0 0 f =
      (s1.answer c code []).pumpBlock (s.begin dt).newBlockId (524320 / blkUnit + 2) := by
  have hserve := State.serve_failed (fun c s => match f c s with
    | (s, code, value) => if code = Abort.ok then s.openRead c idx sub 0 0 value else s.refuse code) h.1 h.2
  dsimp only at hserve
  rw [hf] at hserve
  dsimp only at hserve
  rw [if_neg hc] at hserve
  exact congrArg (fun x : State => x.pumpBlock (s.begin dt).newBlockId (524320 / blkUnit + 2)) (hserve hc)
end

/-- The selected record of tier 0. -/
theorem State.findRecord_tier0 {s : State} {g : Image} {ownOk mirrorOk : Bool} {r : Rec}
    (h : (g.tier0.find? fun r => s.keyed r.uid r.type r.sub) = some r) :
    s.findRecord g ownOk mirrorOk = (Abort.ok, r.octets) := by
  unfold findRecord
  rw [h]

/-- Settles O22. -/
theorem shakeoutSealsAndReadout : Obligations.ShakeoutSealsAndReadout := by
  refine ⟨fun dt die tier s k g hk hg hd ht hb hp hdone => State.execSealPartReport_reports hk hg hd ht hb hp hdone,
    fun dt sum s k g w hk hg hw hdue => ?_,
    fun dt die tier s k hk hd ht hp hstill => State.execSoRunnerLost_loses hk hd ht hp hstill,
    fun dt req s s1 c g h hg hr => ?_, fun dt req ownOk mirrorOk s s1 c g h hg => ⟨fun hsec hno => ?_,
      fun r hsec hfind hr => ?_⟩⟩
  · have hexec := State.execSealResult_due (sum := sum) hk hg hw hdue
    refine ⟨fun hs => hexec.trans ?_, fun hs hn => hexec.trans ?_, fun hs hy => hexec.trans ?_⟩
    · rw [if_pos hs]
    · rw [if_neg hs, hn]
      rfl
    · rw [if_neg hs, hy]
      rfl
  · obtain ⟨x, b, d, hx, hblocks, hbytes, htotal, hwho, hwrite⟩ := h.opensRead (v := s1.imageOctets g)
      (f := fun _ s => match s.selectedImage with
        | none => (s, Abort.imageUnknown, [])
        | some g => (s, Abort.ok, s.imageOctets g)) (by rw [hg]) hr
    exact ⟨x, b, d, congrArg Host.Outcome.next hx, hblocks, hbytes, htotal, hwho, hwrite⟩
  · refine congrArg Host.Outcome.next (h.refusesRead (v := []) ?_ (by decide))
    dsimp only
    rw [hg]
    dsimp only
    rw [hsec, hno]
    rfl
  · obtain ⟨x, b, d, hx, hblocks, hbytes, htotal, -, -⟩ := h.opensRead (v := r.octets)
      (f := fun c s => match s.selectedImage with
        | none => (s, Abort.imageUnknown, [])
        | some g =>
          if g.dumpSecure && !s.readsSecure c then (s, Abort.notAuthorized, [])
          else
            match s.findRecord g ownOk mirrorOk with
            | (code, data) => (s, code, data)) (by
        dsimp only
        rw [hg]
        dsimp only
        rw [hsec]
        exact congrArg (fun p : Nat × List Byte => (s1, p.1, p.2)) (State.findRecord_tier0 hfind)) hr
    exact ⟨x, b, d, congrArg Host.Outcome.next hx, hblocks, hbytes, htotal⟩

end Sys2Proof.Machine
end

section
/-!
PROOFS. The verdicts of hang detection and the procedure that they start (R380, O23).
-/
namespace Sys2Proof.Machine

/-- A procedure waits for a cut of cluster 0, whose tap ends a step of slot 0 one nanosecond later (R44). -/
def stepEndsWaiting : State :=
  { State.reset with
    qu := { State.reset.qu with state := Qs.quenched, members := 1 }
    hang := { State.reset.hang with proc := { Procedure.fresh with state := 10, trigger := 1, scope := 1 } }
    units := { Units.fresh with taps := [(0, { Tap.fresh with
      inReset := false, coreClock := BitVec.allOnes 136, stepRunning := true, stepEnds := State.reset.elapsed + 1
      stepSlots := 1 })] } }

/-- Refutes O23: HANG_WAIT_CLEAR asks whether the cut holds when its own time has passed, by which a tap may have
ended a step (R44); the clause asks it of the state before. -/
theorem not_hangVerdicts : ¬ Obligations.HangVerdicts := by
  intro h
  obtain ⟨-, -, -, -, -, hwait, -⟩ := h
  have hproc := congrArg (fun o => (outState o).hang.proc.state) (hwait 1 stepEndsWaiting rfl rfl)
  revert hproc
  decide +kernel

end Sys2Proof.Machine
end

section
/-!
PROOFS. Removal of contexts (R386–R391, R394, R396, R748, O25).
-/
namespace Sys2Proof.Machine

/-! ## The word of a context -/

theorem State.setCtx_reads (s : State) (ctx epoch : Nat) {st : Nat} (h : st ≠ 0) :
    (s.setCtx ctx epoch st).ctxState ctx = st ∧ (s.setCtx ctx epoch st).ctxEpoch ctx = epoch % 256 := by
  have hword : Tab.at (s.setCtx ctx epoch st).hang.contexts ctx 0 = epoch % 256 + 256 * st :=
    Tab.at_set_of_ne s.hang.contexts ctx 0 _ (by omega)
  unfold ctxState ctxEpoch
  rw [hword]
  omega

theorem State.moveCtx_reads (s : State) (ctx : Nat) {st : Nat} (h : st ≠ 0) :
    (s.moveCtx ctx st).ctxState ctx = st ∧ (s.moveCtx ctx st).ctxEpoch ctx = s.ctxEpoch ctx := by
  obtain ⟨hst, he⟩ := s.setCtx_reads ctx (s.ctxEpoch ctx) h
  exact ⟨hst, he.trans (Nat.mod_mod _ _)⟩

theorem State.fettleContexts_held {s : State} (h : s.power.admitted.getLsbD 3 = false) : s.fettleContexts = s :=
  if_neg (Bool.eq_false_iff.mp h)

theorem State.fettleContexts_queue (s : State) : s.fettleContexts.hang.queue = s.hang.queue := by
  unfold fettleContexts
  split
  · exact State.foldl_eq (fun x => x.hang.queue) (f := fun s c => State.emit { s.moveCtx c Cx.fettling with
      hang := { (s.moveCtx c Cx.fettling).hang with
        fettling := Tab.put (s.moveCtx c Cx.fettling).hang.fettling c 0xFFFF } } .runnerCast 1 (be 2 c))
      (fun _ _ => rfl) _ s
  · rfl

/-! ## CONTEXT_REMOVE (R386–R388) -/

section
variable {s s1 : State} {dt ctx : Nat} {req : Req} {c : Ctx} (h : Served s dt req 0x3110 0 .write c s1)
include h

theorem Served.contextRemove_refused {code : Nat} (hr : s1.removeRefusal ctx = some code) :
    exec (.contextRemove dt req ctx) s = .next (s1.answer c code []) := by
  have hcmd : s1.cmdContextRemove ctx = s1.refuse code := by
    unfold State.cmdContextRemove
    rw [hr]
  exact congrArg Host.Outcome.next (h.refuses rfl (f := fun _ s => s.cmdContextRemove ctx) hcmd)

theorem Served.contextRemove_accepted (hr : s1.removeRefusal ctx = none) :
    exec (.contextRemove dt req ctx) s =
      .next ((s1.requestRemoval ctx false false false).fettleContexts.answer c Abort.ok []) := by
  have hcmd : s1.cmdContextRemove ctx = (s1.requestRemoval ctx false false false).fettleContexts.accept := by
    unfold State.cmdContextRemove
    rw [hr]
  exact congrArg Host.Outcome.next (h.accepts rfl (f := fun _ s => s.cmdContextRemove ctx) hcmd)
end

/-- A NORMAL context whose removal is not refused has a place in the queue (R388). -/
theorem State.requestRemoval_normal {s : State} {ctx : Nat} (hr : s.removeRefusal ctx = none)
    (hn : s.ctxState ctx = Cx.normal) (hq : s.queuedRemoval ctx = false) :
    (s.requestRemoval ctx false false false).hang.queue = s.hang.queue ++ [⟨ctx, false, false⟩] := by
  have hroom : (s.hang.overflow.isEmpty && decide (s.hang.queue.length < 64)) = true := by
    unfold removeRefusal at hr
    rw [hn, hq] at hr
    dsimp only at hr
    by_cases hbig : 4095 < ctx
    · rw [if_pos hbig] at hr
      exact absurd hr (Option.some_ne_none _)
    · rw [if_neg hbig, if_neg (by decide)] at hr
      by_contra hno
      rw [if_pos ?_] at hr
      · exact absurd hr (Option.some_ne_none _)
      · simp only [Bool.and_eq_true, decide_eq_true_eq, not_and_or, Nat.not_lt] at hno
        simp only [decide_true, Bool.not_false, Bool.and_self, Bool.true_and, Bool.or_eq_true, Bool.not_eq_true',
          decide_eq_true_eq]
        exact hno.imp_left Bool.eq_false_iff.mpr
  unfold requestRemoval queueRemoval
  dsimp only
  rw [if_neg Bool.false_ne_true, if_pos hn, hq, if_neg Bool.false_ne_true, if_pos hroom]

theorem State.requestRemoval_suspended {s : State} {ctx : Nat} (hn : s.ctxState ctx = Cx.suspended) :
    s.requestRemoval ctx false false false = s.moveCtx ctx Cx.retired := by
  unfold requestRemoval
  dsimp only
  rw [hn]
  rfl

theorem State.requestRemoval_retired {s : State} {ctx : Nat} (hn : s.ctxState ctx = Cx.retired) :
    s.requestRemoval ctx false false false = s := by
  unfold requestRemoval
  dsimp only
  rw [hn]
  rfl

/-! ## The REMOVE cast (R385, R386, R388–R391) -/

/-- The contexts of a cast take their new epochs, one after another. -/
def State.removing (s : State) (l : List Nat) : State :=
  l.foldl (fun s c => s.setCtx c (s.ctxEpoch c + 1) Cx.removing) s

theorem State.removing_keeps (s : State) (l : List Nat) :
    (s.removing l).hang.casts = s.hang.casts ∧ (s.removing l).hang.queue = s.hang.queue :=
  ⟨State.foldl_eq (fun x => x.hang.casts) (f := fun s c => s.setCtx c (s.ctxEpoch c + 1) Cx.removing)
      (fun _ _ => rfl) l s,
    State.foldl_eq (fun x => x.hang.queue) (f := fun s c => s.setCtx c (s.ctxEpoch c + 1) Cx.removing)
      (fun _ _ => rfl) l s⟩

theorem State.issueRemove_casts (s : State) :
    ∃ o : CtxCast, s.issueRemove.hang.casts = s.hang.casts ++ [o] ∧ o.kind = .remove ∧ o.targets = ctxTargets ∧
      o.contexts = (removalBatch s.hang.queue).map Removal.ctx ∧
      o.hold = ((removalBatch s.hang.queue).head?.map Removal.hold).getD false := by
  let x := s.removing ((removalBatch s.hang.queue).map Removal.ctx)
  exact ⟨_, congrArg (· ++ [_]) (s.removing_keeps _).1, rfl, rfl, rfl, rfl⟩

theorem removalBatch_single (r : Removal) : removalBatch [r] = [r] := by
  have hwhile : [r].takeWhile (fun x => decide (x.hold = r.hold)) = [r] :=
    List.takeWhile_cons_of_pos (decide_eq_true rfl)
  exact congrArg (List.take 8) hwhile

/-- The only removal of the queue. -/
theorem State.issueRemove_single {s : State} {r : Removal} (h : s.hang.queue = [r]) :
    s.issueRemove.ctxState r.ctx = Cx.removing ∧ s.issueRemove.ctxEpoch r.ctx = (s.ctxEpoch r.ctx + 1) % 256 := by
  have hcontexts : s.issueRemove.hang.contexts =
      (s.setCtx r.ctx (s.ctxEpoch r.ctx + 1) Cx.removing).hang.contexts := by
    unfold issueRemove
    rw [h, removalBatch_single]
    rfl
  obtain ⟨hst, he⟩ := s.setCtx_reads r.ctx (s.ctxEpoch r.ctx + 1) (st := Cx.removing) (by decide)
  exact ⟨(congrArg (fun t => Tab.at t r.ctx 0 / 256) hcontexts).trans hst,
    (congrArg (fun t => Tab.at t r.ctx 0 % 256) hcontexts).trans he⟩

/-- A tap that takes a REMOVE (R389–R391). -/
theorem State.execContextCastReceive_acts {s : State} {dt t st uid e : Nat} {m : List Byte} {c : CtxOrder}
    (hm : CtxOrder.ofOctets m = some c) (ht : t < 128) (htarget : c.targets.getLsbD t = true) (hk : c.kind = 0x10)
    (hr : c.retry = false) :
    exec (.contextCastReceive dt t m st uid e) s = .next ((s.begin dt).actOnOrder t c) := by
  have halive : (s.begin dt).targetAlive t = true :=
    Bool.and_of (decide_eq_true (by omega)) (Bool.or_eq_true_iff.mpr (.inl (decide_eq_true ht)))
  have hcond : (c.targets.getLsbD t && (s.begin dt).targetAlive t &&
      (c.kind = 0x10 || c.kind = 0x11 || c.kind = 0x12)) = true := by
    rw [htarget, halive, hk]
    rfl
  have hfind : (((s.begin dt).memoryOf t).find? fun m => c.retry && m.id = c.id) = none := by
    rw [hr]
    exact List.find?_eq_none.mpr fun _ _ => Bool.false_ne_true
  show execContextCastReceive dt t m st uid e s = _
  unfold execContextCastReceive
  dsimp only
  rw [hm]
  refine congrArg Host.Outcome.next ((if_pos hcond).trans ?_)
  dsimp only
  rw [hfind]
  dsimp only
  rw [if_neg (by rw [hk]; decide)]

theorem State.actOnOrder_tap {s : State} {t : Nat} {c : CtxOrder} (ht : t < 128) (hk : c.kind = 0x10) :
    ∃ x : State, s.actOnOrder t c = (x.emit .laneOne c.id (be 8 1)).sendAnswer t c.id
        (if s.clusterReset t then Cx.inReset else Cx.acted) (x.stampPns (targetReplica t) % 2 ^ 32) ∧
      x.hang.casts = (s.hang.casts.map fun o => if o.id = c.id then { o with laneCount := o.laneCount + 1 } else o) ∧
      x.units = (if s.clusterReset t then s.units
        else (s.modTap t fun x => { x with epochs := c.apply x.epochs }).units) := by
  unfold actOnOrder
  rw [hk, decide_eq_true ht]
  cases s.clusterReset t with
  | true => exact ⟨_, rfl, rfl, rfl⟩
  | false =>
    dsimp only
    rw [if_neg (by decide), if_pos ht]
    exact ⟨_, rfl, rfl, rfl⟩

/-! ## The count and the drain (R394) -/

/-- A context cast that is replaced by one of its id. -/
theorem State.ctxCast_putCtx {s : State} {id : Nat} {o d : CtxCast} (h : s.ctxCast id = some o) (hd : d.id = o.id) :
    (s.putCtx d).ctxCast id = some d := by
  have hid : o.id = id := of_decide_eq_true (List.find?_some (p := fun c : CtxCast => decide (c.id = id)) h)
  unfold ctxCast putCtx at *
  rw [List.find?_map]
  have hp : ((fun c : CtxCast => decide (c.id = id)) ∘ fun e => if e.id = d.id then d else e) =
      fun c : CtxCast => decide (c.id = id) := by
    funext e
    by_cases he : e.id = d.id
    · exact (congrArg (fun e : CtxCast => decide (e.id = id)) (if_pos he)).trans (by rw [he])
    · exact congrArg (fun e : CtxCast => decide (e.id = id)) (if_neg he)
  rw [hp, h]
  exact congrArg some (if_pos hd.symm)

/-- The contexts of a cast whose count is complete drain. -/
def State.draining (s : State) (l : List Nat) : State :=
  l.foldl (fun s x => if s.ctxState x = Cx.removing then s.moveCtx x Cx.draining else s) s

theorem State.draining_keeps {β : Type} (g : State → β)
    (hg : ∀ (s : State) (c st : Nat), g (s.moveCtx c st) = g s)
    (s : State) (l : List Nat) : g (s.draining l) = g s :=
  State.foldl_eq g (f := fun s x => if s.ctxState x = Cx.removing then s.moveCtx x Cx.draining else s)
    (fun s x => by
      split
      · exact hg s x _
      · rfl) l s

theorem State.execRemoveCountComplete_drains {s : State} {dt id : Nat} {o : CtxCast}
    (ho : s.ctxCast id = some o) (hk : o.kind = .remove) (hc : o.counted = false)
    (hcomplete : s.removeComplete o = true) :
    ∃ x : State, exec (.removeCountComplete dt id) s = .next x.procRemovals ∧
      x.ctxCast id = some { o with counted := true, drainAt := some ((s.begin dt).pns + s.hang.drainNs) } := by
  let y := (s.begin dt).draining o.contexts
  have hcasts : y.hang.casts = s.hang.casts :=
    (s.begin dt).draining_keeps (fun x => x.hang.casts) (fun _ _ _ => rfl) o.contexts
  have hdrain : y.hang.drainNs = s.hang.drainNs :=
    (s.begin dt).draining_keeps (fun x => x.hang.drainNs) (fun _ _ _ => rfl) o.contexts
  have hpns : y.pns = (s.begin dt).pns :=
    (s.begin dt).draining_keeps State.pns (fun _ _ _ => rfl) o.contexts
  have hy : y.ctxCast id = some o := by
    unfold State.ctxCast
    rw [hcasts]
    exact ho
  refine ⟨y.putCtx { o with counted := true, drainAt := some (y.pns + y.hang.drainNs) }, ?_, ?_⟩
  · have hcond : (o.kind = .remove && !o.counted && (s.begin dt).removeComplete o) = true :=
      Bool.and_of (Bool.and_of (decide_eq_true hk) (congrArg not hc)) hcomplete
    show execRemoveCountComplete dt id s = _
    unfold execRemoveCountComplete
    dsimp only
    rw [show (s.begin dt).ctxCast id = some o from ho]
    exact congrArg Host.Outcome.next (if_pos hcond)
  · rw [← hpns, ← hdrain]
    exact State.ctxCast_putCtx hy rfl

/-- The only context of a cast with HOLD_REGIONS is SUSPENDED when it has drained. -/
theorem State.drainCast_suspends {s : State} {o : CtxCast} {k e : Nat} (hx : o.contexts = [k]) (he : o.epochs = [e])
    (hh : o.hold = true) (hst : s.ctxState k = Cx.draining) (ha : ∀ r ∈ s.hang.aside, r.ctx ≠ k)
    (hf : s.power.admitted.getLsbD 3 = false) :
    (s.drainCast o).ctxState k = Cx.suspended ∧ (s.drainCast o).ctxEpoch k = s.ctxEpoch k := by
  let y := (s.moveCtx k Cx.suspended).logged Code.ctxRemoved (be 2 k ++ be 1 ((e + 255) % 256) ++ be 1 e)
  have hch : Changes [.emitted, .backup, .flash, .logSeq, .log, .port] (s.moveCtx k Cx.suspended) y :=
    logged_frame _ _ _ (.refl _ _) (List.Subset.refl _)
  have hhang : y.hang = (s.moveCtx k Cx.suspended).hang := hch .hang (by decide)
  have hpower : y.power = s.power := hch .power (by decide)
  have hfinal : (y.hang.aside.any fun r => r.ctx = k && !r.hold) = false := by
    rw [hhang]
    refine List.any_eq_false.mpr fun r hr hc => ha r hr ?_
    exact of_decide_eq_true (Bool.and_eq_true_iff.mp hc).1
  let z : State := { y with hang := { y.hang with aside := y.hang.aside.filter fun r => r.ctx ≠ k } }
  have haside : y.releaseAside k = z := by
    unfold releaseAside
    rw [hfinal]
    rfl
  have hdrain : s.drainCast o = z.dropCtx o.id := by
    have hfold : s.drainCast o = ((y.releaseAside k).dropCtx o.id).fettleContexts := by
      unfold drainCast
      rw [hx, he, hh]
      exact congrArg (fun x : State => (x.dropCtx o.id).fettleContexts) (if_pos hst)
    rw [hfold, haside]
    exact fettleContexts_held ((congrArg (fun p : Power => p.admitted.getLsbD 3) hpower).trans hf)
  obtain ⟨hs, hep⟩ := s.moveCtx_reads k (st := Cx.suspended) (by decide)
  have hcontexts : (s.drainCast o).hang.contexts = (s.moveCtx k Cx.suspended).hang.contexts := by
    rw [hdrain]
    exact (congrArg Hang.contexts hhang : y.hang.contexts = _)
  exact ⟨(congrArg (fun t => Tab.at t k 0 / 256) hcontexts).trans hs,
    (congrArg (fun t => Tab.at t k 0 % 256) hcontexts).trans hep⟩

theorem State.execDrainElapsed_drains {s : State} {dt id t : Nat} {o : CtxCast} (ho : s.ctxCast id = some o)
    (hc : o.counted = true) (hd : o.drainAt = some t) (ht : t ≤ (s.begin dt).pns) :
    exec (.drainElapsed dt id) s = .next ((s.begin dt).drainCast o).procRemovals := by
  have hcond : (o.counted && (o.drainAt.any fun t => decide (t ≤ (s.begin dt).pns))) = true := by
    rw [hc, hd]
    exact decide_eq_true ht
  show execDrainElapsed dt id s = _
  unfold execDrainElapsed
  dsimp only
  rw [show (s.begin dt).ctxCast id = some o from ho]
  exact congrArg Host.Outcome.next (if_pos hcond)

/-! ## Fettled contexts (R396) -/

theorem State.execContextFettleDone_last {s : State} {dt k die : Nat} (hk : s.ctxState k = Cx.fettling)
    (hd : die < 16) (hr : s.rst.released.getLsbD 7 = true) (hf : Tab.at s.hang.fettling k 0xFFFF = 2 ^ die) :
    exec (.contextFettleDone dt k die) s = .next (State.moveCtx { s.begin dt with
      hang := { s.hang with fettling := Tab.del s.hang.fettling k } } k Cx.normal) := by
  have hcond : ((s.begin dt).ctxState k = Cx.fettling && decide (die < 16) && (s.begin dt).rst.released.getLsbD 7) =
      true := Bool.and_of (Bool.and_of (decide_eq_true hk) (decide_eq_true hd)) hr
  have hleft : (if (2 ^ die).testBit die then 2 ^ die - 2 ^ die else 2 ^ die) = 0 := by
    rw [if_pos (Nat.testBit_two_pow_self), Nat.sub_self]
  refine congrArg Host.Outcome.next ((if_pos hcond).trans ?_)
  dsimp only
  rw [show Tab.at (s.begin dt).hang.fettling k 0xFFFF = 2 ^ die from hf, if_pos hleft]
  rfl

/-- Settles O25. -/
theorem contextRemoval : Obligations.ContextRemoval := by
  refine ⟨fun dt ctx req s s1 c h => ⟨fun code hr => h.contextRemove_refused hr, fun hr hn hq => ?_,
      fun hr hn hf => ?_, fun hr hn hf => ?_⟩, fun dt s ho hq => ?_, fun dt t st uid e m c s hm ht htarget hk hr => ?_,
    fun dt id s o ho hk hc hcomplete => State.execRemoveCountComplete_drains ho hk hc hcomplete,
    fun dt id k e t s o ho hc hd ht hx he hh hst ha hf => ?_,
    fun dt k die s hk hd hr hf => State.execContextFettleDone_last hk hd hr hf⟩
  · exact ⟨_, h.contextRemove_accepted hr,
      (State.fettleContexts_queue _).trans (State.requestRemoval_normal hr hn hq)⟩
  · rw [h.contextRemove_accepted hr, State.requestRemoval_suspended hn,
      State.fettleContexts_held (s := s1.moveCtx ctx Cx.retired) hf]
  · rw [h.contextRemove_accepted hr, State.requestRemoval_retired hn, State.fettleContexts_held hf]
  · have hcond : (decide ((s.begin dt).openRemoves < 2) && !(s.begin dt).hang.queue.isEmpty) = true :=
      Bool.and_of (decide_eq_true ho) (congrArg not (List.isEmpty_eq_false_iff.mpr hq))
    obtain ⟨o, hcasts, hkind, htargets, hcontexts, hhold⟩ := (s.begin dt).issueRemove_casts
    refine ⟨(s.begin dt).issueRemove, o, congrArg Host.Outcome.next (if_pos hcond), hcasts, hkind, htargets,
      hcontexts, fun r hr => ?_⟩
    have hbatch : removalBatch (s.begin dt).hang.queue = [r] :=
      (congrArg removalBatch hr).trans (removalBatch_single r)
    rw [hbatch] at hcontexts hhold
    exact ⟨hcontexts, hhold, State.issueRemove_single (s := s.begin dt) hr⟩
  · obtain ⟨x, hact, hcasts, hunits⟩ := State.actOnOrder_tap (s := s.begin dt) ht hk
    exact ⟨x, (State.execContextCastReceive_acts hm ht htarget hk hr).trans (congrArg Host.Outcome.next hact), hcasts,
      hunits⟩
  · exact ⟨_, State.execDrainElapsed_drains ho hc hd ht,
      State.drainCast_suspends (s := s.begin dt) hx he hh hst ha hf⟩

end Sys2Proof.Machine
end

section
/-!
PROOFS. Isolate replay (R254, R398–R401, O26).
-/
namespace Sys2Proof.Machine

/-! ## Targets that have answered (R254) -/

theorem State.health_setHealth_ne (s : State) {uid x : Nat} (v : Nat) (h : x - 0x8000 ≠ uid - 0x8000) :
    (s.setHealth uid v).health x = s.health x := Tab.at_set_ne s.topo.health 0 0 v h

theorem State.health_cleared {s : State} (hs : Tab.sortedFrom 0 s.topo.health = true) {uid x : Nat}
    (h : x - 0x8000 = uid - 0x8000) : (s.setHealth uid 0).health x = 0 := by
  unfold health
  rw [h]
  exact Tab.at_set_self s.topo.health (uid - 0x8000) 0 0 hs

theorem State.heardFrom_sorted {s : State} (hs : Tab.sortedFrom 0 s.topo.health = true) (t : Nat) :
    Tab.sortedFrom 0 (s.heardFrom t).topo.health = true := by
  unfold heardFrom
  split
  · exact Tab.sortedFrom_set _ 0 0 (Nat.zero_le _) hs
  · exact hs

/-- An answer restores the entry of its target, and of no other. -/
theorem State.heardFrom_health {s : State} (hs : Tab.sortedFrom 0 s.topo.health = true) (t u : Nat) :
    (s.heardFrom t).health (targetUid u) =
      if targetUid u - 0x8000 = targetUid t - 0x8000 ∧ s.health (targetUid u) = 4 then 0
      else s.health (targetUid u) := by
  unfold heardFrom
  by_cases hu : targetUid u - 0x8000 = targetUid t - 0x8000
  · have hsame : s.health (targetUid t) = s.health (targetUid u) := by
      unfold health
      rw [hu]
    rw [hsame]
    by_cases h4 : s.health (targetUid u) = 4
    · rw [if_pos h4, if_pos ⟨hu, h4⟩]
      exact State.health_cleared hs hu
    · rw [if_neg h4, if_neg fun h => h4 h.2]
  · refine Eq.trans ?_ (if_neg fun h => hu h.1).symm
    split
    · exact s.health_setHealth_ne 0 hu
    · rfl

theorem State.targetsHeard_eq (s : State) (l : List Nat) : s.targetsHeard l = l.foldl State.heardFrom s := rfl

theorem State.targetsHeard_health {l : List Nat} {s : State} {u : Nat}
    (hs : Tab.sortedFrom 0 s.topo.health = true)
    (h : (u ∈ l ∧ s.health (targetUid u) = 4) ∨ s.health (targetUid u) = 0) :
    (s.targetsHeard l).health (targetUid u) = 0 := by
  rw [targetsHeard_eq]
  induction l generalizing s with
  | nil => exact h.resolve_left fun h => List.not_mem_nil h.1
  | cons t l ih =>
    refine ih (heardFrom_sorted hs t) ?_
    rw [heardFrom_health hs]
    rcases h with ⟨hu, h4⟩ | h0
    · by_cases hk : targetUid u - 0x8000 = targetUid t - 0x8000
      · exact .inr (if_pos ⟨hk, h4⟩)
      · refine .inl ⟨(List.mem_cons.mp hu).resolve_left fun e => hk (by rw [e]), ?_⟩
        exact (if_neg fun h => hk h.1).trans h4
    · exact .inr ((if_neg fun h => absurd (h0.symm.trans h.2) (by decide)).trans h0)

theorem State.targetsHeard_hang (s : State) (l : List Nat) : (s.targetsHeard l).hang = s.hang :=
  State.same_of_frame .hang (targetsHeard_frame s l) rfl

/-! ## REPLAY_RESPONSE -/

/-- The answer to a replay's cast, noted at every target of the cast (R254). -/
def State.replayHeard (s : State) (id status : Nat) : State :=
  match s.ctxCast id with
  | some c =>
    let ts := targetsOf c.targets
    (s.targetsHeard ts).putCtx { c with answers := ts.foldl (fun a t => Tab.put a t (status + 1)) c.answers }
  | none => s

theorem State.replayHeard_keeps (s : State) (id status : Nat) :
    (s.replayHeard id status).hang.replay = s.hang.replay ∧ (s.replayHeard id status).hang.proc = s.hang.proc ∧
    (s.replayHeard id status).frame = s.frame := by
  unfold replayHeard
  split
  · next c _ =>
    have hhang := s.targetsHeard_hang (targetsOf c.targets)
    have hframe : (s.targetsHeard (targetsOf c.targets)).frame = s.frame :=
      State.same_of_frame .frame (targetsHeard_frame s _) rfl
    exact ⟨(congrArg Hang.replay hhang : (s.targetsHeard (targetsOf c.targets)).hang.replay = _),
      (congrArg Hang.proc hhang : (s.targetsHeard (targetsOf c.targets)).hang.proc = _), hframe⟩
  · exact ⟨rfl, rfl, rfl⟩

/-- What a response does to the replay in progress. -/
theorem State.execReplayResponse_hears {s : State} {dt id status uid e : Nat} {r : Replay}
    (hr : s.hang.replay = some r) (hid : r.castId = id) :
    exec (.replayResponse dt id status uid e) s = .next (
      if status = Cx.acted then
        if r.acted then (s.begin dt).replayHeard id status
        else { (s.begin dt).replayHeard id status with hang := { ((s.begin dt).replayHeard id status).hang with
          replay := some { r with
            acted := true, uid := uid, engine := e
            fromFrame := ((s.begin dt).replayHeard id status).frame.number + 1 } } }
      else match replayOutcome status with
        | some v => ((s.begin dt).replayHeard id status).replayVerdict v
        | none => (s.begin dt).replayHeard id status) := by
  show execReplayResponse dt id status uid e s = _
  unfold execReplayResponse
  dsimp only
  rw [show (s.begin dt).hang.replay = some r from hr]
  exact congrArg Host.Outcome.next (if_pos (decide_eq_true hid))

theorem replayOutcome_acted : replayOutcome Cx.acted = none := by decide

/-- Settles O26. -/
theorem isolateReplay : Obligations.IsolateReplay := by
  refine ⟨fun dt id uid e s r hr hid => ⟨fun ha => ?_, fun st v hv => ?_⟩, fun dt s r hr ha hl => ?_,
    fun dt s r hr ha hl => ?_⟩
  · obtain ⟨-, -, hframe⟩ := (s.begin dt).replayHeard_keeps id Cx.acted
    refine ⟨_, (State.execReplayResponse_hears hr hid).trans (congrArg Host.Outcome.next ((if_pos rfl).trans
      (if_neg (Bool.eq_false_iff.mp ha)))), ?_, fun hs c u hc hu h4 => ?_⟩
    · exact congrArg (fun f : Frame => some { r with
        acted := true, uid := uid, engine := e, fromFrame := f.number + 1 }) hframe
    · have hheard : (s.begin dt).replayHeard id Cx.acted = ((s.begin dt).targetsHeard (targetsOf c.targets)).putCtx
          { c with answers := (targetsOf c.targets).foldl (fun a t => Tab.put a t (Cx.acted + 1)) c.answers } := by
        unfold State.replayHeard
        rw [show (s.begin dt).ctxCast id = some c from hc]
      show ((s.begin dt).replayHeard id Cx.acted).health (targetUid u) = 0
      rw [hheard]
      exact State.targetsHeard_health (s := s.begin dt) hs (.inl ⟨hu, h4⟩)
  · obtain ⟨hreplay, hproc, -⟩ := (s.begin dt).replayHeard_keeps id st
    have hst : st ≠ Cx.acted := by
      rintro rfl
      exact absurd (replayOutcome_acted.symm.trans hv) (Option.some_ne_none v).symm
    refine ⟨(s.begin dt).replayHeard id st, (State.execReplayResponse_hears hr hid).trans ?_, hreplay.trans hr,
      hproc⟩
    rw [if_neg hst, hv]
  · show execReplayStall dt s = _
    unfold execReplayStall
    dsimp only
    rw [show (s.begin dt).hang.replay = some r from hr]
    exact congrArg Host.Outcome.next (if_pos (Bool.and_of ha (decide_eq_true hl)))
  · let y := ((s.begin dt).judge_ r.ctx 1).logged Code.replayTimeout (be 2 r.ctx)
    have hhang : y.hang = ((s.begin dt).judge_ r.ctx 1).hang := State.same_of_frame .hang (State.logged_frame _ _ _) rfl
    let z := y.dropCtx r.castId
    refine ⟨{ z with hang := { z.hang with replay := none } }, ?_, rfl, ?_⟩
    · show execReplayTimeout dt s = _
      unfold execReplayTimeout
      dsimp only
      rw [show (s.begin dt).hang.replay = some r from hr]
      exact congrArg Host.Outcome.next (if_pos (Bool.and_of ha (decide_eq_true hl)))
    · exact congrArg (fun h : Hang => h.proc.suspects) hhang

end Sys2Proof.Machine
end

section
/-!
PROOFS. A unit reset from its write to DONE, and its failure (R403–R409, O27).
-/
namespace Sys2Proof.Machine

/-! ## What starts a reset leaves (R405, R420) -/

theorem State.beacon_reset (s : State) (cause : Nat) :
    (s.beacon cause).hang.reset = s.hang.reset ∧ (s.beacon cause).hang.bindings = s.hang.bindings := by
  unfold beacon
  split
  · exact ⟨rfl, rfl⟩
  · extract_lets replay seq hang x
    exact ⟨rfl, rfl⟩

theorem State.showReset_reset (s : State) (uid trigger : Nat) :
    (s.showReset uid trigger).hang.reset = s.hang.reset ∧
    (s.showReset uid trigger).hang.bindings = s.hang.bindings := by
  unfold showReset
  split <;> exact ⟨rfl, rfl⟩

theorem State.clusterBindings_congr {s t : State} (h : t.hang.bindings = s.hang.bindings) (c : Nat) :
    t.clusterBindings c = s.clusterBindings c := by
  unfold clusterBindings
  rw [h]

/-- The wrapper of a part has closed (R406). -/
theorem State.wrapReset_wraps (s : State) :
    s.wrapReset.hang.reset.state = 1 ∧ s.wrapReset.hang.reset.active = s.hang.reset.active ∧
    s.wrapReset.hang.reset.uid = s.hang.reset.uid ∧ s.wrapReset.hang.reset.mode = s.hang.reset.mode := by
  unfold wrapReset
  extract_lets r part x y n
  have hy : y.hang = s.hang := by
    show x.hang = s.hang
    exact (apply_ite State.hang _ _ _).trans (ite_self _)
  have hactive : y.hang.reset.active = s.hang.reset.active := by rw [hy]
  have huid : y.hang.reset.uid = s.hang.reset.uid := by rw [hy]
  have hmode : y.hang.reset.mode = s.hang.reset.mode := by rw [hy]
  split
  · let z := y.modReset fun r => { r with since := some y.elapsed, state := 1 }
    have hz : (z.logged Code.unitResetUnwrapped (be 2 r.uid ++ be 1 part)).hang = z.hang :=
      State.same_of_frame .hang (State.logged_frame z _ _) rfl
    exact ⟨congrArg (fun h : Hang => h.reset.state) hz,
      (congrArg (fun h : Hang => h.reset.active) hz).trans hactive,
      (congrArg (fun h : Hang => h.reset.uid) hz).trans huid,
      (congrArg (fun h : Hang => h.reset.mode) hz).trans hmode⟩
  · exact ⟨rfl, hactive, huid, hmode⟩

/-- A reset that waits for no removal begins with its wrapper (R405, R406). -/
theorem State.beginReset_wraps {s : State} (ha : s.hang.reset.active = true) (hs : s.hang.reset.since = none)
    (hb : s.hang.reset.kind = some .cluster → s.clusterBindings (uidCluster s.hang.reset.uid) = []) :
    s.beginReset.hang.reset.state = 1 ∧ s.beginReset.hang.reset.active = true ∧
    s.beginReset.hang.reset.uid = s.hang.reset.uid ∧ s.beginReset.hang.reset.mode = s.hang.reset.mode := by
  unfold beginReset
  extract_lets r x ctxs y wait
  have hx : x.hang.reset = s.hang.reset ∧ x.hang.bindings = s.hang.bindings := by
    by_cases hk : r.kind = some .cluster ∨ r.kind = some .runner
    · rw [show x = s.beacon Beacon.unitReset from if_pos hk]
      exact s.beacon_reset _
    · rw [show x = s from if_neg hk]
      exact ⟨rfl, rfl⟩
  obtain ⟨hreset, hbindings⟩ := hx
  have hxactive : x.hang.reset.active = true := (congrArg UnitReset.active hreset).trans ha
  have hxuid : x.hang.reset.uid = s.hang.reset.uid := congrArg UnitReset.uid hreset
  have hxmode : x.hang.reset.mode = s.hang.reset.mode := congrArg UnitReset.mode hreset
  split
  next hk =>
    have hctxs : ctxs = [] := by
      show ((x.clusterBindings (uidCluster r.uid)).map Prod.fst).eraseDups = []
      rw [State.clusterBindings_congr hbindings, hb hk]
      rfl
    have hwait : wait = [] := by
      show ctxs.filter y.queuedRemoval = []
      rw [hctxs]
      rfl
    have hy : y = x := by
      show ctxs.foldl (fun s c => s.requestRemoval c true true false) x = x
      rw [hctxs]
      rfl
    rw [hwait, hctxs, hy]
    let z := x.modReset fun r => { r with waitFor := [], contexts := [] }
    have hmay : z.resetMayStart = (z.modReset fun r => { r with waitFor := [] }).wrapReset := by
      refine if_pos ?_
      show (x.hang.reset.active && x.hang.reset.since.isNone && !(List.any [] z.queuedRemoval)) = true
      rw [hreset, ha, hs]
      rfl
    obtain ⟨hstate, hactive, huid, hmode⟩ := (z.modReset fun r => { r with waitFor := [] }).wrapReset_wraps
    rw [show (x.modReset fun r => { r with waitFor := [], contexts := [] }) = z from rfl, hmay]
    exact ⟨hstate, hactive.trans hxactive, huid.trans hxuid, hmode.trans hxmode⟩
  next =>
    obtain ⟨hstate, hactive, huid, hmode⟩ := x.wrapReset_wraps
    exact ⟨hstate, hactive.trans hxactive, huid.trans hxuid, hmode.trans hxmode⟩

theorem modePart_resetMode {action part : Nat} {att : Bool} (ha : action < 16) (hp : part < 8) :
    modePart (resetMode action part att) = part := by
  unfold modePart resetMode
  cases att <;> simp only [bit] <;> omega

/-- The parts that a unit has (R403). -/
theorem resetKind_part {uid part : Nat} {k : ResetKind} (h : resetKind uid part = some k) : part < 8 := by
  by_contra hp
  have h0 : part ≠ 0 := by omega
  have h1 : part ≠ 1 := by omega
  have h2 : part ≠ 2 := by omega
  have h3 : part ≠ 3 := by omega
  have h4 : part ≠ 4 := by omega
  unfold resetKind at h
  simp only [h0, h1, h2, h3, h4, or_self, if_false, ite_self] at h
  exact absurd h.symm (Option.some_ne_none k)

theorem State.resetRefusal_part {s : State} {uid action part : Nat} {att : Bool}
    (h : s.resetRefusal uid action part att = none) : part < 8 := by
  unfold resetRefusal at h
  split at h
  · exact absurd h (Option.some_ne_none _)
  · split at h
    · exact absurd h (Option.some_ne_none _)
    next hk => exact resetKind_part hk

theorem State.acceptReset_wraps {s : State} {uid action part : Nat} {att byHub : Bool} {trigger : Nat}
    (ha : action < 16) (hp : part < 8)
    (hb : resetKind uid part = some .cluster → s.clusterBindings (uidCluster uid) = []) :
    (s.acceptReset uid (resetMode action part att) byHub trigger).hang.reset.state = 1 ∧
    (s.acceptReset uid (resetMode action part att) byHub trigger).hang.reset.active = true ∧
    (s.acceptReset uid (resetMode action part att) byHub trigger).hang.reset.uid = uid ∧
    (s.acceptReset uid (resetMode action part att) byHub trigger).hang.reset.mode = resetMode action part att := by
  unfold acceptReset
  extract_lets x kind y
  have hy : y.hang.reset = x.hang.reset ∧ y.hang.bindings = s.hang.bindings := by
    by_cases hk : (kind = some .cluster ∨ kind = some .runner) ∧ modeAction (resetMode action part att) = 0
    · rw [show y = x.showReset uid trigger from if_pos hk]
      exact x.showReset_reset uid trigger
    · rw [show y = x from if_neg hk]
      exact ⟨rfl, rfl⟩
  obtain ⟨hreset, hbindings⟩ := hy
  have huid : y.hang.reset.uid = uid := congrArg UnitReset.uid hreset
  have hkind : y.hang.reset.kind = resetKind uid part := by
    rw [hreset]
    exact congrArg (resetKind uid) (modePart_resetMode ha hp)
  obtain ⟨h1, h2, h3, h4⟩ := State.beginReset_wraps (s := y) (congrArg UnitReset.active hreset)
    (congrArg UnitReset.since hreset) fun hc => by
      rw [huid, State.clusterBindings_congr hbindings]
      exact hb (hkind.symm.trans hc)
  exact ⟨h1, h2, h3.trans huid, h4.trans (congrArg UnitReset.mode hreset)⟩

/-! ## The write of UNIT_RESET (R403, R404, R406) -/

section
variable {s s1 : State} {dt uid part : Nat} {att : Bool} {req : Req} {c : Ctx}
  (h : Served s dt req 0x3010 0 .write c s1)
include h

theorem Served.unitResetPulse_refused {code : Nat} (hr : s1.resetRefusal uid 0 part att = some code) :
    exec (.unitResetPulse dt req uid part att) s = .next (s1.answer c code []) := by
  refine congrArg Host.Outcome.next (h.refuses rfl (f := fun _ s => s.cmdUnitResetPulse uid part att) ?_)
  unfold State.cmdUnitResetPulse
  rw [hr]

theorem Served.unitResetHold_refused {code : Nat} (hr : s1.resetRefusal uid 1 part att = some code) :
    exec (.unitResetHold dt req uid part att) s = .next (s1.answer c code []) := by
  refine congrArg Host.Outcome.next (h.refuses rfl (f := fun _ s => s.cmdUnitResetHold uid part att) ?_)
  unfold State.cmdUnitResetHold
  rw [hr]

theorem Served.unitResetPulse_wraps
    (hb : resetKind uid part = some .cluster → s1.clusterBindings (uidCluster uid) = [])
    (hr : s1.resetRefusal uid 0 part att = none) : ∃ x : State,
      exec (.unitResetPulse dt req uid part att) s = .next (x.answer c Abort.ok []) ∧ x.hang.reset.state = 1 ∧
      x.hang.reset.active = true ∧ x.hang.reset.uid = uid ∧ x.hang.reset.mode = resetMode 0 part att := by
  refine ⟨s1.acceptReset uid (resetMode 0 part att) false 8, congrArg Host.Outcome.next (h.accepts rfl
    (f := fun _ s => s.cmdUnitResetPulse uid part att) ?_),
    State.acceptReset_wraps (by decide) (State.resetRefusal_part hr) hb⟩
  unfold State.cmdUnitResetPulse
  rw [hr]

theorem Served.unitResetHold_wraps
    (hb : resetKind uid part = some .cluster → s1.clusterBindings (uidCluster uid) = [])
    (hr : s1.resetRefusal uid 1 part att = none) : ∃ x : State,
      exec (.unitResetHold dt req uid part att) s = .next (x.answer c Abort.ok []) ∧ x.hang.reset.state = 1 ∧
      x.hang.reset.active = true ∧ x.hang.reset.uid = uid ∧ x.hang.reset.mode = resetMode 1 part att := by
  refine ⟨s1.acceptReset uid (resetMode 1 part att) false 8, congrArg Host.Outcome.next (h.accepts rfl
    (f := fun _ s => s.cmdUnitResetHold uid part att) ?_),
    State.acceptReset_wraps (by decide) (State.resetRefusal_part hr) hb⟩
  unfold State.cmdUnitResetHold
  rw [hr]

theorem Served.unitResetRelease_releases (hr : s1.resetRefusal uid 2 part att = none) : ∃ x : State,
    exec (.unitResetRelease dt req uid part att) s = .next (x.releaseReset.answer c Abort.ok []) ∧
    x.hang.reset.mode = resetMode 2 part att ∧ x.hang.reset.since = some s1.elapsed := by
  let x := s1.modReset fun r =>
    if s1.heldPart uid part then { r with since := some s1.elapsed, mode := resetMode 2 part att }
    else { r with uid := uid, mode := resetMode 2 part att, errCompletions := 0, donePns := 0
                  since := some s1.elapsed, active := true, byHub := false, retried := false
                  waitFor := [], contexts := [], assertedAt := s1.elapsed }
  have hcmd : s1.cmdUnitResetRelease uid part att = x.releaseReset.accept := by
    unfold State.cmdUnitResetRelease
    rw [hr]
  refine ⟨x, congrArg Host.Outcome.next (h.accepts rfl (f := fun _ s => s.cmdUnitResetRelease uid part att) hcmd),
    ?_⟩
  show (ite _ _ _ : UnitReset).mode = _ ∧ (ite _ _ _ : UnitReset).since = _
  cases s1.heldPart uid part <;> exact ⟨rfl, rfl⟩
end

/-! ## Assertion, DONE and failure (R406, R409) -/

theorem State.execUnitResetAssert_asserts {s : State} {dt t : Nat} (ha : s.hang.reset.active = true)
    (hs : s.hang.reset.state = 1) (ht : s.hang.reset.since = some t)
    (hdue : t + 10000 * Config.stepsPerNs ≤ s.elapsed + dt) :
    ∃ u, exec (.unitResetAssert dt) s = .next u ∧ u.hang.reset.state = 2 ∧
      u.hang.reset.assertedAt = s.elapsed + dt ∧
      u.emitted.getLast? = some ⟨.unitReset, s.hang.reset.uid, be 1 (modePart s.hang.reset.mode) ++ be 1 2⟩ := by
  let r := s.hang.reset
  let y := (s.begin dt).assertPart r.uid (modePart r.mode)
  have helapsed : y.elapsed = s.elapsed + dt := State.same_of_frame .elapsed (assertPart_frame (s.begin dt) _ _) rfl
  have hcond : ((s.begin dt).hang.reset.active && (s.begin dt).hang.reset.state = 1 &&
      ((s.begin dt).hang.reset.since.any fun t => decide (t +
        (if (s.begin dt).hang.reset.kind = some .idleRequired then 0 else 10000 * Config.stepsPerNs) ≤
          (s.begin dt).elapsed))) = true := by
    refine Bool.and_of (Bool.and_of ha (decide_eq_true hs)) ?_
    rw [show (s.begin dt).hang.reset.since = some t from ht]
    refine decide_eq_true (Nat.le_trans (Nat.add_le_add_left ?_ t) hdue)
    split
    · exact Nat.zero_le _
    · exact Nat.le_refl _
  exact ⟨_, congrArg Host.Outcome.next (if_pos hcond), rfl, helapsed, List.getLast?_concat⟩

theorem State.execUnitResetDone_done {s : State} {dt : Nat} (ha : s.hang.reset.active = true)
    (hs : s.hang.reset.state = 3) (hk : s.hang.reset.kind = some .cluster) :
    ∃ x : State, exec (.unitResetDone dt) s = .next (((x.procResetEnded 1).nextReset).nextProcedure) ∧
      x.hang.reset.state = 4 ∧ x.hang.reset.active = false ∧ x.hang.reset.donePns = (s.begin dt).pns := by
  let r := s.hang.reset
  let y := (s.begin dt).modReset fun r => { r with
    state := 4, donePns := (s.begin dt).pns, active := false
    readmit := (r.readmit ++ r.contexts).eraseDups, contexts := [] }
  let z := if modePart r.mode = 0 then y.setHealth (resetHealth r.uid) 0 else y
  have hz : z.hang = y.hang := (apply_ite State.hang _ _ _).trans (ite_self _)
  have hx : ((z.restoreClusters [uidCluster r.uid]).traceFollow).hang = y.hang :=
    (State.same_of_frame .hang (traceFollow_frame (z.restoreClusters [uidCluster r.uid])) rfl).trans
      ((State.same_of_frame .hang (restoreClusters_frame z [uidCluster r.uid]) rfl).trans hz)
  refine ⟨(z.restoreClusters [uidCluster r.uid]).traceFollow, ?_, congrArg (fun h : Hang => h.reset.state) hx,
    congrArg (fun h : Hang => h.reset.active) hx, congrArg (fun h : Hang => h.reset.donePns) hx⟩
  have hdone : (s.begin dt).resetDone =
      (((((z.restoreClusters [uidCluster r.uid]).traceFollow).procResetEnded 1).nextReset).nextProcedure) := by
    unfold resetDone
    exact congrArg (fun x : State => ((x.procResetEnded 1).nextReset).nextProcedure) (if_pos hk)
  rw [← hdone]
  show execUnitResetDone dt s = _
  unfold execUnitResetDone
  dsimp only
  rw [show (s.begin dt).hang.reset.kind = some .cluster from hk]
  exact congrArg Host.Outcome.next (if_pos (Bool.and_of (Bool.and_of ha (decide_eq_true hs)) rfl))

/-- A cluster or a runner, not held, 40 ms after U (R409). -/
theorem State.execL2Failed_due {s : State} {dt t : Nat} (ha : s.hang.reset.active = true)
    (hm : modeAction s.hang.reset.mode = 0) (ht : s.hang.reset.since = some t)
    (hdue : t + 40000000 * Config.stepsPerNs ≤ s.elapsed + dt)
    (hk : (s.hang.reset.kind = some .cluster || s.hang.reset.kind = some .runner) = true) :
    ((s.begin dt).hang.reset.active &&
      !(modeAction (s.begin dt).hang.reset.mode = 1 && decide ((s.begin dt).hang.reset.state ≤ 2)) &&
      ((s.begin dt).hang.reset.kind = some .cluster || (s.begin dt).hang.reset.kind = some .runner) &&
      ((s.begin dt).hang.reset.since.any fun t => decide (t + 40000000 * Config.stepsPerNs ≤ (s.begin dt).elapsed))) =
      true := by
  have hheld : (!(modeAction (s.begin dt).hang.reset.mode = 1 && decide ((s.begin dt).hang.reset.state ≤ 2))) =
      true := by
    rw [show modeAction (s.begin dt).hang.reset.mode = 0 from hm]
    rfl
  refine Bool.and_of (Bool.and_of (Bool.and_of ha hheld) hk) ?_
  rw [show (s.begin dt).hang.reset.since = some t from ht, Option.any_some]
  exact decide_eq_true hdue

theorem State.execL2Failed_cluster {s : State} {dt t : Nat} (ha : s.hang.reset.active = true)
    (hm : modeAction s.hang.reset.mode = 0) (ht : s.hang.reset.since = some t)
    (hdue : t + 40000000 * Config.stepsPerNs ≤ s.elapsed + dt) (hk : s.hang.reset.kind = some .cluster) :
    ∃ x : State, exec (.l2Failed dt) s = .next (((x.procResetEnded 5).nextReset).nextProcedure) ∧
      x.hang.reset.state = 5 ∧ x.hang.reset.active = false := by
  let r := s.hang.reset
  let y := (s.begin dt).urged Code.l2Failed (be 2 r.uid ++ be 1 (bit r.retried))
  let z := y.modReset fun r => { r with state := 5, donePns := y.pns, active := false, contexts := [] }
  have hx : ((z.routeCluster (uidCluster r.uid)).traceFollow).hang = z.hang :=
    (State.same_of_frame .hang (traceFollow_frame (z.routeCluster (uidCluster r.uid))) rfl).trans
      (State.same_of_frame .hang (routeCluster_frame z (uidCluster r.uid)) rfl)
  refine ⟨(z.routeCluster (uidCluster r.uid)).traceFollow, ?_, congrArg (fun h : Hang => h.reset.state) hx,
    congrArg (fun h : Hang => h.reset.active) hx⟩
  have hcond := State.execL2Failed_due ha hm ht hdue (Bool.or_eq_true_iff.mpr (.inl (decide_eq_true hk)))
  show execL2Failed dt s = _
  unfold execL2Failed
  dsimp only
  refine congrArg Host.Outcome.next ((if_pos hcond).trans ?_)
  rw [show (s.begin dt).hang.reset.kind = some .cluster from hk]
  rfl

theorem State.execL2Failed_runner {s : State} {dt t : Nat} (ha : s.hang.reset.active = true)
    (hm : modeAction s.hang.reset.mode = 0) (ht : s.hang.reset.since = some t)
    (hdue : t + 40000000 * Config.stepsPerNs ≤ s.elapsed + dt) (hk : s.hang.reset.kind = some .runner)
    (hr : s.hang.reset.retried = false) :
    ∃ x : State, exec (.l2Failed dt) s = .next x.beginReset ∧ x.hang.reset.retried = true ∧
      x.hang.reset.since = none ∧ x.hang.reset.uid = s.hang.reset.uid := by
  let r := s.hang.reset
  let y := (s.begin dt).urged Code.l2Failed (be 2 r.uid ++ be 1 (bit r.retried))
  have hch : Changes [.emitted, .backup, .flash, .logSeq, .log, .port] (s.begin dt) y :=
    State.urged_frame _ _ _ (.refl _ _) (List.Subset.refl _)
  have hy : y.hang = s.hang := hch .hang (by decide)
  have huid : y.hang.reset.uid = s.hang.reset.uid := by rw [hy]
  let z := y.modReset fun r => { r with retried := true, state := 0, since := none, mode := resetMode 0 0 false }
  have hx : (if z.hangRunning then z else z.modProc fun p => { p with trigger := 6 }).hang.reset = z.hang.reset := by
    split <;> rfl
  refine ⟨if z.hangRunning then z else z.modProc fun p => { p with trigger := 6 }, ?_,
    congrArg UnitReset.retried hx, congrArg UnitReset.since hx,
    (congrArg UnitReset.uid hx).trans huid⟩
  have hcond := State.execL2Failed_due ha hm ht hdue (Bool.or_eq_true_iff.mpr (.inr (decide_eq_true hk)))
  have hagain : ((s.begin dt).hang.reset.kind = some .runner && !(s.begin dt).hang.reset.retried) = true :=
    Bool.and_of (decide_eq_true hk) (congrArg not hr)
  exact congrArg Host.Outcome.next ((if_pos hcond).trans (if_pos hagain))

/-- Settles O27. -/
theorem unitResets : Obligations.UnitResets :=
  ⟨fun _ _ _ _ _ _ _ _ h => ⟨fun _ hr => h.unitResetPulse_refused hr, fun _ hr => h.unitResetHold_refused hr,
      fun hb => ⟨fun hr => h.unitResetPulse_wraps hb hr, fun hr => h.unitResetHold_wraps hb hr⟩,
      fun hr => h.unitResetRelease_releases hr⟩,
    fun _ _ _ ha hs ht hdue => State.execUnitResetAssert_asserts ha hs ht hdue,
    fun _ _ ha hs hm hdue => congrArg Host.Outcome.next (if_pos (Bool.and_of (Bool.and_of (Bool.and_of ha
      (decide_eq_true hs)) (decide_eq_true hm)) (decide_eq_true hdue))),
    fun _ _ ha hs hk => State.execUnitResetDone_done ha hs hk,
    fun _ _ _ ha hm ht hdue => ⟨fun hk => State.execL2Failed_cluster ha hm ht hdue hk,
      fun hk hr => State.execL2Failed_runner ha hm ht hdue hk hr⟩⟩

end Sys2Proof.Machine
end

section
/-!
PROOFS. Device recovery: start, phases, failure (R411, R412, R414, O28).
-/
namespace Sys2Proof.Machine

/-! ## The start of device recovery (R411, R412) -/

theorem State.startRecovery_begins (s : State) (trigger uid : Nat) :
    (s.startRecovery trigger uid).hang.proc.state = 9 ∧ (s.startRecovery trigger uid).hang.proc.l3Phase = 1 ∧
    (s.startRecovery trigger uid).hang.proc.trigger = trigger ∧
    (s.startRecovery trigger uid).hang.l3Since = s.elapsed := by
  have helapsed : (s.startRecovery trigger uid).elapsed = s.elapsed :=
    State.same_of_frame .elapsed (startRecovery_frame s trigger uid) rfl
  unfold startRecovery
  extract_lets told ended dump waiting fenced fresh begun time cut
  suffices h : cut.hang.proc.state = 9 ∧ cut.hang.proc.trigger = trigger from ⟨h.1, rfl, h.2, helapsed⟩
  dsimp only [cut]
  split
  · exact ⟨rfl, rfl⟩
  · split
    · have hhang : (begun.enterOwn Act.quench time 0 wholePackage).1.hang = begun.hang :=
        State.same_of_frame .hang (enterOwn_frame begun _ _ _ _) rfl
      have hstate : (begun.enterOwn Act.quench time 0 wholePackage).1.hang.proc.state = 9 :=
        congrArg (fun h : Hang => h.proc.state) hhang
      have htrigger : (begun.enterOwn Act.quench time 0 wholePackage).1.hang.proc.trigger = trigger :=
        congrArg (fun h : Hang => h.proc.trigger) hhang
      split
      all_goals
        next heq =>
          rw [heq] at hstate htrigger
          exact ⟨hstate, htrigger⟩
    · exact ⟨rfl, rfl⟩

/-! ## The phases (R412) -/

/-- What the phases of device recovery leave of the procedure and of their clock. -/
def State.SamePhase (s x : State) : Prop := x.hang.proc = s.hang.proc ∧ x.hang.l3Since = s.hang.l3Since

theorem State.SamePhase.of_hang {s x : State} (h : x.hang = s.hang) : s.SamePhase x :=
  ⟨congrArg Hang.proc h, congrArg Hang.l3Since h⟩

theorem State.SamePhase.trans {s x y : State} (h : s.SamePhase x) (k : x.SamePhase y) : s.SamePhase y :=
  ⟨k.1.trans h.1, k.2.trans h.2⟩

theorem State.SamePhase.setQu {s x : State} (h : s.SamePhase x) (q : Quench) : s.SamePhase { x with qu := q } := h

theorem State.samePhase_forgetClusters (s : State) : s.SamePhase s.forgetClusters := ⟨rfl, rfl⟩

theorem State.hang_foldl {α : Type} {f : State → α → State} (hf : ∀ s x, (f s x).hang = s.hang) (l : List α)
    (s : State) : (l.foldl f s).hang = s.hang := State.foldl_eq State.hang hf l s

theorem State.samePhase_recoveryReset (s : State) : s.SamePhase s.recoveryReset := by
  unfold recoveryReset
  extract_lets x a b c d
  have ha : s.SamePhase a := by
    let y := (List.range 128).foldl (fun s c => s.modTap c Tap.clusterReset) x
    have hy : y.hang = s.hang := hang_foldl (f := fun s c => s.modTap c Tap.clusterReset) (fun _ _ => rfl) _ x
    have hforget : s.SamePhase y.forgetClusters := (SamePhase.of_hang hy).trans y.samePhase_forgetClusters
    exact hforget.trans (.of_hang (State.same_of_frame .hang (endOrders_frame y.forgetClusters _) rfl))
  have hb : b.hang = a.hang := hang_foldl
    (f := fun s c => if s.health (ccpUid c) = 3 then s else s.setHealth (ccpUid c) 0)
    (fun s c => by split <;> rfl) _ a
  have hthaw (s : State) (d : Nat) : (s.thawSink d).hang = s.hang :=
    State.same_of_frame .hang (thawSink_frame s d) rfl
  have hc : c.hang = b.hang := hang_foldl
    (f := fun s d => ((s.modRunner d fun r => { r with freezeArm := none, thawArm := none, frozen := false }).thawSink
      d).modGroup d fun g => { g with freezeArm := none, thawArm := none, frozenAt := none })
    (fun s d => hthaw (s.modRunner d fun r => { r with freezeArm := none, thawArm := none, frozen := false }) d) _ b
  have hd : d.hang = c.hang := hang_foldl
    (f := fun s p => s.modPort p fun x => { x with linkUp := false, frozen := none, dRx := none, coarse := false })
    (fun _ _ => rfl) _ c
  have hports : s.SamePhase d := ha.trans (.of_hang (hd.trans (hc.trans hb)))
  exact hports.setQu _

/-- A phase that has ended starts the next (R412). -/
theorem State.execL3PhaseEnd_next {s : State} {dt : Nat} (hk : s.hang.proc.l3Phase ≠ 0)
    (hd : (s.begin dt).phaseDone s.hang.proc.l3Phase = true) (h7 : s.hang.proc.l3Phase ≠ 7) :
    ∃ t, exec (.l3PhaseEnd dt) s = .next t ∧ t.hang.proc.l3Phase = s.hang.proc.l3Phase + 1 ∧
      t.hang.l3Since = s.elapsed + dt := by
  let k := s.hang.proc.l3Phase
  let y := (s.begin dt).modProc fun p => { p with l3Phase := k + 1 }
  let x : State := { y with hang := { y.hang with l3Since := y.elapsed } }
  have hcond : (decide ((s.begin dt).hang.proc.l3Phase ≠ 0) &&
      (s.begin dt).phaseDone (s.begin dt).hang.proc.l3Phase) = true := Bool.and_of (decide_eq_true hk) hd
  refine ⟨_, congrArg Host.Outcome.next ((if_pos hcond).trans (if_neg h7)), ?_⟩
  suffices h : x.SamePhase (if k = 1 then x.recoveryReset
      else if k = 2 then x.memoryLost.recoveryRows
      else if k = 6 then { x with bar := { x.bar with sweep := some 0 } }
      else x) from ⟨congrArg Procedure.l3Phase h.1, h.2⟩
  split
  · exact x.samePhase_recoveryReset
  · split
    · exact .of_hang ((State.same_of_frame .hang (recoveryRows_frame x.memoryLost) rfl).trans
        (State.same_of_frame .hang (memoryLost_frame x) rfl))
    · split <;> exact ⟨rfl, rfl⟩

/-- Phase G ends device recovery well (R412, R429, R449). -/
theorem State.execL3PhaseEnd_last {s : State} {dt : Nat} (hd : (s.begin dt).phaseDone s.hang.proc.l3Phase = true)
    (h7 : s.hang.proc.l3Phase = 7) :
    ∃ t, exec (.l3PhaseEnd dt) s = .next t ∧ t.hang.proc.l3Phase = 0 ∧ t.hang.proc.state = 0 ∧
      t.hang.proc.result = 1 ∧ t.fm.markPhase = 1 ∧ t.adm.state = 0 := by
  let x := (s.begin dt).recoveryEnds 1
  let t := x.liftFence.told Code.l3Done (be 4 x.topo.health.length)
  have hch : Changes [.emitted, .units, .backup, .flash, .logSeq, .log, .port] x t :=
    told_frame _ _ _ (liftFence_frame x (.refl _ x) (by decide)) (by decide)
  have hhang : t.hang = x.hang := hch .hang (by decide)
  have hcond : (decide ((s.begin dt).hang.proc.l3Phase ≠ 0) &&
      (s.begin dt).phaseDone (s.begin dt).hang.proc.l3Phase) = true := Bool.and_of (decide_eq_true (by
        show s.hang.proc.l3Phase ≠ 0
        rw [h7]
        decide)) hd
  refine ⟨t, congrArg Host.Outcome.next ((if_pos hcond).trans (if_pos h7)),
    congrArg (fun h : Hang => h.proc.l3Phase) hhang, congrArg (fun h : Hang => h.proc.state) hhang,
    congrArg (fun h : Hang => h.proc.result) hhang, ?_, ?_⟩
  · exact congrArg Fault9.markPhase (hch .fm (by decide) : t.fm = x.fm)
  · exact congrArg Admission.state (hch .adm (by decide) : t.adm = x.adm)

/-- A phase beyond its maximum (R414). -/
theorem State.execL3Failed_fails {s : State} {dt : Nat} (hk : s.hang.proc.l3Phase ≠ 0)
    (hdue : s.hang.l3Since + l3Max s.hang.proc.l3Phase * 1000 * Config.stepsPerNs < s.elapsed + dt) :
    ∃ t, exec (.l3Failed dt) s = .next t ∧ t.hang.l3Failed = true ∧ t.hang.proc.result = 6 ∧
      t.hang.proc.l3Phase = 0 ∧ t.fm.markPhase = 1 ∧ t.adm.state = 0 := by
  let y := (s.begin dt).recoveryEnds 6
  let x : State := { y with hang := { y.hang with l3Failed := true } }
  let t := x.urged Code.l3Failed (be 1 s.hang.proc.l3Phase)
  have hch : Changes [.emitted, .backup, .flash, .logSeq, .log, .port] x t :=
    urged_frame _ _ _ (.refl _ x) (List.Subset.refl _)
  have hhang : t.hang = x.hang := hch .hang (by decide)
  have hcond : (decide ((s.begin dt).hang.proc.l3Phase ≠ 0) && decide ((s.begin dt).hang.l3Since +
      l3Max (s.begin dt).hang.proc.l3Phase * 1000 * Config.stepsPerNs < (s.begin dt).elapsed)) = true :=
    Bool.and_of (decide_eq_true hk) (decide_eq_true hdue)
  refine ⟨t, congrArg Host.Outcome.next (if_pos hcond), congrArg Hang.l3Failed hhang,
    congrArg (fun h : Hang => h.proc.result) hhang, congrArg (fun h : Hang => h.proc.l3Phase) hhang, ?_, ?_⟩
  · exact congrArg Fault9.markPhase (hch .fm (by decide) : t.fm = x.fm)
  · exact congrArg Admission.state (hch .adm (by decide) : t.adm = x.adm)

/-- Settles O28. -/
theorem deviceRecovery : Obligations.DeviceRecovery := by
  refine ⟨fun dt v req s s1 c h => ⟨fun hv => ?_, fun hr => ?_, fun hr => ?_⟩, fun dt s hk hd => ?_,
    fun dt s hk hdue => State.execL3Failed_fails hk hdue⟩
  · exact congrArg Host.Outcome.next (h.refuses rfl (f := fun _ s => s.cmdRecoveryLevel v) (if_pos hv))
  · exact congrArg Host.Outcome.next (h.refuses rfl (f := fun _ s => s.cmdRecoveryLevel 3)
      ((if_neg (not_not_intro rfl)).trans (if_pos hr)))
  · exact ⟨s1.startRecovery 7 s1.activeUid, congrArg Host.Outcome.next (h.accepts rfl
      (f := fun _ s => s.cmdRecoveryLevel 3)
      ((if_neg (not_not_intro rfl)).trans (if_neg (Bool.eq_false_iff.mp hr)))),
      s1.startRecovery_begins 7 s1.activeUid⟩
  · by_cases h7 : s.hang.proc.l3Phase = 7
    · obtain ⟨t, ht, hlast⟩ := State.execL3PhaseEnd_last hd h7
      exact ⟨t, ht, fun _ => hlast, fun h => absurd h7 h⟩
    · obtain ⟨t, ht, hnext⟩ := State.execL3PhaseEnd_next hk hd h7
      exact ⟨t, ht, fun h => absurd h h7, fun _ => hnext⟩

end Sys2Proof.Machine
end

section
/-!
PROOFS. Step marks, JOB_VIEW, SUSPECT and beacons (R421, R427, R428, R433, R435–R440, O29).
-/
namespace Sys2Proof.Machine

/-! ## The step mark (R427, R428) -/

theorem execStepMark_accepted {s : State} {dt : Nat} {w0 w1 w2 : Word32} (h1 : w0 = w1) (h2 : w1 = w2) :
    ∃ x : State, exec (.stepMark dt w0 w1 w2) s =
        .next ((x.mapMark.readmitStep).admitStep (w0.toNat % 2 ^ 30)) ∧ x.fm.stepMark = w0.toNat % 2 ^ 30 ∧
      x.fm.markPhase = w0.toNat / 2 ^ 30 ∧ Changes [.elapsed, .emitted, .fm] s x := by
  refine ⟨_, congrArg Host.Outcome.next (if_pos ⟨h1, h2⟩), rfl, rfl, ?_⟩
  intro p hp
  cases p <;> first | rfl | exact absurd (by decide) hp

/-! ## SUSPECT (R435–R440) -/

theorem State.hubView_congr {s x : State} (ht : x.topo = s.topo) (hu : x.units = s.units) (hh : x.hang = s.hang) :
    x.hubView = s.hubView := by
  unfold hubView clusterRouted health runnerSilentNow runner
  rw [ht, hu, hh]

theorem State.execSuspectEnter_enters {s : State} {dt : Nat} (h0 : s.fm.suspectState = 0)
    (hl : s.fm.disagreeLimit ≤ s.fm.disagree) :
    ∃ x : State, exec (.suspectEnter dt) s = .next ((x.urged Code.suspectEntered
        (be 1 s.hubView ++ be 1 s.fm.jobView)).beacon Beacon.suspect) ∧ x.fm.suspectState = 1 ∧
      x.fm.suspectPns = (s.begin dt).pns ∧ x.fm.suspectImage = 0 := by
  let x : State := { s.begin dt with fm := { s.fm with
    suspectState := 1, suspectPns := (s.begin dt).pns, suspectImage := 0, agreeFrames := 0 } }
  have hview : x.hubView = s.hubView := State.hubView_congr rfl rfl rfl
  refine ⟨x, ?_, rfl, rfl, rfl⟩
  have hcond : ((s.begin dt).fm.suspectState = 0 &&
      decide ((s.begin dt).fm.disagreeLimit ≤ (s.begin dt).fm.disagree)) = true :=
    Bool.and_of (decide_eq_true h0) (decide_eq_true hl)
  rw [← hview]
  exact congrArg Host.Outcome.next (if_pos hcond)

theorem State.marchAfter_fm (s : State) : s.marchAfter.fm.suspectState = s.fm.suspectState := by
  unfold marchAfter
  split
  · have hfm : (s.overwrite s.dump.refArea.image [1]).fm = s.fm :=
      State.same_of_frame .fm (overwrite_frame s s.dump.refArea.image [1]) rfl
    exact (congrArg Fault9.suspectState hfm : (s.overwrite s.dump.refArea.image [1]).fm.suspectState = _)
  · rfl

/-- The end of a self-test, in SUSPECT or in an admission (R436, R457). -/
theorem State.execSelfTestEnd_ends {s : State} {dt : Nat} {r : SelfTest} (hr : (s.begin dt).testRipe = true)
    (hm : (s.begin dt).marchBlocked = false) (h : (s.fm.suspectState = 2 || s.adm.state = 1) = true) :
    exec (.selfTestEnd dt r) s = .next (
      if s.fm.suspectState = 2 then State.suspectReport
        { (s.begin dt).putTest ((s.begin dt).testSeen r) with
          fm := { ((s.begin dt).putTest ((s.begin dt).testSeen r)).fm with suspectState := 3, agreeFrames := 0 } }
      else ((s.begin dt).putTest ((s.begin dt).testSeen r)).admTested ((s.begin dt).testSeen r)) := by
  have hsuspect : ((s.begin dt).putTest ((s.begin dt).testSeen r)).fm.suspectState = s.fm.suspectState :=
    (s.begin dt).marchAfter_fm
  refine congrArg Host.Outcome.next ((if_pos (Bool.and_of (Bool.and_of h hr) (congrArg not hm))).trans ?_)
  dsimp only
  rw [hsuspect]

/-! ## Beacons (R421, R457) -/

/-- A beacon that arrives at a link-up port. -/
theorem State.execBeaconReceive_arrives {s : State} {dt port : Nat} {b : List Byte} (hb : beaconFits b = true)
    (hp : port < 48) (hu : (s.optPort port).linkUp = true) (ha : s.adm.state ≠ 2) :
    exec (.beaconReceive dt port b) s = .next (
      if (s.begin dt).seenNow.any fun x => x.1 = fieldBe b 8 8 && x.2.1 = fieldBe b 2 2 then
        { s.begin dt with hang := { s.hang with seenBeacons := (s.begin dt).seenNow } }
      else
        (State.emitAll { s.begin dt with hang := { s.hang with
            seenBeacons := (s.begin dt).seenNow ++ [(fieldBe b 8 8, fieldBe b 2 2, (s.begin dt).elapsed)] } } .beacon
          ((s.begin dt).linkUpPorts.filter fun p => p ≠ port) b).launchBeacon (bitOf (fieldBe b 1 1) 0)
          (fieldBe b 24 2)) := by
  refine congrArg Host.Outcome.next ((if_pos (Bool.and_of (Bool.and_of hb (decide_eq_true hp)) hu)).trans ?_)
  dsimp only
  refine congrArg (ite _ _) (if_neg ?_)
  intro hgone
  exact ha (of_decide_eq_true (Bool.and_eq_true_iff.mp (Bool.and_eq_true_iff.mp hgone).1).1)

/-- Settles O29. -/
theorem stepMarksAndSuspect : Obligations.StepMarksAndSuspect := by
  refine ⟨fun dt w0 w1 w2 s => ⟨execStepMark_accepted, fun h => congrArg Host.Outcome.next (if_neg h)⟩,
    fun dt s hv hdue => congrArg Host.Outcome.next
      (if_pos (Bool.and_of (decide_eq_true hv) (decide_eq_true hdue))),
    fun dt s h0 hl => State.execSuspectEnter_enters h0 hl,
    fun dt s h1 hdue hd => congrArg Host.Outcome.next (if_pos (Bool.and_of (Bool.and_of (decide_eq_true h1)
      (decide_eq_true hdue)) (congrArg not hd))),
    fun dt r s hr hm => ⟨fun h2 => ?_, fun h2 h1 => ?_⟩, fun dt s h3 hl => ?_,
    fun dt req s s1 c h => ⟨fun h3 => ?_, fun h3 => ?_⟩, fun dt port b s hb hp hu ha => ?_⟩
  · exact ⟨_, (State.execSelfTestEnd_ends hr hm (Bool.or_eq_true_iff.mpr (.inl (decide_eq_true h2)))).trans
      (congrArg Host.Outcome.next (if_pos h2)), rfl, rfl, rfl, rfl⟩
  · have hadm : ((s.begin dt).putTest ((s.begin dt).testSeen r)).adm = (s.begin dt).adm :=
      State.same_of_frame .adm (State.putTest_frame (s.begin dt) ((s.begin dt).testSeen r)) rfl
    exact ⟨_, (State.execSelfTestEnd_ends hr hm (Bool.or_eq_true_iff.mpr (.inr (decide_eq_true h1)))).trans
      (congrArg Host.Outcome.next (if_neg h2)), rfl, hadm⟩
  · exact ⟨(s.begin dt).endSuspect, congrArg Host.Outcome.next (if_pos (Bool.and_of (decide_eq_true h3)
      (decide_eq_true hl))), rfl⟩
  · exact congrArg Host.Outcome.next (h.refuses rfl (f := fun _ s => s.cmdSuspectCmdClear) (if_pos h3))
  · exact ⟨s1.endSuspect, congrArg Host.Outcome.next (h.accepts rfl (f := fun _ s => s.cmdSuspectCmdClear)
      (if_neg (not_not_intro h3))), rfl⟩
  · refine ⟨_, State.execBeaconReceive_arrives hb hp hu ha, fun ⟨x, hx, horigin, hseq⟩ => ?_, fun hall => ?_⟩
    · rw [if_pos (List.any_eq_true.mpr ⟨x, hx, Bool.and_of (decide_eq_true horigin) (decide_eq_true hseq)⟩)]
      exact ⟨rfl, rfl⟩
    · have hunseen : ¬(((s.begin dt).seenNow.any fun x => x.1 = fieldBe b 8 8 && x.2.1 = fieldBe b 2 2) = true) := by
        intro hany
        obtain ⟨x, hx, hsame⟩ := List.any_eq_true.mp hany
        obtain ⟨horigin, hseq⟩ := Bool.and_eq_true_iff.mp hsame
        exact hall x hx ⟨of_decide_eq_true horigin, of_decide_eq_true hseq⟩
      rw [if_neg hunseen]
      refine ⟨rfl, ?_⟩
      unfold State.launchBeacon State.emitAll State.emit
      simp only [List.append_assoc, List.cons_append, List.nil_append]
      rfl

end Sys2Proof.Machine
end

section
/-!
PROOFS. Expulsion orders and what follows an accepted one (R442–R448, O30).
-/
namespace Sys2Proof.Machine

/-! ## What a log record changes -/

theorem State.changes_logged (s : State) (code : Nat) (detail : List Byte) :
    Changes [.emitted, .backup, .flash, .logSeq, .log, .port] s (s.logged code detail) :=
  logged_frame s code detail (.refl _ s) (List.Subset.refl _)

theorem State.changes_told (s : State) (code : Nat) (detail : List Byte) :
    Changes [.emitted, .backup, .flash, .logSeq, .log, .port] s (s.told code detail) :=
  told_frame s code detail (.refl _ s) (List.Subset.refl _)

theorem State.changes_urged (s : State) (code : Nat) (detail : List Byte) :
    Changes [.emitted, .backup, .flash, .logSeq, .log, .port] s (s.urged code detail) :=
  urged_frame s code detail (.refl _ s) (List.Subset.refl _)

theorem State.urged_fm (s : State) (code : Nat) (detail : List Byte) : (s.urged code detail).fm = s.fm :=
  s.changes_urged code detail .fm (by decide)

theorem State.setDump_fm (s : State) (d : Dump) : ({ s with dump := d } : State).fm = s.fm := rfl

theorem State.persist_fm (s : State) : s.persist.fm = s.fm := State.same_of_frame .fm (persist_frame s) rfl

/-! ## The order (R442–R445, R448) -/

/-- The fence and the expulsion in progress, apart from what SUSPECT and the step mark hold. -/
def Fault9.SameExpulsion (f g : Fault9) : Prop :=
  g.fenceState = f.fenceState ∧ g.fenceSeq = f.fenceSeq ∧ g.expelPhase = f.expelPhase ∧ g.expelAt = f.expelAt

theorem Fault9.SameExpulsion.of_eq {f g : Fault9} (h : g = f) : f.SameExpulsion g := by
  subst h
  exact ⟨rfl, rfl, rfl, rfl⟩

theorem Fault9.SameExpulsion.trans {f g h : Fault9} (a : f.SameExpulsion g) (b : g.SameExpulsion h) :
    f.SameExpulsion h := by
  obtain ⟨a1, a2, a3, a4⟩ := a
  obtain ⟨b1, b2, b3, b4⟩ := b
  exact ⟨b1.trans a1, b2.trans a2, b3.trans a3, b4.trans a4⟩

/-- What an accepted EXPEL ends leaves the expulsion itself. -/
theorem State.expelEnds_expulsion (s : State) : s.fm.SameExpulsion s.expelEnds.fm := by
  unfold expelEnds
  extract_lets ended k gone hang fm recovered cleared
  have hended : ended.fm = s.fm := by
    dsimp only [ended]
    split
    · exact State.same_of_frame .fm (endProcedure_frame s 6) rfl
    · rfl
  have hrecovered : ended.fm.SameExpulsion recovered.fm := by
    dsimp only [recovered]
    split
    · exact .trans (g := { fm with markPhase := 1 }) ⟨rfl, rfl, rfl, rfl⟩ (.of_eq (urged_fm _ _ _))
    · exact .of_eq rfl
  have hcleared : cleared.fm = recovered.fm :=
    admFail_frame (recovered.modProc fun p => { p with queue := [] }) 7 (.refl _ _) (List.Subset.refl _) .fm (by decide)
  have hall : s.fm.SameExpulsion cleared.fm :=
    ((Fault9.SameExpulsion.of_eq hended).trans hrecovered).trans (.of_eq hcleared)
  split
  · exact hall
  · have hfm : (cleared.endSuspect.logged Code.suspectCleared []).fm = cleared.endSuspect.fm :=
      changes_logged cleared.endSuspect _ _ .fm (by decide)
    exact hall.trans (.trans (g := cleared.endSuspect.fm) ⟨rfl, rfl, rfl, rfl⟩ (.of_eq hfm))

theorem State.acceptExpel_fences {s : State} {o : List Byte} (h0 : s.fm.fenceState = 0) :
    (s.acceptExpel o).fm.fenceState = 1 ∧ (s.acceptExpel o).fm.fenceSeq = fieldBe o 4 4 ∧
    (s.acceptExpel o).fm.expelPhase = 1 ∧ (s.acceptExpel o).fm.expelAt = s.pns := by
  unfold acceptExpel
  rw [if_neg (not_not_intro h0)]
  extract_lets told fm marked ended
  have hpns : told.pns = s.pns := State.pns_congr (s := s) (t := told)
    (State.same_of_frame .elapsed (beacon_frame s Beacon.expel) rfl)
    (State.same_of_frame .tb (beacon_frame s Beacon.expel) rfl)
  have hcuts : marked.cancelCuts.fm = marked.fm := State.same_of_frame .fm (cancelCuts_frame marked) rfl
  have hended : ended.fm = marked.cancelCuts.expelEnds.fm := State.same_of_frame .fm (soAbort_frame _) rfl
  have hmarked : marked.fm = { fm with
      fenceState := 1, fenceSeq := fieldBe o 4 4, expelPhase := 1, expelAt := told.pns
      expelReason := fieldBe o 32 4
      expelEntry := none, expelNoCut := false, expelImage := 0 } := persist_fm _
  obtain ⟨hstate, hseq, hphase, hat⟩ := (((Fault9.SameExpulsion.of_eq (hcuts.trans hmarked)).trans
    marked.cancelCuts.expelEnds_expulsion).trans (.of_eq hended)).trans
      (.of_eq (ended.setDump_fm _))
  exact ⟨hstate, hseq, hphase, hat.trans hpns⟩

theorem State.acceptRelease_lifts {s : State} {o : List Byte} (h0 : s.fm.fenceState ≠ 0) :
    (s.acceptRelease o).fm.fenceState = 0 ∧ (s.acceptRelease o).fm.fenceSeq = fieldBe o 4 4 ∧
    (s.acceptRelease o).adm.state = 0 := by
  unfold acceptRelease
  extract_lets seq was fm begun fm adm lifted freed
  have hfreed : freed = lifted.persist.liftFence := if_neg h0
  have hch : Changes [.emitted, .units, .backup, .flash, .logSeq, .log, .port] lifted
      (freed.urged Code.fenceReleased (be 4 seq)) := by
    rw [hfreed]
    exact State.urged_frame _ _ _ (liftFence_frame _ (State.persist_frame _ (.refl _ _) (by decide)) (by decide))
      (by decide)
  have hfm := hch .fm (by decide)
  have hbegun : begun.fm = { s.fm with fenceSeq := seq } := persist_fm _
  exact ⟨congrArg Fault9.fenceState hfm, (congrArg Fault9.fenceSeq hfm).trans (congrArg Fault9.fenceSeq hbegun),
    congrArg Admission.state (hch .adm (by decide))⟩

section
variable {s s1 : State} {dt : Nat} {o : List Byte} {req : Req} {c : Ctx}
  (h : Served s dt req 0xB010 0 .blkWrite c s1)
include h

/-- A write of EXPEL_ORDER is answered as its rules reply, whichever of the two commands it is. -/
theorem Served.order {r : Reply} (hr : s1.orderWrite o = r) :
    exec (.expel dt req o) s = .next (r.state.answer c r.code r.data) ∧
    exec (.expelRelease dt req o) s = .next (r.state.answer c r.code r.data) := by
  have hserve := h.answers rfl (f := fun _ s => s.orderWrite o) hr
  exact ⟨congrArg Host.Outcome.next hserve, congrArg Host.Outcome.next hserve⟩

theorem Served.order_refused {code : Nat} (hr : s1.orderRefusal o = some code) :
    exec (.expel dt req o) s =
      .next ((s1.logged Code.expelRefused (be 4 (fieldBe o 4 4) ++ be 1 code)).answer c code []) ∧
    exec (.expelRelease dt req o) s =
      .next ((s1.logged Code.expelRefused (be 4 (fieldBe o 4 4) ++ be 1 code)).answer c code []) := by
  refine h.order (r := ⟨s1.logged Code.expelRefused (be 4 (fieldBe o 4 4) ++ be 1 code), code, []⟩) ?_
  unfold State.orderWrite
  rw [hr]

theorem Served.order_expels (hr : s1.orderRefusal o = none) (hk : fieldBe o 1 1 = 1) :
    exec (.expel dt req o) s = .next ((s1.acceptExpel o).answer c Abort.ok []) := by
  refine (h.order (r := (s1.acceptExpel o).accept) ?_).1
  unfold State.orderWrite
  rw [hr]
  exact if_pos hk

theorem Served.order_releases (hr : s1.orderRefusal o = none) (hk : fieldBe o 1 1 = 2) :
    exec (.expelRelease dt req o) s = .next ((s1.acceptRelease o).answer c Abort.ok []) := by
  refine (h.order (r := (s1.acceptRelease o).accept) ?_).2
  unfold State.orderWrite
  rw [hr]
  exact if_neg (by rw [hk]; decide)
end

/-! ## The fence of the ports (R445) -/

theorem State.optPort_fences (s : State) (q p : Nat) (h : p = q ∨ (s.optPort p).fenced = true) :
    ((s.modPort q fun x => { x with fenced := true }).optPort p).fenced = true := by
  by_cases hp : p = q
  · subst hp
    exact congrArg OptPort.fenced (Tab.at_set_of_ne s.units.ports p OptPort.fresh { s.optPort p with fenced := true }
      fun h => Bool.false_ne_true (congrArg OptPort.fenced h).symm)
  · exact (congrArg OptPort.fenced (Tab.at_mod_ne s.units.ports OptPort.fresh OptPort.fresh
      (fun x => { x with fenced := true }) hp)).trans (h.resolve_left hp)

/-- Ports that are fenced one after another. -/
theorem State.optPort_foldl_fences (l : List Nat) (s : State) (p : Nat) (h : p ∈ l ∨ (s.optPort p).fenced = true) :
    ((l.foldl (fun s p => s.modPort p fun x => { x with fenced := true }) s).optPort p).fenced = true := by
  induction l generalizing s with
  | nil => exact h.resolve_left List.not_mem_nil
  | cons q l ih =>
    refine ih _ ?_
    rcases h with h | h
    · rcases List.mem_cons.mp h with rfl | h
      · exact .inr (s.optPort_fences p p (.inl rfl))
      · exact .inl h
    · exact .inr (s.optPort_fences q p (.inr h))

theorem State.fencePorts_fenced (s : State) {p : Nat} (h : p < 48) : ((s.fencePorts true).optPort p).fenced = true :=
  optPort_foldl_fences (List.range 48) s p (.inl (List.mem_range.mpr h))

theorem State.execExpelPortFence_fences {s : State} {dt : Nat} (h1 : s.fm.expelPhase = 1)
    (hdue : s.fm.expelAt + 4000 ≤ (s.begin dt).pns) :
    ∃ t, exec (.expelPortFence dt) s = .next t ∧ t.fm.fenceState = 2 ∧ t.fm.fencePns = (s.begin dt).pns ∧
      t.fm.expelPhase = 2 ∧ ∀ p, p < 48 → (t.optPort p).fenced = true := by
  let y := (s.begin dt).fencePorts true
  have hpns : y.pns = (s.begin dt).pns := State.pns_congr (s := s.begin dt) (t := y)
    (State.same_of_frame .elapsed (fencePorts_frame (s.begin dt) true) rfl)
    (State.same_of_frame .tb (fencePorts_frame (s.begin dt) true) rfl)
  let x : State := { y with fm := { y.fm with fenceState := 2, fencePns := y.pns, expelPhase := 2 } }
  have hch : Changes [.flash] x x.persist := State.persist_frame x (.refl _ x) (List.Subset.refl _)
  have hfm : x.persist.fm = x.fm := hch .fm (by decide)
  have hunits : x.persist.units = y.units := hch .units (by decide)
  refine ⟨x.persist, congrArg Host.Outcome.next (if_pos (Bool.and_of (decide_eq_true h1) (decide_eq_true hdue))),
    congrArg Fault9.fenceState hfm, (congrArg Fault9.fencePns hfm).trans hpns, congrArg Fault9.expelPhase hfm,
    fun p hp => ?_⟩
  exact (congrArg (fun u : Units => (Tab.at u.ports p OptPort.fresh).fenced) hunits).trans
    ((s.begin dt).fencePorts_fenced hp)

/-! ## The cut, its image and its close (R445) -/

theorem State.execExpelCut_quenched {s : State} {dt : Nat} (h2 : s.fm.expelPhase = 2) (hq : s.qu.state = Qs.quenched) :
    exec (.expelCut dt) s = .next { s.begin dt with fm := { s.fm with
      expelPhase := 3, expelCutAt := (s.begin dt).pns, expelEntry := none } } := by
  have hcond : ((s.begin dt).fm.expelPhase = 2 && ((s.begin dt).qu.state = Qs.idle ||
      (s.begin dt).qu.state = Qs.mixed || (s.begin dt).qu.state = Qs.quenched)) = true :=
    Bool.and_of (decide_eq_true h2) (Bool.or_eq_true_iff.mpr (.inr (decide_eq_true hq)))
  exact congrArg Host.Outcome.next ((if_pos hcond).trans (if_pos hq))

theorem State.execExpelCut_cuts {s x : State} {dt n : Nat} (h2 : s.fm.expelPhase = 2)
    (hq : s.qu.state = Qs.idle ∨ s.qu.state = Qs.mixed)
    (hx : (s.begin dt).enterOwn Act.quench ((s.begin dt).earliest Act.quench) 0 wholePackage = (x, some n)) :
    exec (.expelCut dt) s = .next { x with fm := { x.fm with
      expelPhase := 3, expelCutAt := (s.begin dt).earliest Act.quench, expelEntry := some n } } := by
  have hcond : ((s.begin dt).fm.expelPhase = 2 && ((s.begin dt).qu.state = Qs.idle ||
      (s.begin dt).qu.state = Qs.mixed || (s.begin dt).qu.state = Qs.quenched)) = true :=
    Bool.and_of (decide_eq_true h2) (Bool.or_eq_true_iff.mpr (.inl (Bool.or_eq_true_iff.mpr
      (hq.imp decide_eq_true decide_eq_true))))
  have hnot : ¬((s.begin dt).qu.state = Qs.quenched) := by
    intro h
    have h' : s.qu.state = Qs.quenched := h
    rcases hq with hq | hq <;> exact absurd (hq.symm.trans h') (by decide)
  refine congrArg Host.Outcome.next ((if_pos hcond).trans ((if_neg hnot).trans ?_))
  dsimp only
  rw [hx]

theorem State.execExpelCollect_collects {s : State} {dt : Nat} (h3 : s.fm.expelPhase = 3)
    (hdue : s.fm.expelCutAt + 2000 ≤ (s.begin dt).pns) (hb : s.dumpBusy = false) (he : s.fm.expelEntry = none)
    (hn : s.fm.expelNoCut = false) (hr : s.soRefusal s.dump.tiers ≠ some Abort.notQuenched) :
    ∃ x : State, exec (.expelCollect dt) s = .next (x.ownShakeout s.dump.tiers (BitVec.allOnes 128) 2) ∧
      x.fm = { s.fm with expelPhase := 4 } := by
  have hentry : (s.begin dt).expelEntryState = (false, false) := by
    unfold expelEntryState
    rw [show (s.begin dt).fm.expelEntry = none from he]
  refine ⟨{ s.begin dt with fm := { s.fm with expelPhase := 4 } }, ?_, rfl⟩
  have hlost : ((false || (s.begin dt).soRefusal (s.begin dt).dump.tiers = some Abort.notQuenched) &&
      !(s.begin dt).fm.expelNoCut) = false := by
    rw [show decide ((s.begin dt).soRefusal (s.begin dt).dump.tiers = some Abort.notQuenched) = false from
      decide_eq_false hr]
    rfl
  have htiers : (if (s.begin dt).fm.expelNoCut then 1 else (s.begin dt).dump.tiers) = s.dump.tiers :=
    if_neg (Bool.eq_false_iff.mp hn)
  show execExpelCollect dt s = _
  unfold execExpelCollect
  dsimp only
  rw [hentry]
  refine congrArg Host.Outcome.next ((if_pos (Bool.and_of (Bool.and_of (Bool.and_of (decide_eq_true h3)
    (decide_eq_true hdue)) (congrArg not hb)) rfl)).trans ?_)
  dsimp only
  rw [hlost, if_neg Bool.false_ne_true, htiers]
  rfl

theorem State.overwrite_running (s : State) (image : Nat) (tiers : List Nat) :
    (s.overwrite image tiers).dump.running = s.dump.running ∧
    (s.overwrite image tiers).dump.status = s.dump.status := by
  unfold overwrite
  dsimp only
  split
  · exact ⟨rfl, rfl⟩
  next n _ =>
    split
    · exact ⟨rfl, rfl⟩
    · exact ⟨(congrArg Dump.running (logged_dump _ _ _)).trans rfl,
        (congrArg Dump.status (logged_dump _ _ _)).trans rfl⟩

theorem State.marchAfter_running (s : State) :
    s.marchAfter.dump.running = s.dump.running ∧ s.marchAfter.dump.status = s.dump.status := by
  unfold marchAfter
  split
  · exact s.overwrite_running s.dump.refArea.image [1]
  · exact ⟨rfl, rfl⟩

theorem State.soClose_running {s : State} {k : Shakeout} {g : Image} (hk : s.dump.running = some k)
    (hg : s.soImage = some g) : s.soClose.dump.running = none ∧ s.soClose.dump.status = 0 := by
  unfold soClose
  split
  · extract_lets g header s1 s2 d2 area s3 s4 valid d4 s5 s6 detail bad
    have hs6 : s6.dump = s5.dump := by
      dsimp only [s6]
      split
      · exact logged_dump _ _ _
      · rfl
    have hend : (if bad then s6.urged Code.soDone detail else s6.told Code.soDone detail).dump = s5.dump := by
      split
      · exact (s6.changes_urged _ _ .dump (by decide)).trans hs6
      · exact (s6.changes_told _ _ .dump (by decide)).trans hs6
    exact ⟨congrArg Dump.running hend, congrArg Dump.status hend⟩
  next hno => exact absurd hg (hno k g hk)

/-- Settles O30. -/
theorem expulsion : Obligations.Expulsion := by
  refine ⟨fun dt o req s s1 c h => ⟨fun code hr => h.order_refused hr,
      fun hr hk h0 => ⟨_, h.order_expels hr hk, State.acceptExpel_fences h0⟩,
      fun hr hk h0 => ⟨_, h.order_releases hr hk, State.acceptRelease_lifts h0⟩⟩,
    fun dt s h1 hdue => State.execExpelPortFence_fences h1 hdue,
    fun dt s h2 => ⟨fun hq => State.execExpelCut_quenched h2 hq, fun hq x n hx => State.execExpelCut_cuts h2 hq hx⟩,
    fun dt s h3 hdue hb he hn hr => State.execExpelCollect_collects h3 hdue hb he hn hr, fun dt s g hg hc => ?_⟩
  obtain ⟨k, hk⟩ : ∃ k, s.dump.running = some k := by
    unfold State.soClosable at hc
    cases hr : s.dump.running with
    | none =>
      rw [hr] at hc
      exact absurd hc Bool.false_ne_true
    | some k => exact ⟨k, rfl⟩
  obtain ⟨hrun, hstatus⟩ := State.soClose_running (s := s.begin dt) hk hg
  obtain ⟨hrun', hstatus'⟩ := (s.begin dt).soClose.marchAfter_running
  refine ⟨(s.begin dt).soClose.marchAfter, ?_, hrun'.trans hrun, hstatus'.trans hstatus⟩
  show execShakeoutClose dt s = _
  unfold execShakeoutClose
  dsimp only
  rw [show (s.begin dt).soImage = some g from hg]
  exact congrArg Host.Outcome.next (if_pos hc)

end Sys2Proof.Machine
end

section
/-!
PROOFS. Starting and ending an admission (R454, R455, R457, R458, O31).
-/
namespace Sys2Proof.Machine

/-! ## The self-test (R437) -/

theorem State.startTest_starts (s : State) :
    s.startTest.adm = s.adm ∧ s.startTest.bar.sweep = some 0 ∧ s.startTest.fm.testSince = s.elapsed := by
  unfold startTest
  extract_lets fm bar x
  split
  · exact ⟨rfl, rfl, rfl⟩
  · have hch : Changes [.emitted, .dump, .backup, .flash, .logSeq, .log, .port] x
        (x.overwrite x.dump.refArea.image [1]) := overwrite_frame x _ _ (.refl _ x) (List.Subset.refl _)
    have hfm : (x.overwrite x.dump.refArea.image [1]).fm = x.fm := hch .fm (by decide)
    exact ⟨hch .adm (by decide), congrArg Bar.sweep (hch .bar (by decide)), congrArg Fault9.testSince hfm⟩

/-- An admission that BEGIN starts (R457). -/
def State.admBegun (s : State) : State :=
  { s with adm := { s.adm with
      state := 1, bytes := 0, records := 0, crcErrors := 0, sealWanted := 0, sealGot := 0
      shortTotal := 0, shortDies := 0, shortDieCores := 0, shortReserve := 0, opened := false, sums := [], mirrors := []
      endCount := 0, wave := none, second := false, entry := none, written := false, regions := [] } }

theorem State.cmdAdmBegin_begins {s : State} (h : s.beginRefusal = none) :
    s.cmdAdmBegin = s.admBegun.startTest.accept := by
  unfold cmdAdmBegin
  rw [h]
  rfl

/-! ## The end of a stream -/

theorem State.admFail_fails {s : State} {why : Nat} (h1 : 1 ≤ s.adm.state) (h4 : s.adm.state ≤ 4) :
    (s.admFail why).adm.why = why ∧ (s.admFail why).adm.state = (if s.adm.written then 6 else 7) := by
  unfold admFail
  rw [if_pos ⟨h1, h4⟩]
  dsimp only
  split
  · exact ⟨rfl, rfl⟩
  · unfold admFailed
    extract_lets a detail
    have hadm (y : State) (code : Nat) (d : List Byte) : (y.urged code d).adm = y.adm :=
      y.changes_urged code d .adm (by decide)
    exact ⟨congrArg Admission.why (hadm _ _ _), congrArg Admission.state (hadm _ _ _)⟩

/-! ## FETTLING (R457) -/

/-- The regions of an admission read zero, one after another. -/
def clearRegions (l : List (Nat × Nat × Nat)) (m : Mem) : Mem :=
  l.foldl (fun m x => Mem.clear m (stackAddr x.1 x.2.1) x.2.2) m

/-- What a filter by the key leaves of a table. -/
theorem Tab.find_filter {α : Type} (t : Tab α) (q : Nat → Bool) (k : Nat) :
    Tab.find (t.filter fun c => q c.1) k = if q k then Tab.find t k else none := by
  induction t with
  | nil => exact (ite_self none).symm
  | cons c t ih =>
    obtain ⟨j, w⟩ := c
    rw [List.filter_cons]
    by_cases hj : j = k
    · subst hj
      have hcons (l : Tab α) : Tab.find ((j, w) :: l) j = some w := if_pos rfl
      rw [hcons]
      cases hq : q j with
      | true => exact hcons _
      | false => exact ih.trans (if_neg (Bool.eq_false_iff.mp hq))
    · have hcons (l : Tab α) : Tab.find ((j, w) :: l) k = Tab.find l k := if_neg hj
      rw [hcons, ← ih]
      cases q j with
      | true => exact hcons _
      | false => rfl

theorem Mem.read_clear (m : Mem) (a n b : Nat) :
    Mem.read (Mem.clear m a n) b = if a ≤ b ∧ b < a + n then 0 else Mem.read m b := by
  have hfind := Tab.find_filter m (fun c => !(decide (a ≤ c) && decide (c < a + n))) b
  unfold Mem.read Tab.at
  refine (congrArg (fun o : Option Byte => o.getD 0) hfind).trans ?_
  by_cases hb : a ≤ b ∧ b < a + n
  · rw [if_pos hb, decide_eq_true hb.1, decide_eq_true hb.2]
    rfl
  · have hout : (!(decide (a ≤ b) && decide (b < a + n))) = true := by
      rw [← Bool.decide_and, decide_eq_false hb]
      rfl
    rw [if_neg hb, hout]
    rfl

theorem read_clearRegions {l : List (Nat × Nat × Nat)} {m : Mem} {a : Nat}
    (h : (∃ x ∈ l, stackAddr x.1 x.2.1 ≤ a ∧ a < stackAddr x.1 x.2.1 + x.2.2) ∨ Mem.read m a = 0) :
    Mem.read (clearRegions l m) a = 0 := by
  induction l generalizing m with
  | nil => exact h.resolve_left fun ⟨_, hx, _⟩ => List.not_mem_nil hx
  | cons y l ih =>
    refine ih ?_
    rw [Mem.read_clear]
    rcases h with ⟨x, hx, hin⟩ | h0
    · rcases List.mem_cons.mp hx with rfl | hx
      · exact .inr (if_pos hin)
      · exact .inl ⟨x, hx, hin⟩
    · right
      split
      · rfl
      · exact h0

theorem State.execAdmFettleDone_fettles {s : State} {dt : Nat} (h6 : s.adm.state = 6)
    (hf : s.power.admitted.getLsbD 3 = true) :
    ∃ t, exec (.admFettleDone dt) s = .next t ∧ t.adm.state = 7 ∧ t.adm.reason = s.adm.why ∧
      ∀ x ∈ s.adm.regions, ∀ a, stackAddr x.1 x.2.1 ≤ a → a < stackAddr x.1 x.2.1 + x.2.2 →
        Mem.read t.dram a = 0 := by
  let y : State := { s.begin dt with
    dram := clearRegions s.adm.regions s.dram, adm := { s.adm with regions := [], written := false } }
  have hadm : y.admFailed.adm = { y.adm with state := 7, reason := y.adm.why, entry := none, wave := none } :=
    State.changes_urged _ _ _ .adm (by decide)
  have hdram : y.admFailed.dram = clearRegions s.adm.regions s.dram := State.changes_urged _ _ _ .dram (by decide)
  refine ⟨y.admFailed, congrArg Host.Outcome.next (if_pos (Bool.and_of (decide_eq_true h6) hf)),
    congrArg Admission.state hadm, congrArg Admission.reason hadm, fun x hx a hlo hhi => ?_⟩
  rw [hdram]
  exact read_clearRegions (.inl ⟨x, hx, hlo, hhi⟩)

/-- Settles O31. -/
theorem admissionCommands : Obligations.AdmissionCommands := by
  refine ⟨fun dt req s s1 c h => ⟨fun code hr => ?_, fun hr => ?_⟩,
    fun dt req s s1 c h => ⟨fun h0 => ?_, fun h0 hp hok => ?_⟩,
    fun dt req s s1 c h => ⟨fun h8 => ?_, fun h1 h4 => ?_⟩,
    fun dt s h2 hl => congrArg Host.Outcome.next (if_pos (Bool.and_of (decide_eq_true h2) (decide_eq_true hl))),
    fun dt s h6 hf => ?_,
    fun dt sum bytes records ok s h8 =>
      ⟨_, congrArg Host.Outcome.next (if_pos (decide_eq_true h8)), rfl, rfl, rfl, rfl⟩⟩
  · refine congrArg Host.Outcome.next (h.refuses rfl (f := fun _ s => s.cmdAdmBegin) ?_)
    unfold State.cmdAdmBegin
    rw [hr]
  · obtain ⟨hadm, hsweep, htest⟩ := s1.admBegun.startTest_starts
    exact ⟨s1.admBegun.startTest, congrArg Host.Outcome.next (h.accepts rfl (f := fun _ s => s.cmdAdmBegin)
      (State.cmdAdmBegin_begins hr)), congrArg Admission.state hadm, congrArg Admission.records hadm,
      congrArg Admission.written hadm, hsweep, htest⟩
  · exact congrArg Host.Outcome.next (h.refuses rfl (f := fun _ s => s.cmdAdmServe) (if_pos h0))
  · refine ⟨_, congrArg Host.Outcome.next (h.accepts rfl (f := fun _ s => s.cmdAdmServe)
      ((if_neg (not_not_intro h0)).trans (if_neg ?_))), rfl, rfl⟩
    rw [hok]
    exact fun hno => hno.elim hp fun hn => hn rfl
  · exact ⟨_, congrArg Host.Outcome.next (h.accepts rfl (f := fun _ s => s.cmdAdmAbort) (if_pos h8)), rfl⟩
  · obtain ⟨hwhy, hstate⟩ := s1.admFail_fails (why := 6) h1 h4
    exact ⟨s1.admFail 6, congrArg Host.Outcome.next (h.accepts rfl (f := fun _ s => s.cmdAdmAbort)
      (if_neg (by omega))), hwhy, hstate⟩
  · exact State.execAdmFettleDone_fettles h6 hf

end Sys2Proof.Machine
end

section
/-!
PROOFS. The records of an admission stream (R456, R457, O32).
-/
namespace Sys2Proof.Machine

/-- An admission whose stream is open. -/
def loadingState : State :=
  { State.reset with adm := { Admission.fresh with state := 2, opened := true } }

/-- The image of a core whose number is beyond the last logical core, 16,383. -/
def beyondLastCore : List Byte := streamOctets 0x30 16384 []

/-- Refutes O32: no logical core has the number 16,384, and the admission fails with destination unknown; the clause of
a core's image bounds the number by the spare map's lookup alone, which answers for rows beyond the last one too. -/
theorem not_admissionStream : ¬ Obligations.AdmissionStream := by
  intro h
  obtain ⟨-, hrecord, -⟩ := h
  obtain ⟨r, hr⟩ : ∃ r, streamRec beyondLastCore = some r := Option.isSome_iff_exists.mp (by decide +kernel)
  obtain ⟨-, hcore, -⟩ := hrecord 0 0 beyondLastCore loadingState r hr rfl rfl (by decide)
  have hget : (streamRec beyondLastCore).getD ⟨0, 0, [], false⟩ = r := by rw [hr]; rfl
  subst hget
  obtain ⟨uid, huid⟩ : ∃ uid,
      loadingState.logicalUid ((streamRec beyondLastCore).getD ⟨0, 0, [], false⟩).sub = some uid :=
    Option.isSome_iff_exists.mp (by decide +kernel)
  obtain ⟨t, ht, -, hrecords, -⟩ := hcore (by decide +kernel) (by decide +kernel) uid huid
  obtain rfl : outState (exec (.admRecordReceive 0 0 beyondLastCore) loadingState) = t := congrArg outState ht
  revert hrecords
  decide +kernel

end Sys2Proof.Machine
end

section
/-!
PROOFS. Sampling slots, captures, self-checks and the SDC storm (R471, R476, R479, R483, R486, O34).
-/
namespace Sys2Proof.Machine

/-! ## The credit of a sampling slot (R470, R471) -/

theorem State.frameCredit_congr {s x : State} (ht : x.topo = s.topo) (hl : x.frame.lenNs = s.frame.lenNs)
    (hr : x.bar.rate = s.bar.rate) (hq : x.bar.quarantine = s.bar.quarantine) : x.frameCredit = s.frameCredit := by
  have hlogical (uid : Nat) : x.uidLogical uid = s.uidLogical uid := by
    unfold uidLogical row
    rw [ht]
  have hquarantined (k : Nat) : x.quarantined k = s.quarantined k := by
    unfold quarantined
    rw [hq]
  unfold frameCredit rotationCount activeCores
  simp only [hlogical, hquarantined, ht, hl, hr]

/-- The credit after a slot: slot 3 adds that of a frame, at most twice over. -/
def State.slotCredit (s : State) (slot : Nat) : Rat :=
  if slot = 3 then (if 2 * s.frameCredit < s.bar.credit + s.frameCredit
    then 2 * s.frameCredit else s.bar.credit + s.frameCredit) else s.bar.credit

/-- The state in which a sampling slot has begun. -/
def State.slotBegins (s : State) (slot : Nat) : State :=
  let s : State := { s with bar := { s.bar with slotDone := s.frame.number * 16 + slot } }
  if slot = 3 then s.addCredit else s

theorem State.setCredit_slotDone (s : State) (v : Rat) :
    ({ s with bar := { s.bar with credit := v } } : State).bar.slotDone = s.bar.slotDone := rfl

theorem State.addCredit_slotDone (s : State) : s.addCredit.bar.slotDone = s.bar.slotDone := by
  unfold addCredit
  exact s.setCredit_slotDone _

theorem State.addCredit_credit (s : State) : s.addCredit.bar.credit =
    if 2 * s.frameCredit < s.bar.credit + s.frameCredit then 2 * s.frameCredit
    else s.bar.credit + s.frameCredit := rfl

theorem State.slotBegins_bar (s : State) (dt slot : Nat) :
    ((s.begin dt).slotBegins slot).bar.slotDone = s.frame.number * 16 + slot ∧
    ((s.begin dt).slotBegins slot).bar.credit = s.slotCredit slot := by
  let x : State := { s.begin dt with bar := { s.bar with slotDone := s.frame.number * 16 + slot } }
  have hcredit : x.frameCredit = s.frameCredit := frameCredit_congr rfl rfl rfl rfl
  unfold slotBegins slotCredit
  by_cases h3 : slot = 3
  · rw [if_pos h3, if_pos h3, ← hcredit]
    exact ⟨x.addCredit_slotDone, x.addCredit_credit⟩
  · rw [if_neg h3, if_neg h3]
    exact ⟨rfl, rfl⟩

theorem State.execSamplingSlot_samples {s : State} {dt slot : Nat} (h3 : 3 ≤ slot) (h14 : slot ≤ 14)
    (hb : (s.begin dt).slotBegun slot = true) (hd : s.bar.slotDone < s.frame.number * 16 + slot) :
    exec (.samplingSlot dt slot) s = .next (
      let x := ((s.begin dt).slotBegins slot).feedSweep 70000
      if bitOf x.power.grantedSlots slot && x.ordersAllowed then x.sampleSlot slot else x) := by
  refine congrArg Host.Outcome.next (if_pos ?_)
  exact Bool.and_of (Bool.and_of (Bool.and_of (decide_eq_true h3) (decide_eq_true h14)) hb) (decide_eq_true hd)

/-! ## Captures (R476, R479, R482) -/

theorem State.nowCompared_keeps (s : State) (o : BarOrder) :
    (s.nowCompared o).bar.compared = s.bar.compared ∧ (s.nowCompared o).bar.rechecks = s.bar.rechecks := by
  unfold nowCompared
  extract_lets k v x
  have hx : x.bar.compared = s.bar.compared ∧ x.bar.rechecks = s.bar.rechecks := ⟨rfl, rfl⟩
  split <;> exact hx

theorem State.atCapture_congr {s x : State} (hf : x.fm = s.fm) (ht : x.topo = s.topo) (o : BarOrder) (c : Capture) :
    x.atCapture o c = s.atCapture o c := by
  unfold atCapture uidLogical row
  rw [hf, ht]

theorem State.compareTile_compares (s : State) (o : BarOrder) (c : Capture) (upset : List (Nat × Nat)) :
    ∃ x : State, x.bar.compared = add64 s.bar.compared 1 ∧ x.bar.rechecks = s.bar.rechecks ∧
      s.compareTile o c upset =
        if c.compute upset = c.cOut then x else x.startRecheck (s.atCapture o c) c (c.compute upset) := by
  let y := s.nowCompared o
  let x : State := { y with bar := { y.bar with compared := add64 y.bar.compared 1 } }
  obtain ⟨hcompared, hrechecks⟩ := s.nowCompared_keeps o
  have hat : x.atCapture o c = s.atCapture o c := by
    have hch : Changes [.bar] s y := nowCompared_frame s o (.refl _ s) (List.Subset.refl _)
    exact atCapture_congr (x := x) (hch .fm (by decide)) (hch .topo (by decide)) o c
  refine ⟨x, congrArg (fun n => add64 n 1) hcompared, hrechecks, ?_⟩
  unfold compareTile
  rw [← hat]

section
variable {s : State} {dt : Nat} {m : CaptureMsg} {o : BarOrder}
  (ho : (s.bar.orders.find? fun o => o.bar = m.bar && o.slot = m.slot) = some o)
include ho

theorem State.execCaptureReceive_crc (hc : Capture.ofOctets m.header m.body = none) :
    exec (.captureReceive dt m) s = .next ((((((s.begin dt).dropOrder m.bar m.slot).logged Code.tbCaptureCrc
      (be 2 o.uid ++ be 1 o.engine)).notCompared o 6).feedSweep 70000)) := by
  show execCaptureReceive dt m s = _
  unfold execCaptureReceive
  dsimp only
  rw [show ((s.begin dt).bar.orders.find? fun o => o.bar = m.bar && o.slot = m.slot) = some o from ho]
  dsimp only
  rw [hc]
  rfl

theorem State.execCaptureReceive_compares {c : Capture} (hc : Capture.ofOctets m.header m.body = some c)
    (hid : c.orderId = o.orderId) (hs : c.status = 0) (hf : c.format ≤ 8) (hb : s.barState m.bar = 0) :
    exec (.captureReceive dt m) s =
      .next ((((s.begin dt).dropOrder m.bar m.slot).compareTile o c m.upset).feedSweep 70000) := by
  show execCaptureReceive dt m s = _
  unfold execCaptureReceive
  dsimp only
  rw [show ((s.begin dt).bar.orders.find? fun o => o.bar = m.bar && o.slot = m.slot) = some o from ho]
  dsimp only
  rw [hc]
  refine congrArg Host.Outcome.next ((if_neg (not_not_intro hid)).trans ?_)
  have hstate : ((s.begin dt).dropOrder m.bar m.slot).barState m.bar = 0 := hb
  exact congrArg (State.feedSweep 70000) ((if_neg (not_not_intro hs)).trans (if_pos ⟨hstate, hf⟩))
end

theorem State.execCaptureTimeout_ends {s : State} {dt bar slot : Nat} {o : BarOrder}
    (ho : (s.bar.orders.find? fun o => o.bar = bar && o.slot = slot) = some o)
    (hd : o.deadline + 20000 ≤ (s.begin dt).pns) :
    exec (.captureTimeout dt bar slot) s =
      .next ((((s.begin dt).dropOrder bar slot).notCompared o 6).feedSweep 70000) := by
  show execCaptureTimeout dt bar slot s = _
  unfold execCaptureTimeout
  dsimp only
  rw [show ((s.begin dt).bar.orders.find? fun o => o.bar = bar && o.slot = slot) = some o from ho]
  exact congrArg Host.Outcome.next (if_pos hd)

/-! ## Self-checks (R483) -/

theorem State.barState_setBar (s : State) (bar v : Nat) : (s.setBar bar v).barState bar = v := by
  unfold setBar barState
  split <;> rfl

theorem State.barState_congr {s x : State} (ha : x.bar.stateA = s.bar.stateA) (hr : x.bar.stateR = s.bar.stateR)
    (bar : Nat) : x.barState bar = s.barState bar := by
  unfold barState
  rw [ha, hr]

theorem State.execBarSelfCheckDone_passes {s : State} {dt bar : Nat} (hb : bar < 2) (h1 : s.barState bar = 1) :
    ∃ t, exec (.barSelfCheckDone dt bar true) s = .next t ∧ t.barState bar = 0 :=
  ⟨_, congrArg Host.Outcome.next (if_pos (Bool.and_of (decide_eq_true hb) (decide_eq_true h1))),
    (State.barState_congr (s := (s.begin dt).setBar bar 0) rfl rfl bar).trans (State.barState_setBar _ bar 0)⟩

theorem State.execBarSelfCheckDone_fails {s : State} {dt bar : Nat} (hb : bar < 2) (h1 : s.barState bar = 1)
    (hw : ∀ r ∈ s.bar.rechecks, r.secondBar ≠ bar) :
    ∃ t, exec (.barSelfCheckDone dt bar false) s = .next t ∧ t.barState bar = 2 ∧
      t.bar.events = s.bar.events := by
  let waits (r : Recheck) : Bool := r.sameBar && r.secondBar = bar && r.selfCheckPassed.isNone
  have hdue : s.bar.rechecks.filter waits = [] :=
    List.filter_eq_nil_iff.mpr fun r hr hc =>
      hw r hr (of_decide_eq_true (Bool.and_eq_true_iff.mp (Bool.and_eq_true_iff.mp hc).1).2)
  let y := ((s.begin dt).setBar bar 2).logged Code.testbarFault (be 2 (coreUid bar))
  let x : State := { y with bar := { y.bar with rechecks := y.bar.rechecks.filter fun r => !waits r } }
  have hbar : y.bar = ((s.begin dt).setBar bar 2).bar := State.changes_logged _ _ _ .bar (by decide)
  have hexec : exec (.barSelfCheckDone dt bar false) s =
      .next ((s.bar.rechecks.filter waits).foldl State.decideFault x) :=
    congrArg Host.Outcome.next (if_pos (Bool.and_of (decide_eq_true hb) (decide_eq_true h1)))
  refine ⟨x, by rw [hexec, hdue]; rfl, ?_, ?_⟩
  · have ha : y.bar.stateA = ((s.begin dt).setBar bar 2).bar.stateA := congrArg Bar.stateA hbar
    have hr : y.bar.stateR = ((s.begin dt).setBar bar 2).bar.stateR := congrArg Bar.stateR hbar
    exact (State.barState_congr (s := (s.begin dt).setBar bar 2) (x := x) ha hr bar).trans
      (State.barState_setBar _ bar 2)
  · have hevents : ((s.begin dt).setBar bar 2).bar.events = s.bar.events := by
      unfold State.setBar
      split <;> rfl
    exact (congrArg Bar.events hbar : y.bar.events = _).trans hevents

/-- Settles O34. -/
theorem sampling : Obligations.Sampling := by
  refine ⟨fun dt slot s h3 h14 hb hd => ?_, fun dt m s o ho => ⟨fun hc => ?_, fun c hc hid hs hf hb => ?_⟩,
    fun dt bar slot s o ho hd => ⟨_, State.execCaptureTimeout_ends ho hd, rfl⟩,
    fun dt bar s hb h1 => ⟨State.execBarSelfCheckDone_passes hb h1,
      fun hw => State.execBarSelfCheckDone_fails hb h1 hw⟩,
    fun dt s hs hl => congrArg Host.Outcome.next (if_pos (Bool.and_of hs (decide_eq_true hl)))⟩
  · obtain ⟨hslot, hcredit⟩ := s.slotBegins_bar dt slot
    exact ⟨(s.begin dt).slotBegins slot, State.execSamplingSlot_samples h3 h14 hb hd, hslot, hcredit⟩
  · exact ⟨(s.begin dt).dropOrder m.bar m.slot, State.execCaptureReceive_crc ho hc, rfl⟩
  · obtain ⟨x, hcompared, hrechecks, htile⟩ :=
      ((s.begin dt).dropOrder m.bar m.slot).compareTile_compares o c m.upset
    refine ⟨x, hcompared, hrechecks, ?_⟩
    rw [State.execCaptureReceive_compares ho hc hid hs hf hb, htile,
      State.atCapture_congr (s := s) (x := (s.begin dt).dropOrder m.bar m.slot) rfl rfl]

end Sys2Proof.Machine
end

section
/-!
PROOFS. Test-bar events, quarantine, probe kernels and their runs (R485, R487, R491–R494, O36).
-/
namespace Sys2Proof.Machine

/-! ## Events and quarantine (R485, R487) -/

theorem State.cmdTbEventAck_held {s : State} {seq : Nat} (h : ∃ e ∈ s.bar.events, e.seq = seq) :
    s.cmdTbEventAck seq =
      State.accept { s with bar := { s.bar with events := s.bar.events.filter fun e => e.seq ≠ seq } } := by
  obtain ⟨e, he, hseq⟩ := h
  exact if_pos (List.any_eq_true.mpr ⟨e, he, decide_eq_true hseq⟩)

theorem State.cmdTbEventAck_unknown {s : State} {seq : Nat} (h : ∀ e ∈ s.bar.events, e.seq ≠ seq) :
    s.cmdTbEventAck seq = s.refuse Abort.imageUnknown :=
  if_neg fun hany => by
    obtain ⟨e, he, hseq⟩ := List.any_eq_true.mp hany
    exact h e he (of_decide_eq_true hseq)

theorem State.setQuarantine_bar (s : State) (k : Nat) (b : Bool) :
    (s.setQuarantine k b).bar = { s.bar with quarantine := setBit s.bar.quarantine k b } :=
  State.same_of_frame .bar
    (persist_frame { s with bar := { s.bar with quarantine := setBit s.bar.quarantine k b } }) rfl

/-! ## Kernels (R491) -/

/-- The first kernel of an id, after its replacement. -/
theorem find_replaced {l : List Kernel} {k : Kernel} (h : (l.any fun x => x.id = k.id) = true) :
    ((l.map fun x => if x.id = k.id then k else x).find? fun x => x.id = k.id) = some k := by
  induction l with
  | nil => exact absurd h Bool.false_ne_true
  | cons x l ih =>
    by_cases hx : x.id = k.id
    · rw [List.map_cons, if_pos hx]
      exact List.find?_cons_of_pos (decide_eq_true rfl)
    · rw [List.map_cons, if_neg hx, List.find?_cons_of_neg (by rwa [decide_eq_true_eq])]
      refine ih ?_
      rwa [List.any_cons, decide_eq_false hx, Bool.false_or] at h

theorem State.loadKernel_large {s : State} {b : List Byte} (h : 262144 < b.length) :
    s.loadKernel b = s.refuse Abort.tooLarge := if_pos h

theorem State.loadKernel_bad {s : State} {b : List Byte} (h : b.length ≤ 262144)
    (hk : (⟨fieldBe b 8 4, b⟩ : Kernel).ok = false) : s.loadKernel b = s.refuse Abort.valueRange :=
  (if_neg (Nat.not_lt.mpr h)).trans (if_pos (congrArg not hk))

theorem State.loadKernel_holds {s : State} {b : List Byte} (h : b.length ≤ 262144)
    (hk : (⟨fieldBe b 8 4, b⟩ : Kernel).ok = true)
    (hn : (s.bar.kernels.filter fun x => x.id ≠ fieldBe b 8 4).length < 4)
    (hsum : ((s.bar.kernels.filter fun x => x.id ≠ fieldBe b 8 4).map fun x => x.bytes.length).sum + b.length ≤
      524288) :
    ∃ x : State, s.loadKernel b = x.accept ∧ x.kernel (fieldBe b 8 4) = some ⟨fieldBe b 8 4, b⟩ := by
  let k : Kernel := ⟨fieldBe b 8 4, b⟩
  let rest := s.bar.kernels.filter fun x => x.id ≠ k.id
  let l := if s.bar.kernels.any fun x => x.id = k.id then
      s.bar.kernels.map fun x => if x.id = k.id then k else x
    else rest ++ [k]
  have hroom : ¬(4 ≤ rest.length ∨ 524288 < (rest.map fun x => x.bytes.length).sum + b.length) := by
    rintro (h4 | hbig)
    · exact absurd hn (Nat.not_lt.mpr h4)
    · exact absurd hsum (Nat.not_le.mpr hbig)
  have hkind : ¬((!k.ok) = true) := by
    rw [show k.ok = true from hk]
    exact Bool.false_ne_true
  refine ⟨{ s with bar := { s.bar with kernels := l } },
    (if_neg (Nat.not_lt.mpr h)).trans ((if_neg hkind).trans (if_neg hroom)), ?_⟩
  show l.find? (fun x : Kernel => x.id = k.id) = some k
  by_cases hany : (s.bar.kernels.any fun x => x.id = k.id) = true
  · rw [show l = s.bar.kernels.map fun x => if x.id = k.id then k else x from if_pos hany]
    exact find_replaced hany
  · have hrest : (rest.find? fun x => x.id = k.id) = none := by
      refine List.find?_eq_none.mpr fun x hx hid => ?_
      exact of_decide_eq_true (List.mem_filter.mp hx).2 (of_decide_eq_true hid)
    rw [show l = rest ++ [k] from if_neg hany, List.find?_append, hrest]
    exact List.find?_cons_of_pos (p := fun x : Kernel => decide (x.id = k.id)) (decide_eq_true rfl)

/-! ## Runs (R492–R494) -/

theorem State.sendOp_run (s : State) (r : ProbeRun) (k : Kernel) (n : Nat) :
    (s.sendOp r k n).bar.run = s.bar.run := by
  unfold sendOp
  dsimp only
  split <;> rfl

/-- A run that has just started. -/
def ProbeRun.started (id seq uid e ops : Nat) (onEngine : Bool) : ProbeRun :=
  { kernel := id, seq := seq, uid := uid, engine := e, onEngine := onEngine, status := 4, opsRun := 0
    firstBad := 0xFF, endPns := 0, ops := List.replicate ops (0, 3), prevBar := [], prevEngine := [] }

theorem State.startRun_unknown {s : State} {id uid e : Nat} {onEngine : Bool} (h : s.kernel id = none) :
    s.startRun id uid e onEngine = s.refuse Abort.imageUnknown := by
  unfold startRun
  rw [h]

theorem State.startRun_starts {s : State} {id uid e : Nat} {onEngine : Bool} {k : Kernel} (hk : s.kernel id = some k)
    (hr : s.bar.run = none)
    (hu : onEngine = true → uidIsCore uid = true ∧ uidPresent uid = true ∧ e < 4) :
    ∃ x : State, s.startRun id uid e onEngine = x.accept ∧
      x.bar.run = some (.started id (s.bar.runSeq + 1) uid e k.ops onEngine) := by
  let r := ProbeRun.started id (s.bar.runSeq + 1) uid e k.ops onEngine
  let y : State := { s with bar := { s.bar with run := some r, runSeq := s.bar.runSeq + 1 } }
  refine ⟨y.sendOp r k 0, ?_, y.sendOp_run r k 0⟩
  unfold startRun
  rw [hk, hr]
  have hunit : ¬(onEngine = true ∧ ¬(uidIsCore uid = true ∧ uidPresent uid = true ∧ e < 4)) :=
    fun h => h.2 (hu h.1)
  exact if_neg hunit

theorem opOutcome_bar {r : ProbeRun} {k : Kernel} {n : Nat} {injected : Bool} {engine bar : List Nat}
    (ho : r.onEngine = false) (he : k.expected n bar = true) : opOutcome r k n injected engine bar = 0 := by
  unfold opOutcome
  rw [ho, he]
  rfl

theorem opOutcome_engine {r : ProbeRun} {k : Kernel} {n : Nat} {engine bar : List Nat}
    (ho : r.onEngine = true) (he : engine ≠ bar) : opOutcome r k n true engine bar = 1 := by
  have hinjected : ¬(r.onEngine = true ∧ ¬(true = true)) := fun h => h.2 rfl
  exact (if_neg hinjected).trans (if_pos ⟨ho, he⟩)

theorem State.execProbeOpDone_goes {s : State} {dt : Nat} {h : List Byte} {res : List Nat} {up : List (Nat × Nat)}
    {r : ProbeRun} {k : Kernel} (hr : s.bar.run = some r) (hk : s.kernel r.kernel = some k) (h4 : r.status = 4)
    (ho : r.onEngine = false) (he : k.expected r.opsRun (k.compute r.opsRun r.prevBar up) = true)
    (hl : r.opsRun + 1 ≠ k.ops) :
    ∃ t r', exec (.probeOpDone dt h res up) s = .next t ∧ t.bar.run = some r' ∧ r'.status = 4 ∧
      r'.opsRun = r.opsRun + 1 ∧ r'.prevBar = k.compute r.opsRun r.prevBar up := by
  have hout : opOutcome r k r.opsRun (h.length = 64 && fieldLe h 2 1 = 0) res (k.compute r.opsRun r.prevBar up) = 0 :=
    opOutcome_bar ho he
  show ∃ t r', execProbeOpDone dt h res up s = .next t ∧ _
  unfold execProbeOpDone
  dsimp only
  rw [show (s.begin dt).bar.run = some r from hr]
  dsimp only
  rw [show (s.begin dt).kernel r.kernel = some k from hk]
  dsimp only
  rw [if_neg (not_not_intro h4), hout]
  have hlast : (decide (0 = 1) || decide (0 = 4) || decide (r.opsRun + 1 = k.ops)) = false := decide_eq_false hl
  rw [hlast, if_neg Bool.false_ne_true]
  exact ⟨_, _, rfl, (State.sendOp_run _ _ _ _).trans rfl, rfl, rfl, rfl⟩

theorem State.execProbeOpDone_differs {s : State} {dt : Nat} {h : List Byte} {res : List Nat} {up : List (Nat × Nat)}
    {r : ProbeRun} {k : Kernel} (hr : s.bar.run = some r) (hk : s.kernel r.kernel = some k) (h4 : r.status = 4)
    (ho : r.onEngine = true) (hh : h.length = 64) (hs : fieldLe h 2 1 = 0)
    (hd : res ≠ k.compute r.opsRun r.prevBar up) :
    ∃ (x : State) (c : Capture) (o : BarOrder) (r' : ProbeRun), exec (.probeOpDone dt h res up) s =
        .next (x.startRecheck o c (k.compute r.opsRun r.prevBar up)) ∧
      o.inject = true ∧ o.uid = r.uid ∧ o.engine = r.engine ∧ x.bar.run = some r' ∧ r'.status = 1 ∧
      r'.opsRun = r.opsRun + 1 := by
  have hout : opOutcome r k r.opsRun (h.length = 64 && fieldLe h 2 1 = 0) res (k.compute r.opsRun r.prevBar up) =
      1 := by
    rw [Bool.and_of (decide_eq_true hh) (decide_eq_true hs)]
    exact opOutcome_engine ho hd
  show ∃ x c o r', execProbeOpDone dt h res up s = .next (State.startRecheck x o c _) ∧ _
  unfold execProbeOpDone
  dsimp only
  rw [show (s.begin dt).bar.run = some r from hr]
  dsimp only
  rw [show (s.begin dt).kernel r.kernel = some k from hk]
  dsimp only
  rw [if_neg (not_not_intro h4), hout]
  exact ⟨_, _, _, _, congrArg Host.Outcome.next ((if_pos rfl).trans (if_pos rfl)), rfl, rfl, rfl, rfl, rfl, rfl⟩

section
variable {s s1 : State} {dt id uid e : Nat} {req : Req} {c : Ctx} (h : Served s dt req 0x6021 0 .write c s1)
include h

theorem Served.probeRun {onEngine : Bool} {r : Reply} (hr : s1.startRun id uid e onEngine = r) :
    exec (if onEngine then .probeRunEngine dt req id uid e else .probeRunBar dt req id uid e) s =
      .next (r.state.answer c r.code r.data) := by
  have hserve := h.answers rfl (f := fun _ s => s.startRun id uid e onEngine) hr
  cases onEngine <;> exact congrArg Host.Outcome.next hserve

theorem Served.probeRun_starts {onEngine : Bool} {k : Kernel} (hk : s1.kernel id = some k) (hr : s1.bar.run = none)
    (hu : onEngine = true → uidIsCore uid = true ∧ uidPresent uid = true ∧ e < 4) :
    ∃ x : State, exec (if onEngine then .probeRunEngine dt req id uid e else .probeRunBar dt req id uid e) s =
        .next (x.answer c Abort.ok []) ∧
      x.bar.run = some (.started id (s1.bar.runSeq + 1) uid e k.ops onEngine) := by
  obtain ⟨x, hstart, hrun⟩ := State.startRun_starts hk hr hu
  exact ⟨x, h.probeRun hstart, hrun⟩
end

/-- Settles O36. -/
theorem eventsAndProbes : Obligations.EventsAndProbes := by
  refine ⟨fun dt seq req s s1 c h => ⟨fun he => ?_, fun he => ?_⟩,
    fun dt k req s s1 c h => ⟨fun hk => ?_, fun hk => ?_⟩,
    fun dt b req s s1 c h => ⟨fun hb => ?_, fun hb hk => ?_, fun hb hk hn hsum => ?_⟩,
    fun dt id uid e req s s1 c h => ⟨fun hk => ?_, fun k hk hr => ⟨?_, fun hc hp he => ?_⟩⟩,
    fun dt h res up s r k hr hk h4 => ⟨State.execProbeOpDone_goes hr hk h4,
      State.execProbeOpDone_differs hr hk h4⟩⟩
  · exact ⟨_, congrArg Host.Outcome.next (h.accepts rfl (f := fun _ s => s.cmdTbEventAck seq)
      (State.cmdTbEventAck_held he)), rfl⟩
  · exact congrArg Host.Outcome.next (h.refuses rfl (f := fun _ s => s.cmdTbEventAck seq)
      (State.cmdTbEventAck_unknown he))
  · exact ⟨s1.setQuarantine k false, congrArg Host.Outcome.next (h.accepts rfl
      (f := fun _ s => s.cmdTbQuarantineClear k) (if_neg (Nat.not_le.mpr hk))),
      congrArg Bar.quarantine (s1.setQuarantine_bar k false)⟩
  · exact congrArg Host.Outcome.next (h.refuses rfl (f := fun _ s => s.cmdTbQuarantineClear k) (if_pos hk))
  · exact congrArg Host.Outcome.next (h.refuses rfl (f := fun _ s => s.loadKernel b) (State.loadKernel_large hb))
  · exact congrArg Host.Outcome.next (h.refuses rfl (f := fun _ s => s.loadKernel b) (State.loadKernel_bad hb hk))
  · obtain ⟨x, hload, hkernel⟩ := State.loadKernel_holds hb hk hn hsum
    exact ⟨x, congrArg Host.Outcome.next (h.accepts rfl (f := fun _ s => s.loadKernel b) hload), hkernel⟩
  · exact ⟨h.probeRun (onEngine := false) (State.startRun_unknown hk),
      h.probeRun (onEngine := true) (State.startRun_unknown hk)⟩
  · obtain ⟨x, hx, hrun⟩ := h.probeRun_starts (onEngine := false) (uid := uid) (e := e) hk hr
      fun hno => absurd hno Bool.false_ne_true
    exact ⟨x, _, hx, hrun, rfl, rfl, rfl, rfl⟩
  · obtain ⟨x, hx, hrun⟩ := h.probeRun_starts (onEngine := true) hk hr fun _ => ⟨hc, hp, he⟩
    exact ⟨x, _, hx, hrun, rfl, rfl, rfl, rfl, rfl⟩

end Sys2Proof.Machine
end

section
/-!
PROOFS. A trace line at its sink, the switch and a stall (R504, R526, R529, R538, O37).
-/
namespace Sys2Proof.Machine

/-- A line that reaches a frozen sink is held (R538). -/
theorem State.execTraceLineReceive_frozen {s : State} {dt die : Nat} {l : List Byte} (hd : die < 16)
    (hl : l.length = 64) (hw : s.sinkWorks die = true) (hf : (s.sink die).frozen = true) :
    exec (.traceLineReceive dt die l) s =
      .next ((s.begin dt).modSink die fun k => { k with heldLines := k.heldLines ++ [l] }) :=
  congrArg Host.Outcome.next
    ((if_pos (Bool.and_of (Bool.and_of (decide_eq_true hd) (decide_eq_true hl)) hw)).trans (if_pos hf))

/-- An open sink with room stores a line at its write offset (R526). -/
theorem State.takeLine_dram {s : State} {die : Nat} {l : List Byte} (hv : bitOf (fieldLe l 6 1) 2 = false)
    (hfull : (s.sink die).full = false) (hroom : (s.sink die).writeOffset + 64 < s.trace.size) :
    (s.takeLine die l).dram =
      Mem.writeBytes s.dram (stackAddr die (s.trace.base + (s.sink die).writeOffset)) l := by
  have hcount : s.countOvf die l = s := if_neg (Bool.eq_false_iff.mp hv)
  unfold takeLine
  rw [hcount]
  exact congrArg State.dram ((if_neg (Bool.eq_false_iff.mp hfull)).trans (if_pos hroom))

theorem State.execTraceLineReceive_stores {s : State} {dt die : Nat} {l : List Byte} (hd : die < 16)
    (hl : l.length = 64) (hw : s.sinkWorks die = true) (hf : (s.sink die).frozen = false)
    (hfull : (s.sink die).full = false) (hlast : bitOf (fieldLe l 6 1) 1 = false)
    (hv : bitOf (fieldLe l 6 1) 2 = false) (hroom : (s.sink die).writeOffset + 64 < s.trace.size) :
    ∃ t, exec (.traceLineReceive dt die l) s = .next t ∧
      t.dram = Mem.writeBytes s.dram (stackAddr die (s.trace.base + (s.sink die).writeOffset)) l := by
  refine ⟨(s.begin dt).takeLine die l, ?_, State.takeLine_dram (s := s.begin dt) hv hfull hroom⟩
  have hnot : ¬((bitOf (fieldLe l 6 1) 1 &&
      !((s.begin dt).takeLine die l).trace.enable.getLsbD (fieldLe l 0 2 % 16384)) = true) := by
    rw [hlast]
    exact Bool.false_ne_true
  exact congrArg Host.Outcome.next
    ((if_pos (Bool.and_of (Bool.and_of (decide_eq_true hd) (decide_eq_true hl)) hw)).trans
      ((if_neg (Bool.eq_false_iff.mp hf)).trans (if_neg hnot)))

theorem uidSlot_lt {uid : Nat} (hc : uidIsCore uid = true) (hp : uidPresent uid = true) : uidSlot uid < 136 := by
  have hlow : uid < 0x8000 := of_decide_eq_true hc
  unfold uidPresent at hp
  rw [if_pos hlow] at hp
  exact Nat.lt_succ_of_le (of_decide_eq_true hp)

/-- A core that drops packets is not as D8 leaves it. -/
theorem State.tap_dropping (s : State) (c : Nat) {slot : Nat} (h : slot < 136) :
    ((s.modTap c fun t => { t with dropping := setBit t.dropping slot true }).tap c).dropping.getLsbD slot = true := by
  have hbit (v : BitVec 136) : (setBit v slot true).getLsbD slot = true :=
    (getLsbD_setBit_true v slot slot).trans
      (Bool.or_eq_true_iff.mpr (.inr (Bool.and_of (decide_eq_true h) (decide_eq_true rfl))))
  have hne : ({ s.tap c with dropping := setBit (s.tap c).dropping slot true } : Tap) ≠ Tap.fresh := by
    intro hfresh
    have hzero : (setBit (s.tap c).dropping slot true).getLsbD slot = false := by
      rw [show setBit (s.tap c).dropping slot true = 0 from congrArg Tap.dropping hfresh]
      exact BitVec.getLsbD_zero
    exact Bool.false_ne_true (hzero.symm.trans (hbit _))
  exact (congrArg (fun t : Tap => t.dropping.getLsbD slot) (Tab.at_set_of_ne s.units.taps c Tap.fresh _ hne)).trans
    (hbit _)

/-- Settles O37. -/
theorem traceLines : Obligations.TraceLines := by
  refine ⟨fun dt die l s hd hl hw => ⟨fun hf => State.execTraceLineReceive_frozen hd hl hw hf,
      fun hf hfull hlast hv hroom => ?_⟩,
    fun dt s hready => congrArg Host.Outcome.next (if_pos hready), fun dt core s hc hp h0 h2 hdrop => ?_⟩
  · obtain ⟨t, ht, hdram⟩ := State.execTraceLineReceive_stores (dt := dt) hd hl hw hf hfull hlast hv hroom
    refine ⟨t, ht, hdram, fun a ha => ?_⟩
    rw [hdram]
    exact Mem.read_writeBytes_out s.dram _ l (by rwa [hl])
  · refine ⟨_, congrArg Host.Outcome.next (if_pos (Bool.and_of (Bool.and_of (Bool.and_of (Bool.and_of hc hp) h0) h2)
      (congrArg not hdrop))), rfl, ?_⟩
    exact (s.begin dt).tap_dropping (uidCluster core) (uidSlot_lt hc hp)

end Sys2Proof.Machine
end

section
/-!
PROOFS. The sweep of the board regulators and its alerts (R86, R548–R550, O38).
-/
namespace Sys2Proof.Machine

/-! ## The place of the sweep -/

theorem State.findPlace_congr {s x : State} (h : x.power.rails = s.power.rails) (n p : Nat) :
    x.findPlace n p = s.findPlace n p := by
  induction n generalizing p with
  | zero => rfl
  | succ n ih =>
    have hc : x.sweepCommands p = s.sweepCommands p := by
      unfold sweepCommands rail
      rw [h]
    unfold findPlace
    rw [hc, ih]

/-- The index of the command in progress at the place of the sweep. -/
def State.sweepAt (s : State) : Nat :=
  if s.findPlace 48 s.power.sweepRail = s.power.sweepRail then s.power.sweepCommand else 0

theorem State.pmbNext_congr {s x : State} (hr : x.power.rails = s.power.rails)
    (hp : x.power.sweepRail = s.power.sweepRail) (hc : x.power.sweepCommand = s.power.sweepCommand) :
    x.pmbNext = s.pmbNext := by
  have hcommands (p : Nat) : x.sweepCommands p = s.sweepCommands p := by
    unfold sweepCommands rail
    rw [hr]
  unfold pmbNext
  simp only [hp, hc, findPlace_congr hr, hcommands]

/-- A transaction that was cut off is issued again (R86, R740). -/
theorem State.pmbAgain_issues {s : State} {k c : Nat} (h : s.power.pmbReissue = true)
    (hn : s.pmbNext = some (k, c)) (hj : s.pins.jtagOwns = false) :
    s.pmbAgain.power.pmbReissue = false ∧
    s.pmbAgain.emitted = s.emitted ++ [⟨.pmbus, (s.rail k).address, be 1 (s.rail k).page ++ be 1 c⟩] := by
  let x : State := { s with power := { s.power with pmbReissue := false } }
  have hx : x.pmbNext = some (k, c) := (pmbNext_congr (x := x) rfl rfl rfl).trans hn
  have hagain : s.pmbAgain = x.pmbIssue := if_pos (Bool.and_of h (congrArg not hj))
  rw [hagain]
  unfold pmbIssue
  rw [hx]
  exact ⟨rfl, rfl⟩

/-! ## A transaction that ends (R548, R549) -/

/-- The place at which the sweep stands, and its command. -/
def State.sweepStands (s : State) : State :=
  { s with power := { s.power with sweepRail := s.findPlace 48 s.power.sweepRail, sweepCommand := s.sweepAt } }

/-- The fresh reading of a rail's power, which READ_PIN gives. -/
def State.readFresh (s : State) (command : Nat) : State :=
  if command = 0x97 then { s with power := { s.power with freshReading := true } } else s

theorem State.readFresh_rails (s : State) (command : Nat) :
    (s.readFresh command).power.rails = s.power.rails ∧
    (s.readFresh command).power.sweepRail = s.power.sweepRail := by
  unfold readFresh
  split <;> exact ⟨rfl, rfl⟩

section
variable {s : State} {dt : Nat} {w : PmbusWord} (hn : (s.begin dt).pmbNext = some (w.rail, w.command))
  (hr : s.power.pmbReissue = false) (hj : s.pins.jtagOwns = false)
include hn hr hj

theorem State.pmbus_ends : ((s.begin dt).pmbNext = some (w.rail, w.command) &&
    !(s.begin dt).power.pmbReissue && !(s.begin dt).pins.jtagOwns) = true :=
  Bool.and_of (Bool.and_of (decide_eq_true hn) (congrArg not hr)) (congrArg not hj)

/-- A word that is not the last of its place. -/
theorem State.execPmbusTransactionDone_reads (hok : w.ok = true)
    (hl : s.sweepAt + 1 ≠ (s.sweepCommands (s.findPlace 48 s.power.sweepRail)).length) :
    ∃ x : State, exec (.pmbusTransactionDone dt w) s = .next x.pmbIssue ∧
      x.power.rails = Tab.mod s.power.rails w.rail Rail.fresh (fun r => r.take w.command w.word) ∧
      x.power.sweepRail = s.findPlace 48 s.power.sweepRail ∧ x.power.sweepCommand = s.sweepAt + 1 := by
  let y := (s.begin dt).sweepStands.modRail w.rail fun r => r.take w.command w.word
  let z := y.readFresh w.command
  have hplace : (s.begin dt).findPlace 48 s.power.sweepRail = s.findPlace 48 s.power.sweepRail :=
    findPlace_congr rfl _ _
  have hat : (s.begin dt).sweepAt = s.sweepAt := by
    unfold sweepAt
    rw [show (s.begin dt).power = s.power from rfl, hplace]
  have hcommands : (s.begin dt).sweepStands.sweepCommands ((s.begin dt).findPlace 48 s.power.sweepRail) =
      s.sweepCommands (s.findPlace 48 s.power.sweepRail) := by
    rw [hplace]
    rfl
  obtain ⟨hrails, hsweep⟩ := y.readFresh_rails w.command
  refine ⟨{ z with power := { z.power with sweepCommand := (s.begin dt).sweepAt + 1 } }, ?_, hrails,
    hsweep.trans hplace, congrArg (· + 1) hat⟩
  refine congrArg Host.Outcome.next ((if_pos (State.pmbus_ends hn hr hj)).trans (congrArg State.pmbIssue ?_))
  refine (if_pos hok).trans (if_neg ?_)
  show ¬((s.begin dt).sweepAt + 1 = ((s.begin dt).sweepStands.sweepCommands
    ((s.begin dt).findPlace 48 s.power.sweepRail)).length)
  rw [hat, hcommands]
  exact hl

/-- A transaction that fails for the first time is repeated. -/
theorem State.execPmbusTransactionDone_repeats (hok : w.ok = false) (ht : (s.rail w.rail).retried = false) :
    ∃ x : State, exec (.pmbusTransactionDone dt w) s = .next x.pmbIssue ∧
      x.power.rails = Tab.mod s.power.rails w.rail Rail.fresh (fun r => { r with retried := true }) := by
  refine ⟨(s.begin dt).sweepStands.modRail w.rail fun r => { r with retried := true }, ?_, rfl⟩
  refine congrArg Host.Outcome.next ((if_pos (State.pmbus_ends hn hr hj)).trans (congrArg State.pmbIssue ?_))
  exact (if_neg (Bool.eq_false_iff.mp hok)).trans (if_pos (congrArg not ht))

/-- The second failure is a NAK. -/
theorem State.execPmbusTransactionDone_naks (hok : w.ok = false) (ht : (s.rail w.rail).retried = true) :
    ∃ x : State, exec (.pmbusTransactionDone dt w) s =
        .next (((x.logged Code.pmbusNak (be 1 (x.rail w.rail).address)).leavePlace
          (s.findPlace 48 s.power.sweepRail)).pmbIssue) ∧
      x.power.rails = Tab.mod s.power.rails w.rail Rail.fresh
        (fun r => { r with retried := false, nak := true, status := 2 }) := by
  refine ⟨(s.begin dt).sweepStands.modRail w.rail fun r => { r with retried := false, nak := true, status := 2 }, ?_,
    rfl⟩
  have hplace : (s.begin dt).findPlace 48 s.power.sweepRail = s.findPlace 48 s.power.sweepRail :=
    State.findPlace_congr rfl _ _
  rw [← hplace]
  refine congrArg Host.Outcome.next ((if_pos (State.pmbus_ends hn hr hj)).trans (congrArg State.pmbIssue ?_))
  refine (if_neg (Bool.eq_false_iff.mp hok)).trans (if_neg ?_)
  exact fun hno => Bool.false_ne_true ((congrArg not ht).symm.trans hno)
end

/-! ## Alerts (R550) -/

/-- The rails of a device that has raised an alert. -/
def State.railsAlerted (s : State) (addr status : Nat) : State :=
  (List.range 16).foldl (fun s k =>
    if (s.rail k).role ≠ 0 ∧ (s.rail k).address = addr then
      s.modRail k fun r => { r with
        statusWord := status, status := if status ≠ 0 ∧ (r.status = 0 ∨ r.status = 1) then 3 else r.status }
    else s) s

theorem execPmbAlert_eq (dt addr status : Nat) (s : State) : execPmbAlert dt addr status s =
    .next ((((s.begin dt).railsAlerted addr status).setRailFault true).told Code.railFault
      (be 1 addr ++ be 2 status)) := by
  unfold execPmbAlert State.railsAlerted
  rfl

/-- Settles O38. -/
theorem regulatorSweep : Obligations.RegulatorSweep := by
  refine ⟨fun dt w s h => ⟨congrArg Host.Outcome.next (if_neg fun hcond => ?_),
      fun k c hn hj => State.pmbAgain_issues h hn hj⟩,
    fun dt w s hn hr hj => ⟨fun hok hl => State.execPmbusTransactionDone_reads hn hr hj hok hl,
      fun hok ht => State.execPmbusTransactionDone_repeats hn hr hj hok ht,
      fun hok ht => State.execPmbusTransactionDone_naks hn hr hj hok ht⟩,
    fun dt addr st s =>
      ⟨((s.begin dt).railsAlerted addr st).setRailFault true, execPmbAlert_eq dt addr st s, rfl, ?_⟩⟩
  · have hcut : (!s.power.pmbReissue) = true :=
      (Bool.and_eq_true_iff.mp (Bool.and_eq_true_iff.mp hcond).1).2
    rw [h] at hcut
    exact Bool.false_ne_true hcut
  · exact (getLsbD_setBit_true _ 4 4).trans (Bool.or_eq_true_iff.mpr (.inr rfl))

end Sys2Proof.Machine
end

section
/-!
PROOFS. POR and RESET_N: what each keeps, counts and restarts (R574–R578, R582, R605, R606, R740, O39).
-/
namespace Sys2Proof.Machine

/-! ## The stacks across a reset (R538) -/

/-- What stands at addresses that a reset does not open. -/
theorem Mem.read_reopen (m : Mem) {p : Nat → Bool} (f : Nat → Byte) {a : Nat} (h : p a = false) :
    Mem.read (Mem.reopen m p f) a = Mem.read m a := by
  suffices hfind : Tab.find (Mem.reopen m p f) a = Tab.find m a from
    congrArg (fun o : Option Byte => o.getD 0) hfind
  unfold Mem.reopen
  induction m with
  | nil => rfl
  | cons c m ih =>
    obtain ⟨k, b⟩ := c
    rw [List.filterMap_cons]
    by_cases hk : k = a
    · subst hk
      rw [if_neg (Bool.eq_false_iff.mp h)]
      exact (if_pos rfl).trans (if_pos rfl).symm
    · have hcons (b : Byte) (t : Mem) : Tab.find ((k, b) :: t) a = Tab.find t a := if_neg hk
      rw [hcons, ← ih]
      cases p k with
      | false => exact hcons b _
      | true =>
        by_cases hz : f k = 0
        · rw [if_pos rfl, if_pos hz]
        · rw [if_pos rfl, if_neg hz]
          exact hcons _ _

theorem State.read_openBuffers (s : State) (v : Nat) {a : Nat} (h : s.inBuffers a = false) :
    Mem.read (s.openBuffers v) a = Mem.read s.dram a := Mem.read_reopen s.dram _ h

/-! ## POR (R574, R577, R582) -/

theorem State.execPorAssert_keeps {s : State} {dt : Nat} (h : s.rst.porAsserted = false) :
    ∃ t, exec (.porAssert dt) s = .next t ∧
    t.rst.porAsserted = true ∧ t.backup = s.backup ∧ t.fuses = s.fuses ∧
    (∀ a, s.inBuffers a = false → Mem.read t.dram a = Mem.read s.dram a) ∧
    t.flash = s.flash.cut ∧ t.pending = s.pending ∧ t.topo.rows = s.topo.rows ∧ t.lc.storeA = s.lc.storeA ∧
    t.pins.quenchHigh = s.pins.quenchHigh ∧ t.port = Port.fresh ∧ t.hub = Hub.fresh ∧ t.sched = [] ∧
    t.units = Units.fresh :=
  ⟨(s.begin dt).porState, congrArg Host.Outcome.next (if_pos (congrArg not h)), rfl, rfl, rfl,
    fun _ ha => (s.begin dt).read_openBuffers _ ha, rfl, rfl, rfl, rfl, rfl, rfl, rfl, rfl, rfl⟩

theorem getD_setAt (l : List Nat) (n v : Nat) : (setAt l n v).getD n v = v := by
  unfold setAt
  by_cases h : n < l.length
  · rw [List.getD_eq_getElem _ _ (by rwa [List.length_set]), List.getElem_set_self]
  · exact List.getD_eq_default _ _ (by rw [List.length_set]; omega)

/-- The backup record as the release of POR leaves it (R577, R578). -/
def State.porBackup (s : State) : Backup :=
  let r := s.rst
  let lost := s.backupLost
  let t := s.checkBackup
  let cause := 1 + 2 * bit (r.resetNLow || r.overlapPin || r.counted) + 4 * bit lost
  (if r.counted && !lost then { t with backup := { t.backup with cause := cause } } else t.countReset cause).backup

theorem State.execPorRelease_starts {s : State} {dt : Nat} (h : s.rst.porAsserted = true) :
    ∃ t, exec (.porRelease dt) s = .next t ∧
      t.rst.porAsserted = false ∧ t.rst.phase = 0 ∧ t.rst.released = 0 ∧
      t.rst.times.getD 10 (s.elapsed + dt) = s.elapsed + dt ∧ t.backup = (s.begin dt).porBackup :=
  ⟨_, congrArg Host.Outcome.next (if_pos h), rfl, rfl, rfl, getD_setAt _ _ _, rfl⟩

theorem State.checkBackup_kept {s : State} (h : s.backupLost = false) : s.checkBackup.backup = s.backup := by
  unfold checkBackup
  rw [h]
  rfl

theorem State.checkBackup_lost {s : State} (h : s.backupLost = true) :
    s.checkBackup.backup = { Backup.afresh with valid := true, msBase := s.elapsed } := by
  unfold checkBackup
  rw [h]
  rfl

theorem State.backup_valid {s : State} (h : s.backupLost = false) : s.backup.valid = true := by
  unfold backupLost at h
  rw [Bool.not_eq_false', Bool.and_eq_true] at h
  exact h.1

/-- A record that is kept counts the reset once (R577). -/
theorem State.porBackup_counts {s : State} (h : s.backupLost = false) (hc : s.rst.counted = false) :
    s.porBackup.valid = true ∧ s.porBackup.resetCount = inc32 s.backup.resetCount ∧
    s.porBackup.nodeId = s.backup.nodeId ∧ s.porBackup.cause = 1 + 2 * bit (s.rst.resetNLow || s.rst.overlapPin) := by
  have hkept := checkBackup_kept h
  unfold porBackup
  dsimp only
  rw [h, hc, Bool.or_false, Bool.false_and, if_neg Bool.false_ne_true]
  have hnode : s.checkBackup.backup.nodeId = s.backup.nodeId := congrArg Backup.nodeId hkept
  exact ⟨(congrArg Backup.valid hkept).trans (backup_valid h), congrArg (fun b : Backup => inc32 b.resetCount) hkept,
    hnode, rfl⟩

theorem State.porBackup_counted {s : State} (h : s.backupLost = false) (hc : s.rst.counted = true) :
    s.porBackup.valid = true ∧ s.porBackup.resetCount = s.backup.resetCount ∧ s.porBackup.cause = 3 := by
  have hkept := checkBackup_kept h
  unfold porBackup
  dsimp only
  rw [h, hc, Bool.or_true, Bool.not_false, Bool.and_self, if_pos rfl]
  have hcount : s.checkBackup.backup.resetCount = s.backup.resetCount := congrArg Backup.resetCount hkept
  exact ⟨(congrArg Backup.valid hkept).trans (backup_valid h), hcount, rfl⟩

theorem State.porBackup_afresh {s : State} (h : s.backupLost = true) :
    s.porBackup.valid = true ∧ s.porBackup.resetCount = 1 ∧ s.porBackup.nodeId = 0 ∧ s.porBackup.fill = 1 ∧
    s.porBackup.lastWords = List.replicate 64 0 := by
  have hlost := checkBackup_lost h
  unfold porBackup
  dsimp only
  rw [h, Bool.not_true, Bool.and_false, if_neg Bool.false_ne_true]
  exact ⟨congrArg Backup.valid hlost, congrArg (fun b : Backup => inc32 b.resetCount) hlost,
    congrArg Backup.nodeId hlost, congrArg (fun b : Backup => Nat.min 16 (b.fill + 1)) hlost,
    congrArg Backup.lastWords hlost⟩

theorem State.porBackup_valid (s : State) : s.porBackup.valid = true := by
  cases h : s.backupLost with
  | true => exact (porBackup_afresh h).1
  | false =>
    cases hc : s.rst.counted with
    | true => exact (porBackup_counted h hc).1
    | false => exact (porBackup_counts h hc).1

/-! ## RESET_N (R574, R576, R605) -/

theorem State.logged_backup (s : State) (code : Nat) (detail : List Byte) :
    (s.logged code detail).backup = s.backup := by
  have hnumber (x : State) (r : LogRec) (n : Bool) : (x.numberRecord r n).backup = x.backup :=
    numberRecord_frame x r n (.refl _ _) (List.Subset.refl _) .backup (by decide)
  unfold logged note
  dsimp only
  rw [if_neg Bool.false_ne_true]
  split
  · exact hnumber _ _ _
  · rfl

theorem State.logged_tb (s : State) (code : Nat) (detail : List Byte) : (s.logged code detail).tb = s.tb :=
  s.changes_logged code detail .tb (by decide)

theorem State.endToken_backup (s : State) (x : Session) : (s.endToken x).backup = s.backup := by
  unfold endToken
  split
  · rfl
  · exact s.logged_backup _ _

theorem State.endToken_tb (s : State) (x : Session) : (s.endToken x).tb = s.tb := by
  unfold endToken
  split
  · rfl
  · exact s.logged_tb _ _

theorem State.closeSession_keeps (s : State) (id : Nat) :
    (s.closeSession id).backup = s.backup ∧ (s.closeSession id).tb.active = s.tb.active := by
  unfold closeSession
  split
  · exact ⟨rfl, rfl⟩
  · dsimp only
    rw [endToken_backup, endToken_tb]
    exact ⟨rfl, rfl⟩

theorem State.closeAll_keeps (s : State) :
    s.closeAll.backup = s.backup ∧ s.closeAll.tb.active = s.tb.active := by
  unfold closeAll
  generalize s.port.sessions.map Session.id = ids
  induction ids generalizing s with
  | nil => exact ⟨rfl, rfl⟩
  | cons id ids ih =>
    obtain ⟨hbackup, hactive⟩ := s.closeSession_keeps id
    exact ⟨(ih _).1.trans hbackup, (ih _).2.trans hactive⟩

/-- What the reset of D2–D9 leaves of the state. -/
theorem State.warmState_leaves (s : State) :
    s.warmState.tb.active = s.tb.active ∧ s.warmState.fuses = s.fuses ∧ s.warmState.backup = s.backup ∧
    s.warmState.bar.quarantine = s.bar.quarantine ∧ s.warmState.port.sessions = [] ∧
    s.warmState.units.ports = [] ∧ s.warmState.fm.fenceState = s.fm.fenceState ∧
    s.warmState.hub.riserOwns = s.hub.riserOwns := by
  obtain ⟨hbackup, hactive⟩ := s.closeAll_keeps
  have h (p : Part) (hp : p ∉ [.emitted, .tb, .frame, .backup, .flash, .logSeq, .log, .port]) :
      s.sameAt s.closeAll p := closeAll_frame s (.refl _ s) (List.Subset.refl _) p hp
  have hbar : s.closeAll.bar = s.bar := h .bar (by decide)
  have hfm : s.closeAll.fm = s.fm := h .fm (by decide)
  have hhub : s.closeAll.hub = s.hub := h .hub (by decide)
  have hquarantine : s.closeAll.bar.quarantine = s.bar.quarantine := congrArg Bar.quarantine hbar
  have hfence : s.closeAll.fm.fenceState = s.fm.fenceState := congrArg Fault9.fenceState hfm
  have howns : s.closeAll.hub.riserOwns = s.hub.riserOwns := congrArg Hub.riserOwns hhub
  exact ⟨hactive, h .fuses (by decide), hbackup, hquarantine, rfl, rfl, hfence, howns⟩

/-- The reset of D2–D9 that RESET_N makes when the sequence has come to D2 or beyond. -/
def State.warmDown (s : State) : State :=
  let r := s.rst
  let cut := r.phase = 4 && !r.optionsDone && r.loading
  let hub := s.hub
  let held := if r.holdReason = 1 then 0 else r.holdReason
  let w : State := { s.warmState with
    dram := s.openBuffers s.freeNow, freeCount := s.freeCount + 1 }
  if cut then { w with hub := hub, rst := { r with loading := false, holdReason := held } }
  else
    { w with rst := { r.backTo 2 with
        fromPor := r.fromPor && r.phase ≤ 4 && !r.optionsDone
        holdReason := held, lostAt := 0 } }

theorem State.warmDown_low (s : State) :
    s.warmDown.rst.resetNLow = s.rst.resetNLow ∧ s.warmDown.backup = s.backup := by
  have hbackup : s.warmState.backup = s.backup := s.warmState_leaves.2.2.1
  unfold warmDown
  dsimp only
  split
  · exact ⟨rfl, hbackup⟩
  · exact ⟨rfl, hbackup⟩

/-- The reset while D3 does not load its options (R605). -/
theorem State.warmDown_whole {s : State} (h : s.rst.phase ≠ 4) :
    s.warmDown.rst.phase = 2 ∧ s.warmDown.tb.active = s.tb.active ∧ s.warmDown.fuses = s.fuses ∧
    (∀ a, s.inBuffers a = false → Mem.read s.warmDown.dram a = Mem.read s.dram a) ∧
    s.warmDown.bar.quarantine = s.bar.quarantine ∧ s.warmDown.port.sessions = [] ∧ s.warmDown.units.ports = [] ∧
    s.warmDown.fm.fenceState = s.fm.fenceState ∧ s.warmDown.hub.riserOwns = s.hub.riserOwns := by
  obtain ⟨hactive, hfuses, -, hbar, hport, hunits, hfm, hhub⟩ := s.warmState_leaves
  have hcut : ¬(decide (s.rst.phase = 4) && !s.rst.optionsDone && s.rst.loading) = true := by
    rw [decide_eq_false h]
    exact Bool.false_ne_true
  unfold warmDown
  dsimp only
  rw [if_neg hcut]
  exact ⟨rfl, hactive, hfuses, fun _ ha => s.read_openBuffers _ ha, hbar, hport, hunits, hfm, hhub⟩

/-- The state of an accepted RESET_N, counted (R577). -/
def State.resetCounted (s : State) : State := (s.modRst fun r => { r with resetNLow := true }).countReset 2

theorem State.execWarmReset_accepts {s : State} {dt : Nat} (hlow : s.rst.resetNLow = false)
    (hjtag : s.pins.jtagOwns = false) (hpor : s.rst.porAsserted = false) :
    exec (.warmReset dt) s = .next (if s.rst.phase < 2 then (s.begin dt).resetCounted
      else (s.begin dt).resetCounted.warmDown) := by
  have hcond : (!(s.begin dt).rst.resetNLow && !(s.begin dt).pins.jtagOwns) = true :=
    Bool.and_of (congrArg not hlow) (congrArg not hjtag)
  exact congrArg Host.Outcome.next ((if_pos hcond).trans (if_neg (Bool.eq_false_iff.mp hpor)))

theorem State.execWarmReset_counts {s : State} {dt : Nat} (hlow : s.rst.resetNLow = false)
    (hjtag : s.pins.jtagOwns = false) (hpor : s.rst.porAsserted = false) :
    ∃ t, exec (.warmReset dt) s = .next t ∧ t.rst.resetNLow = true ∧
      t.backup.cause = 2 ∧ t.backup.resetCount = inc32 s.backup.resetCount ∧
      (s.rst.phase < 2 → t.rst.phase = s.rst.phase) ∧
      (2 ≤ s.rst.phase → s.rst.phase ≠ 4 → t.rst.phase = 2 ∧ t.tb.active = s.tb.active ∧ t.fuses = s.fuses ∧
        (∀ a, s.inBuffers a = false → Mem.read t.dram a = Mem.read s.dram a) ∧ t.backup.nodeId = s.backup.nodeId ∧
        t.bar.quarantine = s.bar.quarantine ∧
        t.port.sessions = [] ∧ t.units.ports = [] ∧ t.fm.fenceState = s.fm.fenceState ∧
        t.hub.riserOwns = s.hub.riserOwns) := by
  have hexec := execWarmReset_accepts (dt := dt) hlow hjtag hpor
  by_cases hphase : s.rst.phase < 2
  · exact ⟨_, hexec.trans (congrArg _ (if_pos hphase)), rfl, rfl, rfl, fun _ => rfl,
      fun h _ => absurd hphase (by omega)⟩
  · obtain ⟨hr, hb⟩ := (s.begin dt).resetCounted.warmDown_low
    refine ⟨_, hexec.trans (congrArg _ (if_neg hphase)), hr, congrArg Backup.cause hb, congrArg Backup.resetCount hb,
      fun h => absurd h hphase, fun _ h4 => ?_⟩
    obtain ⟨hp, hactive, hfuses, hdram, hbar, hport, hunits, hfm, hhub⟩ :=
      warmDown_whole (s := (s.begin dt).resetCounted) h4
    have hnode : (s.begin dt).resetCounted.warmDown.backup.nodeId = (s.begin dt).resetCounted.backup.nodeId :=
      congrArg Backup.nodeId hb
    exact ⟨hp, hactive, hfuses, hdram, hnode, hbar, hport, hunits, hfm, hhub⟩

theorem State.execResetNShort_counts {s : State} {dt : Nat} (hlow : s.rst.resetNLow = false)
    (hjtag : s.pins.jtagOwns = false) (hpor : s.rst.porAsserted = false) :
    exec (.resetNShort dt) s = .next { s.begin dt with
      rst := { s.rst with resetIgnored := inc32 s.rst.resetIgnored } } := by
  have hcond : (!(s.begin dt).rst.resetNLow && !(s.begin dt).rst.porAsserted && !(s.begin dt).pins.jtagOwns) = true :=
    Bool.and_of (Bool.and_of (congrArg not hlow) (congrArg not hpor)) (congrArg not hjtag)
  exact congrArg Host.Outcome.next (if_pos hcond)

/-- RESET_N does nothing while a test instruction owns the pins (R740). -/
theorem State.exec_jtagOwns {s : State} {dt : Nat} (h : s.pins.jtagOwns = true) :
    exec (.warmReset dt) s = .next (s.begin dt) ∧ exec (.resetNShort dt) s = .next (s.begin dt) := by
  have hfalse (b : Bool) : ¬(b && !(s.begin dt).pins.jtagOwns) = true := by
    rw [show (s.begin dt).pins.jtagOwns = true from h, Bool.not_true, Bool.and_false]
    exact Bool.false_ne_true
  exact ⟨congrArg Host.Outcome.next (if_neg (hfalse _)), congrArg Host.Outcome.next (if_neg (hfalse _))⟩

/-! ## The end of RESET_N (R605, R606, R610) -/

/-- D3 goes on to load its options when RESET_N had held it (R605). -/
def State.loadAgain (s : State) : State :=
  let r := s.rst
  if !r.porAsserted && r.phase = 4 && !r.optionsDone && !r.loading then
    s.modRst fun r => { r with loading := true, times := setAt r.times 3 s.elapsed }
  else s

theorem State.loadAgain_loading (s : State) : s.loadAgain.rst.loading =
    (s.rst.loading || (!s.rst.porAsserted && s.rst.phase = 4 && !s.rst.optionsDone)) := by
  unfold loadAgain
  dsimp only
  cases hl : s.rst.loading with
  | true =>
    rw [Bool.not_true, Bool.and_false, if_neg Bool.false_ne_true]
    exact hl
  | false =>
    rw [Bool.not_false, Bool.and_true, Bool.false_or]
    split
    · next h => exact h.symm
    · next h => exact hl.trans (Bool.eq_false_iff.mpr h).symm

theorem State.loadAgain_low (s : State) : s.loadAgain.rst.resetNLow = s.rst.resetNLow := by
  unfold loadAgain
  dsimp only
  split
  · rfl
  · rfl

theorem State.loadAgain_keeps (s : State) : s.loadAgain.flash = s.flash ∧ s.loadAgain.emitted = s.emitted := by
  unfold loadAgain
  dsimp only
  split
  · exact ⟨rfl, rfl⟩
  · exact ⟨rfl, rfl⟩

/-- RESET_N is high again, and the flash is reset unless POR holds (R606). -/
def State.resetHigh (s : State) : State :=
  let s := s.modRst fun r => { r with resetNLow := false }
  if s.rst.porAsserted then s else s.flashReset.emit .pmbusStop 0 []

theorem State.resetHigh_held {s : State} (h : s.rst.porAsserted = true) :
    s.resetHigh = s.modRst fun r => { r with resetNLow := false } := if_pos h

theorem State.resetHigh_ends {s : State} (h : s.rst.porAsserted = false) :
    s.resetHigh = (s.modRst fun r => { r with resetNLow := false }).flashReset.emit .pmbusStop 0 [] :=
  if_neg (Bool.eq_false_iff.mp h)

theorem State.resetHigh_rst (s : State) : s.resetHigh.rst = { s.rst with resetNLow := false } := by
  cases h : s.rst.porAsserted with
  | true => rw [resetHigh_held h]; rfl
  | false => rw [resetHigh_ends h]; rfl

theorem State.execWarmResetRelease_eq {s : State} {dt : Nat} (h : s.rst.resetNLow = true) :
    exec (.warmResetRelease dt) s = .next (s.begin dt).resetHigh.loadAgain := congrArg Host.Outcome.next (if_pos h)

theorem State.execWarmResetRelease_ends {s : State} {dt : Nat} (h : s.rst.resetNLow = true) :
    ∃ t, exec (.warmResetRelease dt) s = .next t ∧ t.rst.resetNLow = false ∧
      t.rst.loading = (s.rst.loading || (!s.rst.porAsserted && s.rst.phase = 4 && !s.rst.optionsDone)) ∧
      (s.rst.porAsserted = true → t.flash = s.flash ∧ t.emitted = []) ∧
      (s.rst.porAsserted = false →
        t.flash = { s.flash with
          selectHigh := s.elapsed + dt + 100 * Config.stepsPerNs
          readyAt := s.elapsed + dt + 100 * Config.stepsPerNs + 40000 * Config.stepsPerNs } ∧
        t.emitted = [⟨.flashCommand, 0, be 1 0x66⟩, ⟨.flashCommand, 0, be 1 0x99⟩, ⟨.pmbusStop, 0, []⟩]) ∧
      Changes [.elapsed, .emitted, .rst, .flash] s t := by
  obtain ⟨hflash, hsent⟩ := (s.begin dt).resetHigh.loadAgain_keeps
  refine ⟨_, execWarmResetRelease_eq h, ?_, ?_, fun hp => ?_, fun hp => ?_, ?_⟩
  · rw [State.loadAgain_low, State.resetHigh_rst]
  · rw [State.loadAgain_loading, State.resetHigh_rst]
    rfl
  · rw [hflash, hsent, resetHigh_held (s := s.begin dt) hp]
    exact ⟨rfl, rfl⟩
  · rw [hflash, hsent, resetHigh_ends (s := s.begin dt) hp]
    exact ⟨rfl, rfl⟩
  · have hframe := execWarmResetRelease_frame dt s (.refl _ s) (List.Subset.refl _)
    rwa [show execWarmResetRelease dt s = _ from execWarmResetRelease_eq h] at hframe

/-- Settles O39: the backup record across POR, then RESET_N's reach by the sequence's phase, then its end. -/
theorem resets : Obligations.Resets := by
  unfold Obligations.Resets
  refine ⟨fun dt s h => State.execPorAssert_keeps h, fun dt s h => ?_, fun dt s hl hj hp =>
    State.execWarmReset_counts hl hj hp, fun dt s hl hj hp => State.execResetNShort_counts hl hj hp, fun dt s h => ?_,
    fun dt s h => State.exec_jtagOwns h⟩
  · obtain ⟨t, ht, hasserted, hphase, hreleased, htime, hbackup⟩ := State.execPorRelease_starts (dt := dt) h
    refine ⟨t, ht, hasserted, hphase, hreleased, ?_, htime, ?_⟩
    · rw [hbackup]
      exact State.porBackup_valid _
    · rw [hbackup]
      exact ⟨fun hl hc => (State.porBackup_counts hl hc).2, fun hl hc => (State.porBackup_counted hl hc).2,
        fun hl => (State.porBackup_afresh hl).2⟩
  · exact State.execWarmResetRelease_ends h

end Sys2Proof.Machine
end

section
/-!
PROOFS. The release of the domains and the loss of a clock (R583, R585, R586, R588, R590, O40).
-/
namespace Sys2Proof.Machine

/-- What one step of a fold brings about and every step leaves alone stands after the fold. -/
theorem State.foldl_reaches {α : Type} {f : State → α → State} {p : State → Prop} {x : α} (hx : ∀ s, p (f s x))
    (hkeep : ∀ s y, p s → p (f s y)) {l : List α} (hl : x ∈ l) (s : State) : p (l.foldl f s) := by
  have hrest (l : List α) (s : State) (h : p s) : p (l.foldl f s) := by
    induction l generalizing s with
    | nil => exact h
    | cons y l ih => exact ih _ (hkeep s y h)
  induction l generalizing s with
  | nil => exact absurd hl List.not_mem_nil
  | cons y l ih =>
    rcases List.mem_cons.mp hl with rfl | hl
    · exact hrest l _ (hx s)
    · exact ih hl _

/-! ## The release of a domain (R583) -/

theorem State.execDomainRelease_releases {s : State} {dt n : Nat} (h8 : n ≠ 8)
    (hmay : (s.begin dt).mayRelease n = true)
    (hgap : (s.begin dt).gapOver n = true) (hclock : (s.begin dt).clockAged n = true) :
    exec (.domainRelease dt n) s = .next ((s.begin dt).releaseDomain n) :=
  congrArg Host.Outcome.next (if_pos (Bool.and_of (Bool.and_of (Bool.and_of hmay hgap) hclock)
    (Bool.or_eq_true_iff.mpr (.inl (decide_eq_true h8)))))

/-- The reset controller when Dn is released (R583). -/
def State.domainOut (s : State) (n : Nat) : State := s.modRst fun r => { r with
  released := setBit r.released n true, times := setAt r.times n s.elapsed, phase := n + 1
  loading := n = 3, optionsDone := r.optionsDone && decide (4 ≤ n) }

/-- The units of Dn start. -/
def State.domainStarts (s : State) (n : Nat) : State :=
  if n = 2 then s.coresStart
  else if n = 3 then (if s.rst.lostAt = 0 then s else s.flashReset)
  else if n = 4 then ((s.diesOf 4).foldl State.runnerUp s).refettle
  else if n = 5 then s.timeUp
  else if n = 7 then s.memoryUp
  else if n = 9 then s.portsUp
  else s

theorem State.releaseDomain_eq (s : State) {n : Nat} (h : n ≠ 8) :
    s.releaseDomain n = (s.domainOut n).domainStarts n :=
  if_neg h

theorem State.domainStarts_rst (s : State) (n : Nat) : (s.domainStarts n).rst = s.rst := by
  have hrunner (x : State) (d : Nat) : (x.runnerUp d).rst = x.rst := State.same_of_frame .rst (runnerUp_frame x d) rfl
  have hrefettle (x : State) : x.refettle.rst = x.rst := State.same_of_frame .rst (refettle_frame x) rfl
  have htime (x : State) : x.timeUp.rst = x.rst := State.same_of_frame .rst (timeUp_frame x) rfl
  have hmemory (x : State) : x.memoryUp.rst = x.rst := State.same_of_frame .rst (memoryUp_frame x) rfl
  have hports (x : State) : x.portsUp.rst = x.rst := State.same_of_frame .rst (portsUp_frame x) rfl
  unfold domainStarts
  split_ifs
  · rfl
  · rfl
  · rfl
  · exact (hrefettle _).trans (foldl_eq State.rst hrunner _ _)
  · exact htime s
  · exact hmemory s
  · exact hports s
  · rfl

/-! ### D4: the runners -/

theorem State.resetRep_runners (s : State) (u : Nat) : (s.resetRep u).units.runners = s.units.runners := by
  have hput (x : State) (r : Replica) : (x.putRep u r).units.runners = x.units.runners := by
    unfold putRep
    split
    · rfl
    · rfl
  exact hput s _

theorem State.runner_congr {s t : State} (h : t.units.runners = s.units.runners) (d : Nat) : t.runner d = s.runner d :=
  congrArg (fun l => Tab.at l d Runner.fresh) h

theorem State.runner_runnerUp (s : State) (die d : Nat) : (s.runnerUp die).runner d =
    (s.modRunner die fun r => { r.restarted with inReset := false, activeUid := s.activeUid }).runner d := by
  unfold runnerUp
  dsimp only
  refine runner_congr ((resetRep_runners _ _).trans ?_) d
  exact foldl_eq (fun x : State => x.units.runners) (fun x k => x.resetRep_runners _) _ _

/-- A runner that is out of reset reads as it was written. -/
theorem State.runner_modRunner_running (s : State) (d : Nat) (f : Runner → Runner)
    (h : (f (s.runner d)).inReset = false) : (s.modRunner d f).runner d = f (s.runner d) :=
  Tab.at_set_of_ne s.units.runners d Runner.fresh _ fun k => Bool.noConfusion (h.symm.trans (congrArg Runner.inReset k))

theorem State.runnerUp_out (s : State) (die : Nat) : ((s.runnerUp die).runner die).inReset = false := by
  rw [runner_runnerUp, runner_modRunner_running]
  rfl

theorem State.runnerUp_keeps (s : State) (die d : Nat) (h : (s.runner d).inReset = false) :
    ((s.runnerUp die).runner d).inReset = false := by
  by_cases hd : die = d
  · subst hd
    exact s.runnerUp_out die
  · rw [runner_runnerUp, show (s.modRunner die _).runner d = s.runner d from
      Tab.at_mod_ne s.units.runners _ _ _ (Ne.symm hd)]
    exact h

theorem State.mem_diesOf {s : State} {die n : Nat} (hdie : die < 16) (h : s.dieHeld die n = false) :
    die ∈ s.diesOf n := by
  unfold diesOf
  rw [List.mem_filter, h]
  exact ⟨List.mem_range.mpr hdie, rfl⟩

theorem State.domainStarts_runners {s : State} {die : Nat} (hdie : die < 16) (h : s.dieHeld die 4 = false) :
    ((s.domainStarts 4).runner die).inReset = false := by
  have hfold : (((s.diesOf 4).foldl State.runnerUp s).runner die).inReset = false :=
    foldl_reaches (p := fun x => (x.runner die).inReset = false) (fun x => x.runnerUp_out die)
      (fun x y hx => x.runnerUp_keeps y die hx) (mem_diesOf hdie h) s
  have hunits (x : State) : x.refettle.units = x.units := State.same_of_frame .units (refettle_frame x) rfl
  have hrunner : (s.domainStarts 4).runner die = ((s.diesOf 4).foldl State.runnerUp s).runner die :=
    congrArg (fun u : Units => Tab.at u.runners die Runner.fresh) (hunits _)
  rw [hrunner]
  exact hfold

/-! ### D5: the time base -/

theorem State.standbyUp_keeps (s : State) :
    s.standbyUp.tb.active = s.tb.active ∧ s.standbyUp.tb.standby.counting = true ∧ s.standbyUp.frame = s.frame ∧
    s.standbyUp.elapsed = s.elapsed := by
  unfold standbyUp
  split
  · next h => exact ⟨rfl, h, rfl, rfl⟩
  · exact ⟨rfl, rfl, rfl, rfl⟩

/-- The active TBU starts at PNS 0, with the frame at 0 (R146, R205). -/
def State.activeUp (s : State) : State :=
  if s.tb.active.counting then s
  else { s with tb := { s.tb with active := { Clock.fresh with since := s.elapsed, counting := true } }
                frame := { s.frame with number := 0, ticked := false, nextTick := 0, opened := 0 } }

theorem State.timeUp_keeps (s : State) :
    s.timeUp.tb = s.standbyUp.activeUp.tb ∧ s.timeUp.frame = s.standbyUp.activeUp.frame ∧
    s.timeUp.elapsed = s.standbyUp.activeUp.elapsed := by
  have hwire (x : State) (c : Nat) (p : Part) (hp : p ∉ [.hub, .wireA, .wireR]) : x.sameAt
      (if (x.hub.core c).proc = .failed then x
        else (x.modCore c fun y => { y with clockGood := true }).startWire c) p := by
    split
    · exact Changes.refl [] x p List.not_mem_nil
    · exact startWire_frame _ c (modCore_frame x c _ (.refl _ x) (by decide)) (by decide) p hp
  exact ⟨foldl_eq State.tb (fun x c => hwire x c .tb (by decide)) _ _,
    foldl_eq State.frame (fun x c => hwire x c .frame (by decide)) _ _,
    foldl_eq State.elapsed (fun x c => hwire x c .elapsed (by decide)) _ _⟩

theorem State.timeUp_counts (s : State) :
    s.timeUp.tb.active.counting = true ∧ s.timeUp.tb.standby.counting = true := by
  obtain ⟨htb, -, -⟩ := s.timeUp_keeps
  obtain ⟨-, hstandby, -, -⟩ := s.standbyUp_keeps
  rw [htb]
  unfold activeUp
  split
  · next h => exact ⟨h, hstandby⟩
  · exact ⟨rfl, hstandby⟩

theorem State.timeUp_running {s : State} (h : s.tb.active.counting = true) : s.timeUp.frame = s.frame := by
  obtain ⟨-, hframe, -⟩ := s.timeUp_keeps
  obtain ⟨hactive, -, hkept, -⟩ := s.standbyUp_keeps
  have hup : s.standbyUp.activeUp = s.standbyUp := if_pos (by rw [hactive]; exact h)
  rw [hframe, hup, hkept]

/-- A count that starts now stands at 0. -/
theorem Clock.ns_started (now : Nat) : ({ Clock.fresh with since := now, counting := true } : Clock).ns now = 0 := by
  unfold Clock.ns Clock.read
  dsimp only
  rw [if_pos rfl, Nat.sub_self]
  simp [fresh, slewed, clampInt]

theorem State.timeUp_starts {s : State} (h : s.tb.active.counting = false) :
    s.timeUp.pns = 0 ∧ s.timeUp.frame.number = 0 := by
  obtain ⟨htb, hframe, helapsed⟩ := s.timeUp_keeps
  obtain ⟨hactive, -, -, -⟩ := s.standbyUp_keeps
  have hup : s.standbyUp.activeUp = { s.standbyUp with
      tb := { s.standbyUp.tb with active := { Clock.fresh with since := s.standbyUp.elapsed, counting := true } }
      frame := { s.standbyUp.frame with number := 0, ticked := false, nextTick := 0, opened := 0 } } :=
    if_neg (by rw [hactive, h]; exact Bool.false_ne_true)
  refine ⟨?_, ?_⟩
  · unfold pns
    rw [htb, helapsed, hup]
    exact Clock.ns_started _
  · rw [hframe, hup]

/-! ### D9: the ports -/

/-- A fence in force stands when the ports start (R447). -/
theorem State.portsUp_fences {s : State} (hhigh : s.pins.quenchHigh = true) (hfence : s.fm.fenceState ≠ 0) :
    s.portsUp.fm.fenceState = 2 ∧ ∀ p, p < 48 → (s.portsUp.optPort p).fenced = true := by
  have hquench (x : State) (h : x.pins.quenchHigh = true) :
      (if x.pins.quenchHigh || x.pins.jtagOwns then x else x.acceptStop) = x :=
    if_pos (Bool.or_eq_true_iff.mpr (.inl h))
  have hpersist (x : State) (c : Prop) [Decidable c] : (if c then x else x.persist).fm = x.fm ∧
      (if c then x else x.persist).units = x.units ∧ (if c then x else x.persist).pins = x.pins := by
    split
    · exact ⟨rfl, rfl, rfl⟩
    · exact ⟨x.persist_fm, persist_frame x (.refl _ x) (List.Subset.refl _) .units (by decide),
        persist_frame x (.refl _ x) (List.Subset.refl _) .pins (by decide)⟩
  have hpins : (s.fencePorts true).pins = s.pins := State.same_of_frame .pins (fencePorts_frame s true) rfl
  unfold portsUp
  dsimp only
  rw [if_neg hfence]
  obtain ⟨hfm, hunits, hkept⟩ := hpersist { s.fencePorts true with
    fm := { (s.fencePorts true).fm with fenceState := 2, fencePns := (s.fencePorts true).pns } }
    ((s.fencePorts true).fm.fenceState = 2)
  rw [hquench _ (by rw [hkept]; exact (congrArg Pins.quenchHigh hpins).trans hhigh)]
  refine ⟨congrArg Fault9.fenceState hfm, fun p hp => ?_⟩
  unfold optPort
  rw [hunits]
  exact s.fencePorts_fenced hp

theorem State.execDomainRelease_starts {s : State} {dt n : Nat} (h8 : n ≠ 8)
    (hmay : (s.begin dt).mayRelease n = true) (hgap : (s.begin dt).gapOver n = true)
    (hclock : (s.begin dt).clockAged n = true) :
    ∃ t, exec (.domainRelease dt n) s = .next t ∧ t.rst = { s.rst with
        released := setBit s.rst.released n true, times := setAt s.rst.times n (s.elapsed + dt), phase := n + 1
        loading := n = 3, optionsDone := s.rst.optionsDone && decide (4 ≤ n) } ∧
      (n = 2 → t.hub.hubA.proc = .selfCheck ∧ t.hub.riser.proc = .selfCheck) ∧
      (n = 3 → s.rst.lostAt ≠ 0 → t.flash.readyAt =
        s.elapsed + dt + 100 * Config.stepsPerNs + 40000 * Config.stepsPerNs) ∧
      (n = 4 → ∀ die, die < 16 → s.dieHeld die 4 = false → (t.runner die).inReset = false) ∧
      (n = 5 → t.tb.active.counting = true ∧ t.tb.standby.counting = true) ∧
      (n = 5 → s.tb.active.counting = true → t.frame = s.frame) ∧
      (n = 5 → s.tb.active.counting = false → t.pns = 0 ∧ t.frame.number = 0) ∧
      (n = 9 → s.pins.quenchHigh = true → s.fm.fenceState ≠ 0 → t.fm.fenceState = 2 ∧
        ∀ p, p < 48 → (t.optPort p).fenced = true) := by
  refine ⟨((s.begin dt).domainOut n).domainStarts n, ?_, domainStarts_rst _ n, ?_, ?_, ?_, ?_, ?_, ?_, ?_⟩
  · rw [execDomainRelease_releases h8 hmay hgap hclock, releaseDomain_eq _ h8]
  · rintro rfl
    exact ⟨rfl, rfl⟩
  · rintro rfl hlost
    have hflash (x : State) (h : x.rst.lostAt ≠ 0) : x.domainStarts 3 = x.flashReset := if_neg h
    rw [hflash ((s.begin dt).domainOut 3) hlost]
    rfl
  · rintro rfl die hdie hheld
    exact domainStarts_runners hdie hheld
  · rintro rfl
    exact timeUp_counts _
  · rintro rfl hcounts
    exact timeUp_running (s := (s.begin dt).domainOut 5) hcounts
  · rintro rfl hcounts
    exact timeUp_starts (s := (s.begin dt).domainOut 5) hcounts
  · rintro rfl hhigh hfence
    exact portsUp_fences (s := (s.begin dt).domainOut 9) hhigh hfence

/-! ## The waves of D8 (R585) -/

theorem State.clusterUp_units (s : State) (c : Nat) : (s.clusterUp c).units = (s.modTap c fun x =>
    { x with inReset := false, coreClock := if s.chilled c then 0 else BitVec.allOnes 136 }).units := by
  have htold (x : State) : (if x.health (ccpUid c) = 2 then x.setHealth (ccpUid c) 0 else x).units = x.units := by
    split
    · rfl
    · rfl
  exact htold _

theorem State.clusterUp_tap (s : State) (c d : Nat) : (s.clusterUp c).tap d = (s.modTap c fun x =>
    { x with inReset := false, coreClock := if s.chilled c then 0 else BitVec.allOnes 136 }).tap d :=
  congrArg (fun u : Units => Tab.at u.taps d Tap.fresh) (s.clusterUp_units c)

theorem State.clusterUp_out (s : State) (c : Nat) : ((s.clusterUp c).tap c).inReset = false := by
  rw [clusterUp_tap, tap_modTap_running]
  rfl

theorem State.clusterUp_keeps (s : State) (c d : Nat) (h : (s.tap d).inReset = false) :
    ((s.clusterUp c).tap d).inReset = false := by
  by_cases hd : d = c
  · subst hd
    exact s.clusterUp_out d
  · rw [clusterUp_tap, show (s.modTap c _).tap d = s.tap d from Tab.at_mod_ne s.units.taps _ _ _ hd]
    exact h

/-- The two clusters of a die that a wave of D8 releases. -/
def State.dieWave (w : Nat) (s : State) (d : Nat) : State := (s.clusterUp (d * 8 + w)).clusterUp (d * 8 + w + 4)

theorem State.dieWave_keeps (s : State) (w d c : Nat) (h : (s.tap c).inReset = false) :
    ((s.dieWave w d).tap c).inReset = false := clusterUp_keeps _ _ c (clusterUp_keeps _ _ c h)

theorem State.waveUp_tap (s : State) (w c : Nat) :
    (s.waveUp w).tap c = ((s.diesOf 8).foldl (State.dieWave w) s).tap c := rfl

theorem State.waveUp_out {s : State} {w die : Nat} (hdie : die < 16) (h : s.dieHeld die 8 = false) :
    ((s.waveUp w).tap (die * 8 + w)).inReset = false ∧ ((s.waveUp w).tap (die * 8 + w + 4)).inReset = false := by
  have hmem := mem_diesOf hdie h
  have hlow (x : State) : ((x.dieWave w die).tap (die * 8 + w)).inReset = false :=
    clusterUp_keeps _ _ _ (x.clusterUp_out _)
  have hhigh (x : State) : ((x.dieWave w die).tap (die * 8 + w + 4)).inReset = false := clusterUp_out _ _
  have hwaves (c : Nat) (hc : ∀ x : State, ((x.dieWave w die).tap c).inReset = false) :
      (((s.diesOf 8).foldl (State.dieWave w) s).tap c).inReset = false :=
    foldl_reaches (p := fun x => (x.tap c).inReset = false) hc (fun x d hx => x.dieWave_keeps w d c hx) hmem s
  rw [waveUp_tap, waveUp_tap]
  exact ⟨hwaves _ hlow, hwaves _ hhigh⟩

theorem State.execD8Wave_releases {s : State} {dt w : Nat} (hw : w < 4) (hmay : (s.begin dt).mayRelease 8 = true)
    (hwaves : s.rst.d8Waves = w)
    (hdue : (if w = 0 then (s.begin dt).gapOver 8 && (s.begin dt).clockAged 8
      else decide (s.rst.times.getD 8 0 + cycles (Nat.max 16384 (s.gapOf 8)) ≤ s.elapsed + dt)) = true) :
    ∃ t, exec (.d8Wave dt w) s = .next t ∧ t.rst.d8Waves = w + 1 ∧ t.rst.phase = (if w = 3 then 9 else 8) ∧
      ∀ die, die < 16 → s.dieHeld die 8 = false → (t.tap (die * 8 + w)).inReset = false ∧
        (t.tap (die * 8 + w + 4)).inReset = false := by
  have hcond := Bool.and_of (Bool.and_of (Bool.and_of hmay (decide_eq_true hwaves)) (decide_eq_true hw)) hdue
  exact ⟨(s.begin dt).waveUp w, congrArg Host.Outcome.next (if_pos hcond), rfl, rfl, fun die hdie hheld =>
    waveUp_out hdie hheld⟩

/-! ## The loss of a clock before D9 (R586) -/

theorem State.warmState_keeps_record (s : State) :
    s.warmState.rst = s.rst ∧ s.warmState.backup = s.backup ∧ s.warmState.elapsed = s.elapsed := by
  obtain ⟨hbackup, -⟩ := s.closeAll_keeps
  exact ⟨closeAll_frame s (.refl _ s) (List.Subset.refl _) .rst (by decide), hbackup,
    closeAll_frame s (.refl _ s) (List.Subset.refl _) .elapsed (by decide)⟩

/-- The units of domains above D2 that go into reset leave the record, the controller and the time. -/
theorem State.domainsDown_keeps_record (s : State) (n : Nat) :
    (s.domainsDown n).rst = s.rst ∧ (s.domainsDown n).backup = s.backup ∧ (s.domainsDown n).elapsed = s.elapsed := by
  have hchange (x : State) (hx : Changes [.units, .hang, .frame, .dump, .wireA, .wireR] s x) :
      x.rst = s.rst ∧ x.backup = s.backup ∧ x.elapsed = s.elapsed :=
    ⟨hx .rst (by decide), hx .backup (by decide), hx .elapsed (by decide)⟩
  unfold domainsDown
  split
  · exact s.warmState_keeps_record
  · refine hchange _ ?_
    extract_lets u p s1 s2 s3 s4 v
    have h1 : Changes [.units, .hang, .frame, .dump, .wireA, .wireR] s s1 := fun p hp => by
      cases p <;> first | rfl | exact absurd (by decide) hp
    have h2 : Changes [.units, .hang, .frame, .dump, .wireA, .wireR] s s2 :=
      (dropSets_frame _ _ (forgetClusters_frame _ (.foldl _ (fun a c ha => modTap_frame a c _ ha (by decide)) _ _ h1)
        (by decide)) (by decide)).ite h1
    have h3 : Changes [.units, .hang, .frame, .dump, .wireA, .wireR] s s3 :=
      (reserveGone_frame _ h2 (by decide)).ite h2
    have hwires (x : State) : Changes [.wireA, .wireR] x { x with wireA := x.wireA.down, wireR := x.wireR.down } :=
      fun p hp => by cases p <;> first | rfl | exact absurd (by decide) hp
    have hunits (x : State) (u : Units) : Changes [.units] x { x with units := u } :=
      fun p hp => by cases p <;> first | rfl | exact absurd (by decide) hp
    have h4 : Changes [.units, .hang, .frame, .dump, .wireA, .wireR] s s4 :=
      (h3.step (hwires s3) (by decide)).ite h3
    exact (h4.step (hunits s4 _) (by decide)).ite h4

theorem State.execClockLost_takes {s : State} {dt d die : Nat} (hpor : s.rst.porAsserted = false)
    (hphase : s.rst.phase < 10) (hd : 1 ≤ d) (hreleased : s.rst.released.getLsbD d = true)
    (hheld : s.dieHeld die d = false) :
    ∃ x : State, exec (.clockLost dt d die) s = .next (x.logged Code.clockLost (be 1 d ++ be 1 die)) ∧
      x.rst = { s.rst.backTo d with clockLostCount := inc32 s.rst.clockLostCount, lostAt := s.elapsed + dt } ∧
      x.backup = s.backup ∧ x.dram = s.dram := by
  have hout : (s.rst.released.getLsbD d || (decide (d = 8) && decide (0 < s.rst.d8Waves))) = true :=
    Bool.or_eq_true_iff.mpr (.inl hreleased)
  have hcond := Bool.and_of (Bool.and_of (Bool.and_of (Bool.and_of (congrArg not hpor) (decide_eq_true hphase))
    (decide_eq_true hd)) hout) (congrArg not hheld)
  obtain ⟨hrst, hbackup, helapsed⟩ := (s.begin dt).domainsDown_keeps_record d
  refine ⟨((s.begin dt).domainsDown d).modRst fun r => { r.backTo d with
    clockLostCount := inc32 r.clockLostCount, lostAt := ((s.begin dt).domainsDown d).elapsed },
    congrArg Host.Outcome.next (if_pos hcond), ?_, hbackup, (s.begin dt).domainsDown_dram d⟩
  unfold modRst
  dsimp only
  rw [hrst, helapsed]
  rfl

/-! ## The loss of a clock in service (R588) -/

/-- A cluster's tap when D4 of its die goes into reset. -/
def State.tapDown (die : Nat) (s : State) (k : Nat) : State :=
  let c := die * 8 + k
  (s.modTap c fun x => { Tap.fresh with inReset := x.inReset, coreClock := x.coreClock
                                        stoppedSlots := x.stoppedSlots, secure := x.secure
                                        secureKnown := x.secureKnown }).resetRep (tapUid c)

theorem State.dieDown_runner (s : State) (die : Nat) : s.dieDown die 4 = (List.range 8).foldl (State.tapDown die)
    (((s.modRst fun r => { r with clockHeld := setBit r.clockHeld (die * 10 + 4) true }).assertRunner die).setHealth
      (runnerUid die) 2) := rfl

theorem State.tapDown_keeps (s : State) (die k : Nat) :
    (s.tapDown die k).topo = s.topo ∧ (s.tapDown die k).units.runners = s.units.runners := by
  have hrep (x : State) (u : Nat) : (x.resetRep u).topo = x.topo := State.same_of_frame .topo (resetRep_frame x u) rfl
  unfold tapDown
  dsimp only
  rw [hrep, resetRep_runners]
  exact ⟨rfl, rfl⟩

theorem State.soLoseDie_runners (s : State) (die : Nat) : (s.soLoseDie die).units.runners = s.units.runners := by
  have hadvance (x : State) : x.soAdvance.units = x.units := State.same_of_frame .units (soAdvance_frame x) rfl
  have hput (x : State) (r : Rec) (u : Nat) : ((x.ladlePut r).countUnreachable u).units = x.units :=
    State.same_of_frame .units (countUnreachable_frame _ u) rfl |>.trans
      (State.same_of_frame .units (ladlePut_frame x r) rfl)
  unfold soLoseDie
  split
  · split
    · rfl
    · extract_lets openTiers s1 s2 s3 missing s4
      have h4 : s4.units = s3.units := by
        dsimp only [s4]
        split
        · exact foldl_eq State.units (fun x r => hput x _ _) _ _
        · rfl
      have h3 : s3.units = (s.ringDrop _).units := State.same_of_frame .units (modImage_frame s2 _) rfl |>.trans
        (State.same_of_frame .units (modWork_frame s1 die _) rfl)
      rw [hadvance, h4, h3]
      rfl
  · rfl

theorem State.assertRunner_resets {s : State} (h : Tab.sortedFrom 0 s.units.runners = true) (die : Nat) :
    ((s.assertRunner die).runner die).inReset = true := by
  have hlost : (((s.soLoseDie die).resetSink die).admLose die).units.runners = s.units.runners :=
    s.soLoseDie_runners die
  have hmod := runner_modRunner (s := ((s.soLoseDie die).resetSink die).admLose die) (by rw [hlost]; exact h) die
    Runner.restarted
  have hafter : (s.assertRunner die).runner die =
      ((((s.soLoseDie die).resetSink die).admLose die).modRunner die Runner.restarted).runner die :=
    runner_congr (resetRep_runners _ _) die
  rw [hafter, hmod]
  rfl

theorem State.dieDown_leaves (s : State) (die : Nat) :
    (s.dieDown die 4).health (runnerUid die) = 2 ∧
    (Tab.sortedFrom 0 s.units.runners = true → ((s.dieDown die 4).runner die).inReset = true) := by
  rw [dieDown_runner]
  refine ⟨?_, fun h => ?_⟩
  · have htopo := foldl_eq State.topo (fun x k => (x.tapDown_keeps die k).1) (List.range 8)
      (((s.modRst fun r => { r with clockHeld := setBit r.clockHeld (die * 10 + 4) true }).assertRunner die).setHealth
        (runnerUid die) 2)
    unfold health
    rw [htopo]
    exact health_setHealth _ (runnerUid die) (by decide)
  · rw [runner_congr (foldl_eq (fun x : State => x.units.runners) (fun x k => (x.tapDown_keeps die k).2) _ _) die]
    exact assertRunner_resets (s := s.modRst _) h die

/-- The domains of a die that a lost clock puts into reset. -/
def State.clockDown (s : State) (d die : Nat) : State := (clockDomains d).foldl (fun s n => s.dieDown die n) s

theorem State.clockDown_phase (s : State) (d die : Nat) : (s.clockDown d die).rst.phase = s.rst.phase :=
  foldl_phase _ (fun x n => x.dieDown_phase die n) _ _

theorem State.clockDown_elapsed (s : State) (d die : Nat) : (s.clockDown d die).elapsed = s.elapsed :=
  foldl_eq State.elapsed (fun x n => dieDown_frame x die n (.refl _ x) (List.Subset.refl _) .elapsed (by decide)) _ _

theorem State.clockDown_runner (s : State) (die : Nat) : s.clockDown 4 die = s.dieDown die 4 := by
  unfold clockDown
  rw [show clockDomains 4 = [4] from rfl, List.foldl_cons, List.foldl_nil]

/-- The controller notes when the clock was lost. -/
def State.lostNow (s : State) : State := s.modRst fun r => { r with lostAt := s.elapsed }

theorem State.lostNow_health (s : State) (u : Nat) : s.lostNow.health u = s.health u := rfl

theorem State.lostNow_runner (s : State) (d : Nat) : s.lostNow.runner d = s.runner d := rfl

theorem State.execClockLostInService_eq {s : State} {dt d die : Nat} (hphase : s.rst.phase = 10)
    (hclock : dieClock d die = true) (hheld : s.dieHeld die d = false) :
    exec (.clockLostInService dt d die) s =
      .next (((s.begin dt).clockDown d die).lostNow.logged Code.clockLost (be 1 d ++ be 1 die)) := by
  have hcond : (decide ((s.begin dt).rst.phase = 10) && dieClock d die && !(s.begin dt).dieHeld die d) = true :=
    Bool.and_of (Bool.and_of (decide_eq_true hphase) hclock) (congrArg not hheld)
  exact congrArg Host.Outcome.next (if_pos hcond)

theorem State.execClockLostInService_takes {s : State} {dt d die : Nat} (hphase : s.rst.phase = 10)
    (hclock : dieClock d die = true) (hheld : s.dieHeld die d = false) :
    ∃ x : State, exec (.clockLostInService dt d die) s = .next (x.logged Code.clockLost (be 1 d ++ be 1 die)) ∧
      x.rst.phase = 10 ∧ x.rst.lostAt = s.elapsed + dt ∧
      (d = 4 → x.health (runnerUid die) = 2 ∧
        (Tab.sortedFrom 0 s.units.runners = true → (x.runner die).inReset = true)) := by
  refine ⟨_, execClockLostInService_eq hphase hclock hheld, ((s.begin dt).clockDown_phase d die).trans hphase,
    (s.begin dt).clockDown_elapsed d die, ?_⟩
  rintro rfl
  rw [lostNow_health, lostNow_runner, clockDown_runner]
  exact (s.begin dt).dieDown_leaves die

/-- Settles O40: the units that each domain starts, the waves, and the two losses of a clock. -/
theorem releaseSequence : Obligations.ReleaseSequence := by
  unfold Obligations.ReleaseSequence
  exact ⟨fun dt n s _ h8 hmay hgap hclock => State.execDomainRelease_starts h8 hmay hgap hclock,
    fun dt w s hw hmay hwaves hdue => State.execD8Wave_releases hw hmay hwaves hdue,
    fun dt d die s hpor hphase hd hreleased hheld => State.execClockLost_takes hpor hphase hd hreleased hheld,
    fun dt d die s hphase hclock hheld => State.execClockLostInService_takes hphase hclock hheld⟩

end Sys2Proof.Machine
end

section
/-!
PROOFS. Lost dies, self-checks and the STORM hold (R587, R590, R591, R609, O41).
-/
namespace Sys2Proof.Machine

/-! ## A die whose clock is late (R587) -/

theorem State.loseDie_rst (s : State) (die n : Nat) : (s.loseDie die n).rst = { s.rst with
    lostDies := setBit s.rst.lostDies die true, lostFrom := Tab.put s.rst.lostFrom die n } := by
  have hite (x y : State) (c : Prop) [Decidable c] (h : y.rst = x.rst) : (if c then y else x).rst = x.rst := by
    split
    · exact h
    · rfl
  have hcluster (x : State) (k : Nat) : (if (x.modTap (die * 8 + k) Tap.clusterReset).health (ccpUid (die * 8 + k)) = 3
      then x.modTap (die * 8 + k) Tap.clusterReset
      else (x.modTap (die * 8 + k) Tap.clusterReset).setHealth (ccpUid (die * 8 + k)) 2).rst = x.rst := by
    split
    · rfl
    · rfl
  have hport (x : State) (k : Nat) : (x.setHealth (unitUid die (0x40 + k)) 2).rst = x.rst := rfl
  unfold loseDie
  extract_lets s1 s2 s3 s4
  have h2 : s2.rst = s1.rst := hite _ _ _ rfl
  have h3 : s3.rst = s2.rst := hite _ _ _ rfl
  have h4 : s4.rst = s3.rst := hite _ _ _ (foldl_eq State.rst hcluster _ _)
  rw [hite _ _ _ (foldl_eq State.rst hport _ _), h4, h3, h2]
  rfl

theorem State.execClockTimeout_loses {s : State} {dt n die : Nat} (h2 : n ≠ 2) (h3 : n ≠ 3) (h5 : n ≠ 5) (h8 : n ≠ 8)
    (hclock : dieClock n die = true) (hheld : s.dieHeld die n = false) (hmay : (s.begin dt).mayRelease n = true)
    (hlate : (s.begin dt).clockLate n = true) :
    ∃ x : State, exec (.clockTimeout dt n die) s =
        .next ((x.logged Code.clockTimeout (be 1 die)).releaseDomain n) ∧
      x.rst = { s.rst with lostDies := setBit s.rst.lostDies die true, lostFrom := Tab.put s.rst.lostFrom die n } := by
  have hphase : s.rst.phase = n := by
    unfold mayRelease at hmay
    simp only [Bool.and_eq_true, decide_eq_true_eq] at hmay
    obtain ⟨⟨⟨⟨⟨⟨⟨_, _⟩, h⟩, _⟩, _⟩, _⟩, _⟩, _⟩ := hmay
    exact h
  have hcond : (dieClock n die && !s.dieHeld die n && (((s.begin dt).mayRelease n && (s.begin dt).clockLate n) ||
      (s.rst.released.getLsbD n && decide (s.rst.times.getD n 0 = s.elapsed + dt)))) = true :=
    Bool.and_of (Bool.and_of hclock (congrArg not hheld))
      (Bool.or_eq_true_iff.mpr (.inl (Bool.and_of hmay hlate)))
  have hready (x : State) (h : x.rst.phase = n) :
      (decide (x.rst.phase = n) && (decide (n ≠ 8) || decide (x.rst.d8Waves = 0))) = true :=
    Bool.and_of (decide_eq_true h) (Bool.or_eq_true_iff.mpr (.inl (decide_eq_true h8)))
  have hafter : (((s.begin dt).loseDie die n).logged Code.clockTimeout (be 1 die)).rst.phase = n := by
    rw [logged_phase, loseDie_rst]
    exact hphase
  refine ⟨(s.begin dt).loseDie die n, congrArg Host.Outcome.next ((if_neg ?_).trans
    ((if_pos hcond).trans (if_pos (hready _ hafter)))), loseDie_rst _ die n⟩
  omega

/-! ## The self-checks of the hub cores (R590, R591) -/

theorem State.execSelfCheckDone_passes {s : State} {dt core : Nat} (h : (s.hub.core core).proc = .selfCheck) :
    ∃ t, exec (.selfCheckDone dt core true) s = .next t ∧ (t.hub.core core).proc = .bootRom ∧
      (t.hub.core core).selfCheckPassed = some true := by
  have hcore := (s.begin dt).core_modCore core fun c => { c with proc := .bootRom, selfCheckPassed := some true }
  have hclaim (x : State) (c : Prop) [Decidable c] (p : Port) :
      (if c then { x with port := p } else x).hub = x.hub := by
    split
    · rfl
    · rfl
  refine ⟨_, congrArg Host.Outcome.next ((if_pos (decide_eq_true h)).trans (if_neg Bool.false_ne_true)), ?_, ?_⟩
  · rw [hclaim, hcore]
  · rw [hclaim, hcore]

/-- A core that has failed its self-check, logged. -/
def State.checkFailed (s : State) (core : Nat) : State :=
  (s.modCore core fun c => { c with proc := .failed, selfCheckPassed := some false }).logged Code.selfCheckFail
    (be 2 (coreUid core))

theorem State.checkFailed_rst (s : State) (core : Nat) : (s.checkFailed core).rst = s.rst :=
  changes_logged (s.modCore core _) _ _ .rst (by decide)

theorem State.checkFailed_hub (s : State) (core : Nat) : (s.checkFailed core).hub =
    (s.modCore core fun c => { c with proc := .failed, selfCheckPassed := some false }).hub :=
  changes_logged (s.modCore core _) _ _ .hub (by decide)

theorem State.checkFailed_core (s : State) (core : Nat) : ((s.checkFailed core).hub.core core).proc = .failed := by
  rw [checkFailed_hub, core_modCore]

theorem State.checkFailed_other (s : State) {core : Nat} (h : core < 2) :
    (s.checkFailed core).hub.core (1 - core) = s.hub.core (1 - core) := by
  rw [checkFailed_hub, s.core_modCore_ne (by omega)]

theorem State.checkFailed_owns (s : State) (core : Nat) :
    (s.checkFailed core).hub.riserOwns = s.hub.riserOwns := by
  rw [checkFailed_hub, (s.modCore_hub core _).2.1]

/-- The sequence holds before D3 when both cores have failed (R591). -/
def State.bothFailed (s : State) : State :=
  (s.modRst fun r => { r with holdReason := 3 }).controllerWords Code.selfCheckFail

/-- The pins and the active role pass to the other core (R591). -/
def State.handOver (s : State) (core : Nat) : State :=
  let tb := s.tb
  { s with
    pod := if core = s.activeCore then { s.pod with servo := s.pod.shadow, shadow := s.pod.servo } else s.pod
    hub := { s.hub with riserOwns := !s.hub.riserOwns, riserActive := !s.hub.riserOwns }
    tb := if core = s.activeCore then
        { tb with active := { s.standbyNow with counting := tb.active.counting }, standby := tb.active
                  tickIn := tb.tickInStandby, tickInStandby := tb.tickIn }
      else tb
    port := if (s.hub.core (1 - core)).selfCheckPassed = some true && s.port.claimLast = none then
        { s.port with claimSince := s.elapsed } else s.port }

theorem State.coreFails_eq (s : State) (core : Nat) : s.coreFails core =
    if ((s.checkFailed core).hub.core (1 - core)).proc = .failed then (s.checkFailed core).bothFailed
    else if (s.checkFailed core).owner = core then (s.checkFailed core).handOver core
    else s.checkFailed core := rfl

theorem State.coreFails_both {s : State} {core : Nat} (h : core < 2)
    (hother : (s.hub.core (1 - core)).proc = .failed) : s.coreFails core = (s.checkFailed core).bothFailed := by
  rw [coreFails_eq, if_pos]
  rw [s.checkFailed_other h]
  exact hother

theorem State.coreFails_hands {s : State} {core : Nat} (h : core < 2)
    (hother : (s.hub.core (1 - core)).proc ≠ .failed) (howner : s.owner = core) :
    s.coreFails core = (s.checkFailed core).handOver core := by
  rw [coreFails_eq, if_neg, if_pos]
  · unfold owner
    rw [checkFailed_owns]
    exact howner
  · rw [s.checkFailed_other h]
    exact hother

theorem bit_not (b : Bool) : bit (!b) = 1 - bit b := by
  cases b
  · rfl
  · rfl

theorem State.handOver_roles (s : State) (core : Nat) :
    (s.handOver core).owner = 1 - s.owner ∧ (s.handOver core).activeCore = 1 - s.owner ∧
    (s.handOver core).hub.core core = s.hub.core core ∧ (s.handOver core).rst = s.rst :=
  ⟨bit_not _, bit_not _, rfl, rfl⟩

theorem State.execSelfCheckDone_fails {s : State} {dt core : Nat} (h : (s.hub.core core).proc = .selfCheck) :
    exec (.selfCheckDone dt core false) s = .next ((s.begin dt).coreFails core) :=
  congrArg Host.Outcome.next ((if_pos (decide_eq_true h)).trans (if_pos rfl))

theorem State.execSelfCheckDone_holds {s : State} {dt core : Nat} (h : (s.hub.core core).proc = .selfCheck)
    (hcore : core < 2) (hother : (s.hub.core (1 - core)).proc = .failed) :
    ∃ t, exec (.selfCheckDone dt core false) s = .next t ∧ t.rst.holdReason = 3 ∧
      t.hub.riserOwns = s.hub.riserOwns ∧ (t.hub.core core).proc = .failed := by
  have hboth (x : State) : x.bothFailed.hub = x.hub := rfl
  refine ⟨_, execSelfCheckDone_fails h, ?_⟩
  rw [coreFails_both (s := s.begin dt) hcore hother, hboth]
  exact ⟨rfl, checkFailed_owns _ core, checkFailed_core _ core⟩

theorem State.execSelfCheckDone_hands {s : State} {dt core : Nat} (h : (s.hub.core core).proc = .selfCheck)
    (hcore : core < 2) (hother : (s.hub.core (1 - core)).proc ≠ .failed) (howner : s.owner = core) :
    ∃ t, exec (.selfCheckDone dt core false) s = .next t ∧ t.rst = s.rst ∧
      t.owner = 1 - core ∧ t.activeCore = 1 - core ∧ (t.hub.core core).proc = .failed := by
  have hkept : ((s.begin dt).checkFailed core).owner = core := by
    unfold owner
    rw [checkFailed_owns]
    exact howner
  obtain ⟨howns, hactive, hsame, hrst⟩ := ((s.begin dt).checkFailed core).handOver_roles core
  refine ⟨_, execSelfCheckDone_fails h, ?_⟩
  rw [coreFails_hands (s := s.begin dt) hcore hother howner, howns, hactive, hsame, hrst, hkept]
  exact ⟨checkFailed_rst _ core, rfl, rfl, checkFailed_core _ core⟩

/-! ## STORM_RELEASE (R609) -/

/-- The ring is emptied and the hold lifted. -/
def State.stormOver (s : State) : State :=
  { s.modRst fun r => { r with holdReason := 0 } with
    backup := { s.backup with head := 0, fill := 0, ring := List.replicate 16 0 } }

theorem State.cmdStormRelease_lifts {s : State} (h : s.rst.holdReason = 1) :
    s.cmdStormRelease 1 = (s.stormOver.logged Code.stormReleased []).accept := by
  unfold cmdStormRelease
  rw [if_neg (by omega), if_neg (by omega)]
  rfl

theorem State.execStormRelease_answers {s s1 : State} {dt v : Nat} {req : Req} {c : Ctx}
    (hs : Served s dt req 0x3020 1 .write c s1) :
    (v ≠ 1 → exec (.stormRelease dt req v) s = .next (s1.answer c Abort.valueRange [])) ∧
    (v = 1 → s1.rst.holdReason ≠ 1 → exec (.stormRelease dt req v) s = .next (s1.answer c Abort.busy [])) ∧
    (v = 1 → s1.rst.holdReason = 1 → ∃ x : State, exec (.stormRelease dt req v) s =
        .next ((x.logged Code.stormReleased []).answer c Abort.ok []) ∧
      x.rst = { s1.rst with holdReason := 0 } ∧ x.backup.fill = 0 ∧ x.backup.resetCount = s1.backup.resetCount) := by
  refine ⟨fun hv => ?_, ?_, ?_⟩
  · exact congrArg Host.Outcome.next (hs.refuses (f := fun _ s => s.cmdStormRelease v) rfl (if_pos hv))
  · rintro rfl hhold
    exact congrArg Host.Outcome.next (hs.refuses (f := fun _ s => s.cmdStormRelease 1) rfl
      ((if_neg (by omega)).trans (if_pos hhold)))
  · rintro rfl hhold
    exact ⟨s1.stormOver, congrArg Host.Outcome.next (hs.accepts (f := fun _ s => s.cmdStormRelease 1) rfl
      (cmdStormRelease_lifts hhold)), rfl, rfl, rfl⟩

/-- Settles O41: the die that is lost, the core that fails, and the hold that is lifted. -/
theorem holdsAndLosses : Obligations.HoldsAndLosses := by
  unfold Obligations.HoldsAndLosses
  exact ⟨fun dt n die s h2 h3 h5 h8 hclock hheld hmay hlate =>
      State.execClockTimeout_loses h2 h3 h5 h8 hclock hheld hmay hlate,
    fun dt core s h => ⟨State.execSelfCheckDone_passes h, fun hc ho => State.execSelfCheckDone_holds h hc ho,
      fun hc ho hown => State.execSelfCheckDone_hands h hc ho hown⟩,
    fun dt v req s s1 c hs => State.execStormRelease_answers hs⟩

end Sys2Proof.Machine
end

section
/-!
PROOFS. The end of option loading and of the flash writes (R598, R599, R601, R602, R604, R607, R745, O42).
-/
namespace Sys2Proof.Machine

/-! ## What a log record leaves -/

/-- The copies of the option block and of the persistent area. -/
def Flash.copies (f : Flash) : (OptionCopy × OptionCopy) × PersistCopy × PersistCopy :=
  ((f.option0, f.option1), f.persist0, f.persist1)

theorem State.persist_copies (s : State) : s.persist.flash.copies = s.flash.copies := by
  unfold persist
  split
  · rfl
  · rfl

theorem State.numberRecord_copies (s : State) (r : LogRec) (n : Bool) :
    (s.numberRecord r n).flash.copies = s.flash.copies := by
  have hnotify (x : State) (r : LogRec) : (x.notifyAll r).flash = x.flash :=
    State.same_of_frame .flash (notifyAll_frame x r) rfl
  have hwhole (x : State) (c : Prop) [Decidable c] : (if c then x.persist else x).flash.copies = x.flash.copies := by
    split
    · exact x.persist_copies
    · rfl
  unfold numberRecord
  dsimp only
  split
  · rw [hnotify, hwhole]
  · rw [hwhole]

theorem State.logged_copies (s : State) (code : Nat) (detail : List Byte) :
    (s.logged code detail).flash.copies = s.flash.copies := by
  unfold logged note
  dsimp only
  rw [if_neg Bool.false_ne_true]
  split
  · exact numberRecord_copies _ _ _
  · rfl

/-- A record waits while the ceiling does not permit its number (R745). -/
theorem State.note_waits {s : State} (h : s.logSeq.ready = false) (code : Nat) (detail : List Byte)
    (urgent notify : Bool) : (s.note code detail urgent notify).logSeq = s.logSeq := by
  have hwords : (if urgent then s.writeLastWords s.activeUid code detail else s).logSeq = s.logSeq := by
    split
    · rfl
    · rfl
  unfold note
  dsimp only
  rw [if_neg]
  · exact hwords
  · rw [hwords, h, Bool.false_and]
    exact Bool.false_ne_true

/-! ## The strap and the fuses (R596–R599) -/

theorem State.logged_rst (s : State) (code : Nat) (detail : List Byte) : (s.logged code detail).rst = s.rst :=
  s.changes_logged code detail .rst (by decide)

/-- The strap as it was read (R596, R597). -/
def State.strapRead (s : State) (r : OptionRead) : State := s.drawn.modRst fun x => { x with
  strapCode := strapCodeOf r, strapMv := strapMvOf r s.freeNow, strapAmbiguous := strapUnclear r }

/-- Role and tick source by the strap, as POR takes them (R598). -/
def State.rolesTaken (s : State) (role tick : Bool) : State :=
  { s.modRst fun x => { x with roleBit := role, tickSourceBit := tick } with
    pod := { s.pod with role := if role then 2 else 0 } }

theorem State.takeStrap_por {s : State} (h : s.rst.fromPor = true) (r : OptionRead) :
    s.takeStrap r = (s.strapRead r).rolesTaken (bitOf (strapCodeOf r) 3) (bitOf (strapCodeOf r) 0) := if_pos h

theorem State.takeStrap_warm {s : State} (h : s.rst.fromPor = false) (r : OptionRead) :
    (s.takeStrap r).rst = (s.strapRead r).rst ∧ (s.takeStrap r).flash.copies = s.flash.copies := by
  have hif (x : State) (c : Prop) [Decidable c] (k : Nat) (d : List Byte) :
      (if c then x else x.logged k d).rst = x.rst ∧ (if c then x else x.logged k d).flash.copies = x.flash.copies := by
    split
    · exact ⟨rfl, rfl⟩
    · exact ⟨logged_rst _ _ _, logged_copies _ _ _⟩
  have hcond : ¬((s.strapRead r).rst.fromPor = true) := Bool.eq_false_iff.mp h
  have heq : s.takeStrap r = _ := if_neg hcond
  rw [heq]
  exact hif (s.strapRead r) _ _ _

/-- The reset controller with the strap's bits (R596–R598). -/
def State.strapped (s : State) (r : OptionRead) : Reset := { s.rst with
  strapCode := strapCodeOf r, strapMv := strapMvOf r s.freeNow, strapAmbiguous := strapUnclear r
  roleBit := if s.rst.fromPor then bitOf (strapCodeOf r) 3 else s.rst.roleBit
  tickSourceBit := if s.rst.fromPor then bitOf (strapCodeOf r) 0 else s.rst.tickSourceBit }

theorem State.takeStrap_takes (s : State) (r : OptionRead) :
    (s.takeStrap r).rst = s.strapped r ∧ (s.takeStrap r).flash.copies = s.flash.copies := by
  unfold strapped
  cases h : s.rst.fromPor with
  | true =>
    rw [takeStrap_por h]
    exact ⟨rfl, rfl⟩
  | false =>
    obtain ⟨hrst, hflash⟩ := takeStrap_warm h r
    exact ⟨hrst, hflash⟩

theorem State.takeFuses_takes (s : State) (r : OptionRead) :
    (s.takeFuses r).rst = { s.rst with holdReason := if r.fuseBad then 2 else s.rst.holdReason } ∧
    (s.takeFuses r).flash.copies = s.flash.copies := by
  have hrst := foldl_eq State.rst (fun x w => x.logged_rst Code.fuseCorrected (be 2 w)) r.fuseCorrected s
  have hflash := foldl_eq (fun x : State => x.flash.copies)
    (fun x w => x.logged_copies Code.fuseCorrected (be 2 w)) r.fuseCorrected s
  unfold takeFuses
  dsimp only
  cases r.fuseBad with
  | true =>
    rw [if_pos rfl, if_pos rfl, logged_rst, logged_copies]
    unfold modRst
    dsimp only
    rw [hrst]
    exact ⟨rfl, hflash⟩
  | false =>
    rw [if_neg Bool.false_ne_true, if_neg Bool.false_ne_true]
    exact ⟨hrst, hflash⟩

/-! ## Neither copy is valid (R601, R604) -/

theorem State.loadOptions_default {s : State} (h0 : s.flash.option0.valid = false)
    (h1 : s.flash.option1.valid = false) :
    s.loadOptions = s.rwpDefaults.logged Code.optionsDefault [] := by
  unfold loadOptions
  dsimp only
  rw [show copyToUse s.flash.option0.valid s.flash.option1.valid _ _ = none by rw [h0, h1]; rfl]

theorem State.loadPersist_default {s : State} (h0 : s.flash.persist0.valid = false)
    (h1 : s.flash.persist1.valid = false) :
    s.loadPersist.fm.fenceState = 0 ∧ s.loadPersist.fm.fenceSeq = 0 ∧
    s.loadPersist.logSeq = Counter.resume 0 65536 ∧ s.loadPersist.imageIds = Counter.resume 0 64 ∧
    s.loadPersist.eventSeqs = Counter.resume 0 64 := by
  have hkeep (x : State) : x.persist.fm = x.fm ∧ x.persist.logSeq = x.logSeq ∧ x.persist.imageIds = x.imageIds ∧
      x.persist.eventSeqs = x.eventSeqs :=
    have h (p : Part) (hp : p ∉ [.flash]) : x.sameAt x.persist p :=
      persist_frame x (.refl _ x) (List.Subset.refl _) p hp
    ⟨h .fm (by decide), h .logSeq (by decide), h .imageIds (by decide), h .eventSeqs (by decide)⟩
  unfold loadPersist
  dsimp only
  rw [show copyToUse s.flash.persist0.valid s.flash.persist1.valid _ _ = none by rw [h0, h1]; rfl]
  obtain ⟨hfm, hlog, himage, hevent⟩ := hkeep _
  rw [hfm, hlog, himage, hevent]
  exact ⟨rfl, rfl, rfl, rfl, rfl⟩

/-- Keys that are empty stay so (R663, R664). -/
theorem State.loadKeys_empty {s : State} (h : s.lc.mgrKeys = List.replicate 5 []) :
    s.loadKeys.lc.mgrKeys = List.replicate 5 [] := by
  have hurged (x : State) (k : Nat) (d : List Byte) : (x.urged k d).lc = x.lc :=
    State.same_of_frame .lc (State.urged_frame x k d) rfl
  unfold loadKeys
  dsimp only
  split
  · exact h
  · exact congrArg Lifecycle.mgrKeys (hurged _ _ _)

theorem State.loadKeys_logSeq {s : State} (h : s.logSeq.ready = false) : s.loadKeys.logSeq = s.logSeq := by
  unfold loadKeys
  dsimp only
  split
  · rfl
  · refine note_waits ?_ _ _ _ _
    exact h

/-! ## What takes effect together (R584, R601, R607) -/

/-- What D3 has read. -/
def State.optionsRead (s : State) (r : OptionRead) : State :=
  ((((s.takeStrap r).takeFuses r).loadOptions).loadPersist).loadKeys

/-- The sequence holds before D4 for the resets counted (R607). -/
def State.stormHeld (s : State) : State :=
  (s.modRst fun x => { x with holdReason := 1 }).controllerWords Code.stormHold

theorem State.stormCheck_eq (s : State) : s.stormCheck =
    if s.rst.stormLimit ≠ 0 ∧ s.rst.stormLimit < s.backup.recent ∧ s.rst.holdReason = 0 then
      (s.modRst fun x => { x with stormRecent := s.backup.recent }).stormHeld.logged Code.stormHold []
    else s.modRst fun x => { x with stormRecent := s.backup.recent } := rfl

theorem State.stormHeld_keeps (s : State) : s.stormHeld.rst = { s.rst with holdReason := 1 } ∧
    s.stormHeld.backup.gaps = s.backup.gaps ∧ s.stormHeld.backup.recent = s.backup.recent ∧
    s.stormHeld.logSeq = s.logSeq := ⟨rfl, rfl, rfl, rfl⟩

/-- The STORM hold counts the resets of the record, and holds unless something else does (R607). -/
theorem State.stormCheck_sets (s : State) : s.stormCheck.rst = { s.rst with
      stormRecent := s.backup.recent
      holdReason := if s.rst.stormLimit ≠ 0 ∧ s.rst.stormLimit < s.backup.recent ∧ s.rst.holdReason = 0 then 1
        else s.rst.holdReason } ∧
    s.stormCheck.backup.gaps = s.backup.gaps ∧ s.stormCheck.backup.recent = s.backup.recent ∧
    (s.logSeq.ready = false → s.stormCheck.logSeq = s.logSeq) := by
  obtain ⟨hrst, hgaps, hrecent, hseq⟩ := (s.modRst fun x => { x with stormRecent := s.backup.recent }).stormHeld_keeps
  rw [stormCheck_eq]
  split
  · rw [logged_rst, logged_backup, hgaps, hrecent, hrst]
    refine ⟨rfl, rfl, rfl, fun h => (note_waits ?_ _ _ _ _).trans hseq⟩
    rw [hseq]
    exact h
  · exact ⟨rfl, rfl, rfl, fun _ => rfl⟩

/-- D3 has ended (R605). -/
def State.loadingEnds (s : State) : State := s.modRst fun r => { r with
  loading := false, optionsDone := r.holdReason ≠ 2, fromPor := false, times := setAt r.times 11 s.elapsed }

theorem State.execOptionLoadingEnd_loads {s : State} {dt : Nat} {r : OptionRead} (hloading : s.rst.loading = true)
    (hlow : s.rst.resetNLow = false) (hfree : (s.begin dt).flashFree = true)
    (htime : s.rst.times.getD 3 0 + loadLeastNs r * Config.stepsPerNs ≤ s.elapsed + dt) :
    exec (.optionLoadingEnd dt r) s = .next ((s.begin dt).optionsRead r).takeGaps.stormCheck.loadingEnds :=
  congrArg Host.Outcome.next (if_pos (Bool.and_of (Bool.and_of (Bool.and_of hloading (congrArg not hlow)) hfree)
    (decide_eq_true htime)))

/-- The three steps that end D3 (R584, R605, R607). -/
def State.optionsEnd (s : State) : State := s.takeGaps.stormCheck.loadingEnds

theorem State.optionsEnd_sets (s : State) : s.optionsEnd.rst.loading = false ∧ s.optionsEnd.rst.fromPor = false ∧
    s.optionsEnd.rst.optionsDone = decide (s.optionsEnd.rst.holdReason ≠ 2) ∧
    s.optionsEnd.rst.gapsNow = s.optionsEnd.rst.gaps ∧ s.optionsEnd.backup.gaps = s.optionsEnd.rst.gaps ∧
    s.optionsEnd.rst.stormRecent = s.optionsEnd.backup.recent := by
  obtain ⟨hrst, hgaps, hrecent, -⟩ := s.takeGaps.stormCheck_sets
  unfold optionsEnd loadingEnds modRst
  dsimp only
  rw [hrst, hgaps, hrecent]
  exact ⟨rfl, rfl, rfl, rfl, rfl, rfl⟩

/-- What the end of D3 takes over from what was read. -/
theorem State.optionsEnd_keeps (s : State) :
    s.optionsEnd.rst.strapCode = s.rst.strapCode ∧ s.optionsEnd.rst.strapAmbiguous = s.rst.strapAmbiguous ∧
    s.optionsEnd.rst.roleBit = s.rst.roleBit ∧ s.optionsEnd.rst.tickSourceBit = s.rst.tickSourceBit ∧
    s.optionsEnd.rst.gaps = s.rst.gaps ∧ s.optionsEnd.rst.stormLimit = s.rst.stormLimit ∧
    s.optionsEnd.rst.holdReason = (if s.rst.stormLimit ≠ 0 ∧ s.rst.stormLimit < s.optionsEnd.backup.recent ∧
      s.rst.holdReason = 0 then 1 else s.rst.holdReason) := by
  obtain ⟨hrst, -, hrecent, -⟩ := s.takeGaps.stormCheck_sets
  have hbackup : s.optionsEnd.backup.recent = s.takeGaps.backup.recent := hrecent
  rw [hbackup]
  unfold optionsEnd loadingEnds modRst
  dsimp only
  rw [hrst]
  exact ⟨rfl, rfl, rfl, rfl, rfl, rfl, rfl⟩

theorem State.optionsEnd_logSeq {s : State} (h : s.logSeq.ready = false) : s.optionsEnd.logSeq = s.logSeq := by
  obtain ⟨-, -, -, hseq⟩ := s.takeGaps.stormCheck_sets
  exact hseq h

theorem State.changes_optionsEnd (s : State) :
    Changes [.emitted, .rst, .backup, .flash, .logSeq, .log, .port] s s.optionsEnd :=
  modRst_frame _ _ (stormCheck_frame _ (takeGaps_frame s (.refl _ s) (by decide)) (by decide)) (by decide)

/-- With no valid copy of the option block, what D3 reads are the strap, the fuses and the defaults (R601). -/
theorem State.optionsRead_default {s : State} {r : OptionRead} (h0 : s.flash.option0.valid = false)
    (h1 : s.flash.option1.valid = false) :
    (s.optionsRead r).rst = { s.strapped r with
      holdReason := if r.fuseBad then 2 else s.rst.holdReason, gaps := List.replicate 10 4096, stormLimit := 16 } ∧
    (s.optionsRead r).lc.mgrKeys = List.replicate 5 [] ∧ (s.optionsRead r).pod.gmPriority = 128 := by
  obtain ⟨hstrap, hstrapped⟩ := s.takeStrap_takes r
  obtain ⟨hfuses, hfused⟩ := (s.takeStrap r).takeFuses_takes r
  have hcopies : ((s.takeStrap r).takeFuses r).flash.copies = s.flash.copies := hfused.trans hstrapped
  have hoptions := loadOptions_default (s := (s.takeStrap r).takeFuses r)
    ((congrArg (fun c => c.1.1.valid) hcopies).trans h0) ((congrArg (fun c => c.1.2.valid) hcopies).trans h1)
  have hpersist (p : Part)
      (hp : p ∉ [.emitted, .fm, .bar, .backup, .flash, .logSeq, .imageIds, .eventSeqs, .log, .port]) (x : State) :
      x.sameAt x.loadPersist p := loadPersist_frame x (.refl _ x) (List.Subset.refl _) p hp
  have hkeys (p : Part) (hp : p ∉ [.emitted, .backup, .flash, .logSeq, .log, .port, .lc]) (x : State) :
      x.sameAt x.loadKeys p := loadKeys_frame x (.refl _ x) (List.Subset.refl _) p hp
  have hlog (x : State) (k : Nat) (d : List Byte) : (x.logged k d).lc = x.lc ∧ (x.logged k d).pod = x.pod :=
    ⟨x.changes_logged k d .lc (by decide), x.changes_logged k d .pod (by decide)⟩
  have hrst : (s.optionsRead r).rst = ((s.takeStrap r).takeFuses r).loadOptions.rst :=
    (hkeys .rst (by decide) _).trans (hpersist .rst (by decide) _)
  have hpod : (s.optionsRead r).pod = ((s.takeStrap r).takeFuses r).loadOptions.pod :=
    (hkeys .pod (by decide) _).trans (hpersist .pod (by decide) _)
  have hlc : ((s.takeStrap r).takeFuses r).loadOptions.loadPersist.lc = _ := hpersist .lc (by decide) _
  refine ⟨?_, loadKeys_empty ?_, ?_⟩
  · rw [hrst, hoptions, logged_rst]
    unfold rwpDefaults
    dsimp only
    rw [hfuses, hstrap]
    rfl
  · rw [hlc, hoptions, (hlog _ _ _).1]
    rfl
  · rw [hpod, hoptions, (hlog _ _ _).2]
    rfl

/-- With no valid copy of either area, the counters start again (R604, R745). -/
theorem State.optionsRead_afresh {s : State} {r : OptionRead} (h0 : s.flash.option0.valid = false)
    (h1 : s.flash.option1.valid = false) (hp0 : s.flash.persist0.valid = false) (hp1 : s.flash.persist1.valid = false) :
    (s.optionsRead r).fm.fenceState = 0 ∧ (s.optionsRead r).fm.fenceSeq = 0 ∧
    (s.optionsRead r).logSeq = Counter.resume 0 65536 ∧ (s.optionsRead r).imageIds = Counter.resume 0 64 ∧
    (s.optionsRead r).eventSeqs = Counter.resume 0 64 := by
  obtain ⟨-, hstrapped⟩ := s.takeStrap_takes r
  obtain ⟨-, hfused⟩ := (s.takeStrap r).takeFuses_takes r
  have hread : ((s.takeStrap r).takeFuses r).flash.copies = s.flash.copies := hfused.trans hstrapped
  have hoptions := loadOptions_default (s := (s.takeStrap r).takeFuses r)
    ((congrArg (fun c => c.1.1.valid) hread).trans h0) ((congrArg (fun c => c.1.2.valid) hread).trans h1)
  have hcopies : ((s.takeStrap r).takeFuses r).loadOptions.flash.copies = s.flash.copies := by
    rw [hoptions, logged_copies]
    exact hread
  obtain ⟨hfence, hseq, hlog, himage, hevent⟩ := loadPersist_default (s := ((s.takeStrap r).takeFuses r).loadOptions)
    ((congrArg (fun c => c.2.1.valid) hcopies).trans hp0) ((congrArg (fun c => c.2.2.valid) hcopies).trans hp1)
  have hkeys (p : Part) (hp : p ∉ [.emitted, .backup, .flash, .logSeq, .log, .port, .lc]) (x : State) :
      x.sameAt x.loadKeys p := loadKeys_frame x (.refl _ x) (List.Subset.refl _) p hp
  have hfm : (s.optionsRead r).fm = ((s.takeStrap r).takeFuses r).loadOptions.loadPersist.fm := hkeys .fm (by decide) _
  refine ⟨?_, ?_, (loadKeys_logSeq ?_).trans hlog, (hkeys .imageIds (by decide) _).trans himage,
    (hkeys .eventSeqs (by decide) _).trans hevent⟩
  · rw [hfm, hfence]
  · rw [hfm, hseq]
  · rw [hlog]
    rfl

theorem State.optionsEnd_default {s : State} {r : OptionRead} (h0 : s.flash.option0.valid = false)
    (h1 : s.flash.option1.valid = false) {t : State} (ht : t = (s.optionsRead r).optionsEnd) :
    t.rst.strapCode = strapCodeOf r ∧ t.rst.strapAmbiguous = strapUnclear r ∧
    t.rst.roleBit = (if s.rst.fromPor then bitOf (strapCodeOf r) 3 else s.rst.roleBit) ∧
    t.rst.tickSourceBit = (if s.rst.fromPor then bitOf (strapCodeOf r) 0 else s.rst.tickSourceBit) ∧
    t.rst.gaps = List.replicate 10 4096 ∧ t.rst.stormLimit = 16 ∧ t.lc.mgrKeys = List.replicate 5 [] ∧
    t.pod.gmPriority = 128 ∧ (r.fuseBad = true → t.rst.holdReason = 2) ∧
    (r.fuseBad = false → s.rst.holdReason = 0 → t.rst.holdReason = bit (decide (16 < t.backup.recent))) := by
  subst ht
  obtain ⟨hrst, hkeys, hpod⟩ := optionsRead_default (r := r) h0 h1
  obtain ⟨hcode, hunclear, hrole, htick, hgaps, hlimit, hhold⟩ := (s.optionsRead r).optionsEnd_keeps
  have hlc : (s.optionsRead r).optionsEnd.lc = (s.optionsRead r).lc := changes_optionsEnd _ .lc (by decide)
  have hpods : (s.optionsRead r).optionsEnd.pod = (s.optionsRead r).pod := changes_optionsEnd _ .pod (by decide)
  rw [hcode, hunclear, hrole, htick, hgaps, hlimit, hlc, hpods, hkeys, hpod, hhold, hrst]
  refine ⟨rfl, rfl, rfl, rfl, rfl, rfl, rfl, rfl, fun hbad => ?_, fun hgood hzero => ?_⟩
  · dsimp only
    rw [hbad, if_pos rfl, if_neg (by omega)]
  · dsimp only
    rw [hgood, if_neg Bool.false_ne_true, hzero]
    by_cases h16 : 16 < (s.optionsRead r).optionsEnd.backup.recent
    · rw [if_pos ⟨by decide, h16, rfl⟩, decide_eq_true h16]
      rfl
    · rw [if_neg fun h => h16 h.2.1, decide_eq_false h16]
      rfl

theorem State.optionsEnd_afresh {s : State} {r : OptionRead} (h0 : s.flash.option0.valid = false)
    (h1 : s.flash.option1.valid = false) (hp0 : s.flash.persist0.valid = false) (hp1 : s.flash.persist1.valid = false)
    {t : State} (ht : t = (s.optionsRead r).optionsEnd) :
    t.fm.fenceState = 0 ∧ t.fm.fenceSeq = 0 ∧ t.logSeq.next = 1 ∧ t.imageIds.next = 1 ∧
    t.eventSeqs.next = 1 ∧ t.logSeq.ceiling = 65537 ∧ t.imageIds.ceiling = 65 := by
  subst ht
  obtain ⟨hfence, hseq, hlog, himage, hevent⟩ := optionsRead_afresh (r := r) h0 h1 hp0 hp1
  have hkept := optionsEnd_logSeq (s := s.optionsRead r) (by rw [hlog]; rfl)
  have hfm : (s.optionsRead r).optionsEnd.fm = (s.optionsRead r).fm := changes_optionsEnd _ .fm (by decide)
  have himages : (s.optionsRead r).optionsEnd.imageIds = _ := changes_optionsEnd _ .imageIds (by decide)
  have hevents : (s.optionsRead r).optionsEnd.eventSeqs = _ := changes_optionsEnd _ .eventSeqs (by decide)
  rw [hfm, hkept, himages, hevents, hfence, hseq, hlog, himage, hevent]
  exact ⟨rfl, rfl, rfl, rfl, rfl, rfl, rfl⟩

/-! ## The flash is not free (R86, R606, R740) -/

theorem State.exec_flashBusy {s : State} {dt : Nat} (h : (s.begin dt).flashFree = false) (r : OptionRead) (ok : Bool) :
    exec (.optionLoadingEnd dt r) s = .next (s.begin dt) ∧ exec (.persistWriteDone dt ok) s = .next (s.begin dt) ∧
    exec (.optionWriteDone dt ok) s = .next (s.begin dt) := by
  refine ⟨congrArg Host.Outcome.next (if_neg ?_), ?_, ?_⟩
  · rw [h, Bool.and_false, Bool.false_and]
    exact Bool.false_ne_true
  · show execPersistWriteDone dt ok s = _
    unfold execPersistWriteDone
    dsimp only
    split
    · rfl
    · exact congrArg Host.Outcome.next (if_pos (congrArg not h))
  · show execOptionWriteDone dt ok s = _
    unfold execOptionWriteDone
    dsimp only
    split
    · rfl
    · exact congrArg Host.Outcome.next (if_pos (congrArg not h))

/-! ## The writes of the flash (R602, R604) -/

theorem State.persistEnds_ends (s : State) (p : PersistCopy) :
    (s.persistEnds p).flash.persistNow = p ∧ (s.persistEnds p).flash.persistWriting = none := by
  unfold persistEnds Flash.persistNow
  dsimp only
  split
  · exact ⟨rfl, rfl⟩
  · exact ⟨rfl, rfl⟩

theorem Flash.persistSpoiled_keeps (f : Flash) : f.persistSpoiled.persistNow = f.persistNow ∧
    f.persistSpoiled.persistWriting = none := by
  unfold persistSpoiled persistNow
  dsimp only
  by_cases h : f.persistUsed = 0
  · rw [if_pos h, if_pos h, if_pos h]
    exact ⟨rfl, rfl⟩
  · rw [if_neg h, if_neg h, if_neg h]
    exact ⟨rfl, rfl⟩

theorem Flash.optionSpoiled_keeps (f : Flash) : f.optionSpoiled.optionNow = f.optionNow ∧
    f.optionSpoiled.optionWriting = none := by
  unfold optionSpoiled optionNow
  dsimp only
  by_cases h : f.optionUsed = 0
  · rw [if_pos h, if_pos h, if_pos h]
    exact ⟨rfl, rfl⟩
  · rw [if_neg h, if_neg h, if_neg h]
    exact ⟨rfl, rfl⟩

/-- A write of the persistent area that starts carries the next generation (R603, R604). -/
theorem State.persist_starts {s : State} (h : s.flash.persistWriting = none) :
    s.persist.flash.persistWriting = some (s.persistImage ((s.flash.persistNow.generation + 1) % 2 ^ 32)) ∧
    s.persist.flash.persistNow = s.flash.persistNow := by
  unfold persist
  rw [h]
  exact ⟨rfl, rfl⟩

theorem State.addDigest_flash (s : State) : s.addDigest.flash = s.flash :=
  State.same_of_frame .flash (addDigest_frame s) rfl

theorem State.persistOptions_starts {s : State} (h : s.flash.optionWriting = none) :
    s.persistOptions.flash.optionWriting =
      some ⟨true, (s.flash.optionNow.generation + 1) % 2 ^ 32, s.addDigest.optionEntries⟩ ∧
    s.persistOptions.flash.optionNow = s.flash.optionNow := by
  unfold persistOptions
  rw [h]
  dsimp only
  rw [addDigest_flash]
  exact ⟨rfl, rfl⟩

/-- A write of the persistent area that ends with nothing waiting for it. -/
theorem State.execPersistWriteDone_eq {s : State} {dt : Nat} {p : PersistCopy}
    (hfree : (s.begin dt).flashFree = true) (hp : s.flash.persistWriting = some p)
    (hdirty : s.flash.persistDirty = false) (hwaiting : s.log.waiting = []) (hevents : s.bar.eventsWaiting = [])
    (ok : Bool) : exec (.persistWriteDone dt ok) s = .next (if !ok then
      State.persist { s.begin dt with flash := s.flash.persistSpoiled }
      else ((s.begin dt).persistEnds p).startWaiting) := by
  have hlog (x : State) (h : x.log.waiting = []) : x.drainLog x.log.waiting.length = x := by rw [h]; rfl
  have hbar (x : State) (h : x.bar.eventsWaiting = []) : x.drainEvents x.bar.eventsWaiting.length = x := by rw [h]; rfl
  have hdirt : (s.begin dt).flash.persistDirty = false := hdirty
  have hends : ((s.begin dt).persistEnds p).log = s.log ∧ ((s.begin dt).persistEnds p).bar = s.bar := ⟨rfl, rfl⟩
  show execPersistWriteDone dt ok s = _
  unfold execPersistWriteDone
  dsimp only
  rw [show (s.begin dt).flash.persistWriting = some p from hp]
  dsimp only
  rw [hfree, hdirt, Bool.not_true, if_neg Bool.false_ne_true, if_neg Bool.false_ne_true,
    hlog _ (by rw [hends.1]; exact hwaiting), hbar _ (by rw [hends.2]; exact hevents)]
  cases ok
  · rfl
  · rfl

theorem State.execPersistWriteDone_ends {s : State} {dt : Nat} {p : PersistCopy}
    (hfree : (s.begin dt).flashFree = true) (hp : s.flash.persistWriting = some p)
    (hdirty : s.flash.persistDirty = false) (hwaiting : s.log.waiting = []) (hevents : s.bar.eventsWaiting = []) :
    (∃ x : State, exec (.persistWriteDone dt true) s = .next x.startWaiting ∧ x.flash.persistNow = p ∧
      x.flash.persistWriting = none ∧ x.logSeq = { s.logSeq with persisted := p.logCeil } ∧
      x.imageIds = { s.imageIds with persisted := p.imageCeil } ∧
      x.eventSeqs = { s.eventSeqs with persisted := p.eventCeil }) ∧
    (∃ x p', exec (.persistWriteDone dt false) s = .next x ∧ x.flash.persistWriting = some p' ∧
      p'.fenceState = s.fm.fenceState ∧ p'.generation = (s.flash.persistNow.generation + 1) % 2 ^ 32 ∧
      x.flash.persistNow = s.flash.persistNow) := by
  obtain ⟨hnow, hnone⟩ := (s.begin dt).persistEnds_ends p
  obtain ⟨hspoiled, hidle⟩ := s.flash.persistSpoiled_keeps
  have hexec := execPersistWriteDone_eq hfree hp hdirty hwaiting hevents
  refine ⟨⟨(s.begin dt).persistEnds p, hexec true, hnow, hnone, rfl, rfl, rfl⟩, ?_⟩
  obtain ⟨hstarts, hkept⟩ := persist_starts (s := { s.begin dt with flash := s.flash.persistSpoiled }) hidle
  refine ⟨_, _, hexec false, hstarts, rfl, ?_, hkept.trans hspoiled⟩
  exact congrArg (fun q : PersistCopy => (q.generation + 1) % 2 ^ 32) hspoiled

/-- The copy that was written is the one in use (R602). -/
def Flash.optionTaken (f : Flash) (c : OptionCopy) : Flash :=
  if f.optionUsed = 0 then { f with option1 := c, optionUsed := 1 } else { f with option0 := c, optionUsed := 0 }

theorem Flash.optionTaken_ends (f : Flash) (c : OptionCopy) : (f.optionTaken c).optionDirty = f.optionDirty ∧
    Flash.optionNow { f.optionTaken c with optionWriting := none } = c := by
  unfold optionTaken
  split
  · exact ⟨rfl, rfl⟩
  · exact ⟨rfl, rfl⟩

/-- The write of the option block has ended (R602, R664). -/
def State.optionEnds (s : State) (c : OptionCopy) : State :=
  State.dropDigests { s with flash := { s.flash.optionTaken c with optionWriting := none } } c

theorem State.execOptionWriteDone_eq {s : State} {dt : Nat} {c : OptionCopy}
    (hfree : (s.begin dt).flashFree = true) (hc : s.flash.optionWriting = some c)
    (hdirty : s.flash.optionDirty = false) (ok : Bool) : exec (.optionWriteDone dt ok) s = .next (if !ok then
      State.persistOptions { s.begin dt with flash := s.flash.optionSpoiled } else (s.begin dt).optionEnds c) := by
  have hclean : ¬((s.flash.optionTaken c).optionDirty = true) := by
    rw [(s.flash.optionTaken_ends c).1, hdirty]
    exact Bool.false_ne_true
  show execOptionWriteDone dt ok s = _
  unfold execOptionWriteDone
  dsimp only
  split
  · next h => exact nomatch h.symm.trans hc
  · next c' h =>
    obtain rfl : c' = c := Option.some.inj (h.symm.trans hc)
    rw [hfree, Bool.not_true, if_neg Bool.false_ne_true]
    cases ok with
    | false => rfl
    | true =>
      rw [Bool.not_true, if_neg Bool.false_ne_true, if_neg Bool.false_ne_true]
      refine congrArg Host.Outcome.next (if_neg ?_)
      exact hclean

theorem State.execOptionWriteDone_ends {s : State} {dt : Nat} {c : OptionCopy}
    (hfree : (s.begin dt).flashFree = true) (hc : s.flash.optionWriting = some c)
    (hdirty : s.flash.optionDirty = false) :
    (∃ x : State, exec (.optionWriteDone dt true) s = .next x ∧ x.flash.optionNow = c ∧
      x.flash.optionWriting = none) ∧
    (∃ x c', exec (.optionWriteDone dt false) s = .next x ∧ x.flash.optionWriting = some c' ∧
      x.flash.optionNow = s.flash.optionNow ∧
      c'.generation = (s.flash.optionNow.generation + 1) % 2 ^ 32) := by
  have hexec := execOptionWriteDone_eq hfree hc hdirty
  refine ⟨⟨_, hexec true, (s.flash.optionTaken_ends c).2, rfl⟩, ?_⟩
  obtain ⟨hspoiled, hidle⟩ := s.flash.optionSpoiled_keeps
  obtain ⟨hstarts, hkept⟩ := persistOptions_starts (s := { s.begin dt with flash := s.flash.optionSpoiled }) hidle
  refine ⟨_, _, hexec false, hstarts, hkept.trans hspoiled, ?_⟩
  exact congrArg (fun q : OptionCopy => (q.generation + 1) % 2 ^ 32) hspoiled

/-- Settles O42: D3's reading stage by stage, then the two writes. -/
theorem optionLoading : Obligations.OptionLoading := by
  unfold Obligations.OptionLoading
  refine ⟨fun dt r s hloading hlow hfree htime => ?_, fun dt r ok s h => State.exec_flashBusy h r ok,
    fun dt s p hfree hp hdirty hw he => State.execPersistWriteDone_ends hfree hp hdirty hw he,
    fun dt s c hfree hc hdirty => State.execOptionWriteDone_ends hfree hc hdirty⟩
  obtain ⟨h1, h2, h3, h4, h5, h6⟩ := ((s.begin dt).optionsRead r).optionsEnd_sets
  refine ⟨_, State.execOptionLoadingEnd_loads hloading hlow hfree htime, h1, h2, h3, h4, h5, h6, fun h0 h1 => ?_⟩
  obtain ⟨hcode, hunclear, hrole, htick, hgaps, hlimit, hkeys, hpod, hbad, hgood⟩ :=
    State.optionsEnd_default (s := s.begin dt) (r := r) h0 h1 rfl
  exact ⟨hcode, hunclear, hrole, htick, hgaps, hlimit, hkeys, hpod, hbad, hgood, fun hp0 hp1 =>
    State.optionsEnd_afresh (s := s.begin dt) (r := r) h0 h1 hp0 hp1 rfl⟩

end Sys2Proof.Machine
end

section
/-!
PROOFS. The steps of a firmware update (R657, O43).
-/
namespace Sys2Proof.Machine

/-- The standby core has booted the new slot and is shadow-ready, while its counter runs faster than the active core's
(R70, R657). -/
def standbyRunsAhead : State :=
  { State.reset with
    fw := { FwUpdate.fresh with state := 3 }
    tb := { TimeBase.fresh with
      active := { Clock.fresh with counting := true }
      standby := { Clock.fresh with rate := 2 ^ 30, counting := true } }
    hub := { Hub.fresh with
      riser := { HubCore.fresh with proc := .running, closeFrames := 8, heartbeat := 1 } }
    units := { Units.fresh with replicas := [(coreUid 1, { Replica.fresh with state := .tracking })] } }

/-- Refutes O43: FW_UPDATE_STANDBY_READY asks whether the standby is shadow-ready when its own time has passed, by which
the standby's count may have left the 0.5 ns of R70; the clause asks it of the state before. -/
theorem not_firmwareUpdate : ¬ Obligations.FirmwareUpdate := by
  intro h
  obtain ⟨-, -, -, hready, -⟩ := h
  obtain ⟨t, ht, hstate, -⟩ := hready 1000000 0 standbyRunsAhead rfl (by decide +kernel) rfl (by decide +kernel)
  obtain rfl : outState (exec (.fwUpdateStandbyReady 1000000) standbyRunsAhead) = t := congrArg outState ht
  revert hstate
  decide +kernel

end Sys2Proof.Machine
end

section
/-!
PROOFS. Ends of tap-ring transactions, and chill of a half-die (R25, R41, R48, R60, R66, R67, R273, R300, O44).
-/
namespace Sys2Proof.Machine

/-! ## A read of a tap that a requester peeks at (R41, R300) -/

/-- The transaction leaves its ring. -/
def State.ringClosed (s : State) (t : RingTxn) : State :=
  { s with units := { s.units with ring := s.units.ring.filter fun u => !(u.die = t.die && u.tag = t.tag) } }

/-- A peek of a window without secure lines ends in PEEK_DATA. -/
theorem State.ringEnds_peek {s : State} {t : RingTxn} {uid : Nat} (h : t.use = .peek uid) (hw : t.window ≠ 0x40)
    (status : Nat) (data : List Byte) : ∃ (x : State) (p : PeekData), s.ringEnds t status data [] = x ∧
      x.qu.peek = some p ∧ p.uid = uid ∧ p.status = status ∧ p.data = (if status = Rs.ok then data else []) ∧
      x.qu.peekOut = false ∧ x.units.ring = s.units.ring.filter fun u => !(u.die = t.die && u.tag = t.tag) := by
  have hcache (x : State) (c : Prop) [Decidable c] : (if c then x.cacheBindings t data else x).units = x.units := by
    split
    · exact State.same_of_frame .units (cacheBindings_frame x t data) rfl
    · rfl
  have hwindow : ¬(t.window = 0x40 ∧ ¬ t.write ∧ status = Rs.ok) := fun hc => hw hc.1
  have heq : s.ringEnds t status data [] = (if ¬ t.write ∧ status = Rs.ok then (s.ringClosed t).cacheBindings t data
      else s.ringClosed t).peekEnded t uid status data [] := by
    unfold ringEnds
    dsimp only
    rw [if_neg hwindow, h]
    rfl
  have hunits := hcache (s.ringClosed t) (¬ t.write ∧ status = Rs.ok)
  refine ⟨_, _, heq, rfl, rfl, rfl, rfl, rfl, ?_⟩
  exact congrArg Units.ring hunits

theorem State.ringAnswered_peek {s : State} {t : RingTxn} {uid : Nat} (h : t.use = .peek uid) (hw : t.window ≠ 0x40)
    (hread : t.write = false) {lines : List Nat} (hlines : securedLines t.window lines = []) (data : List Byte) :
    ∃ (x : State) (p : PeekData), s.ringAnswered t Rs.ok data lines = x ∧ x.qu.peek = some p ∧ p.uid = uid ∧
      (s.notStopped (t.die * 8 + t.tap) t.window t.slot = false → p.status = Rs.ok ∧
        p.data = s.tapData (t.die * 8 + t.tap) t.window t.offset data) ∧
      (s.notStopped (t.die * 8 + t.tap) t.window t.slot = true → p.status = Rs.notStopped ∧ p.data = []) ∧
      x.qu.peekOut = false ∧ x.units.ring = s.units.ring.filter fun u => !(u.die = t.die && u.tag = t.tag) := by
  unfold ringAnswered
  dsimp only
  cases hstop : s.notStopped (t.die * 8 + t.tap) t.window t.slot with
  | true =>
    obtain ⟨x, p, hx, hp, huid, hstatus, hdata, hout, hring⟩ := ringEnds_peek (s := s) h hw Rs.notStopped []
    rw [if_pos ⟨rfl, rfl⟩]
    exact ⟨x, p, hx, hp, huid, fun k => Bool.noConfusion k, fun _ => ⟨hstatus, hdata⟩, hout, hring⟩
  | false =>
    obtain ⟨x, p, hx, hp, huid, hstatus, hdata, hout, hring⟩ := ringEnds_peek (s := s) h hw Rs.ok
      (s.tapData (t.die * 8 + t.tap) t.window t.offset data)
    rw [if_neg fun k => Bool.false_ne_true k.2, if_pos ⟨rfl, by rw [hread]; exact Bool.false_ne_true⟩, hlines]
    exact ⟨x, p, hx, hp, huid, fun _ => ⟨hstatus, hdata⟩, fun k => Bool.noConfusion k, hout, hring⟩

/-! ## RING_RESPONSE (R60, R66, R67) -/

/-- What a response to an outstanding transaction does. -/
def State.responded (s : State) (t : RingTxn) (words lines : List Nat) : State :=
  let c := t.die * 8 + t.tap
  let status := ringStatus (words.headD 0)
  if ringFits t words && status ≠ Rs.crcError then
    s.onlyIf (status ≠ Rs.notStopped || s.notStopped c t.window t.slot) fun s =>
      let s := if status = Rs.ok then s.tapHeard c else s
      (s.ringAnswered t status (wordsLe (words.dropLast.drop 1)) lines).ringPump
  else if t.reissued then
    let s := s.modRunner t.die fun r => { r with ringCrc := inc32 r.ringCrc }
    ((s.logged Code.ringCrc (be 2 (tapUid c))).ringEnds t Rs.crcError [] []).ringPump
  else s.ringAgain t

theorem State.execRingResponse_responds {s : State} {dt die : Nat} {words lines : List Nat} {t : RingTxn}
    (h : s.ringMatch die (words.headD 0) = some t) :
    exec (.ringResponse dt die words lines) s = .next ((s.begin dt).responded t words lines) := by
  show execRingResponse dt die words lines s = _
  unfold execRingResponse
  dsimp only
  rw [show (s.begin dt).ringMatch die (words.headD 0) = some t from h]
  rfl

theorem State.responded_peek {s : State} {t : RingTxn} {words lines : List Nat} (hfits : ringFits t words = true)
    (hok : ringStatus (words.headD 0) = Rs.ok) (hheard : s.tapHealth (t.die * 8 + t.tap) ≠ 4) :
    s.responded t words lines = (s.ringAnswered t Rs.ok (wordsLe (words.dropLast.drop 1)) lines).ringPump := by
  unfold responded
  dsimp only
  rw [hfits, hok, if_pos (by decide)]
  have htap : s.tapHeard (t.die * 8 + t.tap) = s := if_neg hheard
  refine (if_pos (Bool.or_eq_true_iff.mpr (.inl rfl))).trans ?_
  dsimp only
  rw [if_pos rfl, htap]

theorem State.responded_spurious {s : State} {t : RingTxn} {words lines : List Nat} (hfits : ringFits t words = true)
    (hstatus : ringStatus (words.headD 0) = Rs.notStopped)
    (hstopped : s.notStopped (t.die * 8 + t.tap) t.window t.slot = false) : s.responded t words lines = s := by
  unfold responded
  dsimp only
  rw [hfits, hstatus, if_pos (by decide)]
  refine if_neg ?_
  rw [hstopped]
  decide

theorem State.responded_again {s : State} {t : RingTxn} {words lines : List Nat} (hfits : ringFits t words = false)
    (hfirst : t.reissued = false) : s.responded t words lines = s.ringAgain t := by
  unfold responded
  dsimp only
  rw [hfits, Bool.false_and, if_neg Bool.false_ne_true, hfirst, if_neg Bool.false_ne_true]

theorem State.responded_bad {s : State} {t : RingTxn} {words lines : List Nat} (hfits : ringFits t words = false)
    (hagain : t.reissued = true) : s.responded t words lines = (((s.modRunner t.die fun r =>
      { r with ringCrc := inc32 r.ringCrc }).logged Code.ringCrc
      (be 2 (tapUid (t.die * 8 + t.tap)))).ringEnds t Rs.crcError [] []).ringPump := by
  unfold responded
  dsimp only
  rw [hfits, Bool.false_and, if_neg Bool.false_ne_true, hagain, if_pos rfl]

theorem State.execRingResponse_stray {s : State} {dt die c : Nat} {words lines : List Nat}
    (hnone : s.ringMatch die (words.headD 0) = none) (hstray : strayOk die words = some c) (h4 : s.tapHealth c = 4) :
    exec (.ringResponse dt die words lines) s = .next ((s.begin dt).setHealth (tapUid c) 0) := by
  show execRingResponse dt die words lines s = _
  unfold execRingResponse
  dsimp only
  rw [show (s.begin dt).ringMatch die (words.headD 0) = none from hnone, hstray]
  exact congrArg Host.Outcome.next (if_pos h4)

/-! ## Chill (R25, R48, R273) -/

/-- A fold whose steps each change one tap changes the taps that it names, each once. -/
theorem State.tap_foldl {f : State → Nat → State} (hne : ∀ s c d, d ≠ c → (f s c).tap d = s.tap d) {p q : Tap → Prop}
    (hself : ∀ s c, p (s.tap c) → q ((f s c).tap c)) {l : List Nat} (hl : l.Nodup) {c : Nat} (hc : c ∈ l) (s : State)
    (hp : p (s.tap c)) : q ((l.foldl f s).tap c) := by
  have hrest (l : List Nat) (h : c ∉ l) (s : State) : (l.foldl f s).tap c = s.tap c := by
    induction l generalizing s with
    | nil => rfl
    | cons d l ih =>
      rw [List.mem_cons, not_or] at h
      exact (ih h.2 _).trans (hne s d c h.1)
  induction l generalizing s with
  | nil => exact absurd hc List.not_mem_nil
  | cons d l ih =>
    obtain ⟨hd, hl⟩ := List.nodup_cons.mp hl
    rw [List.foldl_cons]
    rcases List.mem_cons.mp hc with rfl | hc
    · rw [hrest l hd]
      exact hself s c hp
    · refine ih hl hc _ ?_
      rw [hne s d c fun h => hd (h ▸ hc)]
      exact hp

theorem State.tap_foldl_ne {f : State → Nat → State} (hne : ∀ s c d, d ≠ c → (f s c).tap d = s.tap d) {l : List Nat}
    {c : Nat} (hc : c ∉ l) (s : State) : (l.foldl f s).tap c = s.tap c := by
  induction l generalizing s with
  | nil => rfl
  | cons d l ih =>
    rw [List.mem_cons, not_or] at hc
    exact (ih hc.2 _).trans (hne s d c hc.1)

theorem State.modTap_other (s : State) {c d : Nat} (h : d ≠ c) (f : Tap → Tap) : (s.modTap c f).tap d = s.tap d :=
  Tab.at_mod_ne s.units.taps _ _ _ h

theorem halfClusters_nodup (half : Nat) : (halfClusters half).Nodup :=
  List.Nodup.map (fun a b h => by omega) List.nodup_range

/-- A cluster of a half whose cclk is gated (R25). -/
def State.gateTap (s : State) (c : Nat) : State := s.modTap c fun x => x.gate s.elapsed

theorem Tap.gate_stands {x : Tap} (h : x.inReset = false) (now : Nat) :
    (x.gate now).inReset = false ∧ (x.gate now).coreClock = 0 := by
  have hend (b : Bool) : (if b then x.endStep else x).inReset = false := by
    unfold endStep
    split_ifs
    · exact h
    · exact h
    · exact h
  unfold gate
  rw [if_neg (by rw [h]; exact Bool.false_ne_true)]
  exact ⟨hend _, rfl⟩

theorem State.gateTap_stands (s : State) (c : Nat) (h : (s.tap c).inReset = false) :
    ((s.gateTap c).tap c).coreClock = 0 := by
  obtain ⟨hreset, hclock⟩ := Tap.gate_stands h s.elapsed
  unfold gateTap
  rw [tap_modTap_running s c _ hreset]
  exact hclock

theorem State.execChillEntry_gates {s : State} {dt half : Nat} (hhalf : half < 32)
    (hwarm : s.topo.chilled.getLsbD half = false) :
    ∃ t, exec (.chillEntry dt half) s = .next t ∧ t.topo.chilled = setBit s.topo.chilled half true ∧
      (∀ c, c ∈ halfClusters half → (s.tap c).inReset = false → (t.tap c).coreClock = 0) ∧
      (∀ c, c ∉ halfClusters half → t.tap c = s.tap c) ∧ Changes [.elapsed, .emitted, .topo, .units] s t := by
  have hexec : exec (.chillEntry dt half) s =
      .next ((halfClusters half).foldl State.gateTap ((s.begin dt).setChilled half true)) :=
    congrArg Host.Outcome.next (if_pos (Bool.and_of (decide_eq_true hhalf) (congrArg not hwarm)))
  have hne (x : State) (c d : Nat) (h : d ≠ c) : (x.gateTap c).tap d = x.tap d := x.modTap_other h _
  have htopo := foldl_eq State.topo (f := State.gateTap) (fun _ _ => rfl) (halfClusters half)
    ((s.begin dt).setChilled half true)
  refine ⟨_, hexec, congrArg Topo.chilled htopo, fun c hc hreset => ?_, fun c hc => ?_, ?_⟩
  · exact tap_foldl (p := fun x => x.inReset = false) (q := fun x => x.coreClock = 0) hne gateTap_stands
      (halfClusters_nodup half) hc ((s.begin dt).setChilled half true) hreset
  · exact tap_foldl_ne hne hc ((s.begin dt).setChilled half true)
  · have hframe := execChillEntry_frame dt half s (.refl _ s) (List.Subset.refl _)
    rwa [show execChillEntry dt half s = _ from hexec] at hframe

/-- A cluster of a half at the first edges of cclk (R48, R273). -/
def State.wakeTap (s : State) (c : Nat) : State :=
  (s.modTap c fun x => x.wake s.elapsed (s.replicaPns (tapUid c))).stepFromNow c

theorem State.stepFromNow_units (s : State) (c : Nat) : (s.stepFromNow c).units = s.units :=
  State.same_of_frame .units (stepFromNow_frame s c) rfl

theorem State.wakeTap_tap (s : State) (c d : Nat) : (s.wakeTap c).tap d =
    (s.modTap c fun x => x.wake s.elapsed (s.replicaPns (tapUid c))).tap d :=
  congrArg (fun u : Units => Tab.at u.taps d Tap.fresh) (stepFromNow_units _ c)

theorem Tap.wake_runs {x : Tap} (h : x.inReset = false) (hrelease : x.latchedRelease = false) (now pns : Nat) :
    (x.wake now pns).inReset = false ∧ (x.latchedStop = false → (x.wake now pns).coreClock = ~~~x.stoppedSlots) ∧
    (x.latchedStop = true → (x.wake now pns).coreClock = (~~~x.stoppedSlots) &&& ~~~x.coreSelect) := by
  unfold wake
  rw [if_neg (by rw [h]; exact Bool.false_ne_true)]
  dsimp only
  cases hstop : x.latchedStop with
  | true =>
    rw [if_pos rfl]
    dsimp only
    rw [hrelease, Bool.not_false, if_pos rfl]
    exact ⟨h, fun k => Bool.noConfusion k, fun _ => rfl⟩
  | false =>
    rw [if_neg Bool.false_ne_true]
    dsimp only
    rw [hrelease, Bool.not_false, if_pos rfl]
    exact ⟨h, fun _ => rfl, fun k => Bool.noConfusion k⟩

theorem State.wakeTap_runs (s : State) (c : Nat) (h : (s.tap c).inReset = false)
    (hrelease : (s.tap c).latchedRelease = false) :
    ((s.tap c).latchedStop = false → ((s.wakeTap c).tap c).coreClock = ~~~(s.tap c).stoppedSlots) ∧
    ((s.tap c).latchedStop = true →
      ((s.wakeTap c).tap c).coreClock = (~~~(s.tap c).stoppedSlots) &&& ~~~(s.tap c).coreSelect) := by
  obtain ⟨hreset, hfree, hlatched⟩ := Tap.wake_runs h hrelease s.elapsed (s.replicaPns (tapUid c))
  rw [wakeTap_tap, tap_modTap_running s c _ hreset]
  exact ⟨hfree, hlatched⟩

theorem State.execChillExit_wakes {s : State} {dt half : Nat} (hhalf : half < 32)
    (hcold : s.topo.chilled.getLsbD half = true) :
    ∃ t, exec (.chillExit dt half) s = .next t ∧ t.topo.chilled = setBit s.topo.chilled half false ∧
      (∀ c, c ∈ halfClusters half → (s.tap c).inReset = false → (s.tap c).latchedStop = false →
        (s.tap c).latchedRelease = false → (t.tap c).coreClock = ~~~(s.tap c).stoppedSlots) ∧
      (∀ c, c ∈ halfClusters half → (s.tap c).inReset = false → (s.tap c).latchedStop = true →
        (s.tap c).latchedRelease = false →
        (t.tap c).coreClock = (~~~(s.tap c).stoppedSlots) &&& ~~~(s.tap c).coreSelect) ∧
      (∀ c, c ∉ halfClusters half → t.tap c = s.tap c) ∧
      Changes [.elapsed, .emitted, .topo, .units, .qu] s t := by
  have hexec : exec (.chillExit dt half) s =
      .next ((halfClusters half).foldl State.wakeTap ((s.begin dt).setChilled half false)) :=
    congrArg Host.Outcome.next (if_pos (Bool.and_of (decide_eq_true hhalf) hcold))
  have hne (x : State) (c d : Nat) (h : d ≠ c) : (x.wakeTap c).tap d = x.tap d := by
    rw [wakeTap_tap]
    exact x.modTap_other h _
  have hstep (x : State) (c : Nat) : (x.stepFromNow c).topo = x.topo :=
    State.same_of_frame .topo (stepFromNow_frame x c) rfl
  have htopo := foldl_eq State.topo (f := State.wakeTap) (fun x c => hstep _ c) (halfClusters half)
    ((s.begin dt).setChilled half false)
  refine ⟨_, hexec, congrArg Topo.chilled htopo, fun c hc hreset hstop hrelease => ?_,
    fun c hc hreset hstop hrelease => ?_, fun c hc => ?_, ?_⟩
  · refine tap_foldl (p := fun x => x = s.tap c) (q := fun x => x.coreClock = ~~~(s.tap c).stoppedSlots) hne
      (fun x d hx => ?_) (halfClusters_nodup half) hc ((s.begin dt).setChilled half false) rfl
    rw [← hx] at hreset hstop hrelease ⊢
    exact (x.wakeTap_runs d hreset hrelease).1 hstop
  · refine tap_foldl (p := fun x => x = s.tap c)
      (q := fun x => x.coreClock = (~~~(s.tap c).stoppedSlots) &&& ~~~(s.tap c).coreSelect) hne
      (fun x d hx => ?_) (halfClusters_nodup half) hc ((s.begin dt).setChilled half false) rfl
    rw [← hx] at hreset hstop hrelease ⊢
    exact (x.wakeTap_runs d hreset hrelease).2 hstop
  · exact tap_foldl_ne hne hc ((s.begin dt).setChilled half false)
  · have hframe := execChillExit_frame dt half s (.refl _ s) (List.Subset.refl _)
    rwa [show execChillExit dt half s = _ from hexec] at hframe

/-! ## The commands -/

theorem State.execRingTimeout_ends {s : State} {dt die tag : Nat} {t : RingTxn}
    (ht : ((s.ringOf die).find? fun t => t.tag = tag) = some t) (h : 50000 ≤ (s.begin dt).nsSince t.issued) :
    ∃ x : State, exec (.ringTimeout dt die tag) s = .next ((x.ringEnds t Rs.timeout [] []).ringPump) ∧
      x.tapHealth (t.die * 8 + t.tap) = 4 ∧ Changes [.elapsed, .emitted, .topo] s x := by
  refine ⟨(s.begin dt).setHealth (tapUid (t.die * 8 + t.tap)) 4, ?_, health_setHealth _ _ (by decide),
    setHealth_frame _ _ _ (begin_frame s dt (.refl _ s) (by decide)) (by decide)⟩
  show execRingTimeout dt die tag s = _
  unfold execRingTimeout
  dsimp only
  rw [show ((s.begin dt).ringOf die).find? (fun t => t.tag = tag) = some t from ht]
  exact congrArg Host.Outcome.next (if_pos (decide_eq_true h))

/-- Settles O44: a response by its form and status, the timeout, and the two commands of a half. -/
theorem ringEndsAndChill : Obligations.RingEndsAndChill := by
  unfold Obligations.RingEndsAndChill
  refine ⟨fun dt die words lines s t ht => ⟨?_, ?_, ?_, ?_⟩, fun dt die c words lines s hnone hstray h4 => ?_,
    fun dt die tag s t ht h => State.execRingTimeout_ends ht h,
    fun dt half s hhalf hwarm => State.execChillEntry_gates hhalf hwarm,
    fun dt half s hhalf hcold => State.execChillExit_wakes hhalf hcold⟩
  · intro hfits hok hread uid huse hwindow hlines hheard
    obtain ⟨x, p, hx, hp, huid, hruns, hstands, hout, hring⟩ := State.ringAnswered_peek (s := s.begin dt) huse hwindow
      hread hlines (wordsLe (words.dropLast.drop 1))
    refine ⟨x, p, ?_, hp, huid, hruns, hstands, hout, hring⟩
    rw [State.execRingResponse_responds ht, State.responded_peek (s := s.begin dt) hfits hok hheard, hx]
  · intro hfits hstatus hstopped
    rw [State.execRingResponse_responds ht, State.responded_spurious hfits hstatus hstopped]
  · intro hfits hfirst
    refine ⟨(s.begin dt).ringAgain t, ?_, rfl,
      State.ringAgain_frame _ t (State.begin_frame s dt (.refl _ s) (by decide)) (by decide)⟩
    rw [State.execRingResponse_responds ht, State.responded_again hfits hfirst]
  · intro hfits hagain
    rw [State.execRingResponse_responds ht, State.responded_bad hfits hagain]
  · refine ⟨_, State.execRingResponse_stray hnone hstray h4, fun hsorted => ?_,
      State.setHealth_frame _ _ _ (State.begin_frame s dt (.refl _ s) (by decide)) (by decide)⟩
    exact State.health_cleared (s := s.begin dt) hsorted rfl

end Sys2Proof.Machine
end

section
/-!
PROOFS. Lifecycle requests, fettling, challenges and tokens (R668–R672, R677–R680, O45).
-/
namespace Sys2Proof.Machine

/-! ## Sessions -/

/-- The first element of a key, after its replacement. -/
theorem find_key_replaced {α : Type} (key : α → Nat) {l : List α} {x y : α} {id : Nat}
    (h : l.find? (fun z => key z = id) = some x) (hy : key y = id) :
    (l.map fun z => if key z = key y then y else z).find? (fun z => key z = id) = some y := by
  induction l with
  | nil => exact nomatch h
  | cons z l ih =>
    by_cases hz : key z = id
    · rw [List.map_cons, if_pos (hz.trans hy.symm)]
      exact List.find?_cons_of_pos (decide_eq_true hy)
    · rw [List.find?_cons_of_neg (by rwa [decide_eq_true_eq])] at h
      rw [List.map_cons, if_neg (by rwa [hy]), List.find?_cons_of_neg (by rwa [decide_eq_true_eq])]
      exact ih h

theorem Port.id_of_session {p : Port} {id : Nat} {x : Session} (h : p.session id = some x) : x.id = id := by
  have hx := List.find?_some (p := fun z : Session => decide (z.id = id)) h
  exact of_decide_eq_true hx

theorem Port.session_putSession {p : Port} {id : Nat} {x y : Session} (h : p.session id = some x) (hy : y.id = x.id) :
    (p.putSession y).session id = some y :=
  find_key_replaced Session.id h (hy.trans (p.id_of_session h))

/-! ## A lifecycle request (R667–R676) -/

/-- A request whose effect closes the session, refused by its checks (R670). -/
theorem Served.thenRefuses {s s1 s2 : State} {dt idx sub code : Nat} {req : Req} {w : Way} {c : Ctx}
    (h : Served s dt req idx sub w c s1) {check : Ctx → State → State × Option Nat} (effect : Ctx → State → State)
    (hc : check c s1 = (s2, some code)) :
    (s.begin dt).serveThen req idx sub w check effect = s2.answer c code [] := by
  obtain ⟨hadmit, hcheck⟩ := h
  unfold State.serveThen
  rw [hadmit]
  dsimp only
  rw [hcheck]
  dsimp only
  rw [hc]

/-- One that passes is answered before its effect (R670). -/
theorem Served.thenDoes {s s1 s2 : State} {dt idx sub : Nat} {req : Req} {w : Way} {c : Ctx}
    (h : Served s dt req idx sub w c s1) {check : Ctx → State → State × Option Nat} (effect : Ctx → State → State)
    (hc : check c s1 = (s2, none)) :
    (s.begin dt).serveThen req idx sub w check effect = effect c (s2.answer c Abort.ok []) := by
  obtain ⟨hadmit, hcheck⟩ := h
  unfold State.serveThen
  rw [hadmit]
  dsimp only
  rw [hcheck]
  dsimp only
  rw [hc]

theorem State.execLcRequest_refuses {s s1 s2 : State} {dt code : Nat} {b : List Byte} {req : Req} {c : Ctx}
    (hs : Served s dt req 0xA001 0 .blkWrite c s1) (h : s1.lcCheck c b = (s2, some code)) :
    exec (.lcRequest dt req b) s = .next (s2.answer c code []) :=
  congrArg Host.Outcome.next (hs.thenRefuses (check := fun c s => s.lcCheck c b) (fun _ s => s.lcChange b) h)

theorem State.execLcRequest_changes {s s1 s2 : State} {dt : Nat} {b : List Byte} {req : Req} {c : Ctx}
    (hs : Served s dt req 0xA001 0 .blkWrite c s1) (h : s1.lcCheck c b = (s2, none)) :
    exec (.lcRequest dt req b) s = .next ((s2.answer c Abort.ok []).lcChange b) :=
  congrArg Host.Outcome.next (hs.thenDoes (check := fun c s => s.lcCheck c b) (fun _ s => s.lcChange b) h)

/-- What is cleared at A, before every session is closed (R670, R672, R675). -/
def State.lcCleared (s : State) (b : List Byte) : State :=
  ((((s.lcStores (fieldBe b 1 1) (slice b 28 97)).lcDump.lcBars).lcTrace).lcLog).logged Code.lcChange
    (be 1 s.lcState ++ be 1 (fieldBe b 1 1))

theorem State.lcChange_eq (s : State) (b : List Byte) : s.lcChange b =
    if fieldBe b 1 1 = 0 ∨ fieldBe b 1 1 = 3 then (s.lcCleared b).closeAll.removeJob
    else (s.lcCleared b).closeAll := rfl

theorem KeyStore.withDigest_keeps (k : KeyStore) (d : List Byte) : (k.withDigest d).lcState = k.lcState ∧
    (k.withDigest d).transitions = k.transitions ∧ (k.withDigest d).fettlePending = k.fettlePending := by
  unfold withDigest
  split
  · exact ⟨rfl, rfl, rfl⟩
  · exact ⟨rfl, rfl, rfl⟩

/-- The key stores hold the new state, and fettling is pending (R669, R672). -/
theorem State.lcStores_state (s : State) (after : Nat) (owner : List Byte) :
    (s.lcStores after owner).lc.storeA.lcState = after ∧
    (s.lcStores after owner).lc.storeA.transitions = s.lc.storeA.transitions + 1 ∧
    (s.lcStores after owner).lc.storeA.fettlePending = true := by
  have hdigest (x : State) : x.addDigest.lc.storeA.lcState = x.lc.storeA.lcState ∧
      x.addDigest.lc.storeA.transitions = x.lc.storeA.transitions ∧
      x.addDigest.lc.storeA.fettlePending = x.lc.storeA.fettlePending := by
    unfold addDigest
    split
    · exact ⟨rfl, rfl, rfl⟩
    · exact x.lc.storeA.withDigest_keeps _
  have hpersist (x : State) : x.persistOptions.lc.storeA.lcState = x.lc.storeA.lcState ∧
      x.persistOptions.lc.storeA.transitions = x.lc.storeA.transitions ∧
      x.persistOptions.lc.storeA.fettlePending = x.lc.storeA.fettlePending := by
    unfold persistOptions
    split
    · exact hdigest x
    · exact ⟨rfl, rfl, rfl⟩
  unfold lcStores
  dsimp only
  split
  · obtain ⟨hstate, hcount, hpending⟩ := hpersist _
    rw [hstate, hcount, hpending]
    exact ⟨rfl, rfl, rfl⟩
  · exact ⟨rfl, rfl, rfl⟩

/-! ### The image that is held -/

/-- No slot of the Ladle holds an image, and no shakeout runs (R363). -/
def State.ladleEmpty (s : State) : Prop := s.dump.running = none ∧ s.dump.slots = [none, none, none, none]

theorem State.overwrite_empty {s : State} (h : s.dump.slots = [none, none, none, none]) (image : Nat)
    (tiers : List Nat) : s.overwrite image tiers = s := by
  have hslot (n : Nat) : (s.dump.slot n).any (fun g => g.id = image) = false := by
    unfold Dump.slot
    rw [h]
    match n with
    | 0 => rfl
    | 1 => rfl
    | 2 => rfl
    | 3 => rfl
    | _ + 4 => rfl
  unfold overwrite
  dsimp only
  rw [List.find?_eq_none.mpr fun n _ => by rw [hslot]; exact Bool.false_ne_true]

theorem State.suspectClosed_empty {s : State} (h : s.ladleEmpty) (g : Image) : (s.suspectClosed g).ladleEmpty := by
  obtain ⟨hrun, hslots⟩ := h
  have hmarch (x : State) (hx : x.dump = s.dump) : x.marchReference.ladleEmpty := by
    unfold marchReference
    rw [overwrite_empty (by rw [hx]; exact hslots)]
    exact ⟨(congrArg Dump.running hx).trans hrun, (congrArg Dump.slots hx).trans hslots⟩
  unfold suspectClosed suspectTest startTest
  split
  · dsimp only
    split
    · exact ⟨hrun, hslots⟩
    · exact hmarch _ rfl
  · exact ⟨hrun, hslots⟩

theorem State.lcDump_empty (s : State) : s.lcDump.ladleEmpty := by
  have hcut (x : State) (g : Image) : ((x.procClosed g).expelClosed g).dump = x.dump :=
    (State.same_of_frame .dump (expelClosed_frame _ g) rfl).trans (State.same_of_frame .dump (procClosed_frame x g) rfl)
  unfold lcDump
  dsimp only
  split
  · exact ⟨rfl, rfl⟩
  · refine suspectClosed_empty ?_ _
    unfold ladleEmpty
    rw [hcut]
    exact ⟨rfl, rfl⟩

/-- What is cleared at A is empty when the sessions have been closed (R670, R672). -/
theorem State.lcCleared_empties (s : State) (b : List Byte) :
    (s.lcCleared b).closeAll.lc.storeA.lcState = fieldBe b 1 1 ∧
    (s.lcCleared b).closeAll.lc.storeA.transitions = s.lc.storeA.transitions + 1 ∧
    (s.lcCleared b).closeAll.lc.storeA.fettlePending = true ∧
    (s.lcCleared b).closeAll.bar.events = [] ∧ (s.lcCleared b).closeAll.bar.kernels = [] ∧
    (s.lcCleared b).closeAll.ladleEmpty := by
  have hend (x : State) (k : Nat) (d : List Byte) (p : Part)
      (hp : p ∉ [.emitted, .units, .qu, .trace, .dram, .tb, .frame, .backup, .flash, .logSeq, .log, .port]) :
      x.sameAt (x.lcTrace.lcLog.logged k d).closeAll p :=
    closeAll_frame _ (logged_frame _ k d (lcLog_frame _ (lcTrace_frame x (.refl _ x) (by decide)) (by decide))
      (by decide)) (by decide) p hp
  have hdump (x : State) : x.lcDump.lcBars.lc = x.lc :=
    (State.same_of_frame .lc (lcBars_frame x.lcDump) rfl).trans (State.same_of_frame .lc (lcDump_frame x) rfl)
  have hbars (x : State) : x.lcBars.dump = x.dump := State.same_of_frame .dump (lcBars_frame x) rfl
  have hempty (x : State) : x.lcBars.bar.events = [] ∧ x.lcBars.bar.kernels = [] := ⟨rfl, rfl⟩
  obtain ⟨hstate, hcount, hpending⟩ := s.lcStores_state (fieldBe b 1 1) (slice b 28 97)
  have hlc : (s.lcCleared b).closeAll.lc = (s.lcStores (fieldBe b 1 1) (slice b 28 97)).lc :=
    (hend _ _ _ .lc (by decide)).trans (hdump _)
  have hbar : (s.lcCleared b).closeAll.bar = (s.lcStores (fieldBe b 1 1) (slice b 28 97)).lcDump.lcBars.bar :=
    hend _ _ _ .bar (by decide)
  have hladle : (s.lcCleared b).closeAll.dump = (s.lcStores (fieldBe b 1 1) (slice b 28 97)).lcDump.dump :=
    (hend _ _ _ .dump (by decide)).trans (hbars _)
  obtain ⟨hevents, hkernels⟩ := hempty (s.lcStores (fieldBe b 1 1) (slice b 28 97)).lcDump
  unfold ladleEmpty
  rw [hlc, hbar, hladle]
  exact ⟨hstate, hcount, hpending, hevents, hkernels, lcDump_empty _⟩

theorem State.execLcRequest_empties {s s1 s2 : State} {dt : Nat} {b : List Byte} {req : Req} {c : Ctx}
    (hs : Served s dt req 0xA001 0 .blkWrite c s1) (h : s1.lcCheck c b = (s2, none)) :
    ∃ x : State, exec (.lcRequest dt req b) s = .next
        (if fieldBe b 1 1 = 0 ∨ fieldBe b 1 1 = 3 then x.removeJob else x) ∧
      x.port.sessions = [] ∧ x.lc.storeA.lcState = fieldBe b 1 1 ∧
      x.lc.storeA.transitions = s1.lc.storeA.transitions + 1 ∧ x.lc.storeA.fettlePending = true ∧
      x.bar.events = [] ∧ x.bar.kernels = [] ∧ x.dump.running = none ∧ x.dump.slots = [none, none, none, none] := by
  obtain ⟨hstate, hcount, hpending, hevents, hkernels, hrun, hslots⟩ := (s2.answer c Abort.ok []).lcCleared_empties b
  have hlc : (s2.answer c Abort.ok []).lc = s1.lc :=
    (State.same_of_frame .lc (answer_frame s2 c Abort.ok []) rfl).trans (lcCheck_lc h)
  refine ⟨_, (execLcRequest_changes hs h).trans (congrArg _ (lcChange_eq _ b)), closeAll_sessions _, hstate, ?_,
    hpending, hevents, hkernels, hrun, hslots⟩
  rw [hcount, hlc]

/-! ## The end of an area's fettling (R672, R674) -/

theorem State.lcFettle_due {s : State} {area : Nat} (hpending : s.lc.storeA.fettlePending = true) (harea : area < 7)
    (hleft : s.lc.fettleLeft.getLsbD area = true) (hfail : s.lc.fettleFail.getLsbD area = false) (h2 : area ≠ 2) :
    (s.lc.storeA.fettlePending && decide (area < 7) && s.lc.fettleLeft.getLsbD area &&
      !s.lc.fettleFail.getLsbD area && !(area = 2 && s.trace.fettleAfter)) = true := by
  rw [hpending, decide_eq_true harea, hleft, hfail, decide_eq_false h2]
  rfl

/-- An area that has been fettled leaves the set (R672). -/
def State.areaFettled (s : State) (area : Nat) : State :=
  { s with lc := { s.lc with fettleLeft := setBit s.lc.fettleLeft area false }
           dram := if area = 5 then [] else s.dram }

theorem State.execLcFettleDone_eq {s : State} {dt area : Nat} (hpending : s.lc.storeA.fettlePending = true)
    (harea : area < 7) (hleft : s.lc.fettleLeft.getLsbD area = true) (hfail : s.lc.fettleFail.getLsbD area = false)
    (h2 : area ≠ 2) (ok : Bool) : exec (.lcFettleDone dt area ok) s = .next (if !ok then
      State.urged { s.begin dt with lc := { s.lc with fettleFail := setBit s.lc.fettleFail area true } }
        Code.fettleFail (be 1 area)
      else if setBit s.lc.fettleLeft area false = 0 then ((s.begin dt).areaFettled area).lcFettled.startWaiting
      else (s.begin dt).areaFettled area) :=
  congrArg Host.Outcome.next (if_pos (lcFettle_due (s := s.begin dt) hpending harea hleft hfail h2))

theorem State.execLcFettleDone_ends {s : State} {dt area : Nat} (hpending : s.lc.storeA.fettlePending = true)
    (harea : area < 7) (hleft : s.lc.fettleLeft.getLsbD area = true) (hfail : s.lc.fettleFail.getLsbD area = false)
    (h2 : area ≠ 2) :
    (∃ x : State, exec (.lcFettleDone dt area false) s = .next (x.urged Code.fettleFail (be 1 area)) ∧
      x.lc = { s.lc with fettleFail := setBit s.lc.fettleFail area true }) ∧
    (setBit s.lc.fettleLeft area false ≠ 0 → ∃ t, exec (.lcFettleDone dt area true) s = .next t ∧
      t.lc = { s.lc with fettleLeft := setBit s.lc.fettleLeft area false } ∧
      (area = 5 → ∀ a, Mem.read t.dram a = 0) ∧ (area ≠ 5 → t.dram = s.dram)) ∧
    (setBit s.lc.fettleLeft area false = 0 → ∃ x : State, exec (.lcFettleDone dt area true) s =
        .next (x.logged Code.lcFettled []).startWaiting ∧ x.lc.storeA.fettlePending = false ∧ x.lc.fettle = 0) := by
  have hexec := execLcFettleDone_eq (dt := dt) hpending harea hleft hfail h2
  refine ⟨⟨_, hexec false, rfl⟩, fun hne => ?_, fun hzero => ?_⟩
  · refine ⟨_, (hexec true).trans (congrArg _ (if_neg hne)), rfl, ?_, fun h5 => if_neg h5⟩
    rintro rfl a
    rfl
  · exact ⟨_, (hexec true).trans (congrArg _ (if_pos hzero)), rfl, rfl⟩

/-! ## Challenges and tokens (R677–R680) -/

theorem State.newChallenge_value (s : State) (c : Ctx) : (s.newChallenge c).2 = s.random16 := by
  unfold newChallenge
  dsimp only
  split
  · rfl
  · rfl

theorem State.newChallenge_session {s : State} {c : Ctx} {id : Nat} (hc : c.who = .session id) {y : Session}
    (hy : s.port.session id = some y) :
    (s.newChallenge c).1.port.session id = some { y with challenge := some s.random16 } := by
  have hof : s.drawn.sessionOf c = some y := by
    unfold sessionOf
    rw [hc]
    exact hy
  unfold newChallenge
  dsimp only
  rw [hof]
  exact Port.session_putSession hy rfl

theorem State.execAuthChallenge_draws {s s1 : State} {dt : Nat} {req : Req} {c : Ctx}
    (hs : Served s dt req 0xA010 0 .read c s1) :
    ∃ x : State, exec (.authChallenge dt req) s =
        .next (x.answerFlags c (s1.pendingFlag c.who 0xA010 0) Abort.ok s1.random16) ∧
      ∀ id, c.who = .session id → ∀ y, s1.port.session id = some y →
        x.port.session id = some { y with challenge := some s1.random16 } := by
  refine ⟨(s1.newChallenge c).1, ?_, fun id hc y hy => newChallenge_session hc hy⟩
  rw [← s1.newChallenge_value c]
  exact congrArg Host.Outcome.next (hs.reads (f := fun c s => match s.newChallenge c with
    | (s, n) => ⟨s, Abort.ok, n⟩) rfl (r := ⟨(s1.newChallenge c).1, Abort.ok, (s1.newChallenge c).2⟩) rfl rfl)

theorem State.grantToken_session {s : State} {c : Ctx} {id : Nat} (hc : c.who = .session id) {y : Session}
    (hy : s.port.session id = some y) (b : List Byte) :
    ∃ x : State, s.grantToken c b =
        x.logged Code.authGranted (be 2 (fieldBe b 2 2 % 32) ++ be 8 (fieldBe b 36 8)) ∧
      x.port.session id = some { y with token := some ⟨fieldBe b 2 2 % 32, fieldBe b 36 8⟩ } := by
  have hof : s.sessionOf c = some y := by
    unfold sessionOf
    rw [hc]
    exact hy
  unfold grantToken
  dsimp only
  rw [hof]
  exact ⟨_, rfl, Port.session_putSession hy rfl⟩

theorem State.execAuthToken_answers {s s1 s2 : State} {dt : Nat} {b : List Byte} {req : Req} {c : Ctx}
    (hs : Served s dt req 0xA011 0 .blkWrite c s1) :
    (∀ code, s1.tokenCheck c b = (s2, some code) → exec (.authToken dt req b) s = .next (s2.answer c code [])) ∧
    (s1.tokenCheck c b = (s2, none) → ∀ id, c.who = .session id → ∀ y, s2.port.session id = some y →
      ∃ x : State, exec (.authToken dt req b) s = .next
          ((x.logged Code.authGranted (be 2 (fieldBe b 2 2 % 32) ++ be 8 (fieldBe b 36 8))).answer c Abort.ok []) ∧
        x.port.session id = some { y with token := some ⟨fieldBe b 2 2 % 32, fieldBe b 36 8⟩ }) := by
  have hexec (r : Reply) (hr : s1.tokenWrite c b = r) :
      exec (.authToken dt req b) s = .next (r.state.answer c r.code r.data) :=
    congrArg Host.Outcome.next (hs.answers (f := fun c s => s.tokenWrite c b) rfl hr)
  refine ⟨fun code h => ?_, fun h id hc y hy => ?_⟩
  · refine hexec ⟨s2, code, []⟩ ?_
    unfold tokenWrite
    rw [h]
  · obtain ⟨x, hx, hsession⟩ := grantToken_session hc hy b
    refine ⟨x, hexec (x.logged Code.authGranted _).accept ?_, hsession⟩
    unfold tokenWrite
    rw [h]
    exact congrArg State.accept hx

theorem State.execAuthEnded_ends {s : State} {dt id : Nat} {y : Session} {k : Token}
    (hy : s.port.session id = some y) (hk : y.token = some k) (hend : k.expiry ≤ (s.begin dt).pns) :
    ∃ x : State, exec (.authEnded dt id) s = .next (x.logged Code.authEnded (be 2 y.id ++ be 2 k.scope)) ∧
      x.port.session id = some { y with token := none } := by
  have hdue : (y.token.any fun t => decide (t.expiry ≤ (s.begin dt).pns)) = true := by
    rw [hk]
    exact decide_eq_true hend
  have htoken (x : State) : x.endToken y = x.logged Code.authEnded (be 2 y.id ++ be 2 k.scope) := by
    unfold endToken
    rw [hk]
  refine ⟨{ s.begin dt with port := s.port.putSession { y with token := none } }, ?_,
    Port.session_putSession hy rfl⟩
  show execAuthEnded dt id s = _
  unfold execAuthEnded
  dsimp only
  rw [show (s.begin dt).port.session id = some y from hy]
  exact congrArg Host.Outcome.next ((if_pos hdue).trans (htoken _))

/-- Settles O45: what A clears, the area that ends, and the session that holds a challenge or a token. -/
theorem lifecycleAndTokens : Obligations.LifecycleAndTokens := by
  unfold Obligations.LifecycleAndTokens
  exact ⟨fun dt b req s s1 s2 c hs => ⟨fun code h => State.execLcRequest_refuses hs h,
      fun h => State.execLcRequest_empties hs h⟩,
    fun dt area s hpending harea hleft hfail h2 => State.execLcFettleDone_ends hpending harea hleft hfail h2,
    fun dt req s s1 c hs => State.execAuthChallenge_draws hs,
    fun dt b req s s1 s2 c hs => State.execAuthToken_answers hs,
    fun dt id s y k hy hk hend => State.execAuthEnded_ends hy hk hend⟩

end Sys2Proof.Machine
end

section
/-!
PROOFS. WRITE and STAGE of an object, and COMMIT of a change set (R211–R218, R629, R630, R641, R643, O46, O47).
-/
namespace Sys2Proof.Machine

/-! ## Change sets (R211) -/

/-- A search finds the same among elements that keep all it looks for. -/
theorem find_filter_of_imp {α : Type} {l : List α} {p q : α → Bool} (h : ∀ x, p x = true → q x = true) :
    (l.filter q).find? p = l.find? p := by
  rw [List.find?_filter]
  congr 1
  funext x
  cases hp : p x with
  | true => exact decide_eq_true ⟨h x hp, rfl⟩
  | false => exact decide_eq_false fun hx => Bool.false_ne_true hx.2

theorem ChangeSet.find_others (l : List ChangeSet) (who : Requester) :
    (l.filter fun x => x.writer ≠ who).find? (fun x => x.writer = who) = none := by
  rw [List.find?_eq_none]
  intro x hx
  simpa using of_decide_eq_true (List.mem_filter.mp hx).2

theorem State.changeSet_putSet_self (s : State) (who : Requester) (l : List Staged) :
    (s.putSet who l).changeSet who = l := by
  unfold changeSet putSet
  dsimp only
  rw [List.find?_append, ChangeSet.find_others, Option.none_or]
  simp

theorem State.changeSet_putSet_other (s : State) {who w : Requester} (h : w ≠ who) (l : List Staged) :
    (s.putSet who l).changeSet w = s.changeSet w := by
  unfold changeSet putSet
  dsimp only
  rw [List.find?_append, find_filter_of_imp, List.find?_cons_of_neg, List.find?_nil, Option.or_none]
  · simpa using h.symm
  · intro x hx
    have hw : x.writer = w := of_decide_eq_true hx
    exact decide_eq_true (hw ▸ h)

theorem State.changeSet_dropSet (s : State) (who : Requester) : (s.dropSet who).changeSet who = [] := by
  unfold changeSet dropSet
  dsimp only
  rw [ChangeSet.find_others]
  rfl

/-! ## WRITE (R629, R630, R641) -/

/-- An object without rules of its own takes a value by its type and range (R641). -/
theorem State.wholeWrite_plain {s : State} {c : Ctx} {r : ObjRow} {sub : Nat} {v : List Byte}
    (hlow : s.ownWriteLow r sub v = none) (hhigh : s.ownWriteHigh c r.idx sub v = none) : s.wholeWrite c r sub v =
      if valueFits r sub v then (s.objWrite r sub v).accept else s.refuse Abort.valueRange := by
  unfold wholeWrite
  rw [hlow, hhigh]
  rfl

theorem State.execRegisterWrite_answers {s s1 : State} {dt idx sub off : Nat} {b : List Byte} {req : Req} {c : Ctx}
    {r : ObjRow} (hs : Served s dt req idx sub .write c s1) (hr : objRow idx sub = some r) :
    (r.rangeOk off b.length = false →
      exec (.registerWrite dt req idx sub off b) s = .next (s1.answer c Abort.badLength [])) ∧
    (r.rangeOk off b.length = true → ∀ v, s1.mergedValue c r sub off b = v → s1.ownWriteLow r sub v = none →
      s1.ownWriteHigh c r.idx sub v = none →
      (valueFits r sub v = false →
        exec (.registerWrite dt req idx sub off b) s = .next (s1.answer c Abort.valueRange [])) ∧
      (valueFits r sub v = true →
        exec (.registerWrite dt req idx sub off b) s = .next ((s1.objWrite r sub v).answer c Abort.ok []))) := by
  have hexec (a : Reply) (ha : (if !r.rangeOk off b.length then s1.refuse Abort.badLength
      else s1.wholeWrite c r sub (s1.mergedValue c r sub off b)) = a) :
      exec (.registerWrite dt req idx sub off b) s = .next (a.state.answer c a.code a.data) := by
    refine congrArg Host.Outcome.next ((hs.answers (f := fun c s => match objRow idx sub with
      | none => s.refuse Abort.objectUnknown
      | some r =>
        if !r.rangeOk off b.length then s.refuse Abort.badLength
        else s.wholeWrite c r sub (s.mergedValue c r sub off b)) rfl ?_))
    rw [hr]
    exact ha
  refine ⟨fun hrange => ?_, fun hrange v hv hlow hhigh => ⟨fun hfits => ?_, fun hfits => ?_⟩⟩
  · exact hexec (s1.refuse Abort.badLength) (if_pos (congrArg not hrange))
  · refine hexec (s1.refuse Abort.valueRange) ((if_neg (by rw [hrange]; decide)).trans ?_)
    rw [hv, wholeWrite_plain hlow hhigh, hfits, if_neg Bool.false_ne_true]
  · refine hexec (s1.objWrite r sub v).accept ((if_neg (by rw [hrange]; decide)).trans ?_)
    rw [hv, wholeWrite_plain hlow hhigh, hfits, if_pos rfl]

/-! ## STAGE (R211, R212) -/

/-- A value of an object that the set does not hold joins it. -/
theorem State.stageValue_joins {s : State} {c : Ctx} {r : ObjRow} {sub : Nat} {b : List Byte}
    (hnew : stagedCopy (s.changeSet c.who) r.idx sub = none) (hlen : b.length ≤ 2048)
    (hcount : (s.changeSet c.who).length < 1024) (hbytes : setBytes (s.changeSet c.who) + b.length ≤ 32768)
    (hfettle : s.lc.storeA.fettlePending = false) : s.stageValue c r sub b =
      if !valueFits r sub b then s.refuse Abort.valueRange
      else (s.putSet c.who (s.changeSet c.who ++ [⟨r.idx, sub, b⟩])).accept := by
  have hinto : stageInto (s.changeSet c.who) ⟨r.idx, sub, b⟩ = s.changeSet c.who ++ [⟨r.idx, sub, b⟩] := by
    unfold stageInto
    rw [hnew]
    rfl
  have hfull : ¬(1024 < (s.changeSet c.who ++ [(⟨r.idx, sub, b⟩ : Staged)]).length ∨
      32768 < setBytes (s.changeSet c.who ++ [(⟨r.idx, sub, b⟩ : Staged)])) := by
    have hsum : setBytes (s.changeSet c.who ++ [(⟨r.idx, sub, b⟩ : Staged)]) =
        setBytes (s.changeSet c.who) + b.length := by
      simp [setBytes]
    rw [hsum, List.length_append, List.length_singleton]
    omega
  have hbusy : ¬(s.lc.storeA.fettlePending = true ∧ r.idx / 4096 = 5) := fun hb => by
    rw [hfettle] at hb
    exact Bool.false_ne_true hb.1
  unfold stageValue
  dsimp only
  rw [hinto, if_neg (by omega), if_neg hfull, if_neg hbusy]

theorem State.execStage_answers {s s1 : State} {dt idx sub off : Nat} {b : List Byte} {req : Req} {c : Ctx}
    {r : ObjRow} (hs : Served s dt req idx sub .stage c s1) (hr : objRow idx sub = some r) :
    (r.rangeOk off b.length = false →
      exec (.stage dt req idx sub off b) s = .next (s1.answer c Abort.badLength [])) ∧
    (off = 0 → b.length = r.type.size → r.rangeOk off b.length = true →
      stagedCopy (s1.changeSet c.who) idx sub = none → r.idx = idx → b.length ≤ 2048 →
      (s1.changeSet c.who).length < 1024 → setBytes (s1.changeSet c.who) + b.length ≤ 32768 →
      s1.lc.storeA.fettlePending = false →
      (valueFits r sub b = false → exec (.stage dt req idx sub off b) s =
        .next (s1.answer c Abort.valueRange [])) ∧
      (valueFits r sub b = true → ∃ x : State, exec (.stage dt req idx sub off b) s =
          .next (x.answer c Abort.ok []) ∧ x.changeSet c.who = s1.changeSet c.who ++ [⟨idx, sub, b⟩] ∧
        ∀ w, w ≠ c.who → x.changeSet w = s1.changeSet w)) := by
  have hexec (a : Reply) (ha : (if !r.rangeOk off b.length then s1.refuse Abort.badLength
      else s1.stageValue c r sub (match stagedCopy (s1.changeSet c.who) idx sub with
        | some v => overlay v.bytes off b
        | none => s1.mergedValue c r sub off b)) = a) :
      exec (.stage dt req idx sub off b) s = .next (a.state.answer c a.code a.data) := by
    refine congrArg Host.Outcome.next (hs.answers (f := fun c s => match objRow idx sub with
      | none => s.refuse Abort.objectUnknown
      | some r =>
        if !r.rangeOk off b.length then s.refuse Abort.badLength
        else
          let v := match stagedCopy (s.changeSet c.who) idx sub with
            | some v => overlay v.bytes off b
            | none => s.mergedValue c r sub off b
          s.stageValue c r sub v) rfl ?_)
    rw [hr]
    exact ha
  refine ⟨fun hrange => hexec (s1.refuse Abort.badLength) (if_pos (congrArg not hrange)), ?_⟩
  rintro hoff hsize hrange hnew rfl hlen hcount hbytes hfettle
  have hvalue := stageValue_joins hnew hlen hcount hbytes hfettle
  have hwhole : s1.mergedValue c r sub off b = b := if_pos ⟨hoff, hsize⟩
  refine ⟨fun hfits => hexec (s1.refuse Abort.valueRange) ?_, fun hfits =>
    ⟨s1.putSet c.who _, hexec (s1.putSet c.who (s1.changeSet c.who ++ [⟨r.idx, sub, b⟩])).accept ?_,
      s1.changeSet_putSet_self _ _, fun w hw => s1.changeSet_putSet_other hw _⟩⟩
  · rw [hrange, Bool.not_true, if_neg Bool.false_ne_true, hnew]
    dsimp only
    rw [hwhole, hvalue, hfits, Bool.not_false, if_pos rfl]
  · rw [hrange, Bool.not_true, if_neg Bool.false_ne_true, hnew]
    dsimp only
    rw [hwhole, hvalue, hfits, Bool.not_true, if_neg Bool.false_ne_true]

/-- Settles O46: what the value's form, its own rules and its range decide. -/
theorem writeAndStage : Obligations.WriteAndStage := by
  unfold Obligations.WriteAndStage
  exact ⟨fun dt idx sub off b req s s1 c r hs hr => State.execRegisterWrite_answers hs hr,
    fun dt idx sub off b req s s1 c r hs hr => State.execStage_answers hs hr⟩

/-! ## COMMIT (R213–R218, R643) -/

theorem commitGroups_length (who : Requester) (id eligible : Nat) (notify : Bool) (l : List (List Staged)) :
    (commitGroups who id eligible notify l).length = l.length := by
  induction l with
  | nil => rfl
  | cons a l ih =>
    cases l with
    | nil => rfl
    | cons b l => exact congrArg Nat.succ ih

theorem State.execCommit_answers {s s1 : State} {dt : Nat} {ind nt : Bool} {req : Req} {c : Ctx}
    (h : (s.begin dt).admitReq req = (s1, some c)) : exec (.commit dt req ind nt) s = .next
      ((s1.commitSet c ind nt).state.answer c (s1.commitSet c ind nt).code (s1.commitSet c ind nt).data) := by
  refine congrArg Host.Outcome.next ?_
  unfold serveAny
  rw [h]

/-- The set becomes commit groups (R213, R218). -/
def State.setCommitted (s : State) (c : Ctx) (nt : Bool) : State :=
  { s.dropSet c.who with frame := { (s.dropSet c.who).frame with
      groups := s.frame.groups ++ commitGroups c.who s.frame.nextSetId s.commitEligible nt
        (splitGroups [] (s.changeSet c.who))
      nextSetId := s.frame.nextSetId + 1 } }

theorem State.setCommitted_changeSet (s : State) (c : Ctx) (nt : Bool) : (s.setCommitted c nt).changeSet c.who = [] :=
  s.changeSet_dropSet c.who

theorem State.changes_setCommitted (s : State) (c : Ctx) (nt : Bool) : Changes [.frame] s (s.setCommitted c nt) := by
  intro p hp
  cases p <;> first | rfl | exact absurd (by decide) hp

theorem State.commitSet_commits {s : State} {c : Ctx} {ind nt : Bool} (hne : splitGroups [] (s.changeSet c.who) ≠ [])
    (hind : ind = true → (splitGroups [] (s.changeSet c.who)).length ≤ 1) :
    ∃ d : List Byte, s.commitSet c ind nt = ⟨s.setCommitted c nt, Abort.ok, d⟩ := by
  have hempty : ¬((splitGroups [] (s.changeSet c.who)).isEmpty = true) := by rwa [List.isEmpty_iff]
  have hlarge : ¬(ind = true ∧ 1 < (splitGroups [] (s.changeSet c.who)).length) := fun hc => by
    have := hind hc.1
    omega
  exact ⟨_, (if_neg hempty).trans (if_neg hlarge)⟩

/-- Settles O47: no set, one group, too large when indivisible, and several groups. -/
theorem commits : Obligations.Commits := by
  unfold Obligations.Commits
  intro dt ind nt req s s1 c hadmit
  have hexec := State.execCommit_answers (ind := ind) (nt := nt) hadmit
  have hdone (hne : splitGroups [] (s1.changeSet c.who) ≠ [])
      (hind : ind = true → (splitGroups [] (s1.changeSet c.who)).length ≤ 1) : ∃ d : List Byte,
      exec (.commit dt req ind nt) s = .next ((s1.setCommitted c nt).answer c Abort.ok d) := by
    obtain ⟨d, hd⟩ := State.commitSet_commits (nt := nt) hne hind
    rw [hd] at hexec
    exact ⟨d, hexec⟩
  refine ⟨fun hnone => ?_, fun l hl => ?_, fun hmany hind => ?_, fun hmany hind => ?_⟩
  · have hset : s1.commitSet c ind nt = s1.refuse Abort.noChangeSet := if_pos (by rw [hnone]; rfl)
    rw [hexec, hset]
    rfl
  · obtain ⟨d, hd⟩ := hdone (by rw [hl]; exact List.cons_ne_nil _ _) fun _ => by rw [hl]; exact le_rfl
    refine ⟨_, d, hd, ?_, s1.setCommitted_changeSet c nt, s1.changes_setCommitted c nt⟩
    unfold State.setCommitted
    dsimp only
    rw [hl]
    rfl
  · have hset : s1.commitSet c ind nt = ⟨s1.dropSet c.who, Abort.tooLarge, []⟩ := by
      refine (if_neg ?_).trans (if_pos ⟨hind, hmany⟩)
      rw [List.isEmpty_iff]
      exact fun hc => by rw [hc] at hmany; exact absurd hmany (by decide)
    rw [hset] at hexec
    exact ⟨_, hexec, rfl, s1.changeSet_dropSet c.who⟩
  · obtain ⟨d, hd⟩ := hdone (fun hc => by rw [hc] at hmany; exact absurd hmany (by decide))
      fun hc => absurd (hind.symm.trans hc) Bool.false_ne_true
    refine ⟨_, d, hd, ?_, s1.setCommitted_changeSet c nt⟩
    unfold State.setCommitted
    dsimp only
    rw [List.length_append, commitGroups_length]

end Sys2Proof.Machine
end

section
/-!
PROOFS. Block transfers: open, data, close, resend, timeout (R644, R645, R647, O48).
-/
namespace Sys2Proof.Machine

/-! ## The transfers of the port -/

theorem Port.id_of_block {p : Port} {id : Nat} {b : Block} (h : p.block id = some b) : b.id = id := by
  have hb := List.find?_some (p := fun z : Block => decide (z.id = id)) h
  exact of_decide_eq_true hb

theorem Port.block_putBlock {p : Port} {id : Nat} {x y : Block} (h : p.block id = some x) (hy : y.id = x.id) :
    (p.putBlock y).block id = some y :=
  find_key_replaced Block.id h (hy.trans (p.id_of_block h))

theorem State.dropBlock_block (s : State) (id : Nat) : (s.dropBlock id).port.block id = none := by
  unfold dropBlock Port.block
  dsimp only
  rw [List.find?_eq_none]
  intro b hb
  simpa using of_decide_eq_true (List.mem_filter.mp hb).2

theorem State.ownBlock_block {s : State} {c : Ctx} {id : Nat} {b : Block} (h : s.ownBlock c id = some b) :
    s.port.block id = some b := (Option.filter_eq_some_iff.mp h).1

/-! ## BLK_OPEN (R644, R646, R647) -/

theorem State.openBlock_opens (s : State) (c : Ctx) (idx sub : Nat) (write : Bool) (off total : Nat)
    (bytes : List Byte) (image : Nat) : ∃ (x : State) (b : Block), s.openBlock c idx sub write off total bytes image =
        ⟨x, Abort.ok, be 2 s.newBlockId ++ zeros 2 ++ be 4 total⟩ ∧
      x.port.blocks = s.port.blocks ++ [b] ∧ b.id = s.newBlockId ∧ b.requester = c.who ∧ b.write = write ∧
      b.total = total ∧ b.offset = off ∧ b.bytes = bytes :=
  ⟨_, _, rfl, rfl, rfl, rfl, rfl, rfl, rfl, rfl⟩

/-- What BLK_OPEN does once it is admitted. -/
def State.openTransfer (s : State) (c : Ctx) (idx sub dir off len : Nat) : Reply :=
  match objRow idx sub with
  | none => s.refuse Abort.objectUnknown
  | some r =>
    if 1 < dir then s.refuse Abort.badLength
    else if dir = 1 then s.openWrite c r sub off len
    else s.openAsRead c idx sub off len

theorem State.openTransfer_write {s : State} {c : Ctx} {idx sub off len : Nat} {r : ObjRow}
    (h : objRow idx sub = some r) : s.openTransfer c idx sub 1 off len = s.openWrite c r sub off len := by
  unfold openTransfer
  rw [h]
  rfl

theorem State.openTransfer_read {s : State} {c : Ctx} {idx sub off len : Nat} {r : ObjRow}
    (h : objRow idx sub = some r) : s.openTransfer c idx sub 0 off len = s.openAsRead c idx sub off len := by
  unfold openTransfer
  rw [h]
  rfl

theorem State.execBlkOpen_write {s s1 : State} {dt idx sub off len : Nat} {req : Req} {c : Ctx} {r : ObjRow}
    (hs : Served s dt req idx sub .blkWrite c s1) (hr : objRow idx sub = some r) {a : Reply}
    (ha : s1.openWrite c r sub off len = a) :
    exec (.blkOpen dt req idx sub 1 off len) s = .next (a.state.answer c a.code a.data) :=
  congrArg Host.Outcome.next (hs.answers (f := fun c s => s.openTransfer c idx sub 1 off len) rfl
    ((openTransfer_write hr).trans ha))

theorem State.execBlkOpen_writes {s s1 : State} {dt idx sub off len : Nat} {req : Req} {c : Ctx} {r : ObjRow}
    (hs : Served s dt req idx sub .blkWrite c s1) (hr : objRow idx sub = some r)
    (hfree : idx ≠ 0xA030 ∨ s1.updating = false) (hidx : r.idx = idx) :
    (s1.transferFits c r sub off len = false →
      exec (.blkOpen dt req idx sub 1 off len) s = .next (s1.answer c Abort.badLength [])) ∧
    (s1.transferFits c r sub off len = true → s1.blockRoom c.who = false →
      exec (.blkOpen dt req idx sub 1 off len) s = .next (s1.answer c Abort.busy [])) ∧
    (s1.transferFits c r sub off len = true → s1.blockRoom c.who = true → ∃ (x : State) (b : Block),
      exec (.blkOpen dt req idx sub 1 off len) s =
        .next (x.answer c Abort.ok (be 2 s1.newBlockId ++ zeros 2 ++ be 4 len)) ∧
      x.port.blocks = s1.port.blocks ++ [b] ∧ b.id = s1.newBlockId ∧ b.requester = c.who ∧ b.write = true ∧
      b.total = len ∧ b.offset = off ∧ b.bytes = []) := by
  have hexec {a : Reply} (ha : s1.openWrite c r sub off len = a) := execBlkOpen_write hs hr ha
  have hfits (h : s1.transferFits c r sub off len = true) : s1.openWrite c r sub off len =
      if !s1.blockRoom c.who || (r.idx = 0xA030 && sub = 0 && s1.updating) then s1.refuse Abort.busy
      else s1.openBlock c r.idx sub true off len [] 0 := if_neg (by rw [h]; exact Bool.false_ne_true)
  refine ⟨fun h => hexec (a := s1.refuse Abort.badLength) (if_pos (congrArg not h)), fun h hroom => ?_,
    fun h hroom => ?_⟩
  · refine hexec (a := s1.refuse Abort.busy) ((hfits h).trans (if_pos ?_))
    rw [hroom]
    rfl
  · have hidle : (decide (r.idx = 0xA030) && decide (sub = 0) && s1.updating) = false := by
      rcases hfree with h | h
      · rw [hidx, decide_eq_false h]
        rfl
      · rw [h, Bool.and_false]
    have hopen : s1.openWrite c r sub off len = s1.openBlock c r.idx sub true off len [] 0 := by
      refine (hfits h).trans (if_neg ?_)
      rw [hroom, hidle]
      exact Bool.false_ne_true
    obtain ⟨x, b, hblock, hfields⟩ := s1.openBlock_opens c r.idx sub true off len [] 0
    exact ⟨x, b, hexec (hopen.trans hblock), hfields⟩

/-- What a read gives and does leaves the transfers of the port. -/
theorem State.openedValue_blocks (s : State) (c : Ctx) (idx sub : Nat) :
    (s.openedValue c idx sub).1.port.blocks = s.port.blocks := by
  have hchallenge (x : State) : (x.newChallenge c).1.port.blocks = x.port.blocks := by
    unfold newChallenge
    dsimp only
    split
    · rfl
    · rfl
  unfold openedValue
  dsimp only
  split
  · rfl
  · split
    · rfl
    · rfl
  · rfl
  · split
    · rfl
    · split
      · rfl
      · rfl
  · rfl
  · exact hchallenge s
  · rfl

theorem State.execBlkOpen_reads {s s1 t : State} {dt idx sub off len code : Nat} {req : Req} {c : Ctx} {r : ObjRow}
    {value : List Byte} (hs : Served s dt req idx sub .blkRead c s1) (hr : objRow idx sub = some r)
    (hvalue : s1.openedValue c idx sub = (t, code, value)) (hroom : s1.blockRoom c.who = true) :
    (code ≠ Abort.ok → exec (.blkOpen dt req idx sub 0 off len) s =
      .next ((s1.answer c code []).pumpBlock (s.begin dt).newBlockId (524320 / blkUnit + 2))) ∧
    (code = Abort.ok → off + len ≤ value.length → ∃ (x : State) (b : Block) (d : List Byte),
      exec (.blkOpen dt req idx sub 0 off len) s =
        .next ((x.answerFlags c (s1.pendingFlag c.who idx sub) Abort.ok d).pumpBlock (s.begin dt).newBlockId
          (524320 / blkUnit + 2)) ∧
      x.port.blocks = s1.port.blocks ++ [b] ∧ b.write = false ∧ b.requester = c.who ∧
      b.total = (if len = 0 then value.length - off else len) ∧ b.bytes = slice value off b.total) := by
  have hopened : s1.openTransfer c idx sub 0 off len = if code ≠ Abort.ok then s1.refuse code
      else if value.length < off + len then s1.refuse Abort.badLength
      else t.openRead c idx sub off len value := by
    rw [openTransfer_read hr]
    unfold openAsRead
    rw [hroom, hvalue]
    rfl
  have hblocks : t.port.blocks = s1.port.blocks := by
    have hkept := s1.openedValue_blocks c idx sub
    rwa [hvalue] at hkept
  have hexec (y : State) (hy : (s.begin dt).serve req idx sub .blkRead (fun c s => s.openTransfer c idx sub 0 off len) =
      y) : exec (.blkOpen dt req idx sub 0 off len) s =
      .next (y.pumpBlock (s.begin dt).newBlockId (524320 / blkUnit + 2)) :=
    congrArg Host.Outcome.next ((if_pos rfl).trans
      (congrArg (fun x : State => x.pumpBlock (s.begin dt).newBlockId (524320 / blkUnit + 2)) hy))
  refine ⟨fun hcode => ?_, fun hcode hlen => ?_⟩
  · rw [if_pos hcode] at hopened
    refine hexec _ ((State.serve_failed _ hs.1 hs.2 ?_).trans ?_)
    · rw [hopened]
      exact hcode
    · rw [hopened]
      rfl
  · rw [if_neg (not_not.mpr hcode), if_neg (by omega)] at hopened
    have hread : t.openRead c idx sub off len value = t.openBlock c idx sub false off
        (if len = 0 then value.length - off else len)
        (slice value off (if len = 0 then value.length - off else len))
        (if idx = 0x4203 && sub = 4 && decide (65536 < value.length) then t.dump.select else 0) := by
      have hsame : t.blockRoom c.who = true := by
        unfold blockRoom at hroom ⊢
        rwa [hblocks]
      exact (if_neg (by omega)).trans (if_neg (by rw [hsame]; exact Bool.false_ne_true))
    obtain ⟨x, b, hblock, hx, -, hrequester, hwrite, htotal, -, hbytes⟩ := t.openBlock_opens c idx sub false off
      (if len = 0 then value.length - off else len) (slice value off (if len = 0 then value.length - off else len))
      (if idx = 0x4203 && sub = 4 && decide (65536 < value.length) then t.dump.select else 0)
    have hreply := hopened.trans (hread.trans hblock)
    refine ⟨x, b, _, hexec _ (hs.reads (f := fun c s => s.openTransfer c idx sub 0 off len) rfl hreply rfl), ?_, hwrite,
      hrequester, htotal, ?_⟩
    · rw [hx, hblocks]
    · rw [hbytes, htotal]

/-! ## BLK_DATA (R644) -/

theorem State.execBlkData_takes {s s1 : State} {dt id off : Nat} {d : List Byte} {req : Req} {c : Ctx}
    (h : (s.begin dt).admitReq req = (s1, some c)) :
    (s1.ownBlock c id = none → exec (.blkData dt req id off d) s = .next (s1.answer c Abort.blockUnknown [])) ∧
    ∀ b, s1.ownBlock c id = some b → b.write = true →
      (b.frameOk off d.length = false →
        exec (.blkData dt req id off d) s = .next (s1.answer c Abort.badLength [])) ∧
      (b.frameOk off d.length = true → ∃ (x : State) (b' : Block), exec (.blkData dt req id off d) s =
          .next (x.answer c Abort.ok []) ∧ x.port.block id = some b' ∧ b'.bytes = placeAt b.bytes off d ∧
        off ∈ b'.done ∧ b'.lastFrame = s1.elapsed) := by
  have hexec {a : Reply} (ha : s1.takeData c id off d = a) :
      exec (.blkData dt req id off d) s = .next (a.state.answer c a.code a.data) := by
    refine congrArg Host.Outcome.next ?_
    unfold serveAny
    rw [h]
    dsimp only
    rw [ha]
  refine ⟨fun hnone => hexec (a := s1.refuse Abort.blockUnknown) ?_, fun b hb hwrite => ?_⟩
  · unfold takeData
    rw [hnone]
    rfl
  · have hown : (s1.ownBlock c id).filter Block.write = some b := by
      rw [hb]
      exact if_pos hwrite
    have htake : s1.takeData c id off d = if !b.frameOk off d.length then s1.refuse Abort.badLength
        else State.accept { s1 with port := s1.port.putBlock { b with
          bytes := placeAt b.bytes off d, lastFrame := s1.elapsed
          done := if b.done.contains off then b.done else b.done ++ [off] } } := by
      unfold takeData
      rw [hown]
    have hdone : off ∈ (if b.done.contains off then b.done else b.done ++ [off]) := by
      split
      · next hc => exact List.contains_iff_mem.mp hc
      · exact List.mem_append_right _ (List.mem_singleton.mpr rfl)
    refine ⟨fun hbad => hexec (a := s1.refuse Abort.badLength) (htake.trans (if_pos (congrArg not hbad))),
      fun hgood => ?_⟩
    have htaken := hexec (htake.trans (if_neg (by rw [hgood]; exact Bool.false_ne_true)))
    exact ⟨_, _, htaken, Port.block_putBlock (ownBlock_block hb) rfl, rfl, hdone, rfl⟩

/-! ## BLK_CLOSE (R645) -/

theorem State.execBlkClose_eq {s s1 : State} {dt id crc : Nat} {req : Req} {c : Ctx}
    (h : (s.begin dt).admitReq req = (s1, some c)) :
    exec (.blkClose dt req id crc) s = .next (s1.closeBlock c id crc) := by
  show execBlkClose dt req id crc s = _
  unfold execBlkClose
  rw [h]
  rfl

theorem State.closeBlock_own {s : State} {c : Ctx} {id crc : Nat} {b : Block} (h : s.ownBlock c id = some b) :
    s.closeBlock c id crc = if !b.matches crc then (s.dropBlock id).answer c Abort.blkCrc []
      else if b.write then (s.dropBlock id).closeWrite c b else (s.dropBlock id).answer c Abort.ok [] := by
  unfold closeBlock
  rw [h]

theorem State.closeWrite_whole {s : State} {c : Ctx} {b : Block} {r : ObjRow} (hr : objRow b.idx b.sub = some r)
    (hidx : b.idx ≠ 0xA001) (hcheck : s.objCheck c.rank b.idx b.sub .blkWrite = none) (htype : r.type = .blob)
    (hoff : b.offset = 0) : s.closeWrite c b =
      (s.wholeWrite c r b.sub b.bytes).state.answer c (s.wholeWrite c r b.sub b.bytes).code
        (s.wholeWrite c r b.sub b.bytes).data := by
  have hvalue : s.closedValue c r b = b.bytes := if_pos ⟨htype, hoff⟩
  unfold closeWrite
  rw [hr, hcheck]
  dsimp only
  rw [if_neg hidx, hvalue]

theorem State.execBlkClose_closes {s s1 : State} {dt id crc : Nat} {req : Req} {c : Ctx}
    (h : (s.begin dt).admitReq req = (s1, some c)) :
    (s1.ownBlock c id = none → exec (.blkClose dt req id crc) s = .next (s1.answer c Abort.blockUnknown [])) ∧
    ∀ b, s1.ownBlock c id = some b →
      (b.matches crc = false → exec (.blkClose dt req id crc) s =
        .next ((s1.dropBlock id).answer c Abort.blkCrc [])) ∧
      (b.matches crc = true → b.write = false → exec (.blkClose dt req id crc) s =
        .next ((s1.dropBlock id).answer c Abort.ok [])) ∧
      (b.matches crc = true → b.write = true → ∀ r, objRow b.idx b.sub = some r → b.idx ≠ 0xA001 →
        (s1.dropBlock id).objCheck c.rank b.idx b.sub .blkWrite = none → r.type = .blob → b.offset = 0 →
        exec (.blkClose dt req id crc) s =
          .next (((s1.dropBlock id).wholeWrite c r b.sub b.bytes).state.answer c
            ((s1.dropBlock id).wholeWrite c r b.sub b.bytes).code
            ((s1.dropBlock id).wholeWrite c r b.sub b.bytes).data)) := by
  rw [execBlkClose_eq h]
  refine ⟨fun hnone => ?_, fun b hb => ⟨fun hbad => ?_, fun hgood hread => ?_, fun hgood hwrite r hr hi hc ht ho => ?_⟩⟩
  · unfold closeBlock
    rw [hnone]
  · rw [closeBlock_own hb, hbad, Bool.not_false, if_pos rfl]
  · rw [closeBlock_own hb, hgood, hread, Bool.not_true, if_neg Bool.false_ne_true, if_neg Bool.false_ne_true]
  · rw [closeBlock_own hb, hgood, hwrite, Bool.not_true, if_neg Bool.false_ne_true, if_pos rfl,
      closeWrite_whole hr hi hc ht ho]

/-! ## Resends and the timeout (R644, R647) -/

theorem State.timeOutBlock_gone (s : State) (b : Block) : (s.timeOutBlock b).port.block b.id = none := by
  unfold timeOutBlock
  dsimp only
  split
  · exact s.dropBlock_block b.id
  · split
    · exact s.dropBlock_block b.id
    · exact s.dropBlock_block b.id

theorem State.execBlkTimeout_ends {s : State} {dt id : Nat} {b : Block} (hb : s.port.block id = some b)
    (h : b.lastFrame + 10000000000 * Config.stepsPerNs ≤ s.elapsed + dt) :
    ∃ t, exec (.blkTimeout dt id) s = .next t ∧ t.port.block id = none ∧ Changes [.elapsed, .emitted, .port] s t := by
  have hexec : exec (.blkTimeout dt id) s = .next ((s.begin dt).timeOutBlock b) := by
    show execBlkTimeout dt id s = _
    unfold execBlkTimeout
    dsimp only
    rw [show (s.begin dt).port.block id = some b from hb]
    exact congrArg Host.Outcome.next (if_pos (decide_eq_true h))
  refine ⟨_, hexec, ?_, timeOutBlock_frame _ b (begin_frame s dt (.refl _ s) (by decide)) (by decide)⟩
  have hgone := (s.begin dt).timeOutBlock_gone b
  rwa [Port.id_of_block hb] at hgone

theorem State.execBlkDataResend_due {s : State} {dt id q : Nat} {b : Block} {f : BlkSent}
    (hb : s.port.block id = some b) (hf : (b.sent.find? fun f => f.seq = q) = some f)
    (h : f.sentAt + 200000000 * Config.stepsPerNs ≤ s.elapsed + dt) : exec (.blkDataResend dt id q) s =
      .next (if 5 ≤ f.resends then (s.begin dt).timeOutBlock b else (s.begin dt).resendData b f) := by
  show execBlkDataResend dt id q s = _
  unfold execBlkDataResend
  dsimp only
  rw [show (s.begin dt).port.block id = some b from hb]
  dsimp only
  rw [hf]
  exact congrArg Host.Outcome.next (if_pos (decide_eq_true h))

/-- A frame that is sent again keeps its transfer, and is sealed as the session stands. -/
theorem State.resendData_sends {s : State} {b : Block} {f : BlkSent} {sid : Nat} {y : Session}
    (hb : s.port.block b.id = some b) (hr : b.requester = .session sid) (hy : s.port.session sid = some y) :
    ((s.resendData b f).port.block b.id).isSome = true ∧ (s.resendData b f).emitted = s.emitted ++
      [⟨.blkData, sid, s.sealed y 6 8 f.seq 0
        (blkPayload b.id f.offset (slice b.bytes f.offset (Nat.min blkUnit (b.total - f.offset))))⟩] := by
  have hput (z : Block) (hz : z.id = b.id) : ((s.port.putBlock z).block b.id).isSome = true := by
    rw [Port.block_putBlock hb hz]
    rfl
  unfold resendData
  rw [hr]
  dsimp only
  rw [hy]
  exact ⟨hput _ rfl, rfl⟩

theorem State.execBlkDataResend_sends {s : State} {dt id q : Nat} {b : Block} {f : BlkSent} {sid : Nat} {y : Session}
    (hb : s.port.block id = some b) (hf : (b.sent.find? fun f => f.seq = q) = some f)
    (h : f.sentAt + 200000000 * Config.stepsPerNs ≤ s.elapsed + dt) (hr : b.requester = .session sid)
    (hy : s.port.session sid = some y) :
    (f.resends < 5 → ∃ t, exec (.blkDataResend dt id q) s = .next t ∧
      (t.port.block id).isSome = true ∧ t.emitted = [⟨.blkData, sid, (s.begin dt).sealed y 6 8 q 0
        (blkPayload id f.offset (slice b.bytes f.offset (Nat.min blkUnit (b.total - f.offset))))⟩]) ∧
    (5 ≤ f.resends → ∃ t, exec (.blkDataResend dt id q) s = .next t ∧ t.port.block id = none) := by
  have hexec := execBlkDataResend_due hb hf h
  obtain rfl := Port.id_of_block hb
  obtain rfl : f.seq = q := of_decide_eq_true (List.find?_some (p := fun z : BlkSent => decide (z.seq = q)) hf)
  obtain ⟨hsome, hsent⟩ := resendData_sends (s := s.begin dt) (f := f) hb hr hy
  exact ⟨fun hfew => ⟨_, hexec.trans (congrArg _ (if_neg (by omega))), hsome, hsent⟩,
    fun hmany => ⟨_, hexec.trans (congrArg _ (if_pos hmany)), (s.begin dt).timeOutBlock_gone b⟩⟩

/-- Settles O48: the opening of a write and of a read, a frame, the close, the resend and the timeout. -/
theorem blockTransfers : Obligations.BlockTransfers := by
  unfold Obligations.BlockTransfers
  exact ⟨fun dt idx sub off len req s s1 c r hs hr hfree hidx => State.execBlkOpen_writes hs hr hfree hidx,
    fun dt idx sub off len req s s1 t c r code value hs hr hv hroom => State.execBlkOpen_reads hs hr hv hroom,
    fun dt id off d req s s1 c h => State.execBlkData_takes h,
    fun dt id crc req s s1 c h => State.execBlkClose_closes h,
    fun dt id q s b f sid y hb hf h hr hy => State.execBlkDataResend_sends hb hf h hr hy,
    fun dt id s b hb h => State.execBlkTimeout_ends hb h⟩

end Sys2Proof.Machine
end

section
/-!
PROOFS. LOG_ACK and LOG_READ (R431, R711, R712, O49).
-/
namespace Sys2Proof.Machine

/-! ## LOG_ACK (R712) -/

/-- A record that is acknowledged has bit 2 of its FLAGS set. -/
def LogRec.marked (seq : Nat) (r : LogRec) : LogRec :=
  if r.seq = seq then { r with flags := if bitOf r.flags 2 then r.flags else r.flags + 4 } else r

theorem LogRec.marked_seq (seq : Nat) (r : LogRec) : (r.marked seq).seq = r.seq := by
  unfold marked
  split
  · rfl
  · rfl

theorem LogRec.marked_other {seq : Nat} {r : LogRec} (h : r.seq ≠ seq) : r.marked seq = r := if_neg h

theorem LogRec.marked_flag {seq : Nat} {r : LogRec} (h : r.seq = seq) : bitOf (r.marked seq).flags 2 = true := by
  unfold marked
  rw [if_pos h]
  dsimp only
  split
  · next hset => exact hset
  · next hclear =>
    unfold bitOf at hclear ⊢
    rw [Nat.testBit_eq_decide_div_mod_eq, decide_eq_true_eq] at hclear ⊢
    omega

theorem State.execLogAck_answers {s s1 : State} {dt seq : Nat} {req : Req} {c : Ctx}
    (hs : Served s dt req 0x9002 0 .write c s1) :
    ((∀ r ∈ s1.log.records, ¬ (r.seq = seq ∧ r.urgent = true)) →
      exec (.logAck dt req seq) s = .next (s1.answer c Abort.recordUnknown [])) ∧
    ((∃ r ∈ s1.log.records, r.seq = seq ∧ r.urgent = true) → ∃ x : State, exec (.logAck dt req seq) s =
        .next (x.answer c Abort.ok []) ∧
      x.log.records.map LogRec.seq = s1.log.records.map LogRec.seq ∧
      (∀ r ∈ x.log.records, r.seq = seq → bitOf r.flags 2 = true) ∧
      (∀ r ∈ s1.log.records, r.seq ≠ seq → r ∈ x.log.records) ∧ Changes [.log] s1 x) := by
  have hany : (s1.log.records.any fun r => r.seq = seq && r.urgent) = true ↔
      ∃ r ∈ s1.log.records, r.seq = seq ∧ r.urgent = true := by
    simp only [List.any_eq_true, Bool.and_eq_true, decide_eq_true_eq]
  refine ⟨fun hnone => ?_, fun hsome => ?_⟩
  · have hrefused : s1.ackLog seq = s1.refuse Abort.recordUnknown := by
      refine if_neg fun h => ?_
      obtain ⟨r, hr, hseq⟩ := hany.mp h
      exact hnone r hr hseq
    exact congrArg Host.Outcome.next (hs.refuses (f := fun _ s => s.ackLog seq) rfl hrefused)
  · have hmarked : s1.ackLog seq = State.accept { s1 with log := { s1.log with
        records := s1.log.records.map (LogRec.marked seq) } } := if_pos (hany.mpr hsome)
    refine ⟨_, congrArg Host.Outcome.next (hs.accepts (f := fun _ s => s.ackLog seq) rfl hmarked), ?_, ?_, ?_, ?_⟩
    · rw [List.map_map]
      exact List.map_congr_left fun r _ => r.marked_seq seq
    · intro r hr hseq
      obtain ⟨r', -, rfl⟩ := List.mem_map.mp hr
      exact LogRec.marked_flag ((r'.marked_seq seq).symm.trans hseq)
    · intro r hr hseq
      exact List.mem_map.mpr ⟨r, hr, LogRec.marked_other hseq⟩
    · intro p hp
      cases p <;> first | rfl | exact absurd (by decide) hp

/-! ## LOG_READ (R711) -/

theorem State.openLog_opens {s : State} {c : Ctx} (h : s.blockRoom c.who = true) (v : List Byte) :
    ∃ (x : State) (b : Block), s.openRead c 0x9001 0 0 0 v =
        ⟨x, Abort.ok, be 2 s.newBlockId ++ zeros 2 ++ be 4 v.length⟩ ∧
      x.port.blocks = s.port.blocks ++ [b] ∧ b.bytes = slice v 0 v.length ∧ b.write = false ∧ b.requester = c.who := by
  obtain ⟨x, b, hblock, hx, -, hrequester, hwrite, -, -, hbytes⟩ :=
    s.openBlock_opens c 0x9001 0 false 0 v.length (slice v 0 v.length) 0
  refine ⟨x, b, ?_, hx, hbytes, hwrite, hrequester⟩
  unfold openRead
  rw [if_neg (Nat.not_lt_zero v.length), h]
  exact hblock

theorem State.openLog_busy {s : State} {c : Ctx} (h : s.blockRoom c.who = false) (v : List Byte) :
    s.openRead c 0x9001 0 0 0 v = s.refuse Abort.busy := by
  unfold openRead
  rw [if_neg (Nat.not_lt_zero v.length), h]
  rfl

/-- LOG_READ opens a transfer over the records that are read (R711). -/
theorem State.execLogRead_eq {s y : State} {dt : Nat} {req : Req}
    (h : (s.begin dt).serve req 0x9001 0 .blkRead (fun c s => s.openRead c 0x9001 0 0 0 s.logRead) = y) :
    exec (.logRead dt req) s = .next (y.pumpBlock (s.begin dt).newBlockId (524320 / blkUnit + 2)) := by
  refine congrArg Host.Outcome.next ?_
  unfold State.serveRead
  dsimp only
  rw [← h]
  congr 2

/-- Settles O49: the record that an acknowledgement marks, and the transfer that a read opens. (`logObjects` are the
rows of the dictionary.) -/
theorem logObjects_hold : Obligations.LogObjects := by
  unfold Obligations.LogObjects
  refine ⟨fun dt seq req s s1 c hs => State.execLogAck_answers hs, fun dt req s s1 c hs => ⟨fun hroom => ?_,
    fun hroom => ?_⟩⟩
  · refine State.execLogRead_eq ((State.serve_failed _ hs.1 hs.2 ?_).trans ?_)
    · rw [State.openLog_busy hroom]
      exact show Abort.busy ≠ Abort.ok by decide
    · rw [State.openLog_busy hroom]
      rfl
  · obtain ⟨x, b, hopen, hblocks, hbytes, hwrite, hrequester⟩ := State.openLog_opens hroom s1.logRead
    exact ⟨x, b, State.execLogRead_eq (hs.reads (f := fun c s => s.openRead c 0x9001 0 0 0 s.logRead) rfl hopen rfl),
      hblocks, hbytes, hwrite, hrequester⟩

end Sys2Proof.Machine
end

section
/-!
PROOFS. CLAIM, OFFER and PLCA (R615, R616, R621–R624, R626, O50).
-/
namespace Sys2Proof.Machine

/-- A CLAIM has gone out (R621, R622). -/
def State.claimed (s : State) : State :=
  let late := !s.port.claimLogged && decide (s.port.claimSince + msSteps 10000 ≤ s.elapsed)
  let t := s.drawn.emit .claim 0
    (s.drawn.frameFor 255 (prorosHeader 0xA 0 (s.freeNow % 65536) 254 0 0 16 0 ++ s.drawn.claimPayload ++ zeros 16))
  { t with port := { s.port with
    claimState := 1, claimLast := some s.elapsed, claimLogged := s.port.claimLogged || late } }

theorem State.execClaimSend_claims {s : State} {dt : Nat} (h : (s.begin dt).claimDue = true) :
    exec (.claimSend dt) s = .next (if !s.port.claimLogged &&
        decide (s.port.claimSince + msSteps 10000 ≤ s.elapsed + dt)
      then (s.begin dt).claimed.logged Code.claimUnanswered [] else (s.begin dt).claimed) :=
  congrArg Host.Outcome.next (if_pos h)

theorem State.claimed_sends (s : State) : s.claimed.port.claimState = 1 ∧ s.claimed.port.claimLast = some s.elapsed ∧
    s.claimed.emitted.length = s.emitted.length + 1 ∧ s.claimed.freeCount = s.freeCount + 1 :=
  ⟨rfl, rfl, List.length_append, rfl⟩

/-- The hub has the address of an OFFER (R623, R626). -/
def State.assigned (s : State) (node : Nat) : State :=
  { s with backup := { s.backup with nodeId := node }, port := { s.port with claimState := 2 } }

theorem State.execOfferAssign_assigns {s : State} {dt serial node count : Nat} (hup : s.endpointUp = true)
    (hserial : serial = s.fuses.serial) (hlow : 1 ≤ node) (hhigh : node ≤ 15) :
    exec (.offerAssign dt serial node count) s =
      .next (((s.begin dt).assigned node).logged Code.nodeAssigned (be 1 node)) :=
  congrArg Host.Outcome.next (if_pos (Bool.and_of (Bool.and_of (Bool.and_of hup (decide_eq_true hserial))
    (decide_eq_true hlow)) (decide_eq_true hhigh)))

theorem State.changes_assigned (s : State) (dt node : Nat) :
    Changes [.elapsed, .emitted, .backup, .port] s ((s.begin dt).assigned node) := by
  intro p hp
  cases p <;> first | rfl | exact absurd (by decide) hp

/-- Settles O50: the claim that is due, the OFFER that names the hub, and PLCA without and with the beacons. -/
theorem addressAndPlca : Obligations.AddressAndPlca := by
  unfold Obligations.AddressAndPlca
  refine ⟨fun dt s h => ?_, fun dt serial node count s hup hserial hlow hhigh => ?_, fun dt s => rfl,
    fun dt s hup => ⟨fun haddressed => ?_, fun hunaddressed => ?_⟩⟩
  · exact ⟨_, State.execClaimSend_claims h, (s.begin dt).claimed_sends⟩
  · exact ⟨_, State.execOfferAssign_assigns hup hserial hlow hhigh, rfl, rfl, s.changes_assigned dt node⟩
  · exact congrArg Host.Outcome.next (if_pos (Bool.and_of hup haddressed))
  · refine congrArg Host.Outcome.next (if_neg ?_)
    rw [show (s.begin dt).addressed = false from hunaddressed, Bool.and_false]
    exact Bool.false_ne_true

end Sys2Proof.Machine
end

section
/-!
PROOFS. Sessions and notifications (R631–R636, R650, R651, O51).
-/
namespace Sys2Proof.Machine

/-! ## A session ID that no session has (R631) -/

theorem Port.mem_of_session {p : Port} {id : Nat} (h : (p.session id).isSome = true) :
    id ∈ p.sessions.map Session.id := by
  obtain ⟨x, hx⟩ := Option.isSome_iff_exists.mp h
  exact List.mem_map.mpr ⟨x, List.mem_of_find?_eq_some hx, p.id_of_session hx⟩

/-- Unless each of its candidates is taken, the search ends on an ID that is free. -/
theorem Port.freeSession_free (p : Port) (n id : Nat) :
    p.session (p.freeSession n id) = none ∨ ∀ k, k < n → (p.session (nextBlockId^[k] id)).isSome = true := by
  induction n generalizing id with
  | zero => exact .inr fun k hk => absurd hk (Nat.not_lt_zero k)
  | succ n ih =>
    unfold freeSession
    by_cases hid : (p.session id).isSome = true
    · rw [if_pos hid]
      refine (ih (nextBlockId id)).imp_right fun hall k hk => ?_
      cases k with
      | zero => exact hid
      | succ k => exact hall k (by omega)
    · rw [if_neg hid]
      exact .inl (Option.not_isSome_iff_eq_none.mp hid)

theorem nextBlockId_eq (id : Nat) : nextBlockId id = id % 65535 + 1 := by
  unfold nextBlockId
  split
  · omega
  · rfl

theorem nextBlockId_iterate (k id : Nat) : nextBlockId^[k + 1] id = (id + k) % 65535 + 1 := by
  induction k with
  | zero => exact nextBlockId_eq id
  | succ k ih =>
    rw [Function.iterate_succ_apply', ih, nextBlockId_eq]
    omega

/-- Eight candidates in a row differ. -/
theorem nextBlockId_injOn (id : Nat) {k l : Nat} (hk : k < 8) (hl : l < 8)
    (h : nextBlockId^[k] id = nextBlockId^[l] id) : k = l := by
  cases k with
  | zero =>
    cases l with
    | zero => rfl
    | succ l =>
      rw [nextBlockId_iterate, Function.iterate_zero, id_eq] at h
      omega
  | succ k =>
    cases l with
    | zero =>
      rw [nextBlockId_iterate, Function.iterate_zero, id_eq] at h
      omega
    | succ l =>
      rw [nextBlockId_iterate, nextBlockId_iterate] at h
      omega

/-- With fewer than eight sessions, the ID of the next one is free. -/
theorem Port.freeSession_unused {p : Port} (h : p.sessions.length < 8) (id : Nat) :
    p.session (p.freeSession 8 id) = none := by
  refine (p.freeSession_free 8 id).resolve_right fun hall => ?_
  have hnodup : ((List.range 8).map fun k => nextBlockId^[k] id).Nodup :=
    List.Nodup.map_on (fun k hk l hl hkl =>
      nextBlockId_injOn id (List.mem_range.mp hk) (List.mem_range.mp hl) hkl) List.nodup_range
  have hsub : ((List.range 8).map fun k => nextBlockId^[k] id) ⊆ p.sessions.map Session.id := by
    intro x hx
    obtain ⟨k, hk, rfl⟩ := List.mem_map.mp hx
    exact Port.mem_of_session (hall k (List.mem_range.mp hk))
  have hlen := (hnodup.subperm hsub).length_le
  rw [List.length_map, List.length_range, List.length_map] at hlen
  omega

/-! ## SESSION_HELLO (R631, R632, R635) -/

theorem State.execSessionHello_takes {s : State} {dt : Nat} {hello : Hello}
    (hfits : (s.begin dt).frameFits hello.hdr = true) (hid : hello.hdr.session = 0)
    (hlen : hello.payload.length = 217) (hop : fieldBe hello.payload 0 1 = 1) :
    exec (.sessionHello dt hello) s = .next
      (if !s.helloSigned hello.payload then (s.begin dt).refuseHello hello.hdr Abort.level
      else if 8 ≤ s.port.sessions.length then (s.begin dt).refuseHello hello.hdr Abort.sessionLimit
      else (s.begin dt).openSession hello.hdr hello.payload) :=
  congrArg Host.Outcome.next ((if_pos hfits).trans ((if_neg (not_not.mpr hid)).trans
    ((if_neg (not_not.mpr hlen)).trans (if_neg (not_not.mpr hop)))))

/-- The session that a HELLO opens, before its answer takes a hub SEQUENCE (R632, R637). -/
theorem State.openSession_opens (s : State) (h : PortHdr) (p : List Byte) : ∃ (t : State) (x : Session),
    s.openSession h p = State.sendIn { t with port := { t.port with
      sessions := s.port.sessions ++ [x], nextSession := nextBlockId x.id } } .session x 0xC 0 0
      (acceptPayload p s.random16 (Config.ephemeralKey (s.freeCount + 1))) ∧ t.emitted = s.emitted ∧
    x.id = s.port.freeSession 8 s.port.nextSession ∧ x.baseLevel = s.helloLevel (fieldBe p 117 1) ∧
    x.node = h.source := ⟨s.drawn.drawn, _, rfl, rfl, rfl, rfl, rfl⟩

/-- A session at the end of a list stays there when it is replaced. -/
theorem sessions_append_replaced (l : List Session) (x y : Session) (hy : y.id = x.id) :
    (l ++ [x]).map (fun z => if z.id = y.id then y else z) = l.map (fun z => if z.id = y.id then y else z) ++ [y] := by
  rw [List.map_append, List.map_cons, if_pos hy.symm]
  rfl

theorem State.openSession_joins {s : State} (hroom : s.port.sessions.length < 8) (h : PortHdr) (p : List Byte) :
    (s.openSession h p).port.sessions.length = s.port.sessions.length + 1 ∧
    (s.openSession h p).port.sessions.getLast?.map Session.baseLevel = some (s.helloLevel (fieldBe p 117 1)) ∧
    (s.openSession h p).port.sessions.getLast?.map Session.node = some h.source ∧
    (∀ y ∈ s.port.sessions, some y.id ≠ (s.openSession h p).port.sessions.getLast?.map Session.id) ∧
    (s.openSession h p).emitted.length = s.emitted.length + 1 := by
  obtain ⟨t, x, hopen, hsent, hid, hlevel, hnode⟩ := s.openSession_opens h p
  have hlist : (s.openSession h p).port.sessions = s.port.sessions.map (fun z => if z.id = x.id then
      { x with hubSeq := (x.hubSeq + 1) % 65536 } else z) ++ [{ x with hubSeq := (x.hubSeq + 1) % 65536 }] := by
    rw [hopen]
    exact sessions_append_replaced s.port.sessions x { x with hubSeq := (x.hubSeq + 1) % 65536 } rfl
  have hemit : (s.openSession h p).emitted.length = t.emitted.length + 1 := by
    rw [hopen]
    exact List.length_append
  rw [hlist, hemit, hsent, List.getLast?_concat]
  refine ⟨?_, ?_, ?_, fun y hy heq => ?_, rfl⟩
  · rw [List.length_append, List.length_map, List.length_singleton]
  · exact congrArg some hlevel
  · exact congrArg some hnode
  · have hfree := Port.freeSession_unused hroom s.port.nextSession
    have hsame : y.id = s.port.freeSession 8 s.port.nextSession := (Option.some.inj heq).trans hid
    rw [← hsame] at hfree
    have hnone := List.find?_eq_none.mp hfree y hy
    exact hnone (decide_eq_true rfl)

/-! ## SESSION_CLOSE and SESSION_TIMEOUT (R636) -/

theorem State.closeSession_gone (s : State) (id : Nat) : (s.closeSession id).port.session id = none := by
  unfold Port.session
  rw [closeSession_sessions, List.find?_eq_none]
  intro y hy
  simpa using of_decide_eq_true (List.mem_filter.mp hy).2

theorem State.closeSession_blocks {s : State} {id : Nat} {y : Session} (h : s.port.session id = some y) :
    ∀ b ∈ (s.closeSession id).port.blocks, b.requester ≠ .session id := by
  unfold closeSession
  rw [h]
  dsimp only
  rw [endToken_port]
  intro b hb
  exact of_decide_eq_true (List.mem_filter.mp hb).2

theorem State.execSessionClose_closes {s : State} {dt id : Nat} {y : Session} (h : s.port.session id = some y)
    (byPeer : Bool) : exec (.sessionClose dt id byPeer) s = .next ((if byPeer then s.begin dt
      else (s.begin dt).sendIn .session y 0xC 0 0 (be 1 3 ++ zeros 3)).closeSession id) := by
  show execSessionClose dt id byPeer s = _
  unfold execSessionClose
  dsimp only
  rw [show (s.begin dt).port.session id = some y from h]
  rfl

theorem State.execSessionTimeout_due {s : State} {dt id : Nat} {y : Session} (h : s.port.session id = some y) :
    exec (.sessionTimeout dt id) s = .next ((s.begin dt).onlyIf
      (decide (y.lastFrame + msSteps 60000 ≤ s.elapsed + dt)) fun s => s.closeSession id) := by
  show execSessionTimeout dt id s = _
  unfold execSessionTimeout
  dsimp only
  rw [show (s.begin dt).port.session id = some y from h]
  rfl

/-! ## NOTIFY (R650, R651) -/

/-- Nothing is sent from a queue that is empty. -/
theorem State.pumpSession_empty {p : Port} {id : Nat} {x : Session} (h : p.session id = some x)
    (hqueue : x.queue = []) (s : State) (n : Nat) :
    State.pumpSession { s with port := p } id n = { s with port := p } := by
  cases n with
  | zero => rfl
  | succ n =>
    unfold pumpSession
    dsimp only
    rw [h]
    dsimp only
    rw [hqueue]

theorem State.ackData_other {s : State} {session seq : Nat} (h : ∀ b ∈ s.port.blocks, ∀ f ∈ b.sent, f.seq ≠ seq) :
    s.ackData session seq = s := by
  have hnone : s.port.blocks.find? (fun b => b.requester = .session session && b.sent.any fun f => f.seq = seq) =
      none := by
    rw [List.find?_eq_none]
    intro b hb hsent
    rw [Bool.and_eq_true, List.any_eq_true] at hsent
    obtain ⟨-, f, hf, hseq⟩ := hsent
    exact h b hb f hf (of_decide_eq_true hseq)
  unfold ackData
  rw [hnone]

theorem State.execNotifyAck_acks {s : State} {dt id seq : Nat} {y : Session} (h : s.port.session id = some y)
    (hqueue : y.queue = []) (hblocks : ∀ b ∈ s.port.blocks, ∀ f ∈ b.sent, f.seq ≠ seq) :
    ∃ t, exec (.notifyAck dt id seq) s = .next t ∧ t.port.session id = some { y with
      lastFrame := s.elapsed + dt, unacked := y.unacked.filter fun u => u.seq ≠ seq } := by
  have hput := Port.session_putSession (y := { y with
    lastFrame := s.elapsed + dt, unacked := y.unacked.filter fun u => u.seq ≠ seq }) h rfl
  refine ⟨{ s.begin dt with port := s.port.putSession { y with
    lastFrame := s.elapsed + dt, unacked := y.unacked.filter fun u => u.seq ≠ seq } }, ?_, hput⟩
  show execNotifyAck dt id seq s = _
  unfold execNotifyAck
  dsimp only
  rw [show (s.begin dt).port.session id = some y from h]
  dsimp only
  refine congrArg Host.Outcome.next ?_
  refine (congrArg (fun x : State => x.ackData id seq) (pumpSession_empty hput hqueue (s.begin dt) 8)).trans ?_
  exact ackData_other hblocks

theorem State.execNotifyResend_due {s : State} {dt id seq : Nat} {y : Session} {u : Unacked}
    (h : s.port.session id = some y) (hu : (y.unacked.find? fun u => u.seq = seq) = some u)
    (hdue : u.firstSent + msSteps (notifyDue u.sends) ≤ s.elapsed + dt) : exec (.notifyResend dt id seq) s = .next
      (if 4 ≤ u.sends ∨ u.firstSent + msSteps 800 ≤ s.elapsed + dt then
        State.pumpSession { s.begin dt with port := s.port.putSession { y with
          unacked := y.unacked.filter fun v => v.seq ≠ seq } } id 8
      else State.emit { s.begin dt with port := s.port.putSession { y with
          unacked := y.unacked.map fun v => if v.seq = seq then { v with sends := v.sends + 1 } else v } } .notify id
        ((s.begin dt).sealed { y with
          unacked := y.unacked.map fun v => if v.seq = seq then { v with sends := v.sends + 1 } else v } 8
          (8 + 16 * bit u.gap) u.seq 0 (u.record.notice (s.begin dt).readPriv))) := by
  show execNotifyResend dt id seq s = _
  unfold execNotifyResend
  dsimp only
  rw [show (s.begin dt).port.session id = some y from h]
  dsimp only
  rw [hu]
  exact congrArg Host.Outcome.next (if_pos (decide_eq_true hdue))

theorem State.execNotifyResend_sends {s : State} {dt id seq : Nat} {y : Session} {u : Unacked}
    (h : s.port.session id = some y) (hu : (y.unacked.find? fun u => u.seq = seq) = some u)
    (hdue : u.firstSent + msSteps (notifyDue u.sends) ≤ s.elapsed + dt) :
    (u.sends < 4 → s.elapsed + dt < u.firstSent + msSteps 800 → ∃ t, exec (.notifyResend dt id seq) s = .next t ∧
      t.emitted.length = 1 ∧ t.port.session id = some { y with
        unacked := y.unacked.map fun v => if v.seq = seq then { v with sends := v.sends + 1 } else v }) ∧
    (4 ≤ u.sends → y.queue = [] → ∃ t, exec (.notifyResend dt id seq) s = .next t ∧
      t.port.session id = some { y with unacked := y.unacked.filter fun v => v.seq ≠ seq }) := by
  have hexec := execNotifyResend_due h hu hdue
  refine ⟨fun hfew hsoon => ⟨_, hexec.trans (congrArg _ (if_neg (by omega))), rfl, Port.session_putSession h rfl⟩,
    fun hmany hqueue => ?_⟩
  have hput := Port.session_putSession (y := { y with unacked := y.unacked.filter fun v => v.seq ≠ seq }) h rfl
  refine ⟨_, hexec.trans (congrArg _ (if_pos (.inl hmany))), ?_⟩
  rw [pumpSession_empty hput hqueue]
  exact hput

/-- Settles O51: HELLO's refusals and the session it opens, its end, and the acknowledgement or resend of a NOTIFY. -/
theorem sessionsAndNotify : Obligations.SessionsAndNotify := by
  unfold Obligations.SessionsAndNotify
  refine ⟨fun dt hello s hfits hid hlen hop => ⟨fun hsign => ?_, fun hsign hfull => ?_, fun hsign hroom => ?_⟩,
    fun dt id s y h => ⟨State.execSessionClose_closes h true, (s.begin dt).closeSession_gone id,
      State.closeSession_blocks (s := s.begin dt) h, ⟨_, State.execSessionClose_closes h false, rfl⟩, fun hold => ?_,
      fun hnew => ?_⟩,
    fun dt id seq s y h hqueue hblocks => State.execNotifyAck_acks h hqueue hblocks,
    fun dt id seq s y u h hu hdue => State.execNotifyResend_sends h hu hdue⟩
  · rw [State.execSessionHello_takes hfits hid hlen hop, hsign, Bool.not_false, if_pos rfl]
  · rw [State.execSessionHello_takes hfits hid hlen hop, hsign, Bool.not_true, if_neg Bool.false_ne_true, if_pos hfull]
  · obtain ⟨hcount, hlevel, hnode, hfresh, hsent⟩ := State.openSession_joins (s := s.begin dt) hroom hello.hdr
      hello.payload
    refine ⟨_, ?_, hcount, hlevel, hnode, hfresh, hsent⟩
    rw [State.execSessionHello_takes hfits hid hlen hop, hsign, Bool.not_true, if_neg Bool.false_ne_true,
      if_neg (by omega)]
  · exact (State.execSessionTimeout_due h).trans (congrArg _ (if_pos (decide_eq_true hold)))
  · refine (State.execSessionTimeout_due h).trans (congrArg _ (if_neg ?_))
    rw [decide_eq_true_eq]
    omega

end Sys2Proof.Machine
end
